-- ==== Sys2Proof/Word.lean ====
section
/-!
DEFINITION. The word types of the XLB-8256 model: bytes, 64-bit register words, 128-bit Calfos slots, and
the sparse map that every table of the block is held in.
-/
namespace Sys2Proof

/-- One byte. -/
abbrev Byte := BitVec 8

/-- One 64-bit word: a register, an SRAM word, a Rootstock word (R13). -/
abbrev Word := BitVec 64

/-- One 128-bit slot of a Calfos flit (R339), or a 128-bit table entry (R105, R404). -/
abbrev Slot := BitVec 128

/-- A sparse map from numbers: keys strictly rising; a key that is not listed has the map's default. -/
abbrev SMap (α : Type) := List (Nat × α)

end Sys2Proof
end

