-- ==== Sys2Proof/Config.lean ====
section
/-!
DEFINITION. What the spec fixes for every device of stepping A0 but is a number rather than a state, and the free
values: constants with no body, for what the spec leaves open.
-/
namespace Sys2Proof

/-- A free value of up to 64 bits: the n-th value the block draws where the spec states none (assumption 3). -/
opaque Config.freeWord : Nat → Word

/-- A free byte, for bytes the spec does not state: answers of firmware, SPDM bytes, configuration-space bytes
outside chapter 10 (assumption 3). -/
opaque Config.freeByte : Nat → Byte

/-- What an implementation fixes in a word of configuration space, where the standard leaves it to the implementation and chapter 10 gives no
value: equalisation and margining words, latencies and times (assumption 20). The argument is the word's offset. -/
opaque Config.hwInit : Nat → BitVec 32

/-- Number of plots (R5). -/
def Config.plotCount : Nat := 4096

/-- Vectors in a port's MSI-X pool (R49, R54). -/
def Config.msixPool : Nat := 16384

end Sys2Proof
end

