-- ==== Sys2Proof/Syntax/Types.lean ====
section
/-!
DEFINITION. The data that commands carry: Calfos transactions (R340 to R343), PCI Express TLPs as a host port sees them
(R269), the party of an access (R506), and the outcomes that memories outside the block report.
-/
namespace Sys2Proof

/-- Who makes a register access (R506, R508): the Gardener, or host software through PF0 of a port. -/
inductive Party where
  | gardener
  | host (port : Fin 4)
  deriving DecidableEq, Repr

/-- Calfos request operations (R341). -/
inductive FabOp where
  | read | signalRead | write | atomic | hold | release | message | mgmtRead | mgmtWrite
  deriving DecidableEq, Repr

/-- A Calfos request with its route context (R340, R341). `size` is LEN, or MLEN of a Message. -/
structure FabReq where
  op : FabOp
  dest : Nat
  src : Nat
  tenant : Nat
  tag : Nat
  addr : Nat
  len : Nat
  data : List Byte := []
  ordered : Bool := false
  holdFlag : Bool := false
  poison : Bool := false
  atop : Nat := 0
  hop : Nat := 63
  mgmt : Bool := false
  code : Nat := 0
  vdh : Nat := 0
  deriving DecidableEq, Repr

/-- A Calfos response (R342). `status` is a code of R151; data is present with OK and Poisoned only. -/
structure FabResp where
  dest : Nat
  src : Nat
  tenant : Nat
  tag : Nat
  status : Nat
  data : List Byte := []
  hop : Nat := 63
  mgmt : Bool := false
  deriving DecidableEq, Repr

/-- One Calfos transaction. -/
inductive Txn where
  | req (r : FabReq)
  | resp (r : FabResp)
  deriving DecidableEq, Repr

/-- Link errors that the standard names (R276): the last five are correctable. -/
inductive LinkErr where
  | flowControl | dataLink | receiver | badTlp | badDllp | replayRollover | replayTimer
  deriving DecidableEq, Repr

/-- The kinds of request TLP that R269 tells apart; `linkError` is a link error that came in
place of a TLP (R276), `loopback` the partner's request for Loopback, or its end (R491). -/
inductive TlpKind where
  | memRead | memWrite | atomic | lockedRead | ioRequest | deferrableWrite | cfgType1
  | vendorMsg | slotPower | pmMsg | otherMsg | malformed
  | linkError (e : LinkErr)
  | loopback (on : Bool)
  deriving DecidableEq, Repr

/-- A TLP received from the host: the function it addresses, the BAR (0, 2 or 4) and the offset in it, the bytes it
accesses (an AtomicOp's operand size; 0 for a request of one DW with no byte enables), the requester's tag, and the payload; `msg` is the
Message Code of a power-management message. -/
structure Tlp where
  kind : TlpKind
  index : Fin 1024
  bar : Nat := 0
  off : Nat := 0
  len : Nat := 0
  tag : Nat := 0
  reqId : Nat := 0
  data : List Byte := []
  poisoned : Bool := false
  atop : Nat := 0
  vendor : Nat := 0
  vdh : Nat := 0
  type0 : Bool := false
  msg : Nat := 0
  deriving DecidableEq, Repr

/-- Host completion statuses. -/
inductive CplStatus where
  | sc | ur | ca
  deriving DecidableEq, Repr

/-- How a host request of the device fails (R237, FSTATUS 0x20 to 0x23). -/
inductive HostFail where
  | unsupported | abort | timeout | poisoned
  deriving DecidableEq, Repr

/-- FSTATUS of a host outcome (R237). -/
def HostFail.code : HostFail → Nat
  | .unsupported => 0x20
  | .abort => 0x21
  | .timeout => 0x22
  | .poisoned => 0x23

/-- How a read or write of configuration or plot memory ended (R43, R47, R87): answered with its data, answered with an
error or poison, or not answered in time. -/
inductive MemResult where
  | ok (data : List Byte)
  | failed (why : HostFail)
  deriving DecidableEq, Repr

/-- It brought no data. -/
def MemResult.isFailed : MemResult → Bool
  | .ok _ => false
  | .failed _ => true

/-- The rate buckets (R57, R59, R408). -/
inductive Bucket where
  | tx (plot : Fin 4096)
  | rx (plot : Fin 4096)
  | plotCap (plot : Fin 4096)
  | portCap (port : Fin 8)
  deriving DecidableEq, Repr

/-- A host read or AtomicOp that is not complete: in its plot's queue by place (0 for the head), waiting in Graft's hand for a Ledger
entry, or in the Ledger. -/
inductive ReadRef where
  | queued (plot : Fin 4096) (place : Nat)
  | held (plot : Fin 4096) (place : Nat)
  | matched (plot : Fin 4096)
  | entry (quadrant : Fin 4) (tag : Nat)
  deriving DecidableEq, Repr

/-- What a receiver finds in a step of training (R308): the physical lane and the polarity of each logical lane, the interpolator codes, and
whether decision errors would run in bursts (R310). -/
structure TrainFound where
  phys : List (Fin 8) := []
  inverted : List Bool := []
  codes : List Byte := []
  bursts : Bool := false
  deriving DecidableEq, Repr

/-- How a Rootstock read ended (R435). -/
inductive RootErr where
  | clean
  | corrected
  | uncorrectable (found : Word)
  deriving DecidableEq, Repr

/-- A structure of on-die SRAM that an uncorrectable error strikes (R31). -/
inductive Struck where
  | windowLine (plot : Fin 4096) (win : Fin 64)
  | plotEntry (plot : Fin 4096)
  | dmaContext (plot : Fin 4096) (chan : Fin 256)
  | trellisEntry (index : Fin 65536)
  | rakeSlot (plot : Fin 4096) (slot : Fin 64)
  | ledgerEntry (quadrant : Fin 4) (tag : Nat)
  | plotState (plot : Fin 4096)
  | hostReplay (port : Fin 4)
  | calfosBuffer (port : Fin 8)
  | mailboxSlot (plot : Fin 4096) (slot : Fin 16)
  | burstData (plot : Fin 4096) (chan : Fin 256) (burst : Nat)
  | trackerData (quadrant : Fin 4) (id : Nat)
  | prefetchData (quadrant : Fin 4) (place : Nat)
  | otherStaging
  | gardenerSram (core : Fin 4)
  deriving DecidableEq, Repr

/-- SRAM regions of R38. -/
inductive Region where
  | contexts | ledgers | hostReplay | calfos | staging | gardener
  deriving DecidableEq, Repr

/-- What starts a port reset (R282). -/
inductive PortDown where
  | perst | hotReset | linkDisable | linkDown
  deriving DecidableEq, Repr

/-- A mask write (R273): the Function Mask of MSI-X, the Mask bit of one entry, or the per-vector mask of MSI. -/
inductive MaskWrite where
  | function (on : Bool)
  | entry (v : Fin 2048) (on : Bool)
  | msi (mask : BitVec 32)
  deriving DecidableEq, Repr

/-- A configuration request that no command of its own covers (R263): a read of one dword, a write of a field the model holds, or a write
of any other field. `bar` and `vfBar` write one 32-bit BAR register (R267), `aerControl` the AER mask, severity and correctable mask,
`substates` the enables of L1 PM Substates (R258), `ideKey` gives a direction its key for K0 or K1, as IDE_KM does through the DOE, and `ideGo` makes a direction use it (R284). -/
inductive ConfigAccess where
  | read (dword : Fin 1024)
  | memorySpace (on : Bool)
  | numVfs (n : BitVec 16)
  | sizes (mps : Fin 3) (mrrs : Fin 6)
  | completionTimeout (value : Fin 16) (disable : Bool)
  | atomicRequester (on : Bool)
  | msiAddress (addr : Word) (data : BitVec 16) (messages : Fin 6)
  | bus (number : Byte)
  | ideStream (secure : Bool)
  | aerClear
  | bar (place : Fin 6) (value : BitVec 32)
  | vfBar (place : Fin 6) (value : BitVec 32)
  | acs (requests completions egress : Bool)
  | aerControl (mask severity correctable : BitVec 32)
  | errorReporting (correctable nonFatal fatal unsupported serr : Bool)
  | substates (enable : Fin 16)
  | ideKey (receive k1 : Bool) (key : Nat)
  | ideGo (receive k1 : Bool)
  | other
  deriving DecidableEq, Repr

/-- A firmware image slot as the boot ROM finds it (R377 to R379): the header's fields, the SHA-384 of its public key as the six words of a
KEY record, whether the signature and the payload digest verify, and the payload. -/
structure Image where
  magic : BitVec 64
  version : BitVec 32
  len : Nat
  load : Nat
  entry : Nat
  keyIndex : Nat
  keyHash : List Word
  reserved : Bool := false
  signed : Bool := true
  digest : Bool := true
  body : List Byte
  deriving DecidableEq, Repr

/-- Where a register access goes (R15, R375, R512): an offset of device register space, an address of the Gardener's private space, or an
offset of a plot page. -/
inductive RegAddr where
  | device (off : BitVec 24)
  | gardener (addr : BitVec 32)
  | page (plot : Fin 4096) (off : BitVec 16)
  deriving DecidableEq, Repr

/-- What memories outside the block answer to a register access that reaches them: the read of configuration memory of a PLT_CMD COMMIT (R66), and
the end of a Rootstock read (R435). -/
structure Outside where
  table : MemResult := .failed .timeout
  root : RootErr := .clean
  deriving DecidableEq, Repr

/-- A frame at a Calfos port: the levels 0 to 3 that the physical lanes carry, from which the port decodes it, with the level of each lane in the UI before
(R290 to R300); or as the FEC leaves it: uncorrectable, or decoded with its PHY control code, its two flits and the lanes whose symbols were corrected; or
the delimiters of a training frame in its place (R311). -/
inductive Frame where
  | lanes (before : List (Fin 4)) (levels : List (List (Fin 4)))
  | uncorrectable
  | decoded (pctl : Fin 16) (a b : List Byte) (lanes : List (Fin 8))
  | delimiters
  deriving DecidableEq, Repr

end Sys2Proof
end

