-- ==== Sys2Proof/Syntax.lean ====
section
/-!
DEFINITION. The commands of the block: one constructor per row of spec/opcode_table.json. An operand says what the command's row
leaves to whoever sends it: the port, plot or channel it acts on, a value written, what a memory outside the block answered.
-/
namespace Sys2Proof

/-- The commands of the XLB-8256. -/
inductive Instr where
  /-- REGISTER_WRITE (R11): A write to a device register that has no row of its own takes effect according to the field's access
    type and class. `wide` marks an 8-byte write; a 4-byte write carries its value in the low bits -/
  | registerWrite (who : Party) (addr : RegAddr) (wide : Bool) (value : Word) (outside : Outside)
  /-- UNALIGNED_REGISTER_ACCESS (R14): A register access that is not a naturally aligned 4- or 8-byte access ends with Completer
    Abort for a host or a bus error for the Gardener. `tag` and `reqId` are those of a host's read, `core` the Gardener's core -/
  | unalignedRegisterAccess (who : Party) (core : Fin 4) (tag : Nat) (reqId : BitVec 16)
  /-- SRAM_ECC_CORRECTED (R31): A single-bit SRAM error is corrected, the word is written back, and the region's counter is raised.
    `port` tells which host port's replay buffer, and matters for that region alone -/
  | sramEccCorrected (region : Region) (port : Fin 4)
  /-- SRAM_ECC_UNCORRECTABLE (R31): A double-bit SRAM error is flagged and captured, raises its source, and has the effect that its
    table gives for the structure struck. `off` is the byte offset of the failing word in its region -/
  | sramEccUncorrectable (struck : Struck) (off : BitVec 25)
  /-- PERGOLA_TRANSFER (R208): An egress arbiter grants a queued transaction by deficit round-robin and moves its beats to the
    egress client. -/
  | pergolaTransfer (egress : Fin 20)
  /-- REFLECTION_INGRESS (R26): A request addressed to this device enters the reflection port and is dispatched as if it had
    arrived on a Calfos port. -/
  | reflectionIngress
  /-- PGA_SAT_TIMEOUT (R209): An egress port stalled without a break for SAT_TIME sets PGA_EVENT.SAT. -/
  | pgaSatTimeout (egress : Fin 20)
  /-- HOST_TLP_RECEIVE (R269): A host port receives a TLP and decides it by the port's ordered rows. -/
  | hostTlpReceive (port : Fin 4) (tlp : Tlp) (outside : Outside)
  /-- PLOT_QUEUE_ADMIT (R58): The request at the head of a plot queue is admitted once the RATE_TX and Hedge buckets are not
    negative, and goes to Graft. -/
  | plotQueueAdmit (plot : Fin 4096)
  /-- RATE_BUCKET_REFILL (R57): A rate bucket refills at its RATE up to its depth. `micros` microseconds pass for one bucket -/
  | rateBucketRefill (bucket : Bucket) (micros : Nat)
  /-- LEDGER_ENTRY_GRANT (R132): A request waiting for a Ledger entry receives one and is allocated. -/
  | ledgerEntryGrant (quadrant : Fin 4)
  /-- HOST_TLP_TRANSMIT (R407): A host port transmits a request, completion or message after it passes the Requester ID check. -/
  | hostTlpTransmit (port : Fin 4)
  /-- HOST_COMPLETION_ARRIVAL (R157): A host completion for a device request arrives and is delivered to the block that issued the
    request. `data` is what this Completion brings of the request, in address order -/
  | hostCompletionArrival (port : Fin 4) (tag : Nat) (status : CplStatus) (poisoned : Bool) (data : List Byte)
  /-- HOST_COMPLETION_TIMEOUT (R280): A device request to the host passes the port's completion timeout without a completion. -/
  | hostCompletionTimeout (port : Fin 4) (tag : Nat)
  /-- INBOUND_WRITE_PLACED (R156): The last TLP of an inbound Write is placed on the host link and the Write is answered OK. `id`
    is the request's place in the host path -/
  | inboundWritePlaced (quadrant : Fin 4) (id : Nat)
  /-- CALFOS_FRAME_RECEIVE (R300): A receiver decodes a frame as corrected, uncorrectable or SETTLE and hands its flits to the link
    layer. -/
  | calfosFrameReceive (port : Fin 8) (frame : Frame)
  /-- INBOUND_REQUEST (R84): An inbound request reaches the plot's host path and is decided by Graft's rows before it is issued to
    the host. -/
  | inboundRequest (quadrant : Fin 4)
  /-- FABRIC_MESSAGE_IN (R120): A Calfos Message for unit 1 + n is looked up as MSG_IN and sent to the host as a vendor-defined
    message, or discarded. -/
  | fabricMessageIn (quadrant : Fin 4)
  /-- FABRIC_RESPONSE_ARRIVAL (R24): A fabric response is steered by tag to the block that issued the request. `client` is a
    Pergola port: 0 to 3 for the host paths, 12 to 15 for the DMA clusters, 16 to 18 -/
  | fabricResponseArrival (client : Fin 19)
  /-- LEDGER_ACK_TIMEOUT (R140): A write unacknowledged for ACK_TIMEOUT retires Timeout. -/
  | ledgerAckTimeout (quadrant : Fin 4) (tag : Nat)
  /-- LEDGER_BACKOFF_END (R148): A backoff interval ends and the read, native Atomic or Hold step is sent again. -/
  | ledgerBackoffEnd (quadrant : Fin 4) (tag : Nat)
  /-- READ_BUDGET_EXPIRE (R149): A read or AtomicOp reaches its completion budget and is completed with Completer Abort and
    FaultRecord 0x03. -/
  | readBudgetExpire (request : ReadRef)
  /-- WFL_CLEAR (R142): A host write of 1 to a PP_WFL bit clears that window's write-failure latch. -/
  | wflClear (plot : Fin 4096) (mask : BitVec 32)
  /-- ATOMIC_TURN_GRANT (R175): A waiting emulated AtomicOp takes its plot's turn and sends its Hold. -/
  | atomicTurnGrant (plot : Fin 4096)
  /-- WINDOW_FILL_DONE (R87): A window-table read returns and the matching entry is checked and installed, or the waiting requests
    take their outcomes. -/
  | windowFillDone (plot : Fin 4096) (inbound : Bool) (answer : MemResult)
  /-- WINDOW_FILL_TIMEOUT (R87): A fill read unanswered within 1 ms fails, and its waiting requests take the fill-failed outcome. -/
  | windowFillTimeout (plot : Fin 4096) (inbound : Bool)
  /-- WINDOW_FILL_RESUME (R87): A fill that waited because every line was pinned resumes once a line unpins. -/
  | windowFillResume (plot : Fin 4096) (inbound : Bool)
  /-- WINDOW_COMMIT (R91): GRF_WIN_CMD COMMIT starts a window commit from the writer's staging bank. -/
  | windowCommit (quadrant : Fin 4) (who : Party) (window : Fin 64) (index : Fin 1024)
  /-- WINDOW_DRAIN_COMMIT (R94): GRF_WIN_CMD DRAIN_COMMIT commits a window and opens a drain slot for the old generation. -/
  | windowDrainCommit (quadrant : Fin 4) (who : Party) (window : Fin 64) (index : Fin 1024)
  /-- WINDOW_COMMIT_READ_DONE (R91): The commit's table-half read returns and the commit checks run. -/
  | windowCommitReadDone (quadrant : Fin 4) (answer : MemResult)
  /-- WINDOW_COMMIT_BOUNDARY (R93): The commit's table write completes and the new entry takes effect at the match boundary. `ok`
    tells that the write of the table succeeded -/
  | windowCommitBoundary (quadrant : Fin 4) (ok : Bool)
  /-- DRAIN_SLOT_FREE (R101): A write of 1 to a drain slot's DONE bit frees the slot. -/
  | drainSlotFree (quadrant : Fin 4) (who : Party) (slot : Fin 16)
  /-- PREFETCH_LIFE_EXPIRE (R99): A prefetch entry that reaches LIFE is discarded with cause 0x0. `place` counts the quadrant's
    entries in the order of their fills -/
  | prefetchLifeExpire (quadrant : Fin 4) (place : Fin 64)
  /-- PREFETCH_CTRL_WRITE (R101): A write of GRF_PF_CTRL changes LIFE or PLOT_MAX and evicts entries above a lowered PLOT_MAX. -/
  | prefetchCtrlWrite (quadrant : Fin 4) (who : Party) (value : Word)
  /-- TRELLIS_CTRL_WRITE (R122): A write of TRL_CTRL enables Trellis and starts the scan, disables it, or switches EPOCH at a
    lookup boundary. -/
  | trellisCtrlWrite (who : Party) (value : Word)
  /-- TRELLIS_SCAN_DONE (R122): The enable scan ends, with bad entries written empty, and READY is set. -/
  | trellisScanDone
  /-- TRELLIS_WRITE (R123): TRL_CMD WRITE checks the staged entry and writes it at INDEX. -/
  | trellisWrite (who : Party) (index : Fin 65536)
  /-- TRELLIS_FIND (R123): TRL_CMD FIND looks up the staged key and returns the hit's index and result word. -/
  | trellisFind (who : Party) (index : Fin 65536)
  /-- TRELLIS_INVALIDATE (R123): TRL_CMD INVALIDATE writes the entry at INDEX as empty. -/
  | trellisInvalidate (who : Party) (index : Fin 65536)
  /-- TRELLIS_TABLE_WRITE (R121): A direct write to the Trellis table region takes effect only while Trellis is stopped. `high`
    selects bits 127:64 of the entry. -/
  | trellisTableWrite (who : Party) (index : Fin 65536) (high : Bool) (value : Word)
  /-- PLOT_LOAD (R54): PLT_CMD LOAD starts reading a Disabled plot's entry. -/
  | plotLoad (quadrant : Fin 4) (who : Party) (index : Fin 1024)
  /-- PLOT_COMMIT (R66): PLT_CMD COMMIT applies the staged PlotEntry fields at a request boundary. `answer` is what the read of the
    entry gave. -/
  | plotCommit (quadrant : Fin 4) (who : Party) (index : Fin 1024) (answer : MemResult)
  /-- PLOT_RESET_CMD (R67): PLT_CMD RESET resets a plot through Cloche. -/
  | plotResetCmd (quadrant : Fin 4) (who : Party) (index : Fin 1024)
  /-- PLOT_UNLOAD (R54): PLT_CMD UNLOAD resets a plot through Cloche and leaves it Disabled. -/
  | plotUnload (quadrant : Fin 4) (who : Party) (index : Fin 1024)
  /-- PLOT_WRITEBACK_CMD (R47): PLT_CMD WRITEBACK triggers a write-back of a plot's Status and Plot fields. -/
  | plotWritebackCmd (quadrant : Fin 4) (who : Party) (index : Fin 1024)
  /-- PLOT_LOAD_ENTRY_READ (R54): A load's entry read returns; the plot enters Serving or Held, or returns to Disabled. -/
  | plotLoadEntryRead (plot : Fin 4096) (answer : MemResult)
  /-- PLOT_LOAD_TIMEOUT (R54): A load read unanswered within 1 ms fails and the plot returns to Disabled. -/
  | plotLoadTimeout (plot : Fin 4096)
  /-- PLOT_TABLE_BASE_WRITE (R65): A write of PLT_TABLE_BASE places the plot table and, with AUTO, loads PF0 when VALID is written
    1. -/
  | plotTableBaseWrite (quadrant : Fin 4) (who : Party) (value : Word)
  /-- PLOT_WRITEBACK_PERIOD (R47): PLT_WB.PERIOD passes since an unwritten change and triggers a write-back. -/
  | plotWritebackPeriod (plot : Fin 4096)
  /-- PLOT_WRITEBACK_DONE (R47): A write-back's writes complete or fail, and a failure is counted in WB_FAIL. `ok` tells whether
    the write in progress succeeded. -/
  | plotWritebackDone (plot : Fin 4096) (ok : Bool)
  /-- PLOT_PAGE_COMMIT (R52): A write of PP_COMMIT.GO applies the staged plot-page fields, or reports why they were not applied. -/
  | plotPageCommit (plot : Fin 4096)
  /-- PLOT_REFETCH_DONE (R45): A refetch of a PlotEntry returns and replaces the resident entry. -/
  | plotRefetchDone (plot : Fin 4096) (answer : MemResult)
  /-- FAULT_CONS_WRITE (R63): A host write of PP_FAULT_CONS frees ring slots, lets held records be appended and re-arms FAULT_VEC.
    -/
  | faultConsWrite (plot : Fin 4096) (value : Word)
  /-- FAULT_RATE_WINDOW_END (R550): A rate-limit window ends and any carried events are reported in one record. `scope` is the
    window index, or 0 for the plot as a whole. -/
  | faultRateWindowEnd (plot : Fin 4096) (code : BitVec 8) (scope : Fin 64)
  /-- CLOCHE_STEP5 (R68): The last outstanding write retires, or A passes; remaining writes retire Reset and the latches are
    cleared. -/
  | clocheStep5 (plot : Fin 4096)
  /-- RAKE_ARM (R186): PP_RAKE_CMD ARM checks a slot's staged fields and arms it. -/
  | rakeArm (plot : Fin 4096) (slot : Fin 64)
  /-- RAKE_DISARM (R186): PP_RAKE_CMD DISARM stops sweeping one slot. -/
  | rakeDisarm (plot : Fin 4096) (slot : Fin 64)
  /-- RAKE_DISARM_ALL (R186): PP_RAKE_CMD DISARM_ALL stops sweeping every slot of the plot. `slot` is the SLOT of the command word
    -/
  | rakeDisarmAll (plot : Fin 4096) (slot : Fin 64)
  /-- RAKE_SWEEP_SEND (R188): The due batch with the earliest due time is swept by one SignalRead within the budget spacing. -/
  | rakeSweepSend
  /-- RAKE_SWEEP_TIMEOUT (R189): A SignalRead unanswered within RAK_CTRL.TIMEOUT is a failed sweep. `tag` names the SignalRead -/
  | rakeSweepTimeout (tag : Nat)
  /-- DMA_START (R222): A doorbell START loads the channel and fetches the Descriptor at HEAD. `head` is bits 63:6 of the first
    Descriptor -/
  | dmaStart (plot : Fin 4096) (chan : Fin 256) (head : BitVec 58)
  /-- DMA_KICK (R225): A doorbell KICK rereads NEXT of an Idle channel, or sets REARM of a running one. -/
  | dmaKick (plot : Fin 4096) (chan : Fin 256)
  /-- DMA_ABORT (R235): A doorbell ABORT stops new bursts and takes the channel to Aborting. -/
  | dmaAbort (plot : Fin 4096) (chan : Fin 256)
  /-- DMA_RESUME (R222): A doorbell RESUME restarts a channel Halted with CAUSE HOST at its residue point. -/
  | dmaResume (plot : Fin 4096) (chan : Fin 256)
  /-- DMA_CONTEXT_LOADED (R217): The ChannelEntry read returns and the channel's context is loaded. -/
  | dmaContextLoaded (plot : Fin 4096) (chan : Fin 256) (answer : MemResult)
  /-- DMA_CONTEXT_ADMIT (R218): A freed context goes to the next pending channel, which is loaded. -/
  | dmaContextAdmit (quadrant : Fin 4)
  /-- DMA_SLICE_EVICT (R218): A channel that has used its slice is evicted at a Descriptor boundary while others wait. -/
  | dmaSliceEvict (plot : Fin 4096) (chan : Fin 256)
  /-- DMA_DESCRIPTOR_FETCHED (R224): A Descriptor read returns and the Descriptor is checked, marked Bad or run. -/
  | dmaDescriptorFetched (plot : Fin 4096) (chan : Fin 256) (answer : MemResult)
  /-- DMA_EXTENSION_FETCHED (R248): A Descriptor extension read returns and the transform request is decided. -/
  | dmaExtensionFetched (plot : Fin 4096) (chan : Fin 256) (answer : MemResult)
  /-- DMA_BURST_ISSUE (R230): The scheduler issues one burst read from the highest-priority ready channel. -/
  | dmaBurstIssue (quadrant : Fin 4)
  /-- DMA_BURST_READ_DONE (R229): A burst's read data is whole in the burst buffer and its writes are issued in order. -/
  | dmaBurstReadDone (plot : Fin 4096) (chan : Fin 256)
  /-- DMA_BURST_WRITE_DONE (R229): A burst's write retires, OK or failed. -/
  | dmaBurstWriteDone (plot : Fin 4096) (chan : Fin 256)
  /-- DMA_BAD_PROCEDURE (R233): After its issued bursts have retired, a failed Descriptor is marked Bad with its residue and
    records. -/
  | dmaBadProcedure (plot : Fin 4096) (chan : Fin 256)
  /-- DMA_NEXT_REREAD_DONE (R225): The end-of-chain reread of NEXT returns and the channel continues or goes Idle. -/
  | dmaNextRereadDone (plot : Fin 4096) (chan : Fin 256) (answer : MemResult)
  /-- DMA_STALL_RELEASE (R238): A Stalled channel appends its held record once the queue has room. -/
  | dmaStallRelease (plot : Fin 4096) (queue : Fin 16)
  /-- CQ_HEAD_WRITE (R240): A host write of PP_CQ_HEAD frees queue slots and re-arms the queue's vector. -/
  | cqHeadWrite (plot : Fin 4096) (queue : Fin 16) (value : Word)
  /-- DMA_HALT_COMPLETE (R222): A Halting channel's issued bursts retire and it becomes Halted. -/
  | dmaHaltComplete (plot : Fin 4096) (chan : Fin 256)
  /-- DMA_ABORT_COMPLETE (R235): An Aborting channel's issued bursts retire; it writes an ABORTED record and goes Idle. -/
  | dmaAbortComplete (plot : Fin 4096) (chan : Fin 256)
  /-- PERST_RISE (R262): PERST_L rises and the port starts its configuration-ready sequence, or the device wakes from Dormant. -/
  | perstRise (port : Fin 4)
  /-- PORT_RESET (R282): PERST_L low, Hot Reset, Link Disable or Data Link down resets the port, and every plot of the port goes to
    Disabled. -/
  | portReset (port : Fin 4) (why : PortDown)
  /-- PORT_CONFIG_READY (R262): The port becomes configuration-ready with the bed values or the boot defaults. -/
  | portConfigReady (port : Fin 4)
  /-- HOST_LINK_UP (R258): A host link trains and its Data Link Layer comes up. `speed` and `width` as HPT_CTRL encodes them. -/
  | hostLinkUp (port : Fin 4) (speed : Fin 8) (width : Fin 5) (flit : Bool)
  /-- VF_ENABLE_SET (R265): Setting VF Enable enables min(NumVFs, TotalVFs) VFs and, with AUTO, loads their plots. -/
  | vfEnableSet (port : Fin 4)
  /-- VF_ENABLE_CLEAR (R67): Clearing VF Enable resets every VF plot of the port through Cloche. -/
  | vfEnableClear (port : Fin 4)
  /-- BUS_MASTER_ENABLE_CHANGE (R277): A change of a function's Bus Master Enable moves its plot between Serving and Held. -/
  | busMasterEnableChange (plot : Fin 4096) (on : Bool)
  /-- FUNCTION_LEVEL_RESET (R279): A configuration write with Initiate Function Level Reset resets the function and its plot. -/
  | functionLevelReset (plot : Fin 4096)
  /-- POWER_STATE_CHANGE (R278): Entry into D3hot treats the function as Bus Master Enable 0, and return to D0 restores it. -/
  | powerStateChange (plot : Fin 4096) (d3hot : Bool)
  /-- INTERRUPT_MECHANISM_CHANGE (R270): A change of interrupt mechanism clears the pending state of the mechanism left. The three
    enables of R270. -/
  | interruptMechanismChange (plot : Fin 4096) (msix msi intDis : Bool)
  /-- MSIX_MASK_WRITE (R273): A mask write takes effect, and pending vectors that are now unmasked are committed. -/
  | msixMaskWrite (plot : Fin 4096) (write : MaskWrite)
  /-- HOST_CONFIG_ACCESS (R263): Any other configuration request is served by the standard's rules. -/
  | hostConfigAccess (plot : Fin 4096) (access : ConfigAccess)
  /-- INTX_CLEAR (R272): A write of PP_INTX clears one or every PBA bit of PF0. -/
  | intxClear (port : Fin 4) (value : Word)
  /-- HOST_RETRAIN (R286): HPT_CTRL.RETRAIN sends the LTSSM to Recovery. -/
  | hostRetrain (port : Fin 4) (who : Party)
  /-- HOST_LINK_EN_WRITE (R286): Writing HPT_CTRL.LINK_EN 0 holds the LTSSM in Detect and is a link-down. -/
  | hostLinkEnWrite (port : Fin 4) (who : Party) (en : Bool)
  /-- IDE_CHECK_FAIL (R284): A Link IDE check failure discards the TLP and takes the stream out of Secure. -/
  | ideCheckFail (port : Fin 4)
  /-- DOE_OBJECT_RECEIVED (R285): A complete DOE request object is passed to firmware, or answered DOE Error. -/
  | doeObjectReceived (port : Fin 4) (object : List Byte)
  /-- DOE_ABORT (R398): A host DOE Abort ends the object in progress and clears the buffer. -/
  | doeAbort (port : Fin 4)
  /-- DOE_RESPONSE_READY (R398): A write of DOE_RESP marks the response object ready or sets DOE Error. -/
  | doeResponseReady (port : Fin 4) (value : Word)
  /-- CALFOS_PORT_ENABLE (R311): A write of CFP_CTRL.EN starts training, or takes the port to Off. -/
  | calfosPortEnable (port : Fin 8) (who : Party) (enable : Bool)
  /-- CALFOS_RETRAIN_CMD (R321): CFP_CTRL.RETRAIN takes the port to Off and starts a full training. -/
  | calfosRetrainCmd (port : Fin 8) (who : Party)
  /-- TRAIN_CAP_RECEIVED (R308): The partner's CAP block arrives and the attempt's rate is fixed. The 16 bytes of the control
    block. -/
  | trainCapReceived (port : Fin 8) (block : List Byte)
  /-- TRAINING_STEP_COMPLETE (R308): A training step's condition is met and the next step begins, up to Active at step 6. -/
  | trainingStepComplete (port : Fin 8) (found : TrainFound)
  /-- TRAINING_STEP_TIMEOUT (R309): A training step exceeds its bound; the attempt fails and falls to the next lower rate or Off. -/
  | trainingStepTimeout (port : Fin 8)
  /-- TRAINING_ABORT_RECEIVED (R309): An ABORT block fails the current training attempt. -/
  | trainingAbortReceived (port : Fin 8)
  /-- TRAINING_BLOCK_RECEIVE (R307): A training control block carries preset or tap requests that the transmitter applies and
    reports. -/
  | trainingBlockReceive (port : Fin 8) (lane : Fin 8) (block : List Byte)
  /-- TRAINING_RETRY_EXPIRE (R309): CFP_TRAIN.RETRY passes after a failure at the lowest rate and a new full training starts. -/
  | trainingRetryExpire (port : Fin 8)
  /-- ALIGNMENT_MARKER_RECEIVE (R303): A lane's marker is accepted or rejected, and lanes are deskewed or the port retrains. The
    physical lane, the marker and the UI at which it arrived. -/
  | alignmentMarkerReceive (port : Fin 8) (lane : Fin 8) (marker : BitVec 256) (arrived : Nat)
  /-- CALFOS_FRAME_TRANSMIT (R296): A transmitter sends a frame of two flits, DATA, INIT or IDLE, under credit. -/
  | calfosFrameTransmit (port : Fin 8)
  /-- DRIFT_ENTER (R312): A transmit direction idle for DRIFT_IDLE sends DRIFT and idles its data lanes. -/
  | driftEnter (port : Fin 8)
  /-- DRIFT_EXIT (R312): A flit to send brings the direction out of Drift through SETTLE frames. -/
  | driftExit (port : Fin 8)
  /-- DRIFT_REFRESH (R312): The REFRESH interval ends and 64 SETTLE frames are sent. -/
  | driftRefresh (port : Fin 8)
  /-- HUSH_REQUEST (R313): An idle port, or Doze entry, begins sending HUSH_REQUEST. -/
  | hushRequest (port : Fin 8)
  /-- HUSH_REQUEST_TIMEOUT (R313): No answer to HUSH_REQUEST within 64 frames leaves the port Active. -/
  | hushRequestTimeout (port : Fin 8)
  /-- HUSH_ENTER (R313): Four frames after HUSH_ACK, the port stops its clock and switches its clock pair to sideband. -/
  | hushEnter (port : Fin 8)
  /-- HUSH_EXIT (R314): A wake or received WAKE starts a Hush exit to Active. -/
  | hushExit (port : Fin 8)
  /-- HUSH_EXIT_STEP_TIMEOUT (R311): A Hush exit step exceeds its bound and the port starts full training at its retained rate. -/
  | hushExitStepTimeout (port : Fin 8)
  /-- RETRAIN_TIMEOUT (R311): Retraining not done within 5 ms falls to training at the next lower rate. -/
  | retrainTimeout (port : Fin 8)
  /-- CLOCK_LOSS (R311): The received clock is absent for 100 ns and the port goes to Off. -/
  | clockLoss (port : Fin 8)
  /-- LINK_INIT_TIMEOUT (R332): A link layer not Up within 1 ms of Active sets INIT_FAIL. -/
  | linkInitTimeout (port : Fin 8)
  /-- ACK_DELAY_EXPIRE (R333): ACK_DELAY passes after an accepted flit and the acknowledgement is sent. -/
  | ackDelayExpire (port : Fin 8)
  /-- REPLAY_TIMEOUT (R335): ACK has not advanced for REPLAY_TIMEOUT and the oldest unacknowledged flits are resent. -/
  | replayTimeout (port : Fin 8)
  /-- SIDEBAND_FRAME_REJECT (R359): A sideband frame that is bad or arrives on the wrong port is discarded and counted. -/
  | sidebandFrameReject (port : Fin 8)
  /-- ROLL_RECEIVE (R363): A ROLL on the west chain port is answered with ROLL_ACK and a position is taken, or it is refused. -/
  | rollReceive (port : Fin 8) (id : BitVec 8) (flags : BitVec 8) (payload : List Byte)
  /-- ROLL_ACK_RECEIVE (R364): A ROLL_ACK ends the wait, and may make this device the tail, which sends COMPLETE. -/
  | rollAckReceive (port : Fin 8) (id : BitVec 8) (flags : BitVec 8) (payload : List Byte)
  /-- ROLL_ACK_TIMEOUT (R364): 20 µs pass without a ROLL_ACK; the ROLL is resent, or the device becomes tail of a line. -/
  | rollAckTimeout
  /-- COMPLETE_RECEIVE (R365): A COMPLETE for the current roll sets GLB_NODE.VALID and B_CLASSES and is forwarded west. -/
  | completeReceive (port : Fin 8) (id : BitVec 8) (flags : BitVec 8) (payload : List Byte)
  /-- REROLL_RECEIVE (R368): A REROLL is forwarded west, and at the head arranges one new roll call after completion. -/
  | rerollReceive (port : Fin 8) (id : BitVec 8) (flags : BitVec 8) (payload : List Byte)
  /-- WAKE_RECEIVE (R369): A WAKE starts a Hush exit and, with SEGMENT 1, wakes the device and is forwarded. a frame whose CHECK is
    good -/
  | wakeReceive (port : Fin 8) (id : Byte) (flags : Byte) (payload : List Byte)
  /-- SEG_RESET_RECEIVE (R370): A SEG_RESET is forwarded and then carried out as a segment reset, or refused. a frame whose CHECK
    is good -/
  | segResetReceive (port : Fin 8) (id : Byte) (flags : Byte) (payload : List Byte)
  /-- ROLL_CALL_TIMEOUT (R367): No COMPLETE reaches the head within ROLL_TIMEOUT; it restarts, or after ATTEMPTS it fails. -/
  | rollCallTimeout
  /-- CHAIN_CMD_ROLL (R362): CHN_CMD ROLL starts a roll call at the head. -/
  | chainCmdRoll (who : Party)
  /-- CHAIN_CMD_SEG_RESET (R370): CHN_CMD SEG_RESET sends SEG_RESET on both chain ports and resets the device. -/
  | chainCmdSegReset (who : Party)
  /-- CHAIN_CMD_WAKE_SEG (R369): CHN_CMD WAKE_SEG sends a WAKE with SEGMENT 1 on both chain ports. -/
  | chainCmdWakeSeg (who : Party)
  /-- BOOT_IMAGE_LOADED (R379): The boot ROM has loaded and checked a slot; it writes FW_TRY and jumps to firmware, or tries the
    other slot or Safe. the images the boot ROM finds in slots A and B, none where a slot holds no header -/
  | bootImageLoaded (a : Option Image) (b : Option Image)
  /-- BOOT_CONFIRM (R381): A write of GDN_BOOT.CONFIRM writes FW_TRY.count to 0. -/
  | bootConfirm
  /-- RECOVERY_IMAGE_VERIFIED (R382): The recovery service verifies a written slot and sets RELOADED, or reboots after NO_IMAGE.
    `image` is what stands in the slot the recovery service verifies -/
  | recoveryImageVerified (image : Image)
  /-- APERTURE_ACCESS (R385): A core access to a fabric aperture window is sent as a fabric request, or ends with a bus error at
    once. `data` is none for a read -/
  | apertureAccess (core : Fin 4) (window : Fin 8) (off : BitVec 28) (size : Fin 9) (data : Option Word)
  /-- APERTURE_TIMEOUT (R385): An aperture access unanswered within 2 ms ends with a bus error. -/
  | apertureTimeout (core : Fin 4)
  /-- MAILBOX_DOORBELL (R387): A host write to PP_MBX_DB passes host-owned slots to the Gardener and sets their PEND bits. -/
  | mailboxDoorbell (plot : Fin 4096) (slots : BitVec 16)
  /-- MAILBOX_RETURN (R387): A write of MBX_RETURN returns slots to the host, sets DONE and sends the mailbox vector. -/
  | mailboxReturn (plot : Fin 4096) (slots : BitVec 16)
  /-- MAILBOX_SLOT_ACCESS (R388): A slot access by the party that does not own the slot is ignored and reported. a write of `data`
    at `off` of the plot's mailbox by the Gardener or the host -/
  | mailboxSlotAccess (plot : Fin 4096) (gardener : Bool) (off : Fin 4096) (data : List Byte)
  /-- MAILBOX_DONE_CLEAR (R390): A host write to PP_MBX_DONE clears DONE bits and re-arms the mailbox vector. -/
  | mailboxDoneClear (plot : Fin 4096) (slots : BitVec 16)
  /-- MGMT_QUEUE_RESPOND (R392): A write of MBX_MQ_RESP answers or discards the head entry of the management queue. `value` is the
    word written to MBX_MQ_RESP -/
  | mgmtQueueRespond (value : Word)
  /-- MGMT_QUEUE_EXPIRE (R392): A queue entry unanswered for 900 µs is answered Nak-Busy and removed. -/
  | mgmtQueueExpire
  /-- XSPI_COMMAND (R398): A write of XSP_CMD starts a flash command. `value` is the word written to XSP_CMD -/
  | xspiCommand (value : Word)
  /-- XSPI_COMMAND_DONE (R398): A flash command finishes and sets XSP_STATUS.DONE. `data` is what the flash returned -/
  | xspiCommandDone (error : Bool) (data : List Byte)
  /-- I3C_PACKET_RECEIVED (R393): A complete MCTP packet arrives over I3C and sets RX_READY. -/
  | i3cPacketReceived (packet : List Byte)
  /-- I3C_TRANSMIT (R398): A write of I3C_TX_LEN sends the transmit packet with an In-Band Interrupt. `len` is the value written to
    I3C_TX_LEN -/
  | i3cTransmit (len : Fin 257)
  /-- I3C_ADDRESS_ASSIGN (R393): SETDASA or ENTDAA assigns the device's I3C dynamic address. -/
  | i3cAddressAssign (addr : Fin 128)
  /-- GET_INFO (R395): The mailbox command returns firmware version, bed, node ID and plot number. -/
  | getInfo (plot : Fin 4096) (slot : Fin 16)
  /-- GET_HEALTH (R395): The mailbox command returns temperatures, power and port states. `payload` is what the sensors gave -/
  | getHealth (plot : Fin 4096) (slot : Fin 16) (payload : List Byte)
  /-- EVENT_WAIT (R395): The mailbox command is held until an event for the plot, and then answered with the event code. `code` is
    the event for the plot, none while there is none -/
  | eventWait (plot : Fin 4096) (slot : Fin 16) (code : Option Byte)
  /-- WINDOW_REQUEST (R395): The mailbox command asks firmware to commit a staged window under the bed's policy. `policy` tells
    whether the bed's policy allows the window -/
  | windowRequest (plot : Fin 4096) (slot : Fin 16) (window : Fin 64) (policy : Bool)
  /-- WINDOW_LIST (R395): The mailbox command returns the plot's committed windows. `payload` is the part of the plot's table that
    is answered -/
  | windowList (plot : Fin 4096) (slot : Fin 16) (payload : List Byte)
  /-- PLOT_CMD (R395): The PF0 mailbox command loads, resets or unloads a plot of its port. -/
  | plotCmd (plot : Fin 4096) (slot : Fin 16) (op : Fin 16) (index : Fin 1024)
  /-- FW_BEGIN (R395): The mailbox command starts writing the flash slot that is not running. -/
  | fwBegin (plot : Fin 4096) (slot : Fin 16)
  /-- FW_DATA (R395): The mailbox command writes up to 224 image bytes at an offset. -/
  | fwData (plot : Fin 4096) (slot : Fin 16) (off : BitVec 22) (data : List Byte)
  /-- FW_END (R395): The mailbox command verifies the written slot without running it. `image` is what stands in the written slot -/
  | fwEnd (plot : Fin 4096) (slot : Fin 16) (image : Image)
  /-- FW_ACTIVATE (R395): The mailbox command resets the Gardener to boot the newer slot. -/
  | fwActivate (plot : Fin 4096) (slot : Fin 16)
  /-- BED_STAGE (R395): The mailbox command stages words of the bed that is not in effect. -/
  | bedStage (plot : Fin 4096) (slot : Fin 16) (words : List (Fin 3072 × Word))
  /-- BED_COMMIT (R395): The mailbox command issues ROOT_CMD COMMIT. `bed` is 0 for A and 1 for B -/
  | bedCommit (plot : Fin 4096) (slot : Fin 16) (bed : Fin 2)
  /-- BED_REVERT (R395): The mailbox command issues ROOT_CMD REVERT. -/
  | bedRevert (plot : Fin 4096) (slot : Fin 16)
  /-- LOG_READ (R395): The mailbox command returns 240 bytes of firmware's event log. -/
  | logRead (plot : Fin 4096) (slot : Fin 16)
  /-- HEDGE_KEY_EXCHANGE (R401): A relayed KEY_EXCHANGE from an authorised manager opens a Hedge session and ends any earlier one.
    `verified`: the exchange's signature holds; `answer`: what the endpoint's cryptography answers. -/
  | hedgeKeyExchange (who : Party) (slot : Byte) (mutAuth : Bool) (keyHash : List Word) (verified : Bool) (answer : List Byte)
  /-- HEDGE_SPDM_MESSAGE (R402): Any other relayed SPDM message is answered by the Hedge endpoint in HDG_SPDM_BUF. -/
  | hedgeSpdmMessage (who : Party) (secured ends : Bool) (answer : List Byte)
  /-- HEDGE_SESSION_EXPIRE (R401): 60 s without a valid secured message ends the Hedge session. -/
  | hedgeSessionExpire
  /-- FENCE_SET (R403): The Hedge command replaces a plot's fence list and marks the plot's window lines. -/
  | fenceSet (who : Party) (plot : Fin 4096) (entries : List Slot) (answer : List Byte)
  /-- SIDE_SET (R403): The Hedge command replaces a node's side-effect ranges and discards prefetches that meet them. -/
  | sideSet (who : Party) (node : BitVec 20) (entries : List Slot) (answer : List Byte)
  /-- CAP_SET (R403): The Hedge command sets a plot cap and optionally a port cap. `port` is given where ARG bit 8 is 1. -/
  | capSet (who : Party) (plot : Fin 4096) (port : Option (Fin 8)) (caps : Slot) (answer : List Byte)
  /-- TAG_SET (R403): The Hedge command sets a plot's tenant tag. -/
  | tagSet (who : Party) (plot : Fin 4096) (tag : BitVec 16) (answer : List Byte)
  /-- MGMT_PLOT_SET (R403): The Hedge command names the management plot, or none. -/
  | mgmtPlotSet (who : Party) (plot : Option (Fin 4096)) (answer : List Byte)
  /-- TENDRIL_SET (R403): The Hedge command replaces the Tendril drive allowances. -/
  | tendrilSet (who : Party) (allow : BitVec 48) (answer : List Byte)
  /-- POWER_SET (R403): The Hedge command sets the power cap. -/
  | powerSet (who : Party) (cap : BitVec 16) (answer : List Byte)
  /-- WDOG_SET (R403): The Hedge command sets the watchdog period bounds. -/
  | wdogSet (who : Party) (min max : BitVec 16) (answer : List Byte)
  /-- FORCE_SAFE (R403): The Hedge command trips Hedge with cause COMMAND. -/
  | forceSafe (who : Party) (answer : List Byte)
  /-- SAFE_RELEASE (R403): The Hedge command takes the device out of Safe once an image has been reloaded. -/
  | safeRelease (who : Party) (answer : List Byte)
  /-- HEDGE_READ (R403): The Hedge command returns the fence list, ranges, caps and tag of a plot and a node. -/
  | hedgeRead (who : Party) (plot : Fin 4096) (node : BitVec 20) (answer : List Byte)
  /-- POWER_ESTIMATE_TICK (R411): Every 100 µs Hedge estimates power and adjusts THROTTLE. In tenths of a watt. -/
  | powerEstimateTick (measured : BitVec 16)
  /-- POWER_CAP_TRIP (R411): Power above CAP at THROTTLE 8 for 10 ms trips Hedge with cause POWER. -/
  | powerCapTrip
  /-- WATCHDOG_KICK (R412): A write of HDG_KICK with the current token restarts the watchdog period. -/
  | watchdogKick (who : Party) (token : BitVec 16)
  /-- WATCHDOG_EARLY (R412): Half a watchdog period after the last kick, source 1,273 is raised. -/
  | watchdogEarly
  /-- WATCHDOG_EXPIRE (R412): A full watchdog period after the last kick, Hedge trips with cause WATCHDOG. -/
  | watchdogExpire
  /-- ROOTSTOCK_BUCKET_REFILL (R410): Every 100 ms each Rootstock word's write bucket gains one write, up to 64. -/
  | rootstockBucketRefill
  /-- HEDGE_ECC_ERROR (R414): An uncorrectable error in Hedge storage removes a fence entry or widens a side-effect range, and may
    trip INTEGRITY. `key` is the plot of a fence entry or the node of a side-effect entry. -/
  | hedgeEccError (side : Bool) (key : BitVec 20) (entry : Fin 256)
  /-- EVG_CLAIM (R420): A read of EVG_CLAIM by its core claims the lowest pending enabled source. `core` reads for the Gardener;
    `high` marks a 4-byte read of bits 63:32. -/
  | evgClaim (reg : Fin 4) (who : Party) (core : Fin 4) (high : Bool)
  /-- EVG_EOI (R421): A write of EVG_EOI ends the source active on the core. `core` writes for the Gardener. -/
  | evgEoi (reg : Fin 4) (who : Party) (core : Fin 4) (source : BitVec 11)
  /-- EVG_ROUTE_WRITE (R418): A write of EVG_ROUTE_WR routes one source to a core. -/
  | evgRouteWrite (who : Party) (source : BitVec 11) (core : Fin 4)
  /-- EVG_ENABLE_SET (R428): A write to EVG_ENABLE_SET enables sources. -/
  | evgEnableSet (who : Party) (word : Fin 24) (mask : Word)
  /-- EVG_ENABLE_CLR (R428): A write to EVG_ENABLE_CLR disables sources. -/
  | evgEnableClr (who : Party) (word : Fin 24) (mask : Word)
  /-- EVG_PEND_SET (R428): A write to EVG_PEND_SET forces sources pending. -/
  | evgPendSet (who : Party) (word : Fin 24) (mask : Word)
  /-- EVG_PEND_CLR (R428): A write to EVG_PEND_CLR clears pending bits. -/
  | evgPendClr (who : Party) (word : Fin 24) (mask : Word)
  /-- ROOTSTOCK_WRITE (R432): A write of ROOT_DATA is checked by class and bucket, then queued for a write pulse. `half` marks a
    4-byte write of ROOT_DATA. -/
  | rootstockWrite (who : Party) (half : Bool) (value : Word)
  /-- ROOTSTOCK_PULSE_DONE (R432): A write pulse ends with verify and the next queued write or held reset proceeds. Verified at the
    first pulse (0), at the second (1), or not at all (2). -/
  | rootstockPulseDone (tries : Fin 3)
  /-- ROOTSTOCK_READ (R431): A read of ROOT_DATA returns the corrected word, updates its status and advances INDEX when INC is 1. -/
  | rootstockRead (who : Party) (ended : RootErr)
  /-- ROOT_COMMIT (R448): ROOT_CMD COMMIT checks the staged bed and writes its STATE to 0. -/
  | rootCommit (who : Party) (bed : Fin 4)
  /-- ROOT_REVERT (R449): ROOT_CMD REVERT marks the bed in effect REJECTED so the next selection takes the other bed. -/
  | rootRevert (who : Party)
  /-- ROOT_CHECK (R449): ROOT_CMD CHECK recomputes VALID_A and VALID_B. -/
  | rootCheck (who : Party)
  /-- MODE_SERVE (R458): PWM_CMD SERVE takes the device from Boot to Serve, or wakes Doze. -/
  | modeServe (who : Party)
  /-- MODE_DOZE (R459): PWM_CMD DOZE checks idleness and starts the Hush handshakes of Doze entry. -/
  | modeDoze (who : Party)
  /-- MODE_DORMANT (R456): PWM_CMD DORMANT lowers RAIL_EN and enters Dormant when the device is idle. -/
  | modeDormant (who : Party)
  /-- DOZE_HUSH_COMPLETE (R459): Every port has reached Hush; the conditions are checked again and the fast domains stop. -/
  | dozeHushComplete
  /-- DOZE_ENTRY_TIMEOUT (R459): Doze entry not done within 1 ms is abandoned with HUSH_REFUSED. -/
  | dozeEntryTimeout
  /-- DOZE_EXIT_PLL_LOCKED (R460): The core PLL locks and the device returns to Serve with its state retained. -/
  | dozeExitPllLocked
  /-- RAIL_GOOD_RISE (R454): RAIL_GOOD rises with RAIL_EN high and the main domains are released to Boot. -/
  | railGoodRise
  /-- RAIL_GOOD_LOSS (R454): RAIL_GOOD low for 1 µs outside Dormant causes a rail reset to Dormant. -/
  | railGoodLoss
  /-- RAIL_TIMEOUT (R456): RAIL_GOOD has not risen 100 ms after RAIL_EN and RAIL_TIMEOUT is set. -/
  | railTimeout
  /-- WAKE_TIMER_EXPIRE (R457): PWM_WAKE.TIMER reaches 0 and wakes the device. -/
  | wakeTimerExpire
  /-- XTAL_STABLE (R462): The crystal has run stably for 1 s and the always-on domain moves to it. -/
  | xtalStable
  /-- XTAL_STOP (R462): The crystal stops and the always-on domain returns to the internal oscillator. -/
  | xtalStop
  /-- REF_CLOCK_LOSS (R463): The fabric reference clock absent for 10 µs causes a reference-loss reset. -/
  | refClockLoss
  /-- REF_CLOCK_RESTORED (R476): The fabric reference clock present for 1 ms ends step S3 of a reference-loss reset. -/
  | refClockRestored
  /-- AVS_ADJUST (R465): Every 1 ms AVS reads the margin monitors and moves the VID code by one step. `need` is the lowest code at
    which every monitor keeps margin. -/
  | avsAdjust (need : Fin 32)
  /-- CORE_RAIL_MISMATCH (R465): The core rail off its code by over 25 mV for 1 ms sets RAIL_MISMATCH. -/
  | coreRailMismatch
  /-- THERMAL_SAMPLE (R466): Every 100 µs the sensors are read and the throttle step and ALERT_L are updated. The five readings,
    encoded as °C + 64. -/
  | thermalSample (q0 q1 q2 q3 pga : Byte)
  /-- QUADRANT_CLOCK_STOP (R461): A quadrant idle for PWM_GATE.IDLE has its fast clocks stopped. -/
  | quadrantClockStop (quadrant : Fin 4)
  /-- POWER_ON_RESET (R471): The always-on rail falls below its threshold or PORST_L goes low, and power-on reset is asserted.
    `railFall` tells the fall of the always-on rail from PORST_L. -/
  | powerOnReset (railFall : Bool)
  /-- RELEASE_ORDER_STEP (R476): The next step of the reset release order begins once its condition holds. -/
  | releaseOrderStep
  /-- DEVICE_RESET (R476): RST_CMD DEVICE starts a device reset through steps S1–S3 and 7–11. -/
  | deviceReset (who : Party)
  /-- BLOCK_SOFT_RESET_SET (R478): A write of a hold bit at RST_SOFT_SET stops the block and starts its Cloche steps. -/
  | blockSoftResetSet (who : Party) (mask : Word)
  /-- BLOCK_SOFT_RESET_DONE (R478): A held block's outstanding work is complete and its RST_SOFT_DONE bit is set. `bit` numbers the
    hold as RST_SOFT does. -/
  | blockSoftResetDone (bit : Fin 64)
  /-- BLOCK_SOFT_RESET_CLR (R478): A write of the bit at RST_SOFT_CLR releases the block at its reset values. -/
  | blockSoftResetClr (who : Party) (mask : Word)
  /-- GARDENER_RESET (R480): The GDN pulse resets all four cores and the Gardener engines and stops the watchdog. -/
  | gardenerReset (who : Party)
  /-- CORE_RESET (R481): A CORE pulse restarts one core in the boot ROM loop and resets the Event Gate. -/
  | coreReset (who : Party) (core : Fin 4)
  /-- EVG_RESET (R424): The EVG pulse clears every enable, pending and active mark and routes every source to core 0. -/
  | evgReset (who : Party)
  /-- CHN_RESET (R480): The CHN pulse returns CHN_ registers to their reset or bed values and abandons any roll call. -/
  | chnReset (who : Party)
  /-- TEST_PORT_MODE_WRITE (R490): A write of TST_PORT.MODE places a stopped port in NORMAL, PATTERN or a loopback. `port` is 0 to
    3 for the host ports and 4 + f for Ff -/
  | testPortModeWrite (port : Fin 12) (who : Party) (mode : Fin 4) (rate : Fin 16)
  /-- LANE_INJECT (R495): TST_LANE_INJ.GO, or RATE mode, inverts transmitted bits on a lane. -/
  | laneInject (lane : Fin 128) (who : Party) (mode : Fin 16) (lenm1 : Fin 1024) (exp : Fin 64) (go : Bool)
  /-- MARGIN_START (R496): TST_MARGIN_CMD START begins a margin run on a lane. -/
  | marginStart (who : Party) (port : Fin 8) (lane : Fin 8) (axis : Bool) (eye : Fin 4) (off : BitVec 8) (dwell : Fin 64)
  /-- MARGIN_STOP (R497): TST_MARGIN_CMD STOP aborts the margin run. -/
  | marginStop (who : Party)
  /-- MARGIN_RUN_DONE (R496): A margin run compares 2^DWELL bits and sets VALID and MARGIN_DONE. -/
  | marginRunDone (mismatches : BitVec 48)
  /-- TRAFFIC_GEN_ENABLE (R500): A write of TST_GEN_CTRL.EN starts or stops the traffic generator. -/
  | trafficGenEnable (who : Party) (en : Bool)
  /-- TRAFFIC_GEN_SEND (R499): The generator sends its next request while fewer than OUTSTANDING are in flight. -/
  | trafficGenSend
  /-- TRAFFIC_GEN_TIMEOUT (R499): A generator request unanswered for 5 ms takes local status Timeout. `request` counts the
    generator's requests in the order it made them -/
  | trafficGenTimeout (request : Nat)
  /-- JTAG_INSTRUCTION_LOAD (R501): An instruction loaded into the TAP takes effect; test instructions reset the ports. -/
  | jtagInstructionLoad (code : Byte)
  /-- JTAG_TRST (R471): TRST_L low resets the JTAG TAP. -/
  | jtagTrst
  /-- TENDRIL_CONFIG_WRITE (R527): A write of GDN_TND_CFG gives a pin a role, or is refused by Hedge or for format. -/
  | tendrilConfigWrite (pin : Fin 24) (value : Word)
  /-- TENDRIL_INPUT_CHANGE (R525): A level change on an input or WAKE_IN pin raises its source or wakes Doze. -/
  | tendrilInputChange (pin : Fin 24) (level : Bool)
  /-- RECEIVE_DRIFT_ENTER (R320): A receiver enters Drift when its data lanes go idle after DRIFT frames, and its interpolators
    hold their codes. -/
  | receiveDriftEnter (port : Fin 8)
  /-- RECEIVE_DRIFT_EXIT (R312): On energy at its data lanes, a receiver in Drift resumes and decodes frames that begin 40 ns or
    more after the first SETTLE frame. -/
  | receiveDriftExit (port : Fin 8)
  /-- HOST_LINK_L1_ENTRY (R258): A host link enters ASPM L1, which Doze entry requires and which may stop the host PHY clock. -/
  | hostLinkL1Entry (port : Fin 4)
  /-- HOST_LINK_L1_EXIT (R457): A host link leaves L1 at the link partner's request, which wakes Doze with code 0x4. -/
  | hostLinkL1Exit (port : Fin 4)
  /-- CHECKER_LOCK (R494): A lane checker, having seeded from the received stream, compares 64 error-free bits and sets LOCK. -/
  | checkerLock (lane : Fin 128)
  /-- CHECKER_LOCK_LOST (R494): A locked checker sees 64 errors in 128 bits, clears LOCK, sets LOST and LOCK_LOST, and seeds again.
    the bits compared and in error while the checker was locked -/
  | checkerLockLost (lane : Fin 128) (count : Nat) (errors : Nat)
  /-- STOPPED_BLOCK_REGISTER_READ (R509): A register read of a quadrant whose clocks are stopped, or a Gardener read in Doze,
    restarts the clocks or wakes the device and waits. -/
  | stoppedBlockRegisterRead (who : Party) (quadrant : Fin 4)
  /-- CAP_BLOCK_SEND (R308): At training step 1 a port sends its CAP block over sideband every 100 µs until the partner's CAP
    arrives. -/
  | capBlockSend (port : Fin 8)
  /-- I3C_TRANSMIT_DONE (R376): The BMC finishes reading the transmitted MCTP packet, TX_DONE is set and source 1,155 is raised. -/
  | i3cTransmitDone
  deriving DecidableEq, Repr

end Sys2Proof
end

