-- ==== Sys2Proof/WellFormed.lean ====
section
/-!
DEFINITION. The ranges of operands that their types do not fix. `exec` answers for every operand; a command outside these ranges is one that
no sender of the spec can form.
-/
namespace Sys2Proof

/-- A naturally aligned access of 4 or 8 bytes (R13). -/
def alignedTo (addr : Nat) (wide : Bool) : Bool := addr % (if wide then 8 else 4) == 0

/-- A register address takes an access of the width. -/
def RegAddr.wf (wide : Bool) : RegAddr → Bool
  | .device off => alignedTo off.toNat wide
  | .gardener addr => alignedTo addr.toNat wide
  | .page _ off => alignedTo off.toNat wide

/-- A TLP's fields: a BAR of R267, the lengths of the standard, 14-bit tags and 16-bit IDs (R258). -/
def Tlp.wf (t : Tlp) : Bool :=
  (t.bar == 0 || t.bar == 2 || t.bar == 4) && decide (t.len ≤ 4096) && decide (t.tag < 2 ^ 14) && decide (t.reqId < 2 ^ 16) &&
    decide (t.vendor < 2 ^ 16) && decide (t.vdh < 2 ^ 32) &&
    (match t.kind with
     | .memWrite => t.data.length == t.len
     | .memRead | .lockedRead => t.data.isEmpty
     | _ => true)

/-- A Completion carries data exactly where its status is Successful (R157). -/
def cplWf (status : CplStatus) (poisoned : Bool) (data : List Byte) : Bool :=
  if status == .sc then !data.isEmpty && decide (data.length ≤ 4096) else data.isEmpty && !poisoned

/-- A decoded frame holds two flits of 256 bytes (R296); a frame on the lanes is 430 symbols of 5 UI on eight lanes (R298). -/
def Frame.wf : Frame → Bool
  | .lanes b ls => b.length == 8 && ls.length == 8 && ls.all (fun l => l.length == 265 || l.length == 270) && (ls.map List.length).sum == 2150
  | .decoded _ a b _ => a.length == 256 && b.length == 256
  | _ => true

/-- What a receiver reports of a training step names at most eight lanes (R290). -/
def TrainFound.wf (x : TrainFound) : Bool :=
  decide (x.phys.length ≤ 8) && decide (x.inverted.length ≤ 8) && decide (x.codes.length ≤ 8)

/-- A structure of SRAM that exists: a Ledger tag has 16 bits (R24), a quadrant has 64 prefetch entries (R98). -/
def Struck.wf : Struck → Bool
  | .ledgerEntry _ tag => decide (tag < 2 ^ 16)
  | .prefetchData _ place => decide (place < 64)
  | _ => true

/-- A request named by its place in a plot queue of 32 (R58) or among the 128 that the port's receive buffer holds (R194), or by a tag of 16 bits. -/
def ReadRef.wf : ReadRef → Bool
  | .queued _ place => decide (place < 32)
  | .held _ place => decide (place < 128)
  | .matched _ => true
  | .entry _ tag => decide (tag < 2 ^ 16)

/-- A sideband frame carries at most 32 bytes (R357). -/
def payloadWf (payload : List Byte) : Bool := decide (payload.length ≤ 32)

/-- An image's key hash is six words (R378). -/
def Image.wf (x : Image) : Bool := x.keyHash.length == 6

/-- A command's operands are in the ranges its row gives them. -/
def Instr.wf : Instr → Bool
  | .registerWrite _ addr wide value _ => addr.wf wide && (wide || decide (value.toNat < 2 ^ 32))
  | .sramEccUncorrectable struck off => struck.wf && off.toNat % 8 == 0
  | .hostTlpReceive _ tlp _ => tlp.wf
  | .hostCompletionArrival _ _ status poisoned data => cplWf status poisoned data
  | .calfosFrameReceive _ frame => frame.wf
  | .readBudgetExpire request => request.wf
  | .trainCapReceived _ block | .trainingBlockReceive _ _ block => block.length == 16
  | .trainingStepComplete _ found => found.wf
  | .rollReceive _ _ _ payload | .rollAckReceive _ _ _ payload | .completeReceive _ _ _ payload | .rerollReceive _ _ _ payload
  | .wakeReceive _ _ _ payload | .segResetReceive _ _ _ payload => payloadWf payload
  | .bootImageLoaded a b => a.all Image.wf && b.all Image.wf
  | .recoveryImageVerified image | .fwEnd _ _ image => image.wf
  | .hostLinkUp _ speed _ _ => speed.val != 0
  | .mailboxSlotAccess _ _ off data => decide (off.val + data.length ≤ 4096)
  | .i3cPacketReceived packet => decide (packet.length ≤ 256)
  | .doeObjectReceived _ object => object.length % 4 == 0
  | .fwData _ _ _ data => decide (data.length ≤ 224)
  | .getHealth _ _ payload | .windowList _ _ payload => decide (payload.length ≤ 240)
  | .hedgeKeyExchange _ _ _ keyHash _ _ => keyHash.length == 6
  | .fenceSet _ _ entries _ | .sideSet _ _ entries _ => decide (entries.length ≤ 256)
  | _ => true

end Sys2Proof
end

