-- ==== Sys2Proof/Decode.lean ====
section
/-!
DEFINITION. The command table gives no row any bits (its rows have no fields), so no word spells a command.
-/
namespace Sys2Proof

/-- The command that a word of the command table spells: none, for the table gives its rows no bits. -/
def decodeTableWord (_nbits _w : Nat) : Option Instr := none

end Sys2Proof
end

