-- ==== Sys2Proof/Machine/Parts.lean ====
section
/-!
DEFINITION. The records that the block's queues and tables hold: what the spec keeps beside the registers. Plain data.
-/
namespace Sys2Proof.Machine

/-- One field of a register or structure word: its word's address, its lowest bit, its width, its reset value. -/
structure Fld where
  addr : Nat
  lo : Nat
  w : Nat
  rst : Nat
  deriving DecidableEq, Repr

/-- A WindowEntry, taken apart (R78). Page fields hold bits 63:12. -/
structure WinEntry where
  valid : Bool := false
  dirIn : Bool := false
  gen : Nat := 0
  format : Nat := 1
  noSnoop : Bool := false
  relaxed : Bool := false
  prefetch : Bool := false
  pfDepth : Nat := 0
  sideEffect : Bool := false
  ordered : Bool := false
  removal : Nat := 0
  pollClass : Nat := 0
  bar4 : Bool := false
  atEn : Bool := false
  wrEn : Bool := false
  rdEn : Bool := false
  peerEn : Bool := false
  base : Nat := 0
  last : Nat := 0
  target : Nat := 0
  node : Nat := 0
  commitTime : Nat := 0
  deriving DecidableEq, Repr

/-- A window-cache line (R85, R86, R96). The counters stand apart from the entry, which an SRAM error may discard.
`used` orders lines for eviction. -/
structure Line where
  entry : Option WinEntry := none
  curGen : Nat := 0
  cur : Nat := 0
  prev : Nat := 0
  prevGen : Nat := 0
  fenced : Bool := false
  marked : Bool := false
  used : Nat := 0
  deriving DecidableEq, Repr

/-- How far a window commit has come (R91): in the table read, waiting for a fill to end, or in the table write. -/
inductive CommitStage where
  | reading
  | ready (e : WinEntry)
  | writing (e : WinEntry)
  deriving DecidableEq, Repr

/-- One accepted GRF_WIN_CMD (R90, R91). `hostBank` tells the PF0 bank from the Gardener's; `staged` is the entry its bank held; `marked` tells that
the plot's fence list has changed since (R414). -/
structure WinCommit where
  hostBank : Bool
  index : Nat
  win : Nat
  drain : Bool
  staged : WinEntry := {}
  stage : CommitStage := .reading
  marked : Bool := false
  deriving DecidableEq, Repr

/-- A window fill (R87): in the table read, or waiting for an unpinned line with the entry it found. -/
inductive FillStage where
  | reading
  | stalled (win : Nat) (e : WinEntry)
  deriving DecidableEq, Repr

/-- A prefetch entry (R98). Bit i of `deliv` is set once byte i has been delivered to the host; `poison` marks data an SRAM error struck (R31). -/
structure Prefetch where
  plot : Nat
  win : Nat
  gen : Nat
  node : Nat
  addr : Nat
  len : Nat
  data : List Byte
  deliv : Nat
  born : Nat
  used : Nat
  life : Nat
  poison : Bool := false
  deriving DecidableEq, Repr

/-- Kinds of outbound request a plot's host path carries. -/
inductive OutKind where
  | read | write | atomic
  deriving DecidableEq, Repr

/-- An outbound host request in a plot queue (R58). `bar4` selects the BAR; `zero` marks a zero-length read (R146). -/
structure OutReq where
  kind : OutKind
  bar4 : Bool
  off : Nat
  len : Nat
  data : List Byte := []
  tag : Nat := 0
  reqId : Nat := 0
  atop : Nat := 0
  zero : Bool := false
  poisoned : Bool := false
  received : Nat := 0
  deriving DecidableEq, Repr

/-- An outbound request that Graft has matched and that waits for a Ledger entry (R132). -/
structure Matched where
  req : OutReq
  win : Nat
  gen : Nat
  node : Nat
  addr : Nat
  entry : WinEntry
  deriving DecidableEq, Repr

/-- A FaultRecord before it is laid out (R62). -/
structure FaultRec where
  code : Nat
  block : Nat
  addr : Nat := 0
  len : Nat := 0
  node : Option Nat := none
  win : Option Nat := none
  chan : Option Nat := none
  status : Nat := 0
  detail : Nat := 0
  time : Nat := 0
  seq : Nat := 0
  deriving DecidableEq, Repr

/-- A way of a woven Descriptor (R246). -/
structure Way where
  addr : Nat
  node : Option Nat
  deriving DecidableEq, Repr

/-- A Descriptor extension, taken apart (R246). -/
structure Ext where
  elem : Nat := 0
  ways : List Way := []
  alg : Nat := 0
  cont : Bool := false
  sealAddr : Nat := 0
  sealNode : Option Nat := none
  seed : Nat := 0
  deriving DecidableEq, Repr

/-- Why a Descriptor is Bad: REASON and FSTATUS (R237), the failing request (R243), and the burst and the request in it that failed. -/
structure DFail where
  reason : Nat
  fst : Nat
  addr : Nat := 0
  len : Nat := 0
  node : Option Nat := none
  burst : Nat := 0
  part : Nat := 0
  deriving DecidableEq, Repr

/-- A fetched Descriptor (R223) in a context: its words, its extension, the offset of its next burst, the offset of the first burst known
not to have retired OK, its seal span (R255) with its algorithm, and the state of its seal store. `spanBefore` is the channel's span before its fetch. -/
structure Desc where
  no : Nat
  addr : Nat
  ctrl : Nat
  src : Nat
  dst : Nat
  nodes : Nat
  next : Nat
  xform : Nat
  user : Nat
  ext : Ext := {}
  extWait : Bool := false
  extLen : Nat := 0
  pos : Nat := 0
  start : Nat := 0
  failOff : Option Nat := none
  bad : Option DFail := none
  cut : Bool := false
  span : Option Nat := none
  spanBefore : Option Nat := none
  alg : Nat := 0
  sealVal : Nat := 0
  sealIssued : Bool := false
  deriving DecidableEq, Repr

/-- One request of a burst (R228, R250): where it goes, whether it has been sent, how many answers are still to come, what has arrived, keyed by
offset in the request (for a write: what it carries), how it failed, and whether its data has been handed over. -/
structure DReq where
  node : Option Nat
  addr : Nat
  len : Nat
  left : Nat := 1
  data : SMap (List Byte) := []
  bad : Option Nat := none
  handed : Bool := false
  sent : Bool := false
  deriving DecidableEq, Repr

/-- A burst in flight (R227 to R229, R250), or the seal store of a Descriptor (R254). -/
structure Burst where
  id : Nat
  desc : Nat
  off : Nat
  len : Nat
  reads : List DReq
  writes : List DReq
  written : Bool := false
  poison : Bool := false
  store : Bool := false
  attrs : Nat := 0
  deriving DecidableEq, Repr

/-- A CompletionRecord still to be appended (R236). -/
structure CRec where
  desc : Nat
  user : Nat
  status : Nat
  reason : Nat
  fst : Nat
  residue : Nat
  irq : Bool
  deriving DecidableEq, Repr

/-- Which load of R217 a channel makes; `waited` is that of a START which had to wait for a context (R218). -/
inductive ChanLoad where
  | start | kick | resume | evicted | waited
  deriving DecidableEq, Repr

/-- What a channel does once its waiting records are appended: follow the NEXT of a finished Descriptor, or end its halt or abort. -/
inductive ChanAfter where
  | none
  | follow (next addr user : Nat)
  | ending
  deriving DecidableEq, Repr

/-- A DMA channel (R217, R220, R253): its state on die and, while it is resident, its context. `last` describes what R234 reports at the end
of a halt: the FaultRecord's fields and the Descriptor named. `back` is the state a Stalled channel returns to; `aborted` tells that a halt ends an
abort in progress (R241); `undecided` that the Descriptor to resume has still to be decided (R248, R255). -/
structure Chan where
  st : Nat := 0
  back : Nat := 1
  aborted : Bool := false
  undecided : Bool := false
  cause : Nat := 0
  rearm : Bool := false
  abortPend : Bool := false
  pending : Bool := false
  resident : Bool := false
  held : Bool := false
  since : Nat := 0
  kind : ChanLoad := .start
  loading : Bool := false
  fetch : Option Nat := none
  from_ : Option (Nat × Nat) := none
  reread : Option (Nat × Nat) := none
  resumeAt : Option Nat := none
  act : Nat := 0
  cur : Nat := 0
  descs : Nat := 0
  residue : Nat := 0
  bytes : Nat := 0
  badCount : Nat := 0
  reason : Nat := 0
  fst : Nat := 0
  reg : Nat := 0
  lastSeal : Nat := 0
  alg : Nat := 0
  span : Option Nat := none
  broken : List Nat := []
  nextNo : Nat := 0
  ds : List Desc := []
  bursts : List Burst := []
  stWords : List (Nat × Nat) := []
  recs : List CRec := []
  after : ChanAfter := .none
  last : Option (FaultRec × Option CRec) := none
  deriving DecidableEq, Repr

/-- A completion queue beside its registers (R236, R238, R239): SEQ, whether its vector has been sent since the last write of PP_CQ_HEAD, and the
channels whose records wait, in the order they began to. -/
structure Cq where
  seq : Nat := 0
  vecSent : Bool := false
  order : List Nat := []
  deriving DecidableEq, Repr

/-- A rate-limit window of R550: whether it is open, the first carried record, how many events are carried, the sum of
their lengths and the largest lateness. -/
structure RateWin where
  isOpen : Bool := false
  first : Option FaultRec := none
  count : Nat := 0
  bytes : Nat := 0
  late : Nat := 0
  born : Nat := 0
  deriving DecidableEq, Repr

/-- What started a load (R54). -/
inductive LoadOrigin where
  | command | auto
  deriving DecidableEq, Repr

/-- A plot reset that Cloche runs (R68, R70): whether an FLR is among its events, whether it ends in Disabled, when step 1 was, whether a
refetch was due, and the load that restarts after it. -/
structure Cloche where
  flr : Bool := false
  unload : Bool := false
  start : Nat := 0
  refetch : Bool := false
  reload : Option LoadOrigin := none
  deriving DecidableEq, Repr

/-- A Rake slot's armed values (R185 to R189). -/
structure RakeSlot where
  bar4 : Bool
  off : Nat
  mask : Nat
  mode : Nat
  vec : Nat
  win : Nat
  gen : Nat
  node : Nat
  addr : Nat
  cls : Nat
  fresh : Bool
  stale : Bool := false
  quiet : Bool := false
  deriving DecidableEq, Repr

/-- What the device keeps for one plot beside its registers (R42). `emu` lists the read-entry tags of emulated AtomicOps, the
one with the turn first (R175). `wbBusy` tells which write of a write-back is on its way, 1 the first or 2 the last, 3 and 4 those of an earlier
residency; `wbLow` is what its last write carries (R47). `passing` is a write that passes the read which waits in `matched` (R127). -/
structure Plot where
  queue : List OutReq := []
  matched : Option Matched := none
  passing : Option Matched := none
  tx : Int := 0
  rx : Int := 0
  held : List FaultRec := []
  seq : Nat := 0
  vecSent : Bool := false
  rates : SMap RateWin := []
  load : Option LoadOrigin := none
  refetch : Bool := false
  refetchBare : Bool := false
  cloche : Option Cloche := none
  dirty : Bool := false
  pdirty : Bool := false
  wbBusy : Option Nat := none
  wbLow : List Byte := []
  wbAgain : Bool := false
  emu : List Nat := []
  cqs : SMap Cq := []
  mbxSent : Bool := false
  arm : Option (Nat × RakeSlot) := none
  autoWait : Bool := false
  deriving DecidableEq, Repr

/-- Ledger entry kinds. `release` marks a Release whose answer is still to come: it takes no entry (R173). -/
inductive LKind where
  | write | read | atomic | release
  deriving DecidableEq, Repr

/-- Ledger entry states (R135, R136). -/
inductive LState where
  | queued | fenced | issued | backoff | settling
  deriving DecidableEq, Repr

/-- Steps of an emulated AtomicOp (R173). -/
inductive EmuStep where
  | turn | hold | read | write | budgetGone
  deriving DecidableEq, Repr

/-- A Ledger entry (R134), keyed by its tag in its quadrant. `strm` is the node of its stream record, or 0x10_0000 for the
overflow record. `burst` numbers the DMA burst a DMA entry serves and `part` the
request of that burst. `order` is its place in the order of allocation; `charged` the bytes the transmit buckets have counted for a first send still
to come (R57); `resent` the retry count when it was last sent (R160); `localSt` the status with which Trellis ends it (R113, R114); `pf` the PF_DEPTH of
a window with PREFETCH 1 with the first address after its target (R97). -/
structure LEntry where
  kind : LKind
  hostPath : Bool
  plot : Nat
  chan : Nat := 0
  win : Nat := 0
  gen : Nat := 0
  node : Nat
  addr : Nat
  len : Nat
  removal : Nat := 0
  strm : Nat := 0
  seq : Nat := 0
  need : Nat := 0
  needOv : Nat := 0
  egress : Nat := 0
  allocated : Nat := 0
  handed : Nat := 0
  st : LState := .queued
  ordered : Bool := false
  retry : Nat := 0
  lastStatus : Nat := 0x12
  req : OutReq
  emu : Option EmuStep := none
  oldVal : List Byte := []
  lease : Nat := 0
  ext : Nat := 0
  extCause : Option Nat := none
  burst : Nat := 0
  part : Nat := 0
  order : Nat := 0
  charged : Nat := 0
  resent : Nat := 0
  localSt : Option Nat := none
  pf : Option (Nat × Nat) := none
  deriving DecidableEq, Repr

/-- An outbound stream record (R137). -/
structure Stream where
  last : Nat := 0
  watermark : Nat := 0
  retired : List Nat := []
  fail : Option Nat := none
  outstanding : Nat := 0
  deriving DecidableEq, Repr

/-- An inbound stream record (R158). `late` notes a failure of a Write that arrived after an ordered request that still waits. -/
structure InStream where
  flag : Bool := true
  late : Bool := false
  usedAt : Nat
  deriving DecidableEq, Repr

/-- An inbound request that waits in the miss queue or that the host path serves (R84, R155 to R158, R178). `parts` counts the
host completions still to come, `worst` the deciding outcome so far (R157), `space` the completion space taken. -/
structure InReq where
  req : FabReq
  plot : Nat
  win : Nat := 0
  gen : Nat := 0
  haddr : Nat := 0
  attrs : Nat := 0
  parts : Nat := 0
  toPlace : Nat := 0
  worst : Nat := 0
  data : SMap (List Byte) := []
  space : Nat := 0
  deriving DecidableEq, Repr

/-- A PLT_CMD in progress (R65, R66). -/
structure PltCmd where
  op : Nat
  index : Nat
  deriving DecidableEq, Repr

/-- A change of the usable ports of a DEST entry, known by its level and masked key, with the streams that have fenced since (R112, R147). -/
structure FenceEv where
  level : Nat
  key : Nat
  done : List (Nat × Nat) := []
  deriving DecidableEq, Repr

/-- What a fabric request for configuration memory serves (R43): a load, commit or refetch of a plot, a fill of a plot and direction, the read or the
write of a window commit, a write-back of a plot. -/
inductive TabUse where
  | load (p : Nat)
  | commit (p : Nat)
  | refetch (p : Nat)
  | fill (p : Nat) (dirIn : Bool)
  | commitRead
  | commitWrite
  | writeback (p : Nat)
  deriving DecidableEq, Repr

/-- A fabric request for configuration memory that is outstanding, and the bytes its answer carries. -/
structure TabReq where
  use : TabUse
  write : Bool
  len : Nat
  deriving DecidableEq, Repr

/-- One quadrant: Graft, prefetch, Ledger and plot engine (R19). `held` holds the requests in the port's receive buffer (R58); `table` the fabric
requests for configuration memory by their tags; `short` tells that requesters wait since the pool was empty, `dmaWait` that a DMA burst does (R132). -/
structure Quad where
  lines : SMap Line := []
  stamp : Nat := 0
  fills : SMap FillStage := []
  missQ : List InReq := []
  commit : Option WinCommit := none
  commitQ : List WinCommit := []
  pf : List Prefetch := []
  ledger : SMap LEntry := []
  streams : SMap Stream := []
  inStreams : SMap InStream := []
  fenceNext : List FenceEv := []
  lastPlot : Nat := 0
  inbound : SMap InReq := []
  plt : Option PltCmd := none
  dmaLast : SMap Nat := []
  lastAdm : Nat := 0
  held : List (Nat × OutReq) := []
  table : SMap TabReq := []
  short : Bool := false
  dmaWait : Bool := false
  deriving DecidableEq, Repr

/-- A Rake batch (R187, R188): one 256-byte block of one plot at one node. `due` is when it was formed, `sent` when its last sweep was sent. -/
structure Batch where
  plot : Nat
  node : Nat
  block : Nat
  due : Nat
  outstanding : Bool := false
  sent : Option Nat := none
  deriving DecidableEq, Repr

/-- A flow at a Pergola egress (R207). -/
inductive FlowId where
  | host (plot : Nat) | dma (plot : Nat) | through (port : Nat) | gardener | rake | diag
  deriving DecidableEq, Repr

/-- One request of a DMA burst: its plot, channel, burst number and place in the burst. -/
structure DmaRef where
  plot : Nat
  chan : Nat
  burst : Nat
  part : Nat
  deriving DecidableEq, Repr

/-- What a TLP is that the port transmits (R269, R271, R273, R276). `config` completes a configuration request, `configRetry` does so with Request
Retry Status (R262). -/
inductive TlpOutKind where
  | completion | completionData | config | configRetry | memWrite | memRead | atomic | vendorMsg | interrupt
  | assertInta | deassertInta | errCor | errNonFatal | errFatal | pmeToAck
  deriving DecidableEq, Repr

/-- A TLP in a port's transmit order (R273, R274, R407): the plot it is formed for, the Requester ID it carries, and, for the TLP of
an inbound Write, that request's key. -/
structure TlpOut where
  kind : TlpOutKind
  plot : Nat
  reqId : Nat := 0
  addr : Nat := 0
  len : Nat := 0
  data : List Byte := []
  tag : Nat := 0
  status : CplStatus := .sc
  poisoned : Bool := false
  attrs : Nat := 0
  atop : Nat := 0
  inb : Option Nat := none
  dma : Option DmaRef := none
  deriving DecidableEq, Repr

/-- What an outstanding host request of the device serves: a part of an inbound read or atomic, or a DMA read. -/
inductive HostUse where
  | inbound (id part : Nat)
  | dma (plot chan burst part : Nat)
  deriving DecidableEq, Repr

/-- An outstanding host tag of a port (R69, R157): what it serves, the place in that, address and length of what it asked for, and what its
completions have brought. `dead`: what arrives for it is discarded; `orphan`: its plot has been reset. -/
structure HostTag where
  use : HostUse
  plot : Nat
  off : Nat := 0
  addr : Nat := 0
  len : Nat := 0
  orphan : Bool := false
  dead : Bool := false
  data : List Byte := []
  poisoned : Bool := false
  deriving DecidableEq, Repr

/-- A transfer of a DMA cluster with the host of its quadrant, as it crosses Pergola (R21): a write, a read that takes its host tag at the
port, or the outcome of a read on its way back. -/
inductive HostLeg where
  | write (t : TlpOut)
  | read (use : HostUse) (t : TlpOut)
  | answer (r : DmaRef) (bad : Option Nat) (off : Nat) (data : List Byte)
  deriving DecidableEq, Repr

/-- A transaction queued in Pergola: its ingress port, the flow it belongs to, itself. `entry` names the Ledger entry that the
hand-over to the egress marks Issued: quadrant and tag; `plot` the plot an inbound request maps to. `cred` lists the flits of class `rcls` of
the receiving Calfos port whose bytes it is (R337). -/
structure QTxn where
  ingress : Nat
  txn : Txn
  plot : Nat := 0
  entry : Option (Nat × Nat) := none
  own : Bool := true
  rcls : Nat := 0
  cred : List Nat := []
  held : Nat := 0
  host : Option HostLeg := none
  dateline : Bool := false
  deriving DecidableEq, Repr

/-- A flow in an egress arbiter's active list (R208). -/
structure FlowSt where
  flow : FlowId
  deficit : Nat := 0
  inTurn : Bool := false
  queue : List QTxn := []
  deriving DecidableEq, Repr

/-- A transaction that waits in its client for room in its queue (R196). -/
structure Waiting where
  egress : Nat
  cls : Nat
  flow : FlowId
  t : QTxn
  deriving DecidableEq, Repr

/-- Pergola: active lists keyed by egress * 8 + class, the input buffers of the clients keyed the same way (R195 to R208); for each egress whether
each of its last 63 cycles carried Management, newest first (R207), and the cycles that PGA_SAT.BUSY and STALL do not show yet (R213); and the
responses discarded for a unit that issues nothing (R25). -/
structure Pergola where
  active : SMap (List FlowSt) := []
  waiting : List Waiting := []
  inbox : SMap (List QTxn) := []
  recent : SMap (List Bool) := []
  busy : SMap Nat := []
  stall : SMap Nat := []
  stray : Nat := 0
  deriving DecidableEq, Repr

/-- The errors a function's AER capability logs (R276). -/
inductive AerErr where
  | unsupportedRequest | completerAbort | poisonedTlp | completionTimeout | unexpectedCompletion
  | malformed | receiverOverflow | uncorrectableInternal | correctedInternal | ideCheck | link (e : LinkErr)
  deriving DecidableEq, Repr

/-- The configuration state of one function that chapter 10 names: enables and settings, what AER has logged with its masks and severity at the
standard's defaults, error reporting (PF0's holds for its VFs), the addresses in the BAR registers keyed by BAR, and the ACS control bits. -/
structure Func where
  mse : Bool := false
  bme : Bool := false
  d3hot : Bool := false
  msixEn : Bool := false
  fmask : Bool := false
  msiEn : Bool := false
  mme : Nat := 0
  msiAddr : Nat := 0
  msiData : Nat := 0
  msiMask : Nat := 0
  msiPend : Nat := 0
  intDis : Bool := false
  mps : Nat := 0
  mrrs : Nat := 2
  cto : Nat := 0
  ctoDis : Bool := false
  atomicReq : Bool := false
  aer : List AerErr := []
  aerAdv : Bool := false
  aerMask : Nat := 0x00400000
  aerSev : Nat := 0x00462030
  aerCor : Nat := 0xE000
  repCor : Bool := false
  repNonFatal : Bool := false
  repFatal : Bool := false
  repUr : Bool := false
  serr : Bool := false
  bars : SMap Nat := []
  vfBars : SMap Nat := []
  acs : Nat := 0
  substates : Nat := 0
  deriving DecidableEq, Repr

/-- An MSI-X table entry with its pending bit (R263, R273). -/
structure MsixEnt where
  addr : Nat := 0
  data : Nat := 0
  mask : Bool := true
  pend : Bool := false
  deriving DecidableEq, Repr

/-- The Link IDE Stream of a port (R284): its enable bit, the keys of K0 and K1, keyed by direction * 2 + set with the receive direction 1, and the
set that each direction uses. -/
structure Ide where
  enable : Bool := false
  keys : SMap Nat := []
  cur : SMap Nat := []
  deriving DecidableEq, Repr

/-- What the SPDM responder of a host port provides (R285). Gardener firmware answers by it. -/
structure SpdmResponder where
  versions : List (Nat × Nat) := [(1, 2), (1, 3)]
  slots : List Nat := [0]
  challenge : Bool := true
  measurements : Bool := true
  keyExchange : Bool := true
  signature : String := "ECDSA P-384"
  hash : String := "SHA-384"
  exchange : String := "secp384r1"
  cipher : String := "AES-256-GCM"
  requester : Bool := false
  deriving DecidableEq, Repr

/-- One host port beside its registers (chapter 10): the Routing ID of PF0, the transmit order, the outstanding host tags, the sizes of
BAR2 and BAR4 in effect for PF0 and the VFs, PF0's vector count, MAX_SPEED and MAX_WIDTH of the bed (R261), the VFs that VF Enable has enabled (R265) and when, the
VFs whose first load is still to end, PERST_L high, the link in ASPM L1, the DOE mailbox's Error and Data Object Ready bits, INTA as last sent, the IDE stream, the captured slot power limit (R269),
and the rate and width that the training or RETRAIN under way offers (R286). -/
structure HostPort where
  rid : Nat := 0
  txq : List TlpOut := []
  outTags : SMap HostTag := []
  bar2Pf : Nat := 0
  bar2Vf : Nat := 0
  bar4Pf : Nat := 0
  bar4Vf : Nat := 0
  bar0Big : Bool := false
  pf0Msix : Nat := 1
  subsysVid : Nat := 0
  subsysId : Nat := 0
  bedSpeed : Nat := 7
  bedWidth : Nat := 4
  totalVfs : Nat := 0
  numVfs : Nat := 0
  vfEnable : Bool := false
  vfsOn : Nat := 0
  vfSince : Nat := 0
  vfLoading : List Nat := []
  perst : Bool := false
  l1 : Bool := false
  doeError : Bool := false
  doeReady : Bool := false
  intaOn : Bool := false
  ide : Ide := {}
  slotPower : Nat := 0
  offSpeed : Nat := 7
  offWidth : Nat := 4
  spdm : SpdmResponder := {}
  deriving DecidableEq, Repr

/-- The Trellis table: key and result words keyed by 2 * index and 2 * index + 1, and the entries struck by an uncorrectable error
(R105, R123, R125). `scan` tells that the enable scan runs. -/
structure Trellis where
  table : SMap Nat := []
  struck : SMap Bool := []
  scan : Bool := false
  deriving DecidableEq, Repr

/-- A fence or side-effect entry (R404); pages are bits 55:12. -/
structure FenceEnt where
  node : Nat
  base : Nat
  last : Nat
  rd : Bool := false
  wr : Bool := false
  at_ : Bool := false
  struck : Bool := false
  deriving DecidableEq, Repr

/-- A cap bucket (R408): rate in MB/s, depth in bytes, level. -/
structure Cap where
  rate : Nat
  depth : Nat
  level : Int
  deriving DecidableEq, Repr

/-- What Hedge holds beside its registers (chapter 15): fence lists by plot, side-effect ranges by node, caps, tags, the management plot,
the Tendril allowance word (R409), the tick of the session's last valid secured message (R401), of the last kick and the period in effect (R412),
the estimates in a row above CAP at THROTTLE 8 (R411) and the ticks at which fence entries were struck (R414). -/
structure Hedge where
  fence : SMap (List FenceEnt) := []
  side : SMap (List FenceEnt) := []
  plotCap : SMap (Option Cap) := []
  portCap : SMap (Option Cap) := []
  tags : SMap (Option Nat) := []
  mgmtPlot : Option Nat := none
  allow : Nat := 0
  sess : Nat := 0
  kickAt : Nat := 0
  period : Nat := 1000
  warned : Bool := false
  capOver : Nat := 0
  strikes : List Nat := []
  deriving DecidableEq, Repr

/-- The Rake (R183 to R192): armed slots keyed by plot * 64 + slot, and the batches. -/
structure Rake where
  slots : SMap RakeSlot := []
  batches : List Batch := []
  lastSent : Option Nat := none
  deriving DecidableEq, Repr

/-- A request under unit 0 that is outstanding: whose it is (R24). -/
inductive Unit0Use where
  | aperture (core window off : Nat) (late : Bool) (op : FabOp) (len : Nat)
  | rake (plot node block : Nat)
  | gen (i : Nat) (second : Bool)
  deriving DecidableEq, Repr

/-- An entry of the management receive queue (R392): the request, when it arrived, and the low half of an 8-byte answer. -/
structure MqEntry where
  req : FabReq
  arrived : Nat
  half : Option Nat := none
  deriving DecidableEq, Repr

/-- The route context of a class of a link (R340). -/
structure RouteCtx where
  dest : Nat
  src : Nat
  tenant : Nat
  hop : Nat
  deriving DecidableEq, Repr

/-- A transaction whose payload slots are still arriving (R339): its route, its header, the payload bytes still to come and those that have,
and the flits of its class it has occupied so far. -/
structure PartTxn where
  ctx : RouteCtx
  hdr : Nat
  left : Nat
  data : List Byte
  flits : List Nat
  deriving DecidableEq, Repr

/-- One class of a link (R337 to R340): SENT and FREED, the transmit and receive route contexts, the slots of transactions begun and not
wholly sent, whether their first is a header, the count of flits accepted over the port's life, that count when the link last initialised, the transaction still arriving
and the credit total last reported. -/
structure LinkClass where
  sent : Nat := 0
  freed : Nat := 0
  txCtx : Option RouteCtx := none
  txSlots : List Nat := []
  txHead : Bool := false
  rxCtx : Option RouteCtx := none
  rxBase : Nat := 0
  rxGot : Nat := 0
  part : Option PartTxn := none
  told : Nat := 0
  deriving DecidableEq, Repr

/-- A DATA flit in the replay buffer (R335): SEQ, CLASS, its 15 slots, and which of them are headers. -/
structure TxFlit where
  seq : Nat
  cls : Nat
  body : List Nat
  heads : List Nat := []
  deriving DecidableEq, Repr

/-- A received lane, by its physical number (R303): the logical lane its first marker named, the SEQ expected next, the markers not
accepted in a row, and the UI at which its first marker arrived. -/
structure RxLane where
  lane : Nat
  seq : Nat
  misses : Nat := 0
  arrived : Nat := 0
  deriving DecidableEq, Repr

/-- What the port keeps of a lane in training (R304, R307). For the transmit lane: the last block's PRESET_VALID, PRE_REQ and POST_REQ, and the status it
reports for each tap; whether the partner has reported RX_READY on the lane; the state of its PRBS13. For the partner's lane: the requests this port
sends, and the statuses last reported. -/
structure TxLane where
  presetValid : Bool := false
  preReq : Nat := 0
  postReq : Nat := 0
  preSt : Nat := 0
  postSt : Nat := 0
  ready : Bool := false
  prbs : Nat := 0
  askPreset : Option Nat := none
  askPre : Nat := 0
  askPost : Nat := 0
  seenPre : Nat := 0
  seenPost : Nat := 0
  deriving DecidableEq, Repr

/-- One Calfos port beside its registers (chapters 11 and 12). Training: the step, the attempt's number and the highest rate it may run at, MAX_RATE and PRESET as the full training took them, the
partner's PRECODE_SUP and PRECODE_REQ, whether a RETRY interval runs, whether the receiver has finished equalising (RX_READY is sent), PRECODE_REQ as it is sent (R310), COUNTDOWN and whether
the transmit direction has begun its marker epoch (R308, R314). Lanes received and transmitted. `hush` is 0 with no handshake, 1 while HUSH_REQ
is sent, 2 once Hush is agreed; `exiting` tells that a Hush exit runs; `doze` that the request is the device's. `driftSeen`: DRIFT decoded, or a stretch of receive Drift that only SETTLE frames have
interrupted. `pctl` is the
code sent in the next `pctlLeft` frames. `hist` holds the codes decoded in the last four frames, `frames` counts frames received while Active and `badAt`
the uncorrectable ones. The link layer: the next SEQ to send, the replay buffer, the SEQs a replay still has to resend, the ACK a NAK
replay began from, replays in a row, whether any flit has been acknowledged; the SEQ expected, whether any flit has been accepted, NAK, and whether an
acknowledgement is due; the marks of initialisation (R332); the class whose credit is reported next; for each virtual channel whether B is next (R202);
when the link was last busy; and the transactions that wait for GLB_NODE.VALID (R371). The line (R292, R298, R301): frames since the marker epoch began
and markers sent in it, the last level of each transmit lane, the frames of the epoch received; and for step 6 of training (R308) the consecutive good
frames with the symbols corrected in them. -/
structure Link where
  step : Nat := 0
  attempt : Nat := 0
  fallback : Nat := 0
  maxRate : Nat := 0
  preset : Nat := 0
  capSup : Bool := false
  preReq : Bool := false
  retry : Bool := false
  eqDone : Bool := false
  preAsk : Bool := false
  count : Nat := 255
  lineUp : Bool := false
  rxLanes : SMap RxLane := []
  txLanes : SMap TxLane := []
  hush : Nat := 0
  exiting : Bool := false
  doze : Bool := false
  driftSeen : Bool := false
  pctl : Nat := 0
  pctlLeft : Nat := 0
  hist : List Nat := []
  frames : Nat := 0
  badAt : List Nat := []
  classes : SMap LinkClass := []
  next : Nat := 0
  replay : List TxFlit := []
  resend : List Nat := []
  nakFor : Option Nat := none
  row : Nat := 0
  acked : Bool := false
  expect : Nat := 0
  got : Bool := false
  nak : Bool := false
  ackDue : Bool := false
  rxValid : Bool := false
  gotSeen : Bool := false
  initBad : Bool := false
  crNext : Nat := 0
  turnB : List Nat := []
  busyAt : Nat := 0
  waitRx : List (Nat × QTxn) := []
  txPos : Nat := 0
  txMarks : Nat := 0
  txPre : List Nat := []
  rxPos : Nat := 0
  good : Nat := 0
  fixed : Nat := 0
  deriving DecidableEq, Repr

/-- A Rootstock write that waits or is being pulsed (R432); `gardener` marks a write of ROOT_DATA. -/
structure RootWrite where
  index : Nat
  value : Nat
  gardener : Bool
  deriving DecidableEq, Repr

/-- A reset that waits for the end of a Rootstock pulse (R450, R472). -/
inductive HeldReset where
  | powerOn | rail | refLoss | segment | device | gardener
  | port (n ltssm : Nat)
  | soft (mask : Nat)
  | core (c : Nat)
  deriving DecidableEq, Repr

/-- The chain controller beside its registers (chapter 13): how often the ROLL that waits for its ROLL_ACK has been sent (0: none waits), the HEAD_TAG and
REROLL flag of the current roll call, the roll ID under which a position was last taken, whether a REROLL has come for the current roll call, the
roll calls begun without a COMPLETE, the device's own last wake and reset IDs, the recent IDs of both kinds with the tick each was seen, and whether this device was tail in
the last roll call that ended in COMPLETE, which places the dateline (R200, R212). -/
structure Chain where
  wait : Nat := 0
  headTag : Nat := 0
  reroll : Bool := false
  taken : Option Nat := none
  again : Bool := false
  attempts : Nat := 0
  wakeId : Nat := 0
  resetId : Nat := 0
  wakes : List (Nat × Nat) := []
  resets : List (Nat × Nat) := []
  lineTail : Bool := false
  deriving DecidableEq, Repr

/-- The device's own controllers beside their registers (chapters 18 and 19). The release order: the last step done (1 to 11, and 21 to 23 for S1 to S3)
and the cause. Pins: RAIL_EN, RAIL_GOOD, the fabric reference clock, ALERT_L driven low. A trip that waits for the Doze exit or the release order to end (R469, R484), a SAFE_RELEASE that waits for cooling (R467), a Doze exit
that runs. A segment reset's roll call that is due at step 11, a thermal trip not yet
followed by Boot (R467). Samples since the throttle step last fell (10 with none yet), samples counted toward THROTTLE_MS, and the hold bits whose CLR came before their
Cloche steps were complete (R478). -/
structure Ctl where
  step : Nat := 1
  cause : Nat := 1
  railEn : Bool := false
  railGood : Bool := false
  refClk : Bool := true
  alert : Bool := false
  trip : Option Nat := none
  cooling : Bool := false
  waking : Bool := false
  rollDue : Bool := false
  hotTrip : Bool := false
  since : Nat := 10
  hot : Nat := 0
  clrWait : Nat := 0
  deriving DecidableEq, Repr

/-- Rootstock (chapter 17): the words, the WRITTEN flags of Once words, wear counts, the writes taken from each word's bucket (R410), how the
last read of a word ended, the writes in order of arrival with the one being pulsed first, a COMMIT that waits, the resets held, and whether Serve has been entered
since the last selection. -/
structure Root where
  words : SMap Nat := []
  written : SMap Bool := []
  wear : SMap Nat := []
  used : SMap Nat := []
  corr : SMap Bool := []
  uncorr : SMap Nat := []
  queue : List RootWrite := []
  commit : Option Nat := none
  held : List HeldReset := []
  served : Bool := false
  deriving DecidableEq, Repr

/-- A request of the traffic generator that is in flight (R499): its address and length, whether it is the Read half, the parts still to be
answered (0 for a Read half that is still to be sent), the first status other than OK, and whether read data has differed. -/
structure GenReq where
  addr : Nat
  len : Nat
  reading : Bool
  left : Nat
  bad : Option Nat := none
  differs : Bool := false
  deriving DecidableEq, Repr

/-- The test block beside its registers (chapter 20): the port of the margin run in progress, the number of the generator's next request since EN
was set, the requests in flight by the order in which they were made and the next place in that order, whether GEN_DONE is still to be set, and the instruction in the TAP. -/
structure Test where
  margin : Option Nat := none
  next : Nat := 0
  reqs : SMap GenReq := []
  serial : Nat := 0
  open_ : Bool := false
  tap : Nat := 1
  deriving DecidableEq, Repr

/-- What the shipped firmware keeps between mailbox commands (R395): the flash slot it is writing, and the commands it has taken and not yet
answered, keyed by plot * 16 + slot. -/
structure Firmware where
  writing : Option Nat := none
  jobs : SMap Nat := []
  deriving DecidableEq, Repr

/-- What leaves the block for the outside. -/
inductive Emit where
  | tlp (port : Nat) (t : TlpOut)
  | calfosFrame (port : Nat) (pctl : Nat) (a b : List Byte) (lanes : List (List Nat))
  | calfosMarker (port : Nat) (lanes : List (List Nat))
  | calfosSettle (port : Nat) (frames : Nat)
  | trainFrame (port lane : Nat) (levels : List Nat)
  | trainBlock (port lane : Nat) (block : List Byte)
  | trainAbort (port lane : Nat) (block : List Byte) (frames : Nat)
  | pattern (lane pat : Nat) (precode : Bool)
  | tapData (value : Nat)
  | sideband (port : Nat) (bytes : List Byte)
  | read (party : Party) (value : Nat)
  | bus (core : Nat) (value : Option Nat)
  | flash (cmd addr : Nat) (data : List Byte)
  | i3c (packet : List Byte)
  | doe (port : Nat) (object : List Byte)
  | doeError (port : Nat)
  | railEn (on : Bool)
  | hedge (code : Nat)
  | hedgeLists (fence side : List FenceEnt) (plotCap portCap : Option Cap) (tag : Nat)
  | image (slot off : Nat) (data : List Byte)
  | inject (lane mode bits : Nat)
  | aer (plot : Nat) (e : AerErr)
  | tableRead (port : Nat) (addr : Nat) (len : Nat)
  | plotRead (plot : Nat) (addr : Nat) (len : Nat)
  | extRead (plot : Nat) (addr : Nat) (weave : Bool)
  deriving DecidableEq, Repr

end Sys2Proof.Machine
end

