-- ==== Sys2Proof/Machine/State.lean ====
section
/-!
DEFINITION. The state of the block, as plain data, with the state right after reset, and the reasons a step can stop.
-/
namespace Sys2Proof.Machine

/-- The state of the XLB-8256. `cells` holds every register field and every resident PlotEntry field, keyed by its word's address and
its lowest bit (R8, R511 to R513, R48); a field that is not listed has its reset value. `mem` holds the bytes of the block's
addressed memories, keyed by their address in the Gardener's private space (R375); a byte that is not listed is 0 (R387, R477). `ticks` counts the microseconds of the always-on domain, `now` those of the device time base, which counts
while it is `started` (R464). -/
structure State where
  cells : SMap Nat := []
  plots : SMap Plot := []
  funcs : SMap Func := []
  msix : SMap MsixEnt := []
  quads : SMap Quad := []
  ports : SMap HostPort := []
  pga : Pergola := {}
  links : SMap Link := []
  root : Root := {}
  chain : Chain := {}
  ctl : Ctl := {}
  trl : Trellis := {}
  hdg : Hedge := {}
  rake : Rake := {}
  test : Test := {}
  fw : Firmware := {}
  chans : SMap Chan := []
  unit0 : SMap Unit0Use := []
  mq : List MqEntry := []
  mem : List Host.Cell := []
  ticks : Nat := 0
  now : Nat := 0
  started : Bool := false
  free : Nat := 0
  out : List Emit := []
  pending : List Instr := []
  deriving DecidableEq, Repr

/-- Why the machine would stop with a fault. No command of this block stops it; the type is closed and its one constructor is raised
by no meaning. -/
inductive Fault where
  /-- Raised by nothing; it stands so that the type is not empty. Safe. -/
  | halted
  deriving DecidableEq, Repr

/-- Why a command has no meaning. -/
inductive Refusal where
  /-- A command whose meaning is not written; raised by Dispatch alone. Safe. -/
  | notModelled (mnemonic : String)
  deriving DecidableEq, Repr

/-- The block right after a power-on reset has ended and before the release order begins (R475, R476). -/
def State.reset : State := {}

end Sys2Proof.Machine
end

