-- ==== Sys2Proof/Machine/Fields.lean ====
section
/-!
DEFINITION. The register fields of the spec's field tables (chapters 01 to 22), each with its address, lowest bit, width and
reset value (R11 to R14, R511 to R513). Addresses below 0x100_0000 are device register space, 0x3000_0000 onward the
Gardener's private space, 0x1_0000_0000 + 0x1_0000 * p the plot page of plot p, and 0x2_0000_0000 + 0x100 * p its
resident PlotEntry (R48).
-/
namespace Sys2Proof.Machine

/-- Address of GLB_ID (R36). -/
def A.GLB_ID : Nat := 0x0
def F.GLB_ID_PART : Fld := ⟨A.GLB_ID, 16, 16, 0x8256⟩
def F.GLB_ID_FAMILY : Fld := ⟨A.GLB_ID, 8, 8, 0x1⟩
def F.GLB_ID_STEP_MAJOR : Fld := ⟨A.GLB_ID, 4, 4, 0x0⟩
def F.GLB_ID_STEP_MINOR : Fld := ⟨A.GLB_ID, 0, 4, 0x0⟩
/-- Address of GLB_NODE (R37). -/
def A.GLB_NODE : Nat := 0x8
def F.GLB_NODE_VALID : Fld := ⟨A.GLB_NODE, 20, 1, 0x0⟩
def F.GLB_NODE_DOMAIN : Fld := ⟨A.GLB_NODE, 16, 4, 0x0⟩
def F.GLB_NODE_SEGMENT : Fld := ⟨A.GLB_NODE, 12, 4, 0x0⟩
def F.GLB_NODE_POSITION : Fld := ⟨A.GLB_NODE, 6, 6, 0x0⟩
/-- Address of GLB_ECC_STATUS (R38). -/
def A.GLB_ECC_STATUS : Nat := 0x10
def F.GLB_ECC_STATUS_UNCORR : Fld := ⟨A.GLB_ECC_STATUS, 0, 6, 0x0⟩
/-- Address of GLB_ECC_CORR (R38). -/
def A.GLB_ECC_CORR : Nat := 0x18
def F.GLB_ECC_CORR_CORR : Fld := ⟨A.GLB_ECC_CORR, 0, 48, 0x0⟩
/-- Address of GLB_ECC_ADDR (R38). -/
def A.GLB_ECC_ADDR : Nat := 0x20
def F.GLB_ECC_ADDR_VALID : Fld := ⟨A.GLB_ECC_ADDR, 63, 1, 0x0⟩
def F.GLB_ECC_ADDR_REGION : Fld := ⟨A.GLB_ECC_ADDR, 52, 4, 0x0⟩
def F.GLB_ECC_ADDR_OFFSET : Fld := ⟨A.GLB_ECC_ADDR, 0, 25, 0x0⟩
/-- Address of GLB_FORMAT (R549). -/
def A.GLB_FORMAT : Nat := 0x28
def F.GLB_FORMAT_VALID : Fld := ⟨A.GLB_FORMAT, 63, 1, 0x0⟩
def F.GLB_FORMAT_WRITER : Fld := ⟨A.GLB_FORMAT, 56, 3, 0x0⟩
def F.GLB_FORMAT_COUNT : Fld := ⟨A.GLB_FORMAT, 32, 16, 0x0⟩
def F.GLB_FORMAT_OFFSET : Fld := ⟨A.GLB_FORMAT, 0, 24, 0x0⟩
/-- Address of PE_STATUS (R49). -/
def A.PE_STATUS (p : Nat) : Nat := 0x200000000 + p * 0x100 + 0x0
def F.PE_STATUS_RESET_COUNT (p : Nat) : Fld := ⟨A.PE_STATUS p, 48, 16, 0x0⟩
def F.PE_STATUS_LAST_FAULT (p : Nat) : Fld := ⟨A.PE_STATUS p, 40, 8, 0x0⟩
def F.PE_STATUS_WB_SEQ (p : Nat) : Fld := ⟨A.PE_STATUS p, 24, 16, 0x0⟩
def F.PE_STATUS_PSET_VALID (p : Nat) : Fld := ⟨A.PE_STATUS p, 12, 1, 0x0⟩
def F.PE_STATUS_LATCH_ANY (p : Nat) : Fld := ⟨A.PE_STATUS p, 11, 1, 0x0⟩
def F.PE_STATUS_CQ_STALL (p : Nat) : Fld := ⟨A.PE_STATUS p, 10, 1, 0x0⟩
def F.PE_STATUS_RATE_HELD (p : Nat) : Fld := ⟨A.PE_STATUS p, 9, 1, 0x0⟩
def F.PE_STATUS_BME (p : Nat) : Fld := ⟨A.PE_STATUS p, 8, 1, 0x0⟩
def F.PE_STATUS_STATE (p : Nat) : Fld := ⟨A.PE_STATUS p, 0, 4, 0x0⟩
/-- Address of PE_COUNTERS (R49). -/
def A.PE_COUNTERS (p : Nat) : Nat := 0x200000000 + p * 0x100 + 0x8
def F.PE_COUNTERS_DROPPED_WRITES (p : Nat) : Fld := ⟨A.PE_COUNTERS p, 32, 32, 0x0⟩
def F.PE_COUNTERS_FAULTS_LOST (p : Nat) : Fld := ⟨A.PE_COUNTERS p, 16, 16, 0x0⟩
def F.PE_COUNTERS_RX_REFUSED (p : Nat) : Fld := ⟨A.PE_COUNTERS p, 0, 16, 0x0⟩
/-- Address of PE_CONTROL (R49). -/
def A.PE_CONTROL (p : Nat) : Nat := 0x200000000 + p * 0x100 + 0x10
def F.PE_CONTROL_VALID (p : Nat) : Fld := ⟨A.PE_CONTROL p, 63, 1, 0x0⟩
def F.PE_CONTROL_FORMAT (p : Nat) : Fld := ⟨A.PE_CONTROL p, 0, 8, 0x0⟩
/-- Address of PE_SHARE (R49). -/
def A.PE_SHARE (p : Nat) : Nat := 0x200000000 + p * 0x100 + 0x18
def F.PE_SHARE_DMA_PRIO_CEIL (p : Nat) : Fld := ⟨A.PE_SHARE p, 32, 4, 0x0⟩
def F.PE_SHARE_WEIGHT_DMA (p : Nat) : Fld := ⟨A.PE_SHARE p, 16, 12, 0x0⟩
def F.PE_SHARE_WEIGHT (p : Nat) : Fld := ⟨A.PE_SHARE p, 0, 12, 0x0⟩
/-- Address of PE_RATE (R49). -/
def A.PE_RATE (p r : Nat) : Nat := 0x200000000 + p * 0x100 + 0x20 + 8 * r
def F.PE_RATE_BURST (p r : Nat) : Fld := ⟨A.PE_RATE p r, 20, 16, 0x0⟩
def F.PE_RATE_RATE (p r : Nat) : Fld := ⟨A.PE_RATE p r, 0, 20, 0x0⟩
/-- Address of PE_TIMERS (R49). -/
def A.PE_TIMERS (p : Nat) : Nat := 0x200000000 + p * 0x100 + 0x30
def F.PE_TIMERS_ACK_TIMEOUT (p : Nat) : Fld := ⟨A.PE_TIMERS p, 16, 16, 0x0⟩
def F.PE_TIMERS_COMP_BUDGET (p : Nat) : Fld := ⟨A.PE_TIMERS p, 0, 16, 0x0⟩
/-- Address of PE_WINDOWS (R49). -/
def A.PE_WINDOWS (p : Nat) : Nat := 0x200000000 + p * 0x100 + 0x38
def F.PE_WINDOWS_BASE (p : Nat) : Fld := ⟨A.PE_WINDOWS p, 12, 52, 0x0⟩
def F.PE_WINDOWS_OUT_COUNT (p : Nat) : Fld := ⟨A.PE_WINDOWS p, 6, 6, 0x0⟩
def F.PE_WINDOWS_IN_COUNT (p : Nat) : Fld := ⟨A.PE_WINDOWS p, 0, 6, 0x0⟩
/-- Address of PE_MSIX (R49). -/
def A.PE_MSIX (p : Nat) : Nat := 0x200000000 + p * 0x100 + 0x40
def F.PE_MSIX_VEC_COUNT (p : Nat) : Fld := ⟨A.PE_MSIX p, 32, 12, 0x0⟩
def F.PE_MSIX_VEC_BASE (p : Nat) : Fld := ⟨A.PE_MSIX p, 0, 14, 0x0⟩
/-- Address of PE_CAPS (R49). -/
def A.PE_CAPS (p : Nat) : Nat := 0x200000000 + p * 0x100 + 0x48
def F.PE_CAPS_CHAN_LIMIT (p : Nat) : Fld := ⟨A.PE_CAPS p, 24, 8, 0x0⟩
def F.PE_CAPS_CQ_LIMIT (p : Nat) : Fld := ⟨A.PE_CAPS p, 20, 4, 0x0⟩
def F.PE_CAPS_RAKE_LIMIT (p : Nat) : Fld := ⟨A.PE_CAPS p, 13, 7, 0x0⟩
def F.PE_CAPS_MGMT_EN (p : Nat) : Fld := ⟨A.PE_CAPS p, 7, 1, 0x0⟩
def F.PE_CAPS_INBOUND_EN (p : Nat) : Fld := ⟨A.PE_CAPS p, 6, 1, 0x0⟩
def F.PE_CAPS_ORDERED_EN (p : Nat) : Fld := ⟨A.PE_CAPS p, 5, 1, 0x0⟩
def F.PE_CAPS_HOLD_EN (p : Nat) : Fld := ⟨A.PE_CAPS p, 4, 1, 0x0⟩
def F.PE_CAPS_ATOMIC_EN (p : Nat) : Fld := ⟨A.PE_CAPS p, 3, 1, 0x0⟩
def F.PE_CAPS_SEAL_EN (p : Nat) : Fld := ⟨A.PE_CAPS p, 2, 1, 0x0⟩
def F.PE_CAPS_WEAVE_EN (p : Nat) : Fld := ⟨A.PE_CAPS p, 1, 1, 0x0⟩
def F.PE_CAPS_DMA_EN (p : Nat) : Fld := ⟨A.PE_CAPS p, 0, 1, 0x0⟩
/-- Address of PE_CHAN_TABLE (R49). -/
def A.PE_CHAN_TABLE (p : Nat) : Nat := 0x200000000 + p * 0x100 + 0x60
def F.PE_CHAN_TABLE_BASE (p : Nat) : Fld := ⟨A.PE_CHAN_TABLE p, 12, 52, 0x0⟩
def F.PE_CHAN_TABLE_EN (p : Nat) : Fld := ⟨A.PE_CHAN_TABLE p, 8, 1, 0x0⟩
def F.PE_CHAN_TABLE_CHAN_HIGH (p : Nat) : Fld := ⟨A.PE_CHAN_TABLE p, 0, 8, 0x0⟩
/-- Address of PE_FAULT_LOG (R49). -/
def A.PE_FAULT_LOG (p : Nat) : Nat := 0x200000000 + p * 0x100 + 0x68
def F.PE_FAULT_LOG_BASE (p : Nat) : Fld := ⟨A.PE_FAULT_LOG p, 12, 52, 0x0⟩
def F.PE_FAULT_LOG_SIZE (p : Nat) : Fld := ⟨A.PE_FAULT_LOG p, 8, 4, 0x0⟩
def F.PE_FAULT_LOG_EN (p : Nat) : Fld := ⟨A.PE_FAULT_LOG p, 0, 1, 0x0⟩
/-- Address of PE_FAULT_PTR (R49). -/
def A.PE_FAULT_PTR (p : Nat) : Nat := 0x200000000 + p * 0x100 + 0x70
def F.PE_FAULT_PTR_OVERFLOW (p : Nat) : Fld := ⟨A.PE_FAULT_PTR p, 47, 1, 0x0⟩
def F.PE_FAULT_PTR_HELD (p : Nat) : Fld := ⟨A.PE_FAULT_PTR p, 32, 5, 0x0⟩
def F.PE_FAULT_PTR_PHASE (p : Nat) : Fld := ⟨A.PE_FAULT_PTR p, 12, 1, 0x1⟩
def F.PE_FAULT_PTR_PROD (p : Nat) : Fld := ⟨A.PE_FAULT_PTR p, 0, 12, 0x0⟩
/-- Address of PE_EVENT_VEC (R49). -/
def A.PE_EVENT_VEC (p : Nat) : Nat := 0x200000000 + p * 0x100 + 0x78
def F.PE_EVENT_VEC_MBX_VEC (p : Nat) : Fld := ⟨A.PE_EVENT_VEC p, 16, 11, 0x0⟩
def F.PE_EVENT_VEC_FAULT_VEC (p : Nat) : Fld := ⟨A.PE_EVENT_VEC p, 0, 11, 0x0⟩
/-- Address of PE_CQ (R49). -/
def A.PE_CQ (p k : Nat) : Nat := 0x200000000 + p * 0x100 + 0x80 + 8 * k
def F.PE_CQ_BASE (p k : Nat) : Fld := ⟨A.PE_CQ p k, 12, 52, 0x0⟩
def F.PE_CQ_SIZE (p k : Nat) : Fld := ⟨A.PE_CQ p k, 8, 4, 0x0⟩
def F.PE_CQ_EN (p k : Nat) : Fld := ⟨A.PE_CQ p k, 7, 1, 0x0⟩
def F.PE_CQ_VEC (p k : Nat) : Fld := ⟨A.PE_CQ p k, 0, 7, 0x0⟩
/-- Address of PP_ID (R51). -/
def A.PP_ID (p : Nat) : Nat := 0x100000000 + p * 0x10000
def F.PP_ID_PLOT (p : Nat) : Fld := ⟨A.PP_ID p, 20, 12, 0x0⟩
def F.PP_ID_PORT (p : Nat) : Fld := ⟨A.PP_ID p, 18, 2, 0x0⟩
def F.PP_ID_INDEX (p : Nat) : Fld := ⟨A.PP_ID p, 8, 10, 0x0⟩
def F.PP_ID_FORMAT (p : Nat) : Fld := ⟨A.PP_ID p, 0, 8, 0x1⟩
/-- Address of PP_FAULT_CONS (R63). -/
def A.PP_FAULT_CONS (p : Nat) : Nat := 0x100003808 + p * 0x10000
def F.PP_FAULT_CONS_PHASE (p : Nat) : Fld := ⟨A.PP_FAULT_CONS p, 12, 1, 0x1⟩
def F.PP_FAULT_CONS_CONS (p : Nat) : Fld := ⟨A.PP_FAULT_CONS p, 0, 12, 0x0⟩
/-- Address of PLT_TABLE_BASE (R65). -/
def A.PLT_TABLE_BASE (q : Nat) : Nat := 0x130000 + q * 0x40000
def F.PLT_TABLE_BASE_BASE (q : Nat) : Fld := ⟨A.PLT_TABLE_BASE q, 18, 46, 0x0⟩
def F.PLT_TABLE_BASE_AUTO (q : Nat) : Fld := ⟨A.PLT_TABLE_BASE q, 2, 1, 0x0⟩
def F.PLT_TABLE_BASE_TARGET (q : Nat) : Fld := ⟨A.PLT_TABLE_BASE q, 1, 1, 0x0⟩
def F.PLT_TABLE_BASE_VALID (q : Nat) : Fld := ⟨A.PLT_TABLE_BASE q, 0, 1, 0x0⟩
/-- Address of PLT_TABLE_NODE (R65). -/
def A.PLT_TABLE_NODE (q : Nat) : Nat := 0x130008 + q * 0x40000
def F.PLT_TABLE_NODE_NODE (q : Nat) : Fld := ⟨A.PLT_TABLE_NODE q, 0, 20, 0x0⟩
/-- Address of PLT_CMD (R65). -/
def A.PLT_CMD (q : Nat) : Nat := 0x130010 + q * 0x40000
def F.PLT_CMD_OP (q : Nat) : Fld := ⟨A.PLT_CMD q, 28, 4, 0x0⟩
def F.PLT_CMD_INDEX (q : Nat) : Fld := ⟨A.PLT_CMD q, 0, 10, 0x0⟩
/-- Address of PLT_CMD_STATUS (R65). -/
def A.PLT_CMD_STATUS (q : Nat) : Nat := 0x130018 + q * 0x40000
def F.PLT_CMD_STATUS_BUSY (q : Nat) : Fld := ⟨A.PLT_CMD_STATUS q, 63, 1, 0x0⟩
def F.PLT_CMD_STATUS_OVERRUN (q : Nat) : Fld := ⟨A.PLT_CMD_STATUS q, 62, 1, 0x0⟩
def F.PLT_CMD_STATUS_LOCKED_IGNORED (q : Nat) : Fld := ⟨A.PLT_CMD_STATUS q, 61, 1, 0x0⟩
def F.PLT_CMD_STATUS_RESULT (q : Nat) : Fld := ⟨A.PLT_CMD_STATUS q, 32, 4, 0x0⟩
def F.PLT_CMD_STATUS_OP (q : Nat) : Fld := ⟨A.PLT_CMD_STATUS q, 28, 4, 0x0⟩
def F.PLT_CMD_STATUS_INDEX (q : Nat) : Fld := ⟨A.PLT_CMD_STATUS q, 0, 10, 0x0⟩
/-- Address of PLT_WB (R66). -/
def A.PLT_WB (q : Nat) : Nat := 0x130020 + q * 0x40000
def F.PLT_WB_WB_FAIL (q : Nat) : Fld := ⟨A.PLT_WB q, 48, 16, 0x0⟩
def F.PLT_WB_PERIOD (q : Nat) : Fld := ⟨A.PLT_WB q, 0, 16, 0x64⟩
/-- Address of GRF_WIN_CMD (R101). -/
def A.GRF_WIN_CMD (q : Nat) : Nat := 0x110040 + q * 0x40000
def F.GRF_WIN_CMD_OP (q : Nat) : Fld := ⟨A.GRF_WIN_CMD q, 28, 4, 0x0⟩
def F.GRF_WIN_CMD_WINDOW (q : Nat) : Fld := ⟨A.GRF_WIN_CMD q, 10, 6, 0x0⟩
def F.GRF_WIN_CMD_INDEX (q : Nat) : Fld := ⟨A.GRF_WIN_CMD q, 0, 10, 0x0⟩
/-- Address of GRF_WIN_STATUS (R101). -/
def A.GRF_WIN_STATUS (q : Nat) : Nat := 0x110048 + q * 0x40000
def F.GRF_WIN_STATUS_BUSY (q : Nat) : Fld := ⟨A.GRF_WIN_STATUS q, 63, 1, 0x0⟩
def F.GRF_WIN_STATUS_OVERRUN (q : Nat) : Fld := ⟨A.GRF_WIN_STATUS q, 62, 1, 0x0⟩
def F.GRF_WIN_STATUS_SLOT (q : Nat) : Fld := ⟨A.GRF_WIN_STATUS q, 48, 4, 0x0⟩
def F.GRF_WIN_STATUS_GEN (q : Nat) : Fld := ⟨A.GRF_WIN_STATUS q, 32, 16, 0x0⟩
def F.GRF_WIN_STATUS_RESULT (q : Nat) : Fld := ⟨A.GRF_WIN_STATUS q, 28, 4, 0x0⟩
def F.GRF_WIN_STATUS_WINDOW (q : Nat) : Fld := ⟨A.GRF_WIN_STATUS q, 10, 6, 0x0⟩
def F.GRF_WIN_STATUS_INDEX (q : Nat) : Fld := ⟨A.GRF_WIN_STATUS q, 0, 10, 0x0⟩
/-- Address of GRF_CACHE (R101). -/
def A.GRF_CACHE (q : Nat) : Nat := 0x110050 + q * 0x40000
def F.GRF_CACHE_PIN_STALL (q : Nat) : Fld := ⟨A.GRF_CACHE q, 48, 16, 0x0⟩
def F.GRF_CACHE_FILL_FAIL (q : Nat) : Fld := ⟨A.GRF_CACHE q, 32, 16, 0x0⟩
def F.GRF_CACHE_MISSES (q : Nat) : Fld := ⟨A.GRF_CACHE q, 0, 32, 0x0⟩
/-- Address of GRF_PF_CTRL (R101). -/
def A.GRF_PF_CTRL (q : Nat) : Nat := 0x110060 + q * 0x40000
def F.GRF_PF_CTRL_PLOT_MAX (q : Nat) : Fld := ⟨A.GRF_PF_CTRL q, 8, 8, 0x4⟩
def F.GRF_PF_CTRL_LIFE (q : Nat) : Fld := ⟨A.GRF_PF_CTRL q, 0, 8, 0x5⟩
/-- Address of GRF_PF_COUNT (R101). -/
def A.GRF_PF_COUNT (q : Nat) : Nat := 0x110068 + q * 0x40000
def F.GRF_PF_COUNT_DISCARDS (q : Nat) : Fld := ⟨A.GRF_PF_COUNT q, 32, 32, 0x0⟩
def F.GRF_PF_COUNT_REFUSED (q : Nat) : Fld := ⟨A.GRF_PF_COUNT q, 0, 32, 0x0⟩
/-- Address of GRF_EVENT (R101). -/
def A.GRF_EVENT (q : Nat) : Nat := 0x110070 + q * 0x40000
def F.GRF_EVENT_FENCED (q : Nat) : Fld := ⟨A.GRF_EVENT q, 3, 1, 0x0⟩
def F.GRF_EVENT_FILL_FORMAT (q : Nat) : Fld := ⟨A.GRF_EVENT q, 2, 1, 0x0⟩
def F.GRF_EVENT_FILL_FAIL (q : Nat) : Fld := ⟨A.GRF_EVENT q, 1, 1, 0x0⟩
def F.GRF_EVENT_DRAIN_DONE (q : Nat) : Fld := ⟨A.GRF_EVENT q, 0, 1, 0x0⟩
/-- Address of GRF_DRAIN (R101). -/
def A.GRF_DRAIN (q s : Nat) : Nat := 0x110100 + q * 0x40000 + s * 0x8
def F.GRF_DRAIN_VALID (q s : Nat) : Fld := ⟨A.GRF_DRAIN q s, 63, 1, 0x0⟩
def F.GRF_DRAIN_DONE (q s : Nat) : Fld := ⟨A.GRF_DRAIN q s, 62, 1, 0x0⟩
def F.GRF_DRAIN_RESET (q s : Nat) : Fld := ⟨A.GRF_DRAIN q s, 61, 1, 0x0⟩
def F.GRF_DRAIN_IN_FLIGHT (q s : Nat) : Fld := ⟨A.GRF_DRAIN q s, 32, 24, 0x0⟩
def F.GRF_DRAIN_OLD_GEN (q s : Nat) : Fld := ⟨A.GRF_DRAIN q s, 16, 16, 0x0⟩
def F.GRF_DRAIN_WINDOW (q s : Nat) : Fld := ⟨A.GRF_DRAIN q s, 10, 6, 0x0⟩
def F.GRF_DRAIN_INDEX (q s : Nat) : Fld := ⟨A.GRF_DRAIN q s, 0, 10, 0x0⟩
/-- Address of TRL_CTRL (R126). -/
def A.TRL_CTRL : Nat := 0x70000
def F.TRL_CTRL_EPOCH : Fld := ⟨A.TRL_CTRL, 2, 1, 0x0⟩
def F.TRL_CTRL_READY : Fld := ⟨A.TRL_CTRL, 1, 1, 0x0⟩
def F.TRL_CTRL_EN : Fld := ⟨A.TRL_CTRL, 0, 1, 0x0⟩
/-- Address of TRL_CMD (R126). -/
def A.TRL_CMD : Nat := 0x70018
def F.TRL_CMD_OP : Fld := ⟨A.TRL_CMD, 28, 4, 0x0⟩
def F.TRL_CMD_INDEX : Fld := ⟨A.TRL_CMD, 0, 16, 0x0⟩
/-- Address of TRL_STATUS (R126). -/
def A.TRL_STATUS : Nat := 0x70020
def F.TRL_STATUS_BUSY : Fld := ⟨A.TRL_STATUS, 63, 1, 0x0⟩
def F.TRL_STATUS_OVERRUN : Fld := ⟨A.TRL_STATUS, 62, 1, 0x0⟩
def F.TRL_STATUS_LOCKED_IGNORED : Fld := ⟨A.TRL_STATUS, 61, 1, 0x0⟩
def F.TRL_STATUS_BAD_COUNT : Fld := ⟨A.TRL_STATUS, 32, 16, 0x0⟩
def F.TRL_STATUS_RESULT : Fld := ⟨A.TRL_STATUS, 28, 4, 0x0⟩
def F.TRL_STATUS_FOUND : Fld := ⟨A.TRL_STATUS, 16, 1, 0x0⟩
def F.TRL_STATUS_INDEX : Fld := ⟨A.TRL_STATUS, 0, 16, 0x0⟩
/-- Address of TRL_MISS (R126). -/
def A.TRL_MISS : Nat := 0x70028
def F.TRL_MISS_DEST : Fld := ⟨A.TRL_MISS, 48, 16, 0x0⟩
def F.TRL_MISS_SRC : Fld := ⟨A.TRL_MISS, 32, 16, 0x0⟩
def F.TRL_MISS_MSG : Fld := ⟨A.TRL_MISS, 16, 16, 0x0⟩
def F.TRL_MISS_LOOP : Fld := ⟨A.TRL_MISS, 8, 8, 0x0⟩
def F.TRL_MISS_NOPORT : Fld := ⟨A.TRL_MISS, 0, 8, 0x0⟩
/-- Address of TRL_EVENT (R126). -/
def A.TRL_EVENT : Nat := 0x70030
def F.TRL_EVENT_ECC : Fld := ⟨A.TRL_EVENT, 3, 1, 0x0⟩
def F.TRL_EVENT_LOOP : Fld := ⟨A.TRL_EVENT, 2, 1, 0x0⟩
def F.TRL_EVENT_NOPORT : Fld := ⟨A.TRL_EVENT, 1, 1, 0x0⟩
def F.TRL_EVENT_FAILOVER : Fld := ⟨A.TRL_EVENT, 0, 1, 0x0⟩
/-- Address of TRL_ECC (R126). -/
def A.TRL_ECC : Nat := 0x70038
def F.TRL_ECC_VALID : Fld := ⟨A.TRL_ECC, 63, 1, 0x0⟩
def F.TRL_ECC_INDEX : Fld := ⟨A.TRL_ECC, 0, 16, 0x0⟩
/-- Address of PP_WFL (R145). -/
def A.PP_WFL (p : Nat) : Nat := 0x100000400 + p * 0x10000
def F.PP_WFL_LATCH (p : Nat) : Fld := ⟨A.PP_WFL p, 0, 32, 0x0⟩
/-- Address of PP_LEDGER (R145). -/
def A.PP_LEDGER (p : Nat) : Nat := 0x100000408 + p * 0x10000
def F.PP_LEDGER_WRITES (p : Nat) : Fld := ⟨A.PP_LEDGER p, 32, 17, 0x0⟩
def F.PP_LEDGER_READS (p : Nat) : Fld := ⟨A.PP_LEDGER p, 16, 15, 0x0⟩
/-- Address of LDG_LIMIT (R162). -/
def A.LDG_LIMIT (q : Nat) : Nat := 0x118000 + q * 0x40000
def F.LDG_LIMIT_WR_DMA (q : Nat) : Fld := ⟨A.LDG_LIMIT q, 52, 12, 0x400⟩
def F.LDG_LIMIT_RD_DMA (q : Nat) : Fld := ⟨A.LDG_LIMIT q, 40, 12, 0x400⟩
def F.LDG_LIMIT_WR_PLOT (q : Nat) : Fld := ⟨A.LDG_LIMIT q, 28, 12, 0x100⟩
def F.LDG_LIMIT_RD_PLOT (q : Nat) : Fld := ⟨A.LDG_LIMIT q, 16, 12, 0x100⟩
/-- Address of LDG_RETRY (R163). -/
def A.LDG_RETRY (q : Nat) : Nat := 0x118008 + q * 0x40000
def F.LDG_RETRY_BACKOFF_MAX (q : Nat) : Fld := ⟨A.LDG_RETRY q, 8, 8, 0x40⟩
def F.LDG_RETRY_BACKOFF_MIN (q : Nat) : Fld := ⟨A.LDG_RETRY q, 0, 8, 0x1⟩
/-- Address of LDG_OCC (R164). -/
def A.LDG_OCC (q : Nat) : Nat := 0x118010 + q * 0x40000
def F.LDG_OCC_WR_HIGH (q : Nat) : Fld := ⟨A.LDG_OCC q, 47, 17, 0x0⟩
def F.LDG_OCC_WR_USED (q : Nat) : Fld := ⟨A.LDG_OCC q, 30, 17, 0x0⟩
def F.LDG_OCC_RD_HIGH (q : Nat) : Fld := ⟨A.LDG_OCC q, 15, 15, 0x0⟩
def F.LDG_OCC_RD_USED (q : Nat) : Fld := ⟨A.LDG_OCC q, 0, 15, 0x0⟩
/-- Address of LDG_STREAM (R165). -/
def A.LDG_STREAM (q : Nat) : Nat := 0x118018 + q * 0x40000
def F.LDG_STREAM_OUT_FALLBACK (q : Nat) : Fld := ⟨A.LDG_STREAM q, 48, 16, 0x0⟩
def F.LDG_STREAM_IN_FALLBACK (q : Nat) : Fld := ⟨A.LDG_STREAM q, 32, 16, 0x0⟩
def F.LDG_STREAM_OUT_USED (q : Nat) : Fld := ⟨A.LDG_STREAM q, 16, 13, 0x0⟩
def F.LDG_STREAM_IN_USED (q : Nat) : Fld := ⟨A.LDG_STREAM q, 0, 11, 0x0⟩
/-- Address of LDG_COUNT (R166). -/
def A.LDG_COUNT (q : Nat) : Nat := 0x118020 + q * 0x40000
def F.LDG_COUNT_LATE (q : Nat) : Fld := ⟨A.LDG_COUNT q, 48, 16, 0x0⟩
def F.LDG_COUNT_REJECTS (q : Nat) : Fld := ⟨A.LDG_COUNT q, 32, 16, 0x0⟩
def F.LDG_COUNT_TIMEOUTS (q : Nat) : Fld := ⟨A.LDG_COUNT q, 16, 16, 0x0⟩
def F.LDG_COUNT_BUDGETS (q : Nat) : Fld := ⟨A.LDG_COUNT q, 0, 16, 0x0⟩
/-- Address of LDG_EVENT (R167). -/
def A.LDG_EVENT (q : Nat) : Nat := 0x118028 + q * 0x40000
def F.LDG_EVENT_FULL (q : Nat) : Fld := ⟨A.LDG_EVENT q, 4, 1, 0x0⟩
def F.LDG_EVENT_ABSENT (q : Nat) : Fld := ⟨A.LDG_EVENT q, 3, 1, 0x0⟩
def F.LDG_EVENT_BUDGET (q : Nat) : Fld := ⟨A.LDG_EVENT q, 2, 1, 0x0⟩
def F.LDG_EVENT_TIMEOUT (q : Nat) : Fld := ⟨A.LDG_EVENT q, 1, 1, 0x0⟩
def F.LDG_EVENT_REJECT (q : Nat) : Fld := ⟨A.LDG_EVENT q, 0, 1, 0x0⟩
/-- Address of LDG_ATOM (R181). -/
def A.LDG_ATOM (q : Nat) : Nat := 0x118100 + q * 0x40000
def F.LDG_ATOM_REFUSED (q : Nat) : Fld := ⟨A.LDG_ATOM q, 48, 16, 0x0⟩
def F.LDG_ATOM_EXPIRED (q : Nat) : Fld := ⟨A.LDG_ATOM q, 32, 16, 0x0⟩
def F.LDG_ATOM_EMULATED (q : Nat) : Fld := ⟨A.LDG_ATOM q, 0, 32, 0x0⟩
/-- Address of LDG_HOLD (R182). -/
def A.LDG_HOLD (q : Nat) : Nat := 0x118108 + q * 0x40000
def F.LDG_HOLD_EXPIRED_EV (q : Nat) : Fld := ⟨A.LDG_HOLD q, 63, 1, 0x0⟩
def F.LDG_HOLD_REL_FAIL (q : Nat) : Fld := ⟨A.LDG_HOLD q, 32, 16, 0x0⟩
def F.LDG_HOLD_BUSY (q : Nat) : Fld := ⟨A.LDG_HOLD q, 16, 16, 0x0⟩
def F.LDG_HOLD_OUT (q : Nat) : Fld := ⟨A.LDG_HOLD q, 0, 11, 0x0⟩
/-- Address of PP_RAKE_WATCH (R185). -/
def A.PP_RAKE_WATCH (p s : Nat) : Nat := 0x100003d00 + p * 0x10000 + s * 0x20
def F.PP_RAKE_WATCH_OFFSET (p s : Nat) : Fld := ⟨A.PP_RAKE_WATCH p s, 3, 61, 0x0⟩
def F.PP_RAKE_WATCH_BAR (p s : Nat) : Fld := ⟨A.PP_RAKE_WATCH p s, 0, 1, 0x0⟩
/-- Address of PP_RAKE_MASK (R185). -/
def A.PP_RAKE_MASK (p s : Nat) : Nat := 0x100003d08 + p * 0x10000 + s * 0x20
def F.PP_RAKE_MASK_V (p s : Nat) : Fld := ⟨A.PP_RAKE_MASK p s, 0, 64, 0x0⟩
/-- Address of PP_RAKE_CTRL (R185). -/
def A.PP_RAKE_CTRL (p s : Nat) : Nat := 0x100003d10 + p * 0x10000 + s * 0x20
def F.PP_RAKE_CTRL_MODE (p s : Nat) : Fld := ⟨A.PP_RAKE_CTRL p s, 16, 2, 0x0⟩
def F.PP_RAKE_CTRL_VEC (p s : Nat) : Fld := ⟨A.PP_RAKE_CTRL p s, 0, 11, 0x0⟩
/-- Address of PP_RAKE_LAST (R185). -/
def A.PP_RAKE_LAST (p s : Nat) : Nat := 0x100003d18 + p * 0x10000 + s * 0x20
def F.PP_RAKE_LAST_V (p s : Nat) : Fld := ⟨A.PP_RAKE_LAST p s, 0, 64, 0x0⟩
/-- Address of PP_RAKE_CMD (R185). -/
def A.PP_RAKE_CMD (p : Nat) : Nat := 0x100003c00 + p * 0x10000
def F.PP_RAKE_CMD_OP (p : Nat) : Fld := ⟨A.PP_RAKE_CMD p, 28, 4, 0x0⟩
def F.PP_RAKE_CMD_SLOT (p : Nat) : Fld := ⟨A.PP_RAKE_CMD p, 0, 6, 0x0⟩
/-- Address of PP_RAKE_STATUS (R185). -/
def A.PP_RAKE_STATUS (p : Nat) : Nat := 0x100003c08 + p * 0x10000
def F.PP_RAKE_STATUS_BUSY (p : Nat) : Fld := ⟨A.PP_RAKE_STATUS p, 63, 1, 0x0⟩
def F.PP_RAKE_STATUS_OVERRUN (p : Nat) : Fld := ⟨A.PP_RAKE_STATUS p, 62, 1, 0x0⟩
def F.PP_RAKE_STATUS_RESULT (p : Nat) : Fld := ⟨A.PP_RAKE_STATUS p, 32, 4, 0x0⟩
def F.PP_RAKE_STATUS_COUNT (p : Nat) : Fld := ⟨A.PP_RAKE_STATUS p, 8, 7, 0x0⟩
def F.PP_RAKE_STATUS_SLOT (p : Nat) : Fld := ⟨A.PP_RAKE_STATUS p, 0, 6, 0x0⟩
/-- Address of RAK_CTRL (R192). -/
def A.RAK_CTRL : Nat := 0x90000
def F.RAK_CTRL_TIMEOUT : Fld := ⟨A.RAK_CTRL, 24, 8, 0x64⟩
def F.RAK_CTRL_BUDGET : Fld := ⟨A.RAK_CTRL, 0, 14, 0x2710⟩
/-- Address of RAK_STATUS (R192). -/
def A.RAK_STATUS : Nat := 0x90008
def F.RAK_STATUS_DEMAND : Fld := ⟨A.RAK_STATUS, 32, 32, 0x0⟩
def F.RAK_STATUS_WORDS : Fld := ⟨A.RAK_STATUS, 0, 19, 0x0⟩
/-- Address of RAK_COUNT (R192). -/
def A.RAK_COUNT : Nat := 0x90010
def F.RAK_COUNT_SWEEPS : Fld := ⟨A.RAK_COUNT, 32, 32, 0x0⟩
def F.RAK_COUNT_MISSES : Fld := ⟨A.RAK_COUNT, 16, 16, 0x0⟩
def F.RAK_COUNT_ERRORS : Fld := ⟨A.RAK_COUNT, 0, 16, 0x0⟩
/-- Address of RAK_EVENT (R192). -/
def A.RAK_EVENT : Nat := 0x90018
def F.RAK_EVENT_ERROR : Fld := ⟨A.RAK_EVENT, 2, 1, 0x0⟩
def F.RAK_EVENT_MISS : Fld := ⟨A.RAK_EVENT, 1, 1, 0x0⟩
def F.RAK_EVENT_OVERRUN : Fld := ⟨A.RAK_EVENT, 0, 1, 0x0⟩
/-- Address of PGA_CTRL (R213). -/
def A.PGA_CTRL : Nat := 0x80000
def F.PGA_CTRL_SAT_TIME : Fld := ⟨A.PGA_CTRL, 48, 8, 0x64⟩
def F.PGA_CTRL_RAKE_WEIGHT : Fld := ⟨A.PGA_CTRL, 32, 12, 0x10⟩
def F.PGA_CTRL_GDN_WEIGHT : Fld := ⟨A.PGA_CTRL, 16, 12, 0x10⟩
def F.PGA_CTRL_THRU_WEIGHT : Fld := ⟨A.PGA_CTRL, 0, 12, 0x100⟩
/-- Address of PGA_POOL (R213). -/
def A.PGA_POOL : Nat := 0x80008
def F.PGA_POOL_CAP : Fld := ⟨A.PGA_POOL, 0, 11, 0x80⟩
/-- Address of PGA_EVENT (R213). -/
def A.PGA_EVENT : Nat := 0x80010
def F.PGA_EVENT_TRACK_FULL : Fld := ⟨A.PGA_EVENT, 2, 1, 0x0⟩
def F.PGA_EVENT_MGMT_DROP : Fld := ⟨A.PGA_EVENT, 1, 1, 0x0⟩
def F.PGA_EVENT_SAT : Fld := ⟨A.PGA_EVENT, 0, 1, 0x0⟩
/-- Address of PGA_MGMT (R213). -/
def A.PGA_MGMT : Nat := 0x80018
def F.PGA_MGMT_USED : Fld := ⟨A.PGA_MGMT, 32, 9, 0x0⟩
def F.PGA_MGMT_DROPS : Fld := ⟨A.PGA_MGMT, 0, 32, 0x0⟩
/-- Address of PGA_SAT (R213). -/
def A.PGA_SAT (e : Nat) : Nat := 0x80100 + e * 0x8
def F.PGA_SAT_STALL (e : Nat) : Fld := ⟨A.PGA_SAT e, 32, 32, 0x0⟩
def F.PGA_SAT_BUSY (e : Nat) : Fld := ⟨A.PGA_SAT e, 0, 32, 0x0⟩
/-- Address of PGA_OCC (R213). -/
def A.PGA_OCC (i : Nat) : Nat := 0x80200 + i * 0x8
def F.PGA_OCC_HIGH (i : Nat) : Fld := ⟨A.PGA_OCC i, 16, 16, 0x0⟩
def F.PGA_OCC_USED (i : Nat) : Fld := ⟨A.PGA_OCC i, 0, 16, 0x0⟩
/-- Address of PGA_TRACK (R213). -/
def A.PGA_TRACK (q : Nat) : Nat := 0x80300 + q * 0x8
def F.PGA_TRACK_REFUSED (q : Nat) : Fld := ⟨A.PGA_TRACK q, 48, 16, 0x0⟩
def F.PGA_TRACK_READS (q : Nat) : Fld := ⟨A.PGA_TRACK q, 32, 10, 0x0⟩
def F.PGA_TRACK_SPACE (q : Nat) : Fld := ⟨A.PGA_TRACK q, 0, 14, 0x0⟩
/-- Address of PP_DB (R219). -/
def A.PP_DB (p c : Nat) : Nat := 0x100002000 + p * 0x10000 + c * 0x8
def F.PP_DB_HEAD (p c : Nat) : Fld := ⟨A.PP_DB p c, 6, 58, 0x0⟩
def F.PP_DB_OP (p c : Nat) : Fld := ⟨A.PP_DB p c, 0, 4, 0x0⟩
/-- Address of PP_CHAN_STATUS (R220). -/
def A.PP_CHAN_STATUS (p c : Nat) : Nat := 0x100002800 + p * 0x10000 + c * 0x8
def F.PP_CHAN_STATUS_RESIDENT (p c : Nat) : Fld := ⟨A.PP_CHAN_STATUS p c, 15, 1, 0x0⟩
def F.PP_CHAN_STATUS_PENDING (p c : Nat) : Fld := ⟨A.PP_CHAN_STATUS p c, 14, 1, 0x0⟩
def F.PP_CHAN_STATUS_REARM (p c : Nat) : Fld := ⟨A.PP_CHAN_STATUS p c, 13, 1, 0x0⟩
def F.PP_CHAN_STATUS_ABORT_PEND (p c : Nat) : Fld := ⟨A.PP_CHAN_STATUS p c, 12, 1, 0x0⟩
def F.PP_CHAN_STATUS_WITHHELD (p c : Nat) : Fld := ⟨A.PP_CHAN_STATUS p c, 11, 1, 0x0⟩
def F.PP_CHAN_STATUS_CAUSE (p c : Nat) : Fld := ⟨A.PP_CHAN_STATUS p c, 8, 3, 0x0⟩
def F.PP_CHAN_STATUS_STATE (p c : Nat) : Fld := ⟨A.PP_CHAN_STATUS p c, 0, 3, 0x0⟩
/-- Address of PP_DMA (R220). -/
def A.PP_DMA (p : Nat) : Nat := 0x100000410 + p * 0x10000
def F.PP_DMA_DB_IGNORED (p : Nat) : Fld := ⟨A.PP_DMA p, 0, 32, 0x0⟩
/-- Address of PP_CQ_HEAD (R240). -/
def A.PP_CQ_HEAD (p k : Nat) : Nat := 0x100003000 + p * 0x10000 + k * 0x8
def F.PP_CQ_HEAD_PHASE (p k : Nat) : Fld := ⟨A.PP_CQ_HEAD p k, 16, 1, 0x1⟩
def F.PP_CQ_HEAD_CONS (p k : Nat) : Fld := ⟨A.PP_CQ_HEAD p k, 0, 16, 0x0⟩
/-- Address of PP_CQ_PROD (R240). -/
def A.PP_CQ_PROD (p k : Nat) : Nat := 0x100003080 + p * 0x10000 + k * 0x8
def F.PP_CQ_PROD_FULL (p k : Nat) : Fld := ⟨A.PP_CQ_PROD p k, 63, 1, 0x0⟩
def F.PP_CQ_PROD_WAITING (p k : Nat) : Fld := ⟨A.PP_CQ_PROD p k, 32, 9, 0x0⟩
def F.PP_CQ_PROD_PHASE (p k : Nat) : Fld := ⟨A.PP_CQ_PROD p k, 16, 1, 0x1⟩
def F.PP_CQ_PROD_PROD (p k : Nat) : Fld := ⟨A.PP_CQ_PROD p k, 0, 16, 0x0⟩
/-- Address of DMA_CTRL (R244). -/
def A.DMA_CTRL (q : Nat) : Nat := 0x120000 + q * 0x40000
def F.DMA_CTRL_SLICE (q : Nat) : Fld := ⟨A.DMA_CTRL q, 16, 16, 0x64⟩
def F.DMA_CTRL_CHAN_OUT (q : Nat) : Fld := ⟨A.DMA_CTRL q, 0, 6, 0x20⟩
/-- Address of DMA_CTX (R244). -/
def A.DMA_CTX (q : Nat) : Nat := 0x120008 + q * 0x40000
def F.DMA_CTX_PENDING (q : Nat) : Fld := ⟨A.DMA_CTX q, 32, 19, 0x0⟩
def F.DMA_CTX_HIGH (q : Nat) : Fld := ⟨A.DMA_CTX q, 16, 12, 0x0⟩
def F.DMA_CTX_USED (q : Nat) : Fld := ⟨A.DMA_CTX q, 0, 12, 0x0⟩
/-- Address of DMA_COUNT (R244). -/
def A.DMA_COUNT (q : Nat) : Nat := 0x120010 + q * 0x40000
def F.DMA_COUNT_DESCS (q : Nat) : Fld := ⟨A.DMA_COUNT q, 32, 32, 0x0⟩
def F.DMA_COUNT_BAD (q : Nat) : Fld := ⟨A.DMA_COUNT q, 16, 16, 0x0⟩
def F.DMA_COUNT_HALTS (q : Nat) : Fld := ⟨A.DMA_COUNT q, 0, 16, 0x0⟩
/-- Address of DMA_BYTES (R244). -/
def A.DMA_BYTES (q : Nat) : Nat := 0x120018 + q * 0x40000
def F.DMA_BYTES_BYTES (q : Nat) : Fld := ⟨A.DMA_BYTES q, 0, 64, 0x0⟩
/-- Address of DMA_BUF (R244). -/
def A.DMA_BUF (q : Nat) : Nat := 0x120020 + q * 0x40000
def F.DMA_BUF_HIGH (q : Nat) : Fld := ⟨A.DMA_BUF q, 16, 16, 0x0⟩
def F.DMA_BUF_USED (q : Nat) : Fld := ⟨A.DMA_BUF q, 0, 16, 0x0⟩
/-- Address of DMA_EVENT (R244). -/
def A.DMA_EVENT (q : Nat) : Nat := 0x120028 + q * 0x40000
def F.DMA_EVENT_CTX_WAIT (q : Nat) : Fld := ⟨A.DMA_EVENT q, 3, 1, 0x0⟩
def F.DMA_EVENT_CQ_STALL (q : Nat) : Fld := ⟨A.DMA_EVENT q, 2, 1, 0x0⟩
def F.DMA_EVENT_HALT (q : Nat) : Fld := ⟨A.DMA_EVENT q, 1, 1, 0x0⟩
def F.DMA_EVENT_BAD (q : Nat) : Fld := ⟨A.DMA_EVENT q, 0, 1, 0x0⟩
/-- Address of PP_INTX (R272). -/
def A.PP_INTX (p : Nat) : Nat := 0x100000418 + p * 0x10000
def F.PP_INTX_ALL (p : Nat) : Fld := ⟨A.PP_INTX p, 63, 1, 0x0⟩
def F.PP_INTX_ONE (p : Nat) : Fld := ⟨A.PP_INTX p, 62, 1, 0x0⟩
def F.PP_INTX_VECTOR (p : Nat) : Fld := ⟨A.PP_INTX p, 0, 11, 0x0⟩
/-- Address of HPT_CTRL (R286). -/
def A.HPT_CTRL (q : Nat) : Nat := 0x100000 + q * 0x40000
def F.HPT_CTRL_MAX_SPEED (q : Nat) : Fld := ⟨A.HPT_CTRL q, 8, 4, 0x7⟩
def F.HPT_CTRL_MAX_WIDTH (q : Nat) : Fld := ⟨A.HPT_CTRL q, 3, 3, 0x4⟩
def F.HPT_CTRL_RETRAIN (q : Nat) : Fld := ⟨A.HPT_CTRL q, 2, 1, 0x0⟩
def F.HPT_CTRL_LINK_EN (q : Nat) : Fld := ⟨A.HPT_CTRL q, 0, 1, 0x1⟩
/-- Address of HPT_LINK (R286). -/
def A.HPT_LINK (q : Nat) : Nat := 0x100008 + q * 0x40000
def F.HPT_LINK_LTSSM (q : Nat) : Fld := ⟨A.HPT_LINK q, 32, 8, 0x0⟩
def F.HPT_LINK_IDE_SECURE (q : Nat) : Fld := ⟨A.HPT_LINK q, 19, 1, 0x0⟩
def F.HPT_LINK_FLIT (q : Nat) : Fld := ⟨A.HPT_LINK q, 18, 1, 0x0⟩
def F.HPT_LINK_DL_UP (q : Nat) : Fld := ⟨A.HPT_LINK q, 17, 1, 0x0⟩
def F.HPT_LINK_READY (q : Nat) : Fld := ⟨A.HPT_LINK q, 16, 1, 0x0⟩
def F.HPT_LINK_SPEED (q : Nat) : Fld := ⟨A.HPT_LINK q, 8, 4, 0x0⟩
def F.HPT_LINK_WIDTH (q : Nat) : Fld := ⟨A.HPT_LINK q, 0, 5, 0x0⟩
/-- Address of HPT_COUNT (R286). -/
def A.HPT_COUNT (q : Nat) : Nat := 0x100010 + q * 0x40000
def F.HPT_COUNT_UR_SENT (q : Nat) : Fld := ⟨A.HPT_COUNT q, 48, 16, 0x0⟩
def F.HPT_COUNT_CA_SENT (q : Nat) : Fld := ⟨A.HPT_COUNT q, 32, 16, 0x0⟩
def F.HPT_COUNT_POISON_TX (q : Nat) : Fld := ⟨A.HPT_COUNT q, 16, 16, 0x0⟩
def F.HPT_COUNT_LINK_DOWNS (q : Nat) : Fld := ⟨A.HPT_COUNT q, 0, 16, 0x0⟩
/-- Address of HPT_EVENT (R286). -/
def A.HPT_EVENT (q : Nat) : Nat := 0x100018 + q * 0x40000
def F.HPT_EVENT_IDE_FAIL (q : Nat) : Fld := ⟨A.HPT_EVENT q, 4, 1, 0x0⟩
def F.HPT_EVENT_FLR (q : Nat) : Fld := ⟨A.HPT_EVENT q, 3, 1, 0x0⟩
def F.HPT_EVENT_READY (q : Nat) : Fld := ⟨A.HPT_EVENT q, 2, 1, 0x0⟩
def F.HPT_EVENT_RATE (q : Nat) : Fld := ⟨A.HPT_EVENT q, 1, 1, 0x0⟩
def F.HPT_EVENT_LINK_DOWN (q : Nat) : Fld := ⟨A.HPT_EVENT q, 0, 1, 0x0⟩
/-- Address of HPT_FLR (R286). -/
def A.HPT_FLR (q : Nat) : Nat := 0x100020 + q * 0x40000
def F.HPT_FLR_COUNT (q : Nat) : Fld := ⟨A.HPT_FLR q, 32, 32, 0x0⟩
def F.HPT_FLR_INDEX (q : Nat) : Fld := ⟨A.HPT_FLR q, 0, 10, 0x0⟩
/-- Address of CFP_CTRL (R321). -/
def A.CFP_CTRL (f : Nat) : Nat := 0x200000 + f * 0x10000
def F.CFP_CTRL_PRESET (f : Nat) : Fld := ⟨A.CFP_CTRL f, 8, 4, 0x0⟩
def F.CFP_CTRL_MAX_RATE (f : Nat) : Fld := ⟨A.CFP_CTRL f, 4, 2, 0x0⟩
def F.CFP_CTRL_PRECODE_REQ_EN (f : Nat) : Fld := ⟨A.CFP_CTRL f, 3, 1, 0x1⟩
def F.CFP_CTRL_RETRAIN (f : Nat) : Fld := ⟨A.CFP_CTRL f, 2, 1, 0x0⟩
def F.CFP_CTRL_EN (f : Nat) : Fld := ⟨A.CFP_CTRL f, 0, 1, 0x0⟩
/-- Address of CFP_STATUS (R322). -/
def A.CFP_STATUS (f : Nat) : Nat := 0x200008 + f * 0x10000
def F.CFP_STATUS_ALIGNED (f : Nat) : Fld := ⟨A.CFP_STATUS f, 15, 1, 0x0⟩
def F.CFP_STATUS_PRECODE_RX (f : Nat) : Fld := ⟨A.CFP_STATUS f, 14, 1, 0x0⟩
def F.CFP_STATUS_PRECODE_TX (f : Nat) : Fld := ⟨A.CFP_STATUS f, 13, 1, 0x0⟩
def F.CFP_STATUS_CLK_RX (f : Nat) : Fld := ⟨A.CFP_STATUS f, 12, 1, 0x0⟩
def F.CFP_STATUS_RATE (f : Nat) : Fld := ⟨A.CFP_STATUS f, 10, 2, 0x0⟩
def F.CFP_STATUS_RX_DRIFT (f : Nat) : Fld := ⟨A.CFP_STATUS f, 5, 1, 0x0⟩
def F.CFP_STATUS_TX_DRIFT (f : Nat) : Fld := ⟨A.CFP_STATUS f, 4, 1, 0x0⟩
def F.CFP_STATUS_STATE (f : Nat) : Fld := ⟨A.CFP_STATUS f, 0, 3, 0x0⟩
/-- Address of CFP_PM (R323). -/
def A.CFP_PM (f : Nat) : Nat := 0x200010 + f * 0x10000
def F.CFP_PM_REFRESH (f : Nat) : Fld := ⟨A.CFP_PM f, 48, 16, 0x64⟩
def F.CFP_PM_HUSH_IDLE (f : Nat) : Fld := ⟨A.CFP_PM f, 32, 16, 0x64⟩
def F.CFP_PM_DRIFT_IDLE (f : Nat) : Fld := ⟨A.CFP_PM f, 16, 16, 0xc8⟩
def F.CFP_PM_HUSH_EN (f : Nat) : Fld := ⟨A.CFP_PM f, 1, 1, 0x1⟩
def F.CFP_PM_DRIFT_EN (f : Nat) : Fld := ⟨A.CFP_PM f, 0, 1, 0x1⟩
/-- Address of CFP_TRAIN (R324). -/
def A.CFP_TRAIN (f : Nat) : Nat := 0x200018 + f * 0x10000
def F.CFP_TRAIN_FAILS (f : Nat) : Fld := ⟨A.CFP_TRAIN f, 48, 16, 0x0⟩
def F.CFP_TRAIN_LAST_STEP (f : Nat) : Fld := ⟨A.CFP_TRAIN f, 44, 4, 0x0⟩
def F.CFP_TRAIN_LAST_RATE (f : Nat) : Fld := ⟨A.CFP_TRAIN f, 42, 2, 0x0⟩
def F.CFP_TRAIN_SER_LIMIT (f : Nat) : Fld := ⟨A.CFP_TRAIN f, 16, 16, 0x100⟩
def F.CFP_TRAIN_RETRY (f : Nat) : Fld := ⟨A.CFP_TRAIN f, 0, 16, 0xa⟩
/-- Address of CFP_FEC (R324). -/
def A.CFP_FEC (f : Nat) : Nat := 0x200020 + f * 0x10000
def F.CFP_FEC_CORR (f : Nat) : Fld := ⟨A.CFP_FEC f, 32, 32, 0x0⟩
def F.CFP_FEC_UNCORR (f : Nat) : Fld := ⟨A.CFP_FEC f, 16, 16, 0x0⟩
def F.CFP_FEC_RETRAINS (f : Nat) : Fld := ⟨A.CFP_FEC f, 0, 16, 0x0⟩
/-- Address of CFP_EVENT (R325). -/
def A.CFP_EVENT (f : Nat) : Nat := 0x200028 + f * 0x10000
def F.CFP_EVENT_CLK_LOSS (f : Nat) : Fld := ⟨A.CFP_EVENT f, 5, 1, 0x0⟩
def F.CFP_EVENT_HUSH (f : Nat) : Fld := ⟨A.CFP_EVENT f, 4, 1, 0x0⟩
def F.CFP_EVENT_RETRAIN (f : Nat) : Fld := ⟨A.CFP_EVENT f, 3, 1, 0x0⟩
def F.CFP_EVENT_UNCORR (f : Nat) : Fld := ⟨A.CFP_EVENT f, 2, 1, 0x0⟩
def F.CFP_EVENT_TRAIN_FAIL (f : Nat) : Fld := ⟨A.CFP_EVENT f, 1, 1, 0x0⟩
def F.CFP_EVENT_UP (f : Nat) : Fld := ⟨A.CFP_EVENT f, 0, 1, 0x0⟩
/-- Address of CFP_LANE (R326). -/
def A.CFP_LANE (f l : Nat) : Nat := 0x200100 + f * 0x10000 + l * 0x8
def F.CFP_LANE_SYM_ERR (f l : Nat) : Fld := ⟨A.CFP_LANE f l, 48, 16, 0x0⟩
def F.CFP_LANE_SKEW (f l : Nat) : Fld := ⟨A.CFP_LANE f l, 32, 10, 0x0⟩
def F.CFP_LANE_PI_CODE (f l : Nat) : Fld := ⟨A.CFP_LANE f l, 24, 8, 0x0⟩
def F.CFP_LANE_TX_PRE (f l : Nat) : Fld := ⟨A.CFP_LANE f l, 20, 4, 0x0⟩
def F.CFP_LANE_TX_POST (f l : Nat) : Fld := ⟨A.CFP_LANE f l, 16, 4, 0x0⟩
def F.CFP_LANE_POLARITY (f l : Nat) : Fld := ⟨A.CFP_LANE f l, 4, 1, 0x0⟩
def F.CFP_LANE_PHYS (f l : Nat) : Fld := ⟨A.CFP_LANE f l, 0, 3, 0x0⟩
/-- Address of CFK_CTRL (R349). -/
def A.CFK_CTRL (f : Nat) : Nat := 0x208000 + f * 0x10000
def F.CFK_CTRL_REPLAY_LIMIT (f : Nat) : Fld := ⟨A.CFK_CTRL f, 32, 8, 0x4⟩
def F.CFK_CTRL_REPLAY_TIMEOUT (f : Nat) : Fld := ⟨A.CFK_CTRL f, 16, 16, 0x190⟩
def F.CFK_CTRL_ACK_DELAY (f : Nat) : Fld := ⟨A.CFK_CTRL f, 8, 8, 0x40⟩
def F.CFK_CTRL_B_CLASSES (f : Nat) : Fld := ⟨A.CFK_CTRL f, 0, 1, 0x0⟩
/-- Address of CFK_STATUS (R350). -/
def A.CFK_STATUS (f : Nat) : Nat := 0x208008 + f * 0x10000
def F.CFK_STATUS_REPLAYING (f : Nat) : Fld := ⟨A.CFK_STATUS f, 44, 1, 0x0⟩
def F.CFK_STATUS_UNACKED (f : Nat) : Fld := ⟨A.CFK_STATUS f, 32, 12, 0x0⟩
def F.CFK_STATUS_PARTNER_NODE (f : Nat) : Fld := ⟨A.CFK_STATUS f, 12, 20, 0x0⟩
def F.CFK_STATUS_PARTNER_NODE_VALID (f : Nat) : Fld := ⟨A.CFK_STATUS f, 5, 1, 0x0⟩
def F.CFK_STATUS_PARTNER_B (f : Nat) : Fld := ⟨A.CFK_STATUS f, 4, 1, 0x0⟩
def F.CFK_STATUS_LINK (f : Nat) : Fld := ⟨A.CFK_STATUS f, 0, 3, 0x0⟩
/-- Address of CFK_NODE (R351). -/
def A.CFK_NODE (f : Nat) : Nat := 0x208020 + f * 0x10000
def F.CFK_NODE_VALID (f : Nat) : Fld := ⟨A.CFK_NODE f, 20, 1, 0x0⟩
def F.CFK_NODE_NODE (f : Nat) : Fld := ⟨A.CFK_NODE f, 0, 20, 0x0⟩
/-- Address of CFK_COUNT (R352). -/
def A.CFK_COUNT (f : Nat) : Nat := 0x208010 + f * 0x10000
def F.CFK_COUNT_REPLAYS (f : Nat) : Fld := ⟨A.CFK_COUNT f, 48, 16, 0x0⟩
def F.CFK_COUNT_NAK_RX (f : Nat) : Fld := ⟨A.CFK_COUNT f, 32, 16, 0x0⟩
def F.CFK_COUNT_CRC_ERR (f : Nat) : Fld := ⟨A.CFK_COUNT f, 16, 16, 0x0⟩
def F.CFK_COUNT_LOST (f : Nat) : Fld := ⟨A.CFK_COUNT f, 0, 16, 0x0⟩
/-- Address of CFK_EVENT (R352). -/
def A.CFK_EVENT (f : Nat) : Nat := 0x208018 + f * 0x10000
def F.CFK_EVENT_PROTO (f : Nat) : Fld := ⟨A.CFK_EVENT f, 4, 1, 0x0⟩
def F.CFK_EVENT_LOST (f : Nat) : Fld := ⟨A.CFK_EVENT f, 3, 1, 0x0⟩
def F.CFK_EVENT_REPLAY_LIMIT (f : Nat) : Fld := ⟨A.CFK_EVENT f, 2, 1, 0x0⟩
def F.CFK_EVENT_INIT_FAIL (f : Nat) : Fld := ⟨A.CFK_EVENT f, 1, 1, 0x0⟩
def F.CFK_EVENT_UP (f : Nat) : Fld := ⟨A.CFK_EVENT f, 0, 1, 0x0⟩
/-- Address of CFK_CREDIT (R353). -/
def A.CFK_CREDIT (f c : Nat) : Nat := 0x208100 + f * 0x10000 + c * 0x8
def F.CFK_CREDIT_ALLOT_RX (f c : Nat) : Fld := ⟨A.CFK_CREDIT f c, 32, 11, 0x0⟩
def F.CFK_CREDIT_ALLOT_TX (f c : Nat) : Fld := ⟨A.CFK_CREDIT f c, 16, 11, 0x0⟩
def F.CFK_CREDIT_AVAIL (f c : Nat) : Fld := ⟨A.CFK_CREDIT f c, 0, 11, 0x0⟩
/-- Address of CHN_CTRL (R373). -/
def A.CHN_CTRL : Nat := 0x60000
def F.CHN_CTRL_ATTEMPTS : Fld := ⟨A.CHN_CTRL, 28, 4, 0x3⟩
def F.CHN_CTRL_ROLL_TIMEOUT : Fld := ⟨A.CHN_CTRL, 20, 8, 0x5⟩
def F.CHN_CTRL_PERSIST : Fld := ⟨A.CHN_CTRL, 19, 1, 0x1⟩
def F.CHN_CTRL_SEG_RESET_EN : Fld := ⟨A.CHN_CTRL, 18, 1, 0x1⟩
def F.CHN_CTRL_EAST_EN : Fld := ⟨A.CHN_CTRL, 17, 1, 0x1⟩
def F.CHN_CTRL_WEST_EN : Fld := ⟨A.CHN_CTRL, 16, 1, 0x1⟩
def F.CHN_CTRL_EAST_PORT : Fld := ⟨A.CHN_CTRL, 8, 4, 0x7⟩
def F.CHN_CTRL_WEST_PORT : Fld := ⟨A.CHN_CTRL, 4, 4, 0x6⟩
def F.CHN_CTRL_HEAD : Fld := ⟨A.CHN_CTRL, 0, 1, 0x0⟩
/-- Address of CHN_CMD (R373). -/
def A.CHN_CMD : Nat := 0x60008
def F.CHN_CMD_OP : Fld := ⟨A.CHN_CMD, 28, 4, 0x0⟩
/-- Address of CHN_STATUS (R373). -/
def A.CHN_STATUS : Nat := 0x60010
def F.CHN_STATUS_BUSY : Fld := ⟨A.CHN_STATUS, 63, 1, 0x0⟩
def F.CHN_STATUS_OVERRUN : Fld := ⟨A.CHN_STATUS, 62, 1, 0x0⟩
def F.CHN_STATUS_LOCKED_IGNORED : Fld := ⟨A.CHN_STATUS, 61, 1, 0x0⟩
def F.CHN_STATUS_ROLL_ID : Fld := ⟨A.CHN_STATUS, 48, 8, 0x0⟩
def F.CHN_STATUS_COUNT : Fld := ⟨A.CHN_STATUS, 32, 7, 0x0⟩
def F.CHN_STATUS_POSITION : Fld := ⟨A.CHN_STATUS, 24, 6, 0x0⟩
def F.CHN_STATUS_RING : Fld := ⟨A.CHN_STATUS, 19, 1, 0x0⟩
def F.CHN_STATUS_TAIL : Fld := ⟨A.CHN_STATUS, 18, 1, 0x0⟩
def F.CHN_STATUS_ROLL_STATE : Fld := ⟨A.CHN_STATUS, 16, 2, 0x0⟩
/-- Address of CHN_EVENT (R373). -/
def A.CHN_EVENT : Nat := 0x60018
def F.CHN_EVENT_SEG_RESET_REFUSED : Fld := ⟨A.CHN_EVENT, 6, 1, 0x0⟩
def F.CHN_EVENT_ID_MISMATCH : Fld := ⟨A.CHN_EVENT, 5, 1, 0x0⟩
def F.CHN_EVENT_DUAL_HEAD : Fld := ⟨A.CHN_EVENT, 4, 1, 0x0⟩
def F.CHN_EVENT_OVERFLOW : Fld := ⟨A.CHN_EVENT, 3, 1, 0x0⟩
def F.CHN_EVENT_CONFLICT : Fld := ⟨A.CHN_EVENT, 2, 1, 0x0⟩
def F.CHN_EVENT_FAIL : Fld := ⟨A.CHN_EVENT, 1, 1, 0x0⟩
def F.CHN_EVENT_COMPLETE : Fld := ⟨A.CHN_EVENT, 0, 1, 0x0⟩
/-- Address of CHN_COUNT (R373). -/
def A.CHN_COUNT : Nat := 0x60020
def F.CHN_COUNT_SB_ERR : Fld := ⟨A.CHN_COUNT, 48, 16, 0x0⟩
def F.CHN_COUNT_RETRIES : Fld := ⟨A.CHN_COUNT, 32, 16, 0x0⟩
def F.CHN_COUNT_ROLLS : Fld := ⟨A.CHN_COUNT, 16, 16, 0x0⟩
def F.CHN_COUNT_REROLLS : Fld := ⟨A.CHN_COUNT, 0, 16, 0x0⟩
/-- Address of PP_MBX_OWN (R390). -/
def A.PP_MBX_OWN (p : Nat) : Nat := 0x100000480 + p * 0x10000
def F.PP_MBX_OWN_GDN (p : Nat) : Fld := ⟨A.PP_MBX_OWN p, 0, 16, 0x0⟩
/-- Address of PP_MBX_DB (R390). -/
def A.PP_MBX_DB (p : Nat) : Nat := 0x100000488 + p * 0x10000
def F.PP_MBX_DB_SLOT (p : Nat) : Fld := ⟨A.PP_MBX_DB p, 0, 16, 0x0⟩
/-- Address of PP_MBX_DONE (R390). -/
def A.PP_MBX_DONE (p : Nat) : Nat := 0x100000490 + p * 0x10000
def F.PP_MBX_DONE_SLOT (p : Nat) : Fld := ⟨A.PP_MBX_DONE p, 0, 16, 0x0⟩
/-- Address of PP_MBX_COUNT (R390). -/
def A.PP_MBX_COUNT (p : Nat) : Nat := 0x100000498 + p * 0x10000
def F.PP_MBX_COUNT_WR_IGNORED (p : Nat) : Fld := ⟨A.PP_MBX_COUNT p, 16, 16, 0x0⟩
def F.PP_MBX_COUNT_DB_IGNORED (p : Nat) : Fld := ⟨A.PP_MBX_COUNT p, 0, 16, 0x0⟩
/-- Address of MBX_GPEND (R391). -/
def A.MBX_GPEND (g : Nat) : Nat := 0x30010000 + g * 0x8
def F.MBX_GPEND_PLOTS (g : Nat) : Fld := ⟨A.MBX_GPEND g, 0, 32, 0x0⟩
/-- Address of MBX_PEND (R391). -/
def A.MBX_PEND (p : Nat) : Nat := 0x30011000 + p * 0x8
def F.MBX_PEND_OWN (p : Nat) : Fld := ⟨A.MBX_PEND p, 16, 16, 0x0⟩
def F.MBX_PEND_SLOT (p : Nat) : Fld := ⟨A.MBX_PEND p, 0, 16, 0x0⟩
/-- Address of MBX_RETURN (R391). -/
def A.MBX_RETURN : Nat := 0x3001a000
def F.MBX_RETURN_PLOT : Fld := ⟨A.MBX_RETURN, 16, 12, 0x0⟩
def F.MBX_RETURN_SLOTS : Fld := ⟨A.MBX_RETURN, 0, 16, 0x0⟩
/-- Address of MBX_EVENT (R391). -/
def A.MBX_EVENT : Nat := 0x3001a008
def F.MBX_EVENT_MQ_EXPIRED : Fld := ⟨A.MBX_EVENT, 4, 1, 0x0⟩
def F.MBX_EVENT_ECC : Fld := ⟨A.MBX_EVENT, 3, 1, 0x0⟩
def F.MBX_EVENT_RETURN_IGNORED : Fld := ⟨A.MBX_EVENT, 2, 1, 0x0⟩
def F.MBX_EVENT_NOT_OWNER : Fld := ⟨A.MBX_EVENT, 1, 1, 0x0⟩
/-- Address of MBX_MQ_ENTRY0 (R392). -/
def A.MBX_MQ_ENTRY0 : Nat := 0x3001b000
def F.MBX_MQ_ENTRY0_VALID : Fld := ⟨A.MBX_MQ_ENTRY0, 63, 1, 0x0⟩
def F.MBX_MQ_ENTRY0_SRC : Fld := ⟨A.MBX_MQ_ENTRY0, 24, 20, 0x0⟩
def F.MBX_MQ_ENTRY0_TENANT : Fld := ⟨A.MBX_MQ_ENTRY0, 8, 16, 0x0⟩
def F.MBX_MQ_ENTRY0_OP : Fld := ⟨A.MBX_MQ_ENTRY0, 0, 8, 0x0⟩
/-- Address of MBX_MQ_ENTRY1 (R392). -/
def A.MBX_MQ_ENTRY1 : Nat := 0x3001b008
def F.MBX_MQ_ENTRY1_V : Fld := ⟨A.MBX_MQ_ENTRY1, 0, 64, 0x0⟩
/-- Address of MBX_MQ_ENTRY2 (R392). -/
def A.MBX_MQ_ENTRY2 : Nat := 0x3001b010
def F.MBX_MQ_ENTRY2_V : Fld := ⟨A.MBX_MQ_ENTRY2, 0, 64, 0x0⟩
/-- Address of MBX_MQ_ENTRY3 (R392). -/
def A.MBX_MQ_ENTRY3 : Nat := 0x3001b018
def F.MBX_MQ_ENTRY3_V : Fld := ⟨A.MBX_MQ_ENTRY3, 0, 64, 0x0⟩
/-- Address of MBX_MQ_RESP (R392). -/
def A.MBX_MQ_RESP : Nat := 0x3001b020
def F.MBX_MQ_RESP_DATA : Fld := ⟨A.MBX_MQ_RESP, 32, 32, 0x0⟩
def F.MBX_MQ_RESP_DISCARD : Fld := ⟨A.MBX_MQ_RESP, 16, 1, 0x0⟩
def F.MBX_MQ_RESP_STATUS : Fld := ⟨A.MBX_MQ_RESP, 8, 8, 0x0⟩
/-- Address of GDN_BOOT (R397). -/
def A.GDN_BOOT : Nat := 0x30000000
def F.GDN_BOOT_VERSION : Fld := ⟨A.GDN_BOOT, 32, 32, 0x0⟩
def F.GDN_BOOT_CONFIRM : Fld := ⟨A.GDN_BOOT, 7, 1, 0x0⟩
def F.GDN_BOOT_FALLBACK : Fld := ⟨A.GDN_BOOT, 6, 1, 0x0⟩
def F.GDN_BOOT_SLOT : Fld := ⟨A.GDN_BOOT, 5, 1, 0x0⟩
def F.GDN_BOOT_RESULT : Fld := ⟨A.GDN_BOOT, 0, 4, 0x0⟩
/-- Address of GDN_FAP (R397). -/
def A.GDN_FAP (k : Nat) : Nat := 0x30000040 + k * 0x8
def F.GDN_FAP_EN (k : Nat) : Fld := ⟨A.GDN_FAP k, 63, 1, 0x0⟩
def F.GDN_FAP_KIND (k : Nat) : Fld := ⟨A.GDN_FAP k, 60, 2, 0x0⟩
def F.GDN_FAP_NODE (k : Nat) : Fld := ⟨A.GDN_FAP k, 28, 20, 0x0⟩
def F.GDN_FAP_BASE (k : Nat) : Fld := ⟨A.GDN_FAP k, 0, 28, 0x0⟩
/-- Address of GDN_FAP_ERR (R397). -/
def A.GDN_FAP_ERR : Nat := 0x30000080
def F.GDN_FAP_ERR_VALID : Fld := ⟨A.GDN_FAP_ERR, 63, 1, 0x0⟩
def F.GDN_FAP_ERR_CORE : Fld := ⟨A.GDN_FAP_ERR, 58, 2, 0x0⟩
def F.GDN_FAP_ERR_WINDOW : Fld := ⟨A.GDN_FAP_ERR, 55, 3, 0x0⟩
def F.GDN_FAP_ERR_CAUSE : Fld := ⟨A.GDN_FAP_ERR, 52, 3, 0x0⟩
def F.GDN_FAP_ERR_STATUS : Fld := ⟨A.GDN_FAP_ERR, 44, 8, 0x0⟩
def F.GDN_FAP_ERR_OFFSET : Fld := ⟨A.GDN_FAP_ERR, 0, 28, 0x0⟩
/-- Address of GDN_FAP_COUNT (R397). -/
def A.GDN_FAP_COUNT : Nat := 0x30000088
def F.GDN_FAP_COUNT_FAILS : Fld := ⟨A.GDN_FAP_COUNT, 32, 32, 0x0⟩
def F.GDN_FAP_COUNT_LATE : Fld := ⟨A.GDN_FAP_COUNT, 0, 16, 0x0⟩
/-- Address of GDN_EVENT (R397). -/
def A.GDN_EVENT : Nat := 0x30000090
def F.GDN_EVENT_FALLBACK : Fld := ⟨A.GDN_EVENT, 1, 1, 0x0⟩
def F.GDN_EVENT_FAP_ERR : Fld := ⟨A.GDN_EVENT, 0, 1, 0x0⟩
/-- Address of HDG_STATUS (R415). -/
def A.HDG_STATUS : Nat := 0x20000
def F.HDG_STATUS_SAFE : Fld := ⟨A.HDG_STATUS, 63, 1, 0x0⟩
def F.HDG_STATUS_RELOADED : Fld := ⟨A.HDG_STATUS, 62, 1, 0x0⟩
def F.HDG_STATUS_SESSION : Fld := ⟨A.HDG_STATUS, 61, 1, 0x0⟩
def F.HDG_STATUS_WDOG_RUN : Fld := ⟨A.HDG_STATUS, 60, 1, 0x0⟩
def F.HDG_STATUS_CAUSE : Fld := ⟨A.HDG_STATUS, 52, 4, 0x0⟩
def F.HDG_STATUS_FENCE_USED : Fld := ⟨A.HDG_STATUS, 32, 14, 0x0⟩
def F.HDG_STATUS_SIDE_USED : Fld := ⟨A.HDG_STATUS, 16, 11, 0x0⟩
def F.HDG_STATUS_GEN : Fld := ⟨A.HDG_STATUS, 0, 16, 0x0⟩
/-- Address of HDG_WDOG (R415). -/
def A.HDG_WDOG : Nat := 0x20008
def F.HDG_WDOG_TOKEN : Fld := ⟨A.HDG_WDOG, 48, 16, 0x1⟩
def F.HDG_WDOG_MAX : Fld := ⟨A.HDG_WDOG, 32, 16, 0x2710⟩
def F.HDG_WDOG_MIN : Fld := ⟨A.HDG_WDOG, 16, 16, 0x4⟩
def F.HDG_WDOG_PERIOD : Fld := ⟨A.HDG_WDOG, 0, 16, 0x3e8⟩
/-- Address of HDG_KICK (R415). -/
def A.HDG_KICK : Nat := 0x20010
def F.HDG_KICK_TOKEN : Fld := ⟨A.HDG_KICK, 0, 16, 0x0⟩
/-- Address of HDG_POWER (R415). -/
def A.HDG_POWER : Nat := 0x20018
def F.HDG_POWER_THROTTLE : Fld := ⟨A.HDG_POWER, 48, 4, 0x0⟩
def F.HDG_POWER_MEASURED : Fld := ⟨A.HDG_POWER, 32, 16, 0x0⟩
def F.HDG_POWER_SOFT_CAP : Fld := ⟨A.HDG_POWER, 16, 16, 0x0⟩
def F.HDG_POWER_CAP : Fld := ⟨A.HDG_POWER, 0, 16, 0x7bc⟩
/-- Address of HDG_COUNT (R415). -/
def A.HDG_COUNT : Nat := 0x20020
def F.HDG_COUNT_FENCE_REFUSED : Fld := ⟨A.HDG_COUNT, 48, 16, 0x0⟩
def F.HDG_COUNT_TAG_FIX : Fld := ⟨A.HDG_COUNT, 32, 16, 0x0⟩
def F.HDG_COUNT_ROOT_REFUSED : Fld := ⟨A.HDG_COUNT, 16, 16, 0x0⟩
def F.HDG_COUNT_TND_REFUSED : Fld := ⟨A.HDG_COUNT, 0, 16, 0x0⟩
/-- Address of HDG_EVENT (R415). -/
def A.HDG_EVENT : Nat := 0x20028
def F.HDG_EVENT_SPDM_DONE : Fld := ⟨A.HDG_EVENT, 7, 1, 0x0⟩
def F.HDG_EVENT_KICK_BAD : Fld := ⟨A.HDG_EVENT, 6, 1, 0x0⟩
def F.HDG_EVENT_TND : Fld := ⟨A.HDG_EVENT, 5, 1, 0x0⟩
def F.HDG_EVENT_ROOT_RATE : Fld := ⟨A.HDG_EVENT, 4, 1, 0x0⟩
def F.HDG_EVENT_RID : Fld := ⟨A.HDG_EVENT, 3, 1, 0x0⟩
def F.HDG_EVENT_TAG_FIX : Fld := ⟨A.HDG_EVENT, 2, 1, 0x0⟩
def F.HDG_EVENT_LIST_CHANGE : Fld := ⟨A.HDG_EVENT, 1, 1, 0x0⟩
def F.HDG_EVENT_EARLY : Fld := ⟨A.HDG_EVENT, 0, 1, 0x0⟩
/-- Address of HDG_SPDM_CTRL (R415). -/
def A.HDG_SPDM_CTRL : Nat := 0x20030
def F.HDG_SPDM_CTRL_BUSY : Fld := ⟨A.HDG_SPDM_CTRL, 63, 1, 0x0⟩
def F.HDG_SPDM_CTRL_GO : Fld := ⟨A.HDG_SPDM_CTRL, 62, 1, 0x0⟩
def F.HDG_SPDM_CTRL_LEN : Fld := ⟨A.HDG_SPDM_CTRL, 0, 13, 0x0⟩
/-- Address of HDG_READ_SEL (R415). -/
def A.HDG_READ_SEL : Nat := 0x20038
def F.HDG_READ_SEL_KIND : Fld := ⟨A.HDG_READ_SEL, 62, 2, 0x0⟩
def F.HDG_READ_SEL_PLOT : Fld := ⟨A.HDG_READ_SEL, 8, 12, 0x0⟩
def F.HDG_READ_SEL_ENTRY : Fld := ⟨A.HDG_READ_SEL, 0, 8, 0x0⟩
/-- Address of EVG_ENABLE (R428). -/
def A.EVG_ENABLE (w : Nat) : Nat := 0x10200 + w * 0x8
def F.EVG_ENABLE_ENABLE (w : Nat) : Fld := ⟨A.EVG_ENABLE w, 0, 64, 0x0⟩
/-- Address of EVG_PEND (R428). -/
def A.EVG_PEND (w : Nat) : Nat := 0x10500 + w * 0x8
def F.EVG_PEND_PEND (w : Nat) : Fld := ⟨A.EVG_PEND w, 0, 64, 0x0⟩
/-- Address of EVG_ROUTE (R428). -/
def A.EVG_ROUTE (r : Nat) : Nat := 0x10800 + r * 0x8
def F.EVG_ROUTE_ROUTE (r : Nat) : Fld := ⟨A.EVG_ROUTE r, 0, 64, 0x0⟩
/-- Address of EVG_ROUTE_WR (R428). -/
def A.EVG_ROUTE_WR : Nat := 0x10980
def F.EVG_ROUTE_WR_CORE : Fld := ⟨A.EVG_ROUTE_WR, 16, 2, 0x0⟩
def F.EVG_ROUTE_WR_SOURCE : Fld := ⟨A.EVG_ROUTE_WR, 0, 11, 0x0⟩
/-- Address of EVG_CLAIM (R428). -/
def A.EVG_CLAIM (c : Nat) : Nat := 0x10a00 + c * 0x20
def F.EVG_CLAIM_VALID (c : Nat) : Fld := ⟨A.EVG_CLAIM c, 31, 1, 0x0⟩
def F.EVG_CLAIM_BUSY (c : Nat) : Fld := ⟨A.EVG_CLAIM c, 30, 1, 0x0⟩
def F.EVG_CLAIM_SOURCE (c : Nat) : Fld := ⟨A.EVG_CLAIM c, 0, 11, 0x0⟩
/-- Address of EVG_EOI (R428). -/
def A.EVG_EOI (c : Nat) : Nat := 0x10a08 + c * 0x20
def F.EVG_EOI_SOURCE (c : Nat) : Fld := ⟨A.EVG_EOI c, 0, 11, 0x0⟩
/-- Address of EVG_CORE (R428). -/
def A.EVG_CORE (c : Nat) : Nat := 0x10a10 + c * 0x20
def F.EVG_CORE_CLAIMS (c : Nat) : Fld := ⟨A.EVG_CORE c, 32, 32, 0x0⟩
def F.EVG_CORE_SPURIOUS (c : Nat) : Fld := ⟨A.EVG_CORE c, 16, 16, 0x0⟩
def F.EVG_CORE_ACTIVE (c : Nat) : Fld := ⟨A.EVG_CORE c, 15, 1, 0x0⟩
def F.EVG_CORE_MEIP (c : Nat) : Fld := ⟨A.EVG_CORE c, 14, 1, 0x0⟩
def F.EVG_CORE_ACTIVE_SRC (c : Nat) : Fld := ⟨A.EVG_CORE c, 0, 11, 0x0⟩
/-- Address of EVG_STATUS (R429). -/
def A.EVG_STATUS : Nat := 0x10b00
def F.EVG_STATUS_FORMAT : Fld := ⟨A.EVG_STATUS, 1, 1, 0x0⟩
def F.EVG_STATUS_EOI_BAD : Fld := ⟨A.EVG_STATUS, 0, 1, 0x0⟩
/-- Address of ROOT_STATUS (R452). -/
def A.ROOT_STATUS : Nat := 0x30000
def F.ROOT_STATUS_READY : Fld := ⟨A.ROOT_STATUS, 63, 1, 0x0⟩
def F.ROOT_STATUS_PROVISION : Fld := ⟨A.ROOT_STATUS, 62, 1, 0x0⟩
def F.ROOT_STATUS_BUSY : Fld := ⟨A.ROOT_STATUS, 61, 1, 0x0⟩
def F.ROOT_STATUS_COUNT_FAIL : Fld := ⟨A.ROOT_STATUS, 60, 1, 0x0⟩
def F.ROOT_STATUS_REVERTED : Fld := ⟨A.ROOT_STATUS, 59, 1, 0x0⟩
def F.ROOT_STATUS_VALID_B : Fld := ⟨A.ROOT_STATUS, 58, 1, 0x0⟩
def F.ROOT_STATUS_VALID_A : Fld := ⟨A.ROOT_STATUS, 57, 1, 0x0⟩
def F.ROOT_STATUS_QUEUED : Fld := ⟨A.ROOT_STATUS, 54, 3, 0x0⟩
def F.ROOT_STATUS_IN_EFFECT : Fld := ⟨A.ROOT_STATUS, 48, 2, 0x0⟩
def F.ROOT_STATUS_VERSION : Fld := ⟨A.ROOT_STATUS, 0, 32, 0x0⟩
/-- Address of ROOT_ADDR (R452). -/
def A.ROOT_ADDR : Nat := 0x30008
def F.ROOT_ADDR_INC : Fld := ⟨A.ROOT_ADDR, 16, 1, 0x0⟩
def F.ROOT_ADDR_INDEX : Fld := ⟨A.ROOT_ADDR, 0, 13, 0x0⟩
/-- Address of ROOT_DATA (R452). -/
def A.ROOT_DATA : Nat := 0x30010
def F.ROOT_DATA_V : Fld := ⟨A.ROOT_DATA, 0, 64, 0x0⟩
/-- Address of ROOT_WORD (R452). -/
def A.ROOT_WORD : Nat := 0x30018
def F.ROOT_WORD_UNCORR : Fld := ⟨A.ROOT_WORD, 31, 1, 0x0⟩
def F.ROOT_WORD_CORR : Fld := ⟨A.ROOT_WORD, 30, 1, 0x0⟩
def F.ROOT_WORD_WORN : Fld := ⟨A.ROOT_WORD, 29, 1, 0x0⟩
def F.ROOT_WORD_WRITTEN : Fld := ⟨A.ROOT_WORD, 28, 1, 0x0⟩
def F.ROOT_WORD_CLASS : Fld := ⟨A.ROOT_WORD, 24, 3, 0x0⟩
def F.ROOT_WORD_WEAR : Fld := ⟨A.ROOT_WORD, 0, 24, 0x0⟩
/-- Address of ROOT_CMD (R452). -/
def A.ROOT_CMD : Nat := 0x30020
def F.ROOT_CMD_OP : Fld := ⟨A.ROOT_CMD, 28, 4, 0x0⟩
def F.ROOT_CMD_BED : Fld := ⟨A.ROOT_CMD, 24, 2, 0x0⟩
/-- Address of ROOT_RESULT (R452). -/
def A.ROOT_RESULT : Nat := 0x30028
def F.ROOT_RESULT_BUSY : Fld := ⟨A.ROOT_RESULT, 63, 1, 0x0⟩
def F.ROOT_RESULT_OVERRUN : Fld := ⟨A.ROOT_RESULT, 62, 1, 0x0⟩
def F.ROOT_RESULT_WRESULT : Fld := ⟨A.ROOT_RESULT, 32, 4, 0x0⟩
def F.ROOT_RESULT_CRESULT : Fld := ⟨A.ROOT_RESULT, 28, 4, 0x0⟩
def F.ROOT_RESULT_INDEX : Fld := ⟨A.ROOT_RESULT, 0, 13, 0x0⟩
/-- Address of ROOT_EVENT (R452). -/
def A.ROOT_EVENT : Nat := 0x30030
def F.ROOT_EVENT_NO_BED : Fld := ⟨A.ROOT_EVENT, 8, 1, 0x0⟩
def F.ROOT_EVENT_RESET_HELD : Fld := ⟨A.ROOT_EVENT, 7, 1, 0x0⟩
def F.ROOT_EVENT_WEAR_WARN : Fld := ⟨A.ROOT_EVENT, 6, 1, 0x0⟩
def F.ROOT_EVENT_UNCORR : Fld := ⟨A.ROOT_EVENT, 5, 1, 0x0⟩
def F.ROOT_EVENT_CORR : Fld := ⟨A.ROOT_EVENT, 4, 1, 0x0⟩
def F.ROOT_EVENT_VERIFY_FAIL : Fld := ⟨A.ROOT_EVENT, 3, 1, 0x0⟩
def F.ROOT_EVENT_REFUSED : Fld := ⟨A.ROOT_EVENT, 2, 1, 0x0⟩
def F.ROOT_EVENT_REVERTED : Fld := ⟨A.ROOT_EVENT, 1, 1, 0x0⟩
def F.ROOT_EVENT_SELECTED : Fld := ⟨A.ROOT_EVENT, 0, 1, 0x0⟩
/-- Address of ROOT_COUNT (R452). -/
def A.ROOT_COUNT : Nat := 0x30038
def F.ROOT_COUNT_WRITES : Fld := ⟨A.ROOT_COUNT, 32, 32, 0x0⟩
def F.ROOT_COUNT_HOST_IGNORED : Fld := ⟨A.ROOT_COUNT, 24, 8, 0x0⟩
def F.ROOT_COUNT_REFUSED : Fld := ⟨A.ROOT_COUNT, 12, 12, 0x0⟩
def F.ROOT_COUNT_CORR : Fld := ⟨A.ROOT_COUNT, 0, 12, 0x0⟩
/-- Address of PWM_STATUS (R470). -/
def A.PWM_STATUS : Nat := 0x40000
def F.PWM_STATUS_TJ_MAX : Fld := ⟨A.PWM_STATUS, 40, 8, 0x0⟩
def F.PWM_STATUS_THERM_STEP : Fld := ⟨A.PWM_STATUS, 32, 4, 0x0⟩
def F.PWM_STATUS_XTAL : Fld := ⟨A.PWM_STATUS, 20, 1, 0x0⟩
def F.PWM_STATUS_WAKE_SRC : Fld := ⟨A.PWM_STATUS, 16, 4, 0x0⟩
def F.PWM_STATUS_LAST_MODE : Fld := ⟨A.PWM_STATUS, 8, 3, 0x0⟩
def F.PWM_STATUS_MODE : Fld := ⟨A.PWM_STATUS, 0, 3, 0x2⟩
/-- Address of PWM_CMD (R470). -/
def A.PWM_CMD : Nat := 0x40008
def F.PWM_CMD_OP : Fld := ⟨A.PWM_CMD, 28, 4, 0x0⟩
/-- Address of PWM_CMD_STATUS (R470). -/
def A.PWM_CMD_STATUS : Nat := 0x40010
def F.PWM_CMD_STATUS_BUSY : Fld := ⟨A.PWM_CMD_STATUS, 63, 1, 0x0⟩
def F.PWM_CMD_STATUS_OVERRUN : Fld := ⟨A.PWM_CMD_STATUS, 62, 1, 0x0⟩
def F.PWM_CMD_STATUS_RESULT : Fld := ⟨A.PWM_CMD_STATUS, 32, 4, 0x0⟩
def F.PWM_CMD_STATUS_OP : Fld := ⟨A.PWM_CMD_STATUS, 28, 4, 0x0⟩
/-- Address of PWM_GATE (R470). -/
def A.PWM_GATE : Nat := 0x40018
def F.PWM_GATE_WAKES : Fld := ⟨A.PWM_GATE, 32, 32, 0x0⟩
def F.PWM_GATE_RUN : Fld := ⟨A.PWM_GATE, 20, 4, 0xf⟩
def F.PWM_GATE_Q_EN : Fld := ⟨A.PWM_GATE, 16, 4, 0xf⟩
def F.PWM_GATE_IDLE : Fld := ⟨A.PWM_GATE, 0, 16, 0x64⟩
/-- Address of PWM_AVS (R470). -/
def A.PWM_AVS : Nat := 0x40020
def F.PWM_AVS_EN : Fld := ⟨A.PWM_AVS, 63, 1, 0x1⟩
def F.PWM_AVS_MAX_CODE : Fld := ⟨A.PWM_AVS, 40, 5, 0x10⟩
def F.PWM_AVS_MIN_CODE : Fld := ⟨A.PWM_AVS, 32, 5, 0x0⟩
def F.PWM_AVS_FIXED : Fld := ⟨A.PWM_AVS, 16, 5, 0x8⟩
def F.PWM_AVS_TARGET : Fld := ⟨A.PWM_AVS, 8, 5, 0x8⟩
def F.PWM_AVS_CODE : Fld := ⟨A.PWM_AVS, 0, 5, 0x8⟩
/-- Address of PWM_THERM (R470). -/
def A.PWM_THERM : Nat := 0x40028
def F.PWM_THERM_ALERT_STEP : Fld := ⟨A.PWM_THERM, 0, 4, 0x5⟩
/-- Address of PWM_TEMP (R470). -/
def A.PWM_TEMP : Nat := 0x40030
def F.PWM_TEMP_HIGH : Fld := ⟨A.PWM_TEMP, 40, 8, 0x0⟩
def F.PWM_TEMP_PGA : Fld := ⟨A.PWM_TEMP, 32, 8, 0x0⟩
def F.PWM_TEMP_Q : Fld := ⟨A.PWM_TEMP, 0, 32, 0x0⟩
/-- Address of PWM_WAKE (R470). -/
def A.PWM_WAKE : Nat := 0x40038
def F.PWM_WAKE_TIMER : Fld := ⟨A.PWM_WAKE, 0, 32, 0x0⟩
/-- Address of PWM_EVENT (R470). -/
def A.PWM_EVENT : Nat := 0x40040
def F.PWM_EVENT_RAIL_TIMEOUT : Fld := ⟨A.PWM_EVENT, 9, 1, 0x0⟩
def F.PWM_EVENT_DOZE_ABANDONED : Fld := ⟨A.PWM_EVENT, 8, 1, 0x0⟩
def F.PWM_EVENT_REF_LOSS : Fld := ⟨A.PWM_EVENT, 7, 1, 0x0⟩
def F.PWM_EVENT_RAIL_LOSS : Fld := ⟨A.PWM_EVENT, 6, 1, 0x0⟩
def F.PWM_EVENT_RAIL_MISMATCH : Fld := ⟨A.PWM_EVENT, 5, 1, 0x0⟩
def F.PWM_EVENT_AVS_LIMIT : Fld := ⟨A.PWM_EVENT, 4, 1, 0x0⟩
def F.PWM_EVENT_WOKE : Fld := ⟨A.PWM_EVENT, 3, 1, 0x0⟩
def F.PWM_EVENT_THERMAL_SAFE : Fld := ⟨A.PWM_EVENT, 2, 1, 0x0⟩
def F.PWM_EVENT_THERM_STEP : Fld := ⟨A.PWM_EVENT, 1, 1, 0x0⟩
def F.PWM_EVENT_MODE : Fld := ⟨A.PWM_EVENT, 0, 1, 0x0⟩
/-- Address of PWM_COUNT (R470). -/
def A.PWM_COUNT : Nat := 0x40048
def F.PWM_COUNT_DOZES : Fld := ⟨A.PWM_COUNT, 48, 16, 0x0⟩
def F.PWM_COUNT_THROTTLE_MS : Fld := ⟨A.PWM_COUNT, 16, 32, 0x0⟩
def F.PWM_COUNT_SAFE : Fld := ⟨A.PWM_COUNT, 0, 16, 0x0⟩
/-- Address of RST_SOFT (R486). -/
def A.RST_SOFT : Nat := 0x50000
def F.RST_SOFT_CORE : Fld := ⟨A.RST_SOFT, 48, 4, 0x0⟩
def F.RST_SOFT_HDG : Fld := ⟨A.RST_SOFT, 46, 1, 0x0⟩
def F.RST_SOFT_GDN : Fld := ⟨A.RST_SOFT, 45, 1, 0x0⟩
def F.RST_SOFT_EVG : Fld := ⟨A.RST_SOFT, 44, 1, 0x0⟩
def F.RST_SOFT_TST : Fld := ⟨A.RST_SOFT, 43, 1, 0x0⟩
def F.RST_SOFT_CHN : Fld := ⟨A.RST_SOFT, 42, 1, 0x0⟩
def F.RST_SOFT_RAK : Fld := ⟨A.RST_SOFT, 41, 1, 0x0⟩
def F.RST_SOFT_TRL : Fld := ⟨A.RST_SOFT, 40, 1, 0x0⟩
def F.RST_SOFT_CALFOS : Fld := ⟨A.RST_SOFT, 24, 16, 0x0⟩
def F.RST_SOFT_QUAD : Fld := ⟨A.RST_SOFT, 0, 24, 0x0⟩
/-- Address of RST_SOFT_DONE (R487). -/
def A.RST_SOFT_DONE : Nat := 0x50010
def F.RST_SOFT_DONE_DEVICE : Fld := ⟨A.RST_SOFT_DONE, 40, 4, 0x0⟩
def F.RST_SOFT_DONE_PORTS : Fld := ⟨A.RST_SOFT_DONE, 0, 40, 0x0⟩
/-- Address of RST_CMD (R487). -/
def A.RST_CMD : Nat := 0x50018
def F.RST_CMD_OP : Fld := ⟨A.RST_CMD, 28, 4, 0x0⟩
/-- Address of RST_STATUS (R488). -/
def A.RST_STATUS : Nat := 0x50020
def F.RST_STATUS_HELD : Fld := ⟨A.RST_STATUS, 63, 1, 0x0⟩
def F.RST_STATUS_PORT : Fld := ⟨A.RST_STATUS, 16, 4, 0x0⟩
/-- Address of RST_CAUSE (R488). -/
def A.RST_CAUSE : Nat := 0x50028
def F.RST_CAUSE_PREV : Fld := ⟨A.RST_CAUSE, 4, 4, 0x0⟩
def F.RST_CAUSE_LAST : Fld := ⟨A.RST_CAUSE, 0, 4, 0x1⟩
/-- Address of RST_EVENT (R489). -/
def A.RST_EVENT : Nat := 0x50030
def F.RST_EVENT_FORMAT : Fld := ⟨A.RST_EVENT, 2, 1, 0x0⟩
def F.RST_EVENT_SOFT_DONE : Fld := ⟨A.RST_EVENT, 1, 1, 0x0⟩
def F.RST_EVENT_HELD : Fld := ⟨A.RST_EVENT, 0, 1, 0x0⟩
/-- Address of RST_COUNT (R489). -/
def A.RST_COUNT : Nat := 0x50038
def F.RST_COUNT_DEVICE : Fld := ⟨A.RST_COUNT, 48, 16, 0x0⟩
def F.RST_COUNT_SEGMENT : Fld := ⟨A.RST_COUNT, 32, 16, 0x0⟩
def F.RST_COUNT_RAIL : Fld := ⟨A.RST_COUNT, 16, 16, 0x0⟩
def F.RST_COUNT_REF_LOSS : Fld := ⟨A.RST_COUNT, 0, 16, 0x0⟩
/-- Address of TST_EVENT (R505). -/
def A.TST_EVENT : Nat := 0xa0000
def F.TST_EVENT_JTAG_TEST : Fld := ⟨A.TST_EVENT, 5, 1, 0x0⟩
def F.TST_EVENT_LOCKED_IGNORED : Fld := ⟨A.TST_EVENT, 4, 1, 0x0⟩
def F.TST_EVENT_MARGIN_DONE : Fld := ⟨A.TST_EVENT, 3, 1, 0x0⟩
def F.TST_EVENT_GEN_FAIL : Fld := ⟨A.TST_EVENT, 2, 1, 0x0⟩
def F.TST_EVENT_GEN_DONE : Fld := ⟨A.TST_EVENT, 1, 1, 0x0⟩
def F.TST_EVENT_LOCK_LOST : Fld := ⟨A.TST_EVENT, 0, 1, 0x0⟩
/-- Address of TST_PORT (R505). -/
def A.TST_PORT (p : Nat) : Nat := 0xa0040 + p * 0x8
def F.TST_PORT_RATE (p : Nat) : Fld := ⟨A.TST_PORT p, 8, 4, 0x0⟩
def F.TST_PORT_MODE (p : Nat) : Fld := ⟨A.TST_PORT p, 0, 2, 0x0⟩
/-- Address of TST_LANE_CTRL (R505). -/
def A.TST_LANE_CTRL (l : Nat) : Nat := 0xa1000 + l * 0x20
def F.TST_LANE_CTRL_INVERT (l : Nat) : Fld := ⟨A.TST_LANE_CTRL l, 11, 1, 0x0⟩
def F.TST_LANE_CTRL_PRECODE (l : Nat) : Fld := ⟨A.TST_LANE_CTRL l, 10, 1, 0x0⟩
def F.TST_LANE_CTRL_CHK_EN (l : Nat) : Fld := ⟨A.TST_LANE_CTRL l, 9, 1, 0x0⟩
def F.TST_LANE_CTRL_GEN_EN (l : Nat) : Fld := ⟨A.TST_LANE_CTRL l, 8, 1, 0x0⟩
def F.TST_LANE_CTRL_PAT (l : Nat) : Fld := ⟨A.TST_LANE_CTRL l, 0, 3, 0x0⟩
/-- Address of TST_LANE_INJ (R505). -/
def A.TST_LANE_INJ (l : Nat) : Nat := 0xa1008 + l * 0x20
def F.TST_LANE_INJ_GO (l : Nat) : Fld := ⟨A.TST_LANE_INJ l, 63, 1, 0x0⟩
def F.TST_LANE_INJ_MODE (l : Nat) : Fld := ⟨A.TST_LANE_INJ l, 28, 4, 0x0⟩
def F.TST_LANE_INJ_LENM1 (l : Nat) : Fld := ⟨A.TST_LANE_INJ l, 16, 10, 0x0⟩
def F.TST_LANE_INJ_EXP (l : Nat) : Fld := ⟨A.TST_LANE_INJ l, 0, 6, 0x0⟩
/-- Address of TST_LANE_ERR (R505). -/
def A.TST_LANE_ERR (l : Nat) : Nat := 0xa1010 + l * 0x20
def F.TST_LANE_ERR_LOCK (l : Nat) : Fld := ⟨A.TST_LANE_ERR l, 63, 1, 0x0⟩
def F.TST_LANE_ERR_LOST (l : Nat) : Fld := ⟨A.TST_LANE_ERR l, 62, 1, 0x0⟩
def F.TST_LANE_ERR_ERRORS (l : Nat) : Fld := ⟨A.TST_LANE_ERR l, 0, 48, 0x0⟩
/-- Address of TST_LANE_BITS (R505). -/
def A.TST_LANE_BITS (l : Nat) : Nat := 0xa1018 + l * 0x20
def F.TST_LANE_BITS_V (l : Nat) : Fld := ⟨A.TST_LANE_BITS l, 0, 64, 0x0⟩
/-- Address of TST_MARGIN_CMD (R505). -/
def A.TST_MARGIN_CMD : Nat := 0xa0010
def F.TST_MARGIN_CMD_OP : Fld := ⟨A.TST_MARGIN_CMD, 28, 4, 0x0⟩
def F.TST_MARGIN_CMD_PORT : Fld := ⟨A.TST_MARGIN_CMD, 24, 3, 0x0⟩
def F.TST_MARGIN_CMD_LANE : Fld := ⟨A.TST_MARGIN_CMD, 20, 3, 0x0⟩
def F.TST_MARGIN_CMD_EYE : Fld := ⟨A.TST_MARGIN_CMD, 18, 2, 0x0⟩
def F.TST_MARGIN_CMD_AXIS : Fld := ⟨A.TST_MARGIN_CMD, 17, 1, 0x0⟩
def F.TST_MARGIN_CMD_OFFSET : Fld := ⟨A.TST_MARGIN_CMD, 8, 8, 0x0⟩
def F.TST_MARGIN_CMD_DWELL : Fld := ⟨A.TST_MARGIN_CMD, 0, 6, 0x0⟩
/-- Address of TST_MARGIN_RESULT (R505). -/
def A.TST_MARGIN_RESULT : Nat := 0xa0018
def F.TST_MARGIN_RESULT_BUSY : Fld := ⟨A.TST_MARGIN_RESULT, 63, 1, 0x0⟩
def F.TST_MARGIN_RESULT_VALID : Fld := ⟨A.TST_MARGIN_RESULT, 62, 1, 0x0⟩
def F.TST_MARGIN_RESULT_ABORTED : Fld := ⟨A.TST_MARGIN_RESULT, 61, 1, 0x0⟩
def F.TST_MARGIN_RESULT_OVERRUN : Fld := ⟨A.TST_MARGIN_RESULT, 60, 1, 0x0⟩
def F.TST_MARGIN_RESULT_MISMATCHES : Fld := ⟨A.TST_MARGIN_RESULT, 0, 48, 0x0⟩
/-- Address of TST_GEN_CTRL (R505). -/
def A.TST_GEN_CTRL : Nat := 0xa0100
def F.TST_GEN_CTRL_COUNT : Fld := ⟨A.TST_GEN_CTRL, 32, 32, 0x0⟩
def F.TST_GEN_CTRL_LENM1 : Fld := ⟨A.TST_GEN_CTRL, 16, 12, 0x3f⟩
def F.TST_GEN_CTRL_OUTSTANDING : Fld := ⟨A.TST_GEN_CTRL, 8, 8, 0x40⟩
def F.TST_GEN_CTRL_CHECK : Fld := ⟨A.TST_GEN_CTRL, 4, 1, 0x0⟩
def F.TST_GEN_CTRL_OP : Fld := ⟨A.TST_GEN_CTRL, 1, 3, 0x0⟩
def F.TST_GEN_CTRL_EN : Fld := ⟨A.TST_GEN_CTRL, 0, 1, 0x0⟩
/-- Address of TST_GEN_TARGET (R505). -/
def A.TST_GEN_TARGET : Nat := 0xa0108
def F.TST_GEN_TARGET_SEED : Fld := ⟨A.TST_GEN_TARGET, 32, 32, 0x0⟩
def F.TST_GEN_TARGET_NODE : Fld := ⟨A.TST_GEN_TARGET, 0, 20, 0x0⟩
/-- Address of TST_GEN_ADDR (R505). -/
def A.TST_GEN_ADDR : Nat := 0xa0110
def F.TST_GEN_ADDR_WRAP : Fld := ⟨A.TST_GEN_ADDR, 58, 6, 0xc⟩
def F.TST_GEN_ADDR_ADDR : Fld := ⟨A.TST_GEN_ADDR, 0, 56, 0x0⟩
/-- Address of TST_GEN_COUNT (R505). -/
def A.TST_GEN_COUNT : Nat := 0xa0120
def F.TST_GEN_COUNT_DONE : Fld := ⟨A.TST_GEN_COUNT, 32, 32, 0x0⟩
def F.TST_GEN_COUNT_FAILS : Fld := ⟨A.TST_GEN_COUNT, 16, 16, 0x0⟩
def F.TST_GEN_COUNT_MISMATCHES : Fld := ⟨A.TST_GEN_COUNT, 0, 16, 0x0⟩
/-- Address of TST_GEN_LAT (R505). -/
def A.TST_GEN_LAT : Nat := 0xa0128
def F.TST_GEN_LAT_BUSY : Fld := ⟨A.TST_GEN_LAT, 63, 1, 0x0⟩
def F.TST_GEN_LAT_CAUSE : Fld := ⟨A.TST_GEN_LAT, 48, 2, 0x0⟩
def F.TST_GEN_LAT_FSTATUS : Fld := ⟨A.TST_GEN_LAT, 40, 8, 0x0⟩
def F.TST_GEN_LAT_MAX : Fld := ⟨A.TST_GEN_LAT, 16, 16, 0x0⟩
def F.TST_GEN_LAT_MIN : Fld := ⟨A.TST_GEN_LAT, 0, 16, 0xffff⟩
/-- Address of GDN_TND_CFG (R527). -/
def A.GDN_TND_CFG (t : Nat) : Nat := 0x30000800 + t * 0x8
def F.GDN_TND_CFG_SEL (t : Nat) : Fld := ⟨A.GDN_TND_CFG t, 16, 8, 0x0⟩
def F.GDN_TND_CFG_PULL (t : Nat) : Fld := ⟨A.GDN_TND_CFG t, 8, 2, 0x0⟩
def F.GDN_TND_CFG_OUT (t : Nat) : Fld := ⟨A.GDN_TND_CFG t, 7, 1, 0x0⟩
def F.GDN_TND_CFG_TYPE (t : Nat) : Fld := ⟨A.GDN_TND_CFG t, 6, 1, 0x0⟩
def F.GDN_TND_CFG_POL (t : Nat) : Fld := ⟨A.GDN_TND_CFG t, 5, 1, 0x0⟩
def F.GDN_TND_CFG_ROLE (t : Nat) : Fld := ⟨A.GDN_TND_CFG t, 0, 3, 0x0⟩
/-- Address of GDN_STRAP (R527). -/
def A.GDN_STRAP : Nat := 0x30000900
def F.GDN_STRAP_SAMPLED : Fld := ⟨A.GDN_STRAP, 24, 24, 0x0⟩
def F.GDN_STRAP_EFFECTIVE : Fld := ⟨A.GDN_STRAP, 0, 24, 0x0⟩
/-- Address of GDN_TND_IN (R527). -/
def A.GDN_TND_IN : Nat := 0x30000908
def F.GDN_TND_IN_FORMAT : Fld := ⟨A.GDN_TND_IN, 32, 1, 0x0⟩
def F.GDN_TND_IN_LEVEL : Fld := ⟨A.GDN_TND_IN, 0, 24, 0x0⟩

end Sys2Proof.Machine
end

