-- ==== Sys2Proof/Machine/RegTable.lean ====
section
/-!
DEFINITION. The register map (R511 to R513) with the access type of every field (R11), from the spec's field tables, and the read of a
register word. A field's limits are the values that are not reserved encodings (R12).
-/
namespace Sys2Proof.Machine

/-- Access types (R11). -/
inductive Acc where
  | ro | rw | rws | rwl | rwp | w1c | w1s | wo | setclr
  deriving DecidableEq, Repr

/-- A field of a register: lowest bit, width, reset value, access, and the least and greatest value that are not reserved. -/
structure RegFld where
  lo : Nat
  w : Nat
  rst : Nat
  acc : Acc
  lim : Option (Nat × Nat)
  deriving DecidableEq, Repr

/-- A register or an array of registers: its first address, its strides and counts, and its fields. -/
structure RegFam where
  base : Nat
  dims : List (Nat × Nat)
  flds : List RegFld
  deriving DecidableEq, Repr

/-- Part 1 of the device registers. -/
def devRegs0 : List RegFam := [
    -- GLB_ID
    ⟨0x0, [], [⟨16, 16, 0x8256, .ro, none⟩,
      ⟨8, 8, 0x1, .ro, none⟩,
      ⟨4, 4, 0x0, .ro, none⟩,
      ⟨0, 4, 0x0, .ro, none⟩]⟩,
    -- GLB_NODE
    ⟨0x8, [], [⟨20, 1, 0x0, .ro, none⟩,
      ⟨16, 4, 0x0, .ro, none⟩,
      ⟨12, 4, 0x0, .ro, none⟩,
      ⟨6, 6, 0x0, .ro, none⟩]⟩,
    -- GLB_ECC_STATUS
    ⟨0x10, [], [⟨0, 6, 0x0, .w1c, none⟩]⟩,
    -- GLB_ECC_CORR
    ⟨0x18, [], [⟨0, 48, 0x0, .rw, none⟩]⟩,
    -- GLB_ECC_ADDR
    ⟨0x20, [], [⟨63, 1, 0x0, .w1c, none⟩,
      ⟨52, 4, 0x0, .ro, none⟩,
      ⟨0, 25, 0x0, .ro, none⟩]⟩,
    -- GLB_FORMAT
    ⟨0x28, [], [⟨63, 1, 0x0, .w1c, none⟩,
      ⟨56, 3, 0x0, .ro, none⟩,
      ⟨32, 16, 0x0, .rw, none⟩,
      ⟨0, 24, 0x0, .ro, none⟩]⟩,
    -- EVG_ENABLE
    ⟨0x10200, [(0x8, 24)], [⟨0, 64, 0x0, .setclr, none⟩]⟩,
    -- EVG_PEND
    ⟨0x10500, [(0x8, 24)], [⟨0, 64, 0x0, .setclr, none⟩]⟩,
    -- EVG_ROUTE
    ⟨0x10800, [(0x8, 48)], [⟨0, 64, 0x0, .ro, none⟩]⟩,
    -- EVG_ROUTE_WR
    ⟨0x10980, [], [⟨16, 2, 0x0, .wo, none⟩,
      ⟨0, 11, 0x0, .wo, none⟩]⟩,
    -- EVG_CLAIM
    ⟨0x10a00, [(0x20, 4)], [⟨31, 1, 0x0, .ro, none⟩,
      ⟨30, 1, 0x0, .ro, none⟩,
      ⟨0, 11, 0x0, .ro, none⟩]⟩,
    -- EVG_EOI
    ⟨0x10a08, [(0x20, 4)], [⟨0, 11, 0x0, .wo, none⟩]⟩,
    -- EVG_CORE
    ⟨0x10a10, [(0x20, 4)], [⟨32, 32, 0x0, .rw, none⟩,
      ⟨16, 16, 0x0, .rw, none⟩,
      ⟨15, 1, 0x0, .ro, none⟩,
      ⟨14, 1, 0x0, .ro, none⟩,
      ⟨0, 11, 0x0, .ro, none⟩]⟩,
    -- EVG_STATUS
    ⟨0x10b00, [], [⟨1, 1, 0x0, .w1c, none⟩,
      ⟨0, 1, 0x0, .w1c, none⟩]⟩,
    -- HDG_STATUS
    ⟨0x20000, [], [⟨63, 1, 0x0, .ro, none⟩,
      ⟨62, 1, 0x0, .ro, none⟩,
      ⟨61, 1, 0x0, .ro, none⟩,
      ⟨60, 1, 0x0, .ro, none⟩,
      ⟨52, 4, 0x0, .ro, none⟩,
      ⟨32, 14, 0x0, .ro, none⟩,
      ⟨16, 11, 0x0, .ro, none⟩,
      ⟨0, 16, 0x0, .ro, none⟩]⟩,
    -- HDG_WDOG
    ⟨0x20008, [], [⟨48, 16, 0x1, .ro, none⟩,
      ⟨32, 16, 0x2710, .ro, none⟩,
      ⟨16, 16, 0x4, .ro, none⟩,
      ⟨0, 16, 0x3e8, .rw, none⟩]⟩,
    -- HDG_KICK
    ⟨0x20010, [], [⟨0, 16, 0x0, .wo, none⟩]⟩,
    -- HDG_POWER
    ⟨0x20018, [], [⟨48, 4, 0x0, .ro, none⟩,
      ⟨32, 16, 0x0, .ro, none⟩,
      ⟨16, 16, 0x0, .rw, none⟩,
      ⟨0, 16, 0x7bc, .ro, none⟩]⟩,
    -- HDG_COUNT
    ⟨0x20020, [], [⟨48, 16, 0x0, .rw, none⟩,
      ⟨32, 16, 0x0, .rw, none⟩,
      ⟨16, 16, 0x0, .rw, none⟩,
      ⟨0, 16, 0x0, .rw, none⟩]⟩,
    -- HDG_EVENT
    ⟨0x20028, [], [⟨7, 1, 0x0, .w1c, none⟩,
      ⟨6, 1, 0x0, .w1c, none⟩,
      ⟨5, 1, 0x0, .w1c, none⟩,
      ⟨4, 1, 0x0, .w1c, none⟩,
      ⟨3, 1, 0x0, .w1c, none⟩,
      ⟨2, 1, 0x0, .w1c, none⟩,
      ⟨1, 1, 0x0, .w1c, none⟩,
      ⟨0, 1, 0x0, .w1c, none⟩]⟩,
    -- HDG_SPDM_CTRL
    ⟨0x20030, [], [⟨63, 1, 0x0, .ro, none⟩,
      ⟨62, 1, 0x0, .wo, none⟩,
      ⟨0, 13, 0x0, .rw, some (1, 4096)⟩]⟩,
    -- HDG_READ_SEL
    ⟨0x20038, [], [⟨62, 2, 0x0, .rw, none⟩,
      ⟨8, 12, 0x0, .rw, none⟩,
      ⟨0, 8, 0x0, .rw, none⟩]⟩,
    -- HDG_READ_DATA
    ⟨0x20040, [(0x8, 2)], [⟨0, 64, 0x0, .ro, none⟩]⟩,
    -- ROOT_STATUS
    ⟨0x30000, [], [⟨63, 1, 0x0, .ro, none⟩,
      ⟨62, 1, 0x0, .ro, none⟩,
      ⟨61, 1, 0x0, .ro, none⟩,
      ⟨60, 1, 0x0, .ro, none⟩,
      ⟨59, 1, 0x0, .ro, none⟩,
      ⟨58, 1, 0x0, .ro, none⟩,
      ⟨57, 1, 0x0, .ro, none⟩,
      ⟨54, 3, 0x0, .ro, none⟩,
      ⟨48, 2, 0x0, .ro, none⟩,
      ⟨0, 32, 0x0, .ro, none⟩]⟩,
    -- ROOT_ADDR
    ⟨0x30008, [], [⟨16, 1, 0x0, .rw, none⟩,
      ⟨0, 13, 0x0, .rw, none⟩]⟩,
    -- ROOT_DATA
    ⟨0x30010, [], [⟨0, 64, 0x0, .rwp, none⟩]⟩,
    -- ROOT_WORD
    ⟨0x30018, [], [⟨31, 1, 0x0, .ro, none⟩,
      ⟨30, 1, 0x0, .ro, none⟩,
      ⟨29, 1, 0x0, .ro, none⟩,
      ⟨28, 1, 0x0, .ro, none⟩,
      ⟨24, 3, 0x0, .ro, none⟩,
      ⟨0, 24, 0x0, .ro, none⟩]⟩,
    -- ROOT_CMD
    ⟨0x30020, [], [⟨28, 4, 0x0, .wo, none⟩,
      ⟨24, 2, 0x0, .wo, none⟩]⟩,
    -- ROOT_RESULT
    ⟨0x30028, [], [⟨63, 1, 0x0, .ro, none⟩,
      ⟨62, 1, 0x0, .w1c, none⟩,
      ⟨32, 4, 0x0, .ro, none⟩,
      ⟨28, 4, 0x0, .ro, none⟩,
      ⟨0, 13, 0x0, .ro, none⟩]⟩,
    -- ROOT_EVENT
    ⟨0x30030, [], [⟨8, 1, 0x0, .w1c, none⟩,
      ⟨7, 1, 0x0, .w1c, none⟩,
      ⟨6, 1, 0x0, .w1c, none⟩,
      ⟨5, 1, 0x0, .w1c, none⟩,
      ⟨4, 1, 0x0, .w1c, none⟩,
      ⟨3, 1, 0x0, .w1c, none⟩,
      ⟨2, 1, 0x0, .w1c, none⟩,
      ⟨1, 1, 0x0, .w1c, none⟩,
      ⟨0, 1, 0x0, .w1c, none⟩]⟩]

/-- Part 2 of the device registers. -/
def devRegs1 : List RegFam := [
    -- ROOT_COUNT
    ⟨0x30038, [], [⟨32, 32, 0x0, .rw, none⟩,
      ⟨24, 8, 0x0, .rw, none⟩,
      ⟨12, 12, 0x0, .rw, none⟩,
      ⟨0, 12, 0x0, .rw, none⟩]⟩,
    -- PWM_STATUS
    ⟨0x40000, [], [⟨40, 8, 0x0, .ro, none⟩,
      ⟨32, 4, 0x0, .ro, none⟩,
      ⟨20, 1, 0x0, .ro, none⟩,
      ⟨16, 4, 0x0, .ro, none⟩,
      ⟨8, 3, 0x0, .ro, none⟩,
      ⟨0, 3, 0x2, .ro, none⟩]⟩,
    -- PWM_CMD
    ⟨0x40008, [], [⟨28, 4, 0x0, .wo, none⟩]⟩,
    -- PWM_CMD_STATUS
    ⟨0x40010, [], [⟨63, 1, 0x0, .ro, none⟩,
      ⟨62, 1, 0x0, .w1c, none⟩,
      ⟨32, 4, 0x0, .ro, none⟩,
      ⟨28, 4, 0x0, .ro, none⟩]⟩,
    -- PWM_GATE
    ⟨0x40018, [], [⟨32, 32, 0x0, .rw, none⟩,
      ⟨20, 4, 0xf, .ro, none⟩,
      ⟨16, 4, 0xf, .rw, none⟩,
      ⟨0, 16, 0x64, .rw, some (1, 65535)⟩]⟩,
    -- PWM_AVS
    ⟨0x40020, [], [⟨63, 1, 0x1, .rw, none⟩,
      ⟨40, 5, 0x10, .rw, some (0, 16)⟩,
      ⟨32, 5, 0x0, .rw, some (0, 16)⟩,
      ⟨16, 5, 0x8, .rw, some (0, 16)⟩,
      ⟨8, 5, 0x8, .ro, none⟩,
      ⟨0, 5, 0x8, .ro, none⟩]⟩,
    -- PWM_THERM
    ⟨0x40028, [], [⟨0, 4, 0x5, .rw, some (0, 8)⟩]⟩,
    -- PWM_TEMP
    ⟨0x40030, [], [⟨40, 8, 0x0, .rw, none⟩,
      ⟨32, 8, 0x0, .ro, none⟩,
      ⟨0, 32, 0x0, .ro, none⟩]⟩,
    -- PWM_WAKE
    ⟨0x40038, [], [⟨0, 32, 0x0, .rw, none⟩]⟩,
    -- PWM_EVENT
    ⟨0x40040, [], [⟨9, 1, 0x0, .w1c, none⟩,
      ⟨8, 1, 0x0, .w1c, none⟩,
      ⟨7, 1, 0x0, .w1c, none⟩,
      ⟨6, 1, 0x0, .w1c, none⟩,
      ⟨5, 1, 0x0, .w1c, none⟩,
      ⟨4, 1, 0x0, .w1c, none⟩,
      ⟨3, 1, 0x0, .w1c, none⟩,
      ⟨2, 1, 0x0, .w1c, none⟩,
      ⟨1, 1, 0x0, .w1c, none⟩,
      ⟨0, 1, 0x0, .w1c, none⟩]⟩,
    -- PWM_COUNT
    ⟨0x40048, [], [⟨48, 16, 0x0, .rw, none⟩,
      ⟨16, 32, 0x0, .rw, none⟩,
      ⟨0, 16, 0x0, .rw, none⟩]⟩,
    -- RST_SOFT
    ⟨0x50000, [], [⟨48, 4, 0x0, .setclr, none⟩,
      ⟨46, 1, 0x0, .setclr, none⟩,
      ⟨45, 1, 0x0, .setclr, none⟩,
      ⟨44, 1, 0x0, .setclr, none⟩,
      ⟨43, 1, 0x0, .setclr, none⟩,
      ⟨42, 1, 0x0, .setclr, none⟩,
      ⟨41, 1, 0x0, .setclr, none⟩,
      ⟨40, 1, 0x0, .setclr, none⟩,
      ⟨24, 16, 0x0, .setclr, none⟩,
      ⟨0, 24, 0x0, .setclr, none⟩]⟩,
    -- RST_SOFT_DONE
    ⟨0x50010, [], [⟨40, 4, 0x0, .ro, none⟩,
      ⟨0, 40, 0x0, .ro, none⟩]⟩,
    -- RST_CMD
    ⟨0x50018, [], [⟨28, 4, 0x0, .wo, none⟩]⟩,
    -- RST_STATUS
    ⟨0x50020, [], [⟨63, 1, 0x0, .ro, none⟩,
      ⟨16, 4, 0x0, .ro, none⟩]⟩,
    -- RST_CAUSE
    ⟨0x50028, [], [⟨4, 4, 0x0, .ro, none⟩,
      ⟨0, 4, 0x1, .ro, none⟩]⟩,
    -- RST_EVENT
    ⟨0x50030, [], [⟨2, 1, 0x0, .w1c, none⟩,
      ⟨1, 1, 0x0, .w1c, none⟩,
      ⟨0, 1, 0x0, .w1c, none⟩]⟩,
    -- RST_COUNT
    ⟨0x50038, [], [⟨48, 16, 0x0, .rw, none⟩,
      ⟨32, 16, 0x0, .rw, none⟩,
      ⟨16, 16, 0x0, .rw, none⟩,
      ⟨0, 16, 0x0, .rw, none⟩]⟩,
    -- CHN_CTRL
    ⟨0x60000, [], [⟨28, 4, 0x3, .rw, some (1, 15)⟩,
      ⟨20, 8, 0x5, .rw, some (1, 255)⟩,
      ⟨19, 1, 0x1, .rw, none⟩,
      ⟨18, 1, 0x1, .rw, none⟩,
      ⟨17, 1, 0x1, .rw, none⟩,
      ⟨16, 1, 0x1, .rw, none⟩,
      ⟨8, 4, 0x7, .rw, some (0, 7)⟩,
      ⟨4, 4, 0x6, .rw, some (0, 7)⟩,
      ⟨0, 1, 0x0, .rw, none⟩]⟩,
    -- CHN_CMD
    ⟨0x60008, [], [⟨28, 4, 0x0, .wo, none⟩]⟩,
    -- CHN_STATUS
    ⟨0x60010, [], [⟨63, 1, 0x0, .ro, none⟩,
      ⟨62, 1, 0x0, .w1c, none⟩,
      ⟨61, 1, 0x0, .w1c, none⟩,
      ⟨48, 8, 0x0, .ro, none⟩,
      ⟨32, 7, 0x0, .ro, none⟩,
      ⟨24, 6, 0x0, .ro, none⟩,
      ⟨19, 1, 0x0, .ro, none⟩,
      ⟨18, 1, 0x0, .ro, none⟩,
      ⟨16, 2, 0x0, .ro, none⟩]⟩,
    -- CHN_EVENT
    ⟨0x60018, [], [⟨6, 1, 0x0, .w1c, none⟩,
      ⟨5, 1, 0x0, .w1c, none⟩,
      ⟨4, 1, 0x0, .w1c, none⟩,
      ⟨3, 1, 0x0, .w1c, none⟩,
      ⟨2, 1, 0x0, .w1c, none⟩,
      ⟨1, 1, 0x0, .w1c, none⟩,
      ⟨0, 1, 0x0, .w1c, none⟩]⟩,
    -- CHN_COUNT
    ⟨0x60020, [], [⟨48, 16, 0x0, .rw, none⟩,
      ⟨32, 16, 0x0, .rw, none⟩,
      ⟨16, 16, 0x0, .rw, none⟩,
      ⟨0, 16, 0x0, .rw, none⟩]⟩,
    -- TRL_CTRL
    ⟨0x70000, [], [⟨2, 1, 0x0, .rwl, none⟩,
      ⟨1, 1, 0x0, .ro, none⟩,
      ⟨0, 1, 0x0, .rw, none⟩]⟩,
    -- TRL_STAGE0
    ⟨0x70008, [], [⟨0, 64, 0x0, .rws, none⟩]⟩,
    -- TRL_STAGE1
    ⟨0x70010, [], [⟨0, 64, 0x0, .rws, none⟩]⟩,
    -- TRL_CMD
    ⟨0x70018, [], [⟨28, 4, 0x0, .wo, none⟩,
      ⟨0, 16, 0x0, .wo, none⟩]⟩,
    -- TRL_STATUS
    ⟨0x70020, [], [⟨63, 1, 0x0, .ro, none⟩,
      ⟨62, 1, 0x0, .w1c, none⟩,
      ⟨61, 1, 0x0, .w1c, none⟩,
      ⟨32, 16, 0x0, .ro, none⟩,
      ⟨28, 4, 0x0, .ro, none⟩,
      ⟨16, 1, 0x0, .ro, none⟩,
      ⟨0, 16, 0x0, .ro, none⟩]⟩,
    -- TRL_MISS
    ⟨0x70028, [], [⟨48, 16, 0x0, .rw, none⟩,
      ⟨32, 16, 0x0, .rw, none⟩,
      ⟨16, 16, 0x0, .rw, none⟩,
      ⟨8, 8, 0x0, .rw, none⟩,
      ⟨0, 8, 0x0, .rw, none⟩]⟩,
    -- TRL_EVENT
    ⟨0x70030, [], [⟨3, 1, 0x0, .w1c, none⟩,
      ⟨2, 1, 0x0, .w1c, none⟩,
      ⟨1, 1, 0x0, .w1c, none⟩,
      ⟨0, 1, 0x0, .w1c, none⟩]⟩]

/-- Part 3 of the device registers. -/
def devRegs2 : List RegFam := [
    -- TRL_ECC
    ⟨0x70038, [], [⟨63, 1, 0x0, .w1c, none⟩,
      ⟨0, 16, 0x0, .ro, none⟩]⟩,
    -- PGA_CTRL
    ⟨0x80000, [], [⟨48, 8, 0x64, .rw, some (1, 255)⟩,
      ⟨32, 12, 0x10, .rw, some (1, 4095)⟩,
      ⟨16, 12, 0x10, .rw, some (1, 4095)⟩,
      ⟨0, 12, 0x100, .rw, some (1, 4095)⟩]⟩,
    -- PGA_POOL
    ⟨0x80008, [], [⟨0, 11, 0x80, .rw, some (4, 1024)⟩]⟩,
    -- PGA_EVENT
    ⟨0x80010, [], [⟨2, 1, 0x0, .w1c, none⟩,
      ⟨1, 1, 0x0, .w1c, none⟩,
      ⟨0, 1, 0x0, .w1c, none⟩]⟩,
    -- PGA_MGMT
    ⟨0x80018, [], [⟨32, 9, 0x0, .ro, none⟩,
      ⟨0, 32, 0x0, .rw, none⟩]⟩,
    -- PGA_SAT
    ⟨0x80100, [(0x8, 20)], [⟨32, 32, 0x0, .rw, none⟩,
      ⟨0, 32, 0x0, .rw, none⟩]⟩,
    -- PGA_OCC
    ⟨0x80200, [(0x8, 20)], [⟨16, 16, 0x0, .rw, none⟩,
      ⟨0, 16, 0x0, .ro, none⟩]⟩,
    -- PGA_TRACK
    ⟨0x80300, [(0x8, 4)], [⟨48, 16, 0x0, .rw, none⟩,
      ⟨32, 10, 0x0, .ro, none⟩,
      ⟨0, 14, 0x0, .ro, none⟩]⟩,
    -- RAK_CTRL
    ⟨0x90000, [], [⟨24, 8, 0x64, .rw, some (1, 255)⟩,
      ⟨0, 14, 0x2710, .rw, some (1, 10000)⟩]⟩,
    -- RAK_STATUS
    ⟨0x90008, [], [⟨32, 32, 0x0, .ro, none⟩,
      ⟨0, 19, 0x0, .ro, none⟩]⟩,
    -- RAK_COUNT
    ⟨0x90010, [], [⟨32, 32, 0x0, .rw, none⟩,
      ⟨16, 16, 0x0, .rw, none⟩,
      ⟨0, 16, 0x0, .rw, none⟩]⟩,
    -- RAK_EVENT
    ⟨0x90018, [], [⟨2, 1, 0x0, .w1c, none⟩,
      ⟨1, 1, 0x0, .w1c, none⟩,
      ⟨0, 1, 0x0, .w1c, none⟩]⟩,
    -- TST_EVENT
    ⟨0xa0000, [], [⟨5, 1, 0x0, .w1c, none⟩,
      ⟨4, 1, 0x0, .w1c, none⟩,
      ⟨3, 1, 0x0, .w1c, none⟩,
      ⟨2, 1, 0x0, .w1c, none⟩,
      ⟨1, 1, 0x0, .w1c, none⟩,
      ⟨0, 1, 0x0, .w1c, none⟩]⟩,
    -- TST_MARGIN_CMD
    ⟨0xa0010, [], [⟨28, 4, 0x0, .wo, none⟩,
      ⟨24, 3, 0x0, .wo, none⟩,
      ⟨20, 3, 0x0, .wo, none⟩,
      ⟨18, 2, 0x0, .wo, none⟩,
      ⟨17, 1, 0x0, .wo, none⟩,
      ⟨8, 8, 0x0, .wo, none⟩,
      ⟨0, 6, 0x0, .wo, none⟩]⟩,
    -- TST_MARGIN_RESULT
    ⟨0xa0018, [], [⟨63, 1, 0x0, .ro, none⟩,
      ⟨62, 1, 0x0, .ro, none⟩,
      ⟨61, 1, 0x0, .ro, none⟩,
      ⟨60, 1, 0x0, .w1c, none⟩,
      ⟨0, 48, 0x0, .ro, none⟩]⟩,
    -- TST_PORT
    ⟨0xa0040, [(0x8, 12)], [⟨8, 4, 0x0, .rw, none⟩,
      ⟨0, 2, 0x0, .rw, none⟩]⟩,
    -- TST_GEN_CTRL
    ⟨0xa0100, [], [⟨32, 32, 0x0, .rw, none⟩,
      ⟨16, 12, 0x3f, .rw, none⟩,
      ⟨8, 8, 0x40, .rw, some (1, 64)⟩,
      ⟨4, 1, 0x0, .rw, none⟩,
      ⟨1, 3, 0x0, .rw, some (0, 2)⟩,
      ⟨0, 1, 0x0, .rw, none⟩]⟩,
    -- TST_GEN_TARGET
    ⟨0xa0108, [], [⟨32, 32, 0x0, .rw, none⟩,
      ⟨0, 20, 0x0, .rw, none⟩]⟩,
    -- TST_GEN_ADDR
    ⟨0xa0110, [], [⟨58, 6, 0xc, .rw, some (12, 40)⟩,
      ⟨0, 56, 0x0, .rw, none⟩]⟩,
    -- TST_GEN_COUNT
    ⟨0xa0120, [], [⟨32, 32, 0x0, .rw, none⟩,
      ⟨16, 16, 0x0, .rw, none⟩,
      ⟨0, 16, 0x0, .rw, none⟩]⟩,
    -- TST_GEN_LAT
    ⟨0xa0128, [], [⟨63, 1, 0x0, .ro, none⟩,
      ⟨48, 2, 0x0, .w1c, none⟩,
      ⟨40, 8, 0x0, .ro, none⟩,
      ⟨16, 16, 0x0, .ro, none⟩,
      ⟨0, 16, 0xffff, .ro, none⟩]⟩,
    -- TST_LANE_CTRL
    ⟨0xa1000, [(0x20, 128)], [⟨11, 1, 0x0, .rw, none⟩,
      ⟨10, 1, 0x0, .rw, none⟩,
      ⟨9, 1, 0x0, .rw, none⟩,
      ⟨8, 1, 0x0, .rw, none⟩,
      ⟨0, 3, 0x0, .rw, some (0, 5)⟩]⟩,
    -- TST_LANE_INJ
    ⟨0xa1008, [(0x20, 128)], [⟨63, 1, 0x0, .wo, none⟩,
      ⟨28, 4, 0x0, .rw, none⟩,
      ⟨16, 10, 0x0, .rw, none⟩,
      ⟨0, 6, 0x0, .rw, none⟩]⟩,
    -- TST_LANE_ERR
    ⟨0xa1010, [(0x20, 128)], [⟨63, 1, 0x0, .ro, none⟩,
      ⟨62, 1, 0x0, .w1c, none⟩,
      ⟨0, 48, 0x0, .rw, none⟩]⟩,
    -- TST_LANE_BITS
    ⟨0xa1018, [(0x20, 128)], [⟨0, 64, 0x0, .rw, none⟩]⟩,
    -- HPT_CTRL
    ⟨0x100000, [(0x40000, 4)], [⟨8, 4, 0x7, .rwl, some (1, 7)⟩,
      ⟨3, 3, 0x4, .rwl, some (0, 4)⟩,
      ⟨2, 1, 0x0, .wo, none⟩,
      ⟨0, 1, 0x1, .rw, none⟩]⟩,
    -- HPT_LINK
    ⟨0x100008, [(0x40000, 4)], [⟨32, 8, 0x0, .ro, none⟩,
      ⟨19, 1, 0x0, .ro, none⟩,
      ⟨18, 1, 0x0, .ro, none⟩,
      ⟨17, 1, 0x0, .ro, none⟩,
      ⟨16, 1, 0x0, .ro, none⟩,
      ⟨8, 4, 0x0, .ro, none⟩,
      ⟨0, 5, 0x0, .ro, none⟩]⟩,
    -- HPT_COUNT
    ⟨0x100010, [(0x40000, 4)], [⟨48, 16, 0x0, .rw, none⟩,
      ⟨32, 16, 0x0, .rw, none⟩,
      ⟨16, 16, 0x0, .rw, none⟩,
      ⟨0, 16, 0x0, .rw, none⟩]⟩,
    -- HPT_EVENT
    ⟨0x100018, [(0x40000, 4)], [⟨4, 1, 0x0, .w1c, none⟩,
      ⟨3, 1, 0x0, .w1c, none⟩,
      ⟨2, 1, 0x0, .w1c, none⟩,
      ⟨1, 1, 0x0, .w1c, none⟩,
      ⟨0, 1, 0x0, .w1c, none⟩]⟩,
    -- HPT_FLR
    ⟨0x100020, [(0x40000, 4)], [⟨32, 32, 0x0, .rw, none⟩,
      ⟨0, 10, 0x0, .ro, none⟩]⟩]

/-- Part 4 of the device registers. -/
def devRegs3 : List RegFam := [
    -- GRF_STAGE
    ⟨0x110000, [(0x40000, 4), (0x8, 8)], [⟨0, 64, 0x0, .rws, none⟩]⟩,
    -- GRF_WIN_CMD
    ⟨0x110040, [(0x40000, 4)], [⟨28, 4, 0x0, .wo, none⟩,
      ⟨10, 6, 0x0, .wo, none⟩,
      ⟨0, 10, 0x0, .wo, none⟩]⟩,
    -- GRF_WIN_STATUS
    ⟨0x110048, [(0x40000, 4)], [⟨63, 1, 0x0, .ro, none⟩,
      ⟨62, 1, 0x0, .w1c, none⟩,
      ⟨48, 4, 0x0, .ro, none⟩,
      ⟨32, 16, 0x0, .ro, none⟩,
      ⟨28, 4, 0x0, .ro, none⟩,
      ⟨10, 6, 0x0, .ro, none⟩,
      ⟨0, 10, 0x0, .ro, none⟩]⟩,
    -- GRF_CACHE
    ⟨0x110050, [(0x40000, 4)], [⟨48, 16, 0x0, .rw, none⟩,
      ⟨32, 16, 0x0, .rw, none⟩,
      ⟨0, 32, 0x0, .rw, none⟩]⟩,
    -- GRF_PF_CTRL
    ⟨0x110060, [(0x40000, 4)], [⟨8, 8, 0x4, .rw, some (1, 64)⟩,
      ⟨0, 8, 0x5, .rw, none⟩]⟩,
    -- GRF_PF_COUNT
    ⟨0x110068, [(0x40000, 4)], [⟨32, 32, 0x0, .rw, none⟩,
      ⟨0, 32, 0x0, .rw, none⟩]⟩,
    -- GRF_EVENT
    ⟨0x110070, [(0x40000, 4)], [⟨3, 1, 0x0, .w1c, none⟩,
      ⟨2, 1, 0x0, .w1c, none⟩,
      ⟨1, 1, 0x0, .w1c, none⟩,
      ⟨0, 1, 0x0, .w1c, none⟩]⟩,
    -- GRF_DRAIN
    ⟨0x110100, [(0x40000, 4), (0x8, 16)], [⟨63, 1, 0x0, .ro, none⟩,
      ⟨62, 1, 0x0, .w1c, none⟩,
      ⟨61, 1, 0x0, .ro, none⟩,
      ⟨32, 24, 0x0, .ro, none⟩,
      ⟨16, 16, 0x0, .ro, none⟩,
      ⟨10, 6, 0x0, .ro, none⟩,
      ⟨0, 10, 0x0, .ro, none⟩]⟩,
    -- LDG_LIMIT
    ⟨0x118000, [(0x40000, 4)], [⟨52, 12, 0x400, .rw, some (1, 4095)⟩,
      ⟨40, 12, 0x400, .rw, some (1, 4095)⟩,
      ⟨28, 12, 0x100, .rw, some (1, 4095)⟩,
      ⟨16, 12, 0x100, .rw, some (1, 4095)⟩]⟩,
    -- LDG_RETRY
    ⟨0x118008, [(0x40000, 4)], [⟨8, 8, 0x40, .rw, none⟩,
      ⟨0, 8, 0x1, .rw, none⟩]⟩,
    -- LDG_OCC
    ⟨0x118010, [(0x40000, 4)], [⟨47, 17, 0x0, .rw, none⟩,
      ⟨30, 17, 0x0, .ro, none⟩,
      ⟨15, 15, 0x0, .rw, none⟩,
      ⟨0, 15, 0x0, .ro, none⟩]⟩,
    -- LDG_STREAM
    ⟨0x118018, [(0x40000, 4)], [⟨48, 16, 0x0, .rw, none⟩,
      ⟨32, 16, 0x0, .rw, none⟩,
      ⟨16, 13, 0x0, .ro, none⟩,
      ⟨0, 11, 0x0, .ro, none⟩]⟩,
    -- LDG_COUNT
    ⟨0x118020, [(0x40000, 4)], [⟨48, 16, 0x0, .rw, none⟩,
      ⟨32, 16, 0x0, .rw, none⟩,
      ⟨16, 16, 0x0, .rw, none⟩,
      ⟨0, 16, 0x0, .rw, none⟩]⟩,
    -- LDG_EVENT
    ⟨0x118028, [(0x40000, 4)], [⟨4, 1, 0x0, .w1c, none⟩,
      ⟨3, 1, 0x0, .w1c, none⟩,
      ⟨2, 1, 0x0, .w1c, none⟩,
      ⟨1, 1, 0x0, .w1c, none⟩,
      ⟨0, 1, 0x0, .w1c, none⟩]⟩,
    -- LDG_ATOM
    ⟨0x118100, [(0x40000, 4)], [⟨48, 16, 0x0, .rw, none⟩,
      ⟨32, 16, 0x0, .rw, none⟩,
      ⟨0, 32, 0x0, .rw, none⟩]⟩,
    -- LDG_HOLD
    ⟨0x118108, [(0x40000, 4)], [⟨63, 1, 0x0, .w1c, none⟩,
      ⟨32, 16, 0x0, .rw, none⟩,
      ⟨16, 16, 0x0, .rw, none⟩,
      ⟨0, 11, 0x0, .ro, none⟩]⟩,
    -- DMA_CTRL
    ⟨0x120000, [(0x40000, 4)], [⟨16, 16, 0x64, .rw, none⟩,
      ⟨0, 6, 0x20, .rw, some (1, 32)⟩]⟩,
    -- DMA_CTX
    ⟨0x120008, [(0x40000, 4)], [⟨32, 19, 0x0, .ro, none⟩,
      ⟨16, 12, 0x0, .rw, none⟩,
      ⟨0, 12, 0x0, .ro, none⟩]⟩,
    -- DMA_COUNT
    ⟨0x120010, [(0x40000, 4)], [⟨32, 32, 0x0, .rw, none⟩,
      ⟨16, 16, 0x0, .rw, none⟩,
      ⟨0, 16, 0x0, .rw, none⟩]⟩,
    -- DMA_BYTES
    ⟨0x120018, [(0x40000, 4)], [⟨0, 64, 0x0, .rw, none⟩]⟩,
    -- DMA_BUF
    ⟨0x120020, [(0x40000, 4)], [⟨16, 16, 0x0, .rw, none⟩,
      ⟨0, 16, 0x0, .ro, none⟩]⟩,
    -- DMA_EVENT
    ⟨0x120028, [(0x40000, 4)], [⟨3, 1, 0x0, .w1c, none⟩,
      ⟨2, 1, 0x0, .w1c, none⟩,
      ⟨1, 1, 0x0, .w1c, none⟩,
      ⟨0, 1, 0x0, .w1c, none⟩]⟩,
    -- PLT_TABLE_BASE
    ⟨0x130000, [(0x40000, 4)], [⟨18, 46, 0x0, .rw, none⟩,
      ⟨2, 1, 0x0, .rw, none⟩,
      ⟨1, 1, 0x0, .rw, none⟩,
      ⟨0, 1, 0x0, .rw, none⟩]⟩,
    -- PLT_TABLE_NODE
    ⟨0x130008, [(0x40000, 4)], [⟨0, 20, 0x0, .rw, none⟩]⟩,
    -- PLT_CMD
    ⟨0x130010, [(0x40000, 4)], [⟨28, 4, 0x0, .wo, none⟩,
      ⟨0, 10, 0x0, .wo, none⟩]⟩,
    -- PLT_CMD_STATUS
    ⟨0x130018, [(0x40000, 4)], [⟨63, 1, 0x0, .ro, none⟩,
      ⟨62, 1, 0x0, .w1c, none⟩,
      ⟨61, 1, 0x0, .w1c, none⟩,
      ⟨32, 4, 0x0, .ro, none⟩,
      ⟨28, 4, 0x0, .ro, none⟩,
      ⟨0, 10, 0x0, .ro, none⟩]⟩,
    -- PLT_WB
    ⟨0x130020, [(0x40000, 4)], [⟨48, 16, 0x0, .rw, none⟩,
      ⟨0, 16, 0x64, .rw, none⟩]⟩,
    -- CFP_CTRL
    ⟨0x200000, [(0x10000, 8)], [⟨8, 4, 0x0, .rwl, some (0, 7)⟩,
      ⟨4, 2, 0x0, .rwl, some (0, 2)⟩,
      ⟨3, 1, 0x1, .rwl, none⟩,
      ⟨2, 1, 0x0, .wo, none⟩,
      ⟨0, 1, 0x0, .rw, none⟩]⟩,
    -- CFP_STATUS
    ⟨0x200008, [(0x10000, 8)], [⟨15, 1, 0x0, .ro, none⟩,
      ⟨14, 1, 0x0, .ro, none⟩,
      ⟨13, 1, 0x0, .ro, none⟩,
      ⟨12, 1, 0x0, .ro, none⟩,
      ⟨10, 2, 0x0, .ro, none⟩,
      ⟨5, 1, 0x0, .ro, none⟩,
      ⟨4, 1, 0x0, .ro, none⟩,
      ⟨0, 3, 0x0, .ro, none⟩]⟩,
    -- CFP_PM
    ⟨0x200010, [(0x10000, 8)], [⟨48, 16, 0x64, .rw, some (1, 65535)⟩,
      ⟨32, 16, 0x64, .rw, some (1, 65535)⟩,
      ⟨16, 16, 0xc8, .rw, some (1, 65535)⟩,
      ⟨1, 1, 0x1, .rw, none⟩,
      ⟨0, 1, 0x1, .rw, none⟩]⟩]

/-- Part 5 of the device registers. -/
def devRegs4 : List RegFam := [
    -- CFP_TRAIN
    ⟨0x200018, [(0x10000, 8)], [⟨48, 16, 0x0, .rw, none⟩,
      ⟨44, 4, 0x0, .ro, none⟩,
      ⟨42, 2, 0x0, .ro, none⟩,
      ⟨16, 16, 0x100, .rw, none⟩,
      ⟨0, 16, 0xa, .rw, none⟩]⟩,
    -- CFP_FEC
    ⟨0x200020, [(0x10000, 8)], [⟨32, 32, 0x0, .rw, none⟩,
      ⟨16, 16, 0x0, .rw, none⟩,
      ⟨0, 16, 0x0, .rw, none⟩]⟩,
    -- CFP_EVENT
    ⟨0x200028, [(0x10000, 8)], [⟨5, 1, 0x0, .w1c, none⟩,
      ⟨4, 1, 0x0, .w1c, none⟩,
      ⟨3, 1, 0x0, .w1c, none⟩,
      ⟨2, 1, 0x0, .w1c, none⟩,
      ⟨1, 1, 0x0, .w1c, none⟩,
      ⟨0, 1, 0x0, .w1c, none⟩]⟩,
    -- CFP_LANE
    ⟨0x200100, [(0x10000, 8), (0x8, 8)], [⟨48, 16, 0x0, .rw, none⟩,
      ⟨32, 10, 0x0, .ro, none⟩,
      ⟨24, 8, 0x0, .ro, none⟩,
      ⟨20, 4, 0x0, .ro, none⟩,
      ⟨16, 4, 0x0, .ro, none⟩,
      ⟨4, 1, 0x0, .ro, none⟩,
      ⟨0, 3, 0x0, .ro, none⟩]⟩,
    -- CFK_CTRL
    ⟨0x208000, [(0x10000, 8)], [⟨32, 8, 0x4, .rw, some (1, 255)⟩,
      ⟨16, 16, 0x190, .rw, some (1, 65535)⟩,
      ⟨8, 8, 0x40, .rw, some (1, 255)⟩,
      ⟨0, 1, 0x0, .rwl, none⟩]⟩,
    -- CFK_STATUS
    ⟨0x208008, [(0x10000, 8)], [⟨44, 1, 0x0, .ro, none⟩,
      ⟨32, 12, 0x0, .ro, none⟩,
      ⟨12, 20, 0x0, .ro, none⟩,
      ⟨5, 1, 0x0, .ro, none⟩,
      ⟨4, 1, 0x0, .ro, none⟩,
      ⟨0, 3, 0x0, .ro, none⟩]⟩,
    -- CFK_COUNT
    ⟨0x208010, [(0x10000, 8)], [⟨48, 16, 0x0, .rw, none⟩,
      ⟨32, 16, 0x0, .rw, none⟩,
      ⟨16, 16, 0x0, .rw, none⟩,
      ⟨0, 16, 0x0, .rw, none⟩]⟩,
    -- CFK_EVENT
    ⟨0x208018, [(0x10000, 8)], [⟨4, 1, 0x0, .w1c, none⟩,
      ⟨3, 1, 0x0, .w1c, none⟩,
      ⟨2, 1, 0x0, .w1c, none⟩,
      ⟨1, 1, 0x0, .w1c, none⟩,
      ⟨0, 1, 0x0, .w1c, none⟩]⟩,
    -- CFK_NODE
    ⟨0x208020, [(0x10000, 8)], [⟨20, 1, 0x0, .ro, none⟩,
      ⟨0, 20, 0x0, .ro, none⟩]⟩,
    -- CFK_CREDIT
    ⟨0x208100, [(0x10000, 8), (0x8, 6)], [⟨32, 11, 0x0, .ro, none⟩,
      ⟨16, 11, 0x0, .ro, none⟩,
      ⟨0, 11, 0x0, .ro, none⟩]⟩]

/-- The device registers (R511). -/
def devRegs : List RegFam := devRegs0 ++ devRegs1 ++ devRegs2 ++ devRegs3 ++ devRegs4

/-- Part 1 of the Gardener's private registers. -/
def privRegs0 : List RegFam := [
    -- GDN_BOOT
    ⟨0x30000000, [], [⟨32, 32, 0x0, .ro, none⟩,
      ⟨7, 1, 0x0, .w1s, none⟩,
      ⟨6, 1, 0x0, .ro, none⟩,
      ⟨5, 1, 0x0, .ro, none⟩,
      ⟨0, 4, 0x0, .ro, none⟩]⟩,
    -- GDN_FAP
    ⟨0x30000040, [(0x8, 8)], [⟨63, 1, 0x0, .rw, none⟩,
      ⟨60, 2, 0x0, .rw, some (0, 1)⟩,
      ⟨28, 20, 0x0, .rw, none⟩,
      ⟨0, 28, 0x0, .rw, none⟩]⟩,
    -- GDN_FAP_ERR
    ⟨0x30000080, [], [⟨63, 1, 0x0, .w1c, none⟩,
      ⟨58, 2, 0x0, .ro, none⟩,
      ⟨55, 3, 0x0, .ro, none⟩,
      ⟨52, 3, 0x0, .ro, none⟩,
      ⟨44, 8, 0x0, .ro, none⟩,
      ⟨0, 28, 0x0, .ro, none⟩]⟩,
    -- GDN_FAP_COUNT
    ⟨0x30000088, [], [⟨32, 32, 0x0, .rw, none⟩,
      ⟨0, 16, 0x0, .rw, none⟩]⟩,
    -- GDN_EVENT
    ⟨0x30000090, [], [⟨1, 1, 0x0, .w1c, none⟩,
      ⟨0, 1, 0x0, .w1c, none⟩]⟩,
    -- GDN_TND_CFG
    ⟨0x30000800, [(0x8, 24)], [⟨16, 8, 0x0, .rw, none⟩,
      ⟨8, 2, 0x0, .rw, none⟩,
      ⟨7, 1, 0x0, .rw, none⟩,
      ⟨6, 1, 0x0, .rw, none⟩,
      ⟨5, 1, 0x0, .rw, none⟩,
      ⟨0, 3, 0x0, .rw, none⟩]⟩,
    -- GDN_STRAP
    ⟨0x30000900, [], [⟨24, 24, 0x0, .ro, none⟩,
      ⟨0, 24, 0x0, .ro, none⟩]⟩,
    -- GDN_TND_IN
    ⟨0x30000908, [], [⟨32, 1, 0x0, .w1c, none⟩,
      ⟨0, 24, 0x0, .ro, none⟩]⟩,
    -- MBX_GPEND
    ⟨0x30010000, [(0x8, 128)], [⟨0, 32, 0x0, .ro, none⟩]⟩,
    -- MBX_PEND
    ⟨0x30011000, [(0x8, 4096)], [⟨16, 16, 0x0, .ro, none⟩,
      ⟨0, 16, 0x0, .w1c, none⟩]⟩,
    -- MBX_RETURN
    ⟨0x3001a000, [], [⟨16, 12, 0x0, .wo, none⟩,
      ⟨0, 16, 0x0, .wo, none⟩]⟩,
    -- MBX_EVENT
    ⟨0x3001a008, [], [⟨4, 1, 0x0, .w1c, none⟩,
      ⟨3, 1, 0x0, .w1c, none⟩,
      ⟨2, 1, 0x0, .w1c, none⟩,
      ⟨1, 1, 0x0, .w1c, none⟩]⟩,
    -- MBX_MQ_ENTRY0
    ⟨0x3001b000, [], [⟨63, 1, 0x0, .ro, none⟩,
      ⟨24, 20, 0x0, .ro, none⟩,
      ⟨8, 16, 0x0, .ro, none⟩,
      ⟨0, 8, 0x0, .ro, none⟩]⟩,
    -- MBX_MQ_ENTRY1
    ⟨0x3001b008, [], [⟨0, 64, 0x0, .ro, none⟩]⟩,
    -- MBX_MQ_ENTRY2
    ⟨0x3001b010, [], [⟨0, 64, 0x0, .ro, none⟩]⟩,
    -- MBX_MQ_ENTRY3
    ⟨0x3001b018, [], [⟨0, 64, 0x0, .ro, none⟩]⟩,
    -- MBX_MQ_RESP
    ⟨0x3001b020, [], [⟨32, 32, 0x0, .wo, none⟩,
      ⟨16, 1, 0x0, .wo, none⟩,
      ⟨8, 8, 0x0, .wo, none⟩]⟩,
    -- XSP_CMD
    ⟨0x30020000, [], [⟨32, 9, 0x0, .rw, none⟩,
      ⟨16, 5, 0x0, .rw, none⟩,
      ⟨10, 1, 0x0, .rw, none⟩,
      ⟨8, 2, 0x0, .rw, none⟩,
      ⟨0, 8, 0x0, .rw, none⟩]⟩,
    -- XSP_ADDR
    ⟨0x30020008, [], [⟨0, 32, 0x0, .rw, none⟩]⟩,
    -- XSP_STATUS
    ⟨0x30020010, [], [⟨2, 1, 0x0, .ro, none⟩,
      ⟨1, 1, 0x0, .w1c, none⟩,
      ⟨0, 1, 0x0, .ro, none⟩]⟩,
    -- I3C_STATUS
    ⟨0x30030000, [], [⟨18, 1, 0x0, .ro, none⟩,
      ⟨17, 1, 0x0, .w1c, none⟩,
      ⟨16, 1, 0x0, .ro, none⟩,
      ⟨0, 7, 0x0, .ro, none⟩]⟩,
    -- I3C_RX_LEN
    ⟨0x30030008, [], [⟨0, 9, 0x0, .rw, none⟩]⟩,
    -- I3C_TX_LEN
    ⟨0x30030010, [], [⟨0, 9, 0x0, .rw, none⟩]⟩,
    -- DOE_STATUS
    ⟨0x30040000, [(0x2000, 4)], [⟨32, 11, 0x0, .ro, none⟩,
      ⟨1, 1, 0x0, .w1c, none⟩,
      ⟨0, 1, 0x0, .ro, none⟩]⟩,
    -- DOE_RESP
    ⟨0x30040008, [(0x2000, 4)], [⟨63, 1, 0x0, .rw, none⟩,
      ⟨0, 11, 0x0, .rw, none⟩]⟩]

/-- The Gardener's private registers (R513). -/
def privRegs : List RegFam := privRegs0

/-- Part 1 of the plot page. -/
def plotRegs0 : List RegFam := [
    -- PP_ID
    ⟨0x0, [], [⟨20, 12, 0x0, .ro, none⟩,
      ⟨18, 2, 0x0, .ro, none⟩,
      ⟨8, 10, 0x0, .ro, none⟩,
      ⟨0, 8, 0x1, .ro, none⟩]⟩,
    -- PP_CHAN_TABLE
    ⟨0x18, [], [⟨12, 52, 0x0, .rws, none⟩,
      ⟨8, 1, 0x0, .rws, none⟩,
      ⟨0, 8, 0x0, .rws, none⟩]⟩,
    -- PP_FAULT_LOG
    ⟨0x20, [], [⟨12, 52, 0x0, .rws, none⟩,
      ⟨8, 4, 0x0, .rws, none⟩,
      ⟨0, 1, 0x0, .rws, none⟩]⟩,
    -- PP_EVENT_VEC
    ⟨0x28, [], [⟨16, 11, 0x0, .rws, none⟩,
      ⟨0, 11, 0x0, .rws, none⟩]⟩,
    -- PP_COMMIT
    ⟨0x30, [], [⟨0, 1, 0x0, .wo, none⟩]⟩,
    -- PP_COMMIT_STATUS
    ⟨0x38, [], [⟨63, 1, 0x0, .ro, none⟩,
      ⟨0, 4, 0x0, .ro, none⟩]⟩,
    -- PP_CQ
    ⟨0x80, [(0x8, 16)], [⟨12, 52, 0x0, .rws, none⟩,
      ⟨8, 4, 0x0, .rws, none⟩,
      ⟨7, 1, 0x0, .rws, none⟩,
      ⟨0, 7, 0x0, .rws, none⟩]⟩,
    -- PP_WFL
    ⟨0x400, [], [⟨0, 32, 0x0, .w1c, none⟩]⟩,
    -- PP_LEDGER
    ⟨0x408, [], [⟨32, 17, 0x0, .ro, none⟩,
      ⟨16, 15, 0x0, .ro, none⟩]⟩,
    -- PP_DMA
    ⟨0x410, [], [⟨0, 32, 0x0, .rw, none⟩]⟩,
    -- PP_INTX
    ⟨0x418, [], [⟨63, 1, 0x0, .wo, none⟩,
      ⟨62, 1, 0x0, .wo, none⟩,
      ⟨0, 11, 0x0, .wo, none⟩]⟩,
    -- PP_MBX_OWN
    ⟨0x480, [], [⟨0, 16, 0x0, .ro, none⟩]⟩,
    -- PP_MBX_DB
    ⟨0x488, [], [⟨0, 16, 0x0, .w1s, none⟩]⟩,
    -- PP_MBX_DONE
    ⟨0x490, [], [⟨0, 16, 0x0, .w1c, none⟩]⟩,
    -- PP_MBX_COUNT
    ⟨0x498, [], [⟨16, 16, 0x0, .rw, none⟩,
      ⟨0, 16, 0x0, .rw, none⟩]⟩,
    -- PP_DB
    ⟨0x2000, [(0x8, 256)], [⟨6, 58, 0x0, .wo, none⟩,
      ⟨0, 4, 0x0, .wo, none⟩]⟩,
    -- PP_CHAN_STATUS
    ⟨0x2800, [(0x8, 256)], [⟨15, 1, 0x0, .ro, none⟩,
      ⟨14, 1, 0x0, .ro, none⟩,
      ⟨13, 1, 0x0, .ro, none⟩,
      ⟨12, 1, 0x0, .ro, none⟩,
      ⟨11, 1, 0x0, .ro, none⟩,
      ⟨8, 3, 0x0, .ro, none⟩,
      ⟨0, 3, 0x0, .ro, none⟩]⟩,
    -- PP_CQ_HEAD
    ⟨0x3000, [(0x8, 16)], [⟨16, 1, 0x1, .rw, none⟩,
      ⟨0, 16, 0x0, .rw, none⟩]⟩,
    -- PP_CQ_PROD
    ⟨0x3080, [(0x8, 16)], [⟨63, 1, 0x0, .ro, none⟩,
      ⟨32, 9, 0x0, .ro, none⟩,
      ⟨16, 1, 0x1, .ro, none⟩,
      ⟨0, 16, 0x0, .ro, none⟩]⟩,
    -- PP_FAULT_CONS
    ⟨0x3808, [], [⟨12, 1, 0x1, .rw, none⟩,
      ⟨0, 12, 0x0, .rw, none⟩]⟩,
    -- PP_RAKE_CMD
    ⟨0x3c00, [], [⟨28, 4, 0x0, .wo, none⟩,
      ⟨0, 6, 0x0, .wo, none⟩]⟩,
    -- PP_RAKE_STATUS
    ⟨0x3c08, [], [⟨63, 1, 0x0, .ro, none⟩,
      ⟨62, 1, 0x0, .w1c, none⟩,
      ⟨32, 4, 0x0, .ro, none⟩,
      ⟨8, 7, 0x0, .ro, none⟩,
      ⟨0, 6, 0x0, .ro, none⟩]⟩,
    -- PP_RAKE_ARMED
    ⟨0x3c10, [], [⟨0, 64, 0x0, .ro, none⟩]⟩,
    -- PP_RAKE_PEND
    ⟨0x3c18, [], [⟨0, 64, 0x0, .w1c, none⟩]⟩,
    -- PP_RAKE_ERR
    ⟨0x3c20, [], [⟨0, 64, 0x0, .w1c, none⟩]⟩,
    -- PP_RAKE_LOST
    ⟨0x3c28, [], [⟨0, 64, 0x0, .w1c, none⟩]⟩,
    -- PP_RAKE_MISS
    ⟨0x3c30, [], [⟨0, 32, 0x0, .rw, none⟩]⟩,
    -- PP_RAKE_WATCH
    ⟨0x3d00, [(0x20, 64)], [⟨3, 61, 0x0, .rws, none⟩,
      ⟨0, 1, 0x0, .rws, none⟩]⟩,
    -- PP_RAKE_MASK
    ⟨0x3d08, [(0x20, 64)], [⟨0, 64, 0x0, .rws, none⟩]⟩,
    -- PP_RAKE_CTRL
    ⟨0x3d10, [(0x20, 64)], [⟨16, 2, 0x0, .rws, none⟩,
      ⟨0, 11, 0x0, .rws, none⟩]⟩]

/-- Part 2 of the plot page. -/
def plotRegs1 : List RegFam := [
    -- PP_RAKE_LAST
    ⟨0x3d18, [(0x20, 64)], [⟨0, 64, 0x0, .ro, none⟩]⟩]

/-- The plot page (R512), by offset. -/
def plotRegs : List RegFam := plotRegs0 ++ plotRegs1

/-- An offset in an array of registers falls on the first byte of one of them. -/
def onStrides : List (Nat × Nat) → Nat → Bool
  | [], off => off == 0
  | (st, n) :: ds, off => decide (off / st < n) && onStrides ds (off % st)

/-- The fields of the register at an address of a list of families. -/
def famAt (a : Nat) : List RegFam → List RegFld
  | [] => []
  | r :: rs => if decide (r.base ≤ a) && onStrides r.dims (a - r.base) then r.flds else famAt a rs

/-- The fields of the register at a word address; none where no block assigns it (R14). -/
def regFlds (a : Nat) : List RegFld :=
  if 0x100000000 ≤ a then famAt (a % 0x10000) plotRegs
  else if 0x30000000 ≤ a then famAt a privRegs
  else famAt a devRegs

/-- A field of a register as a cell. -/
def RegFld.at (f : RegFld) (a : Nat) : Fld := ⟨a, f.lo, f.w, f.rst⟩

end Sys2Proof.Machine
end

