-- ==== Sys2Proof/Machine/FieldsMore.lean ====
section
/-!
DEFINITION. Register fields that the spec gives in prose or in offset tables rather than in field tables of their own, named as
Fields.lean names the others.
-/
namespace Sys2Proof.Machine

def F.GRF_STAGE_V (q k : Nat) : Fld := ⟨0x110000 + q * 0x40000 + k * 0x8, 0, 64, 0x0⟩
def F.TRL_STAGE0_V : Fld := ⟨0x70008, 0, 64, 0x0⟩
def F.TRL_STAGE1_V : Fld := ⟨0x70010, 0, 64, 0x0⟩
def F.HDG_READ_DATA_V (k : Nat) : Fld := ⟨0x20040 + k * 0x8, 0, 64, 0x0⟩
def F.PP_CHAN_TABLE_BASE (p : Nat) : Fld := ⟨0x100000018 + p * 0x10000, 12, 52, 0x0⟩
def F.PP_CHAN_TABLE_EN (p : Nat) : Fld := ⟨0x100000018 + p * 0x10000, 8, 1, 0x0⟩
def F.PP_CHAN_TABLE_CHAN_HIGH (p : Nat) : Fld := ⟨0x100000018 + p * 0x10000, 0, 8, 0x0⟩
def F.PP_FAULT_LOG_BASE (p : Nat) : Fld := ⟨0x100000020 + p * 0x10000, 12, 52, 0x0⟩
def F.PP_FAULT_LOG_SIZE (p : Nat) : Fld := ⟨0x100000020 + p * 0x10000, 8, 4, 0x0⟩
def F.PP_FAULT_LOG_EN (p : Nat) : Fld := ⟨0x100000020 + p * 0x10000, 0, 1, 0x0⟩
def F.PP_EVENT_VEC_MBX_VEC (p : Nat) : Fld := ⟨0x100000028 + p * 0x10000, 16, 11, 0x0⟩
def F.PP_EVENT_VEC_FAULT_VEC (p : Nat) : Fld := ⟨0x100000028 + p * 0x10000, 0, 11, 0x0⟩
def F.PP_COMMIT_GO (p : Nat) : Fld := ⟨0x100000030 + p * 0x10000, 0, 1, 0x0⟩
def F.PP_COMMIT_STATUS_BUSY (p : Nat) : Fld := ⟨0x100000038 + p * 0x10000, 63, 1, 0x0⟩
def F.PP_COMMIT_STATUS_RESULT (p : Nat) : Fld := ⟨0x100000038 + p * 0x10000, 0, 4, 0x0⟩
def F.PP_CQ_BASE (p k : Nat) : Fld := ⟨0x100000080 + p * 0x10000 + k * 0x8, 12, 52, 0x0⟩
def F.PP_CQ_SIZE (p k : Nat) : Fld := ⟨0x100000080 + p * 0x10000 + k * 0x8, 8, 4, 0x0⟩
def F.PP_CQ_EN (p k : Nat) : Fld := ⟨0x100000080 + p * 0x10000 + k * 0x8, 7, 1, 0x0⟩
def F.PP_CQ_VEC (p k : Nat) : Fld := ⟨0x100000080 + p * 0x10000 + k * 0x8, 0, 7, 0x0⟩
def F.PP_RAKE_ARMED_V (p : Nat) : Fld := ⟨0x100003c10 + p * 0x10000, 0, 64, 0x0⟩
def F.PP_RAKE_PEND_V (p : Nat) : Fld := ⟨0x100003c18 + p * 0x10000, 0, 64, 0x0⟩
def F.PP_RAKE_ERR_V (p : Nat) : Fld := ⟨0x100003c20 + p * 0x10000, 0, 64, 0x0⟩
def F.PP_RAKE_LOST_V (p : Nat) : Fld := ⟨0x100003c28 + p * 0x10000, 0, 64, 0x0⟩
def F.PP_RAKE_MISS_V (p : Nat) : Fld := ⟨0x100003c30 + p * 0x10000, 0, 32, 0x0⟩
def F.XSP_CMD_BYTES : Fld := ⟨0x30020000, 32, 9, 0x0⟩
def F.XSP_CMD_DUMMY : Fld := ⟨0x30020000, 16, 5, 0x0⟩
def F.XSP_CMD_MODE : Fld := ⟨0x30020000, 10, 1, 0x0⟩
def F.XSP_CMD_ADDR_WIDTH : Fld := ⟨0x30020000, 8, 2, 0x0⟩
def F.XSP_CMD_OPCODE : Fld := ⟨0x30020000, 0, 8, 0x0⟩
def F.XSP_ADDR_ADDR : Fld := ⟨0x30020008, 0, 32, 0x0⟩
def F.XSP_STATUS_ERROR : Fld := ⟨0x30020010, 2, 1, 0x0⟩
def F.XSP_STATUS_DONE : Fld := ⟨0x30020010, 1, 1, 0x0⟩
def F.XSP_STATUS_BUSY : Fld := ⟨0x30020010, 0, 1, 0x0⟩
def F.I3C_STATUS_IBI : Fld := ⟨0x30030000, 18, 1, 0x0⟩
def F.I3C_STATUS_TX_DONE : Fld := ⟨0x30030000, 17, 1, 0x0⟩
def F.I3C_STATUS_RX_READY : Fld := ⟨0x30030000, 16, 1, 0x0⟩
def F.I3C_STATUS_DYN_ADDR : Fld := ⟨0x30030000, 0, 7, 0x0⟩
def F.I3C_RX_LEN_LEN : Fld := ⟨0x30030008, 0, 9, 0x0⟩
def F.I3C_TX_LEN_LEN : Fld := ⟨0x30030010, 0, 9, 0x0⟩
def F.DOE_STATUS_LENGTH (n : Nat) : Fld := ⟨0x30040000 + n * 0x2000, 32, 11, 0x0⟩
def F.DOE_STATUS_ABORT (n : Nat) : Fld := ⟨0x30040000 + n * 0x2000, 1, 1, 0x0⟩
def F.DOE_STATUS_OBJECT_READY (n : Nat) : Fld := ⟨0x30040000 + n * 0x2000, 0, 1, 0x0⟩
def F.DOE_RESP_ERROR (n : Nat) : Fld := ⟨0x30040008 + n * 0x2000, 63, 1, 0x0⟩
def F.DOE_RESP_LENGTH (n : Nat) : Fld := ⟨0x30040008 + n * 0x2000, 0, 11, 0x0⟩

end Sys2Proof.Machine
end

