-- ==== Sys2Proof/Machine/Ops.lean ====
section
/-!
DEFINITION. The named operations every meaning is written over: sparse maps, register fields, counters, event bits and the
Event Gate source they raise, byte order, the time base, free values, and outputs.
-/
namespace Sys2Proof.Machine

/-! ### Sparse maps -/

/-- What a key holds, or the map's default. -/
def mget {α : Type} : SMap α → Nat → α → α
  | [], _, d => d
  | (k, v) :: m, i, d => if i < k then d else if i = k then v else mget m i d

/-- The entry at a key, if there is one. -/
def mfind {α : Type} : SMap α → Nat → Option α
  | [], _ => none
  | (k, v) :: m, i => if i < k then none else if i = k then some v else mfind m i

/-- Put a value at a key, keeping the keys strictly rising. -/
def mput {α : Type} : SMap α → Nat → α → SMap α
  | [], i, x => [(i, x)]
  | (k, v) :: m, i, x =>
    if i < k then (i, x) :: (k, v) :: m else if i = k then (i, x) :: m else (k, v) :: mput m i x

/-- Take a key out. -/
def mdel {α : Type} : SMap α → Nat → SMap α
  | [], _ => []
  | (k, v) :: m, i => if i < k then (k, v) :: m else if i = k then m else (k, v) :: mdel m i

/-- Put a value at a key of a map with default `d`: the default is not listed. -/
def mset {α : Type} [DecidableEq α] (m : SMap α) (i : Nat) (x d : α) : SMap α :=
  if x = d then mdel m i else mput m i x

/-- The keys of a map are strictly rising. -/
def mwf {α : Type} : SMap α → Bool
  | [] => true
  | [_] => true
  | (k, _) :: (k', v') :: m => decide (k < k') && mwf ((k', v') :: m)

/-- The lowest number from `n` on that is not a key. -/
def mfree {α : Type} : SMap α → Nat → Nat
  | [], n => n
  | (k, _) :: m, n => if k = n then mfree m (n + 1) else if k < n then mfree m n else n

/-! ### Register fields (R8, R11) -/

/-- The cell of a field: bit `lo` of the word at `addr`. -/
def Fld.key (f : Fld) : Nat := f.addr * 64 + f.lo

/-- The current value of a field; its reset value while nothing has changed it. -/
def getF (s : State) (f : Fld) : Nat := mget s.cells f.key f.rst

/-- Set a field; the value is cut to the field's width. -/
def setF (s : State) (f : Fld) (v : Nat) : State := { s with cells := mput s.cells f.key (v % 2 ^ f.w) }

/-- Put a field back to its reset value. -/
def resetF (s : State) (f : Fld) : State := setF s f f.rst

/-- Is a one-bit field 1? -/
def bitF (s : State) (f : Fld) : Bool := getF s f == 1

/-- Set a one-bit field from a Bool. -/
def setB (s : State) (f : Fld) (b : Bool) : State := setF s f (if b then 1 else 0)

/-- The largest value of a field. -/
def Fld.max (f : Fld) : Nat := 2 ^ f.w - 1

/-- Add to a counter that stops at its maximum value. -/
def bumpBy (s : State) (f : Fld) (n : Nat) : State := setF s f (min (getF s f + n) f.max)

/-- Add 1 to a counter that stops at its maximum value. -/
def bump (s : State) (f : Fld) : State := bumpBy s f 1

/-- Add 1 to a counter that wraps. -/
def wrapInc (s : State) (f : Fld) : State := setF s f (getF s f + 1)

/-- Raise a high-water field to a value. -/
def highWater (s : State) (f : Fld) (v : Nat) : State := if getF s f < v then setF s f v else s

/-- Bit `i` of a number. -/
def bitOf (n i : Nat) : Bool := n / 2 ^ i % 2 == 1

/-- Set bit `i` of a number. -/
def setBit (n i : Nat) : Nat := if bitOf n i then n else n + 2 ^ i

/-- Clear bit `i` of a number. -/
def clrBit (n i : Nat) : Nat := if bitOf n i then n - 2 ^ i else n

/-- Clear in `n` every bit that is set in `m` (a W1C write, R11). -/
def clrBits (n m : Nat) : Nat := n - Nat.land n m

/-! ### Event Gate sources (R416) -/

/-- A source that exists (R417). -/
def evgSource (n : Nat) : Bool :=
  decide (n ≤ 10) || (decide (16 ≤ n) && decide (n ≤ 47)) || (decide (64 ≤ n) && decide (n ≤ 1160)) ||
    (decide (1216 ≤ n) && decide (n ≤ 1240)) || n == 1244 || n == 1248 || n == 1252 || (decide (1256 ≤ n) && decide (n ≤ 1273))

/-- A Level source (R416, R417, R525). -/
def evgLevel (s : State) (n : Nat) : Bool :=
  if 16 ≤ n ∧ n ≤ 39 then getF s (F.GDN_TND_CFG_ROLE (n - 16)) == 2 ||
    (getF s (F.GDN_TND_CFG_ROLE (n - 16)) == 1 && bitF s (F.GDN_TND_CFG_TYPE (n - 16)))
  else (decide (1024 ≤ n) && decide (n ≤ 1151)) || (decide (1154 ≤ n) && decide (n ≤ 1160))

/-- The source is active on some core (R416). -/
def evgActive (s : State) (n : Nat) : Bool :=
  (List.range 4).any fun c => bitF s (F.EVG_CORE_ACTIVE c) && getF s (F.EVG_CORE_ACTIVE_SRC c) == n

/-- Raise an Event Gate source: its pending bit becomes 1, but for a Level source that is active (R416). -/
def raise (s : State) (src : Nat) : State :=
  let f := F.EVG_PEND_PEND (src / 64)
  if evgLevel s src && evgActive s src then s else setF s f (setBit (getF s f) (src % 64))

/-- Set a one-bit event field; raise the source when it becomes 1. -/
def setEv (s : State) (f : Fld) (src : Nat) : State :=
  if bitF s f then s else raise (setF s f 1) src

/-! ### Bytes (R9) -/

/-- The low `n` bytes of a number, lowest first. -/
def leBytes : Nat → Nat → List Byte
  | 0, _ => []
  | n + 1, v => BitVec.ofNat 8 v :: leBytes n (v / 256)

/-- The number that bytes spell, lowest first. -/
def leNat : List Byte → Nat
  | [] => 0
  | b :: bs => b.toNat + 256 * leNat bs

/-- The little-endian word at byte offset `off` of a structure. -/
def wordAt (bs : List Byte) (off : Nat) : Nat := leNat ((bs.drop off).take 8)

/-- Bits `lo` to `lo + w - 1` of a number. -/
def bits (v lo w : Nat) : Nat := v / 2 ^ lo % 2 ^ w

/-! ### Parts of the state -/

/-- Quadrant q. -/
def quadOf (s : State) (q : Nat) : Quad := mget s.quads q {}
/-- Replace quadrant q. -/
def setQuad (s : State) (q : Nat) (x : Quad) : State := { s with quads := mset s.quads q x {} }
/-- Change quadrant q. -/
def modQuad (s : State) (q : Nat) (f : Quad → Quad) : State := setQuad s q (f (quadOf s q))
/-- What the device keeps for plot p beside its registers. -/
def plotOf (s : State) (p : Nat) : Plot := mget s.plots p {}
/-- Replace plot p. -/
def setPlot (s : State) (p : Nat) (x : Plot) : State := { s with plots := mset s.plots p x {} }
/-- Change plot p. -/
def modPlot (s : State) (p : Nat) (f : Plot → Plot) : State := setPlot s p (f (plotOf s p))
/-- The quadrant of a plot (R5). -/
def quadrantOf (p : Nat) : Nat := p / 1024
/-- The function index of a plot (R5). -/
def indexOf (p : Nat) : Nat := p % 1024

/-- Draw a free value (assumption 3). -/
def drawFree (s : State) : Nat × State := ((Config.freeWord s.free).toNat, { s with free := s.free + 1 })

/-- Show an output to the outside; the newest stands first. -/
def emit (s : State) (e : Emit) : State := { s with out := e :: s.out }

end Sys2Proof.Machine
end

