-- ==== Sys2Proof/Machine/LineCode.lean ====
section
/-!
DEFINITION. The line code of a Calfos port (R290 to R293, R296 to R298, R301, R302, R304) and the test patterns (R493): the FEC of a frame and its
correction (R300), the striping of code symbols over lanes, the scrambler, Gray mapping and precoding, markers and training frames. A level is
0 to 3 for −3, −1, +1 and +3.
-/
namespace Sys2Proof.Machine

/-! ### GF(2^10) (R297) -/

/-- A symbol times α. -/
def gfDouble (a : Nat) : Nat := if a < 512 then 2 * a else Nat.xor (2 * a) 0x409

/-- The product of a symbol and the low n bits of another. -/
def gfMulN : Nat → Nat → Nat → Nat
  | 0, _, _ => 0
  | n + 1, a, b => Nat.xor (if b % 2 == 1 then a else 0) (gfMulN n (gfDouble a) (b / 2))

/-- The product of two symbols. -/
def gfMul (a b : Nat) : Nat := gfMulN 10 a b

/-- A power of a symbol by the low k bits of its exponent. -/
def gfPowN : Nat → Nat → Nat → Nat
  | 0, _, _ => 1
  | k + 1, a, n => gfMul (if n % 2 == 1 then a else 1) (gfPowN k (gfMul a a) (n / 2))

/-- A power of a symbol, the exponent below 1,024. -/
def gfPow (a n : Nat) : Nat := gfPowN 10 a n

/-- The inverse of a symbol that is not 0: its power 1,022. -/
def gfInv (a : Nat) : Nat := gfPow a 1022

/-- The value of a polynomial, its highest coefficient first. -/
def gfEval (cs : List Nat) (x : Nat) : Nat := cs.foldl (fun v c => Nat.xor (gfMul v x) c) 0

/-! ### RS(430,410) (R297) -/

/-- A polynomial, its highest coefficient first, times x − r. -/
def gfTimesRoot (p : List Nat) (r : Nat) : List Nat := List.zipWith Nat.xor (p ++ [0]) (0 :: p.map (gfMul r))

/-- The generator of degree 20, its highest coefficient first. -/
def rsGenerator : List Nat := (List.range 20).foldl (fun p i => gfTimesRoot p (gfPow 2 i)) [1]

/-- One message symbol through the division by the generator; `g` is the generator without its leading 1. -/
def rsDivide (g rem : List Nat) (m : Nat) : List Nat :=
  let q := Nat.xor m (rem.headD 0)
  List.zipWith Nat.xor (rem.drop 1 ++ [0]) (g.map (gfMul q))

/-- The parity symbols of a message, highest degree first. -/
def rsParity (m : List Nat) : List Nat := m.foldl (rsDivide (rsGenerator.drop 1)) (List.replicate 20 0)

/-- The codeword of a message. -/
def rsEncode (m : List Nat) : List Nat := m ++ rsParity m

/-- The twenty syndromes of a received word. -/
def rsSyndromes (r : List Nat) : List Nat := (List.range 20).map fun i => gfEval r (gfPow 2 i)

/-- What the search for the error locator keeps; polynomials lowest coefficient first. -/
structure RsSearch where
  cur : List Nat := [1]
  old : List Nat := [1]
  len : Nat := 0
  gap : Nat := 1
  last : Nat := 1

/-- Coefficient i of a polynomial. -/
def coef (p : List Nat) (i : Nat) : Nat := (p[i]?).getD 0

/-- Add `k` times x^shift times one polynomial to another. -/
def gfAddScaled (p q : List Nat) (k shift : Nat) : List Nat :=
  (List.range (max p.length (q.length + shift))).map fun i => Nat.xor (coef p i) (if i < shift then 0 else gfMul k (coef q (i - shift)))

/-- One step of the search (the algorithm of Berlekamp and Massey). -/
def rsSearchStep (syn : List Nat) (b : RsSearch) (n : Nat) : RsSearch :=
  let d := (List.range b.len).foldl (fun d i => Nat.xor d (gfMul (coef b.cur (i + 1)) (coef syn (n - (i + 1))))) (coef syn n)
  if d == 0 then { b with gap := b.gap + 1 }
  else
    let next := gfAddScaled b.cur b.old (gfMul d (gfInv b.last)) b.gap
    if 2 * b.len ≤ n then { cur := next, old := b.cur, len := n + 1 - b.len, gap := 1, last := d }
    else { b with cur := next, gap := b.gap + 1 }

/-- The error at a place of the received word, whose inverse locator is α^−(429 − place): none where the locator polynomial has no root (Forney). -/
def rsErrorAt (loc eva : List Nat) (place : Nat) : Nat :=
  let xi := gfPow 2 (594 + place)
  if gfEval loc.reverse xi != 0 then 0
  else
    let odd := (List.range loc.length).map fun i => if i % 2 == 1 then coef loc i else 0
    gfMul (gfEval eva.reverse xi) (gfInv (gfEval odd.reverse xi))

/-- Correct up to ten symbols of a received word (R297): the codeword and the places corrected, or none. -/
def rsDecode (r : List Nat) : Option (List Nat × List Nat) :=
  let syn := rsSyndromes r
  if syn.all fun x => x == 0 then some (r, [])
  else
    let b := (List.range 20).foldl (rsSearchStep syn) {}
    let loc := b.cur.take (b.len + 1)
    let eva := (List.range 20).map fun i =>
      (List.range (min loc.length (i + 1))).foldl (fun v j => Nat.xor v (gfMul (coef loc j) (coef syn (i - j)))) 0
    let es := (List.range 430).map (rsErrorAt loc eva)
    let w := List.zipWith Nat.xor r es
    let places := (List.range 430).filter fun i => coef es i != 0
    if b.len ≤ 10 && places.length == b.len && (rsSyndromes w).all fun x => x == 0 then some (w, places) else none

/-! ### Frames (R296) and striping (R298) -/

/-- The low n bits of a number, lowest first. -/
def bitsOf : Nat → Nat → List Bool
  | 0, _ => []
  | n + 1, v => (v % 2 == 1) :: bitsOf n (v / 2)

/-- The number that bits spell, lowest first. -/
def bitsNat : List Bool → Nat
  | [] => 0
  | b :: bs => (if b then 1 else 0) + 2 * bitsNat bs

/-- Cut a number into n symbols of 10 bits, the lowest first. -/
def symbolsOf : Nat → Nat → List Nat
  | 0, _ => []
  | n + 1, v => v % 1024 :: symbolsOf n (v / 1024)

/-- The number that symbols of 10 bits spell, the lowest first. -/
def symbolsNat : List Nat → Nat
  | [] => 0
  | x :: xs => x + 1024 * symbolsNat xs

/-- The 410 message symbols of a frame: PCTL, flit A and flit B (R296). -/
def frameMessage (pctl : Nat) (a b : List Byte) : List Nat := symbolsOf 410 (pctl % 16 + 16 * (leNat a + 2 ^ 2048 * leNat b))

/-- PCTL and the two flits of a message. -/
def messageFrame (m : List Nat) : Nat × List Byte × List Byte :=
  let v := symbolsNat m
  (v % 16, leBytes 256 (v / 16), leBytes 256 (v / 16 / 2 ^ 2048))

/-- The lane of symbol k of the frame numbered n in its marker period (R298). -/
def symbolLane (n k : Nat) : Nat := (430 * n + k) % 8

/-- The symbols of a codeword that lane `l` carries, in order. -/
def laneSymbols (n l : Nat) (cw : List Nat) : List Nat := (cw.zipIdx.filter fun x => symbolLane n x.2 == l).map fun x => x.1

/-- How many symbols lane l has carried since the marker when frame n begins (R298). -/
def laneCount (n l : Nat) : Nat := (430 * n + 7 - l) / 8

/-! ### Scrambler (R293), Gray mapping (R291), precoding (R292) -/

/-- The scrambler's state at the first data bit after a marker. -/
def scrSeed (lane : Nat) : Nat := 0x2AAAAA80 + lane

/-- The bit the scrambler adds. -/
def scrBit (s : Nat) : Bool := bitOf s 30 != bitOf s 27

/-- The scrambler's next state. -/
def scrNext (s : Nat) : Nat := 2 * s % 2 ^ 31 + (if scrBit s then 1 else 0)

/-- The scrambler after n bits. -/
def scrSkip : Nat → Nat → Nat
  | 0, s => s
  | n + 1, s => scrSkip n (scrNext s)

/-- Bits through the scrambler; the receiver runs the same. -/
def scramble : Nat → List Bool → List Bool
  | _, [] => []
  | s, b :: bs => (b != scrBit s) :: scramble (scrNext s) bs

/-- The scrambler of a lane when frame n of a period begins. -/
def scrAt (n l : Nat) : Nat := scrSkip (10 * laneCount n l) (scrSeed l)

/-- Pairs of bits as Gray-coded levels, the earlier bit first. -/
def grayMap : List Bool → List Nat
  | b1 :: b0 :: bs => (if b1 then (if b0 then 2 else 3) else (if b0 then 1 else 0)) :: grayMap bs
  | _ => []

/-- The bits of levels. -/
def grayBits : List Nat → List Bool
  | [] => []
  | g :: gs => (decide (2 ≤ g)) :: (g == 1 || g == 2) :: grayBits gs

/-- Levels after the precoder of a transmitter, from the level of the UI before. -/
def precode : Nat → List Nat → List Nat
  | _, [] => []
  | p, g :: gs => let x := (g + 4 - p % 4) % 4; x :: precode x gs

/-- Levels before the precoder, as a receiver recovers them. -/
def unprecode : Nat → List Nat → List Nat
  | _, [] => []
  | p, x :: xs => ((x + p) % 4) :: unprecode x xs

/-- Levels as they leave a lane: precoded where precoding is in effect. -/
def laneOut (pre : Bool) (last : Nat) (gs : List Nat) : List Nat := if pre then precode last gs else gs

/-! ### What a lane sends and receives -/

/-- The levels of lane l for frame n of a period (R290): striping, scrambling, Gray mapping; precoding follows. -/
def frameLane (n l : Nat) (cw : List Nat) : List Nat := grayMap (scramble (scrAt n l) ((laneSymbols n l cw).flatMap (bitsOf 10)))

/-- The symbols that the levels of lane l carry in frame n, once recovered from precoding. -/
def laneReceived (n l : Nat) (gs : List Nat) : List Nat :=
  let bs := scramble (scrAt n l) (grayBits gs)
  symbolsOf (gs.length / 5) (bitsNat bs)

/-- Symbols of eight lanes in the order of the codeword: symbol k comes from its lane. -/
def gather : Nat → Nat → List (List Nat) → List Nat
  | 0, _, _ => []
  | k + 1, lane, ls => ((ls[lane]?).bind List.head?).getD 0 :: gather k ((lane + 1) % 8) (ls.modify lane (List.drop 1))

/-! ### Alignment markers (R301, R302) -/

/-- Bits 127:0 of a marker (R302). -/
def markerLow (lane rate seq : Nat) (precoded first : Bool) : Nat :=
  0x4B1ED2A735C98F06 + lane * 2 ^ 64 + rate * 2 ^ 72 + (if precoded then 2 ^ 74 else 0) + (if first then 2 ^ 75 else 0) + seq * 2 ^ 96

/-- A marker: the low half and its complement. -/
def markerValue (lane rate seq : Nat) (precoded first : Bool) : Nat :=
  let m := markerLow lane rate seq precoded first
  m + (2 ^ 128 - 1 - m) * 2 ^ 128

/-- The levels of a marker before precoding: it is not scrambled. -/
def markerLevels (m : Nat) : List Nat := grayMap (bitsOf 256 m)

/-- Frames in a marker period (R298). -/
def markerPeriod : Nat := 16384

/-! ### Test patterns (R493) and training frames (R304) -/

/-- Order of a PRBS and the state bits that its next bit is the sum of (R493). -/
def prbsTaps (pat : Nat) : Nat × List Nat :=
  match pat with
  | 0 => (7, [6, 5])
  | 2 => (15, [14, 13])
  | 3 => (23, [22, 17])
  | 4 => (31, [30, 27])
  | _ => (13, [12, 11, 1, 0])

/-- The next output bit of a PRBS generator. -/
def prbsBit (pat s : Nat) : Bool := ((prbsTaps pat).2.filter fun i => bitOf s i).length % 2 == 1

/-- Its next state. -/
def prbsNext (pat s : Nat) : Nat := 2 * s % 2 ^ (prbsTaps pat).1 + (if prbsBit pat s then 1 else 0)

/-- Its state after n bits. -/
def prbsSkip (pat : Nat) : Nat → Nat → Nat
  | 0, s => s
  | n + 1, s => prbsSkip pat n (prbsNext pat s)

/-- n bits of a PRBS from a state. -/
def prbsRun (pat : Nat) : Nat → Nat → List Bool
  | 0, _ => []
  | n + 1, s => prbsBit pat s :: prbsRun pat n (prbsNext pat s)

/-- The first n bits of a pattern from the setting of GEN_EN: all state bits 1; QUAT is two periods of PRBS13 and then the same inverted, and goes on so. -/
def patternBits (pat n : Nat) : List Bool :=
  if pat == 5 then
    let half := prbsRun 1 16382 (2 ^ 13 - 1)
    (List.range n).map fun i => ((half[i % 16382]?).getD false) != (i / 16382 % 2 == 1)
  else prbsRun pat n (2 ^ (prbsTaps pat).1 - 1)

/-- A training frame of a lane (R304): delimiter, control block, and pattern bits from a state of PRBS13. -/
def trainingFrame (block : Nat) (prbs : Nat) : List Nat :=
  List.replicate 32 3 ++ List.replicate 32 0 ++ (bitsOf 128 block).flatMap (fun b => List.replicate 4 (if b then 3 else 0)) ++
    grayMap (prbsRun 1 7040 prbs)

end Sys2Proof.Machine
end

