-- ==== Sys2Proof/Machine/Operands.lean ====
section
/-!
DEFINITION. The structures in memory that the block reads and writes, taken apart and put together: WindowEntry, PlotEntry, TrellisEntry,
FaultRecord, fence entries (R10), and the addresses a window covers.
-/
namespace Sys2Proof.Machine

/-! ### WindowEntry (R78, R79) -/

/-- Bit `i` of a number as a Bool. -/
def tb (v i : Nat) : Bool := bitOf v i

/-- A WindowEntry from its 64 bytes. -/
def parseWindow (bs : List Byte) : WinEntry :=
  let c := wordAt bs 0
  { valid := tb c 63, dirIn := tb c 62, gen := bits c 32 16, format := bits c 24 8,
    noSnoop := tb c 17, relaxed := tb c 16, prefetch := tb c 15, pfDepth := bits c 12 3,
    sideEffect := tb c 11, ordered := tb c 10, removal := bits c 8 2, pollClass := bits c 5 3,
    bar4 := tb c 4, atEn := tb c 3, wrEn := tb c 2, rdEn := tb c 1, peerEn := tb c 0,
    base := bits (wordAt bs 8) 12 52, last := bits (wordAt bs 16) 12 52,
    target := bits (wordAt bs 24) 12 52, node := bits (wordAt bs 32) 0 20,
    commitTime := wordAt bs 56 }

/-- One bit at a place. -/
def bt (b : Bool) (i : Nat) : Nat := if b then 2 ^ i else 0

/-- The 64 bytes of a WindowEntry. -/
def windowBytes (e : WinEntry) : List Byte :=
  let c := bt e.valid 63 + bt e.dirIn 62 + e.gen * 2 ^ 32 + e.format * 2 ^ 24 + bt e.noSnoop 17 + bt e.relaxed 16 +
    bt e.prefetch 15 + e.pfDepth * 2 ^ 12 + bt e.sideEffect 11 + bt e.ordered 10 + e.removal * 2 ^ 8 + e.pollClass * 2 ^ 5 +
    bt e.bar4 4 + bt e.atEn 3 + bt e.wrEn 2 + bt e.rdEn 1 + bt e.peerEn 0
  leBytes 8 c ++ leBytes 8 (e.base * 4096) ++ leBytes 8 (e.last * 4096) ++ leBytes 8 (e.target * 4096) ++
    leBytes 8 e.node ++ leBytes 16 0 ++ leBytes 8 e.commitTime

/-- First byte of the aperture, A of R78. -/
def WinEntry.first (e : WinEntry) : Nat := e.base * 4096
/-- Last byte of the aperture, E of R78. -/
def WinEntry.end_ (e : WinEntry) : Nat := e.last * 4096 + 4095
/-- Translation base, T of R78. -/
def WinEntry.tbase (e : WinEntry) : Nat := e.target * 4096

/-- A valid entry at window index `w` is malformed (R79). A field of the other direction is reserved and ignored (R12). A PF_DEPTH other
than 0 with PREFETCH 0 counts as a reserved encoding (DEDUCED, assumption 110). -/
def windowMalformed (e : WinEntry) (w : Nat) : Bool :=
  e.valid && (e.format != 1 || e.dirIn != decide (32 ≤ w) || decide (e.last < e.base) ||
    (!e.dirIn && (decide (3 < e.pfDepth) || (!e.prefetch && e.pfDepth != 0) || decide (1 < e.removal) ||
      decide (4 < e.pollClass) || (e.prefetch && (e.sideEffect || e.bar4)) || (e.sideEffect && !e.bar4))))

/-- A valid entry is out of range (R79); `barSize` is the port's size of the BAR it selects. -/
def windowOutOfRange (e : WinEntry) (barSize : Nat) : Bool :=
  e.valid && (if e.dirIn then decide (2 ^ 56 ≤ e.end_)
    else decide (barSize ≤ e.end_) || decide (2 ^ 56 ≤ e.tbase + (e.end_ - e.first)))

/-- Two entries overlap (R91). -/
def windowsOverlap (a b : WinEntry) : Bool :=
  a.dirIn == b.dirIn && (a.dirIn || a.bar4 == b.bar4) && decide (a.first ≤ b.end_) && decide (b.first ≤ a.end_)

/-- An access of `len` bytes at `off` lies in the aperture; a zero-length access touches one byte. -/
def WinEntry.covers (e : WinEntry) (off len : Nat) : Bool :=
  decide (e.first ≤ off) && decide (off + (max len 1) - 1 ≤ e.end_)

/-- Cut a list of bytes into window entries of 64 bytes. -/
def parseWindows : Nat → List Byte → List WinEntry
  | 0, _ => []
  | n + 1, bs => parseWindow (bs.take 64) :: parseWindows n (bs.drop 64)

/-! ### PlotEntry (R48, R49) -/

/-- The fields a load takes from memory, as field and place in the 256 bytes (R49, Reset column a dash). -/
def plotMemFields (p : Nat) : List (Fld × Nat) :=
  [(F.PE_CONTROL_VALID p, 0x10), (F.PE_CONTROL_FORMAT p, 0x10), (F.PE_SHARE_DMA_PRIO_CEIL p, 0x18), (F.PE_SHARE_WEIGHT_DMA p, 0x18),
   (F.PE_SHARE_WEIGHT p, 0x18), (F.PE_RATE_BURST p 0, 0x20), (F.PE_RATE_RATE p 0, 0x20), (F.PE_RATE_BURST p 1, 0x28),
   (F.PE_RATE_RATE p 1, 0x28), (F.PE_TIMERS_ACK_TIMEOUT p, 0x30), (F.PE_TIMERS_COMP_BUDGET p, 0x30), (F.PE_WINDOWS_BASE p, 0x38),
   (F.PE_WINDOWS_OUT_COUNT p, 0x38), (F.PE_WINDOWS_IN_COUNT p, 0x38), (F.PE_MSIX_VEC_COUNT p, 0x40), (F.PE_MSIX_VEC_BASE p, 0x40),
   (F.PE_CAPS_CHAN_LIMIT p, 0x48), (F.PE_CAPS_CQ_LIMIT p, 0x48), (F.PE_CAPS_RAKE_LIMIT p, 0x48), (F.PE_CAPS_MGMT_EN p, 0x48),
   (F.PE_CAPS_INBOUND_EN p, 0x48), (F.PE_CAPS_ORDERED_EN p, 0x48), (F.PE_CAPS_HOLD_EN p, 0x48), (F.PE_CAPS_ATOMIC_EN p, 0x48),
   (F.PE_CAPS_SEAL_EN p, 0x48), (F.PE_CAPS_WEAVE_EN p, 0x48), (F.PE_CAPS_DMA_EN p, 0x48)]

/-- Of these, the Staged ones (R46), which a commit takes. -/
def plotStagedFields (p : Nat) : List (Fld × Nat) :=
  [(F.PE_SHARE_DMA_PRIO_CEIL p, 0x18), (F.PE_SHARE_WEIGHT_DMA p, 0x18), (F.PE_SHARE_WEIGHT p, 0x18), (F.PE_RATE_BURST p 0, 0x20),
   (F.PE_RATE_RATE p 0, 0x20), (F.PE_RATE_BURST p 1, 0x28), (F.PE_RATE_RATE p 1, 0x28), (F.PE_TIMERS_ACK_TIMEOUT p, 0x30),
   (F.PE_TIMERS_COMP_BUDGET p, 0x30), (F.PE_CAPS_INBOUND_EN p, 0x48), (F.PE_CAPS_ORDERED_EN p, 0x48), (F.PE_CAPS_HOLD_EN p, 0x48),
   (F.PE_CAPS_ATOMIC_EN p, 0x48), (F.PE_CAPS_SEAL_EN p, 0x48), (F.PE_CAPS_WEAVE_EN p, 0x48), (F.PE_CAPS_DMA_EN p, 0x48)]

/-- And the Locked ones. -/
def plotLockedFields (p : Nat) : List (Fld × Nat) :=
  (plotMemFields p).filter fun x => !(plotStagedFields p).contains x

/-- The value of a field in a structure's bytes. -/
def fieldIn (bs : List Byte) (x : Fld × Nat) : Nat := bits (wordAt bs x.2) x.1.lo x.1.w

/-- Copy fields from a structure's bytes. -/
def loadFields (s : State) (bs : List Byte) (fs : List (Fld × Nat)) : State :=
  fs.foldl (fun s x => setF s x.1 (fieldIn bs x)) s

/-- Bytes 0x60 to 0xFF of a PlotEntry, which hold the Plot fields where PSET_VALID is 1, carry a reserved encoding (R48, R49). -/
def plotSetMalformed (bs : List Byte) : Bool :=
  bitOf (wordAt bs 0) 12 && (decide (8 < bits (wordAt bs 0x68) 8 4) || (List.range 16).any fun k => decide (10 < bits (wordAt bs (0x80 + 8 * k)) 8 4))

/-- A PlotEntry is malformed (R48, R49). -/
def plotMalformed (bs : List Byte) (p : Nat) : Bool :=
  let v (f : Fld) (o : Nat) : Nat := fieldIn bs (f, o)
  (v (F.PE_CONTROL_VALID p) 0x10 == 1 && v (F.PE_CONTROL_FORMAT p) 0x10 != 1) ||
  v (F.PE_SHARE_WEIGHT_DMA p) 0x18 == 0 || v (F.PE_SHARE_WEIGHT p) 0x18 == 0 ||
  (v (F.PE_RATE_RATE p 0) 0x20 != 0 && v (F.PE_RATE_BURST p 0) 0x20 == 0) ||
  (v (F.PE_RATE_RATE p 1) 0x28 != 0 && v (F.PE_RATE_BURST p 1) 0x28 == 0) ||
  (let t := v (F.PE_TIMERS_ACK_TIMEOUT p) 0x30; decide (1 ≤ t) && decide (t ≤ 99)) ||
  (let t := v (F.PE_TIMERS_COMP_BUDGET p) 0x30; decide (1 ≤ t) && decide (t ≤ 99)) ||
  decide (32 < v (F.PE_WINDOWS_OUT_COUNT p) 0x38) || decide (32 < v (F.PE_WINDOWS_IN_COUNT p) 0x38) ||
  (let n := v (F.PE_MSIX_VEC_COUNT p) 0x40; n == 0 || decide (2048 < n)) ||
  decide (64 < v (F.PE_CAPS_RAKE_LIMIT p) 0x48) ||
  (v (F.PE_CAPS_MGMT_EN p) 0x48 == 1 && indexOf p != 0) || plotSetMalformed bs

/-- The Plot fields of bytes 0x60 to 0xFF (R46), with their offsets. -/
def plotSetFields (p : Nat) : List (Fld × Nat) :=
  [(F.PE_CHAN_TABLE_BASE p, 0x60), (F.PE_CHAN_TABLE_EN p, 0x60), (F.PE_CHAN_TABLE_CHAN_HIGH p, 0x60), (F.PE_FAULT_LOG_BASE p, 0x68),
   (F.PE_FAULT_LOG_SIZE p, 0x68), (F.PE_FAULT_LOG_EN p, 0x68), (F.PE_EVENT_VEC_MBX_VEC p, 0x78), (F.PE_EVENT_VEC_FAULT_VEC p, 0x78)] ++
  (List.range 16).flatMap fun k => [(F.PE_CQ_BASE p k, 0x80 + 8 * k), (F.PE_CQ_SIZE p k, 0x80 + 8 * k), (F.PE_CQ_EN p k, 0x80 + 8 * k),
    (F.PE_CQ_VEC p k, 0x80 + 8 * k)]

/-- PP_ID of a plot (R51). -/
def ppIdWord (p : Nat) : Nat := p * 2 ^ 20 + quadrantOf p * 2 ^ 18 + indexOf p * 2 ^ 8 + 1

/-- The Status fields of FAULT_PTR. -/
def plotPtrFields (p : Nat) : List (Fld × Nat) :=
  [(F.PE_FAULT_PTR_OVERFLOW p, 0x70), (F.PE_FAULT_PTR_HELD p, 0x70), (F.PE_FAULT_PTR_PHASE p, 0x70), (F.PE_FAULT_PTR_PROD p, 0x70)]

/-- The Status fields of STATUS and COUNTERS. -/
def plotStatusFields (p : Nat) : List (Fld × Nat) :=
  [(F.PE_STATUS_RESET_COUNT p, 0), (F.PE_STATUS_LAST_FAULT p, 0), (F.PE_STATUS_WB_SEQ p, 0), (F.PE_STATUS_PSET_VALID p, 0),
   (F.PE_STATUS_LATCH_ANY p, 0), (F.PE_STATUS_CQ_STALL p, 0), (F.PE_STATUS_RATE_HELD p, 0), (F.PE_STATUS_BME p, 0), (F.PE_STATUS_STATE p, 0),
   (F.PE_COUNTERS_DROPPED_WRITES p, 8), (F.PE_COUNTERS_FAULTS_LOST p, 8), (F.PE_COUNTERS_RX_REFUSED p, 8)]

/-- The word at an offset that a list of fields makes up. -/
def wordOf (s : State) (fs : List (Fld × Nat)) (off : Nat) : Nat :=
  ((fs.filter fun x => x.2 == off).map fun x => getF s x.1 * 2 ^ x.1.lo).sum

/-- Bytes 0x60 to 0xFF of the memory copy (R47). -/
def plotHighBytes (s : State) (p : Nat) : List Byte :=
  (List.range 20).flatMap fun i => leBytes 8 (wordOf s (plotSetFields p ++ plotPtrFields p) (0x60 + 8 * i))

/-- Bytes 0x00 to 0x0F of the memory copy (R47). -/
def plotLowBytes (s : State) (p : Nat) : List Byte :=
  leBytes 8 (wordOf s (plotStatusFields p) 0) ++ leBytes 8 (wordOf s (plotStatusFields p) 8)

/-! ### FaultRecord (R62) -/

/-- The 512 bits of a FaultRecord written in a pass of the ring with `phase`. -/
def faultValue (r : FaultRec) (plot phase : Nat) : Nat :=
  r.detail * 2 ^ 320 + bt r.chan.isSome 319 + (r.chan.getD 0) * 2 ^ 296 + (min r.len 0xFFFFFF) * 2 ^ 256 + bt r.node.isSome 255 +
    (r.node.getD 0) * 2 ^ 224 + bt r.win.isSome 223 + (r.win.getD 0) * 2 ^ 212 + r.status * 2 ^ 192 + r.addr * 2 ^ 128 + r.time * 2 ^ 64 +
    r.code * 2 ^ 56 + r.block * 2 ^ 52 + plot * 2 ^ 32 + r.seq * 2 ^ 16 + phase

/-! ### TrellisEntry (R105 to R108) -/

/-- Key class, level, scope and key of a key word. -/
def keyClass (k : Nat) : Nat := bits k 60 4
def keyLevel (k : Nat) : Nat := bits k 58 2
def keyScope (k : Nat) : Nat := bits k 56 2
def keyKey (k : Nat) : Nat := bits k 0 36

/-- Result fields of a result word (entry bits 127:64). -/
def resId (r : Nat) : Nat := bits r 44 20
def resAux (r : Nat) : Nat := bits r 28 16
def resPorts (r : Nat) : Nat := bits r 20 8
def resSelect (r : Nat) : Nat := bits r 18 2
def resClass (r : Nat) : Nat := bits r 16 2
def resInOrder (r : Nat) : Bool := tb r 15
def resNative (r : Nat) : Bool := tb r 14
def resHold (r : Nat) : Bool := tb r 13
def resAbsent (r : Nat) : Bool := tb r 12

/-- The bucket of a key (R108). -/
def trellisBucket (cls level key : Nat) : Nat :=
  let v := cls * 2 ^ 38 + level * 2 ^ 36 + key
  Nat.xor (Nat.xor (bits v 0 13) (bits v 13 13)) (Nat.xor (bits v 26 13) (bits v 39 3))

/-- The key with the parts its level masks set to 0 (R107); none where the class does not allow the level. -/
def maskKey (cls level key : Nat) : Option Nat :=
  match cls, level with
  | 1, 0 => some key
  | 1, 1 => some (key / 2 ^ 22 * 2 ^ 22)
  | 1, 2 => some (key / 2 ^ 28 * 2 ^ 28)
  | 1, 3 => some (key / 2 ^ 32 * 2 ^ 32)
  | 2, 0 => some key
  | 3, 0 => some key
  | 3, 1 => some (key / 2 ^ 16 * 2 ^ 16)
  | 3, 2 => some (key / 2 ^ 22 * 2 ^ 22)
  | 4, 0 => some key
  | 4, 1 => some (key % 2 ^ 24)
  | 5, 0 => some key
  | 5, 1 => some (key % 2 ^ 16)
  | _, _ => none

/-- The places a class's KEY leaves at 0, whatever the level (R107). -/
def keyShapeOk (cls key : Nat) : Bool :=
  match cls with
  | 1 => key % 2 ^ 16 == 0
  | 2 => decide (key < 4096)
  | _ => true

/-- Result fields the class does not name are 0 (R107). -/
def resultShapeOk (cls r : Nat) : Bool :=
  let flags := resInOrder r || resNative r || resHold r || resAbsent r
  match cls with
  | 1 => resId r == 0 && resAux r == 0 && resClass r == 0
  | 2 => resId r == 0 && resSelect r == 0 && resClass r == 0 && !flags
  | 3 => decide (resId r < 4096) && resAux r == 0 && resPorts r == 0 && resSelect r == 0 && resClass r == 0 && !flags
  | 4 => resPorts r == 0 && resSelect r == 0 && !flags
  | 5 => decide (resId r < 4096) && resPorts r == 0 && resSelect r == 0 && resClass r == 0 && !flags
  | _ => true

/-- An entry is malformed (R106): its key word and result word. -/
def trellisMalformed (k r : Nat) : Bool :=
  keyClass k != 0 &&
    (decide (5 < keyClass k) || keyScope k == 3 || decide (1 < resSelect r) || decide (1 < resClass r) ||
      maskKey (keyClass k) (keyLevel k) (keyKey k) != some (keyKey k) || !keyShapeOk (keyClass k) (keyKey k) ||
      !resultShapeOk (keyClass k) r)

/-- Two scopes overlap (R123). -/
def scopesOverlap (a b : Nat) : Bool := a == 0 || b == 0 || a == b

/-! ### Node IDs (R102) -/

/-- Unit of a node ID. -/
def nodeUnit (n : Nat) : Nat := n % 64
/-- Domain, segment and position of a node ID. -/
def nodePlace (n : Nat) : Nat := n / 64

end Sys2Proof.Machine
end

