-- ==== Sys2Proof/Machine/Flags.lean ====
section
/-!
DEFINITION. What the block reports: interrupts of a plot (R270 to R275), AER errors (R276), the fault log (R61 to R64) with its rate limit
(R550), GLB_FORMAT (R12, R549), and who may write a register.
-/
namespace Sys2Proof.Machine

/-- Plot states (R53). -/
def psDisabled : Nat := 0
def psLoading : Nat := 1
def psServing : Nat := 2
def psHeld : Nat := 3
def psResetting : Nat := 4
def psFaulted : Nat := 5

/-- The state of plot p. -/
def plotState (s : State) (p : Nat) : Nat := getF s (F.PE_STATUS_STATE p)

/-- The configuration state of function p. -/
def funcOf (s : State) (p : Nat) : Func := mget s.funcs p {}
/-- Replace it. -/
def setFunc (s : State) (p : Nat) (f : Func) : State := { s with funcs := mset s.funcs p f {} }
/-- Host port n. -/
def portOf (s : State) (n : Nat) : HostPort := mget s.ports n {}
/-- Replace it. -/
def setPort (s : State) (n : Nat) (h : HostPort) : State := { s with ports := mset s.ports n h {} }
/-- Change it. -/
def modPort (s : State) (n : Nat) (f : HostPort → HostPort) : State := setPort s n (f (portOf s n))
/-- PF0 of the port of plot p. -/
def pf0Of (p : Nat) : Nat := quadrantOf p * 1024
/-- Bus Master Enable as it counts: D3hot of the function, or of PF0 for a VF, makes it 0 (R278). -/
def bmeOf (s : State) (p : Nat) : Bool := (funcOf s p).bme && !(funcOf s p).d3hot && !(funcOf s (pf0Of p)).d3hot
/-- Routing ID of plot p (R5, R407). -/
def ridOf (s : State) (p : Nat) : Nat := (portOf s (quadrantOf p)).rid + indexOf p

/-- Put a TLP at the end of a port's transmit order. -/
def pushTlp (s : State) (n : Nat) (t : TlpOut) : State := modPort s n fun h => { h with txq := h.txq ++ [t] }

/-! ### AER (R276; bits and defaults as the standard has them, assumption 20) -/

/-- The status bit of an error: that of the uncorrectable status, or of the correctable status + 32. -/
def aerBit : AerErr → Nat
  | .unsupportedRequest => 20 | .completerAbort => 15 | .poisonedTlp => 12 | .completionTimeout => 14 | .unexpectedCompletion => 16
  | .malformed => 18 | .receiverOverflow => 17 | .uncorrectableInternal => 22 | .ideCheck => 28 | .correctedInternal => 46
  | .link .flowControl => 13 | .link .dataLink => 4 | .link .receiver => 32 | .link .badTlp => 38 | .link .badDllp => 39
  | .link .replayRollover => 40 | .link .replayTimer => 44

/-- The message that reports an error, if the masks, the severity and the enables ask for one. `adv`: it is advisory where its severity is
non-fatal. A VF reports by PF0's settings. -/
def errMessage (s : State) (p : Nat) (e : AerErr) (adv : Bool) : Option TlpOutKind :=
  let f := funcOf s (pf0Of p)
  let b := aerBit e
  let ur := e != .unsupportedRequest || f.repUr
  if 32 ≤ b then (if f.repCor && !bitOf f.aerCor (b - 32) then some .errCor else none)
  else if bitOf f.aerMask b then none
  else if bitOf f.aerSev b then (if (f.repFatal && ur) || f.serr then some .errFatal else none)
  else if adv then (if f.repCor && ur && !bitOf f.aerCor 13 then some .errCor else none)
  else if (f.repNonFatal && ur) || f.serr then some .errNonFatal else none

/-- Log an error in a function's AER capability, and report it in a message with the function's Routing ID (R276). -/
def aerLogAs (s : State) (p : Nat) (e : AerErr) (adv : Bool) : State :=
  let f := funcOf s p
  let soft := adv && !bitOf (funcOf s (pf0Of p)).aerSev (aerBit e)
  let t := emit (setFunc s p { f with aer := if f.aer.contains e then f.aer else f.aer ++ [e], aerAdv := f.aerAdv || soft }) (.aer p e)
  match errMessage s p e adv with
  | none => t
  | some k => if bitF t (F.HPT_LINK_DL_UP (quadrantOf p)) then pushTlp t (quadrantOf p) { kind := k, plot := p, reqId := ridOf t p } else t

/-- Log an error that is not advisory. -/
def aerLog (s : State) (p : Nat) (e : AerErr) : State := aerLogAs s p e false

/-! ### Interrupts -/

/-- Interrupt mechanisms (R270). -/
inductive Mechanism where
  | msix | msi | intx | none
  deriving DecidableEq, Repr

/-- The mechanism of function p. -/
def mechanism (s : State) (p : Nat) : Mechanism :=
  let f := funcOf s p
  if f.msixEn then .msix else if indexOf p != 0 then .none else if f.msiEn then .msi else if f.intDis then .none else .intx

/-- MSI-X entry v of plot p. -/
def msixOf (s : State) (p v : Nat) : MsixEnt := mget s.msix (p * 2048 + v) {}
/-- Replace it. -/
def setMsix (s : State) (p v : Nat) (e : MsixEnt) : State := { s with msix := mset s.msix (p * 2048 + v) e {} }

/-- The MSI message that carries vector v (R271). -/
def msiNumber (f : Func) (v : Nat) : Nat := min v (2 ^ f.mme - 1)

/-- A formation ends in the pending bit by the plot's state: Held, Faulted with BME 0, or D3hot (R273). -/
def pendByState (s : State) (p : Nat) : Bool :=
  plotState s p == psHeld || (plotState s p == psFaulted && !bmeOf s p) || (funcOf s p).d3hot

/-- A formation is lost by the plot's state (R55, R273). -/
def dropByState (s : State) (p v : Nat) : Bool :=
  plotState s p == psDisabled || plotState s p == psLoading || plotState s p == psResetting ||
    (plotState s p == psFaulted && v != getF s (F.PE_EVENT_VEC_FAULT_VEC p))

/-- The vectors of plot p that are pending, ascending. -/
def pendingVectors (s : State) (p : Nat) : List Nat :=
  (s.msix.filter fun x => x.1 / 2048 == p && x.2.pend).map fun x => x.1 % 2048

/-- INTA of a port is asserted (R271). -/
def inta (s : State) (n : Nat) : Bool := mechanism s (n * 1024) == .intx && !(pendingVectors s (n * 1024)).isEmpty

/-- INTA has changed: the port sends Assert_INTA or Deassert_INTA (R271). -/
def intaUpdate (s : State) (n : Nat) : State :=
  let a := inta s n
  if (portOf s n).intaOn == a then s
  else pushTlp (modPort s n fun h => { h with intaOn := a }) n
    { kind := if a then .assertInta else .deassertInta, plot := n * 1024, reqId := ridOf s (n * 1024) }

/-- Commit the message of a vector: it takes its place in the transmit order (R273, R274). -/
def commitMsix (s : State) (p v : Nat) : State :=
  let e := msixOf s p v
  pushTlp (setMsix s p v { e with pend := false }) (quadrantOf p)
    { kind := .interrupt, plot := p, reqId := ridOf s p, addr := e.addr, len := 4, data := leBytes 4 e.data }

/-- Commit MSI message m of PF0. -/
def commitMsi (s : State) (p m : Nat) : State :=
  let f := funcOf s p
  pushTlp (setFunc s p { f with msiPend := clrBit f.msiPend m }) (quadrantOf p)
    { kind := .interrupt, plot := p, reqId := ridOf s p, addr := f.msiAddr, len := 4,
      data := leBytes 4 (f.msiData / 2 ^ f.mme * 2 ^ f.mme + m) }

/-- An event requests vector v of plot p (R271, R273). -/
def reqVector (s : State) (p v : Nat) : State :=
  if dropByState s p v then s else
  match mechanism s p with
  | .none => s
  | .intx => let e := msixOf s p v; intaUpdate (setMsix s p v { e with pend := true }) (quadrantOf p)
  | .msix =>
    let e := msixOf s p v
    if pendByState s p || (funcOf s p).fmask || e.mask then setMsix s p v { e with pend := true } else commitMsix s p v
  | .msi =>
    let f := funcOf s p
    let m := msiNumber f v
    if pendByState s p || bitOf f.msiMask m then setFunc s p { f with msiPend := setBit f.msiPend m } else commitMsi s p m

/-- Commit every pending vector of a list that nothing holds any more, in ascending order (R273, R275). -/
def releaseVectors (s : State) (p : Nat) : List Nat → State
  | [] => s
  | v :: vs =>
    let s' := if (msixOf s p v).pend && !(msixOf s p v).mask then commitMsix s p v else s
    releaseVectors s' p vs

/-- Commit every pending MSI message of a list that is not masked. -/
def releaseMsi (s : State) (p : Nat) : List Nat → State
  | [] => s
  | m :: ms =>
    let f := funcOf s p
    let s' := if bitOf f.msiPend m && !bitOf f.msiMask m then commitMsi s p m else s
    releaseMsi s' p ms

/-- After a mask, Bus Master Enable or power change: release what nothing holds (R273, R275). A Faulted plot sends FAULT_VEC alone (R55). -/
def releasePending (s : State) (p : Nat) : State :=
  if pendByState s p || plotState s p == psDisabled || plotState s p == psLoading || plotState s p == psResetting then s else
  match mechanism s p with
  | .msix => if (funcOf s p).fmask then s else
      releaseVectors s p ((pendingVectors s p).filter fun v => !dropByState s p v)
  | .msi => releaseMsi s p ((List.range 32).filter fun m =>
      plotState s p != psFaulted || m == msiNumber (funcOf s p) (getF s (F.PE_EVENT_VEC_FAULT_VEC p)))
  | _ => s

/-! ### Modes and clocks (R32, R470) -/

/-- Modes of the device (R470). -/
def pwmMode (s : State) : Nat := getF s F.PWM_STATUS_MODE
def moDormant : Nat := 1
def moBoot : Nat := 2
def moServe : Nat := 3
def moDoze : Nat := 4
def moSafe : Nat := 5

/-- The Pergola domain has its clock (R32). -/
def coreRuns (s : State) : Bool := pwmMode s != moDoze

/-- The domain of quadrant q has its clock (R32, R33, R461). -/
def quadRuns (s : State) (q : Nat) : Bool := coreRuns s && bitOf (getF s F.PWM_GATE_RUN) q

/-! ### Fault log -/

/-- The ring is full, logging is off, or nothing may be written to plot memory (R55, R63). -/
def faultBlocked (s : State) (p : Nat) : Bool :=
  (getF s (F.PE_FAULT_PTR_PROD p) == getF s (F.PP_FAULT_CONS_CONS p) &&
    getF s (F.PE_FAULT_PTR_PHASE p) != getF s (F.PP_FAULT_CONS_PHASE p)) ||
  getF s (F.PE_FAULT_LOG_EN p) == 0 || !bmeOf s p || plotState s p == psResetting

/-- Note that written-back fields of a plot have changed; `high` for bytes 0x60 to 0xFF (R47). -/
def markDirty (s : State) (p : Nat) (high : Bool) : State :=
  modPlot s p fun x => { x with dirty := true, pdirty := x.pdirty || high }

/-- Write one record to slot PROD and advance (R61), then send FAULT_VEC if it is armed (R64). -/
def faultWrite (s : State) (p : Nat) (r : FaultRec) : State :=
  let prod := getF s (F.PE_FAULT_PTR_PROD p)
  let phase := getF s (F.PE_FAULT_PTR_PHASE p)
  let s := pushTlp s (quadrantOf p)
    { kind := .memWrite, plot := p, reqId := ridOf s p, addr := getF s (F.PE_FAULT_LOG_BASE p) * 4096 + 64 * prod, len := 64,
      data := leBytes 64 (faultValue r p phase) }
  let s := if prod + 1 == 16 * 2 ^ getF s (F.PE_FAULT_LOG_SIZE p)
    then setF (setF s (F.PE_FAULT_PTR_PROD p) 0) (F.PE_FAULT_PTR_PHASE p) (1 - phase)
    else setF s (F.PE_FAULT_PTR_PROD p) (prod + 1)
  let s := markDirty s p true
  if (plotOf s p).vecSent then s
  else reqVector (modPlot s p fun x => { x with vecSent := true }) p (getF s (F.PE_EVENT_VEC_FAULT_VEC p))

/-- Set HELD to the number of records held. -/
def setHeld (s : State) (p : Nat) (rs : List FaultRec) : State :=
  setF (modPlot s p fun x => { x with held := rs }) (F.PE_FAULT_PTR_HELD p) rs.length

/-- Append held records while nothing blocks the ring (R63). -/
def faultFlush (s : State) (p : Nat) : List FaultRec → State
  | [] => setHeld s p []
  | r :: rs => if faultBlocked s p then setHeld s p (r :: rs) else faultFlush (faultWrite s p r) p rs

/-- Append what is held (R63). -/
def faultRelease (s : State) (p : Nat) : State := faultFlush s p (plotOf s p).held

/-- Create a FaultRecord: it takes its SEQ and sets LAST_FAULT, and is written, held or lost (R61 to R63). A plot with no entry
loaded has no log. The first SEQ after a load is 0 (DESIGN CHOICE, assumption 124). -/
def faultCreate (s : State) (p : Nat) (r : FaultRec) : State :=
  if plotState s p == psDisabled || plotState s p == psLoading then s else
  let x := plotOf s p
  let r := { r with time := s.now, seq := x.seq }
  let s := setF (setPlot s p { x with seq := (x.seq + 1) % 65536 }) (F.PE_STATUS_LAST_FAULT p) r.code
  let s := markDirty s p false
  if faultBlocked s p || !x.held.isEmpty then
    if x.held.length < 16 then markDirty (setHeld s p (x.held ++ [r])) p true
    else bump (markDirty (setF s (F.PE_FAULT_PTR_OVERFLOW p) 1) p true) (F.PE_COUNTERS_FAULTS_LOST p)
  else faultWrite s p r

/-- The record a rate-limited code makes of the first event it covers and the counts of all of them (R100, R153, R180, R190). -/
def ratedRecord (s : State) (r : FaultRec) (count bytes late age : Nat) : FaultRec :=
  match r.code with
  | 0x04 => { r with len := min bytes 0xFFFFFF, detail := r.detail + min count 0xFFFF * 2 ^ 32 + age % 2 ^ 32 * 2 ^ 48 }
  | 0x05 => { r with detail := r.detail + min (count - 1) 0xFFFF * 2 ^ 32 }
  | 0x19 => { r with detail := min late 0xFFFFFFFF + min count 0xFFFF * 2 ^ 32 + getF s F.RAK_STATUS_DEMAND * 2 ^ 48 }
  | _ => { r with detail := r.detail + min count 0xFFFF * 2 ^ 32 }

/-- The key of a rate window: code and scope (R550). -/
def rateKey (code scope : Nat) : Nat := code * 64 + scope

/-- An event of a rate-limited code (R550): a record at once where no window is open, otherwise carried. -/
def faultRated (s : State) (p scope : Nat) (r : FaultRec) (late : Nat := 0) : State :=
  let k := rateKey r.code scope
  let w := mget (plotOf s p).rates k {}
  if w.isOpen then
    let w' := { w with
      first := some (w.first.getD r), count := w.count + 1, bytes := w.bytes + r.len, late := max w.late late,
      born := if w.first.isNone then s.now else w.born }
    modPlot s p fun x => { x with rates := mput x.rates k w' }
  else
    let s := faultCreate s p (ratedRecord s r 1 r.len late 0)
    modPlot s p fun x => { x with rates := mput x.rates k { isOpen := true } }

/-- A rate window ends (R550). -/
def rateWindowEnd (s : State) (p code scope : Nat) : State :=
  let k := rateKey code scope
  let w := mget (plotOf s p).rates k {}
  if !w.isOpen then s else
  match w.first with
  | none => modPlot s p fun x => { x with rates := mdel x.rates k }
  | some r =>
    let s := faultCreate s p (ratedRecord s r w.count w.bytes w.late (s.now - w.born))
    modPlot s p fun x => { x with rates := mput x.rates k { isOpen := true } }

/-! ### Reserved encodings in register writes (R12, R549) -/

/-- WRITER code of a party. -/
def writerCode : Party → Nat
  | .gardener => 0
  | .host n => 4 + n.val

/-- Record a write that carries a reserved encoding (R549). -/
def formatRecord (s : State) (who : Party) (off : Nat) : State :=
  let s := bump s F.GLB_FORMAT_COUNT
  if bitF s F.GLB_FORMAT_VALID then s
  else raise (setF (setF (setF s F.GLB_FORMAT_VALID 1) F.GLB_FORMAT_WRITER (writerCode who)) F.GLB_FORMAT_OFFSET off) 10

/-! ### Who may write a register, and when (R15, R268, R413, R478, R479, R507, R510) -/

/-- Blocks of a quadrant in the order of RST_SOFT (R486): HPT 0, GRF 1, LDG 2, DMA 3, PLT 4; a hold of the quadrant holds all. -/
def heldQ (s : State) (q k : Nat) : Bool :=
  bitOf (getF s F.RST_SOFT_QUAD) (6 * q + k) || bitOf (getF s F.RST_SOFT_QUAD) (6 * q + 5)

/-- CFP_ (k 0) or CFK_ (k 1) of a port is held. -/
def heldPort (s : State) (f k : Nat) : Bool := bitOf (getF s F.RST_SOFT_CALFOS) (2 * f + k)

/-- The block that owns an address of device register space is held in soft reset (R510). -/
def blockHeld (s : State) (a : Nat) : Bool :=
  if 0x100000 ≤ a ∧ a < 0x200000 then
    let q := (a - 0x100000) / 0x40000
    let o := (a - 0x100000) % 0x40000
    heldQ s q (if o < 0x10000 then 0 else if o < 0x18000 then 1 else if o < 0x20000 then 2 else if o < 0x30000 then 3 else 4)
  else if 0x200000 ≤ a ∧ a < 0x280000 then
    heldPort s ((a - 0x200000) / 0x10000) (if (a - 0x200000) % 0x10000 < 0x8000 then 0 else 1)
  else if 0x70000 ≤ a ∧ a < 0x80000 then bitF s F.RST_SOFT_TRL
  else if 0x90000 ≤ a ∧ a < 0xA0000 then bitF s F.RST_SOFT_RAK
  else if 0xA0000 ≤ a ∧ a < 0xB0000 then bitF s F.RST_SOFT_TST
  else false

/-- The register page of PF0 of a port is open (R15, R268). -/
def pageOpen (s : State) (n : Nat) : Bool :=
  (plotState s (n * 1024) == psServing || plotState s (n * 1024) == psHeld) && bitF s (F.PE_CAPS_MGMT_EN (n * 1024))

/-- The data link of a host port is up. -/
def hostUp (s : State) (n : Nat) : Bool := bitF s (F.HPT_LINK_DL_UP n)

/-- The function of plot p exists: PF0, or a VF that VF Enable has made (R265). -/
def funcEnabled (s : State) (p : Nat) : Bool :=
  indexOf p == 0 || ((portOf s (quadrantOf p)).vfEnable && decide (indexOf p ≤ (portOf s (quadrantOf p)).vfsOn))

/-- A memory request reaches function p's BARs (R269). -/
def funcMemory (s : State) (p : Nat) : Bool :=
  hostUp s (quadrantOf p) && bitF s (F.HPT_LINK_READY (quadrantOf p)) && funcEnabled s p && (funcOf s p).mse && !(funcOf s p).d3hot &&
    !(funcOf s (pf0Of p)).d3hot

/-- PF0's BAR0 reaches the register page: it is decoded, and has the size that holds the page (R15, R267, R268). -/
def pageReach (s : State) (n : Nat) : Bool := funcMemory s (n * 1024) && (portOf s n).bar0Big

/-- A write of a party reaches the registers at all: the host needs its register page decoded and open, the Gardener must not be in Safe. -/
def partyOpen (s : State) : Party → Bool
  | .gardener => !bitF s F.HDG_STATUS_SAFE
  | .host n => pageReach s n && pageOpen s n

/-- A write of a party to an address of device register space takes effect. -/
def regOpen (s : State) (who : Party) (a : Nat) : Bool := partyOpen s who && !blockHeld s a

/-- The party is a host. -/
def isHost : Party → Bool
  | .gardener => false
  | .host _ => true

end Sys2Proof.Machine
end

