-- ==== Sys2Proof/Machine/Route.lean ====
section
/-!
DEFINITION. Routing: the Trellis lookup (R109 to R118), Hedge's checks and caps (R405 to R408), and Pergola's queues and arbiters
(R195 to R208).
-/
namespace Sys2Proof.Machine

/-! ### The device's node ID -/

/-- Domain, segment and position as GLB_NODE reports them (R37, R103). -/
def myPlace (s : State) : Nat :=
  getF s F.GLB_NODE_DOMAIN * 1024 + getF s F.GLB_NODE_SEGMENT * 64 + getF s F.GLB_NODE_POSITION

/-- The node ID of a unit of this device (R24, R103). -/
def myNode (s : State) (unit : Nat) : Nat := myPlace s * 64 + unit

/-! ### Trellis -/

/-- Trellis serves lookups (R122). -/
def trellisReady (s : State) : Bool := bitF s F.TRL_CTRL_EN && bitF s F.TRL_CTRL_READY

/-- Key and result word of entry i. -/
def entryKey (s : State) (i : Nat) : Nat := mget s.trl.table (2 * i) 0
def entryResult (s : State) (i : Nat) : Nat := mget s.trl.table (2 * i + 1) 0
/-- Entry i is struck by an uncorrectable error and not yet rewritten (R31, R125). -/
def entryStruck (s : State) (i : Nat) : Bool := mget s.trl.struck i false

/-- Write entry i and clear its uncorrectable mark (R123). -/
def writeEntry (s : State) (i k r : Nat) : State :=
  { s with trl := { s.trl with
      table := mset (mset s.trl.table (2 * i) k 0) (2 * i + 1) r 0, struck := mdel s.trl.struck i } }

/-- Entry i is live in the current epoch (R109). -/
def entryLive (s : State) (i : Nat) : Bool :=
  let k := entryKey s i
  keyClass k != 0 && !entryStruck s i && (keyScope k == 0 || keyScope k == 1 + getF s F.TRL_CTRL_EPOCH)

/-- The first live entry of the bucket with this class, level and key (R108, R109). -/
def findLevel (s : State) (cls level key : Nat) : Option Nat :=
  let b := trellisBucket cls level key
  ((List.range 8).map fun j => 8 * b + j).find? fun i =>
    entryLive s i && keyClass (entryKey s i) == cls && keyLevel (entryKey s i) == level && keyKey (entryKey s i) == key

/-- A lookup: the levels in ascending order, the first hit (R109). -/
def trellisLookup (s : State) (cls key : Nat) : Option Nat :=
  if trellisReady s then
    (List.range 4).findSome? fun l => (maskKey cls l key).bind fun k => findLevel s cls l k
  else none

/-- Port f is usable: its link has trained and its lanes are Active, Drift or Hush (R111). -/
def portUsable (s : State) (f : Nat) : Bool :=
  (getF s (F.CFP_STATUS_STATE f) == 2 || getF s (F.CFP_STATUS_STATE f) == 3) && getF s (F.CFK_STATUS_LINK f) == 2

/-- The usable ports of a set, ascending. -/
def usablePorts (s : State) (set : Nat) : List Nat := (List.range 8).filter fun f => bitOf set f && portUsable s f

/-- The SPREAD hash of a source and a destination (R111). -/
def spreadHash (src dest : Nat) : Nat :=
  let k := Nat.xor src dest
  Nat.xor (Nat.xor (bits k 15 5) (bits k 10 5)) (Nat.xor (bits k 5 5) (bits k 0 5))

/-- Choose the egress port of a set (R111). -/
def choosePort (ports : List Nat) (select src dest : Nat) : Option Nat :=
  if select == 1 then ports[spreadHash src dest % max ports.length 1]? else ports.head?

/-- The port set a plot may use, from its PLOT entry (R107, R111). -/
def plotPorts (s : State) (set : Nat) (plot : Option Nat) : Nat :=
  match plot with
  | none => set
  | some p =>
    match trellisLookup s 2 p with
    | none => set
    | some i => let r := resPorts (entryResult s i); if r == 0 then set else Nat.land set r

/-- Where a request goes: an egress port with the flags of its DEST hit (R116), or a local status (R113, R114). -/
inductive Route where
  | egress (port : Nat) (res : Nat)
  | reflect
  | fail (status : Nat)
  deriving DecidableEq, Repr

/-- Route by destination (R110 to R114). Until GLB_NODE.VALID is 1 nothing is originated (R37): the request ends
locally with Nak-Address, which counts no miss (DESIGN CHOICE, assumption 125). -/
def routeOf (s : State) (dest src : Nat) (plot : Option Nat) : State × Route :=
  if !bitF s F.GLB_NODE_VALID then (s, .fail 2)
  else if trellisReady s && nodePlace dest == myPlace s then (s, .reflect)
  else
    match trellisLookup s 1 (dest * 2 ^ 16) with
    | none => (bump s F.TRL_MISS_DEST, .fail 2)
    | some i =>
      let r := entryResult s i
      if resAbsent r then (s, .fail 5)
      else
        match choosePort (usablePorts s (plotPorts s (resPorts r) plot)) (resSelect r) src dest with
        | none => (setEv (bump s F.TRL_MISS_NOPORT) F.TRL_EVENT_NOPORT 1240, .fail 2)
        | some f => (s, .egress f r)

/-- The flags of a route; the reflection port takes the row of ATOMIC_NATIVE 1 (R171). -/
def Route.native : Route → Bool
  | .egress _ r => resNative r
  | .reflect => true
  | .fail _ => false
def Route.hold : Route → Bool
  | .egress _ r => resHold r
  | _ => false
/-- The route keeps order (R116). The reflection port, where no entry is consulted, does (DESIGN CHOICE, assumption 125). -/
def Route.inOrder : Route → Bool
  | .egress _ r => resInOrder r
  | .reflect => true
  | .fail _ => false
/-- The Pergola port of a route (R21). -/
def Route.pga : Route → Nat
  | .egress f _ => 4 + f
  | .reflect => 19
  | .fail _ => 20

/-- The plot an inbound source maps to (R118). -/
def sourcePlot (s : State) (src tenant : Nat) : Option Nat :=
  (trellisLookup s 3 (src * 2 ^ 16 + tenant)).map fun i => resId (entryResult s i) % 4096

/-! ### Hedge -/

/-- One entry admits a range for a set of kinds (R405). -/
def fenceAdmits (e : FenceEnt) (node x y : Nat) (rd wr at_ : Bool) : Bool :=
  !e.struck && e.node == node && decide (e.base * 4096 ≤ x) && decide (y ≤ e.last * 4096 + 4095) &&
    (!rd || e.rd) && (!wr || e.wr) && (!at_ || e.at_)

/-- A range passes a plot's fence check (R405). -/
def fenceOk (s : State) (p node x y : Nat) (rd wr at_ : Bool) : Bool :=
  (mget s.hdg.fence p []).any fun e => fenceAdmits e node x y rd wr at_

/-- A check of R405 has failed (R415). -/
def fenceRefused (s : State) : State := bump s F.HDG_COUNT_FENCE_REFUSED

/-- A range meets a node's side-effect ranges (R405). -/
def meetsSide (s : State) (node x y : Nat) : Bool :=
  (mget s.hdg.side node []).any fun e => e.struck || (decide (e.base * 4096 ≤ y) && decide (x ≤ e.last * 4096 + 4095))

/-- The whole target of a window passes the fence check (R91, R405). -/
def windowFenceOk (s : State) (p : Nat) (e : WinEntry) : Bool :=
  fenceOk s p e.node e.tbase (e.tbase + (e.end_ - e.first)) e.rdEn e.wrEn e.atEn

/-- The target of a window meets a side-effect range (R91). -/
def windowSide (s : State) (e : WinEntry) : Bool := meetsSide s e.node e.tbase (e.tbase + (e.end_ - e.first))

/-- A plot's tenant tag (R117, R407). -/
def tenantOf (s : State) (p : Nat) : Nat := (mget s.hdg.tags p none).getD p

/-- A request of a plot carries Hedge's tag; a PLOT entry with another AUX makes it a substitution (R117, R407). -/
def tagFix (s : State) (p : Nat) : State :=
  match trellisLookup s 2 p with
  | none => s
  | some i => if resAux (entryResult s i) == tenantOf s p then s
      else setEv (bump s F.HDG_COUNT_TAG_FIX) F.HDG_EVENT_TAG_FIX 1272

/-- Take bytes from a cap bucket, if there is one (R408). -/
def takeCap (c : Option Cap) (n : Nat) : Option Cap := c.map fun c => { c with level := c.level - n }

/-- A cap bucket admits (R408). -/
def capAdmits (c : Option Cap) : Bool := match c with | none => true | some c => decide (0 ≤ c.level)

/-- Depth of a RATE bucket in bytes; 0 rate: no limit (R57). -/
def rateDepth (s : State) (p r : Nat) : Nat := getF s (F.PE_RATE_BURST p r) * 1024

/-- Both transmit buckets of a plot admit (R57, R58, R408). -/
def txAdmits (s : State) (p : Nat) : Bool :=
  (getF s (F.PE_RATE_RATE p 0) == 0 || decide (0 ≤ (plotOf s p).tx)) && capAdmits (mget s.hdg.plotCap p none)

/-- The RATE_TX bucket holds requests: its level is negative while host requests of the plot wait in the plot queue (R49, R57, R58). -/
def rateHeld (s : State) (p : Nat) : Bool :=
  getF s (F.PE_RATE_RATE p 0) != 0 && decide ((plotOf s p).tx < 0) && !(plotOf s p).queue.isEmpty

/-- Show STATUS.RATE_HELD, a written-back field (R47, R49). -/
def rateShow (s : State) (p : Nat) : State :=
  if bitF s (F.PE_STATUS_RATE_HELD p) == rateHeld s p then s else markDirty (setB s (F.PE_STATUS_RATE_HELD p) (rateHeld s p)) p false

/-- A send of n bytes is counted in both transmit buckets (R57, R408). -/
def txCount (s : State) (p n : Nat) : State :=
  let s := if getF s (F.PE_RATE_RATE p 0) == 0 then s else rateShow (modPlot s p fun x => { x with tx := x.tx - n }) p
  { s with hdg := { s.hdg with plotCap := mset s.hdg.plotCap p (takeCap (mget s.hdg.plotCap p none) n) none } }

/-! ### Pergola (chapter 07) -/

/-- Payload bytes a transaction carries. -/
def txnPayload : Txn → Nat
  | .req r => r.data.length
  | .resp r => r.data.length

/-- Beats of 128 B a transaction occupies (R194). -/
def txnBeats (t : Txn) : Nat := max 1 ((txnPayload t + 127) / 128)

/-- The charge of a transaction (R208). -/
def txnCharge (t : Txn) : Nat := max 64 (txnPayload t)

/-- The weight of a flow (R207). -/
def flowWeight (s : State) : FlowId → Nat
  | .host p => getF s (F.PE_SHARE_WEIGHT p)
  | .dma p => getF s (F.PE_SHARE_WEIGHT_DMA p)
  | .through _ => getF s F.PGA_CTRL_THRU_WEIGHT
  | .gardener => getF s F.PGA_CTRL_GDN_WEIGHT
  | .rake => getF s F.PGA_CTRL_RAKE_WEIGHT
  | .diag => 16

/-- All transactions queued for an egress and class. -/
def queuedAt (s : State) (e c : Nat) : List QTxn := (mget s.pga.active (e * 8 + c) []).flatMap fun f => f.queue

/-- Beats of a list of transactions. -/
def beatsOf (ts : List QTxn) : Nat := (ts.map fun t => txnBeats t.txn).sum

/-- An ingress is a Calfos port, whose store is its receive buffer (R195, R197). -/
def calfosIngress (i : Nat) : Bool := decide (4 ≤ i) && decide (i < 12)

/-- Beats that a queue of ingress i holds in the ingress store (R196). -/
def voqBeats (s : State) (i e c : Nat) : Nat := (((queuedAt s e c).filter fun t => t.ingress == i).map fun t => t.held).sum

/-- Beats an ingress store holds (R195). -/
def storeBeats (i : Nat) : Nat :=
  if i < 4 then 1024 else if i < 12 then 4096 else if i < 16 then 1024 else if i < 19 then 256 else 512

/-- Beats of the store that belong to its queues: 4 to each egress port in each of the three A classes; what a client of the device sends travels in no
other (R196, R200; DEDUCED, assumption 114). -/
def ownBeats : Nat := 240

/-- The transactions of ingress i in its virtual output queues. -/
def storeTxns (s : State) (i : Nat) : List QTxn := s.pga.active.flatMap fun x => x.2.flatMap fun f => f.queue.filter fun t => t.ingress == i

/-- Beats of the shared remainder of a store in use (R196). -/
def sharedBeats (s : State) (i : Nat) : Nat :=
  (s.pga.active.map fun x => ((x.2.flatMap fun f => f.queue.filter fun t => t.ingress == i).map fun t => t.held).sum - 4).sum

/-- Beats that a queue may take now (R196, R197). -/
def voqAllow (s : State) (i e c : Nat) : Nat :=
  if calfosIngress i then 4096
  else
    let n := voqBeats s i e c
    (4 - n) + min (getF s F.PGA_POOL_CAP - max n 4) (storeBeats i - ownBeats - sharedBeats s i)

/-- The input buffer of a client for a class. -/
def inboxOf (s : State) (e c : Nat) : List QTxn := mget s.pga.inbox (e * 8 + c) []

/-- Beats of a Calfos receive buffer that stand in no queue yet: transactions that wait for GLB_NODE.VALID, and those still arriving (R194, R371). -/
def rxBeats (s : State) (f : Nat) : Nat :=
  let l := mget s.links f {}
  beatsOf (l.waitRx.map fun x => x.2) + (l.classes.map fun c => match c.2.part with | none => 0 | some p => max 1 ((p.data.length + 127) / 128)).sum

/-- Beats in the store of the reflection port: what has come through its egress goes straight into it (R195). -/
def reflectBeats (s : State) : Nat :=
  beatsOf (storeTxns s 19) + beatsOf ((s.pga.waiting.filter fun w => w.t.ingress == 19).map fun w => w.t) +
    ((List.range 6).map fun c => beatsOf (inboxOf s 19 c)).sum

/-- Beats held in the ingress store of port i (R213). -/
def usedBeats (s : State) (i : Nat) : Nat :=
  if i == 19 then reflectBeats s
  else if calfosIngress i then beatsOf (storeTxns s i) + rxBeats s (i - 4)
  else ((storeTxns s i).map fun t => t.held).sum

/-- A queue takes a new transaction: no earlier one waits for it or stands partly in its client, and it may take a beat (R196). -/
def voqOpen (s : State) (i e c : Nat) : Bool :=
  calfosIngress i ||
    (decide (0 < voqAllow s i e c) && !(s.pga.waiting.any fun w => w.egress == e && w.cls == c && w.t.ingress == i) &&
      !((queuedAt s e c).any fun t => t.ingress == i && decide (t.held < txnBeats t.txn)))

/-- Bring PGA_OCC of an ingress up to date (R213). -/
def occUpdate (s : State) (i : Nat) : State :=
  let n := usedBeats s i
  highWater (setF s (F.PGA_OCC_USED i) n) (F.PGA_OCC_HIGH i) n

/-- A transaction takes the beats of its queue that it may (R196; DEDUCED, assumption 103). -/
def takeBeats (s : State) (e c : Nat) (t : QTxn) : QTxn := { t with held := min (txnBeats t.txn) (t.held + voqAllow s t.ingress e c) }

/-- Append to a flow; a flow that becomes non-empty joins the tail (R208). -/
def joinFlow (fs : List FlowSt) (f : FlowId) (t : QTxn) : List FlowSt :=
  if fs.any fun x => x.flow == f then fs.map fun x => if x.flow == f then { x with queue := x.queue ++ [t] } else x
  else fs ++ [{ flow := f, queue := [t] }]

/-- Put a transaction into its virtual output queue. -/
def voqPut (s : State) (e c : Nat) (f : FlowId) (t : QTxn) : State :=
  let k := e * 8 + c
  let t := takeBeats s e c t
  occUpdate { s with pga := { s.pga with active := mset s.pga.active k (joinFlow (mget s.pga.active k []) f t) [] } } t.ingress

/-- Hand a transaction to Pergola: into its queue, or to wait in its client while the queue takes none (R196). -/
def pgaPush (s : State) (e c : Nat) (f : FlowId) (t : QTxn) : State :=
  if voqOpen s t.ingress e c then voqPut s e c f t
  else
    let s := { s with pga := { s.pga with waiting := s.pga.waiting ++ [⟨e, c, f, t⟩] } }
    if t.ingress == 19 then occUpdate s 19 else s

/-- The transactions of one queue that stand partly in their clients take what room there is. -/
def topUpAt (s : State) (k : Nat) : State :=
  let fs := mget s.pga.active k []
  let part (t : QTxn) : Bool := decide (t.held < txnBeats t.txn)
  let ps := (fs.flatMap fun f => f.queue).filter part
  if ps.isEmpty then s
  else
    let fs := fs.map fun f => { f with queue := f.queue.map fun t => if part t then takeBeats s (k / 8) (k % 8) t else t }
    ps.foldl (fun s t => occUpdate s t.ingress) { s with pga := { s.pga with active := mset s.pga.active k fs [] } }

/-- Let waiting transactions enter, in order, each once its queue takes one. -/
def pgaEnter (s : State) : List Waiting → List Waiting → State
  | [], kept => { s with pga := { s.pga with waiting := kept } }
  | w :: ws, kept =>
    let s' := { s with pga := { s.pga with waiting := kept } }
    if voqOpen s' w.t.ingress w.egress w.cls then pgaEnter (voqPut s' w.egress w.cls w.flow w.t) ws kept
    else pgaEnter s ws (kept ++ [w])

/-- Room has come free: first the transactions that stand partly in their clients take it, then those that wait (R196). -/
def pgaAdmit (s : State) : State :=
  let s := (s.pga.active.map fun x => x.1).foldl topUpAt s
  pgaEnter s s.pga.waiting []

/-- Beats a client's input buffer holds per class (R195). Port 19 has none: its beats go straight into its ingress store. -/
def inboxRoom (e : Nat) : Nat :=
  if e < 4 then 128 else if e < 12 then 32 else if e < 16 then 128 else 32

/-- Replace it. -/
def setInbox (s : State) (e c : Nat) (l : List QTxn) : State :=
  { s with pga := { s.pga with inbox := mset s.pga.inbox (e * 8 + c) l [] } }

/-- Bytes that wait in a host port's transmit order; its FLIT replay buffer holds 1 MiB (R30). -/
def txqBytes (s : State) (n : Nat) : Nat := ((portOf s n).txq.map fun t => 16 + t.data.length).sum

/-- The replay region of a host port has room for more requests of the device (R30; DESIGN CHOICE, assumption 115). -/
def txqRoom (s : State) (n : Nat) : Bool := decide (txqBytes s n + 4112 ≤ 1048576)

/-- Bytes a port cap counts for a transfer the device originates (R408). -/
def capBytes : Txn → Nat
  | .req r => match r.op with
    | .read | .signalRead | .write | .atomic => r.len
    | _ => 0
  | .resp r => r.data.length

/-- The client of an egress has room for a transaction (R194, R195). A transfer to the host takes its place in the port's transmit order. -/
def clientRoom (s : State) (e c : Nat) (t : QTxn) : Bool :=
  if e == 19 then decide (reflectBeats s + txnBeats t.txn ≤ storeBeats 19)
  else if decide (e < 4) && t.host.isSome then txqRoom s e
  else decide (beatsOf (inboxOf s e c) + txnBeats t.txn ≤ inboxRoom e)

/-- The egress client has credit for a transaction, and a port cap admits what the device originates (R194, R208, R408). An egress whose clocks are
stopped has none (R33, R34). -/
def egressCredit (s : State) (e c : Nat) (t : QTxn) : Bool :=
  clientRoom s e c t && (!(decide (e < 4) || (decide (12 ≤ e) && decide (e < 16))) || quadRuns s (e % 4)) &&
    (!(t.own && calfosIngress e) || capAdmits (mget s.hdg.portCap (e - 4) none))

/-- Count a transfer in the cap of its Calfos port (R408). -/
def portCapCount (s : State) (e : Nat) (t : QTxn) : State :=
  if t.own && decide (4 ≤ e) && decide (e < 12) then
    { s with hdg := { s.hdg with portCap := mset s.hdg.portCap (e - 4) (takeCap (mget s.hdg.portCap (e - 4) none) (capBytes t.txn)) none } }
  else s

/-- What one service of a class did (R208). -/
inductive Served where
  | sent (t : QTxn) (fs : List FlowSt)
  | stalled (fs : List FlowSt)
  | empty
  deriving DecidableEq, Repr

/-- Serve one class until a transaction is sent or waits for credit: turns rotate with their deficit carried (R208). -/
def serveClass (s : State) (e c : Nat) : Nat → List FlowSt → Served
  | 0, fs => .stalled fs
  | _, [] => .empty
  | fuel + 1, f :: fs =>
    let f := if f.inTurn then f else { f with deficit := f.deficit + 64 * flowWeight s f.flow, inTurn := true }
    match f.queue with
    | [] => serveClass s e c fuel fs
    | t :: ts =>
      if txnCharge t.txn ≤ f.deficit then
        if egressCredit s e c t then
          .sent t (if ts.isEmpty then fs else { f with deficit := f.deficit - txnCharge t.txn, queue := ts } :: fs)
        else .stalled (f :: fs)
      else serveClass s e c fuel (fs ++ [{ f with inTurn := false }])

/-- The classes in the order of R207: Management, Response, Request; A before B. -/
def classOrder : List Nat := [4, 5, 2, 3, 0, 1]

/-- A class other than Management has beats waiting at the egress. -/
def othersWait (s : State) (e : Nat) : Bool := [2, 3, 0, 1].any fun c => !(mget s.pga.active (e * 8 + c) []).isEmpty

/-- Store an active list. -/
def setActive (s : State) (e c : Nat) (fs : List FlowSt) : State :=
  { s with pga := { s.pga with active := mset s.pga.active (e * 8 + c) fs [] } }

/-- Serve the classes of a list in order; the first that sends has the egress. -/
def serveClasses (s : State) (e : Nat) : List Nat → State × Option (Nat × QTxn)
  | [] => (s, none)
  | c :: cs =>
    let fs := mget s.pga.active (e * 8 + c) []
    match serveClass s e c (fs.length * 66 + 1) fs with
    | .sent t fs' => (setActive s e c fs', some (c, t))
    | .stalled fs' => serveClasses (setActive s e c fs') e cs
    | .empty => serveClasses s e cs

/-- Management may take a beat: at most 8 of any 64 cycles while others wait (R207). -/
def mgmtMay (s : State) (e : Nat) : Bool :=
  !othersWait s e || decide (((mget s.pga.recent e []).filter id).length < 8)

/-- The classes an egress may serve now. -/
def classesNow (s : State) (e : Nat) : List Nat := if mgmtMay s e then classOrder else [2, 3, 0, 1]

/-- The cycles of an egress: the newest `n` carried Management, or did not. Of 64 cycles the 63 before the next are kept. -/
def noteCycles (s : State) (e n : Nat) (mgmt : Bool) : State :=
  { s with pga := { s.pga with recent := mset s.pga.recent e ((List.replicate n mgmt ++ mget s.pga.recent e []).take 63) [] } }

/-- Count cycles in a counter of PGA_SAT, which shows units of 1,024 (R213): the counter's field, what it does not show yet, and that afterwards. -/
def cycleUnits (s : State) (f : Fld) (old n : Nat) : State × Nat := (bumpBy s f ((old + n) / 1024), (old + n) % 1024)

/-- Cycles in which the egress sent a beat. -/
def noteBusy (s : State) (e n : Nat) : State :=
  let (s, r) := cycleUnits s (F.PGA_SAT_BUSY e) (mget s.pga.busy e 0) n
  { s with pga := { s.pga with busy := mset s.pga.busy e r 0 } }

/-- Cycles in which the egress had a beat queued and no credit from its client. -/
def noteStall (s : State) (e n : Nat) : State :=
  let (s, r) := cycleUnits s (F.PGA_SAT_STALL e) (mget s.pga.stall e 0) n
  { s with pga := { s.pga with stall := mset s.pga.stall e r 0 } }

/-- Note the beats of a grant (R207, R213). -/
def noteGrant (s : State) (e c : Nat) (t : QTxn) : State :=
  noteBusy (noteCycles s e (txnBeats t.txn) (c == 4 || c == 5)) e (txnBeats t.txn)

/-- The egress has a beat queued and no class that can be sent (R209). -/
def egressStalled (s : State) (e : Nat) : Bool :=
  (List.range 6).any (fun c => !(queuedAt s e c).isEmpty) && (serveClasses s e (classesNow s e)).2.isNone

/-- A virtual output queue of an ingress takes a transaction with this route: its sender need not wait (R196). -/
def routeOpen (s : State) (i c : Nat) (rt : Route) : Bool :=
  match rt with
  | .fail _ => true
  | rt => voqOpen s i rt.pga c

end Sys2Proof.Machine
end

