-- ==== Sys2Proof/Machine/Table.lean ====
section
/-!
DEFINITION. Configuration memory (R43): its reads and writes, in host memory or at a fabric node, and the write-backs of plot entries (R47).
-/
namespace Sys2Proof.Machine

/-- Configuration memory of port q may be accessed now (R43). -/
def tableOpen (s : State) (q : Nat) : Bool :=
  bitF s (F.PLT_TABLE_BASE_VALID q) && (bitF s (F.PLT_TABLE_BASE_TARGET q) || bmeOf s (q * 1024))

/-- Address of the PlotEntry of plot p (R44). -/
def entryAddr (s : State) (p : Nat) : Nat := getF s (F.PLT_TABLE_BASE_BASE (quadrantOf p)) * 2 ^ 18 + 256 * indexOf p

/-! ### Requests at a fabric node (R24, R43) -/

/-- The lowest tag from `n` on that neither a Ledger entry nor a request for configuration memory holds. -/
def tagFrom (x : Quad) : Nat → Nat → Nat
  | 0, n => mfree x.ledger n
  | k + 1, n => let m := mfree x.ledger n; if (mfind x.table m).isSome then tagFrom x k (m + 1) else m

/-- A free tag of the quadrant's unit (R24, R134): the lowest, at once after its request has retired (DESIGN CHOICE, assumption 116). -/
def freeTag (s : State) (q : Nat) : Nat := tagFrom (quadOf s q) (quadOf s q).table.length 0

/-- Send a fabric request for configuration memory to PLT_TABLE_NODE (R43): from the host path of the quadrant, under its unit and a tag of its
own (R24), as a request of PF0 (DESIGN CHOICE, assumption 117). False where Trellis ends it locally (R37, R113, R114). -/
def tableSend (s : State) (q : Nat) (use : TabUse) (op : FabOp) (addr len : Nat) (data : List Byte) : State × Bool :=
  let p := q * 1024
  let tag := freeTag s q
  let r : FabReq := { op := op, dest := getF s (F.PLT_TABLE_NODE_NODE q), src := myNode s (1 + q), tenant := tenantOf s p, tag := tag, addr := addr,
                      len := len, data := data }
  let (s, rt) := routeOf s r.dest r.src (some p)
  match rt with
  | .fail _ => (s, false)
  | rt =>
    let s := modQuad (tagFix s p) q fun x => { x with table := mput x.table tag { use := use, write := op == .write, len := if op == .write then 0 else len } }
    (pgaPush s rt.pga 0 (.host p) { ingress := q, txn := .req r, plot := p }, true)

/-- What a request was sent for has ended: nothing waits for its answer any more. -/
def tableDrop (s : State) (q : Nat) (use : TabUse) : State :=
  modQuad s q fun x => { x with table := x.table.filter fun y => y.2.use != use }

/-- A fabric request for a purpose is outstanding. -/
def tableAsked (s : State) (q : Nat) (use : TabUse) : Bool := (quadOf s q).table.any fun x => x.2.use == use

/-- The outside tells how a request for configuration memory ended: of a fabric request only that no answer came, for its answer comes by itself. -/
def tableTakes (s : State) (q : Nat) (use : TabUse) (failed : Bool) : Bool := failed || !tableAsked s q use

/-- Read configuration memory: of host memory under PF0, or by a fabric Read (R43). False where it fails at once. -/
def tableRead (s : State) (q : Nat) (use : TabUse) (addr len : Nat) : State × Bool :=
  if !tableOpen s q then (s, false)
  else if bitF s (F.PLT_TABLE_BASE_TARGET q) then tableSend s q use .read addr len []
  else (emit s (.tableRead q addr len), true)

/-- Write configuration memory: by a host TLP under PF0, or a fabric Write (R43). False where it fails at once. -/
def tableWrite (s : State) (q : Nat) (use : TabUse) (addr : Nat) (data : List Byte) : State × Bool :=
  if !tableOpen s q then (s, false)
  else if bitF s (F.PLT_TABLE_BASE_TARGET q) then tableSend s q use .write addr data.length data
  else (pushTlp s q { kind := .memWrite, plot := q * 1024, reqId := ridOf s (q * 1024), addr := addr, len := data.length, data := data }, true)

/-- A read of configuration memory failed as a request of PF0 in host memory: its AER report (R276). -/
def tableAer (s : State) (q : Nat) (why : HostFail) : State :=
  if bitF s (F.PLT_TABLE_BASE_TARGET q) then s
  else match why with
    | .timeout => aerLog s (q * 1024) .completionTimeout
    | .poisoned => aerLog s (q * 1024) .poisonedTlp
    | _ => s

/-! ### Write-backs (R47) -/

/-- A write-back fails (R47): what it carried is still to be written; `high` where bytes 0x60 to 0xFF were not. One of an earlier residency
of the plot leaves nothing to write. -/
def writebackFail (s : State) (p : Nat) (high : Bool) : State :=
  let old := (plotOf s p).wbBusy.any fun k => decide (2 < k)
  let s := if old then modPlot s p fun x => { x with wbBusy := none }
    else modPlot s p fun x => { x with wbBusy := none, dirty := true, pdirty := x.pdirty || high }
  bump s (F.PLT_WB_WB_FAIL (quadrantOf p))

/-- The second write of a write-back: bytes 0x00 to 0x0F as they stood when it started (R47). False where it fails at once. -/
def writebackLow (s : State) (p : Nat) : State × Bool :=
  let (s, ok) := tableWrite (modPlot s p fun x => { x with wbBusy := x.wbBusy.map fun k => k + 1 }) (quadrantOf p) (.writeback p) (entryAddr s p)
    (plotOf s p).wbLow
  (if ok then s else writebackFail s p false, ok)

/-- Start a write-back (R47). One already on its way is followed by another. It carries WB_SEQ increased by 1, which the resident STATUS takes
once it has succeeded. -/
def writebackStart (s : State) (p : Nat) : State :=
  let x := plotOf s p
  let low := plotLowBytes (wrapInc s (F.PE_STATUS_WB_SEQ p)) p
  if x.wbBusy.isSome then setPlot s p { x with wbAgain := true }
  else if !tableOpen s (quadrantOf p) then writebackFail s p false
  else if bitF s (F.PE_STATUS_PSET_VALID p) && x.pdirty then
    let (s, ok) := tableWrite (setPlot s p { x with wbBusy := some 1, wbLow := low, dirty := false, pdirty := false }) (quadrantOf p) (.writeback p)
      (entryAddr s p + 0x60) (plotHighBytes s p)
    if ok then s else writebackFail s p true
  else (writebackLow (setPlot s p { x with wbBusy := some 1, wbLow := low, dirty := false }) p).1

/-- A plot takes a new state; the change is written back (R47). -/
def enterState (s : State) (p st : Nat) : State := writebackStart (setF s (F.PE_STATUS_STATE p) st) p

end Sys2Proof.Machine
end

