-- ==== Sys2Proof/Machine/Channels.lean ====
section
/-!
DEFINITION. The channels of the DMA clusters as the rest of the block sees them (chapter 08): the channel table on die, its registers, and how
the answers of the fabric and of the host reach the burst they belong to.
-/
namespace Sys2Proof.Machine

/-- Channel states and causes (R221). -/
def csIdle : Nat := 0
def csRunning : Nat := 1
def csStalled : Nat := 2
def csAborting : Nat := 3
def csHalting : Nat := 4
def csHalted : Nat := 5
def ccFetch : Nat := 1
def ccContext : Nat := 2
def ccEntry : Nat := 3
def ccHost : Nat := 4
def ccBadStop : Nat := 5

/-- The key of a channel. -/
def chanKey (p c : Nat) : Nat := p * 256 + c

/-- Channel c of plot p. -/
def chanOf (s : State) (p c : Nat) : Chan := mget s.chans (chanKey p c) {}

/-- The channels of a quadrant, in plot-major order. -/
def quadChans (s : State) (q : Nat) : SMap Chan := s.chans.filter fun x => x.1 / 262144 == q

/-- A burst still holds its buffer space (R228): a read that has not failed, or has answers still to come, or a write that has not been handed over. -/
def Burst.holds (b : Burst) : Bool :=
  !b.store && (if b.written then b.writes.any fun w => !w.handed
    else b.reads.all (fun r => r.bad.isNone) || b.reads.any fun r => r.sent && r.left != 0)

/-- Burst buffer a channel uses, in units of 64 B. -/
def chanBuf (c : Chan) : Nat := ((c.bursts.filter Burst.holds).map fun b => (b.len + 63) / 64).sum

/-- Bring DMA_CTX and DMA_BUF of a quadrant up to date (R244). -/
def dmaOcc (s : State) (q : Nat) : State :=
  let cs := quadChans s q
  let u := (cs.filter fun x => x.2.resident).length
  let b := (cs.map fun x => chanBuf x.2).sum
  let s := highWater (setF s (F.DMA_CTX_USED q) u) (F.DMA_CTX_HIGH q) u
  let s := setF s (F.DMA_CTX_PENDING q) (cs.filter fun x => x.2.pending).length
  highWater (setF s (F.DMA_BUF_USED q) b) (F.DMA_BUF_HIGH q) b

/-- A channel has writes to plot memory still to make (R220). -/
def Chan.withheld (c : Chan) : Bool := c.held

/-- Show a channel in PP_CHAN_STATUS (R220). -/
def chanShow (s : State) (p c : Nat) (x : Chan) : State :=
  let s := setB (setB s (F.PP_CHAN_STATUS_RESIDENT p c) x.resident) (F.PP_CHAN_STATUS_PENDING p c) x.pending
  let s := setB (setB s (F.PP_CHAN_STATUS_REARM p c) x.rearm) (F.PP_CHAN_STATUS_ABORT_PEND p c) x.abortPend
  let s := setF (setB s (F.PP_CHAN_STATUS_WITHHELD p c) x.withheld) (F.PP_CHAN_STATUS_CAUSE p c) x.cause
  setF s (F.PP_CHAN_STATUS_STATE p c) x.st

/-- Put a channel. -/
def putChan (s : State) (p c : Nat) (x : Chan) : State :=
  dmaOcc (chanShow { s with chans := mset s.chans (chanKey p c) x {} } p c x) (quadrantOf p)

/-- Change a channel. -/
def modChan (s : State) (p c : Nat) (f : Chan → Chan) : State := putChan s p c (f (chanOf s p c))

/-- HALT_ON_BAD of the control word in effect (R215). -/
def Chan.haltOnBad (x : Chan) : Bool := bitOf x.act 9

/-- A channel is following its chain. -/
def Chan.going (x : Chan) : Bool := x.st == csRunning || (x.st == csStalled && x.back == csRunning)

/-- A channel halts, or will go on to once its record is appended. -/
def Chan.halting (x : Chan) : Bool := x.st == csHalting || (x.st == csStalled && x.back == csHalting)

/-- A channel aborts, or will go on to once its record is appended. -/
def Chan.aborting (x : Chan) : Bool := x.st == csAborting || (x.st == csStalled && x.back == csAborting)

/-- Note a failure on a Descriptor: the first stands, but of one burst's requests the lowest (R233, R257). -/
def Desc.fail (d : Desc) (f : DFail) (off : Nat) : Desc :=
  let bad := match d.bad with
    | none => f
    | some g => if g.burst == f.burst && g.reason == f.reason && decide (f.part < g.part) then f else g
  { d with bad := some bad, failOff := some (min (d.failOff.getD off) off) }

/-- A burst of a channel fails (R222, R233): no further burst of its Descriptor; HALT_ON_BAD begins the halt. -/
def Chan.failBurst (x : Chan) (b : Burst) (f : DFail) : Chan :=
  let cut := x.ds.any fun d => d.no == b.desc && d.cut
  let x := { x with ds := x.ds.map fun d => if d.no == b.desc then d.fail f b.off else d }
  if x.haltOnBad && x.st == csRunning && !cut then { x with st := csHalting, cause := ccBadStop } else x

/-- Change one request of a list by its place. -/
def reqAt (rs : List DReq) (i : Nat) (f : DReq → DReq) : List DReq :=
  (rs.zip (List.range rs.length)).map fun x => if x.2 == i then f x.1 else x.1

/-- An answer reaches one request of a burst: `bad` is the FSTATUS of a failure; `off` the place of the data in the request (R232). A burst that
has been discarded takes none. -/
def chanAnswer (s : State) (r : DmaRef) (isWrite : Bool) (bad : Option Nat) (off : Nat) (data : List Byte) : State :=
  let x := chanOf s r.plot r.chan
  match x.bursts.find? fun b => b.id == r.burst with
  | none => s
  | some b =>
    let upd (d : DReq) : DReq :=
      { d with left := d.left - 1, data := if isWrite || bad.isSome then d.data else mput d.data off data,
               bad := if d.bad.isSome then d.bad else bad, handed := d.handed || decide (d.left ≤ 1) }
    let b' := if isWrite then { b with writes := reqAt b.writes r.part upd } else { b with reads := reqAt b.reads r.part upd }
    let x := { x with bursts := x.bursts.map fun y => if y.id == b.id then b' else y }
    let x := match bad with
      | none => x
      | some st =>
        let d := ((if isWrite then b.writes else b.reads)[r.part]?).getD { node := none, addr := 0, len := 0 }
        x.failBurst b { reason := if b.store then 0x0C else if isWrite then 2 else 1, fst := st, addr := d.addr, len := d.len, node := d.node,
                        burst := b.id, part := r.part }
    putChan s r.plot r.chan x

/-- The write of a burst has been handed to the egress port (R228): its buffer space is free. -/
def chanHanded (s : State) (r : DmaRef) : State :=
  modChan s r.plot r.chan fun x => { x with
    bursts := x.bursts.map fun b => if b.id == r.burst then { b with writes := reqAt b.writes r.part fun d => { d with handed := true } } else b }

end Sys2Proof.Machine
end

