-- ==== Sys2Proof/Machine/Ledger.lean ====
section
/-!
DEFINITION. The Ledger (chapter 05) and the Hold engine (R171 to R182): allocation, sending, retirement, stream records, the
write-failure latch, and what a host request is completed with.
-/
namespace Sys2Proof.Machine

/-! ### Graft's in-flight counters (R86, R94) -/

/-- The key of a window-cache line in its quadrant. -/
def lineKey (p w : Nat) : Nat := indexOf p * 64 + w

/-- The drain slots of quadrant q that name a window's old generation (R94). -/
def drainSlots (s : State) (p w gen : Nat) : List Nat :=
  let q := quadrantOf p
  (List.range 16).filter fun i => bitF s (F.GRF_DRAIN_VALID q i) && !bitF s (F.GRF_DRAIN_DONE q i) &&
    getF s (F.GRF_DRAIN_INDEX q i) == indexOf p && getF s (F.GRF_DRAIN_WINDOW q i) == w && getF s (F.GRF_DRAIN_OLD_GEN q i) == gen

/-- A drain slot is done (R94): each DONE raises the source, whatever GRF_EVENT holds. -/
def drainDone (s : State) (q i : Nat) : State :=
  raise (setF (setF s (F.GRF_DRAIN_DONE q i) 1) (F.GRF_EVENT_DRAIN_DONE q) 1) (1220 + q)

/-- Bring a drain slot to the count of its old generation. -/
def drainCount (s : State) (q n : Nat) : List Nat → State
  | [] => s
  | i :: is =>
    let s := setF s (F.GRF_DRAIN_IN_FLIGHT q i) n
    drainCount (if n == 0 then drainDone s q i else s) q n is

/-- A request of a generation begins to be in flight: CUR goes up (R86). -/
def graftUp (s : State) (p w : Nat) : State :=
  modQuad s (quadrantOf p) fun x =>
    let l := mget x.lines (lineKey p w) {}
    { x with lines := mput x.lines (lineKey p w) { l with cur := l.cur + 1 } }

/-- A request of a generation ends: its counter goes down (R86, R139). -/
def graftDown (s : State) (p w gen : Nat) : State :=
  let q := quadrantOf p
  match mfind (quadOf s q).lines (lineKey p w) with
  | none => s
  | some l =>
    if l.curGen == gen && l.cur != 0 then
      modQuad s q fun x => { x with lines := mput x.lines (lineKey p w) { l with cur := l.cur - 1 } }
    else if l.prevGen == gen && l.prev != 0 then
      let s := modQuad s q fun x => { x with lines := mput x.lines (lineKey p w) { l with prev := l.prev - 1 } }
      drainCount s q (l.prev - 1) (drainSlots s p w gen)
    else s

/-! ### Completing a host request (R143, R152) -/

/-- Push a completion without data. -/
def completeNoData (s : State) (p : Nat) (r : OutReq) (st : CplStatus) : State :=
  pushTlp s (quadrantOf p) { kind := .completion, plot := p, reqId := r.reqId, tag := r.tag, status := st }

/-- Completer Abort toward the host, with its AER report (R276) and HPT_COUNT (R286). -/
def completeAbort (s : State) (p : Nat) (r : OutReq) : State :=
  let s := bump (aerLogAs s p .completerAbort (r.kind != .write)) (F.HPT_COUNT_CA_SENT (quadrantOf p))
  if r.kind == .write then s else completeNoData s p r .ca

/-- Unsupported Request toward the host. -/
def completeUr (s : State) (p : Nat) (r : OutReq) : State :=
  let s := bump (aerLogAs s p .unsupportedRequest (r.kind != .write)) (F.HPT_COUNT_UR_SENT (quadrantOf p))
  if r.kind == .write then s else completeNoData s p r .ur

/-- Successful Completion with data (R152). -/
def completeData (s : State) (p : Nat) (r : OutReq) (data : List Byte) (poisoned : Bool) : State :=
  pushTlp s (quadrantOf p)
    { kind := .completionData, plot := p, reqId := r.reqId, tag := r.tag, len := data.length, data := data, poisoned := poisoned }

/-- A counter of the resident PlotEntry goes up (R49). -/
def plotCount (s : State) (p : Nat) (f : Fld) : State := markDirty (bump s f) p false

/-! ### Latches (R142) -/

/-- Set LATCH_ANY to the OR of the latches. -/
def latchAny (s : State) (p : Nat) : State :=
  markDirty (setB s (F.PE_STATUS_LATCH_ANY p) (getF s (F.PP_WFL_LATCH p) != 0)) p false

/-- Set the latch of a window. -/
def setLatch (s : State) (p w : Nat) : State :=
  latchAny (setF s (F.PP_WFL_LATCH p) (setBit (getF s (F.PP_WFL_LATCH p)) w)) p

/-- Clear the latches of a mask. -/
def clearLatches (s : State) (p mask : Nat) : State :=
  latchAny (setF s (F.PP_WFL_LATCH p) (clrBits (getF s (F.PP_WFL_LATCH p)) mask)) p

/-- The latch of a window is set. -/
def latchSet (s : State) (p w : Nat) : Bool := bitOf (getF s (F.PP_WFL_LATCH p)) w

/-! ### Entries and stream records -/

/-- The entry with a tag. -/
def entryOf (s : State) (q tag : Nat) : Option LEntry := mfind (quadOf s q).ledger tag

/-- Put an entry. -/
def putEntry (s : State) (q tag : Nat) (e : LEntry) : State :=
  modQuad s q fun x => { x with ledger := mput x.ledger tag e }

/-- The stream record key of a plot and a node; 0x10_0000 is the overflow record (R137). -/
def streamKey (p strm : Nat) : Nat := p * 2 ^ 21 + strm
/-- The overflow record's place. -/
def overflowStrm : Nat := 2 ^ 20

/-- A stream record, if there is one. -/
def streamOf (s : State) (p strm : Nat) : Option Stream := mfind (quadOf s (quadrantOf p)).streams (streamKey p strm)

/-- Report the stream records in use (R165). -/
def streamUsed (s : State) (q : Nat) : State :=
  setF s (F.LDG_STREAM_OUT_USED q) ((quadOf s q).streams.filter fun x => x.1 % 2 ^ 21 != overflowStrm).length

/-- Put a stream record. -/
def putStream (s : State) (p strm : Nat) (x : Stream) : State :=
  streamUsed (modQuad s (quadrantOf p) fun u => { u with streams := mput u.streams (streamKey p strm) x }) (quadrantOf p)

/-- Entries of a kind in use, releases and zero-length reads apart. -/
def usedEntries (s : State) (q : Nat) (wr : Bool) (f : LEntry → Bool) : Nat :=
  ((quadOf s q).ledger.filter fun x => x.2.kind != .release && !x.2.req.zero && (x.2.kind == .write) == wr && f x.2).length

/-- Bring LDG_OCC and the plot's PP_LEDGER up to date (R145, R164). -/
def ledgerOcc (s : State) (q p : Nat) : State :=
  let w := usedEntries s q true fun _ => true
  let r := usedEntries s q false fun _ => true
  let s := highWater (setF s (F.LDG_OCC_WR_USED q) w) (F.LDG_OCC_WR_HIGH q) w
  let s := highWater (setF s (F.LDG_OCC_RD_USED q) r) (F.LDG_OCC_RD_HIGH q) r
  let s := setF s (F.PP_LEDGER_WRITES p) (usedEntries s q true fun e => e.hostPath && e.plot == p)
  setF s (F.PP_LEDGER_READS p) (usedEntries s q false fun e => e.hostPath && e.plot == p)

/-- The pool, the plot's limit and the tags leave room for an entry (R131). -/
def ledgerRoom (s : State) (q p : Nat) (wr host : Bool) : Bool :=
  let pool := if wr then 65536 else 16384
  let lim := if host then
      (if wr then getF s (F.LDG_LIMIT_WR_PLOT q) * 16 else getF s (F.LDG_LIMIT_RD_PLOT q) * 4)
    else (if wr then getF s (F.LDG_LIMIT_WR_DMA q) * 16 else getF s (F.LDG_LIMIT_RD_DMA q) * 4)
  decide (usedEntries s q wr (fun _ => true) < pool) && decide (freeTag s q < 65536) &&
    decide (usedEntries s q wr (fun e => e.hostPath == host && (!host || e.plot == p)) < lim)

/-- The quadrant's pool is empty for a kind (R132). -/
def poolEmpty (s : State) (q : Nat) (wr : Bool) : Bool :=
  decide ((if wr then 65536 else 16384) ≤ usedEntries s q wr fun _ => true)

/-- A stream's watermark has reached a number; a record that does not exist has nothing outstanding (R146). -/
def reached (s : State) (p strm need : Nat) : Bool :=
  match streamOf s p strm with
  | none => true
  | some x => decide (need ≤ x.watermark) || x.outstanding == 0

/-- What a fenced or settling entry waits for has come (R137, R146). -/
def entryReady (s : State) (e : LEntry) : Bool := reached s e.plot e.strm e.need && reached s e.plot overflowStrm e.needOv

/-- Advance a watermark over what has retired. -/
def advance : Nat → Nat → List Nat → Nat
  | 0, w, _ => w
  | n + 1, w, rs => if rs.contains (w + 1) then advance n (w + 1) rs else w

/-- A write with a number retires in its stream (R137, R139). -/
def streamRetire (s : State) (p strm seq : Nat) (failed : Bool) : State :=
  match streamOf s p strm with
  | none => s
  | some x =>
    let rs := seq :: x.retired
    let w := advance rs.length x.watermark rs
    let x := { x with
      fail := if failed then some (min (x.fail.getD seq) seq) else x.fail
      watermark := w, retired := rs.filter fun r => decide (w < r), outstanding := x.outstanding - 1 }
    putStream s p strm x

/-- Free a stream record with no write outstanding on which no read waits (R137). -/
def streamFree (s : State) (p strm : Nat) : State :=
  let q := quadrantOf p
  match streamOf s p strm with
  | none => s
  | some x =>
    if x.outstanding == 0 && !((quadOf s q).ledger.any fun y => y.2.plot == p && (y.2.st == .fenced || y.2.st == .settling) &&
        (if strm == overflowStrm then y.2.needOv != 0 else y.2.strm == strm))
    then streamUsed (modQuad s q fun u => { u with streams := mdel u.streams (streamKey p strm) }) q
    else s

/-- A read or AtomicOp waits on its records no longer: those that nothing holds any more are free (R137). -/
def streamLeave (s : State) (e : LEntry) : State :=
  if e.hostPath && (e.kind == .read || e.kind == .atomic) then streamFree (streamFree s e.plot e.strm) e.plot overflowStrm else s

/-- A send that the transmit buckets have counted is not made: they take the count back (R57, R408; DEDUCED, assumption 135). -/
def txRefund (s : State) (p n : Nat) : State :=
  if n == 0 then s
  else
    let s := if getF s (F.PE_RATE_RATE p 0) == 0 then s
      else rateShow (modPlot s p fun x => { x with tx := max x.tx (min (x.tx + n) (rateDepth s p 0)) }) p
    { s with hdg := { s.hdg with
        plotCap := mset s.hdg.plotCap p ((mget s.hdg.plotCap p none).map fun c => { c with level := max c.level (min (c.level + n) c.depth) }) none } }

/-- A send of n bytes, of which allocation has counted some: the buckets take the difference. -/
def txSettle (s : State) (p charged n : Nat) : State := if charged ≤ n then txCount s p (n - charged) else txRefund s p (charged - n)

/-- Free an entry and end its request's span (R139). What was counted for a send that it never made counts no more (R57). -/
def freeEntry (s : State) (q tag : Nat) (e : LEntry) : State :=
  let s := modQuad (txRefund s e.plot e.charged) q fun x => { x with ledger := mdel x.ledger tag }
  let s := streamLeave (ledgerOcc s q e.plot) e
  if e.hostPath && e.kind != .release then graftDown s e.plot e.win e.gen else s

/-! ### Sending (R127, R146, R171) -/

/-- The request an entry sends (R341). -/
def fabReqOf (s : State) (q tag : Nat) (e : LEntry) (ordered : Bool) : FabReq :=
  { op := match e.kind with | .write => .write | .atomic => .atomic | _ => .read
    dest := e.node, src := myNode s (1 + q), tenant := tenantOf s e.plot, tag := tag, addr := e.addr
    len := if e.kind == .read then e.len + e.ext else if e.kind == .atomic then e.req.data.length else e.len
    data := if e.kind == .read then [] else e.req.data
    ordered := ordered, poison := e.req.poisoned, atop := e.req.atop }

/-- The flow of an entry (R207). -/
def flowOf (e : LEntry) : FlowId := if e.hostPath then .host e.plot else .dma e.plot

/-- The Pergola ingress of an entry's block (R21). -/
def ingressOf (q : Nat) (e : LEntry) : Nat := if e.hostPath then q else 12 + q

/-- Hand a request of an entry to Pergola. -/
def sendTxn (s : State) (q tag : Nat) (e : LEntry) (egress : Nat) (r : FabReq) : State :=
  pgaPush s egress 0 (flowOf e) { ingress := ingressOf q e, txn := .req r, entry := some (q, tag) }

/-! ### Retirement (R138, R139) -/

/-- DETAIL of the records of chapter 05 (R160). -/
def ledgerDetail (gen wait bar count age : Nat) : Nat :=
  gen + wait * 2 ^ 16 + bar * 2 ^ 20 + min count 0xFFFF * 2 ^ 32 + age % 2 ^ 32 * 2 ^ 48

/-- The record of a failed or dropped write (R160). -/
def writeRecord (s : State) (code : Nat) (e : LEntry) (st : Nat) : FaultRec :=
  { code := code, block := 2, addr := e.addr, len := e.len, node := some e.node, win := some e.win, status := st,
    detail := ledgerDetail e.gen 0 0 0 (if code == 4 then 0 else s.now - e.allocated) }

/-- A write's final status is a failure (R138); for a DMA write Absent always is. -/
def isFailure (e : LEntry) (st : Nat) : Bool :=
  st != 0x00 && st != 0x11 && !(st == 0x05 && e.hostPath && e.removal == 0)

/-- Count a write's retirement in LDG_COUNT and LDG_EVENT (R138, R153, R166, R167). -/
def writeCounts (s : State) (q : Nat) (e : LEntry) (st : Nat) : State :=
  let s := if st == 0x05 then setEv s (F.LDG_EVENT_ABSENT q) (1224 + q) else s
  if st == 0x10 then setEv (bump s (F.LDG_COUNT_TIMEOUTS q)) (F.LDG_EVENT_TIMEOUT q) (1224 + q)
  else if isFailure e st then setEv (bump s (F.LDG_COUNT_REJECTS q)) (F.LDG_EVENT_REJECT q) (1224 + q)
  else s

/-- What a host-path write's failure or drop does to its plot (R138, R139). -/
def writeOutcome (s : State) (e : LEntry) (st : Nat) : State :=
  if isFailure e st then
    faultCreate (setLatch s e.plot e.win) e.plot (writeRecord s (if st == 0x10 then 2 else 1) e st)
  else if st == 0x05 then
    faultRated (plotCount s e.plot (F.PE_COUNTERS_DROPPED_WRITES e.plot)) e.plot e.win (writeRecord s 4 e 5)
  else s

/-- The burst an entry of the DMA cluster serves. -/
def dmaRefOf (e : LEntry) : DmaRef := { plot := e.plot, chan := e.chan, burst := e.burst, part := e.part }

/-- Hand the retirement of a DMA request to its channel (R133, R232); a Reset leaves no outcome. -/
def dmaAnswer (s : State) (e : LEntry) (st : Nat) (data : List Byte) : State :=
  chanAnswer s (dmaRefOf e) (e.kind == .write) (if st == 0 || st == 0x11 then none else some st) 0 data

/-! ### Reads and AtomicOps toward the host -/

/-- The FaultRecord of a budget that ended (R149, R160). -/
def budgetRecord (s : State) (e : LEntry) (wait : Nat) : FaultRec :=
  { code := 3, block := 2, addr := e.addr, len := e.len, node := some e.node, win := some e.win, status := e.lastStatus,
    detail := ledgerDetail e.gen wait 0 e.resent (s.now - e.req.received) }

/-- A host read or AtomicOp is completed by its final status (R152); a set latch turns it into Completer Abort (R143). -/
def readOutcome (s : State) (e : LEntry) (st : Nat) (data : List Byte) : State :=
  let p := e.plot
  if latchSet s p e.win then completeAbort s p e.req
  else if st == 0x00 then completeData s p e.req (data.take e.len) false
  else if st == 0x06 then completeData s p e.req (data.take e.len) true
  else if st == 0x05 && e.removal == 0 then completeData s p e.req (List.replicate e.len 0xFF) false
  else completeAbort s p e.req

/-- Retire a host read or AtomicOp with its final status and complete it. -/
def readDone (s : State) (q tag : Nat) (e : LEntry) (st : Nat) (data : List Byte) : State :=
  let s := if st == 0x05 then setEv s (F.LDG_EVENT_ABSENT q) (1224 + q) else s
  freeEntry (readOutcome s e st data) q tag e

/-- Retire an entry of the DMA cluster and keep its answer for the channel (R133). -/
def dmaDone (s : State) (q tag : Nat) (e : LEntry) (st : Nat) (data : List Byte) : State :=
  let s := if e.kind == .write then writeCounts s q e st
    else if st == 0x05 then setEv s (F.LDG_EVENT_ABSENT q) (1224 + q) else s
  dmaAnswer (freeEntry s q tag e) e st data

/-! ### The Hold engine (R173 to R182) -/

/-- The 64-byte block that holds an operand (R173). -/
def holdBlock (e : LEntry) : Nat := e.addr / 64 * 64

/-- Send one step of an emulation; the route is taken anew, and a local status comes back at once (R113, R114, R179). -/
def emuSend (s : State) (q tag : Nat) (e : LEntry) (op : FabOp) (addr len : Nat) (data : List Byte) (flag : Bool) : State × Option Nat :=
  let r : FabReq := { op := op, dest := e.node, src := myNode s (1 + q), tenant := tenantOf s e.plot, tag := tag, addr := addr,
                      len := len, data := data, holdFlag := flag }
  let (s, rt) := routeOf s e.node r.src (some e.plot)
  match rt with
  | .fail st => (s, some st)
  | rt =>
    let s := if op == .read || op == .write then txCount (tagFix s e.plot) e.plot len else tagFix s e.plot
    (sendTxn s q tag e rt.pga r, none)

/-- Holds outstanding go down by one (R175, R182). -/
def holdsDown (s : State) (q : Nat) : State := setF s (F.LDG_HOLD_OUT q) (getF s (F.LDG_HOLD_OUT q) - 1)

/-- Send a Release for the block of an entry; its answer is awaited under a tag of its own (R173). -/
def sendRelease (s : State) (q : Nat) (e : LEntry) : State :=
  let t := freeTag s q
  let rel := { e with kind := .release, st := .issued, emu := none, handed := s.now }
  let (s, st) := emuSend (putEntry s q t rel) q t rel .release (holdBlock e) 64 [] false
  let s := holdsDown s q
  match st with
  | none => s
  | some _ => bump (freeEntry s q t rel) (F.LDG_HOLD_REL_FAIL q)

/-- The emulation returns: the plot's turn is free and the AtomicOp is counted (R175, R181). -/
def emuReturn (s : State) (q tag : Nat) (e : LEntry) : State :=
  let s := modPlot s e.plot fun x => { x with emu := x.emu.filter fun t => t != tag }
  freeEntry (bump s (F.LDG_ATOM_EMULATED q)) q tag e

/-- A lease ended before the Write was performed (R180, R181). -/
def leaseExpired (s : State) (q : Nat) (e : LEntry) (st : Nat) : State :=
  let s := setEv (bump s (F.LDG_ATOM_EXPIRED q)) (F.LDG_HOLD_EXPIRED_EV q) (1228 + q)
  faultRated s e.plot 0
    { code := 0x18, block := 2, addr := e.addr, len := e.len, node := some e.node, win := some e.win, status := st,
      detail := e.gen + e.req.atop * 2 ^ 48 }

/-- The Hold or Read step ends the operation (R174): Absent as R152, Poisoned data poisoned, all else Completer Abort. -/
def emuFinish (s : State) (q tag : Nat) (e : LEntry) (step : EmuStep) (st : Nat) (data : List Byte) : State :=
  let s := if st == 0x05 then setEv s (F.LDG_EVENT_ABSENT q) (1224 + q) else s
  let s :=
    if latchSet s e.plot e.win then completeAbort s e.plot e.req
    else if st == 0x05 && e.removal == 0 && step != .write then completeData s e.plot e.req (List.replicate e.len 0xFF) false
    else if st == 0x06 && step == .read then completeData s e.plot e.req (data.take e.len) true
    else completeAbort s e.plot e.req
  emuReturn s q tag e

/-- The entry goes into backoff and begins again from the Hold (R148, R173). -/
def emuBackoff (s : State) (q tag : Nat) (e : LEntry) : State :=
  putEntry s q tag { e with st := .backoff, retry := e.retry + 1, emu := some .hold }

/-- Send the Hold: the lease starts now (R173, R176). -/
def emuHold (s : State) (q tag : Nat) (e : LEntry) : State :=
  let e := { e with st := .issued, emu := some .hold, lease := s.now, handed := s.now, resent := e.retry }
  match emuSend (putEntry s q tag e) q tag e .hold (holdBlock e) 64 [] false with
  | (s, none) => setF s (F.LDG_HOLD_OUT q) (getF s (F.LDG_HOLD_OUT q) + 1)
  | (s, some st) => emuFinish s q tag e .hold st []

/-- The new value of an AtomicOp (R168). -/
def atomicNew (op : Nat) (old operands : List Byte) : List Byte :=
  let n := old.length
  if op == 1 then leBytes n (leNat old + leNat (operands.take n))
  else if op == 2 then operands.take n
  else (operands.drop n).take n

/-- A CAS whose compare value differs (R173). -/
def casFails (op : Nat) (old operands : List Byte) : Bool := op == 3 && old != operands.take old.length

/-- Complete an emulated AtomicOp with the original value (R173, R174). -/
def emuComplete (s : State) (q tag : Nat) (e : LEntry) (old : List Byte) : State :=
  let s := if latchSet s e.plot e.win then completeAbort s e.plot e.req else completeData s e.plot e.req old false
  emuReturn s q tag e

/-- The answer to the Hold (R173). -/
def emuHoldAnswer (s : State) (q tag : Nat) (e : LEntry) (st : Nat) : State :=
  if st == 0x04 then emuBackoff (bump (holdsDown s q) (F.LDG_HOLD_BUSY q)) q tag e
  else if st == 0x00 then
    let e := { e with emu := some .read, handed := s.now }
    match emuSend (putEntry s q tag e) q tag e .read e.addr e.len [] true with
    | (s, none) => s
    | (s, some st) => emuFinish (sendRelease s q e) q tag e .read st []
  else emuFinish (holdsDown s q) q tag e .hold st []

/-- The answer to the Read (R173, R176). -/
def emuReadAnswer (s : State) (q tag : Nat) (e : LEntry) (st : Nat) (data : List Byte) : State :=
  if st != 0x00 then emuFinish (sendRelease s q e) q tag e .read st data
  else if e.lease + 20 ≤ s.now then emuHold (leaseExpired (sendRelease s q e) q e 0x10) q tag e
  else
    let old := data.take e.len
    if casFails e.req.atop old e.req.data then emuComplete (sendRelease s q e) q tag e old
    else
      let e := { e with emu := some .write, oldVal := old, handed := s.now }
      match emuSend (putEntry s q tag e) q tag e .write e.addr e.len (atomicNew e.req.atop old e.req.data) true with
      | (s, none) => s
      | (s, some st) => emuFinish (sendRelease s q e) q tag e .write st []

/-- The answer to the Write (R173, R174). -/
def emuWriteAnswer (s : State) (q tag : Nat) (e : LEntry) (st : Nat) : State :=
  if st == 0x04 then emuHold (leaseExpired (holdsDown s q) q e 0x04) q tag e
  else
    let s := sendRelease s q e
    if st == 0x00 then emuComplete s q tag e e.oldVal else emuFinish s q tag e .write st []

/-- A step of an emulation timed out (R174). -/
def emuTimeout (s : State) (q tag : Nat) (e : LEntry) : State :=
  match e.emu with
  | some .write =>
    let s := faultCreate (sendRelease s q e) e.plot (writeRecord s 2 e 0x10)
    emuFinish s q tag e .write 0x10 []
  | some .turn => s
  | _ => emuBackoff (sendRelease s q e) q tag e

/-- An AtomicOp of a plot's order stands before one allocated as number `n`: it has the turn, or it was allocated earlier (R175). -/
def turnBefore (s : State) (q n tag : Nat) : Bool :=
  match entryOf s q tag with
  | none => true
  | some x => x.emu != some .turn || decide (x.order ≤ n)

/-- Begin an emulation: take the plot's turn, or wait for it in arrival order (R175). -/
def emuBegin (s : State) (q tag : Nat) (e : LEntry) : State :=
  let x := plotOf s e.plot
  let before := turnBefore s q e.order
  let s := setPlot s e.plot { x with emu := x.emu.takeWhile before ++ tag :: x.emu.dropWhile before }
  let s := if x.emu.isEmpty then emuHold s q tag e else putEntry s q tag { e with st := .issued, emu := some .turn }
  streamLeave s e

/-! ### Releasing waiting reads (R136, R146, R147) -/

/-- The length of the extension of a prefetch read as it is issued, and whether Hedge refuses all of it (R97, R414). -/
def prefetchExt (s : State) (q : Nat) (e : LEntry) : Nat × Bool :=
  match e.pf with
  | none => (0, false)
  | some (depth, last) =>
    if e.kind != .read || e.req.zero || getF s (F.GRF_PF_CTRL_LIFE q) == 0 then (0, false)
    else
      let next := e.addr + e.len
      let blk := 512 * 2 ^ depth
      let stop := min ((next - 1) / blk * blk + blk) last
      let sides := (mget s.hdg.side e.node []).filter fun f => f.struck || decide (next ≤ f.last * 4096 + 4095)
      let stop' := sides.foldl (fun a f => min a (if f.struck then next else max (f.base * 4096) next)) stop
      (stop' - next, decide (next < stop) && stop' == next)

/-- Send a native read or AtomicOp; a local status, of its allocation or of now, ends it (R113, R114). -/
def sendRead (s : State) (q tag : Nat) (e : LEntry) (ordered : Bool) : State :=
  let (s, rt) := match e.localSt with
    | some st => (s, Route.fail st)
    | none => routeOf s e.node (myNode s (1 + q)) (some e.plot)
  match rt with
  | .fail st => readDone s q tag e st []
  | rt =>
    let e0 := e.charged
    let (ext, refused) := prefetchExt s q e
    let s := if refused then bump s (F.GRF_PF_COUNT_REFUSED q) else s
    let e := { e with st := .issued, ordered := ordered, egress := rt.pga, ext := ext, extCause := none, resent := e.retry, charged := 0 }
    let r := fabReqOf s q tag e ordered
    let s := putEntry (tagFix (txSettle s e.plot e0 r.len) e.plot) q tag e
    streamLeave (sendTxn s q tag e rt.pga r) e

/-- A fenced request whose watermarks are reached goes on (R136, R143). -/
def releaseFenced (s : State) (q tag : Nat) (e : LEntry) : State :=
  if latchSet s e.plot e.win then freeEntry (completeAbort s e.plot e.req) q tag e
  else if e.req.zero then
    let (v, s) := drawFree s
    freeEntry (completeData s e.plot e.req (leBytes 4 v) false) q tag e
  else if e.emu.isSome then emuBegin s q tag e
  else sendRead s q tag e false

/-- A settling read is decided (R147). -/
def releaseSettling (s : State) (q tag : Nat) (e : LEntry) : State :=
  let failed := match streamOf s e.plot e.strm with
    | none => false
    | some x => match x.fail with | none => false | some f => decide (f ≤ e.need)
  if failed then freeEntry (completeAbort s e.plot e.req) q tag e
  else releaseFenced s q tag { e with st := .fenced }

/-- Release every waiting read of a list of tags that is ready. -/
def releaseReads (s : State) (q : Nat) : List Nat → State
  | [] => s
  | t :: ts =>
    match entryOf s q t with
    | none => releaseReads s q ts
    | some e =>
      if e.st == .fenced && entryReady s e then releaseReads (releaseFenced s q t e) q ts
      else if e.st == .settling && entryReady s e then releaseReads (releaseSettling s q t e) q ts
      else releaseReads s q ts

/-- Put an entry into a list in the order of allocation. -/
def byOrder (x : Nat × LEntry) : List (Nat × LEntry) → List (Nat × LEntry)
  | [] => [x]
  | y :: ys => if x.2.order ≤ y.2.order then x :: y :: ys else y :: byOrder x ys

/-- The tags of a quadrant's entries of one plot, in the order of their allocation. -/
def tagsOf (s : State) (q p : Nat) : List Nat :=
  (((quadOf s q).ledger.filter fun x => x.2.plot == p).foldr byOrder []).map fun x => x.1

/-- Retire a write (R139): the latch is set before any read is released. -/
def writeDone (s : State) (q tag : Nat) (e : LEntry) (st : Nat) : State :=
  if e.hostPath then
    let s := freeEntry (writeOutcome (writeCounts s q e st) e st) q tag e
    let s := streamRetire s e.plot e.strm e.seq (isFailure e st)
    streamFree (releaseReads s q (tagsOf s q e.plot)) e.plot e.strm
  else dmaDone s q tag e st []

/-! ### Allocation (R131 to R137) -/

/-- The stream record a write joins (R137). -/
def writeStrm (s : State) (p node : Nat) : Nat :=
  if (streamOf s p node).isSome then node
  else if getF s (F.LDG_STREAM_OUT_USED (quadrantOf p)) < 4096 then node else overflowStrm

/-- Number a new write in a stream record. -/
def streamAlloc (s : State) (p strm : Nat) : State × Nat :=
  let x := (streamOf s p strm).getD {}
  (putStream s p strm { x with last := x.last + 1, outstanding := x.outstanding + 1 }, x.last + 1)

/-- The last number of a stream with writes outstanding, or 0 (R146). -/
def streamNeed (s : State) (p strm : Nat) : Nat :=
  match streamOf s p strm with
  | none => 0
  | some x => if x.outstanding == 0 then 0 else x.last

/-- The next number in the order of allocation. -/
def orderNext (s : State) (q : Nat) : State × Nat :=
  let n := (quadOf s q).stamp + 1
  (modQuad s q fun x => { x with stamp := n }, n)

/-- Allocate a posted write: complete toward the host, then on to Trellis and Pergola (R27, R135). -/
def allocWrite (s : State) (q p : Nat) (m : Matched) : State :=
  let (s, n) := orderNext s q
  let tag := freeTag s q
  let strm := writeStrm s p m.node
  let (s, seq) := streamAlloc s p strm
  let e : LEntry := { kind := .write, hostPath := true, plot := p, win := m.win, gen := m.gen, node := m.node, addr := m.addr,
                      len := m.req.len, removal := m.entry.removal, strm := strm, seq := seq, allocated := s.now, req := m.req, order := n }
  let s := ledgerOcc (putEntry s q tag e) q p
  let (s, rt) := routeOf s m.node (myNode s (1 + q)) (some p)
  match rt with
  | .fail st => writeDone s q tag e st
  | rt =>
    let e := { e with egress := rt.pga }
    let s := txCount (tagFix (putEntry s q tag e) p) p m.req.len
    sendTxn s q tag e rt.pga (fabReqOf s q tag e false)

/-- How an AtomicOp is carried (R171). -/
inductive Carry where
  | native | emulate | refuse
  deriving DecidableEq, Repr

/-- The row of R171 that applies. -/
def carryOf (rt : Route) (holdEn : Bool) : Carry :=
  if rt.native then .native else if rt.hold && holdEn then .emulate else .refuse

/-- A change of usable ports concerns a node (R112). -/
def FenceEv.covers (v : FenceEv) (node : Nat) : Bool := maskKey 1 v.level (node * 2 ^ 16) == some v.key

/-- The read is the next of its stream after a change of the usable ports of its node (R112, R147); that is noted. -/
def fenceNote (s : State) (q p node : Nat) : State × Bool :=
  let again := (quadOf s q).fenceNext.any fun v => v.covers node && !v.done.contains (p, node)
  (if again then modQuad s q fun x => { x with
      fenceNext := x.fenceNext.map fun v => if v.covers node then { v with done := (p, node) :: v.done } else v } else s, again)

/-- Allocate a read or AtomicOp in the mode R82 and R147 choose (R136). One that Trellis ends locally has no flags to choose by (R171): it waits in
fence mode and ends with its local status. -/
def allocRead (s : State) (q p : Nat) (m : Matched) : State :=
  let (s, rt) := routeOf s m.node (myNode s (1 + q)) (some p)
  let (s, n) := orderNext s q
  let tag := freeTag s q
  let last := m.entry.tbase + (m.entry.end_ - m.entry.first) + 1
  let e : LEntry := { kind := if m.req.kind == .atomic then .atomic else .read, hostPath := true, plot := p, win := m.win, gen := m.gen,
                      node := m.node, addr := m.addr, len := m.req.len, removal := m.entry.removal, strm := m.node, st := .fenced,
                      need := streamNeed s p m.node, needOv := streamNeed s p overflowStrm, allocated := s.now, req := m.req, order := n,
                      localSt := (match rt with | .fail st => some st | _ => none), pf := if m.entry.prefetch then some (m.entry.pfDepth, last) else none }
  let e := { e with ext := (prefetchExt s q e).1 }
  let carry := if m.req.kind == .atomic && e.localSt.isNone then carryOf rt (bitF s (F.PE_CAPS_HOLD_EN p)) else .native
  if carry == .refuse then freeEntry (bump (completeAbort s p m.req) (F.LDG_ATOM_REFUSED q)) q tag e
  else
    let s := if e.needOv != 0 then bump s (F.LDG_STREAM_OUT_FALLBACK q) else s
    if carry == .emulate then releaseReads (ledgerOcc (putEntry s q tag { e with emu := some .turn }) q p) q [tag]
    else
      let e := { e with charged := if m.req.zero || e.localSt.isSome then 0 else (fabReqOf s q tag e false).len }
      let s := ledgerOcc (putEntry (txCount s p e.charged) q tag e) q p
      let (s, again) := if e.localSt.isSome then (s, false) else fenceNote s q p m.node
      if m.entry.ordered && bitF s (F.PE_CAPS_ORDERED_EN p) && rt.inOrder && e.needOv == 0 && !again && !m.req.zero
      then sendRead s q tag e true
      else releaseReads s q [tag]

/-- The request has room for its first step: a place in its virtual output queue (R196). A zero-length read takes none (R146). -/
def grantOpen (s : State) (q p : Nat) (m : Matched) : Bool :=
  m.req.zero || routeOpen s q 0 (routeOf s m.node (myNode s (1 + q)) (some p)).2

/-- A waiting request can have an entry now (R131, R196). -/
def mayGrant (s : State) (q p : Nat) (m : Matched) : Bool :=
  (m.req.zero || ledgerRoom s q p (m.req.kind == .write) true) && grantOpen s q p m

/-- The request of a plot that can have an entry now: the one that waits first, or the write that passes it (R127, R132). -/
def grantPick (s : State) (q p : Nat) : Option Matched :=
  ((plotOf s p).matched.filter (mayGrant s q p)).or ((plotOf s p).passing.filter (mayGrant s q p))

/-- A waiting request of a plot waits on an empty pool (R132). -/
def poolWait (s : State) (q p : Nat) : Bool :=
  let w (m : Matched) : Bool := !m.req.zero && poolEmpty s q (m.req.kind == .write)
  (plotOf s p).matched.any w || (plotOf s p).passing.any w

/-- An allocation waits on an empty pool: LDG_EVENT.FULL, and from now on free entries go by turns (R132, R167). -/
def poolShort (s : State) (q : Nat) : State :=
  setEv (modQuad s q fun x => { x with short := true }) (F.LDG_EVENT_FULL q) (1224 + q)

/-- Grant a Ledger entry to a request that a plot has matched (R132). -/
def ledgerGrant (s : State) (p : Nat) (m : Matched) : State :=
  let q := quadrantOf p
  let s := modPlot s p fun x => if x.matched == some m then { x with matched := none } else { x with passing := none }
  let s := modQuad s q fun x => { x with lastPlot := p }
  if m.req.kind == .write then allocWrite s q p m else allocRead s q p m

end Sys2Proof.Machine
end

