-- ==== Sys2Proof/Machine/Graft.lean ====
section
/-!
DEFINITION. Graft (chapter 03): matching, the window cache and its fills, prefetch entries, and the outcomes of refused requests.
-/
namespace Sys2Proof.Machine

/-! ### Windows in use -/

/-- Window w of plot p is in use (R76). -/
def windowInUse (s : State) (p w : Nat) : Bool :=
  if w < 32 then decide (w < getF s (F.PE_WINDOWS_OUT_COUNT p)) else decide (w - 32 < getF s (F.PE_WINDOWS_IN_COUNT p))

/-- Windows in use of one direction. -/
def windowCount (s : State) (p : Nat) (dirIn : Bool) : Nat :=
  if dirIn then getF s (F.PE_WINDOWS_IN_COUNT p) else getF s (F.PE_WINDOWS_OUT_COUNT p)

/-- The first window index of a direction. -/
def dirBase (dirIn : Bool) : Nat := if dirIn then 32 else 0

/-- Address in configuration memory of window w (R76). -/
def windowAddr (s : State) (p w : Nat) : Nat := getF s (F.PE_WINDOWS_BASE p) * 4096 + 64 * w

/-- Size in bytes of BAR2 or BAR4 of plot p (R267). -/
def barSize (s : State) (p : Nat) (bar4 : Bool) : Nat :=
  let h := portOf s (quadrantOf p)
  match indexOf p, bar4 with
  | 0, false => h.bar2Pf
  | 0, true => h.bar4Pf
  | _, false => h.bar2Vf
  | _, true => h.bar4Vf

/-- The line of a window. -/
def lineOf (s : State) (p w : Nat) : Option Line := mfind (quadOf s (quadrantOf p)).lines (lineKey p w)

/-- Put a line. -/
def putLine (s : State) (p w : Nat) (l : Line) : State :=
  modQuad s (quadrantOf p) fun x => { x with lines := mput x.lines (lineKey p w) l }

/-! ### Prefetch entries (R98 to R100) -/

/-- The bytes of an entry the host has not got. -/
def pfMissing (e : Prefetch) : List Nat := (List.range e.len).filter fun i => !bitOf e.deliv i

/-- Report a discarded prefetch (R99, R100). -/
def pfReport (s : State) (q cause : Nat) (e : Prefetch) : State :=
  match pfMissing e with
  | [] => s
  | i :: is =>
    faultRated (bump s (F.GRF_PF_COUNT_DISCARDS q)) e.plot e.win
      { code := 5, block := 1, addr := e.addr + i, len := is.length + 1, node := some e.node, win := some e.win, status := 0,
        detail := e.gen + cause * 2 ^ 16 }

/-- Report each of a list of discarded entries. -/
def pfReportAll (s : State) (q cause : Nat) : List Prefetch → State
  | [] => s
  | e :: es => pfReportAll (pfReport s q cause e) q cause es

/-- Discard the entries of quadrant q that meet a condition, with a cause (R99). -/
def pfDiscard (s : State) (q cause : Nat) (hit : Prefetch → Bool) : State :=
  let gone := (quadOf s q).pf.filter hit
  pfReportAll (modQuad s q fun x => { x with pf := x.pf.filter fun e => !hit e }) q cause gone

/-- Note a cause on the prefetch reads in progress that an event touches (R99). -/
def pfTouch (s : State) (q cause : Nat) (hit : LEntry → Bool) : State :=
  modQuad s q fun x => { x with ledger := x.ledger.map fun y =>
    if y.2.ext != 0 && y.2.st == .issued && y.2.extCause.isNone && hit y.2 then (y.1, { y.2 with extCause := some cause }) else y }

/-- Bytes an entry occupies in the pool (R98). -/
def pfSize (e : Prefetch) : Nat := (e.len + 63) / 64 * 64

/-- The least recently used entry of a list. -/
def pfOldest : List Prefetch → Option Prefetch
  | [] => none
  | e :: es => match pfOldest es with
    | none => some e
    | some f => if e.used ≤ f.used then some e else some f

/-- Evict least recently used entries that meet a condition, with cause 0x1, while a limit is passed. -/
def pfEvict (s : State) (q : Nat) (cand : Prefetch → Bool) (full : List Prefetch → Bool) : Nat → State
  | 0 => s
  | n + 1 =>
    let es := (quadOf s q).pf
    if full es then
      match pfOldest (es.filter cand) with
      | none => s
      | some v => pfEvict (pfDiscard s q 1 fun e => e == v) q cand full n
    else s

/-- Fill a prefetch entry from the answer to a read with an extension (R98, R99). -/
def pfFill (s : State) (q : Nat) (e : LEntry) (data : List Byte) : State :=
  let stamp := (quadOf s q).stamp + 1
  let n : Prefetch := { plot := e.plot, win := e.win, gen := e.gen, node := e.node, addr := e.addr, len := e.len + e.ext, data := data
                        deliv := 2 ^ e.len - 1, born := s.now, used := stamp, life := getF s (F.GRF_PF_CTRL_LIFE q) }
  let s := modQuad s q fun x => { x with stamp := stamp }
  match e.extCause with
  | some c => pfReport s q c n
  | none =>
    let s := pfEvict s q (fun x => x.plot == e.plot)
      (fun es => decide (getF s (F.GRF_PF_CTRL_PLOT_MAX q) ≤ (es.filter fun x => x.plot == e.plot).length)) 64
    let s := pfEvict s q (fun _ => true)
      (fun es => decide (64 ≤ es.length) || decide (131072 < (es.map pfSize).sum + pfSize n)) 64
    modQuad s q fun x => { x with pf := x.pf ++ [n] }

/-- The prefetch entry that satisfies a matched read, if one does (R98, R144). -/
def pfFind (s : State) (m : Matched) (p : Nat) : Option Prefetch :=
  if m.req.kind == .read && !m.req.zero && !latchSet s p m.win then
    (quadOf s (quadrantOf p)).pf.find? fun e =>
      e.plot == p && e.win == m.win && e.gen == m.gen && e.node == m.node && decide (e.addr ≤ m.addr) &&
        decide (m.addr + m.req.len ≤ e.addr + e.len) && decide (s.now < e.born + e.life)
  else none

/-- Complete a read from a prefetch entry; it takes no Ledger entry and no fence (R98). -/
def pfServe (s : State) (p : Nat) (m : Matched) (e : Prefetch) : State :=
  let q := quadrantOf p
  let off := m.addr - e.addr
  let got := Nat.lor e.deliv ((2 ^ m.req.len - 1) * 2 ^ off)
  let s := modQuad s q fun x => { x with
    stamp := x.stamp + 1
    pf := x.pf.map fun f => if f == e then { f with deliv := got, used := x.stamp + 1 } else f }
  completeData s p m.req ((e.data.drop off).take m.req.len) e.poison

/-! ### Lines -/

/-- A line is pinned (R86). -/
def linePinned (s : State) (q key : Nat) (l : Line) : Bool :=
  l.cur != 0 || l.prev != 0 || (List.range 16).any fun i =>
    bitF s (F.GRF_DRAIN_VALID q i) && getF s (F.GRF_DRAIN_INDEX q i) == key / 64 && getF s (F.GRF_DRAIN_WINDOW q i) == key % 64

/-- The least recently used of a list of lines. -/
def lineOldest : List (Nat × Line) → Option (Nat × Line)
  | [] => none
  | l :: ls => match lineOldest ls with
    | none => some l
    | some m => if l.2.used ≤ m.2.used then some l else some m

/-- Make room for a line of quadrant q, if room can be made (R85, R87). -/
def lineRoom (s : State) (q : Nat) : Option State :=
  let ls := (quadOf s q).lines
  if ls.length < 4096 then some s
  else (lineOldest (ls.filter fun x => !linePinned s q x.1 x.2)).map fun x =>
    modQuad s q fun u => { u with lines := mdel u.lines x.1 }

/-- Install an entry in a line that a fill found; a line whose counters stand keeps them. -/
def lineInstall (s : State) (p w : Nat) (e : WinEntry) (fenced : Bool) : Option State :=
  let q := quadrantOf p
  let put (s : State) (l : Line) : State :=
    putLine (modQuad s q fun x => { x with stamp := x.stamp + 1 }) p w
      { l with entry := some e, curGen := e.gen, fenced := fenced, marked := false, used := (quadOf s q).stamp + 1 }
  match lineOf s p w with
  | some l => some (put s l)
  | none => (lineRoom s q).map fun s => put s {}

/-- The fence check repeats on a marked line (R96). -/
def recheck (s : State) (p w : Nat) (l : Line) (e : WinEntry) : State × Line :=
  if !l.marked then (s, l)
  else if e.dirIn || windowFenceOk s p e then
    let l := { l with marked := false, fenced := false }
    (putLine s p w l, l)
  else
    let q := quadrantOf p
    let l' := { l with marked := false, fenced := true }
    let s := fenceRefused (putLine s p w l')
    let s := if l.fenced then s else setEv s (F.GRF_EVENT_FENCED q) (1220 + q)
    (pfTouch (pfDiscard s q 4 fun x => x.plot == p && x.win == w) q 4 fun x => x.plot == p && x.win == w, l')

/-- Does a cached entry match an access of a direction (R80, R83)? -/
def entryMatches (e : WinEntry) (dirIn bar4 : Bool) (off len : Nat) : Bool :=
  e.valid && e.dirIn == dirIn && (dirIn || e.bar4 == bar4) && e.covers off len

/-- The line of plot p that matches an access (R85). -/
def findLine (s : State) (p : Nat) (dirIn bar4 : Bool) (off len : Nat) : Option (Nat × Line × WinEntry) :=
  (List.range 32).findSome? fun i =>
    let w := dirBase dirIn + i
    if windowInUse s p w then
      match lineOf s p w with
      | none => none
      | some l => match l.entry with
        | none => none
        | some e => if entryMatches e dirIn bar4 off len then some (w, l, e) else none
    else none

/-- Touch a line for the eviction order. -/
def touchLine (s : State) (p w : Nat) : State :=
  let q := quadrantOf p
  match lineOf s p w with
  | none => s
  | some l => putLine (modQuad s q fun x => { x with stamp := x.stamp + 1 }) p w { l with used := (quadOf s q).stamp + 1 }

/-! ### Fills (R87, R88) -/

/-- The key of a fill: plot and direction. -/
def fillKey (p : Nat) (dirIn : Bool) : Nat := indexOf p * 2 + (if dirIn then 1 else 0)

/-- A fill of a plot and direction is in progress. -/
def fillBusy (s : State) (p : Nat) (dirIn : Bool) : Bool :=
  (mfind (quadOf s (quadrantOf p)).fills (fillKey p dirIn)).isSome

/-- How starting a fill ended. -/
inductive FillStart where
  | waits | failed | noWindow
  deriving DecidableEq, Repr

/-- A fill's read failed (R87). -/
def fillFailed (s : State) (q : Nat) : State :=
  setEv (bump s (F.GRF_CACHE_FILL_FAIL q)) (F.GRF_EVENT_FILL_FAIL q) (1220 + q)

/-- A commit of the plot and direction writes the window table: a fill then would not know which entry it finds (R93). -/
def commitWriting (s : State) (p : Nat) (dirIn : Bool) : Bool :=
  match (quadOf s (quadrantOf p)).commit with
  | some { index := i, win := w, stage := .writing _, .. } => i == indexOf p && decide (32 ≤ w) == dirIn
  | _ => false

/-- Start a fill: one per plot and direction, at most 64 per quadrant (R87), none while a commit of the direction writes the table. A direction with
no window in use needs no read. -/
def fillStart (s : State) (p : Nat) (dirIn : Bool) : State × FillStart :=
  let q := quadrantOf p
  let n := windowCount s p dirIn
  if fillBusy s p dirIn || commitWriting s p dirIn || decide (64 ≤ (quadOf s q).fills.length) then (s, .waits)
  else if n == 0 then (s, .noWindow)
  else
    match tableRead (bump s (F.GRF_CACHE_MISSES q)) q (.fill p dirIn) (windowAddr s p (dirBase dirIn)) (64 * n) with
    | (s, true) => (modQuad s q fun x => { x with fills := mput x.fills (fillKey p dirIn) .reading }, .waits)
    | (s, false) => (fillFailed s q, .failed)

/-- End a fill. -/
def fillEnd (s : State) (p : Nat) (dirIn : Bool) : State :=
  modQuad (tableDrop s (quadrantOf p) (.fill p dirIn)) (quadrantOf p) fun x => { x with fills := mdel x.fills (fillKey p dirIn) }

/-- The entry of a window table half that matches an access, with its index in the half; whether a matching entry was bad (R88). -/
def fillFind (s : State) (p : Nat) (dirIn bar4 : Bool) (off len : Nat) : Nat → List WinEntry → Option (Nat × WinEntry) × Bool
  | _, [] => (none, false)
  | i, e :: es =>
    let w := dirBase dirIn + i
    if entryMatches { e with dirIn := dirIn } dirIn bar4 off len then
      if windowMalformed e w || windowOutOfRange e (barSize s p e.bar4) then
        ((fillFind s p dirIn bar4 off len (i + 1) es).1, true)
      else (some (w, e), false)
    else fillFind s p dirIn bar4 off len (i + 1) es

/-- Install what a fill found, or wait for an unpinned line (R87, R88). -/
def fillInstall (s : State) (p : Nat) (dirIn : Bool) (w : Nat) (e : WinEntry) (again : Bool) : State :=
  let q := quadrantOf p
  let fenced := !dirIn && !windowFenceOk s p e
  match lineInstall s p w e fenced with
  | some s =>
    let s := if fenced then setEv (fenceRefused s) (F.GRF_EVENT_FENCED q) (1220 + q) else s
    fillEnd s p dirIn
  | none =>
    let s := if again then s else bump s (F.GRF_CACHE_PIN_STALL q)
    modQuad s q fun x => { x with fills := mput x.fills (fillKey p dirIn) (.stalled w e) }

/-! ### Outcomes of refused outbound requests (R81, R276) -/

/-- A posted write is dropped; `counted` in DROPPED_WRITES (R55, R81). -/
def dropWrite (s : State) (p : Nat) (counted : Bool) : State :=
  if counted then plotCount s p (F.PE_COUNTERS_DROPPED_WRITES p) else s

/-- Completer Abort for a request, or a dropped write logged as one. -/
def refuseAbort (s : State) (p : Nat) (r : OutReq) (counted : Bool) : State :=
  if r.kind == .write then dropWrite (completeAbort s p r) p counted else completeAbort s p r

/-- The outcome of a request that matches no window. -/
def refuseNoWindow (s : State) (p : Nat) (r : OutReq) : State :=
  if r.kind == .write then dropWrite (completeUr s p r) p true else completeUr s p r

/-- FaultRecord 0x28 (R407). -/
def hedgeRecord (s : State) (check addr len : Nat) (node win chan : Option Nat) : FaultRec :=
  { code := 0x28, block := 7, addr := addr, len := len, node := node, win := win, chan := chan, status := 3,
    detail := getF s F.HDG_STATUS_GEN + check * 2 ^ 16 }

/-- The enable of a window for a request's kind. -/
def kindEnabled (e : WinEntry) : OutKind → Bool
  | .read => e.rdEn
  | .write => e.wrEn
  | .atomic => e.atEn

/-! ### The plot queue (R58, R194) -/

/-- Requests of a plot that take places of its plot queue. -/
def plotQueueUsed (s : State) (p : Nat) : Nat :=
  (plotOf s p).queue.length + (if (plotOf s p).matched.isSome then 1 else 0) + (if (plotOf s p).passing.isSome then 1 else 0)

/-- Move one request of the plot from the port's receive buffer into its queue while there is room. -/
def pullHeld (s : State) (p : Nat) : State :=
  let q := quadrantOf p
  rateShow (if plotQueueUsed s p < 32 then
    match (quadOf s q).held.find? fun x => x.1 == p with
    | none => s
    | some x =>
      modPlot (modQuad s q fun u => { u with held := u.held.erase x }) p fun y => { y with queue := y.queue ++ [x.2] }
  else s) p

/-- Move requests of the plot in while there is room, at most `n`. -/
def pullAll (s : State) (p : Nat) : Nat → State
  | 0 => s
  | n + 1 => pullAll (pullHeld s p) p n

/-- A request of a plot arrives: into its queue, or into the port's receive buffer while the queue is full. -/
def plotArrive (s : State) (p : Nat) (r : OutReq) : State :=
  if plotQueueUsed s p < 32 && !((quadOf s (quadrantOf p)).held.any fun x => x.1 == p) then
    rateShow (modPlot s p fun y => { y with queue := y.queue ++ [r] }) p
  else modQuad s (quadrantOf p) fun u => { u with held := u.held ++ [(p, r)] }

/-- Take the head off a plot's queue. -/
def plotPop (s : State) (p : Nat) : State :=
  pullHeld (modPlot s p fun y => { y with queue := y.queue.drop 1 }) p

/-- What a plot's state gives a host request that Graft does not see (R55, R169): none in Serving and Held; it waits in Loading. -/
inductive StateOutcome where
  | pass | wait | abort (counted : Bool)
  deriving DecidableEq, Repr

/-- The outbound column of R55. -/
def stateOutcome (st : Nat) : StateOutcome :=
  if st == psServing || st == psHeld then .pass
  else if st == psLoading then .wait
  else if st == psDisabled then .abort false
  else .abort true

/-- A request has matched: it is in flight in its window's generation, and writes and AtomicOps discard prefetches of their node
(R86, R99). It waits for a Ledger entry, a write beside the read it passes; a wait on an empty pool is noted (R127, R132). -/
def matchTaken (s : State) (p : Nat) (m : Matched) : State :=
  let q := quadrantOf p
  let s := modPlot (graftUp (touchLine s p m.win) p m.win) p fun x =>
    if x.matched.isNone then { x with matched := some m } else { x with passing := some m }
  let s := if !m.req.zero && poolEmpty s q (m.req.kind == .write) then poolShort s q else s
  if m.req.kind == .read then s
  else pfTouch (pfDiscard s q 2 fun x => x.plot == p && x.node == m.node) q 2 fun x => x.plot == p && x.node == m.node

/-- Every request of a queue takes the fill-failed outcome (R81, R87). -/
def failQueue (s : State) (p : Nat) : List OutReq → State
  | [] => s
  | r :: rs => failQueue (refuseAbort s p r true) p rs

/-- The outbound requests that waited for a failed fill end (R87); those of the receive buffer take their places. -/
def fillFailOut (s : State) (p : Nat) : State :=
  let rs := (plotOf s p).queue
  pullAll (failQueue (rateShow (modPlot s p fun x => { x with queue := [] }) p) p rs) p 32

/-- A matched line decides a request (R81, rows 3 to 6). The request has left the queue. -/
def decideOut (s : State) (p : Nat) (r : OutReq) (w : Nat) (l : Line) (e : WinEntry) : State :=
  let m : Matched := { req := r, win := w, gen := l.curGen, node := e.node, addr := e.tbase + (r.off - e.first), entry := e }
  if l.fenced then
    faultCreate (refuseAbort s p r true) p (hedgeRecord s 1 m.addr r.len (some e.node) (some w) none)
  else if !kindEnabled e r.kind then refuseAbort s p r true
  else match pfFind s m p with
    | some f => pfServe s p m f
    | none => matchTaken s p m

/-- A posted write passes a read or AtomicOp of its plot that stalls before it (R127): the first write of the queue, where it needs no fill. -/
def admitPass (s : State) (p : Nat) : State :=
  match (plotOf s p).queue.find? fun r => r.kind == .write with
  | none => s
  | some r =>
    if !txAdmits s p || heldQ s (quadrantOf p) 1 || heldQ s (quadrantOf p) 2 then s
    else match findLine s p false r.bar4 r.off r.len with
      | none => s
      | some (w, l, e) =>
        let (s, l) := recheck s p w l e
        decideOut (pullHeld (modPlot s p fun y => { y with queue := y.queue.erase r }) p) p r w l e

/-- The head of a plot queue is admitted and goes to Graft (R57, R58, R81); a held Graft refuses it (R479). -/
def admitOut (s : State) (p : Nat) (r : OutReq) : State :=
  if heldQ s (quadrantOf p) 1 then refuseAbort (plotPop s p) p r true else
  match findLine s p false r.bar4 r.off r.len with
  | some (w, l, e) =>
    let (s, l) := recheck s p w l e
    decideOut (plotPop s p) p r w l e
  | none =>
    match fillStart s p false with
    | (s, .waits) => if r.kind == .write then s else admitPass s p
    | (s, .failed) => fillFailOut s p
    | (s, .noWindow) => refuseNoWindow (plotPop s p) p r

/-- PLOT_QUEUE_ADMIT: stages 2 to 4 of R27 for the head of the plot's queue, which waits while the Ledger is held (R479); where a read or AtomicOp
stalls, for the write that passes it (R127). -/
def plotAdmit (s : State) (p : Nat) : State :=
  match (plotOf s p).matched, (plotOf s p).queue with
  | none, r :: _ =>
    match stateOutcome (plotState s p) with
    | .wait => s
    | .abort counted => refuseAbort (plotPop s p) p r counted
    | .pass =>
      if r.kind == .atomic && !bitF s (F.PE_CAPS_ATOMIC_EN p) then completeUr (plotPop s p) p r
      else if txAdmits s p && !heldQ s (quadrantOf p) 2 then admitOut s p r
      else s
  | some m, _ :: _ =>
    if m.req.kind == .write || (plotOf s p).passing.isSome || stateOutcome (plotState s p) != .pass then s else admitPass s p
  | _, _ => s

end Sys2Proof.Machine
end

