-- ==== Sys2Proof/Machine/Inbound.lean ====
section
/-!
DEFINITION. The inbound path: dispatch at the Calfos ingress (R25), the responses the device sends (R342), and a quadrant's host path for
inbound requests and messages (R83, R84, R155 to R158, R178, R120).
-/
namespace Sys2Proof.Machine

/-! ### Requests and responses (R341 to R343) -/

/-- A power of two from 64 to 4,096. -/
def holdLen (n : Nat) : Bool := [64, 128, 256, 512, 1024, 2048, 4096].contains n

/-- A request breaks R341. -/
def fabMalformed (r : FabReq) : Bool :=
  let cross := r.addr / 4096 != (r.addr + r.len - 1) / 4096
  let flags (o h p : Bool) : Bool := (!o && r.ordered) || (!h && r.holdFlag) || (!p && r.poison)
  match r.op with
  | .read => decide (r.len < 1) || decide (4096 < r.len) || cross || flags true true false || r.atop != 0
  | .signalRead => decide (r.len < 8) || decide (256 < r.len) || r.len % 8 != 0 || r.addr % 8 != 0 || cross || flags false false false ||
      r.atop != 0
  | .write => decide (r.len < 1) || decide (4096 < r.len) || cross || flags false true true || r.atop != 0
  | .atomic =>
    let n := if r.atop == 3 then r.len / 2 else r.len
    !((r.atop == 1 || r.atop == 2) && (r.len == 4 || r.len == 8) || r.atop == 3 && (r.len == 8 || r.len == 16 || r.len == 32)) ||
      r.addr % n != 0 || flags true false true
  | .hold | .release => !holdLen r.len || r.addr % r.len != 0 || flags false false false || r.atop != 0
  | .message => decide (128 < r.len)
  | .mgmtRead | .mgmtWrite => !(r.len == 4 || r.len == 8) || r.addr % r.len != 0 || flags false false false || r.atop != 0

/-- The status of a response: a Release takes neither Nak-Access nor Nak-Busy (R343), and a refused one is answered Nak-Address (DEDUCED,
assumption 118). -/
def answerStatus (r : FabReq) (st : Nat) : Nat := if r.op == .release && (st == 3 || st == 4) then 2 else st

/-- The response to a request (R342): data with OK and Poisoned alone. -/
def responseTo (r : FabReq) (st : Nat) (data : List Byte) : FabResp :=
  { dest := r.src, src := r.dest, tenant := r.tenant, tag := r.tag, status := answerStatus r st,
    data := if st == 0 || st == 6 then data else [] }

/-- Send a response from an ingress of Pergola; one with no route is discarded (R113). -/
def sendResponse (s : State) (ingress : Nat) (flow : FlowId) (r : FabReq) (st : Nat) (data : List Byte) : State :=
  let (s, rt) := routeOf s r.src r.dest none
  match rt with
  | .fail _ => s
  | rt =>
    let plot := match flow with | .host p => p | .dma p => p | _ => 0
    pgaPush s rt.pga 2 flow { ingress := ingress, txn := .resp (responseTo r st data), plot := plot }

/-- The register word at an address as a read returns it; write-only fields read 0 (R11, R14). -/
def regWord (s : State) (a : Nat) : Nat :=
  ((regFlds a).map fun f => if f.acc == .wo then 0 else getF s (f.at a) * 2 ^ f.lo).sum

/-! ### Dispatch by unit (R25) -/

/-- The Pergola port of a response to unit 1 + q by its tag (R24). -/
def responsePort (s : State) (q tag : Nat) : Nat :=
  match entryOf s q tag with
  | some e => if e.hostPath then q else 12 + q
  | none => q

/-- The Pergola port of a response to unit 0 by its tag (R24). -/
def unit0Port (s : State) (tag : Nat) : Nat :=
  match mfind s.unit0 tag with
  | some (.rake ..) => 17
  | some (.gen ..) => 18
  | _ => 16

/-- The flow of a response to unit 1 + q. -/
def responseFlow (s : State) (q tag : Nat) : FlowId :=
  match entryOf s q tag with
  | some e => flowOf e
  | none => .host (q * 1024)

/-- Dispatch a request for this device (R25, R118, R345). `b` names where it came in. -/
def dispatchReq (s : State) (b : QTxn) (c : Nat) (flow : FlowId) (r : FabReq) : State :=
  let ing := b.ingress
  let b : QTxn := { b with txn := .req r, own := false }
  let u := nodeUnit r.dest
  let mgmt := r.op == .mgmtRead || r.op == .mgmtWrite
  let nak (s : State) (st : Nat) : State := if r.op == .message then bump s F.TRL_MISS_MSG else sendResponse s ing flow r st []
  if fabMalformed r then nak s 2
  else if u == 0 then pgaPush s 16 c .gardener b
  else if decide (u ≤ 4) then
    if mgmt then nak s 2
    else if r.op == .message then pgaPush s (u - 1) c (.host ((u - 1) * 1024)) b
    else match sourcePlot s r.src r.tenant with
      | none => nak (bump s F.TRL_MISS_SRC) 3
      | some p =>
        if quadrantOf p == u - 1 then pgaPush s (u - 1) c (.host p) { b with plot := p }
        else nak s 3
  else if decide (8 ≤ u) && decide (u ≤ 15) then
    match r.op with
    | .mgmtRead =>
      if r.addr + r.len ≤ 0x10000 then
        let a := 0x200000 + (u - 8) * 0x10000 + r.addr / 8 * 8
        sendResponse s ing flow r 0 (((leBytes 8 (regWord s a)).drop (r.addr % 8)).take r.len)
      else nak s 2
    | .mgmtWrite => nak s 3
    | _ => nak s 2
  else nak s 2

/-- A response that answers nothing is discarded and counted (R25, R346); the spec gives the count no register (DESIGN CHOICE, assumption 119). -/
def respStray (s : State) : State := { s with pga := { s.pga with stray := s.pga.stray + 1 } }

/-- Dispatch a response for this device (R24, R25): by tag, or discarded for a unit that issues nothing. Whatever class it came in, it goes on in a
Response class (R199). -/
def dispatchResp (s : State) (b : QTxn) (c : Nat) (r : FabResp) : State :=
  let u := nodeUnit r.dest
  let c := 2 + c % 2
  let t : QTxn := { b with txn := .resp r, own := false }
  if u == 0 then
    let e := unit0Port s r.tag
    pgaPush s e c (if e == 17 then .rake else if e == 18 then .diag else .gardener) t
  else if u ≤ 4 then pgaPush s (responsePort s (u - 1) r.tag) c (responseFlow s (u - 1) r.tag) t
  else respStray s

/-- Dispatch a transaction whose destination is this device. -/
def dispatchLocal (s : State) (b : QTxn) (c : Nat) (flow : FlowId) : State :=
  match b.txn with
  | .req r => dispatchReq s b c flow r
  | .resp r => dispatchResp s b c r

/-! ### Inbound stream records (R158) -/

/-- The key of a stream of a plot. -/
def inKey (p : Nat) (r : FabReq) : Nat := p * 2 ^ 36 + r.src * 2 ^ 16 + r.tenant

/-- Set IN_USED. -/
def inUsed (s : State) (q : Nat) : State := setF s (F.LDG_STREAM_IN_USED q) (quadOf s q).inStreams.length

/-- The record idle longest. -/
def inOldest : SMap InStream → Option (Nat × InStream)
  | [] => none
  | x :: xs => match inOldest xs with
    | none => some x
    | some y => if x.2.usedAt ≤ y.2.usedAt then some x else some y

/-- A request of a stream arrives: its record is used, or it takes one if one can be had. -/
def inArrive (s : State) (q p : Nat) (r : FabReq) : State :=
  let k := inKey p r
  let m := (quadOf s q).inStreams
  let take (m : SMap InStream) : State := inUsed (modQuad s q fun x => { x with inStreams := mput m k { usedAt := s.now } }) q
  match mfind m k with
  | some i => modQuad s q fun x => { x with inStreams := mput m k { i with usedAt := s.now } }
  | none =>
    if m.length < 1024 then take m
    else match inOldest m with
      | none => s
      | some o => if o.2.usedAt + 1000 ≤ s.now then take (mdel m o.1) else s

/-- An ordered request of the stream still waits for a fill. -/
def inOrderedWaits (s : State) (q p : Nat) (r : FabReq) : Bool :=
  (quadOf s q).missQ.any fun x => x.plot == p && inKey p x.req == inKey p r && x.req.ordered

/-- A Write of a stream was answered other than OK: the flag is set for the ordered requests that arrived after it. -/
def inFail (s : State) (q p : Nat) (r : FabReq) : State :=
  let k := inKey p r
  match mfind (quadOf s q).inStreams k with
  | none => s
  | some i =>
    let i := if inOrderedWaits s q p r then { i with late := true } else { i with flag := true }
    modQuad s q fun x => { x with inStreams := mput x.inStreams k i }

/-- An ordered Read or Atomic is decided: does it take FailedPrior? It clears the flag. -/
def inOrdered (s : State) (q p : Nat) (r : FabReq) : State × Bool :=
  let k := inKey p r
  match mfind (quadOf s q).inStreams k with
  | none => (bump s (F.LDG_STREAM_IN_FALLBACK q), true)
  | some i =>
    let i' := if inOrderedWaits s q p r then { i with flag := false } else { i with flag := i.late, late := false }
    (modQuad s q fun x => { x with inStreams := mput x.inStreams k i' }, i.flag)

/-! ### Answers -/

/-- Answer an inbound request that has not matched, or has ended its span. -/
def inAnswer (s : State) (q p : Nat) (r : FabReq) (st : Nat) (data : List Byte) : State :=
  let s := if r.op == .write && st != 0 then inFail s q p r else s
  sendResponse s q (.host p) r st data

/-- Answer a matched inbound request: its span ends (R86). -/
def inAnswerMatched (s : State) (q : Nat) (x : InReq) (st : Nat) (data : List Byte) : State :=
  inAnswer (graftDown s x.plot x.win x.gen) q x.plot x.req st data

/-- Reads and Atomics in the tracker of a quadrant, and the completion space they hold (R194). -/
def trackCount (s : State) (q : Nat) : Nat := ((quadOf s q).inbound.filter fun x => x.2.req.op != .write).length
def trackSpace (s : State) (q : Nat) : Nat := ((quadOf s q).inbound.map fun x => x.2.space).sum

/-- Bring PGA_TRACK up to date. -/
def trackUpdate (s : State) (q : Nat) : State :=
  setF (setF s (F.PGA_TRACK_READS q) (trackCount s q)) (F.PGA_TRACK_SPACE q) (trackSpace s q)

/-- End a request that the host path serves, with its answer. -/
def inFinish (s : State) (q id : Nat) (x : InReq) (st : Nat) (data : List Byte) : State :=
  let s := trackUpdate (modQuad s q fun u => { u with inbound := mdel u.inbound id }) q
  inAnswerMatched s q x st data

/-! ### Issue to the host (R156, R157, R178) -/

/-- Cut an access into pieces of at most `size` bytes that cross no 4 KiB boundary (R156, R157). -/
def chunks : Nat → Nat → Nat → Nat → List (Nat × Nat)
  | 0, _, _, _ => []
  | n + 1, addr, len, size =>
    if len == 0 then []
    else
      let k := min (min len size) (4096 - addr % 4096)
      (addr, k) :: chunks n (addr + k) (len - k) size

/-- Take a host tag of port q (R69, R157). -/
def takeTag (s : State) (q : Nat) (t : HostTag) : State × Nat :=
  let n := mfree (portOf s q).outTags 0
  (modPort s q fun h => { h with outTags := mput h.outTags n t }, n)

/-- Form the TLPs of an inbound Write (R156). -/
def inWriteTlps (s : State) (q p id attrs : Nat) : List (Nat × Nat) → List Byte → State
  | [], _ => s
  | (a, k) :: cs, data =>
    inWriteTlps (pushTlp s q { kind := .memWrite, plot := p, reqId := ridOf s p, addr := a, len := k, data := data.take k,
                               attrs := attrs, inb := some id }) q p id attrs cs (data.drop k)

/-- Form the TLPs of an inbound Read (R157). -/
def inReadTlps (s : State) (q p id attrs : Nat) : Nat → List (Nat × Nat) → State
  | _, [] => s
  | i, (a, k) :: cs =>
    let (s, t) := takeTag s q { use := .inbound id i, plot := p, addr := a, len := k }
    inReadTlps (pushTlp s q { kind := .memRead, plot := p, reqId := ridOf s p, addr := a, len := k, tag := t, attrs := attrs })
      q p id attrs (i + 1) cs

/-- Bytes of the host's answer to an inbound read or AtomicOp: a CAS returns its operand size (R168). -/
def respLen (r : FabReq) : Nat := if r.op == .atomic && r.atop == 3 then r.len / 2 else r.len

/-- Issue a matched request to the host, or answer what is answered without a TLP (R156 to R158, R178). -/
def inIssue (s : State) (q : Nat) (x : InReq) (space : Nat) : State :=
  let p := x.plot
  let r := x.req
  let f := funcOf s p
  let id := mfree (quadOf s q).inbound 0
  let size := 128 * 2 ^ (if r.op == .write then f.mps else f.mrrs)
  let cs := chunks 64 x.haddr r.len size
  let enter (s : State) (y : InReq) : State := trackUpdate (modQuad s q fun u => { u with inbound := mput u.inbound id y }) q
  let (s, prior) := if r.ordered && r.op != .write then inOrdered s q p r else (s, false)
  if prior then inAnswerMatched s q x 1 []
  else if !bmeOf s p then inAnswerMatched s q x 3 []
  else if r.op == .atomic && !(bitF s (F.PE_CAPS_ATOMIC_EN p) && f.atomicReq) then inAnswerMatched s q x 3 []
  else if r.poison then inAnswerMatched s q x 6 []
  else if r.op == .write then
    inWriteTlps (enter s { x with toPlace := cs.length }) q p id x.attrs cs r.data
  else
    if r.op == .atomic then
      let (s, t) := takeTag (enter s { x with parts := 1, worst := 6, space := space }) q { use := .inbound id 0, plot := p, addr := x.haddr, len := respLen r }
      pushTlp s q { kind := .atomic, plot := p, reqId := ridOf s p, addr := x.haddr, len := r.len, data := r.data, tag := t, attrs := x.attrs,
                    atop := r.atop }
    else inReadTlps (enter s { x with parts := cs.length, worst := 6, space := space }) q p id x.attrs 0 cs

/-! ### Graft's decision (R83, R84) -/

/-- The inbound column of R55 with CAPS.INBOUND_EN, and of R479 while HPT_ or GRF_ is held. -/
def inStateRefusal (s : State) (p : Nat) : Option Nat :=
  let st := plotState s p
  if heldQ s (quadrantOf p) 0 then some 3
  else if heldQ s (quadrantOf p) 1 then some 4
  else if st == psLoading then some 4
  else if st != psServing || !bitF s (F.PE_CAPS_INBOUND_EN p) then some 3
  else none

/-- The enable of an inbound window for a request (R84). -/
def inEnabled (e : WinEntry) : FabOp → Bool
  | .read | .signalRead => e.rdEn
  | .write => e.wrEn
  | .atomic => e.atEn
  | _ => true

/-- Bytes an inbound request counts in RATE_RX (R59). -/
def rxBytes (r : FabReq) : Nat := r.len

/-- Completion space an inbound request needs, in 64-byte units (R194). -/
def trackNeed (r : FabReq) : Nat := (respLen r + 63) / 64

/-- The tracker has no place or no space for a request (R194). -/
def trackFull (s : State) (q : Nat) (r : FabReq) : Bool :=
  decide (512 ≤ trackCount s q) || decide (4096 < trackSpace s q + trackNeed r)

/-- The RATE_RX bucket admits (R59). -/
def rxAdmits (s : State) (p : Nat) : Bool := getF s (F.PE_RATE_RATE p 1) == 0 || decide (0 ≤ (plotOf s p).rx)

/-- Count a request in RATE_RX. -/
def rxCount (s : State) (p n : Nat) : State :=
  if getF s (F.PE_RATE_RATE p 1) == 0 then s else modPlot s p fun x => { x with rx := x.rx - n }

/-- A request that matched a line takes the rest of the rows of R84. -/
def inMatched (s : State) (q p : Nat) (r : FabReq) (w : Nat) (l : Line) (e : WinEntry) : State :=
  if e.peerEn && r.src != e.node then inAnswer s q p r 3 []
  else if !inEnabled e r.op then inAnswer s q p r 3 []
  else
    let x : InReq := { req := r, plot := p, win := w, gen := l.curGen, haddr := e.tbase + (r.addr - e.first)
                       attrs := (if e.noSnoop then 1 else 0) + (if e.relaxed then 2 else 0) }
    let s := graftUp (touchLine s p w) p w
    match r.op with
    | .hold => inAnswerMatched (bump s (F.LDG_ATOM_REFUSED q)) q x 3 []
    | .release => inAnswerMatched s q x 0 []
    | _ =>
      if r.op != .write && trackFull s q r then
        inAnswerMatched (setEv (bump s (F.PGA_TRACK_REFUSED q)) F.PGA_EVENT_TRACK_FULL 1248) q x 4 []
      else if !rxAdmits s p then inAnswerMatched (plotCount s p (F.PE_COUNTERS_RX_REFUSED p)) q x 4 []
      else inIssue (rxCount s p (rxBytes r)) q x (if r.op == .write then 0 else trackNeed r)

/-- How a look at the window cache ends for an inbound request: answered, it must wait for a fill, or its fill failed at once. -/
inductive InDecided where
  | done | waits | failed
  deriving DecidableEq, Repr

/-- A look at the window cache for an inbound request; `room` tells that it could wait for a fill (R84, R87). -/
def inDecide (s : State) (q p : Nat) (r : FabReq) (room : Bool) : State × InDecided :=
  match inStateRefusal s p with
  | some st => (inAnswer s q p r st [], .done)
  | none =>
    match findLine s p true false r.addr r.len with
    | some (w, l, e) => (inMatched s q p r w l e, .done)
    | none =>
      if !room && windowCount s p true != 0 then (inAnswer s q p r 4 [], .done)
      else match fillStart s p true with
        | (s, .waits) => (s, .waits)
        | (s, .failed) => (inAnswer s q p r 3 [], .failed)
        | (s, .noWindow) => (inAnswer s q p r 2 [], .done)

/-- Take the first waiting inbound request of a plot out of the miss queue. -/
def missTake (s : State) (q p : Nat) : Option (State × InReq) :=
  ((quadOf s q).missQ.find? fun x => x.plot == p).map fun x => (modQuad s q fun u => { u with missQ := u.missQ.erase x }, x)

/-- Answer every waiting inbound request of a plot with a status (R84, R87). -/
def missFail (s : State) (q p st : Nat) : Nat → State
  | 0 => s
  | n + 1 =>
    match missTake s q p with
    | none => s
    | some (s', x) => missFail (inAnswer s' q p x.req st []) q p st n

/-- An inbound request reaches the host path (R84, R87). Requests of a plot stay in their order while one of them waits for a fill; one that must
wait while the miss queue is full is answered Nak-Busy. -/
def inRequest (s : State) (q p : Nat) (r : FabReq) : State :=
  let s := inArrive s q p r
  let waits := (quadOf s q).missQ.any fun x => x.plot == p
  let room := decide ((quadOf s q).missQ.length < 256)
  let queue (s : State) : State := modQuad s q fun u => { u with missQ := u.missQ ++ [{ req := r, plot := p }] }
  if (inStateRefusal s p).isNone && waits then (if room then queue s else inAnswer s q p r 4 [])
  else
    match inDecide s q p r room with
    | (s, .waits) => queue s
    | (s, _) => s

/-- Decide a plot's waiting inbound requests in order until one must wait again, or a fill fails for all (R87). -/
def missDrain (s : State) (q p : Nat) : Nat → State
  | 0 => s
  | n + 1 =>
    match missTake s q p with
    | none => s
    | some (s', x) =>
      match inDecide s' q p x.req true with
      | (s'', .done) => missDrain s'' q p n
      | (s'', .failed) => missFail s'' q p 3 256
      | (s'', .waits) => modQuad s'' q fun u => { u with missQ := x :: u.missQ }

/-- The plots with an inbound request waiting. -/
def missPlots (s : State) (q : Nat) : List Nat := ((quadOf s q).missQ.map fun x => x.plot).eraseDups

/-- Decide what the end of a fill lets go on: the requests of its plot, and those of plots that waited for a fill to be free. -/
def missDrainAll (s : State) (q : Nat) : List Nat → State
  | [] => s
  | p :: ps => missDrainAll (if fillBusy s p true then s else missDrain s q p 256) q ps

/-! ### What arrives at the host path -/

/-- Take the head of a client's input buffer for a class; the room admits what waits. -/
def inboxPop (s : State) (e c : Nat) : Option (State × QTxn) :=
  match inboxOf s e c with
  | [] => none
  | t :: ts => some (setInbox s e c ts, t)

/-- A response of the host path waits for its queue: no request that could need another goes on (R193, R204). -/
def answersWait (s : State) (q : Nat) : Bool := s.pga.waiting.any fun w => w.t.ingress == q && (w.cls == 2 || w.cls == 3)

/-- Is the head of a class a Message? -/
def headIsMessage (s : State) (e c : Nat) : Bool :=
  match inboxOf s e c with
  | { txn := .req r, .. } :: _ => r.op == .message
  | _ => false

/-- Is the head of a class a request other than a Message? -/
def headIsRequest (s : State) (e c : Nat) : Bool :=
  match inboxOf s e c with
  | { txn := .req r, .. } :: _ => r.op != .message
  | _ => false

/-- A Calfos Message for unit 1 + q (R120). -/
def messageIn (s : State) (q : Nat) (r : FabReq) : State :=
  match trellisLookup s 5 (r.src * 2 ^ 16 + r.code) with
  | none => bump s F.TRL_MISS_MSG
  | some i =>
    let p := resId (entryResult s i)
    if quadrantOf p == q && plotState s p == psServing then
      pushTlp s q { kind := .vendorMsg, plot := p, reqId := ridOf s p, addr := resAux (entryResult s i), len := r.data.length, data := r.data,
                    attrs := r.vdh, poisoned := r.poison }
    else bump s F.TRL_MISS_MSG

end Sys2Proof.Machine
end

