-- ==== Sys2Proof/Machine/HostPath.lean ====
section
/-!
DEFINITION. The commands of a quadrant's host path (chapters 02, 03, 05 and 06): admission, grants, timeouts, budgets, fabric answers to the
Ledger, and inbound requests.
-/
namespace Sys2Proof.Machine

/-! ### Rate buckets (R57, R59, R408) -/

/-- A level after it has filled at `rate` bytes per microsecond (MB/s) for a time, up to its depth. -/
def refill (level : Int) (rate micros depth : Nat) : Int := max level (min (level + rate * micros) depth)

/-- Refill a plot's own bucket. A bucket without a limit is held full (R57). -/
def refillPlot (s : State) (p r micros : Nat) : State :=
  let rate := getF s (F.PE_RATE_RATE p r)
  let up (l : Int) : Int := if rate == 0 then rateDepth s p r else refill l rate micros (rateDepth s p r)
  if r == 0 then rateShow (modPlot s p fun x => { x with tx := up x.tx }) p else modPlot s p fun x => { x with rx := up x.rx }

/-- Refill a cap. -/
def refillCap (c : Option Cap) (micros : Nat) : Option Cap := c.map fun c => { c with level := refill c.level c.rate micros c.depth }

/-- RATE_BUCKET_REFILL (R57, R59, R408). -/
def execRateBucketRefill (b : Bucket) (micros : Nat) (s : State) : Host.Outcome State Fault Refusal :=
  .next <| match b with
  | .tx p => refillPlot s p 0 micros
  | .rx p => refillPlot s p 1 micros
  | .plotCap p => { s with hdg := { s.hdg with plotCap := mset s.hdg.plotCap p (refillCap (mget s.hdg.plotCap p none) micros) none } }
  | .portCap f => { s with hdg := { s.hdg with portCap := mset s.hdg.portCap f (refillCap (mget s.hdg.portCap f none) micros) none } }

/-! ### Admission and grants -/

/-- PLOT_QUEUE_ADMIT (R58, R80, R81), while the quadrant's clocks run (R33). -/
def execPlotQueueAdmit (p : Fin 4096) (s : State) : Host.Outcome State Fault Refusal :=
  .next (if quadRuns s (quadrantOf p) then plotAdmit s p else s)

/-! ### Answers of the fabric to the Ledger (R135 to R148, R173, R232) -/

/-- A DMA entry's request is sent, or ends with its local status (R113, R114, R232). -/
def dmaSend (s : State) (q tag : Nat) (e : LEntry) : State :=
  let (s, rt) := routeOf s e.node (myNode s (1 + q)) (some e.plot)
  match rt with
  | .fail st => dmaDone s q tag e st []
  | rt =>
    let e := { e with egress := rt.pga }
    let s := txCount (tagFix (putEntry s q tag e) e.plot) e.plot e.len
    sendTxn s q tag e rt.pga (fabReqOf s q tag e false)

/-- Budget events of the Ledger (R166, R167). -/
def budgetCount (s : State) (q : Nat) : State := setEv (bump s (F.LDG_COUNT_BUDGETS q)) (F.LDG_EVENT_BUDGET q) (1224 + q)

/-- A fabric read of the DMA cluster retires as for Budget (R159, R166, R232). -/
def dmaBudget (s : State) (q tag : Nat) (e : LEntry) : State := dmaDone (budgetCount s q) q tag e 0x12 []

/-- A native read or Atomic goes into backoff (R136, R148). -/
def goBackoff (s : State) (q tag : Nat) (e : LEntry) : State :=
  putEntry s q tag { e with st := .backoff, retry := e.retry + 1, lastStatus := 4 }

/-- The answer to a native read or Atomic of the host path (R136, R147, R148, R98). -/
def nativeAnswer (s : State) (q tag : Nat) (e : LEntry) (st : Nat) (data : List Byte) : State :=
  if st == 4 then goBackoff s q tag e
  else if st == 1 && e.ordered then
    releaseReads (putEntry s q tag { e with st := .settling, lastStatus := 1 }) q [tag]
  else
    let s := readDone s q tag e st data
    if st == 0 && e.ext != 0 && !latchSet s e.plot e.win then pfFill s q e data else s

/-- The answer to a step of an emulated AtomicOp (R173). -/
def emuAnswer (s : State) (q tag : Nat) (e : LEntry) (st : Nat) (data : List Byte) : State :=
  let e := { e with lastStatus := st }
  match e.emu with
  | some .hold => emuHoldAnswer s q tag e st
  | some .read => emuReadAnswer s q tag e st data
  | some .write => emuWriteAnswer s q tag e st
  | _ => s

/-- An entry that only waits for an answer goes. One of an emulation whose budget had ended kept its plot's turn until its Hold ends (R175). -/
def waitDrop (s : State) (q tag : Nat) (e : LEntry) : State :=
  let s := modQuad s q fun x => { x with ledger := mdel x.ledger tag }
  if e.emu == some .budgetGone then modPlot s e.plot fun x => { x with emu := x.emu.filter fun t => t != tag } else s

/-- The answer to a Release, or to the Write of an emulation whose budget had ended (R149, R174, R179). For a Write answered Nak-Busy, which ends the
Hold, no Release is sent (R173; DEDUCED, assumption 128). -/
def releaseAnswer (s : State) (q tag : Nat) (e : LEntry) (st : Nat) : State :=
  let s := waitDrop s q tag e
  if e.emu == some .budgetGone then
    let s := bump s (F.LDG_COUNT_LATE q)
    if st == 4 then holdsDown s q else sendRelease s q e
  else if st == 0 then s
  else bump s (F.LDG_HOLD_REL_FAIL q)

/-- A response reaches the Ledger of quadrant q: it retires the entry its tag names, or is late (R135, R136, R140). -/
def ledgerAnswer (s : State) (q tag st : Nat) (data : List Byte) : State :=
  match entryOf s q tag with
  | none => bump s (F.LDG_COUNT_LATE q)
  | some e =>
    if e.kind == .release then releaseAnswer s q tag e st
    else if e.kind == .write then writeDone s q tag e st
    else if e.emu.isSome then emuAnswer s q tag e st data
    else if e.hostPath then nativeAnswer s q tag e st data
    else if st == 4 then goBackoff s q tag e
    else dmaDone s q tag e st data

/-- LEDGER_ACK_TIMEOUT (R140, R174): a write, a step of an emulation or a Release has gone unanswered for ACK_TIMEOUT. -/
def execLedgerAckTimeout (q : Fin 4) (tag : Nat) (s : State) : Host.Outcome State Fault Refusal :=
  .next <| match entryOf s q tag with
  | none => s
  | some e =>
    if e.kind == .release then
      if e.emu == some .budgetGone then sendRelease (waitDrop s q tag e) q e else bump (waitDrop s q tag e) (F.LDG_HOLD_REL_FAIL q)
    else if e.kind == .write then (if e.st == .issued then writeDone s q tag e 0x10 else s)
    else if e.emu.isSome && e.st == .issued then emuTimeout s q tag e
    else s

/-- LEDGER_BACKOFF_END (R148, R173, R232): the request goes again, as a fenced request on the host path. -/
def execLedgerBackoffEnd (q : Fin 4) (tag : Nat) (s : State) : Host.Outcome State Fault Refusal :=
  .next <| match entryOf s q tag with
  | none => s
  | some e =>
    if e.st != .backoff then s
    else if e.emu.isSome then emuHold s q tag e
    else if e.hostPath then releaseReads (putEntry s q tag { e with st := .fenced }) q [tag]
    else dmaSend (putEntry s q tag { e with st := .queued }) q tag { e with st := .queued }

/-! ### The completion budget (R149) -/

/-- WAIT code of an entry (R160). -/
def waitCode (e : LEntry) : Nat :=
  match e.st with
  | .fenced => 2
  | .backoff => 3
  | .settling => 4
  | _ => 5

/-- The budget of an emulation ends (R173, R175, R179): a Hold that is outstanding is released; after the Write's answer, with the plot's turn kept,
if a Write is out, but at once where the plot is `reset`. -/
def emuBudget (s : State) (q tag : Nat) (e : LEntry) (reset : Bool) : State :=
  match e.emu with
  | some .write =>
    if reset then emuReturn (sendRelease s q e) q tag e
    else putEntry (freeEntry (bump s (F.LDG_ATOM_EMULATED q)) q tag e) q tag { e with kind := .release, emu := some .budgetGone, charged := 0 }
  | some .hold => if e.st == .issued then emuReturn (sendRelease s q e) q tag e else emuReturn s q tag e
  | some .read => emuReturn (sendRelease s q e) q tag e
  | _ => if (plotOf s e.plot).emu.contains tag
      then freeEntry (modPlot s e.plot fun x => { x with emu := x.emu.filter fun t => t != tag }) q tag e
      else freeEntry s q tag e

/-- The budget of an entry of the host path ends, or the entry is struck (R31, R149). -/
def entryBudget (s : State) (q tag : Nat) (e : LEntry) : State :=
  let s := faultCreate (budgetCount (completeAbort s e.plot e.req) q) e.plot (budgetRecord s e (waitCode e))
  if e.emu.isSome then emuBudget s q tag e false else freeEntry s q tag e

/-- FaultRecord 0x03 of a request that has matched no window (R160). -/
def queueBudgetRecord (s : State) (r : OutReq) (fill : Bool) : FaultRec :=
  { code := 3, block := 2, addr := r.off, len := r.len, status := 0x12,
    detail := ledgerDetail 0 (if fill then 1 else 0) (if r.bar4 then 1 else 0) 0 (s.now - r.received) }

/-- FaultRecord 0x03 of a request that waits for a Ledger entry. -/
def matchedBudgetRecord (s : State) (m : Matched) : FaultRec :=
  { code := 3, block := 2, addr := m.addr, len := m.req.len, node := some m.node, win := some m.win, status := 0x12,
    detail := ledgerDetail m.gen 0 0 0 (s.now - m.req.received) }

/-- READ_BUDGET_EXPIRE (R149). -/
def execReadBudgetExpire (r : ReadRef) (s : State) : Host.Outcome State Fault Refusal :=
  .next <| match r with
  | .queued p place =>
    match (plotOf s p).queue[place]? with
    | none => s
    | some o =>
      if o.kind == .write then s
      else
        let s := pullHeld (modPlot s p fun x => { x with queue := x.queue.eraseIdx place }) p
        faultCreate (completeAbort s p o) p (queueBudgetRecord s o (place == 0 && fillBusy s p false))
  | .held p place =>
    match ((quadOf s (quadrantOf p)).held.filter fun x => x.1 == p.val)[place]? with
    | none => s
    | some x =>
      if x.2.kind == .write then s
      else
        let s := modQuad s (quadrantOf p) fun u => { u with held := u.held.erase x }
        faultCreate (completeAbort s p x.2) p (queueBudgetRecord s x.2 false)
  | .matched p =>
    match (plotOf s p).matched with
    | none => s
    | some m =>
      if m.req.kind == .write then s
      else
        let s := pullHeld (graftDown (modPlot s p fun x => { x with matched := none }) p m.win m.gen) p
        faultCreate (completeAbort s p m.req) p (matchedBudgetRecord s m)
  | .entry q tag =>
    match entryOf s q tag with
    | none => s
    | some e =>
      if e.kind == .write || e.kind == .release then s
      else if e.hostPath then entryBudget s q tag e
      else dmaBudget s q tag e

/-- WFL_CLEAR (R142): ones of a host write clear latches; ignored while the plot is Disabled or Resetting (R51). -/
def execWflClear (p : Fin 4096) (mask : BitVec 32) (s : State) : Host.Outcome State Fault Refusal :=
  .next (if plotState s p == psDisabled || plotState s p == psResetting then s else clearLatches s p mask.toNat)

/-- ATOMIC_TURN_GRANT (R175): the AtomicOp first in its plot's order takes the turn. -/
def execAtomicTurnGrant (p : Fin 4096) (s : State) : Host.Outcome State Fault Refusal :=
  .next <| match (plotOf s p).emu with
  | [] => s
  | tag :: _ =>
    match entryOf s (quadrantOf p) tag with
    | none => s
    | some e => if e.emu == some .turn then emuHold s (quadrantOf p) tag e else s

/-! ### Inbound -/

/-- INBOUND_REQUEST (R84): the next request in the host path's input buffers, while the quadrant's clocks run (R33), no answer waits for its queue
(R196) and the port has room for what it sends (R30). -/
def execInboundRequest (q : Fin 4) (s : State) : Host.Outcome State Fault Refusal :=
  .next <|
    let c := if headIsRequest s q 0 then 0 else 1
    if !headIsRequest s q c || !quadRuns s q || answersWait s q || !txqRoom s q then s
    else match inboxPop s q c with
      | some (s, { txn := .req r, plot := p, .. }) => inRequest s q p r
      | _ => s

/-- FABRIC_MESSAGE_IN (R120): the next Message in the host path's input buffers, while the quadrant's clocks run and the port has room. -/
def execFabricMessageIn (q : Fin 4) (s : State) : Host.Outcome State Fault Refusal :=
  .next <| match (if quadRuns s q && txqRoom s q then [4, 5, 0, 1] else []).find? (headIsMessage s q) with
  | none => s
  | some c => match inboxPop s q c with
    | some (s, { txn := .req r, .. }) => messageIn s q r
    | _ => s

/-- INBOUND_WRITE_PLACED (R156): the last TLP of an inbound Write is on the link. -/
def execInboundWritePlaced (q : Fin 4) (id : Nat) (s : State) : Host.Outcome State Fault Refusal :=
  .next <| match mfind (quadOf s q).inbound id with
  | none => s
  | some x => if x.req.op == .write && x.toPlace == 0 then inFinish s q id x 0 [] else s

end Sys2Proof.Machine
end

