-- ==== Sys2Proof/Machine/Dma.lean ====
section
/-!
DEFINITION. The DMA engine (chapters 08 and 09): contexts, Descriptors and extensions, bursts, Weave and Seal, completion queues, and the ends of
halts and aborts, with the commands of those chapters.
-/
namespace Sys2Proof.Machine

/-! ### Fields of the words (R215, R223, R245) -/

def Chan.prio (x : Chan) : Nat := bits x.act 28 4
def Chan.cq (x : Chan) : Nat := bits x.act 24 4
/-- The largest burst in bytes. -/
def Chan.burstMax (x : Chan) : Nat := 256 * 2 ^ bits x.act 16 3
def Desc.length (d : Desc) : Nat := bits d.ctrl 32 32
def Desc.noSnoop (d : Desc) : Bool := bitOf d.ctrl 23
def Desc.relaxed (d : Desc) : Bool := bitOf d.ctrl 22
def Desc.fence (d : Desc) : Bool := bitOf d.ctrl 21
def Desc.irq (d : Desc) : Bool := bitOf d.ctrl 20
def Desc.cr (d : Desc) : Bool := bitOf d.ctrl 19
def Desc.statusWb (d : Desc) : Bool := bitOf d.ctrl 18
def Desc.dstFixed (d : Desc) : Bool := bitOf d.ctrl 17
def Desc.srcFixed (d : Desc) : Bool := bitOf d.ctrl 16
def Desc.dstFab (d : Desc) : Bool := bitOf d.ctrl 15
def Desc.srcFab (d : Desc) : Bool := bitOf d.ctrl 14
def Desc.dstNode (d : Desc) : Nat := bits d.nodes 32 20
def Desc.srcNode (d : Desc) : Nat := bits d.nodes 0 20
def Desc.weaveSrc (d : Desc) : Bool := bitOf d.xform 0
def Desc.weaveDst (d : Desc) : Bool := bitOf d.xform 1
def Desc.weave (d : Desc) : Bool := d.weaveSrc || d.weaveDst
def Desc.seal (d : Desc) : Bool := bitOf d.xform 2
def Desc.sealStart (d : Desc) : Bool := bitOf d.xform 3
def Desc.sealEnd (d : Desc) : Bool := bitOf d.xform 4
def Desc.extAddr (d : Desc) : Nat := d.xform / 64 * 64
/-- The extension is required (R245). -/
def Desc.extNeeded (d : Desc) : Bool := d.weave || d.sealStart || d.sealEnd
/-- The NODES.DST_NODE or SRC_NODE of a fabric side. -/
def Desc.dstAt (d : Desc) : Option Nat := if d.dstFab then some d.dstNode else none
def Desc.srcAt (d : Desc) : Option Nat := if d.srcFab then some d.srcNode else none

/-! ### Plot memory (R241, R243) -/

/-- Plot memory may be written for plot p now (R241). -/
def memOpen (s : State) (p : Nat) : Bool := plotState s p == psServing && bmeOf s p

/-- Write plot memory: one host TLP under the plot's Requester ID (R43). -/
def plotWrite (s : State) (p addr : Nat) (data : List Byte) : State :=
  pushTlp s (quadrantOf p) { kind := .memWrite, plot := p, reqId := ridOf s p, addr := addr, len := data.length, data := data }

/-- Address of a ChannelEntry (R214). -/
def chanEntryAddr (s : State) (p c : Nat) : Nat := getF s (F.PE_CHAN_TABLE_BASE p) * 4096 + 64 * c

/-- The DMA cluster of a plot is held in soft reset (R479). -/
def dmaHeld (s : State) (p : Nat) : Bool := heldQ s (quadrantOf p) 3

/-- DMA_EVENT of a plot's quadrant. -/
def dmaEvent (s : State) (p : Nat) (f : Nat → Fld) : State := setEv s (f (quadrantOf p)) (1232 + quadrantOf p)

/-! ### Completion queues (R236 to R239) -/

/-- Completion queue k of plot p beside its registers. -/
def cqOf (s : State) (p k : Nat) : Cq := mget (plotOf s p).cqs k {}
/-- Change it. -/
def modCq (s : State) (p k : Nat) (f : Cq → Cq) : State :=
  modPlot s p fun x => { x with cqs := mset x.cqs k (f (mget x.cqs k {})) {} }

/-- The queue is full (R238). -/
def cqFull (s : State) (p k : Nat) : Bool :=
  getF s (F.PP_CQ_PROD_PROD p k) == getF s (F.PP_CQ_HEAD_CONS p k) &&
    getF s (F.PP_CQ_PROD_PHASE p k) != getF s (F.PP_CQ_HEAD_PHASE p k)

/-- Channels Stalled on a queue. -/
def cqStalled (s : State) (p k : Nat) : Nat := ((cqOf s p k).order.filter fun c => (chanOf s p c).st == csStalled).length

/-- Show FULL, WAITING and STATUS.CQ_STALL (R238, R240). -/
def cqShow (s : State) (p k : Nat) : State :=
  let n := cqStalled s p k
  let s := setF (setB s (F.PP_CQ_PROD_FULL p k) (n != 0)) (F.PP_CQ_PROD_WAITING p k) n
  let any := (List.range 16).any fun j => cqStalled s p j != 0
  if bitF s (F.PE_STATUS_CQ_STALL p) == any then s else markDirty (setB s (F.PE_STATUS_CQ_STALL p) any) p false

/-- The 256 bits of a CompletionRecord (R236). -/
def crecValue (p c seq phase : Nat) (r : CRec) : Nat :=
  r.user * 2 ^ 192 + r.desc / 64 * 2 ^ 134 + r.residue * 2 ^ 96 + r.fst * 2 ^ 88 + r.reason * 2 ^ 80 + c * 2 ^ 64 + p * 2 ^ 52 +
    r.status * 2 ^ 40 + seq * 2 ^ 16 + phase

/-- Append one record at PROD (R238) and send the queue's vector if it is due (R239). -/
def cqAppend (s : State) (p c k : Nat) (r : CRec) : State :=
  let prod := getF s (F.PP_CQ_PROD_PROD p k)
  let phase := getF s (F.PP_CQ_PROD_PHASE p k)
  let q := cqOf s p k
  let s := plotWrite s p (getF s (F.PE_CQ_BASE p k) * 4096 + 32 * prod) (leBytes 32 (crecValue p c q.seq phase r))
  let s := if prod + 1 == 64 * 2 ^ getF s (F.PE_CQ_SIZE p k)
    then setF (setF s (F.PP_CQ_PROD_PROD p k) 0) (F.PP_CQ_PROD_PHASE p k) (1 - phase)
    else setF s (F.PP_CQ_PROD_PROD p k) (prod + 1)
  let due := (r.status != 0 || r.irq) && !q.vecSent
  let s := modCq s p k fun y => { y with seq := (y.seq + 1) % 2 ^ 24, vecSent := y.vecSent || due }
  if due then reqVector s p (getF s (F.PE_CQ_VEC p k)) else s

/-- Append the waiting records of a channel while its queue has room and its turn has come (R238); `held` records that they are withheld
(R241). A channel whose record finds the queue full is Stalled, also in a halt or an abort, which go on from there (DEDUCED, assumption 60). -/
def cqTry (s : State) (p c : Nat) : Nat → State
  | 0 => s
  | n + 1 =>
    let x := chanOf s p c
    let k := x.cq
    match x.recs with
    | [] => s
    | r :: rs =>
      if !x.stWords.isEmpty || !memOpen s p then modChan s p c fun y => { y with held := true }
      else if cqFull s p k || (match (cqOf s p k).order with | [] => false | c' :: _ => c' != c) then
        let s := if (cqOf s p k).order.contains c then s else modCq s p k fun y => { y with order := y.order ++ [c] }
        let s := if x.st == csRunning || x.st == csAborting || x.st == csHalting
          then dmaEvent (modChan s p c fun y => { y with st := csStalled, back := x.st }) p F.DMA_EVENT_CQ_STALL else s
        cqShow s p k
      else
        let s := modCq (cqAppend s p c k r) p k fun y => { y with order := y.order.filter fun d => d != c }
        let s := modChan s p c fun y => { y with recs := rs, st := if y.st == csStalled then y.back else y.st }
        cqTry (cqShow s p k) p c n

/-- Add a record to a channel's and append what can be. -/
def cqPut (s : State) (p c : Nat) (r : CRec) : State := cqTry (modChan s p c fun x => { x with recs := x.recs ++ [r] }) p c 8

/-- A commit that enables or changes CQ[k] (R238, R239). -/
def cqCommit (s : State) (p k : Nat) : State :=
  let s := setF (setF s (F.PP_CQ_PROD_PROD p k) 0) (F.PP_CQ_PROD_PHASE p k) 1
  let s := setF (setF s (F.PP_CQ_HEAD_CONS p k) 0) (F.PP_CQ_HEAD_PHASE p k) 1
  modCq s p k fun y => { y with seq := 0, vecSent := false }

/-! ### Reports of a Descriptor (R233 to R235, R243) -/

/-- The STATUS word of a Descriptor (R223). -/
def statusWord (rst reason fst residue : Nat) : Nat := 2 ^ 63 + rst * 2 ^ 48 + reason * 2 ^ 40 + fst * 2 ^ 32 + residue

/-- Write a STATUS word, or withhold it (R241). -/
def statusPut (s : State) (p c addr w : Nat) : State :=
  if memOpen s p && (chanOf s p c).stWords.isEmpty then plotWrite s p addr (leBytes 8 w)
  else modChan s p c fun x => { x with stWords := x.stWords ++ [(addr, w)], held := true }

/-- A FaultRecord of chapter 08 (R243, R257). -/
def dmaRecord (code c : Nat) (f : DFail) (fst reason desc residue : Nat) : FaultRec :=
  { code := code, block := 3, addr := f.addr, len := f.len, node := f.node, chan := some c, status := fst,
    detail := desc * 2 ^ 128 + residue * 2 ^ 96 + reason * 2 ^ 8 + (if f.node.isSome then 1 else 0) }

/-- RESIDUE of a Descriptor (R233). -/
def Desc.residue (d : Desc) : Nat := d.length - min (d.failOff.getD d.pos) d.pos

/-- Close a Descriptor: STATUS, the FaultRecord, the record, in that order (R229, R233, R235). `code` 0 makes no FaultRecord. -/
def closeDesc (s : State) (p c : Nat) (d : Desc) (rst reason fst residue code : Nat) : State :=
  let s := if rst == 0 then s else modChan s p c fun x => { x with residue := residue, reason := reason, fst := fst }
  let s := if rst != 0 || d.statusWb then statusPut s p c (d.addr + 0x38) (statusWord rst reason fst residue) else s
  let s := if code == 0 then s else faultCreate s p (dmaRecord code c (d.bad.getD { reason := 0, fst := 0 }) fst reason d.addr residue)
  if rst != 0 || d.cr then
    cqPut s p c { desc := d.addr, user := d.user, status := rst, reason := reason, fst := fst, residue := residue, irq := d.irq }
  else s

/-- A Descriptor has finished (R215, R244). -/
def countDesc (s : State) (p c : Nat) : State :=
  bump (modChan s p c fun x => { x with descs := (x.descs + 1) % 2 ^ 32 }) (F.DMA_COUNT_DESCS (quadrantOf p))

/-! ### Contexts (R217, R218) -/

/-- Bytes 0x10 to 0x3F of the ChannelEntry (R215, R253). -/
def entryWords (x : Chan) : List Byte :=
  leBytes 8 (x.cur / 64 * 64 + x.cause * 8 + x.st) ++ leBytes 8 (x.descs * 2 ^ 32 + x.residue) ++ leBytes 8 x.bytes ++
    leBytes 8 (x.badCount * 2 ^ 32 + x.reason * 2 ^ 24 + x.fst * 2 ^ 16) ++
    leBytes 8 (if x.span.isSome then x.reg else x.lastSeal) ++ leBytes 8 x.act

/-- Write a context back and release it, or withhold the write (R218, R241). -/
def chanPark (s : State) (p c : Nat) : State :=
  let x := chanOf s p c
  if !x.resident then s
  else if memOpen s p && x.stWords.isEmpty && x.recs.isEmpty then
    modChan (plotWrite s p (chanEntryAddr s p c + 0x10) (entryWords x)) p c fun x => { x with resident := false, held := false }
  else modChan s p c fun x => { x with held := true }

/-- A cluster has a free context. -/
def ctxFree (s : State) (q : Nat) : Bool := decide (((quadChans s q).filter fun x => x.2.resident).length < 2048)

/-- Read the ChannelEntry into a context (R217). -/
def chanLoad (s : State) (p c : Nat) : State :=
  emit (modChan s p c fun x => { x with resident := true, pending := false, loading := true, since := s.now }) (.plotRead p (chanEntryAddr s p c) 64)

/-- Give a channel a context, or let it wait for one (R218). -/
def chanAcquire (s : State) (p c : Nat) (kind : ChanLoad) : State :=
  let s := modChan s p c fun x => { x with st := csRunning, kind := kind }
  if ctxFree s (quadrantOf p) then chanLoad s p c
  else
    let s := dmaEvent (modChan s p c fun x => { x with pending := true }) p F.DMA_EVENT_CTX_WAIT
    if kind == .start then plotWrite s p (chanEntryAddr s p c + 0x10) (leBytes 8 ((chanOf s p c).cur / 64 * 64 + csRunning)) else s

/-- The span of a channel is broken, if one is open (R255). -/
def Chan.breakSpan (x : Chan) : Chan :=
  match x.span with
  | none => x
  | some n => { x with broken := if x.broken.contains n then x.broken else x.broken ++ [n] }

/-- A channel begins to halt (R222); a Stalled one once its record is appended. -/
def chanHalt (s : State) (p c cause : Nat) (last : Option (FaultRec × Option CRec)) : State :=
  let k := (chanOf s p c).cq
  cqShow (modChan s p c fun x =>
    if x.st == csRunning then { x with st := csHalting, cause := cause, last := last }
    else if x.going then { x with back := csHalting, cause := cause, last := last }
    else x) p k

/-! ### The chain (R225) -/

/-- Fetch a Descriptor; `from_` names the Descriptor whose NEXT led to it. -/
def descFetch (s : State) (p c addr : Nat) (from_ : Option (Nat × Nat)) : State :=
  emit (modChan s p c fun x => { x with fetch := some addr, from_ := from_ }) (.plotRead p addr 64)

/-- Read NEXT of a finished Descriptor again (R225). -/
def nextReread (s : State) (p c addr user : Nat) : State :=
  emit (modChan s p c fun x => { x with reread := some (addr, user), rearm := false }) (.plotRead p (addr + 0x20) 8)

/-- All bursts of a Descriptor, and its seal store, have been issued. -/
def Desc.issued (d : Desc) : Bool := !d.extWait && d.pos == d.length && (!d.sealEnd || d.sealIssued)

/-- Fetch ahead when the last burst of the last Descriptor has been issued (R225). -/
def fetchAhead (s : State) (p c : Nat) : State :=
  let x := chanOf s p c
  match x.ds.getLast? with
  | none => s
  | some d =>
    if x.going && x.ds.length < 2 && x.fetch.isNone && d.bad.isNone && !d.extWait && d.pos == d.length && d.next != 0
    then descFetch s p c d.next (some (d.addr, d.user)) else s

/-! ### Weave (R249, R250) -/

/-- The way of offset o. -/
def Ext.wayOf (e : Ext) (o : Nat) : Nat := o / max e.elem 1 % max e.ways.length 1
/-- The address of offset o on the woven side. -/
def Ext.addrOf (e : Ext) (o : Nat) : Nat :=
  ((e.ways[e.wayOf o]?).getD { addr := 0, node := none }).addr + o / max e.elem 1 / max e.ways.length 1 * e.elem + o % max e.elem 1
/-- The offset of the byte before o in its way's run, if there is one. -/
def Ext.prevOf (e : Ext) (o : Nat) : Option Nat :=
  if o % max e.elem 1 != 0 then some (o - 1)
  else if o / max e.elem 1 < e.ways.length then none
  else some (o - e.elem * e.ways.length + e.elem - 1)

/-- The length of a burst from `off` of at most n bytes in which no way's run crosses a 4 KiB boundary (R250). -/
def weaveCut (e : Ext) (off : Nat) : Nat → Nat → Nat
  | k, 0 => k
  | k, n + 1 =>
    let o := off + k
    let cross := e.addrOf o % 4096 == 0 && (match e.prevOf o with | none => false | some o' => decide (off ≤ o'))
    if cross && k != 0 then k else weaveCut e off (k + 1) n

/-- Bytes from an incrementing address to its next 4 KiB boundary. -/
def toPage (addr : Nat) : Nat := 4096 - addr % 4096

/-- The length of the burst at a Descriptor's position (R227, R250). -/
def burstLen (d : Desc) (burstMax : Nat) : Nat :=
  let n := min (d.length - d.pos) burstMax
  let n := if d.weaveSrc || d.srcFixed then n else min n (toPage (d.src + d.pos))
  let n := if d.weaveDst || d.dstFixed then n else min n (toPage (d.dst + d.pos))
  if d.weave then weaveCut d.ext d.pos 0 n else n

/-- The offsets of a burst that belong to way w. -/
def wayOffsets (e : Ext) (off len w : Nat) : List Nat := ((List.range len).map fun i => off + i).filter fun o => e.wayOf o == w

/-- The requests of the woven side of a burst: one for each way it touches, ascending (R250). -/
def wayReqs (e : Ext) (off len : Nat) : List DReq :=
  (List.range e.ways.length).filterMap fun w =>
    match wayOffsets e off len w with
    | [] => none
    | o :: os => some { node := ((e.ways[w]?).getD { addr := 0, node := none }).node, addr := e.addrOf o, len := os.length + 1 }

/-- The source requests of a burst. -/
def readReqs (d : Desc) (off len : Nat) : List DReq :=
  if d.weaveSrc then wayReqs d.ext off len
  else [{ node := d.srcAt, addr := if d.srcFixed then d.src else d.src + off, len := len }]

/-- The destination requests of a burst. -/
def writeReqs (d : Desc) (off len : Nat) : List DReq :=
  if d.weaveDst then wayReqs d.ext off len
  else [{ node := d.dstAt, addr := if d.dstFixed then d.dst else d.dst + off, len := len }]

/-- What has arrived for a request, in order of offset. -/
def DReq.bytes (r : DReq) : List Byte := r.data.flatMap fun x => x.2

/-- The byte at offset o of a gather: by the request that covers its address at its way. -/
def gatherByte (e : Ext) (rs : List DReq) (ws : List Nat) (o : Nat) : Byte :=
  match (rs.zip ws).find? fun x => x.2 == e.wayOf o with
  | none => 0
  | some x => (x.1.bytes[e.addrOf o - x.1.addr]?).getD 0

/-- The ways a burst touches, ascending. -/
def waysTouched (e : Ext) (off len : Nat) : List Nat := (List.range e.ways.length).filter fun w => !(wayOffsets e off len w).isEmpty

/-- The linear bytes of a burst whose reads are whole. -/
def burstBytes (d : Desc) (b : Burst) : List Byte :=
  if d.weaveSrc then
    (List.range b.len).map fun i => gatherByte d.ext b.reads (waysTouched d.ext b.off b.len) (b.off + i)
  else (b.reads.flatMap DReq.bytes).take b.len

/-- The bytes each write of a burst carries. -/
def writeData (d : Desc) (b : Burst) (data : List Byte) : List (List Byte) :=
  if d.weaveDst then
    (waysTouched d.ext b.off b.len).map fun w => (wayOffsets d.ext b.off b.len w).map fun o => (data[o - b.off]?).getD 0
  else [data]

/-! ### Seal (R251 to R254) -/

/-- The reflected polynomial of an algorithm. -/
def sealPoly (alg : Nat) : Nat := if alg == 0 then 0x82F63B78 else 0x9A6C9329AC4BC9B5
/-- Initial register and final value of an algorithm. -/
def sealMask (alg : Nat) : Nat := if alg == 0 then 0xFFFFFFFF else 0xFFFFFFFFFFFFFFFF
/-- Bytes of a stored seal. -/
def sealLen (alg : Nat) : Nat := if alg == 0 then 4 else 8

/-- One bit of the register. -/
def sealBit (poly reg : Nat) : Nat := if reg % 2 == 1 then Nat.xor (reg / 2) poly else reg / 2

/-- The register after one byte (R251). -/
def sealByte (poly reg : Nat) (b : Byte) : Nat := Nat.iterate (sealBit poly) 8 (Nat.xor reg b.toNat)

/-- The register after a list of bytes. -/
def sealBytes (alg reg : Nat) (bs : List Byte) : Nat := bs.foldl (sealByte (sealPoly alg)) reg

/-- The initial register of a span (R251). -/
def sealInit (e : Ext) : Nat := if e.cont then Nat.xor (e.seed % 2 ^ (8 * sealLen e.alg)) (sealMask e.alg) else sealMask e.alg

/-- The span of a Descriptor is broken. -/
def Desc.spanBroken (x : Chan) (d : Desc) : Bool := match d.span with | none => false | some n => x.broken.contains n

/-- Take a burst's bytes into the register (R252); at the end of a SEAL_END Descriptor the seal is ready. -/
def sealTake (x : Chan) (d : Desc) (b : Burst) (data : List Byte) : Chan :=
  if !d.seal || d.spanBroken x then x
  else
    let r := sealBytes d.alg (if d.sealStart && b.off == 0 then sealInit d.ext else x.reg) data
    { x with reg := r, ds := x.ds.map fun y =>
        if y.no == d.no && d.sealEnd && b.off + b.len == d.length then { y with sealVal := Nat.xor r (sealMask d.alg) } else y }

/-- A SEAL_END Descriptor of no length takes the register as it stands (R252, R254). -/
def sealOfEmpty (x : Chan) (d : Desc) : Nat := Nat.xor (if d.sealStart then sealInit d.ext else x.reg) (sealMask d.alg)

/-! ### Sending the requests of a burst (R228) -/

/-- A fabric request of the cluster can have a Ledger entry (R131). While requesters wait since the pool was empty, an entry comes by turns alone
(R132); `turn` tells that this is the cluster's. -/
def dmaRoom (s : State) (q : Nat) (wr turn : Bool) : Bool := ledgerRoom s q 0 wr false && (turn || !(quadOf s q).short)

/-- A plain request for the Ledger's use. -/
def plainReq (wr : Bool) (len : Nat) (data : List Byte) (poison : Bool) (now : Nat) : OutReq :=
  { kind := if wr then .write else .read, bar4 := false, off := 0, len := len, data := data, poisoned := poison, received := now }

/-- Send one fabric request of a burst (R228). -/
def dmaFabric (s : State) (r : DmaRef) (node addr len : Nat) (wr : Bool) (data : List Byte) (poison : Bool) : State :=
  let q := quadrantOf r.plot
  let tag := freeTag s q
  let e : LEntry := { kind := if wr then .write else .read, hostPath := false, plot := r.plot, chan := r.chan, node := node, addr := addr,
                      len := len, burst := r.burst, part := r.part, allocated := s.now, req := plainReq wr len data poison s.now }
  dmaSend (ledgerOcc (putEntry s q tag e) q r.plot) q tag e

/-- A transfer between the cluster and the host crosses Pergola from the cluster to the quadrant's host path (R21), one for each TLP (DESIGN CHOICE,
assumption 121). -/
def legPush (s : State) (p : Nat) (leg : HostLeg) (data : List Byte) : State :=
  let q := quadrantOf p
  let r : FabReq := { op := if data.isEmpty then .read else .write, dest := 0, src := 0, tenant := 0, tag := 0, addr := 0, len := data.length, data := data }
  pgaPush s q 0 (.dma p) { ingress := 12 + q, txn := .req r, plot := p, host := some leg }

/-- Send a host write of a burst, cut into TLPs (R228). -/
def dmaHostWrite (s : State) (r : DmaRef) (attrs : Nat) (poison : Bool) : List (Nat × Nat) → List Byte → State
  | [], _ => s
  | (a, k) :: cs, data =>
    dmaHostWrite (legPush s r.plot (.write { kind := .memWrite, plot := r.plot, reqId := ridOf s r.plot, addr := a, len := k, data := data.take k,
                                             attrs := attrs, poisoned := poison, dma := some r }) (data.take k))
      r attrs poison cs (data.drop k)

/-- Send a host read of a burst, cut into TLPs; the answer of each carries its place. -/
def dmaHostRead (s : State) (r : DmaRef) (attrs : Nat) : List (Nat × Nat) → State
  | [] => s
  | (a, k) :: cs =>
    dmaHostRead (legPush s r.plot (.read (.dma r.plot r.chan r.burst r.part)
      { kind := .memRead, plot := r.plot, reqId := ridOf s r.plot, addr := a, len := k, attrs := attrs }) []) r attrs cs

/-- Attributes of a Descriptor's host requests. -/
def Desc.attrs (d : Desc) : Nat := (if d.noSnoop then 1 else 0) + (if d.relaxed then 2 else 0)

/-- The TLPs a host request is cut into. -/
def hostCuts (s : State) (p : Nat) (r : DReq) (wr : Bool) : List (Nat × Nat) :=
  chunks 64 r.addr r.len (128 * 2 ^ (if wr then (funcOf s p).mps else (funcOf s p).mrrs))

/-- A request of a burst may be sent now: it has a Ledger entry and a place in its queue (R131, R132, R196). -/
def reqMay (s : State) (p : Nat) (wr turn : Bool) (r : DReq) : Bool :=
  let q := quadrantOf p
  match r.node with
  | some n => dmaRoom s q wr turn && routeOpen s (12 + q) 0 (routeOf s n (myNode s (1 + q)) (some p)).2
  | none => voqOpen s (12 + q) q 0

/-- Send one request of a burst; `wr` tells the writes from the reads. -/
def reqSend (s : State) (p c : Nat) (b : Burst) (i : Nat) (r : DReq) (wr : Bool) : State :=
  let ref : DmaRef := { plot := p, chan := c, burst := b.id, part := i }
  let cuts := hostCuts s p r wr
  let mark (d : DReq) : DReq := { d with sent := true, left := if d.node.isSome then 1 else cuts.length }
  let s := modChan s p c fun x => { x with bursts := x.bursts.map fun y =>
    if y.id != b.id then y else if wr then { y with writes := reqAt y.writes i mark } else { y with reads := reqAt y.reads i mark } }
  match r.node with
  | some n => dmaFabric s ref n r.addr r.len wr (if wr then r.bytes else []) (wr && b.poison)
  | none => if wr then dmaHostWrite s ref b.attrs b.poison cuts r.bytes else dmaHostRead s ref b.attrs cuts

/-- The first request of a list that has not been sent, with its place. -/
def firstUnsent (rs : List DReq) : Option (Nat × DReq) := ((List.range rs.length).zip rs).find? fun x => !x.2.sent

/-- The reads of a burst are whole and none failed. -/
def Burst.whole (b : Burst) : Bool := b.reads.all fun r => r.left == 0 && r.bad.isNone
/-- A read of a burst failed: it takes no place in the write order, and no further read of it is sent. -/
def Burst.readFailed (b : Burst) : Bool := b.reads.any fun r => r.bad.isSome

/-- The next write of a channel that waits to be sent, in burst order (R229), and the next read. -/
def Chan.nextWrite (x : Chan) : Option (Burst × Nat × DReq) :=
  (x.bursts.filter fun b => b.written).findSome? fun b => (firstUnsent b.writes).map fun r => (b, r)
def Chan.nextRead (x : Chan) : Option (Burst × Nat × DReq) :=
  (x.bursts.filter fun b => !b.written && !b.readFailed).findSome? fun b => (firstUnsent b.reads).map fun r => (b, r)

/-- Note that a request of the cluster waits on an empty pool (R132). -/
def dmaShort (s : State) (p : Nat) (wr : Bool) (r : DReq) : State :=
  if r.node.isSome && poolEmpty s (quadrantOf p) wr then poolShort (modQuad s (quadrantOf p) fun u => { u with dmaWait := true }) (quadrantOf p) else s

/-- Send the waiting requests of a channel that can be, in their order: at most `n`; the rest wait at the channel (R132). -/
def chanSend (s : State) (p c : Nat) (wr turn : Bool) : Nat → State
  | 0 => s
  | n + 1 =>
    match (if wr then (chanOf s p c).nextWrite else (chanOf s p c).nextRead) with
    | none => s
    | some (b, i, r) =>
      if reqMay s p wr turn r then chanSend (reqSend s p c b i r wr) p c wr turn n else dmaShort s p wr r

/-! ### Descriptors at the head of the chain (R229, R233, R254, R255) -/

/-- Bursts of a Descriptor in flight. -/
def Chan.live (x : Chan) (d : Desc) : Bool := x.bursts.any fun b => b.desc == d.no

/-- Mark a Descriptor Bad for a reason that is no request's. -/
def markBad (x : Chan) (no reason fst : Nat) (f : DFail) : Chan :=
  { x with ds := x.ds.map fun d => if d.no == no then { d with bad := some { f with reason := reason, fst := fst } } else d }

/-- The first request of a burst that the fence list refuses (R228, R405). -/
def burstRefused (s : State) (p : Nat) (rs ws : List DReq) : Option DReq :=
  let bad (wr : Bool) (r : DReq) : Bool := match r.node with
    | none => false
    | some n => !fenceOk s p n r.addr (r.addr + r.len - 1) (!wr) wr false
  match rs.find? (bad false) with
  | some r => some r
  | none => ws.find? (bad true)

/-- Issue the seal store of the head Descriptor (R254), a write as any other; one that the fence list refuses is not sent, and has failed. -/
def sealStore (s : State) (p c : Nat) (d : Desc) : State :=
  let x := chanOf s p c
  let v := if d.length == 0 then sealOfEmpty x d else d.sealVal
  let n := sealLen d.alg
  let r : DReq := { node := d.ext.sealNode, addr := d.ext.sealAddr, len := n, data := [(0, leBytes n v)] }
  let x : Chan := { x with nextNo := x.nextNo + 1, ds := x.ds.map fun y => if y.no == d.no then { y with sealIssued := true, sealVal := v } else y }
  let b : Burst := { id := x.nextNo - 1, desc := d.no, off := d.length, len := 0, reads := [], writes := [r], written := true, store := true, attrs := d.attrs }
  if (burstRefused s p [] [r]).isSome then
    let f : DFail := { reason := 0x0C, fst := 0x25, addr := r.addr, len := r.len, node := r.node, burst := b.id }
    putChan (fenceRefused s) p c (x.failBurst b f)
  else chanSend (putChan s p c { x with bursts := x.bursts ++ [b] }) p c true false 1

/-- Take the head Descriptor off (R225). -/
def popDesc (x : Chan) : Chan := { x with ds := x.ds.drop 1 }

/-- The seal of a finished SEAL_END Descriptor stands as the last stored (R253). -/
def keepSeal (x : Chan) (d : Desc) : Chan :=
  if d.sealEnd then { x with lastSeal := d.sealVal } else if d.seal && d.length == 0 && d.sealStart then { x with reg := sealInit d.ext } else x

/-- Do what follows a closed Descriptor once no record waits (R225). -/
def chanFollow (s : State) (p c : Nat) : State :=
  let x := chanOf s p c
  match x.after with
  | .follow next addr user =>
    if x.st != csRunning || !x.recs.isEmpty then s
    else
      let s := modChan s p c fun x => { x with after := .none }
      if next == 0 then nextReread s p c addr user
      else if x.ds.isEmpty && x.fetch.isNone then descFetch s p c next (some (addr, user))
      else s
  | _ => s

/-- Finish the Descriptors at the head of the chain whose writes have all retired OK (R229), or issue their seal store (R254). -/
def chanGo (s : State) (p c : Nat) : Nat → State
  | 0 => fetchAhead s p c
  | n + 1 =>
    let x := chanOf s p c
    match x.ds with
    | [] => chanFollow s p c
    | d :: _ =>
      if x.st == csStalled || d.bad.isSome || d.cut || d.extWait || d.pos != d.length || x.live d then fetchAhead (chanFollow s p c) p c
      else if d.sealEnd && d.spanBroken x then
        fetchAhead (modChan s p c fun x => markBad { x with ds := x.ds.map fun y => if y.no == d.no then { y with failOff := some d.length } else y }
          d.no 0x0D 0xFF { reason := 0, fst := 0 }) p c
      else if d.sealEnd && !d.sealIssued then
        fetchAhead (if memOpen s p then sealStore s p c d else s) p c
      else
        let s := modChan s p c fun x => keepSeal (popDesc x) d
        let s := closeDesc (countDesc s p c) p c d 0 0 0xFF 0 0
        let s := modChan s p c fun x => { x with after := .follow d.next d.addr d.user, cur := match x.ds with | [] => d.addr | e :: _ => e.addr }
        chanGo (chanFollow s p c) p c n

/-- The records of a channel have all been appended, or are withheld: end a halt or abort that waited for it (R222, R235). An ABORT that waited for a
record ends the channel in Idle. -/
def chanEnded (s : State) (p c : Nat) : State :=
  let x := chanOf s p c
  if x.after != .ending || (!x.recs.isEmpty && !x.held) then s
  else
    let idle := x.aborting || (x.abortPend && !x.held)
    let s := modChan s p c fun x => { x with
      after := .none, abortPend := false, aborted := false, st := if idle then csIdle else csHalted, cause := if idle then 0 else x.cause }
    chanPark s p c

/-- Cut a channel short (R235, R241): the Descriptor in progress is the first that is not all issued, or the one before it if that one has
started no burst, else the last; those fetched ahead of it are dropped. One that has failed is left to the Bad procedure. -/
def chanCut (x : Chan) (host : Bool) : Chan :=
  let i := (x.ds.findIdx? fun d => !d.issued || (d.failOff.isSome && d.bad.isNone)).getD (x.ds.length - 1)
  let i := if decide (0 < i) && ((x.ds[i]?).any fun d => d.pos == d.start) then i - 1 else i
  match x.ds[i]? with
  | none => x
  | some d =>
    let keep := x.ds.take i ++ [{ d with cut := host || d.bad.isNone }]
    { x with ds := keep, cur := d.addr, bursts := x.bursts.filter fun b => keep.any fun e => e.no == b.desc,
             span := if x.span.isNone || (x.ds.drop (i + 1)).any (fun e => e.sealStart) then (if d.seal then d.span else none) else x.span }

/-- A burst's writes that have not been sent never will be: it does not retire OK (R241). -/
def Burst.stop (b : Burst) : Burst :=
  { b with writes := b.writes.map fun w => if w.sent then w else { w with sent := true, left := 0, handed := true, bad := some 0x24 } }

/-- A host halt of a channel that follows its chain, or aborts: bursts with no write sent are discarded, and the others send no further one. An abort
in progress completes as an abort (R241). -/
def hostHalted (x : Chan) : Chan :=
  let gone := x.bursts.filter fun b => !b.written || b.writes.all fun w => !w.sent
  let cut := gone ++ x.bursts.filter fun b => b.writes.any fun w => !w.sent
  let ds := x.ds.map fun d => cut.foldl (fun d b => if b.desc == d.no
    then { d with failOff := some (min (d.failOff.getD b.off) b.off), sealIssued := d.sealIssued && !b.store } else d) d
  let y := { x with bursts := (x.bursts.filter fun b => gone.all fun g => g.id != b.id).map Burst.stop, ds := ds, pending := false, st := csHalting,
                    cause := ccHost, abortPend := false }
  if x.aborting then { y with aborted := true }
  else
    let y := chanCut y true
    if y.ds.isEmpty && x.fetch.isSome then { y with cur := x.fetch.getD 0, resumeAt := some 0, undecided := true }
    else if (x.loading || x.pending) && (x.kind == .start || x.kind == .waited || x.kind == .evicted) then { y with resumeAt := some 0, undecided := true }
    else y

/-- Stop a channel because its plot has left Serving (R241). One that halts goes on with that; what it still has to write is withheld. -/
def chanHostHalt (s : State) (p c : Nat) : State :=
  let x := chanOf s p c
  let y := if x.going || x.aborting then hostHalted x else if x.halting then { x with st := csHalting } else x
  let y := if x.recs.isEmpty then y else { y with held := true }
  let s := modCq (putChan s p c y) p x.cq fun z => { z with order := z.order.filter fun d => d != c }
  let s := cqShow s p x.cq
  if x.going || x.aborting || x.halting then chanGo (chanEnded s p c) p c 3 else s

/-- The channels of a plot. -/
def plotChans (s : State) (p : Nat) : List Nat := (s.chans.filter fun x => x.1 / 256 == p).map fun x => x.1 % 256

/-- The plot has left Serving for Held or Faulted (R241). -/
def dmaStop (s : State) (p : Nat) : State := (plotChans s p).foldl (fun s c => chanHostHalt s p c) s

/-- Make withheld STATUS writes, in order. -/
def releaseWords (s : State) (p : Nat) : List (Nat × Nat) → State
  | [] => s
  | (a, w) :: ws => releaseWords (plotWrite s p a (leBytes 8 w)) p ws

/-- Make the withheld writes of a channel: STATUS words, then records as the queue has room, then the write-back (R241). -/
def chanRelease (s : State) (p c : Nat) : State :=
  let x := chanOf s p c
  if !x.held then s
  else
    let s := modChan (releaseWords s p x.stWords) p c fun x => { x with stWords := [] }
    let s := cqTry s p c 8
    let x := chanOf s p c
    if !x.recs.isEmpty then s
    else if x.after == .ending then chanEnded (modChan s p c fun x => { x with held := false }) p c
    else if x.st == csIdle || x.st == csHalted then chanPark s p c
    else modChan s p c fun x => { x with held := false }

/-- The plot is Serving again (R241). -/
def dmaRelease (s : State) (p : Nat) : State := (plotChans s p).foldl (fun s c => chanRelease s p c) s

/-- Cloche step 2 (R68, R241): every channel Idle with nothing written; only the numbers that name requests still out go on. -/
def dmaCloche (s : State) (p : Nat) : State :=
  let s := (plotChans s p).foldl (fun s c => putChan s p c { nextNo := (chanOf s p c).nextNo }) s
  (List.range 16).foldl (fun s k => cqShow s p k) (modPlot s p fun x => { x with cqs := [] })

/-- Every channel of a plot is Idle, or Halted with no write waiting, and none waits for a context (R52, R241). -/
def dmaQuiet (s : State) (p : Nat) : Bool :=
  (plotChans s p).all fun c => let x := chanOf s p c
    !x.pending && !x.held && (x.st == csIdle || x.st == csHalted)

/-- A channel is Halted with CAUSE CONTEXT and what there is of its context is discarded (R222, R234). -/
def contextHalt (s : State) (p c : Nat) : State :=
  let x := chanOf s p c
  let y : Chan := { nextNo := x.nextNo, st := csHalted, cause := ccContext, span := x.span, broken := x.broken, alg := x.alg, lastSeal := x.lastSeal }
  let s := modCq (putChan s p c y.breakSpan) p x.cq fun y => { y with order := y.order.filter fun d => d != c }
  let s := dmaEvent (bump (cqShow s p x.cq) (F.DMA_COUNT_HALTS (quadrantOf p))) p F.DMA_EVENT_HALT
  faultCreate s p (dmaRecord 0x11 c { reason := 7, fst := 0xFF } 0xFF 7 0 0)

/-- An uncorrectable error in a context that is in the cluster (R31). -/
def chanContextLost (s : State) (p c : Nat) : State := if (chanOf s p c).resident then contextHalt s p c else s

/-! ### Doorbells (R219, R222) -/

/-- A doorbell is ignored and counted (R219). -/
def dbIgnored (s : State) (p : Nat) : State := bump s (F.PP_DMA_DB_IGNORED p)

/-- A doorbell is refused whatever the channel's state (R219, R479). -/
def dbRefused (s : State) (p c : Nat) : Bool :=
  plotState s p != psServing || !bitF s (F.PE_CAPS_DMA_EN p) || !bitF s (F.PE_CHAN_TABLE_EN p) ||
    decide (getF s (F.PE_CHAN_TABLE_CHAN_HIGH p) < c) || dmaHeld s p

/-- A plot page that ignores writes: the plot is Disabled or Resetting (R51). -/
def pageDead (s : State) (p : Nat) : Bool := plotState s p == psDisabled || plotState s p == psResetting

/-- START takes a channel from Idle or Halted with no write waiting (R222, R255). -/
def chanStart (s : State) (p c head : Nat) : State :=
  chanAcquire (modChan s p c fun x => { x with
    cur := head * 64, cause := 0, rearm := false, resumeAt := none, undecided := false, last := none, after := .none, from_ := none, span := none,
    broken := [], reg := 0, lastSeal := 0 }) p c .start

/-- DMA_START. -/
def execDmaStart (p : Fin 4096) (c : Fin 256) (head : BitVec 58) (s : State) : Host.Outcome State Fault Refusal :=
  .next <|
    let x := chanOf s p c
    if pageDead s p then s
    else if dbRefused s p c || head == 0 || !(x.st == csIdle || x.st == csHalted) || x.held || x.pending then dbIgnored s p
    else chanStart s p c head.toNat

/-- DMA_KICK (R222). An Idle channel that still holds its context, with writes withheld, runs on in it. -/
def execDmaKick (p : Fin 4096) (c : Fin 256) (s : State) : Host.Outcome State Fault Refusal :=
  .next <|
    let x := chanOf s p c
    if pageDead s p then s
    else if dbRefused s p c then dbIgnored s p
    else if x.going then modChan s p c fun x => { x with rearm := true }
    else if x.st == csIdle then
      if x.resident then nextReread (modChan s p c fun x => { x with st := csRunning }) p c x.cur 0 else chanAcquire s p c .kick
    else dbIgnored s p

/-- ABORT takes effect on a Running channel (R235, R255). -/
def chanAbort (s : State) (p c : Nat) : State :=
  modChan s p c fun x =>
    let x := chanCut { x with st := csAborting, pending := false } false
    match x.span with
    | none => x
    | some _ => { x.breakSpan with span := none }

/-- DMA_ABORT. -/
def execDmaAbort (p : Fin 4096) (c : Fin 256) (s : State) : Host.Outcome State Fault Refusal :=
  .next <|
    let x := chanOf s p c
    if pageDead s p then s
    else if dbRefused s p c then dbIgnored s p
    else if x.st == csRunning then chanGo (chanAbort s p c) p c 3
    else if x.st == csStalled then modChan s p c fun x => { x with abortPend := true }
    else dbIgnored s p

/-- DMA_RESUME. -/
def execDmaResume (p : Fin 4096) (c : Fin 256) (s : State) : Host.Outcome State Fault Refusal :=
  .next <|
    let x := chanOf s p c
    if pageDead s p then s
    else if dbRefused s p c || x.st != csHalted || x.cause != ccHost || x.held then dbIgnored s p
    else chanAcquire (modChan s p c fun x => { x with cause := 0 }) p c .resume

/-! ### Contexts -/

/-- A ChannelEntry's CONTROL is unusable (R216). -/
def entryUnusable (s : State) (p ctl : Nat) : Bool :=
  let k := bits ctl 24 4
  !bitOf ctl 63 || bits ctl 0 8 != 1 || decide (4 < bits ctl 16 3) ||
    decide (getF s (F.PE_CAPS_CQ_LIMIT p) < k) || !bitF s (F.PE_CQ_EN p k)

/-- Halt with CAUSE ENTRY (R216, R217, R234); `len` is the length of the failing request, if there is one (R243). -/
def haltEntry (s : State) (p c fst len : Nat) : State :=
  chanHalt s p c ccEntry (some (dmaRecord 0x11 c { reason := 8, fst := fst, len := len } fst 8 0 0, none))

/-- Take the Status fields of a ChannelEntry as found (R217). XFORM_STATE is the register of an open span, or else the last seal (R253). -/
def takeStatus (x : Chan) (bs : List Byte) : Chan :=
  { x with
    act := wordAt bs 0x38, cur := wordAt bs 0x10 / 64 * 64, descs := bits (wordAt bs 0x18) 32 32, residue := bits (wordAt bs 0x18) 0 32
    bytes := wordAt bs 0x20, badCount := bits (wordAt bs 0x28) 32 32, reason := bits (wordAt bs 0x28) 24 8, fst := bits (wordAt bs 0x28) 16 8
    reg := if x.span.isSome then wordAt bs 0x30 else x.reg, lastSeal := if x.span.isSome then x.lastSeal else wordAt bs 0x30 }

/-- DMA_CONTEXT_LOADED (R217, R218, R253): the ChannelEntry read returns. A START that waited takes CUR from word 0x10. -/
def execDmaContextLoaded (p : Fin 4096) (c : Fin 256) (r : MemResult) (s : State) : Host.Outcome State Fault Refusal :=
  .next <|
    let x := chanOf s p c
    if !x.loading then s
    else
      let s := modChan s p c fun x => { x with loading := false }
      match r with
      | .failed why => haltEntry s p c why.code 64
      | .ok bs =>
        if x.kind == .start || x.kind == .waited then
          let s := modChan s p c fun x => { x with
            cur := if x.kind == .waited then wordAt bs 0x10 / 64 * 64 else x.cur
            descs := 0, residue := 0, bytes := 0, badCount := 0, reg := 0, lastSeal := 0,
            reason := bits (wordAt bs 0x28) 24 8, fst := bits (wordAt bs 0x28) 16 8 }
          if entryUnusable s p (wordAt bs 0) then haltEntry (modChan s p c fun x => { x with act := wordAt bs 0x38 }) p c 0xFF 0
          else
            let s := modChan s p c fun x => { x with act := wordAt bs 0 }
            if x.st == csRunning then descFetch s p c (chanOf s p c).cur none else s
        else
          let s := modChan s p c fun x => takeStatus x bs
          if x.st != csRunning then s
          else
            let cur := (chanOf s p c).cur
            match x.kind with
            | .kick => nextReread s p c cur 0
            | .resume => if x.resumeAt.isSome then descFetch s p c cur none else nextReread s p c cur 0
            | _ => descFetch s p c cur none

/-- The next pending channel of a quadrant after the last admitted (R218). -/
def nextPending (s : State) (q : Nat) : Option Nat :=
  let ks := ((quadChans s q).filter fun x => x.2.pending).map fun x => x.1
  match ks.find? fun k => decide ((quadOf s q).lastAdm < k + 1) with
  | some k => some k
  | none => ks.head?

/-- DMA_CONTEXT_ADMIT (R218). -/
def execDmaContextAdmit (q : Fin 4) (s : State) : Host.Outcome State Fault Refusal :=
  .next <|
    if !ctxFree s q || heldQ s q 3 then s
    else match nextPending s q with
      | none => s
      | some k =>
        let s := modChan (modQuad s q fun u => { u with lastAdm := k + 1 }) (k / 256) (k % 256) fun x =>
          { x with kind := if x.kind == .start then .waited else x.kind }
        chanLoad s (k / 256) (k % 256)

/-- A channel is at a Descriptor boundary (R218): nothing in flight, no record waiting, no read outstanding. -/
def atBoundary (x : Chan) : Bool :=
  x.resident && x.st == csRunning && !x.loading && x.fetch.isNone && x.reread.isNone && x.bursts.isEmpty && x.recs.isEmpty &&
    (match x.ds with | [d] => d.pos == 0 && !d.extWait && d.bad.isNone | _ => false)

/-- DMA_SLICE_EVICT (R218, R242, R253). -/
def execDmaSliceEvict (p : Fin 4096) (c : Fin 256) (s : State) : Host.Outcome State Fault Refusal :=
  .next <|
    let q := quadrantOf p
    let x := chanOf s p c
    let slice := getF s (F.DMA_CTRL_SLICE q)
    if slice != 0 && atBoundary x && decide (x.since + slice * 10 ≤ s.now) && (nextPending s q).isSome && memOpen s p && !heldQ s q 3 then
      match x.ds with
      | d :: _ =>
        let y := { x with cur := d.addr, ds := [], span := d.spanBefore }
        putChan (plotWrite s p (chanEntryAddr s p c + 0x10) (entryWords y)) p c { y with resident := false, pending := true, kind := .evicted }
      | [] => s
    else s

/-! ### Fetches -/

/-- The parts of a Descriptor from its 64 bytes. -/
def parseDesc (no addr : Nat) (bs : List Byte) : Desc :=
  { no := no, addr := addr, ctrl := wordAt bs 0, src := wordAt bs 8, dst := wordAt bs 0x10, nodes := wordAt bs 0x18,
    next := wordAt bs 0x20, xform := wordAt bs 0x28, user := wordAt bs 0x30 }

/-- An incrementing range passes the end of its space (R224). -/
def passesEnd (fab : Bool) (addr len : Nat) : Bool := decide (2 ^ (if fab then 56 else 64) < addr + len)

/-- The longest burst of a Descriptor with one side fixed, whose other side increments from `other`, or not (R227). -/
def longestBurst (burstMax len : Nat) (other : Option Nat) : Nat :=
  match other with
  | none => min burstMax len
  | some a => let n := min len (toPage a); max (min burstMax n) (min burstMax (len - n))

/-- A fixed side crosses a 4 KiB boundary (R224). -/
def fixedCrosses (addr burst : Nat) : Bool := decide (4096 < addr % 4096 + burst)

/-- The words of a Descriptor other than XFORM and NEXT are malformed (R224). -/
def descMalformed (d : Desc) (burstMax : Nat) : Bool :=
  let n := d.length
  bits d.ctrl 24 8 != 0 || bits d.ctrl 8 6 != 0 || bits d.ctrl 0 8 != 1 || bits d.nodes 52 12 != 0 || bits d.nodes 20 12 != 0 ||
    (!d.dstFab && d.dstNode != 0) || (!d.srcFab && d.srcNode != 0) ||
    (d.srcFab && decide (2 ^ 56 ≤ d.src)) || (d.dstFab && decide (2 ^ 56 ≤ d.dst)) ||
    (!d.srcFixed && passesEnd d.srcFab d.src n) || (!d.dstFixed && passesEnd d.dstFab d.dst n) ||
    (d.srcFixed && fixedCrosses d.src (longestBurst burstMax n (if d.dstFixed || d.weaveDst then none else some d.dst))) ||
    (d.dstFixed && fixedCrosses d.dst (longestBurst burstMax n (if d.srcFixed || d.weaveSrc then none else some d.src)))

/-- Put a decided Descriptor into the chain (R223). -/
def descAdd (s : State) (p c : Nat) (d : Desc) : State :=
  let s := modChan s p c fun x => { x with ds := x.ds ++ [d], nextNo := x.nextNo + 1, cur := if x.ds.isEmpty then d.addr else x.cur }
  chanGo s p c 3

/-- A Descriptor marked Bad at fetch: no data, RESIDUE is LENGTH (R248); an open span of it is broken or closed (R255). -/
def Desc.badAtFetch (d : Desc) (reason fst addr len : Nat) : Desc :=
  { d with bad := some { reason := reason, fst := fst, addr := addr, len := len }, failOff := some 0 }

/-- What marking a Descriptor Bad does to the channel's open span (R255); `plain` tells that its flags count for nothing. -/
def Chan.spanBad (x : Chan) (d : Desc) (plain : Bool) : Chan :=
  match x.span with
  | none => x
  | some _ => if d.sealEnd && !plain then { x.breakSpan with span := none } else x.breakSpan

/-- Take the place of the seal-span table in the decision (R255): the channel with the Descriptor in its span, or refused. -/
def spanDecide (x : Chan) (d : Desc) : Chan × Desc × Bool :=
  match x.span with
  | none =>
    if !d.seal then (x, d, false)
    else if !d.sealStart then (x, d, true)
    else ({ x with span := if d.sealEnd then none else some d.no, alg := d.ext.alg }, { d with span := some d.no, alg := d.ext.alg }, false)
  | some n =>
    if !d.seal || d.sealStart then ({ x.breakSpan with span := none }, d, true)
    else ({ x with span := if d.sealEnd then none else some n }, { d with span := some n, alg := x.alg }, false)

/-- Decide a transform request whose extension is at hand (R248, steps 3 and 4). A Descriptor that is resumed was decided before it halted. -/
def descSpan (s : State) (p c : Nat) (d : Desc) : State :=
  let x := chanOf s p c
  if x.resumeAt.isSome && !x.undecided then
    descAdd (putChan s p c { x with resumeAt := none, span := if d.sealEnd then none else x.span }) p c
      { d with span := if d.seal then x.span else none, alg := x.alg }
  else
    let (x', d', refused) := spanDecide { x with resumeAt := none, undecided := false } d
    let s := putChan s p c x'
    if refused then descAdd s p c (d'.badAtFetch 0x0D 0xFF 0 0) else descAdd s p c d'

/-- The residue point at which a resumed Descriptor goes on (R233). -/
def Desc.resumeFrom (d : Desc) (x : Chan) : Desc :=
  match x.resumeAt with
  | none => d
  | some off => { d with pos := min off d.length, start := min off d.length }

/-- DMA_DESCRIPTOR_FETCHED (R222 to R225, R248). -/
def execDmaDescriptorFetched (p : Fin 4096) (c : Fin 256) (r : MemResult) (s : State) : Host.Outcome State Fault Refusal :=
  .next <|
    let x := chanOf s p c
    match x.fetch with
    | none => s
    | some addr =>
      let s := modChan s p c fun x => { x with fetch := none }
      let named := x.from_.getD (addr, 0)
      let halt (s : State) (fst : Nat) (who : Nat × Nat) (res : Nat) : State :=
        chanHalt s p c ccFetch (some (dmaRecord 0x11 c { reason := 6, fst := fst, addr := addr, len := 64 } fst 6 addr res,
          some { desc := who.1, user := who.2, status := 3, reason := 6, fst := fst, residue := res, irq := false }))
      if !x.going then s
      else match r with
      | .failed why => halt s why.code named 0
      | .ok bs =>
        let d := (parseDesc x.nextNo addr bs).resumeFrom x
        let d := { d with spanBefore := x.span }
        if d.next % 64 != 0 then halt s 0xFF (addr, d.user) d.length
        else if descMalformed d x.burstMax then
          descAdd (modChan s p c fun x => { x.spanBad d true with resumeAt := none, undecided := false }) p c (d.badAtFetch 3 0xFF 0 0)
        else if (d.weave && !bitF s (F.PE_CAPS_WEAVE_EN p)) || (bits d.xform 2 3 != 0 && !bitF s (F.PE_CAPS_SEAL_EN p)) then
          descAdd (modChan s p c fun x => { x.spanBad d false with resumeAt := none, undecided := false }) p c (d.badAtFetch 5 0xFF 0 0)
        else if d.extNeeded && d.extAddr != 0 then
          emit (descAdd s p c { d with extWait := true }) (.extRead p d.extAddr d.weave)
        else if d.extNeeded || d.extAddr != 0 || bitOf d.xform 5 then
          descAdd (modChan s p c fun x => { x.spanBad d true with resumeAt := none, undecided := false }) p c (d.badAtFetch 3 0xFF 0 0)
        else descSpan s p c d

/-- A way from its two words. -/
def parseWay (bs : List Byte) (w : Nat) : Way :=
  { addr := wordAt bs (0x40 + 16 * w), node := if bitOf (wordAt bs (0x48 + 16 * w)) 63 then some (bits (wordAt bs (0x48 + 16 * w)) 0 20) else none }

/-- An extension from its bytes. -/
def parseExt (d : Desc) (bs : List Byte) : Ext :=
  let c := wordAt bs 0
  { elem := bits c 16 7, ways := if d.weave then (List.range (bits c 8 7)).map (parseWay bs) else [], alg := bits c 24 1, cont := bitOf c 25,
    sealAddr := wordAt bs 8, sealNode := if bitOf c 26 then some (bits (wordAt bs 0x10) 0 20) else none, seed := wordAt bs 0x18 }

/-- Bytes a Descriptor gives way w (R249). -/
def wayBytes (len elem ways w : Nat) : Nat :=
  let n := len / elem
  (n / ways + (if w < n % ways then 1 else 0)) * elem + (if n % ways == w then len % elem else 0)

/-- A way is malformed (R247): its two words and the bytes it is given. -/
def wayMalformed (a ctl n : Nat) : Bool :=
  let fab := bitOf ctl 63
  bits ctl 20 43 != 0 || (!fab && bits ctl 0 20 != 0) || (fab && decide (2 ^ 56 ≤ a)) || passesEnd fab a n

/-- The algorithm of the open span, if there is one. -/
def Chan.spanAlg (x : Chan) : Option Nat := x.span.map fun _ => x.alg

/-- A transform request is malformed (R247); `alg` is the algorithm of the open span. -/
def xformMalformed (d : Desc) (bs : List Byte) (alg : Option Nat) : Bool :=
  let c := wordAt bs 0
  let w (o : Nat) : Nat := wordAt bs o
  let ways := bits c 8 7
  let elem := bits c 16 7
  let a := if d.sealStart then some (bits c 24 1) else alg
  bitOf d.xform 5 || bits c 27 37 != 0 || bitOf c 23 || bitOf c 15 || w 0x20 != 0 || w 0x28 != 0 || w 0x30 != 0 || w 0x38 != 0 ||
    bits c 0 8 != 1 || bits (w 0x10) 20 44 != 0 || (d.weaveSrc && d.weaveDst) || (!d.seal && (d.sealStart || d.sealEnd)) ||
    (!d.sealEnd && (bitOf c 26 || w 8 != 0 || w 0x10 != 0)) || (!d.sealStart && (bits c 24 2 != 0 || w 0x18 != 0)) ||
    (if d.weave then
      decide (ways < 2) || decide (64 < ways) || decide (elem < 1) || decide (64 < elem) ||
        (d.weaveSrc && (d.src != 0 || d.srcNode != 0 || d.srcFab || d.srcFixed)) ||
        (d.weaveDst && (d.dst != 0 || d.dstNode != 0 || d.dstFab || d.dstFixed)) ||
        (List.range ways).any fun i => wayMalformed (w (0x40 + 16 * i)) (w (0x48 + 16 * i)) (wayBytes d.length (max elem 1) (max ways 1) i)
    else ways != 0 || elem != 0) ||
    (d.sealEnd && (a.any (fun g => w 8 % sealLen g != 0) || (bitOf c 26 && decide (2 ^ 56 ≤ w 8)) || (!bitOf c 26 && bits (w 0x10) 0 20 != 0)))

/-- Take the Descriptor that waits for its extension out of the chain. -/
def dropWaiting (x : Chan) : Chan := { x with ds := x.ds.filter fun d => !d.extWait }

/-- The extension arrives when its channel no longer follows its chain: a Descriptor that a halt cut stays undecided (R248), any other is dropped. -/
def extLate (x : Chan) : Chan :=
  { x with undecided := x.undecided || (x.ds.any fun d => d.extWait && d.cut),
           ds := (x.ds.filter fun d => !d.extWait || d.cut).map fun d => { d with extWait := false } }

/-- DMA_EXTENSION_FETCHED (R246 to R248). The one read of the extension brings its header and the ways that the header counts; the length of a read that
failed is a free value where the Descriptor weaves, since no header came. -/
def execDmaExtensionFetched (p : Fin 4096) (c : Fin 256) (r : MemResult) (s : State) : Host.Outcome State Fault Refusal :=
  .next <|
    let x := chanOf s p c
    match x.ds.find? fun d => d.extWait with
    | none => s
    | some d =>
      if !x.going then modChan s p c extLate
      else
        let s := modChan s p c dropWaiting
        let d := { d with extWait := false }
        match r with
        | .failed why =>
          let (v, s) := if d.weave then drawFree s else (0, s)
          let d := { d with extLen := if d.weave then 64 + 16 * (v % 63 + 2) else 64 }
          descAdd (modChan s p c fun x => { x.spanBad d false with resumeAt := none, undecided := false }) p c (d.badAtFetch 0x0B why.code d.extAddr d.extLen)
        | .ok bs =>
          let d := { d with ext := parseExt d bs }
          if xformMalformed d bs x.spanAlg then
            descAdd (modChan s p c fun x => { x.spanBad d true with resumeAt := none, undecided := false }) p c (d.badAtFetch 3 0xFF 0 0)
          else descSpan s p c d

/-! ### Bursts (R227 to R232) -/

/-- The Descriptor whose burst is next. -/
def issuing (x : Chan) : Option Desc :=
  x.ds.find? fun d => !(d.pos == d.length && !d.extWait && d.bad.isNone)

/-- The next burst of a channel may issue its read (R230): `room` admits its first request. -/
def chanReady (s : State) (p : Nat) (x : Chan) (room : DReq → Bool) : Bool :=
  let q := quadrantOf p
  match issuing x with
  | none => false
  | some d =>
    let n := burstLen d x.burstMax
    x.st == csRunning && x.resident && x.recs.isEmpty && memOpen s p && d.bad.isNone && !d.cut && !d.extWait &&
      decide (x.bursts.length < getF s (F.DMA_CTRL_CHAN_OUT q)) && (!d.fence || d.pos != d.start || x.bursts.isEmpty) &&
      decide (getF s (F.DMA_BUF_USED q) + (n + 63) / 64 ≤ 8192) && txAdmits s p && x.nextRead.isNone && (readReqs d d.pos n).head?.all room

/-- The priority level of a channel (R56, R230). -/
def chanLevel (s : State) (p : Nat) (x : Chan) : Nat := max x.prio (getF s (F.PE_SHARE_DMA_PRIO_CEIL p))

/-- The ready channels of a quadrant at a level. -/
def readyAt (s : State) (q lvl : Nat) (room : Nat → DReq → Bool) : List Nat :=
  ((quadChans s q).filter fun x => chanLevel s (x.1 / 256) x.2 == lvl && chanReady s (x.1 / 256) x.2 (room (x.1 / 256))).map fun x => x.1

/-- The channel the scheduler serves (R230): the first level with a ready channel, round-robin within it. -/
def schedule (s : State) (q : Nat) (room : Nat → DReq → Bool) : Option (Nat × Nat) :=
  (List.range 16).findSome? fun lvl =>
    let ks := readyAt s q lvl room
    let last := mget (quadOf s q).dmaLast lvl 0
    (match ks.find? fun k => decide (last < k + 1) with | some k => some k | none => ks.head?).map fun k => (lvl, k)

/-- Issue the next burst of a channel: of its reads, those that can be sent; the others wait at the channel (R132). -/
def burstIssue (s : State) (p c : Nat) (d : Desc) (turn : Bool) : State :=
  let x := chanOf s p c
  let n := burstLen d x.burstMax
  let rs := readReqs d d.pos n
  let ws := writeReqs d d.pos n
  let id := x.nextNo
  let b : Burst := { id := id, desc := d.no, off := d.pos, len := n, reads := rs, writes := ws, attrs := d.attrs }
  match burstRefused s p rs ws with
  | some r =>
    let f : DFail := { reason := 4, fst := 0x25, addr := r.addr, len := r.len, node := r.node, burst := id }
    chanGo (putChan (fenceRefused s) p c ({ x with nextNo := id + 1 }.failBurst b f)) p c 3
  | none =>
    let s := putChan s p c { x with nextNo := id + 1, bursts := x.bursts ++ [b],
                                    ds := x.ds.map fun y => if y.no == d.no then { y with pos := y.pos + n } else y }
    fetchAhead (chanSend s p c false turn (if turn then 1 else 64)) p c

/-- Issue the burst that the scheduler chooses, if it chooses one. -/
def burstNext (s : State) (q : Nat) (turn : Bool) : Option State :=
  match schedule s q fun p r => reqMay s p false turn r with
  | none => none
  | some (lvl, k) =>
    (issuing (chanOf s (k / 256) (k % 256))).map fun d =>
      burstIssue (modQuad s q fun u => { u with dmaLast := mput u.dmaLast lvl (k + 1) }) (k / 256) (k % 256) d turn

/-- A channel would be ready but for an entry, and the pool of read entries is empty (R132). -/
def burstWaits (s : State) (q : Nat) : Bool := poolEmpty s q false && (schedule s q fun _ r => r.node.isSome).isSome

/-- DMA_BURST_ISSUE (R230): the scheduler of a quadrant issues one burst read, while the quadrant's clocks run (R33). A wait on an empty pool is noted
(R132). -/
def execDmaBurstIssue (q : Fin 4) (s : State) : Host.Outcome State Fault Refusal :=
  .next <|
    if heldQ s q 3 || !quadRuns s q then s
    else match burstNext s q false with
      | some s => s
      | none => if burstWaits s q then poolShort (modQuad s q fun u => { u with dmaWait := true }) q else s

/-- The writes of a burst whose data is whole are issued, in their order (R228, R229, R250 to R252). -/
def burstWrite (s : State) (p c : Nat) (d : Desc) (b : Burst) : State :=
  let data := burstBytes d b
  let ws := (b.writes.zip (writeData d b data)).map fun x => { x.1 with data := [(0, x.2)] }
  let x := sealTake (chanOf s p c) d b data
  let s := putChan s p c { x with bursts := x.bursts.map fun y => if y.id == b.id then { y with written := true, writes := ws } else y }
  chanSend s p c true false 64

/-- DMA_BURST_READ_DONE: the next burst in the write order has its data; its writes are issued once those before them have been sent. -/
def execDmaBurstReadDone (p : Fin 4096) (c : Fin 256) (s : State) : Host.Outcome State Fault Refusal :=
  .next <|
    let x := chanOf s p c
    match x.bursts.find? fun b => !b.written && !b.readFailed with
    | none => s
    | some b =>
      match x.ds.find? fun d => d.no == b.desc with
      | none => s
      | some d =>
        if !b.whole || !memOpen s p || dmaHeld s p || x.nextWrite.isSome || !quadRuns s (quadrantOf p) then s
        else burstWrite s p c d b

/-- A burst has retired: its writes are all answered, or a read failed and the others are answered. -/
def Burst.retired (b : Burst) : Bool :=
  if b.written then b.writes.all fun w => w.left == 0 else b.readFailed && b.reads.all fun r => r.left == 0 || !r.sent

/-- DMA_BURST_WRITE_DONE (R229, R232): a burst retires; Descriptors whose writes have all retired OK finish. -/
def execDmaBurstWriteDone (p : Fin 4096) (c : Fin 256) (s : State) : Host.Outcome State Fault Refusal :=
  .next <|
    let x := chanOf s p c
    match x.bursts.find? Burst.retired with
    | none => s
    | some b =>
      let ok := b.written && !(b.writes.any fun w => w.bad.isSome)
      let x := { x with bursts := x.bursts.filter fun y => y.id != b.id, bytes := if ok then (x.bytes + b.len) % 2 ^ 64 else x.bytes }
      let s := putChan s p c x
      let s := if ok then bumpBy s (F.DMA_BYTES_BYTES (quadrantOf p)) b.len else s
      chanGo s p c 3

/-- DMA_BAD_PROCEDURE (R233, R234): the head Descriptor has failed and its issued bursts have retired. -/
def execDmaBadProcedure (p : Fin 4096) (c : Fin 256) (s : State) : Host.Outcome State Fault Refusal :=
  .next <|
    let x := chanOf s p c
    match x.ds with
    | [] => s
    | d :: _ =>
      match d.bad with
      | none => s
      | some f =>
        if d.cut || d.extWait || x.live d || x.st == csStalled || !x.recs.isEmpty && !x.held || dmaHeld s p then s
        else
          let res := d.residue
          let s := modChan s p c fun x =>
            let x := popDesc x
            let x := match d.span with
              | none => x
              | some n => { x with broken := if x.broken.contains n then x.broken else x.broken ++ [n],
                                   span := if d.sealEnd && x.span == some n then none else x.span }
            { x with badCount := min (x.badCount + 1) (2 ^ 32 - 1) }
          let s := countDesc s p c
          let s := dmaEvent (bump s (F.DMA_COUNT_BAD (quadrantOf p))) p F.DMA_EVENT_BAD
          let s := closeDesc s p c d 1 f.reason f.fst res 0x10
          let x := chanOf s p c
          if x.haltOnBad && (x.going || (x.halting && x.cause == ccBadStop)) then
            let last := (dmaRecord 0x11 c f f.fst f.reason d.addr res,
              some { desc := d.addr, user := d.user, status := 3, reason := f.reason, fst := f.fst, residue := res, irq := false : CRec })
            let k := x.cq
            cqShow (modChan s p c fun x => { x with
              st := if x.st == csStalled then csStalled else csHalting, back := csHalting, cause := ccBadStop, last := some last, cur := d.addr, after := .none,
              ds := x.ds.map fun e => { e with cut := true } }) p k
          else
            let s := modChan s p c fun x => { x with after := .follow d.next d.addr d.user, cur := match x.ds with | [] => d.addr | e :: _ => e.addr }
            chanGo (chanFollow s p c) p c 3

/-- DMA_NEXT_REREAD_DONE (R218, R222, R225, R242). -/
def execDmaNextRereadDone (p : Fin 4096) (c : Fin 256) (r : MemResult) (s : State) : Host.Outcome State Fault Refusal :=
  .next <|
    let x := chanOf s p c
    match x.reread with
    | none => s
    | some (addr, user) =>
      let s := modChan s p c fun x => { x with reread := none }
      let halt (s : State) (fst : Nat) : State :=
        chanHalt s p c ccFetch (some (dmaRecord 0x11 c { reason := 6, fst := fst, addr := addr, len := 64 } fst 6 addr 0,
          some { desc := addr, user := user, status := 3, reason := 6, fst := fst, residue := 0, irq := false }))
      if x.st != csRunning then s
      else match r with
      | .failed why => halt s why.code
      | .ok bs =>
        let next := wordAt bs 0
        if next % 64 != 0 then halt s 0xFF
        else if next != 0 then descFetch s p c next (some (addr, user))
        else if x.rearm then nextReread s p c addr user
        else chanPark (modChan s p c fun x => { x with st := csIdle, cause := 0, cur := addr }) p c

/-! ### Queues -/

/-- Nothing a channel has issued is still out. -/
def Chan.quiet (x : Chan) : Bool :=
  !x.loading && x.fetch.isNone && x.reread.isNone && x.bursts.isEmpty && !(x.ds.any fun d => d.extWait)

/-- What follows once a waiting record of a channel is appended (R222). An ABORT that waited for it finds no Descriptor in progress where the next has
started no burst: the channel is Idle (R235). -/
def chanUnstall (s : State) (p c : Nat) : State :=
  let x := chanOf s p c
  if !x.recs.isEmpty then s
  else if x.held then chanRelease s p c
  else if x.after == .ending then chanEnded s p c
  else if x.abortPend && x.st == csRunning then
    if x.quiet && x.ds.all fun d => d.bad.isNone && d.pos == d.start then
      let last := match x.after with | .follow _ addr _ => addr | _ => x.cur
      let s := chanAbort (modChan s p c fun x => { x with abortPend := false, ds := [], cur := last }) p c
      chanEnded (modChan s p c fun x => { x with after := .ending }) p c
    else chanGo (chanAbort (modChan s p c fun x => { x with abortPend := false }) p c) p c 3
  else chanGo (chanFollow s p c) p c 3

/-- Append the waiting records of a queue, in the order the channels stalled, while there is room (R238). -/
def cqFlush (s : State) (p k : Nat) : Nat → State
  | 0 => s
  | n + 1 =>
    match (cqOf s p k).order with
    | [] => s
    | c :: _ => if cqFull s p k || !memOpen s p then s else cqFlush (chanUnstall (cqTry s p c 8) p c) p k n

/-- DMA_STALL_RELEASE (R222, R238, R239). -/
def execDmaStallRelease (p : Fin 4096) (k : Fin 16) (s : State) : Host.Outcome State Fault Refusal :=
  .next (if dmaHeld s p then s else cqFlush s p k 256)

/-- CQ_HEAD_WRITE (R239, R240): `value` is the word written. -/
def execCqHeadWrite (p : Fin 4096) (k : Fin 16) (v : Word) (s : State) : Host.Outcome State Fault Refusal :=
  .next <|
    if pageDead s p then s
    else
      let s := setF (setF s (F.PP_CQ_HEAD_CONS p k) (bits v.toNat 0 16)) (F.PP_CQ_HEAD_PHASE p k) (bits v.toNat 16 1)
      let s := modCq s p k fun y => { y with vecSent := false }
      if dmaHeld s p then s else cqFlush s p k 256

/-! ### Ends of halts and aborts (R222, R234, R235) -/

/-- The Descriptor that a halt or an abort cut, once everything before it is closed. -/
def cutHead (x : Chan) : Option Desc := match x.ds with | [d] => if d.cut then some d else none | _ => none

/-- Close the Descriptor that an abort cut (R235, R243). -/
def abortClose (s : State) (p c : Nat) (d : Desc) : State :=
  let f := d.bad.getD { reason := 0x0A, fst := 0xFF }
  closeDesc (countDesc s p c) p c d 2 f.reason f.fst d.residue 0x12

/-- Close the Descriptor that a halt cut (R241): finished where all of it retired OK, which ends a span that it ends (R255); else to be resumed at its
residue point. Where the halt ends an abort in progress, it completes as an abort, and a RESUME decides it anew. -/
def haltClose (s : State) (p c : Nat) (d : Desc) : State :=
  let x := chanOf s p c
  if x.cause != ccHost then s
  else if x.aborted then
    abortClose (modChan s p c fun x => { x with resumeAt := some (d.length - d.residue), undecided := true }) p c d
  else if d.residue == 0 && (!d.sealEnd || d.sealIssued) && d.bad.isNone && !x.undecided then
    closeDesc (countDesc (modChan s p c fun x => { keepSeal x d with resumeAt := none, span := if d.sealEnd then none else x.span }) p c) p c d 0 0 0xFF 0 0
  else
    closeDesc (modChan s p c fun x => { x with resumeAt := some (d.length - d.residue), span := if x.undecided then x.span else d.span }.breakSpan) p c d
      4 9 0x24 d.residue 0

/-- The reports at the end of a halt (R234). -/
def haltReport (s : State) (p c : Nat) (last : Option (FaultRec × Option CRec)) : State :=
  match last with
  | none => s
  | some (f, r) =>
    let s := modChan s p c fun x => { x with last := none, reason := bits f.detail 8 8, fst := f.status,
                                             residue := if bits f.detail 96 32 == 0 then x.residue else bits f.detail 96 32 }
    let s := faultCreate s p f
    match r with
    | none => s
    | some r => cqPut s p c r

/-- The bursts of a channel that ends a halt or an abort have retired, and what comes before its end is closed. -/
def endReady (s : State) (p : Nat) (x : Chan) : Bool :=
  x.quiet && (x.ds.isEmpty || (cutHead x).isSome) && x.after != .ending && (x.recs.isEmpty || x.held) && !dmaHeld s p

/-- DMA_HALT_COMPLETE (R222, R234, R241, R255). -/
def execDmaHaltComplete (p : Fin 4096) (c : Fin 256) (s : State) : Host.Outcome State Fault Refusal :=
  .next <|
    let x := chanOf s p c
    if x.st != csHalting || !endReady s p x then s
    else
      let s := modChan s p c fun x => { x.breakSpan with after := .ending, ds := [] }
      let s := match cutHead x with | none => s | some d => haltClose s p c d
      let s := dmaEvent (bump s (F.DMA_COUNT_HALTS (quadrantOf p))) p F.DMA_EVENT_HALT
      chanEnded (haltReport s p c x.last) p c

/-- DMA_ABORT_COMPLETE (R222, R235, R242, R243, R255). -/
def execDmaAbortComplete (p : Fin 4096) (c : Fin 256) (s : State) : Host.Outcome State Fault Refusal :=
  .next <|
    let x := chanOf s p c
    if x.st != csAborting || !endReady s p x then s
    else
      let s := modChan s p c fun x => { x with after := .ending, undecided := false, ds := [] }
      chanEnded (match cutHead x with | none => s | some d => abortClose s p c d) p c

/-! ### Turns at the Ledger (R132) -/

/-- The next request of the cluster has its turn: one that waits at its channel, a write first, or else the burst of the scheduler. -/
def dmaTurn (s : State) (q : Nat) : Option State :=
  let may (wr : Bool) (x : Nat × Chan) : Bool :=
    ((if wr then x.2.nextWrite else x.2.nextRead).map fun y => reqMay s (x.1 / 256) wr true y.2.2).getD false
  let go (wr : Bool) : Option State := ((quadChans s q).find? (may wr)).map fun x => chanSend s (x.1 / 256) (x.1 % 256) wr true 1
  (go true).or ((go false).or (burstNext s q true))

/-- Who may have the next Ledger entry: the DMA cluster, or a plot. -/
inductive Turn where
  | plot (p : Nat)
  | dma
  deriving DecidableEq, Repr

/-- The plots of a quadrant that wait for a Ledger entry. -/
def waitingPlots (s : State) (q : Nat) : List Nat :=
  (s.plots.filter fun x => quadrantOf x.1 == q && (x.2.matched.isSome || x.2.passing.isSome)).map fun x => x.1

/-- The turns of a quadrant, the cluster's after the last plot's (R132). -/
def turnsOf (s : State) (q : Nat) : List Turn :=
  let last := (quadOf s q).lastPlot
  let ps := waitingPlots s q
  let after := (ps.filter fun p => decide (last < p)).map Turn.plot
  let before := (ps.filter fun p => decide (p ≤ last)).map Turn.plot
  if heldQ s q 3 || !quadRuns s q then after ++ before else after ++ Turn.dma :: before

/-- Serve the first turn of a list that can have an entry. -/
def turnServe (s : State) (q : Nat) : List Turn → Option State
  | [] => none
  | .plot p :: ts =>
    match grantPick s q p with
    | some m => some (pullHeld (ledgerGrant s p m) p)
    | none => turnServe s q ts
  | .dma :: ts =>
    match dmaTurn s q with
    | some s => some (modQuad s q fun u => { u with lastPlot := q * 1024 + 1023 })
    | none => turnServe s q ts

/-- No requester waits any more since the pool was empty (R132): entries may again be had out of turn. -/
def shortEnd (s : State) (q : Nat) : State :=
  let dma := (quadOf s q).dmaWait && (poolEmpty s q true || poolEmpty s q false || (dmaTurn s q).isSome)
  if dma || (waitingPlots s q).any fun p => poolWait s q p || (grantPick s q p).isSome then s
  else modQuad s q fun u => { u with short := false, dmaWait := false }

/-- LEDGER_ENTRY_GRANT (R132): the next requester in turn that can have an entry gets one; a wait on an empty pool is noted. -/
def execLedgerEntryGrant (q : Fin 4) (s : State) : Host.Outcome State Fault Refusal :=
  .next <|
    if heldQ s q 2 || !quadRuns s q then s
    else
      let s := if (waitingPlots s q).any (poolWait s q) then poolShort s q else s
      shortEnd ((turnServe s q (turnsOf s q)).getD s) q

end Sys2Proof.Machine
end

