-- ==== Sys2Proof/Machine/Mailbox.lean ====
section
/-!
DEFINITION. The mailboxes (R387 to R391) and the management receive queue of unit 0 (R345, R392), with their commands.
-/
namespace Sys2Proof.Machine

/-! ### Byte memory -/

/-- The byte at an address of the Gardener's private space that is memory (R375). -/
def memByte (s : State) (a : Nat) : Byte := mget s.mem a 0

/-- Write one byte. -/
def memPut (s : State) (a : Nat) (b : Byte) : State := { s with mem := mset s.mem a b 0 }

/-- Write bytes from an address on. -/
def memWrite (s : State) (a : Nat) : List Byte → State
  | [] => s
  | b :: bs => memWrite (memPut s a b) (a + 1) bs

/-- Read n bytes from an address on. -/
def memRead (s : State) (a n : Nat) : List Byte := (List.range n).map fun i => memByte s (a + i)

/-- Clear a range of addresses: what lies in it reads 0 (R477). -/
def memClear (s : State) (lo n : Nat) : State := { s with mem := s.mem.filter fun x => decide (x.1 < lo) || decide (lo + n ≤ x.1) }

/-! ### Slots (R387, R388) -/

/-- The Gardener's address of a byte of a plot's mailbox (R375). -/
def mbxAddr (p off : Nat) : Nat := 0x40000000 + 4096 * p + off

/-- Slots of plot p that the Gardener owns. -/
def mbxOwn (s : State) (p : Nat) : Nat := getF s (F.MBX_PEND_OWN p)

/-- Set who owns the slots of a plot, in every register that shows it. -/
def setMbxOwn (s : State) (p n : Nat) : State := setF (setF (setF s (F.MBX_PEND_OWN p) n) (F.PP_MBX_OWN_GDN p) n) (F.PP_MBX_DB_SLOT p) n

/-- Set the PEND bits of a plot; its bit of MBX_GPEND follows, and raises its source when it becomes 1 (R376, R391). -/
def setMbxPend (s : State) (p n : Nat) : State :=
  let s := setF s (F.MBX_PEND_SLOT p) n
  let g := getF s (F.MBX_GPEND_PLOTS (p / 32))
  if n == 0 then setF s (F.MBX_GPEND_PLOTS (p / 32)) (clrBit g (p % 32))
  else if bitOf g (p % 32) then s
  else raise (setF s (F.MBX_GPEND_PLOTS (p / 32)) (setBit g (p % 32))) (1024 + p / 32)

/-- The bits of a 16-bit mask. -/
def maskBits (m : Nat) : List Nat := (List.range 16).filter fun i => bitOf m i

/-- An event of the mailbox block (R376). -/
def mbxEvent (s : State) (f : Fld) : State := setEv s f 1153

/-- Send the mailbox vector of a plot if it has not been sent since the last write of PP_MBX_DONE; one that the plot's state keeps from being
sent counts as not sent (R390). -/
def mbxVector (s : State) (p : Nat) : State :=
  if (plotOf s p).mbxSent || dropByState s p (getF s (F.PE_EVENT_VEC_MBX_VEC p)) then s
  else reqVector (modPlot s p fun x => { x with mbxSent := true }) p (getF s (F.PE_EVENT_VEC_MBX_VEC p))

/-- The host rings doorbells (R387). -/
def mbxDoorbell (s : State) (p : Nat) : List Nat → State
  | [] => s
  | i :: is =>
    let s := if bitOf (mbxOwn s p) i then bump s (F.PP_MBX_COUNT_DB_IGNORED p)
      else
        let s := setMbxOwn s p (setBit (mbxOwn s p) i)
        let s := setF s (F.PP_MBX_DONE_SLOT p) (clrBit (getF s (F.PP_MBX_DONE_SLOT p)) i)
        setMbxPend s p (setBit (getF s (F.MBX_PEND_SLOT p)) i)
    mbxDoorbell s p is

/-- The Gardener returns slots (R387); the vector follows the DONE bits (R390). -/
def mbxReturn (s : State) (p : Nat) : List Nat → State
  | [] => s
  | i :: is =>
    let s := if bitOf (mbxOwn s p) i then
        let s := setMbxOwn s p (clrBit (mbxOwn s p) i)
        mbxVector (setF s (F.PP_MBX_DONE_SLOT p) (setBit (getF s (F.PP_MBX_DONE_SLOT p)) i)) p
      else mbxEvent s F.MBX_EVENT_RETURN_IGNORED
    mbxReturn s p is

/-- Cloche step 6 for the mailbox of a plot (R68, R387). -/
def mbxReset (s : State) (p : Nat) : State :=
  let s := memClear s (mbxAddr p 0) 4096
  let s := setF (setMbxPend (setMbxOwn s p 0) p 0) (F.PP_MBX_DONE_SLOT p) 0
  modPlot s p fun x => { x with mbxSent := false }

/-- An uncorrectable error in a slot (R31, R387). -/
def mbxStruck (s : State) (p i : Nat) : State :=
  let s := memClear s (mbxAddr p (256 * i)) 256
  let s := setMbxPend (setMbxOwn s p (clrBit (mbxOwn s p) i)) p (clrBit (getF s (F.MBX_PEND_SLOT p)) i)
  let s := mbxVector (setF s (F.PP_MBX_DONE_SLOT p) (setBit (getF s (F.PP_MBX_DONE_SLOT p)) i)) p
  mbxEvent s F.MBX_EVENT_ECC

/-- Write the bytes of an access that lie in slots its party owns; whether any did not (R388). -/
def mbxWrite (s : State) (p : Nat) (gdn : Bool) (off : Nat) : List Byte → State × Bool
  | [] => (s, false)
  | b :: bs =>
    let mine := bitOf (mbxOwn s p) (off / 256) == gdn && decide (off < 4096)
    let (s, bad) := mbxWrite (if mine then memPut s (mbxAddr p off) b else s) p gdn (off + 1) bs
    (s, bad || !mine)

/-- A read of slots: bytes of slots the party does not own read 0 (R388). -/
def mbxRead (s : State) (p : Nat) (gdn : Bool) (off n : Nat) : List Byte :=
  (List.range n).map fun i => if bitOf (mbxOwn s p) ((off + i) / 256) == gdn && decide (off + i < 4096) then memByte s (mbxAddr p (off + i)) else 0

/-- An access of the Gardener to memory that takes 1, 2, 4 or 8 bytes, naturally aligned (R375). -/
def coreShape (off n : Nat) : Bool := (n == 1 || n == 2 || n == 4 || n == 8) && off % n == 0

/-- A write access to mailbox slots by the host or the Gardener (R387, R388). One of the Gardener's that R375 does not allow ends with a bus error. -/
def mbxAccess (s : State) (p : Nat) (gdn : Bool) (off : Nat) (data : List Byte) : State :=
  if if gdn then !coreShape off data.length else pageDead s p then s
  else
    let (s, bad) := mbxWrite s p gdn off data
    if !bad then s
    else if gdn then mbxEvent s F.MBX_EVENT_NOT_OWNER
    else bump s (F.PP_MBX_COUNT_WR_IGNORED p)

/-- MAILBOX_DOORBELL (R387, R389). -/
def execMailboxDoorbell (p : Fin 4096) (m : BitVec 16) (s : State) : Host.Outcome State Fault Refusal :=
  .next (if pageDead s p then s else mbxDoorbell s p (maskBits m.toNat))

/-- MAILBOX_RETURN (R387, R389, R390). -/
def execMailboxReturn (p : Fin 4096) (m : BitVec 16) (s : State) : Host.Outcome State Fault Refusal :=
  .next (mbxReturn s p (maskBits m.toNat))

/-- MAILBOX_SLOT_ACCESS (R388): a write of `data` at `off` of the plot's mailbox by the Gardener or the host. A read changes nothing. -/
def execMailboxSlotAccess (p : Fin 4096) (gdn : Bool) (off : Fin 4096) (data : List Byte) (s : State) : Host.Outcome State Fault Refusal :=
  .next (mbxAccess s p gdn off data)

/-- MAILBOX_DONE_CLEAR (R390). -/
def execMailboxDoneClear (p : Fin 4096) (m : BitVec 16) (s : State) : Host.Outcome State Fault Refusal :=
  .next <|
    if pageDead s p then s
    else modPlot (setF s (F.PP_MBX_DONE_SLOT p) (clrBits (getF s (F.PP_MBX_DONE_SLOT p)) m.toNat)) p fun x => { x with mbxSent := false }

/-! ### The management receive queue (R345, R392) -/

/-- The code of a request's OP (R341). -/
def opCode : FabOp → Nat
  | .read => 0x10 | .signalRead => 0x11 | .write => 0x12 | .atomic => 0x13 | .hold => 0x14 | .release => 0x15 | .message => 0x16
  | .mgmtRead => 0x18 | .mgmtWrite => 0x19

/-- The 128 bits of a request header (R341). -/
def reqHeader (r : FabReq) : Nat :=
  let high := if r.op == .message then r.len * 2 ^ 48 + r.vdh * 2 ^ 16 + r.code else r.addr
  let lenm1 := if r.op == .message then 0 else r.len - 1
  high * 2 ^ 72 + lenm1 * 2 ^ 60 + r.tag * 2 ^ 44 + r.atop * 2 ^ 40 + bt r.poison 10 + bt r.holdFlag 9 + bt r.ordered 8 + opCode r.op

/-- Show the head of the queue in MBX_MQ_ENTRY and the payload of a Message behind it, and the entries in use in PGA_MGMT (R213, R391,
R392). -/
def mqShow (s : State) : State :=
  let s := setF s F.PGA_MGMT_USED s.mq.length
  match s.mq with
  | [] =>
    memClear (setF (setF (setF (setF (setF (setF (setF s F.MBX_MQ_ENTRY0_VALID 0) F.MBX_MQ_ENTRY0_SRC 0) F.MBX_MQ_ENTRY0_TENANT 0)
      F.MBX_MQ_ENTRY0_OP 0) F.MBX_MQ_ENTRY1_V 0) F.MBX_MQ_ENTRY2_V 0) F.MBX_MQ_ENTRY3_V 0) 0x3001B100 128
  | x :: _ =>
    let h := reqHeader x.req
    let s := setF (setF (setF s F.MBX_MQ_ENTRY0_VALID 1) F.MBX_MQ_ENTRY0_SRC x.req.src) F.MBX_MQ_ENTRY0_TENANT x.req.tenant
    let s := setF (setF (setF s F.MBX_MQ_ENTRY0_OP (opCode x.req.op)) F.MBX_MQ_ENTRY1_V (h / 2 ^ 64)) F.MBX_MQ_ENTRY2_V h
    memWrite (memClear (setF s F.MBX_MQ_ENTRY3_V (leNat (x.req.data.take 8))) 0x3001B100 128) 0x3001B100 (x.req.data.drop 8)

/-- A request or Message reaches the queue (R345): entered, or dropped and counted. -/
def mqArrive (s : State) (r : FabReq) : State :=
  if 256 ≤ s.mq.length then setEv (bump s F.PGA_MGMT_DROPS) F.PGA_EVENT_MGMT_DROP 1248
  else
    let s' := mqShow { s with mq := s.mq ++ [{ req := r, arrived := s.ticks }] }
    if s.mq.isEmpty then raise s' 1154 else s'

/-- A status that R343 allows for a request. -/
def statusAllowed (r : FabReq) (st : Nat) : Bool :=
  match st with
  | 0 | 2 | 5 => true
  | 1 => (r.op == .read || r.op == .atomic) && r.ordered
  | 3 => r.op != .release
  | 4 => r.op != .release
  | 6 => r.op == .read || r.op == .signalRead || r.op == .atomic || r.op == .write
  | _ => false

/-- Bytes of free values, for read data that no register carries (assumption 3). -/
def freeBytes (s : State) (n : Nat) : List Byte × State :=
  ((List.range n).map fun i => Config.freeByte (s.free + i), { s with free := s.free + n })

/-- Answer the head entry from unit 0 and remove it. -/
def mqAnswer (s : State) (r : FabReq) (st : Nat) (data : List Byte) : State :=
  mqShow (sendResponse { s with mq := s.mq.drop 1 } 16 .gardener r st data)

/-- A write of MBX_MQ_RESP (R392). -/
def mqRespond (s : State) (v : Nat) : State :=
  match s.mq with
  | [] => s
  | x :: xs =>
    let st := bits v 8 8
    if bitOf v 16 then mqShow { s with mq := xs }
    else if x.req.op == .message then s
    else if st == 0xFF && x.req.op == .mgmtRead && x.req.len == 8 && x.half.isNone then
      { s with mq := { x with half := some (bits v 32 32) } :: xs }
    else
      let st := if statusAllowed x.req st then st else 2
      if x.req.op == .mgmtRead then
        let v := if x.req.len == 8 then x.half.getD 0 + bits v 32 32 * 2 ^ 32 else bits v 32 32
        mqAnswer s x.req st (leBytes x.req.len v)
      else if x.req.op == .read || x.req.op == .signalRead || x.req.op == .atomic then
        let n := if x.req.op == .atomic && x.req.atop == 3 then x.req.len / 2 else x.req.len
        let (bs, s) := freeBytes s n
        mqAnswer s x.req st bs
      else mqAnswer s x.req st []

/-- MGMT_QUEUE_RESPOND (R392). -/
def execMgmtQueueRespond (v : Word) (s : State) : Host.Outcome State Fault Refusal := .next (mqRespond s v.toNat)

/-- MGMT_QUEUE_EXPIRE (R392): the head entry has waited for 900 us. -/
def execMgmtQueueExpire (s : State) : Host.Outcome State Fault Refusal :=
  .next <| match s.mq with
  | [] => s
  | x :: xs =>
    if x.arrived + 900 ≤ s.ticks then
      mbxEvent (if x.req.op == .message then mqShow { s with mq := xs } else mqAnswer s x.req 4 []) F.MBX_EVENT_MQ_EXPIRED
    else s

end Sys2Proof.Machine
end

