-- ==== Sys2Proof/Machine/Rake.lean ====
section
/-!
DEFINITION. The Rake (R183 to R192): arming, batches, sweeps and their answers, with its commands.
-/
namespace Sys2Proof.Machine

/-! ### Slots and batches (R187, R188) -/

/-- Period of a class in microseconds (R82, R187). -/
def classPeriod (c : Nat) : Nat := 10 ^ min c 4

/-- The 256-byte block of an address. -/
def rakeBlock (addr : Nat) : Nat := addr / 256 * 256

/-- The armed slots of a batch, with their keys. -/
def batchSlots (s : State) (p node block : Nat) : List (Nat × RakeSlot) :=
  s.rake.slots.filter fun x => x.1 / 64 == p && x.2.node == node && rakeBlock x.2.addr == block

/-- The period of a batch: the shortest class among its slots. -/
def batchPeriod (s : State) (b : Batch) : Nat :=
  (batchSlots s b.plot b.node b.block).foldl (fun n x => min n (classPeriod x.2.cls)) 10000

/-- When a batch is due: at once when it is formed, then one period after its last sweep was sent (R188). -/
def batchDue (s : State) (b : Batch) : Nat := match b.sent with | none => b.due | some t => t + batchPeriod s b

/-- Bring RAK_STATUS and the plot's PP_RAKE_STATUS.COUNT and PP_RAKE_ARMED up to date (R185, R192); DEMAND that rises above BUDGET sets
OVERRUN. -/
def rakeShow (s : State) (p : Nat) : State :=
  let old := getF s F.RAK_STATUS_DEMAND
  let d := ((s.rake.batches.filter fun b => !(batchSlots s b.plot b.node b.block).isEmpty).map fun b => 10000 / batchPeriod s b).sum
  let mine := s.rake.slots.filter fun x => x.1 / 64 == p
  let s := setF (setF s F.RAK_STATUS_DEMAND d) F.RAK_STATUS_WORDS s.rake.slots.length
  let s := setF (setF s (F.PP_RAKE_STATUS_COUNT p) mine.length) (F.PP_RAKE_ARMED_V p) ((mine.map fun x => 2 ^ (x.1 % 64)).sum)
  let b := getF s F.RAK_CTRL_BUDGET
  if decide (b < d) && decide (old ≤ b) then setEv s F.RAK_EVENT_OVERRUN 1244 else s

/-- The batch of one block. -/
def Batch.isAt (b : Batch) (p node block : Nat) : Bool := b.plot == p && b.node == node && b.block == block

/-- Form the batch of a slot if it is new: due at once (R188). A slot that joins a batch whose sweep is out takes no part in its answer; such a
batch with no slot left is formed anew, and waits for that answer. -/
def batchJoin (s : State) (p : Nat) (x : RakeSlot) : State × Bool :=
  let k := rakeBlock x.addr
  match s.rake.batches.find? fun b => b.isAt p x.node k with
  | some b =>
    if !(batchSlots s p x.node k).isEmpty then (s, b.outstanding)
    else ({ s with rake := { s.rake with batches := s.rake.batches.map fun c => if c.isAt p x.node k then { c with due := s.now, sent := none } else c } },
      b.outstanding)
  | none => ({ s with rake := { s.rake with batches := s.rake.batches ++ [{ plot := p, node := x.node, block := k, due := s.now }] } }, false)

/-- Drop the batches that have no slot and no SignalRead out. -/
def batchPrune (s : State) : State :=
  { s with rake := { s.rake with batches := s.rake.batches.filter fun b => b.outstanding || !(batchSlots s b.plot b.node b.block).isEmpty } }

/-- Take a slot out: it stops at once and its ARMED and PEND bits clear (R186). -/
def slotDisarm (s : State) (p i : Nat) : State :=
  let s := batchPrune { s with rake := { s.rake with slots := mdel s.rake.slots (p * 64 + i) } }
  rakeShow (setF s (F.PP_RAKE_PEND_V p) (clrBit (getF s (F.PP_RAKE_PEND_V p)) i)) p

/-- Arm a slot with its values, afresh. -/
def slotArm (s : State) (p i : Nat) (x : RakeSlot) : State :=
  let s := batchPrune { s with rake := { s.rake with slots := mdel s.rake.slots (p * 64 + i) } }
  let (s, out) := batchJoin s p x
  rakeShow { s with rake := { s.rake with slots := mput s.rake.slots (p * 64 + i) { x with fresh := true, stale := out } } } p

/-- Disarm every slot of a plot. -/
def slotsDisarm (s : State) (p : Nat) : State :=
  let is := (s.rake.slots.filter fun x => x.1 / 64 == p).map fun x => x.1 % 64
  is.foldl (fun s i => slotDisarm s p i) s

/-- The RAK_ block is held (R479). -/
def rakHeld (s : State) : Bool := bitF s F.RST_SOFT_RAK

/-! ### ARM (R186, R187) -/

/-- End a Rake command (R185). -/
def rakeEnd (s : State) (p slot result : Nat) : State :=
  setF (setF (setF s (F.PP_RAKE_STATUS_RESULT p) result) (F.PP_RAKE_STATUS_SLOT p) slot) (F.PP_RAKE_STATUS_BUSY p) 0

/-- Byte offset of the staged word of a slot. -/
def watchOff (s : State) (p i : Nat) : Nat := getF s (F.PP_RAKE_WATCH_OFFSET p i) * 8

/-- The staged fields of a slot, as ARM takes and checks them (R186). -/
def armStaged (s : State) (p i : Nat) : RakeSlot :=
  { bar4 := bitF s (F.PP_RAKE_WATCH_BAR p i), off := watchOff s p i, mask := getF s (F.PP_RAKE_MASK_V p i),
    mode := getF s (F.PP_RAKE_CTRL_MODE p i), vec := getF s (F.PP_RAKE_CTRL_VEC p i), win := 0, gen := 0, node := 0, addr := 0, cls := 0, fresh := true }

/-- A slot whose word matched a window: node, address, generation and period class are the window's (R187). -/
def RakeSlot.under (x : RakeSlot) (w : Nat) (l : Line) (e : WinEntry) : RakeSlot :=
  { x with win := w, gen := l.curGen, node := e.node, addr := e.tbase + (x.off - e.first), cls := e.pollClass }

/-- The last checks of ARM, once a window is at hand. A slot that fired before its ARM loses its PEND bit (DESIGN CHOICE, assumption 129). -/
def armMatched (s : State) (p i w : Nat) (x : RakeSlot) (l : Line) (e : WinEntry) : State :=
  let x := x.under w l e
  if l.fenced || !e.rdEn then rakeEnd s p i 4
  else if e.sideEffect || meetsSide s e.node x.addr (x.addr + 7) then rakeEnd s p i 5
  else
    let s := setF (slotArm s p i x) (F.PP_RAKE_PEND_V p) (clrBit (getF s (F.PP_RAKE_PEND_V p)) i)
    rakeEnd (setF s (F.PP_RAKE_LAST_V p i) 0) p i 0

/-- Look for the window of a slot's word; wait for a fill where its line is not in the cache (R87, R186). -/
def armTry (s : State) (p i : Nat) (x : RakeSlot) : State :=
  let wait (s : State) : State := modPlot s p fun y => { y with arm := some (i, x) }
  let s := modPlot s p fun x => { x with arm := none }
  if heldQ s (quadrantOf p) 1 then rakeEnd s p i 4
  else match findLine s p false x.bar4 x.off 8 with
    | some (w, l, e) =>
      let (s, l) := recheck s p w l e
      armMatched s p i w x l e
    | none =>
      match fillStart s p false with
      | (s, .waits) => wait s
      | (s, _) => rakeEnd s p i 4

/-- A Rake command is taken: it is ignored by a dead page, and counts as an overrun while another is in progress (R51, R185). -/
def rakeCmd (s : State) (p slot : Nat) (act : State → State) : State :=
  if plotState s p == psDisabled || plotState s p == psResetting then s
  else if bitF s (F.PP_RAKE_STATUS_BUSY p) then setF s (F.PP_RAKE_STATUS_OVERRUN p) 1
  else act (setF s (F.PP_RAKE_STATUS_SLOT p) slot)

/-- ARM (R186). -/
def rakeArm (s : State) (p i : Nat) : State :=
  let st := plotState s p
  if !(st == psServing || st == psHeld) then rakeEnd s p i 1
  else if getF s (F.PE_CAPS_RAKE_LIMIT p) ≤ i then rakeEnd s p i 2
  else if getF s (F.PP_RAKE_CTRL_MODE p i) == 3 || decide (getF s (F.PE_MSIX_VEC_COUNT p) ≤ getF s (F.PP_RAKE_CTRL_VEC p i)) then rakeEnd s p i 3
  else armTry (setF s (F.PP_RAKE_STATUS_BUSY p) 1) p i (armStaged s p i)

/-- RAKE_ARM. -/
def execRakeArm (p : Fin 4096) (i : Fin 64) (s : State) : Host.Outcome State Fault Refusal :=
  .next (rakeCmd s p i fun s => rakeArm s p i)

/-- RAKE_DISARM. -/
def execRakeDisarm (p : Fin 4096) (i : Fin 64) (s : State) : Host.Outcome State Fault Refusal :=
  .next (rakeCmd s p i fun s => rakeEnd (slotDisarm s p i) p i 0)

/-- RAKE_DISARM_ALL; `i` is the SLOT of the command word. -/
def execRakeDisarmAll (p : Fin 4096) (i : Fin 64) (s : State) : Host.Outcome State Fault Refusal :=
  .next (rakeCmd s p i fun s => rakeEnd (slotsDisarm s p) p i 0)

/-! ### Sweeps (R188 to R190) -/

/-- A slot's answer (R189). The one after an SRAM error raises no interrupt, whatever the mode (R31). -/
def slotAnswer (s : State) (p i : Nat) (x : RakeSlot) (v : Nat) : State :=
  let prev := if x.fresh then (if x.mode == 0 then v else 0) else getF s (F.PP_RAKE_LAST_V p i)
  let seen := if x.quiet then 0 else match x.mode with
    | 0 => Nat.land (Nat.xor v prev) x.mask
    | 1 => Nat.land (clrBits v prev) x.mask
    | _ => Nat.land v x.mask
  let pend := getF s (F.PP_RAKE_PEND_V p)
  let s := setF s (F.PP_RAKE_LAST_V p i) v
  let s := { s with rake := { s.rake with slots := mput s.rake.slots (p * 64 + i) { x with fresh := false, quiet := false } } }
  if seen != 0 && !bitOf pend i then reqVector (setF s (F.PP_RAKE_PEND_V p) (setBit pend i)) p x.vec else s

/-- A failed sweep's slot (R189). -/
def slotError (s : State) (p i : Nat) (x : RakeSlot) : State :=
  let e := getF s (F.PP_RAKE_ERR_V p)
  if bitOf e i then s else reqVector (setF s (F.PP_RAKE_ERR_V p) (setBit e i)) p x.vec

/-- Decide the slots of a batch. -/
def slotsAnswer (s : State) (p st : Nat) (data : List Byte) : List (Nat × RakeSlot) → State
  | [] => s
  | (k, x) :: xs =>
    let s := if x.stale then s
      else if st == 0 then slotAnswer s p (k % 64) x (wordAt data (x.addr % 256)) else slotError s p (k % 64) x
    slotsAnswer s p st data xs

/-- The answer to a SignalRead (R189), or its timeout: the batch is no longer outstanding. -/
def rakeAnswer (s : State) (tag st : Nat) (data : List Byte) : State :=
  match mfind s.unit0 tag with
  | some (.rake p node block) =>
    let s := { s with unit0 := mdel s.unit0 tag }
    let xs := (batchSlots s p node block)
    let s := batchPrune { s with rake := { s.rake with batches := s.rake.batches.map fun b => if b.isAt p node block then { b with outstanding := false } else b } }
    let s := if st == 0 then s else setEv (bump s F.RAK_COUNT_ERRORS) F.RAK_EVENT_ERROR 1244
    if plotState s p == psServing || plotState s p == psHeld then slotsAnswer s p st data xs else s
  | _ => s

/-- RAKE_SWEEP_TIMEOUT: no answer within RAK_CTRL.TIMEOUT (R189). -/
def execRakeSweepTimeout (tag : Nat) (s : State) : Host.Outcome State Fault Refusal := .next (rakeAnswer s tag 0x10 [])

/-- The earlier of two batches: due time, then plot (R188). -/
def batchBefore (s : State) (a b : Batch) : Bool :=
  decide (batchDue s a < batchDue s b) || (batchDue s a == batchDue s b && decide (a.plot ≤ b.plot))

/-- The first batch of a list in the order of R188. -/
def batchFirst (s : State) : List Batch → Option Batch
  | [] => none
  | b :: bs => match batchFirst s bs with
    | none => some b
    | some c => if batchBefore s b c then some b else some c

/-- The batches that may be sent now. -/
def batchesDue (s : State) : List Batch :=
  s.rake.batches.filter fun b => !b.outstanding && decide (batchDue s b ≤ s.now) && (plotState s b.plot == psServing || plotState s b.plot == psHeld)

/-- The issue rate allows a sweep (R188): spaced at least 10 ms / BUDGET, at most 512 outstanding. -/
def rakeRate (s : State) : Bool :=
  (match s.rake.lastSent with | none => true | some t => decide (10000 ≤ (s.now - t) * getF s F.RAK_CTRL_BUDGET)) &&
    decide ((s.rake.batches.filter fun b => b.outstanding).length < 512)

/-- A sweep that is sent more than one period late is a miss (R188, R190). Its record names the window of the batch's lowest slot (DESIGN CHOICE,
assumption 126). -/
def rakeMiss (s : State) (b : Batch) : State :=
  let period := batchPeriod s b
  if batchDue s b + period < s.now then
    let s := setEv (bump (bump s F.RAK_COUNT_MISSES) (F.PP_RAKE_MISS_V b.plot)) F.RAK_EVENT_MISS 1244
    let win := (batchSlots s b.plot b.node b.block).head?.map fun x => x.2.win
    faultRated s b.plot 0
      { code := 0x19, block := 4, addr := b.block, len := 256, node := some b.node, win := win, status := 0,
        detail := 0 } (s.now - batchDue s b - period)
  else s

/-- Send the SignalRead of a batch (R183, R187). One that is answered locally counts as a sweep too (DESIGN CHOICE, assumption 126). -/
def rakeSend (s : State) (b : Batch) : State :=
  let s := bump (rakeMiss s b) F.RAK_COUNT_SWEEPS
  let s := { s with rake := { s.rake with
    lastSent := some s.now
    batches := s.rake.batches.map fun c => if c == b then { c with outstanding := true, sent := some s.now } else c
    slots := s.rake.slots.map fun (x : Nat × RakeSlot) => if x.1 / 64 == b.plot && x.2.node == b.node && rakeBlock x.2.addr == b.block
      then (x.1, { x.2 with stale := false }) else x } }
  let tag := mfree s.unit0 0
  let s := { s with unit0 := mput s.unit0 tag (.rake b.plot b.node b.block) }
  let (s, rt) := routeOf s b.node (myNode s 0) (some b.plot)
  match rt with
  | .fail st => rakeAnswer s tag st []
  | rt => pgaPush (tagFix s b.plot) rt.pga 0 .rake
      { ingress := 17, txn := .req { op := .signalRead, dest := b.node, src := myNode s 0, tenant := tenantOf s b.plot, tag := tag,
                                     addr := b.block, len := 256 } }

/-- RAKE_SWEEP_SEND (R188). -/
def execRakeSweepSend (s : State) : Host.Outcome State Fault Refusal :=
  .next <|
    if rakHeld s || !rakeRate s then s
    else match batchFirst s (batchesDue s) with
      | none => s
      | some b => rakeSend s b

/-! ### Events that meet the Rake (R191) -/

/-- The window of a slot's word at a boundary: the line that matches, rechecked if it is marked (R96), or the committed entry `n` of window `k`
where it got no line. -/
def slotWindow (s : State) (p : Nat) (x : RakeSlot) (k : Nat) (n : WinEntry) : State × Option (Nat × Line × WinEntry) :=
  match findLine s p false x.bar4 x.off 8 with
  | some (w, l, e) => let (s, l) := recheck s p w l e; (s, some (w, l, e))
  | none => (s, if (lineOf s p k).isNone && entryMatches n false x.bar4 x.off 8 then some (k, { curGen := n.gen }, n) else none)

/-- A slot whose window k has changed to the entry n: translated again and afresh, or disarmed with its LOST bit (R191). -/
def slotRetranslate (s : State) (p k : Nat) (n : WinEntry) (i : Nat) (x : RakeSlot) : State :=
  let lost (s : State) : State :=
    let s := slotDisarm s p i
    reqVector (setF s (F.PP_RAKE_LOST_V p) (setBit (getF s (F.PP_RAKE_LOST_V p)) i)) p x.vec
  match slotWindow s p x k n with
  | (s, none) => lost s
  | (s, some (w, l, e)) =>
    let x := x.under w l e
    if l.fenced || !e.rdEn || e.sideEffect || meetsSide s e.node x.addr (x.addr + 7) then lost s else slotArm s p i { x with quiet := false }

/-- The match boundary of a window's commit: every slot in it (R191). -/
def rakeRetranslate (s : State) (p w : Nat) (e : WinEntry) : State :=
  (s.rake.slots.filter fun x => x.1 / 64 == p && x.2.win == w).foldl (fun s x => slotRetranslate s p w e (x.1 % 64) x.2) s

/-- Cloche step 3 for the Rake (R68, R191): slots disarmed, those of a Faulted plot too (DESIGN CHOICE, assumption 126), and no
answer is awaited by a slot. -/
def rakeCloche (s : State) (p : Nat) : State := modPlot (slotsDisarm s p) p fun x => { x with arm := none }

end Sys2Proof.Machine
end

