-- ==== Sys2Proof/Machine/Windows.lean ====
section
/-!
DEFINITION. The commands of chapter 03: fills, window commits, drain slots and prefetch entries.
-/
namespace Sys2Proof.Machine

/-! ### Banks (R90) -/

/-- A banked field: the host's bank stands 0x4000_0000 above the Gardener's. -/
def bankF (host : Bool) (f : Fld) : Fld := if host then { f with addr := f.addr + 0x40000000 } else f

/-- The staged WindowEntry of a bank; GEN and COMMIT_TIME there are ignored (R101). -/
def stagedWindow (s : State) (q : Nat) (host : Bool) : WinEntry :=
  { parseWindow ((List.range 8).flatMap fun k => leBytes 8 (getF s (bankF host (F.GRF_STAGE_V q k)))) with gen := 0, commitTime := 0 }

/-! ### Window commits (R91 to R95) -/

/-- End a commit with a RESULT. -/
def commitEnd (s : State) (q : Nat) (c : WinCommit) (result : Nat) : State :=
  let s := setF (setF s (bankF c.hostBank (F.GRF_WIN_STATUS_RESULT q)) result) (bankF c.hostBank (F.GRF_WIN_STATUS_BUSY q)) 0
  modQuad (tableDrop (tableDrop s q .commitRead) q .commitWrite) q fun x => { x with commit := none }

/-- The direction of a commit's window. -/
def WinCommit.dirIn (c : WinCommit) : Bool := decide (32 ≤ c.win)

/-- The first checks of R91, and the table read. -/
def commitBegin (s : State) (q : Nat) (c : WinCommit) : State :=
  let p := q * 1024 + c.index
  let st := plotState s p
  if !(st == psServing || st == psHeld || st == psFaulted) then commitEnd s q c 2
  else if !windowInUse s p c.win then commitEnd s q c 3
  else
    match tableRead s q .commitRead (windowAddr s p (dirBase c.dirIn)) (64 * windowCount s p c.dirIn) with
    | (s, true) => modQuad s q fun x => { x with commit := some { c with stage := .reading } }
    | (s, false) => commitEnd s q c 0xA

/-- Begin the next command of the quadrant's queue. -/
def commitNext (s : State) (q : Nat) : Nat → State
  | 0 => s
  | n + 1 =>
    match (quadOf s q).commit, (quadOf s q).commitQ with
    | none, c :: cs => commitNext (commitBegin (modQuad s q fun x => { x with commitQ := cs }) q c) q n
    | _, _ => s

/-- End a commit and begin the next. -/
def commitDone (s : State) (q : Nat) (c : WinCommit) (result : Nat) : State := commitNext (commitEnd s q c result) q 3

/-- The accepted entry goes to the table (R91). -/
def commitWrite (s : State) (q : Nat) (c : WinCommit) (e : WinEntry) : State :=
  let p := q * 1024 + c.index
  let e := { e with commitTime := max s.now 1 }
  match tableWrite s q .commitWrite (windowAddr s p c.win) (windowBytes e) with
  | (s, true) => modQuad s q fun x => { x with commit := some { c with stage := .writing e } }
  | (s, false) => commitDone s q c 0xA

/-- A commit that waited for a fill goes on once the fill has ended (R91, R95). -/
def commitResume (s : State) (q : Nat) : State :=
  match (quadOf s q).commit with
  | some c => match c.stage with
    | .ready e => if fillBusy s (q * 1024 + c.index) c.dirIn then s else commitWrite s q c e
    | _ => s
  | none => s

/-- A GRF_WIN_CMD of a bank (R90, R91, R101). -/
def winCmd (s : State) (q : Nat) (who : Party) (drain : Bool) (win index : Nat) : State :=
  let b := isHost who
  if !regOpen s who (A.GRF_WIN_CMD q) then s
  else if bitF s (bankF b (F.GRF_WIN_STATUS_BUSY q)) then
    raise (setF s (bankF b (F.GRF_WIN_STATUS_OVERRUN q)) 1) (1220 + q)
  else
    let s := setF (setF s (bankF b (F.GRF_WIN_STATUS_WINDOW q)) win) (bankF b (F.GRF_WIN_STATUS_INDEX q)) index
    let s := setF s (bankF b (F.GRF_WIN_STATUS_BUSY q)) 1
    commitNext (modQuad s q fun x => { x with commitQ := x.commitQ ++ [{ hostBank := b, index := index, win := win, drain := drain, staged := stagedWindow s q b }] }) q 3

/-- WINDOW_COMMIT. -/
def execWindowCommit (q : Fin 4) (who : Party) (w : Fin 64) (i : Fin 1024) (s : State) : Host.Outcome State Fault Refusal :=
  .next (winCmd s q who false w i)

/-- WINDOW_DRAIN_COMMIT. -/
def execWindowDrainCommit (q : Fin 4) (who : Party) (w : Fin 64) (i : Fin 1024) (s : State) : Host.Outcome State Fault Refusal :=
  .next (winCmd s q who true w i)

/-- A free drain slot (R94). -/
def freeSlot (s : State) (q : Nat) : Option Nat := (List.range 16).find? fun i => !bitF s (F.GRF_DRAIN_VALID q i)

/-- The entry overlaps a valid window of the half other than its own place (R91). -/
def overlapsHalf (e : WinEntry) (half : List WinEntry) (own : Nat) : Bool :=
  ((List.range half.length).zip half).any fun x => x.1 != own && x.2.valid && windowsOverlap e x.2

/-- The checks of R91 after the table read, in order: the RESULT of the first that fails. -/
def commitCheck (s : State) (q : Nat) (c : WinCommit) (e : WinEntry) (half : List WinEntry) : Option Nat :=
  let p := q * 1024 + c.index
  if windowMalformed e c.win then some 1
  else if windowOutOfRange e (barSize s p e.bar4) then some 4
  else if overlapsHalf e half (c.win % 32) then some 5
  else if e.valid && !c.dirIn && !windowFenceOk s p e then some 6
  else if e.valid && e.prefetch && windowSide s e then some 7
  else if (lineOf s p c.win).any fun l => l.prev != 0 then some 8
  else if c.drain && (freeSlot s q).isNone then some 9
  else none

/-- The table half of a commit has been read (R91): the entry that its bank held when the command was accepted is checked. -/
def commitHalf (s : State) (q : Nat) (c : WinCommit) (r : MemResult) : State :=
  let s := tableDrop s q .commitRead
  match r with
  | .failed why => commitDone (tableAer s q why) q c 0xA
  | .ok bs =>
    let half := parseWindows (windowCount s (q * 1024 + c.index) c.dirIn) bs
    match commitCheck s q c c.staged half with
    | some r => commitDone (if r == 6 then fenceRefused s else s) q c r
    | none =>
      let e := { c.staged with gen := ((half[c.win % 32]?.getD {}).gen + 1) % 65536 }
      commitResume (modQuad s q fun x => { x with commit := some { c with stage := .ready e } }) q

/-- WINDOW_COMMIT_READ_DONE (R91). -/
def execWindowCommitReadDone (q : Fin 4) (r : MemResult) (s : State) : Host.Outcome State Fault Refusal :=
  .next <| match (quadOf s q).commit with
  | none => s
  | some c => if c.stage != .reading || !tableTakes s q .commitRead r.isFailed then s else commitHalf s q c r

/-- Open a drain slot for the old generation (R94). -/
def openSlot (s : State) (q : Nat) (c : WinCommit) (gen prev : Nat) : State :=
  match freeSlot s q with
  | none => s
  | some i =>
    let s := setF (setF (setF s (F.GRF_DRAIN_VALID q i) 1) (F.GRF_DRAIN_DONE q i) 0) (F.GRF_DRAIN_RESET q i) 0
    let s := setF (setF (setF s (F.GRF_DRAIN_OLD_GEN q i) gen) (F.GRF_DRAIN_WINDOW q i) c.win) (F.GRF_DRAIN_INDEX q i) c.index
    let s := setF s (bankF c.hostBank (F.GRF_WIN_STATUS_SLOT q)) i
    drainCount s q prev [i]

/-- The new entry takes effect at the match boundary (R91, R93). A window that has no line, while all 4,096 are pinned, gets none: its next match
fills from the table, which holds the new entry (DESIGN CHOICE, assumption 120). -/
def commitBoundary (s : State) (q : Nat) (c : WinCommit) (e : WinEntry) : State :=
  let p := q * 1024 + c.index
  let s := pfDiscard s q 3 fun x => x.plot == p && x.win == c.win
  let s := pfTouch s q 3 fun x => x.plot == p && x.win == c.win
  let s := if e.valid then s else clearLatches s p (2 ^ c.win)
  let l := (lineOf s p c.win).getD {}
  let room := if (lineOf s p c.win).isSome then some s else lineRoom s q
  let s := match room with
    | none => s
    | some s => putLine s p c.win { l with entry := some e, prev := l.cur, prevGen := l.curGen, cur := 0, curGen := e.gen,
                                           fenced := false, marked := c.marked }
  let s := if c.drain then openSlot s q c ((e.gen + 65535) % 65536) l.cur else s
  let s := if c.dirIn then s else rakeRetranslate s p c.win e
  setF s (bankF c.hostBank (F.GRF_WIN_STATUS_GEN q)) e.gen

/-- Commits of a plot that have not written the table end ABANDONED (R95). -/
def commitAbandon (s : State) (p : Nat) : State :=
  let q := quadrantOf p
  let gone := (quadOf s q).commitQ.filter fun c => c.index == indexOf p
  let s := modQuad s q fun x => { x with commitQ := x.commitQ.filter fun c => c.index != indexOf p }
  let s := gone.foldl (fun s c => setF (setF s (bankF c.hostBank (F.GRF_WIN_STATUS_RESULT q)) 0xB)
    (bankF c.hostBank (F.GRF_WIN_STATUS_BUSY q)) 0) s
  match (quadOf s q).commit with
  | some c => if c.index == indexOf p then commitDone s q c 0xB else s
  | none => s

/-- Drain slots of a plot end with RESET (R95). -/
def slotsReset (s : State) (q : Nat) (hit : Nat → Bool) : List Nat → State
  | [] => s
  | i :: is =>
    let s := if bitF s (F.GRF_DRAIN_VALID q i) && !bitF s (F.GRF_DRAIN_DONE q i) && hit i
      then drainDone (setF s (F.GRF_DRAIN_RESET q i) 1) q i else s
    slotsReset s q hit is

/-- DRAIN_SLOT_FREE (R94, R101): a 1 written to DONE of a slot that is done frees it. -/
def execDrainSlotFree (q : Fin 4) (who : Party) (i : Fin 16) (s : State) : Host.Outcome State Fault Refusal :=
  .next <|
    if regOpen s who (A.GRF_DRAIN q i) && bitF s (F.GRF_DRAIN_DONE q i) then
      setF (setF s (F.GRF_DRAIN_DONE q i) 0) (F.GRF_DRAIN_VALID q i) 0
    else s

/-! ### Fills (R87, R88) -/

/-- A Rake ARM of a plot that waited for a fill goes on with the fields it took. -/
def armResume (s : State) (p : Nat) : State := match (plotOf s p).arm with | none => s | some (i, x) => armTry s p i x

/-- The plots of a quadrant whose ARM waits for a fill, or for one of the 64 fills to end. -/
def armPlots (s : State) (q : Nat) : List Nat := (s.plots.filter fun x => quadrantOf x.1 == q && x.2.arm.isSome).map fun x => x.1

/-- What follows the end of a fill of plot p: inbound requests that waited, a commit that waited, each ARM that waited. -/
def fillAfter (s : State) (p : Nat) : State :=
  let q := quadrantOf p
  let s := commitResume (missDrainAll s q (missPlots s q)) q
  (armPlots s q).foldl armResume s

/-- The table write of a commit has ended (R91): at the boundary the requests that waited for it go on. -/
def commitWritten (s : State) (q : Nat) (c : WinCommit) (e : WinEntry) (ok : Bool) : State :=
  fillAfter (if ok then commitDone (commitBoundary s q c e) q c 0 else commitDone s q c 0xA) (q * 1024 + c.index)

/-- WINDOW_COMMIT_BOUNDARY (R91): the table write has completed, or has failed. -/
def execWindowCommitBoundary (q : Fin 4) (ok : Bool) (s : State) : Host.Outcome State Fault Refusal :=
  .next <| match (quadOf s q).commit with
  | none => s
  | some c => match c.stage with
    | .writing e => if tableTakes s q .commitWrite (!ok) then commitWritten s q c e ok else s
    | _ => s

/-- The access a fill serves: the head of the plot's queue or, with none, the word of a waiting ARM; inbound, its first waiting request. -/
def fillSubject (s : State) (p : Nat) (dirIn : Bool) : Option (Bool × Nat × Nat) :=
  if dirIn then ((quadOf s (quadrantOf p)).missQ.find? fun x => x.plot == p).map fun x => (false, x.req.addr, x.req.len)
  else match (plotOf s p).queue with
    | r :: _ => some (r.bar4, r.off, r.len)
    | [] => (plotOf s p).arm.map fun a => (a.2.bar4, a.2.off, 8)

/-- A waiting ARM ends NO_WINDOW (R186). -/
def armNoWindow (s : State) (p : Nat) : State :=
  match (plotOf s p).arm with
  | none => s
  | some (i, _) => rakeEnd (modPlot s p fun x => { x with arm := none }) p i 4

/-- The request a fill served matches no window (R81, R84). -/
def fillNoMatch (s : State) (p : Nat) (dirIn : Bool) : State :=
  if dirIn then
    match missTake s (quadrantOf p) p with
    | none => s
    | some (s, x) => inAnswer s (quadrantOf p) p x.req 2 []
  else match (plotOf s p).queue with
    | [] => armNoWindow s p
    | r :: _ => refuseNoWindow (plotPop s p) p r

/-- A fill fails: every request of the plot and direction that waits takes the outcome (R87). -/
def fillFails (s : State) (p : Nat) (dirIn : Bool) : State :=
  let q := quadrantOf p
  let s := fillFailed (fillEnd s p dirIn) q
  let s := if dirIn then missFail s q p 3 256 else armNoWindow (fillFailOut s p) p
  fillAfter (pullHeld s p) p

/-- The table read of a fill has ended (R87, R88). -/
def fillRead (s : State) (p : Nat) (dirIn : Bool) (r : MemResult) : State :=
  let q := quadrantOf p
  match r with
  | .failed why => fillFails (tableAer s q why) p dirIn
  | .ok bs =>
    match fillSubject s p dirIn with
    | none => fillAfter (fillEnd s p dirIn) p
    | some (bar4, off, len) =>
      let (found, bad) := fillFind s p dirIn bar4 off len 0 (parseWindows (windowCount s p dirIn) bs)
      let s := if bad then setEv s (F.GRF_EVENT_FILL_FORMAT q) (1220 + q) else s
      match found with
      | none => fillAfter (fillNoMatch (fillEnd s p dirIn) p dirIn) p
      | some (w, e) => fillAfter (fillInstall s p dirIn w e false) p

/-- A fill is in its table read. -/
def fillReading (s : State) (p : Nat) (dirIn : Bool) : Bool := mfind (quadOf s (quadrantOf p)).fills (fillKey p dirIn) == some .reading

/-- WINDOW_FILL_DONE (R87, R88). -/
def execWindowFillDone (p : Fin 4096) (dirIn : Bool) (r : MemResult) (s : State) : Host.Outcome State Fault Refusal :=
  .next (if fillReading s p dirIn && tableTakes s (quadrantOf p) (.fill p dirIn) r.isFailed then fillRead s p dirIn r else s)

/-- WINDOW_FILL_TIMEOUT (R87): no answer within 1 ms. -/
def execWindowFillTimeout (p : Fin 4096) (dirIn : Bool) (s : State) : Host.Outcome State Fault Refusal :=
  .next (if fillReading s p dirIn then fillFails (tableAer s (quadrantOf p) .timeout) p dirIn else s)

/-- WINDOW_FILL_RESUME (R87): a line has unpinned. -/
def execWindowFillResume (p : Fin 4096) (dirIn : Bool) (s : State) : Host.Outcome State Fault Refusal :=
  .next <| match mfind (quadOf s (quadrantOf p)).fills (fillKey p dirIn) with
  | some (.stalled w e) => fillAfter (fillInstall s p dirIn w e true) p
  | _ => s

/-! ### Prefetch -/

/-- PREFETCH_LIFE_EXPIRE (R99): the entry at a place of the quadrant's buffer has reached its LIFE. While the quadrant's clocks are stopped it stays
until they run again (R461). -/
def execPrefetchLifeExpire (q : Fin 4) (place : Fin 64) (s : State) : Host.Outcome State Fault Refusal :=
  .next <| match (if quadRuns s q then (quadOf s q).pf[place.val]? else none) with
  | none => s
  | some e => pfReport (modQuad s q fun x => { x with pf := x.pf.eraseIdx place }) q 0 e

/-- Evict each plot's entries above PLOT_MAX (R101). -/
def pfTrim (s : State) (q : Nat) : List Nat → State
  | [] => s
  | p :: ps => pfTrim (pfEvict s q (fun x => x.plot == p)
      (fun es => decide (getF s (F.GRF_PF_CTRL_PLOT_MAX q) < (es.filter fun x => x.plot == p).length)) 64) q ps

/-- PREFETCH_CTRL_WRITE (R99, R101): an 8-byte write; a reserved PLOT_MAX keeps its field and is recorded (R12). -/
def execPrefetchCtrlWrite (q : Fin 4) (who : Party) (v : Word) (s : State) : Host.Outcome State Fault Refusal :=
  .next <|
    if !regOpen s who (A.GRF_PF_CTRL q) then s
    else
      let n := bits v.toNat 8 8
      let s := setF s (F.GRF_PF_CTRL_LIFE q) (bits v.toNat 0 8)
      if n == 0 || decide (64 < n) then formatRecord s who (A.GRF_PF_CTRL q)
      else
        let s := setF s (F.GRF_PF_CTRL_PLOT_MAX q) n
        pfTrim s q ((quadOf s q).pf.map fun x => x.plot).eraseDups

end Sys2Proof.Machine
end

