-- ==== Sys2Proof/Machine/Plots.lean ====
section
/-!
DEFINITION. The plot engine and Cloche (chapter 02): loads, commits, write-backs, the plot-set commit, refetches, and the reset of one plot, with
the commands of that chapter.
-/
namespace Sys2Proof.Machine

/-! ### Small operations -/

/-- Put every field of a list back to its reset value. -/
def resetFields (s : State) (fs : List Fld) : State := fs.foldl resetF s

/-- Put every register field in a range of addresses back to its reset value. -/
def cellsClear (s : State) (lo n : Nat) : State :=
  { s with cells := s.cells.filter fun x => decide (x.1 < lo * 64) || decide ((lo + n) * 64 ≤ x.1) }

/-- The plot-page staging of the Plot fields, each with the field it stages (R51). -/
def plotStagePairs (p : Nat) : List (Fld × Fld) :=
  [(F.PP_CHAN_TABLE_BASE p, F.PE_CHAN_TABLE_BASE p), (F.PP_CHAN_TABLE_EN p, F.PE_CHAN_TABLE_EN p),
   (F.PP_CHAN_TABLE_CHAN_HIGH p, F.PE_CHAN_TABLE_CHAN_HIGH p), (F.PP_FAULT_LOG_BASE p, F.PE_FAULT_LOG_BASE p),
   (F.PP_FAULT_LOG_SIZE p, F.PE_FAULT_LOG_SIZE p), (F.PP_FAULT_LOG_EN p, F.PE_FAULT_LOG_EN p),
   (F.PP_EVENT_VEC_MBX_VEC p, F.PE_EVENT_VEC_MBX_VEC p), (F.PP_EVENT_VEC_FAULT_VEC p, F.PE_EVENT_VEC_FAULT_VEC p)] ++
  (List.range 16).flatMap fun k => [(F.PP_CQ_BASE p k, F.PE_CQ_BASE p k), (F.PP_CQ_SIZE p k, F.PE_CQ_SIZE p k), (F.PP_CQ_EN p k, F.PE_CQ_EN p k),
    (F.PP_CQ_VEC p k, F.PE_CQ_VEC p k)]

/-- Empty the fault ring's pointers: PROD 0 and PHASE 1 on both sides, OVERFLOW clear, FAULT_VEC armed (R52, R63, R64). -/
def faultRingReset (s : State) (p : Nat) : State :=
  let s := resetFields s [F.PE_FAULT_PTR_PROD p, F.PE_FAULT_PTR_PHASE p, F.PE_FAULT_PTR_OVERFLOW p, F.PP_FAULT_CONS_CONS p, F.PP_FAULT_CONS_PHASE p]
  modPlot s p fun x => { x with vecSent := false }

/-- Put the Plot fields, their staging and the fault pointers of a plot back to their reset values (R68). -/
def plotSetReset (s : State) (p : Nat) : State :=
  let s := resetFields s ((plotSetFields p).map (fun x => x.1) ++ (plotStagePairs p).map fun x => x.1)
  let s := setHeld (faultRingReset s p) p []
  let s := cellsClear s (A.PP_CQ_HEAD p 0) 256
  modPlot s p fun x => { x with rates := [], cqs := [] }

/-- Discard a plot's window-cache lines and prefetch entries without any record (R89, R99). -/
def linesDiscard (s : State) (p : Nat) : State :=
  modQuad s (quadrantOf p) fun x => { x with lines := x.lines.filter fun l => l.1 / 64 != indexOf p }
def pfForget (s : State) (p : Nat) : State :=
  modQuad s (quadrantOf p) fun x => { x with pf := x.pf.filter fun e => e.plot != p }

/-- Copy the function's Bus Master Enable into STATUS.BME. -/
def bmeCopy (s : State) (p : Nat) : State := setB s (F.PE_STATUS_BME p) (funcOf s p).bme

/-! ### PLT_CMD (R65, R66) -/

/-- End the command in progress with a RESULT. -/
def pltResult (s : State) (q r : Nat) : State :=
  modQuad (setF (setF s (F.PLT_CMD_STATUS_RESULT q) r) (F.PLT_CMD_STATUS_BUSY q) 0) q fun x => { x with plt := none }

/-- End the command in progress if it is one of `ops` on plot p. -/
def pltEnd (s : State) (p : Nat) (ops : List Nat) (r : Nat) : State :=
  match (quadOf s (quadrantOf p)).plt with
  | some c => if c.index == indexOf p && ops.contains c.op then pltResult s (quadrantOf p) r else s
  | none => s

/-- LOCKED_IGNORED with its source. -/
def lockedIgnored (s : State) (q : Nat) : State := raise (setF s (F.PLT_CMD_STATUS_LOCKED_IGNORED q) 1) (1216 + q)

/-- The states in which a command is accepted (R66); LOAD is refused in Boot (R453). -/
def pltAccepts (boot : Bool) (op st : Nat) : Bool :=
  match op with
  | 1 => st == psDisabled && !boot
  | 2 => st == psServing || st == psHeld
  | 3 | 5 => st == psServing || st == psHeld || st == psFaulted
  | 4 => st == psLoading || st == psServing || st == psHeld || st == psFaulted
  | _ => false

/-- A write of PLT_CMD: the common part, then the command's own act on its plot. -/
def pltCmd (s : State) (q : Nat) (who : Party) (op index : Nat) (act : State → Nat → State) : State :=
  if !regOpen s who (A.PLT_CMD q) then s
  else if bitF s (F.PLT_CMD_STATUS_BUSY q) then setF s (F.PLT_CMD_STATUS_OVERRUN q) 1
  else
    let s := setF (setF s (F.PLT_CMD_STATUS_OP q) op) (F.PLT_CMD_STATUS_INDEX q) index
    let p := q * 1024 + index
    if !funcEnabled s p then pltResult s q 6
    else if !pltAccepts (pwmMode s == moBoot) op (plotState s p) then pltResult s q 3
    else act (modQuad (setF s (F.PLT_CMD_STATUS_BUSY q) 1) q fun x => { x with plt := some ⟨op, index⟩ }) p

/-! ### Loads (R54) -/

/-- A load that is still to end holds a VF back from R265. -/
def loadEnded (s : State) (p : Nat) : State :=
  modPort s (quadrantOf p) fun h => { h with vfLoading := h.vfLoading.filter fun i => i != indexOf p }

/-- A table read of plot p serves nothing any more. -/
def tableQuit (s : State) (p : Nat) : State :=
  let q := quadrantOf p
  tableDrop (tableDrop (tableDrop s q (.load p)) q (.commit p)) q (.refetch p)

/-- The plot keeps no entry: it is Disabled, which is written back (R47). STATUS and COUNTERS stand as they are for PP_STATE. -/
def plotDisable (s : State) (p : Nat) : State :=
  let s := if plotState s p == psDisabled then s else enterState s p psDisabled
  let s := resetFields (tableQuit s p) ((plotMemFields p).map fun x => x.1)
  modPlot s p fun x => { x with load := none, refetch := false, refetchBare := false, held := [], emu := [], arm := none }

/-- A load ends without an entry. -/
def loadFail (s : State) (p r : Nat) : State := pltEnd (loadEnded (plotDisable s p) p) p [1] r

/-- A load begins: the resident fields take their reset values (R49), the change of state is written back (R47), and the entry is read (R44). -/
def loadStart (s : State) (p : Nat) (o : LoadOrigin) : State :=
  let s := bmeCopy (resetFields (plotSetReset s p) ((plotStatusFields p).map fun x => x.1)) p
  let s := modPlot s p fun x => { queue := x.queue, wbBusy := x.wbBusy.map fun k => if k < 3 then k + 2 else k, wbLow := x.wbLow, mbxSent := x.mbxSent, cloche := x.cloche, load := some o }
  match tableRead (enterState s p psLoading) (quadrantOf p) (.load p) (entryAddr s p) 256 with
  | (s, true) => s
  | (s, false) => loadFail s p 2

/-- A load that AUTO or VF Enable starts: in Boot it waits for Serve (R453, R547). -/
def loadAuto (s : State) (p : Nat) : State :=
  if pwmMode s == moBoot then modPlot s p fun x => { x with autoWait := true } else loadStart s p .auto

/-- The loads that waited for Serve begin, where they are still to be made (R547). -/
def loadsResume (s : State) : State :=
  (s.plots.filter fun x => x.2.autoWait).foldl (fun s x =>
    let s := modPlot s x.1 fun y => { y with autoWait := false }
    if plotState s x.1 == psDisabled && funcEnabled s x.1 then loadStart s x.1 .auto else s) s

/-- Two vector ranges meet. -/
def rangesMeet (b c b' c' : Nat) : Bool := decide (b < b' + c') && decide (b' < b + c)

/-- The vector range of an entry fits (R54, R266). -/
def vectorsFit (s : State) (p base count : Nat) : Bool :=
  let q := quadrantOf p
  let own := (portOf s q).pf0Msix
  decide (base + count ≤ Config.msixPool) &&
    (if indexOf p == 0 then base == 0 && count == own
     else decide (own ≤ base) && (List.range 1024).all fun i =>
      let o := q * 1024 + i
      o == p || plotState s o == psDisabled || plotState s o == psLoading ||
        !rangesMeet base count (getF s (F.PE_MSIX_VEC_BASE o)) (getF s (F.PE_MSIX_VEC_COUNT o)))

/-- The state of a loaded plot by its Bus Master Enable (R54). -/
def stateByBme (s : State) (p : Nat) : Nat := if bmeOf s p then psServing else psHeld

/-- The entry is in effect: both buckets are full, the lines are discarded, and the plot serves (R54, R57, R59, R89). -/
def loadDone (s : State) (p : Nat) (bs : List Byte) : State :=
  let s := loadFields s bs (plotMemFields p)
  let s := modPlot s p fun x => { x with tx := rateDepth s p 0, rx := rateDepth s p 1, load := none }
  pltEnd (loadEnded (enterState (pfForget (linesDiscard s p) p) p (stateByBme s p)) p) p [1] 0

/-- The entry read of a load has ended. -/
def loadRead (s : State) (p : Nat) (r : MemResult) : State :=
  let s := tableDrop s (quadrantOf p) (.load p)
  match r with
  | .failed why => loadFail (tableAer s (quadrantOf p) why) p 2
  | .ok bs =>
    let v (f : Fld) (o : Nat) : Nat := fieldIn bs (f, o)
    if v (F.PE_CONTROL_VALID p) 0x10 == 0 then loadFail s p 7
    else if plotMalformed bs p then loadFail s p 1
    else if !vectorsFit s p (v (F.PE_MSIX_VEC_BASE p) 0x40) (v (F.PE_MSIX_VEC_COUNT p) 0x40) then loadFail s p 4
    else loadDone s p bs

/-- PLOT_LOAD (R54, R66). -/
def execPlotLoad (q : Fin 4) (who : Party) (i : Fin 1024) (s : State) : Host.Outcome State Fault Refusal :=
  .next (pltCmd s q who 1 i fun s p => loadStart s p .command)

/-- A load of the plot is in its entry read. -/
def loading (s : State) (p : Nat) : Bool := (plotOf s p).load.isSome && plotState s p == psLoading

/-- PLOT_LOAD_ENTRY_READ (R54). -/
def execPlotLoadEntryRead (p : Fin 4096) (r : MemResult) (s : State) : Host.Outcome State Fault Refusal :=
  .next (if loading s p && tableTakes s (quadrantOf p) (.load p) r.isFailed then loadRead s p r else s)

/-- PLOT_LOAD_TIMEOUT (R54): no answer within 1 ms, to the entry read of a load, or of a commit. -/
def execPlotLoadTimeout (p : Fin 4096) (s : State) : Host.Outcome State Fault Refusal :=
  .next <|
    if loading s p then loadRead s p (.failed .timeout)
    else if tableAsked s (quadrantOf p) (.commit p) then pltEnd (tableQuit s p) p [2] 2
    else s

/-! ### PLT_CMD COMMIT (R46, R60, R66) -/

/-- The bytes of the resident entry from 0x00 to 0x4F. -/
def residentBytes (s : State) (p : Nat) : List Byte :=
  (List.range 10).flatMap fun i => leBytes 8 (wordOf s (plotMemFields p) (8 * i))

/-- The level of a bucket after a change of its rate or depth (R57, R60). -/
def bucketLevel (level : Int) (oldRate rate depth : Nat) : Int :=
  if rate == 0 || oldRate == 0 then depth else min level depth

/-- Bring both buckets of a plot to a changed RATE_TX or RATE_RX; `old` is the state before the change. -/
def bucketsAfter (old s : State) (p : Nat) : State :=
  let changed (r : Nat) : Bool := getF old (F.PE_RATE_RATE p r) != getF s (F.PE_RATE_RATE p r) || getF old (F.PE_RATE_BURST p r) != getF s (F.PE_RATE_BURST p r)
  let level (r : Nat) (l : Int) : Int :=
    if changed r then bucketLevel l (getF old (F.PE_RATE_RATE p r)) (getF s (F.PE_RATE_RATE p r)) (rateDepth s p r) else l
  rateShow (modPlot s p fun x => { x with tx := level 0 x.tx, rx := level 1 x.rx }) p

/-- The entry has been read for a COMMIT: its Staged fields take effect, or nothing does. -/
def commitApply (s : State) (p : Nat) (bs : List Byte) : State :=
  let q := quadrantOf p
  let new := loadFields s bs (plotStagedFields p)
  let differs := (plotLockedFields p).any fun x => fieldIn bs x != getF s x.1
  let report (s : State) : State := if differs then lockedIgnored s q else s
  if plotMalformed (residentBytes new p) p then pltResult (report s) q 1
  else pltResult (report (bucketsAfter s new p)) q 0

/-- The entry read of a commit has ended. -/
def commitRead (s : State) (p : Nat) (r : MemResult) : State :=
  let q := quadrantOf p
  let s := tableDrop s q (.commit p)
  match r with
  | .failed why => pltEnd (tableAer s q why) p [2] 2
  | .ok bs => commitApply s p bs

/-- PLOT_COMMIT (R54, R66): the read of the entry and what follows it, as one step where configuration memory is host memory; a fabric node answers by
itself. -/
def execPlotCommit (q : Fin 4) (who : Party) (i : Fin 1024) (r : MemResult) (s : State) : Host.Outcome State Fault Refusal :=
  .next <| pltCmd s q who 2 i fun s p =>
    match tableRead s q (.commit p) (entryAddr s p) 256 with
    | (s, false) => pltResult s q 2
    | (s, true) => if tableAsked s q (.commit p) then s else commitRead s p r

/-! ### Write-backs (R47) -/

/-- A write-back has ended: the next one that was asked for starts, or a WRITEBACK command ends. -/
def writebackEnd (s : State) (p : Nat) (ok : Bool) : State :=
  let x := plotOf s p
  if x.wbAgain then
    let s := writebackStart (setPlot s p { x with wbAgain := false }) p
    if (plotOf s p).wbBusy.isSome then s else pltEnd s p [5] 2
  else pltEnd s p [5] (if ok then 0 else 2)

/-- A write of a write-back has ended: the first of two is followed by the second; after the last, STATUS takes the WB_SEQ it carried. One of an earlier
residency of the plot leaves STATUS alone. -/
def writebackDone (s : State) (p : Nat) (ok : Bool) : State :=
  match (plotOf s p).wbBusy with
  | none => s
  | some k =>
    let s := tableDrop s (quadrantOf p) (.writeback p)
    if k % 2 == 1 then
      if ok then match writebackLow s p with
        | (s, true) => s
        | (s, false) => writebackEnd s p false
      else writebackEnd (writebackFail s p true) p false
    else if !ok then writebackEnd (writebackFail s p false) p false
    else
      let s := modPlot s p fun x => { x with wbBusy := none }
      writebackEnd (if k == 2 then wrapInc s (F.PE_STATUS_WB_SEQ p) else s) p true

/-- PLOT_WRITEBACK_CMD (R47, R66). -/
def execPlotWritebackCmd (q : Fin 4) (who : Party) (i : Fin 1024) (s : State) : Host.Outcome State Fault Refusal :=
  .next <| pltCmd s q who 5 i fun s p =>
    let s := writebackStart s p
    if (plotOf s p).wbBusy.isSome then s else pltResult s q 2

/-- PLOT_WRITEBACK_PERIOD (R47): PERIOD has passed since a change that no write-back carries. -/
def execPlotWritebackPeriod (p : Fin 4096) (s : State) : Host.Outcome State Fault Refusal :=
  .next <|
    if (plotOf s p).dirty && getF s (F.PLT_WB_PERIOD (quadrantOf p)) != 0 && plotState s p != psDisabled && plotState s p != psLoading
    then writebackStart s p else s

/-- PLOT_WRITEBACK_DONE (R47). -/
def execPlotWritebackDone (p : Fin 4096) (ok : Bool) (s : State) : Host.Outcome State Fault Refusal :=
  .next (if tableTakes s (quadrantOf p) (.writeback p) (!ok) then writebackDone s p ok else s)

/-! ### PLT_TABLE_BASE (R65) -/

/-- Every plot of a port is Disabled. -/
def portIdle (s : State) (q : Nat) : Bool := (List.range 1024).all fun i => plotState s (q * 1024 + i) == psDisabled

/-- A write of PLT_TABLE_BASE; `low` tells that VALID is among what is written. -/
def tableBaseWrite (s : State) (q : Nat) (who : Party) (v : Nat) (low : Bool := true) : State :=
  if !regOpen s who (A.PLT_TABLE_BASE q) then s
  else if !portIdle s q then lockedIgnored s q
  else
    let s := setF (setF s (F.PLT_TABLE_BASE_AUTO q) (bits v 2 1)) (F.PLT_TABLE_BASE_VALID q) (bits v 0 1)
    let s := if bitOf v 1 && bits v 56 8 != 0 then formatRecord s who (A.PLT_TABLE_BASE q)
      else setF (setF s (F.PLT_TABLE_BASE_BASE q) (bits v 18 46)) (F.PLT_TABLE_BASE_TARGET q) (bits v 1 1)
    if low && bitOf v 0 && bitOf v 2 then loadAuto s (q * 1024) else s

/-- PLOT_TABLE_BASE_WRITE. -/
def execPlotTableBaseWrite (q : Fin 4) (who : Party) (v : Word) (s : State) : Host.Outcome State Fault Refusal :=
  .next (tableBaseWrite s q who v.toNat)

/-! ### PP_COMMIT (R50, R52) -/

/-- A staged plot-page field breaks the rules of R52's FORMAT row. -/
def pageMalformed (s : State) (p : Nat) : Bool :=
  let n := getF s (F.PE_MSIX_VEC_COUNT p)
  decide (getF s (F.PE_CAPS_CHAN_LIMIT p) < getF s (F.PP_CHAN_TABLE_CHAN_HIGH p)) || decide (8 < getF s (F.PP_FAULT_LOG_SIZE p)) ||
    decide (n ≤ getF s (F.PP_EVENT_VEC_MBX_VEC p)) || decide (n ≤ getF s (F.PP_EVENT_VEC_FAULT_VEC p)) ||
    (List.range 16).any fun k => (bitF s (F.PP_CQ_EN p k) && decide (getF s (F.PE_CAPS_CQ_LIMIT p) < k)) ||
      decide (10 < getF s (F.PP_CQ_SIZE p k)) || decide (n ≤ getF s (F.PP_CQ_VEC p k))

/-- Some field of a list differs between its staging and what is in effect. -/
def stageDiffers (s : State) (fs : List (Fld × Fld)) : Bool := fs.any fun x => getF s x.1 != getF s x.2

/-- The staging of CHAN_TABLE, of FAULT_LOG and of one queue. -/
def stageChan (p : Nat) : List (Fld × Fld) := (plotStagePairs p).take 3
def stageFault (p : Nat) : List (Fld × Fld) := ((plotStagePairs p).drop 3).take 3
def stageCq (p k : Nat) : List (Fld × Fld) := ((plotStagePairs p).drop (8 + 4 * k)).take 4

/-- The commit would change what a channel that is not idle uses (R52, R241). -/
def pageInUse (s : State) (p : Nat) : Bool :=
  !dmaQuiet s p && (stageDiffers s (stageChan p) || (List.range 16).any fun k => bitF s (F.PE_CQ_EN p k) && stageDiffers s (stageCq p k))

/-- Apply every staged plot-page field. -/
def pageApply (s : State) (p : Nat) : State :=
  let fault := stageDiffers s (stageFault p)
  let qs := (List.range 16).filter fun k => stageDiffers s (stageCq p k)
  let s := (plotStagePairs p).foldl (fun s x => setF s x.2 (getF s x.1)) s
  let s := markDirty (setF s (F.PE_STATUS_PSET_VALID p) 1) p true
  let s := qs.foldl (fun s k => cqCommit s p k) s
  let s := if fault then faultRingReset s p else s
  faultRelease (writebackStart s p) p

/-- A write of 1 to PP_COMMIT.GO (R51, R52). -/
def pageCommit (s : State) (p : Nat) : State :=
  let result (s : State) (r : Nat) : State := setF s (F.PP_COMMIT_STATUS_RESULT p) r
  let st := plotState s p
  if pageDead s p then s
  else if !(st == psServing || st == psHeld || st == psFaulted) then result s 3
  else if pageMalformed s p then result s 1
  else if pageInUse s p then result s 2
  else result (pageApply s p) 0

/-- PLOT_PAGE_COMMIT. -/
def execPlotPageCommit (p : Fin 4096) (s : State) : Host.Outcome State Fault Refusal := .next (pageCommit s p)

/-! ### The fault log's own commands (R63, R550) -/

/-- FAULT_CONS_WRITE (R63, R64). -/
def execFaultConsWrite (p : Fin 4096) (v : Word) (s : State) : Host.Outcome State Fault Refusal :=
  .next <|
    if pageDead s p then s
    else
      let s := setF (setF s (F.PP_FAULT_CONS_CONS p) (bits v.toNat 0 12)) (F.PP_FAULT_CONS_PHASE p) (bits v.toNat 12 1)
      faultRelease (modPlot s p fun x => { x with vecSent := false }) p

/-- FAULT_RATE_WINDOW_END (R550): the window of a code and scope ends. -/
def execFaultRateWindowEnd (p : Fin 4096) (code : BitVec 8) (scope : Fin 64) (s : State) : Host.Outcome State Fault Refusal :=
  .next (rateWindowEnd s p code.toNat scope)

/-! ### Faulted and refetches (R31, R45, R54) -/

/-- Inbound requests that the plot's host path serves, by key. -/
def inboundOf (s : State) (p : Nat) : SMap InReq := (quadOf s (quadrantOf p)).inbound.filter fun x => x.2.plot == p

/-- The host tags of a plot's inbound requests and DMA reads discard what arrives for them (R69, R157, R277). -/
def tagsDead (s : State) (p : Nat) (orphan : Bool) : State :=
  modPort s (quadrantOf p) fun h => { h with outTags := h.outTags.map fun t =>
    if t.2.plot == p then (t.1, { t.2 with dead := true, orphan := t.2.orphan || orphan }) else t }

/-- TLPs of a plot's inbound Writes that the port has still to transmit no longer serve a request. -/
def tlpsForget (s : State) (p : Nat) : State :=
  modPort s (quadrantOf p) fun h => { h with txq := h.txq.map fun t => if t.plot == p then { t with inb := none } else t }

/-- Inbound requests in progress are answered Nak-Access (R68, R156, R157). -/
def inboundCut (s : State) (p : Nat) (orphan : Bool) : State :=
  let s := tlpsForget (tagsDead s p orphan) p
  (inboundOf s p).foldl (fun s x => inFinish s (quadrantOf p) x.1 x.2 3 []) s

/-- The plot leaves Serving for Held or Faulted (R55, R156, R241). -/
def leaveServing (s : State) (p : Nat) : State := dmaStop (inboundCut s p false) p

/-- A plot enters Faulted, for an error in a region, or 0xFF for an entry found malformed at refetch (R54, R62, R276). -/
def plotFaulted (s : State) (p region : Nat) : State :=
  if plotState s p != psServing && plotState s p != psHeld then s
  else
    let s := leaveServing (enterState s p psFaulted) p
    faultCreate (aerLog s p .uncorrectableInternal) p { code := 0x31, block := 5, detail := region }

/-- The plot enters Serving: what was held back for want of it goes (R54, R63, R241, R275). -/
def serveAgain (s : State) (p : Nat) : State := releasePending (faultRelease (dmaRelease (enterState s p psServing) p) p) p

/-- A refetched STATUS.STATE takes effect (R46): of Serving and Held the one that Bus Master Enable gives (R54), or Faulted; a state of no loaded plot
leaves the resident one (DESIGN CHOICE, assumption 122). -/
def stateTaken (s : State) (p st : Nat) : State :=
  let new := if st == psServing || st == psHeld then stateByBme s p else if st == psFaulted then st else plotState s p
  if new == plotState s p then s
  else if new == psServing then serveAgain s p
  else if plotState s p == psServing then leaveServing (enterState s p new) p
  else enterState s p new

/-- The Status fields that show something else show it (R49): BME, LATCH_ANY, CQ_STALL, RATE_HELD and HELD. -/
def statusShow (s : State) (p : Nat) : State :=
  setHeld (rateShow (cqShow (latchAny (bmeCopy s p) p) p 0) p) p (plotOf s p).held

/-- The memory copy replaces the resident entry (R46): Locked, Staged and Status fields; Plot fields and FAULT_PTR only where it holds PSET_VALID 1,
else their reset values. -/
def refetchApply (s : State) (p : Nat) (bs : List Byte) (bare : Bool) : State :=
  let status := (plotStatusFields p).filter fun x => x.1 != F.PE_STATUS_STATE p
  let new := bucketsAfter s (loadFields s bs (plotMemFields p ++ status)) p
  let new := resetFields new ((plotSetFields p).map fun x => x.1)
  let keep := bitOf (wordAt bs 0) 12 && !bare
  let ptr := (plotPtrFields p).filter fun x => x.1 != F.PE_FAULT_PTR_HELD p
  let new := if keep then loadFields new bs (plotSetFields p ++ ptr) else resetFields new (ptr.map fun x => x.1)
  let new := statusShow (setB new (F.PE_STATUS_PSET_VALID p) keep) p
  if bare then new else stateTaken new p (bits (wordAt bs 0) 0 4)

/-- A refetch has ended. A reserved STATE makes the entry malformed (R48). -/
def refetchDone (s : State) (p : Nat) (r : MemResult) : State :=
  let bare := (plotOf s p).refetchBare
  let s := modPlot (tableDrop s (quadrantOf p) (.refetch p)) p fun x => { x with refetch := false, refetchBare := false }
  match r with
  | .failed why => plotFaulted (tableAer s (quadrantOf p) why) p 0xFF
  | .ok bs =>
    if plotMalformed bs p || decide (5 < bits (wordAt bs 0) 0 4) then plotFaulted s p 0xFF
    else faultCreate (refetchApply s p bs bare) p { code := 0x32, block := 5 }

/-- A refetch starts (R31). One that fails at once has no request to report. -/
def refetchStart (s : State) (p : Nat) (bare : Bool) : State :=
  let s := modPlot s p fun x => { x with refetch := true, refetchBare := bare }
  match tableRead s (quadrantOf p) (.refetch p) (entryAddr s p) 256 with
  | (s, true) => s
  | (s, false) => refetchDone s p (.failed .unsupported)

/-- PLOT_REFETCH_DONE (R45). -/
def execPlotRefetchDone (p : Fin 4096) (r : MemResult) (s : State) : Host.Outcome State Fault Refusal :=
  .next (if (plotOf s p).refetch && tableTakes s (quadrantOf p) (.refetch p) r.isFailed then refetchDone s p r else s)

/-! ### Cloche (R67 to R70) -/

/-- A host read or AtomicOp that Cloche retires: discarded after an FLR, Completer Abort otherwise (R68, R152). -/
def clocheComplete (s : State) (p : Nat) (flr : Bool) (r : OutReq) : State := if flr then s else completeAbort s p r

/-- A request that is still on its way to the Ledger: a write is dropped and counted (R55). -/
def clocheRequest (s : State) (p : Nat) (flr : Bool) (r : OutReq) : State :=
  if r.kind == .write then dropWrite (completeAbort s p r) p true else clocheComplete s p flr r

/-- Requests of the plot queue, of the port's receive buffer, and those that wait for a Ledger entry. -/
def clocheQueue (s : State) (p : Nat) (flr : Bool) : State :=
  let x := plotOf s p
  let held := (quadOf s (quadrantOf p)).held.filter fun y => y.1 == p
  let s := rateShow (modPlot s p fun x => { x with queue := [], matched := none, passing := none }) p
  let s := modQuad s (quadrantOf p) fun u => { u with held := u.held.filter fun y => y.1 != p }
  let s := (x.queue ++ held.map fun y => y.2).foldl (fun s r => clocheRequest s p flr r) s
  (x.matched.toList ++ x.passing.toList).foldl (fun s m => clocheRequest (graftDown s p m.win m.gen) p flr m.req) s

/-- Retire one read entry with status Reset; a Hold that is out is released (R136, R179). -/
def clocheRead (s : State) (q : Nat) (flr : Bool) (x : Nat × LEntry) : State :=
  let e := x.2
  if !e.hostPath then dmaDone s q x.1 e 0x11 []
  else
    let s := clocheComplete s e.plot flr e.req
    if e.emu.isSome then emuBudget s q x.1 e true else freeEntry s q x.1 e

/-- Step 3: every read and AtomicOp of the plot in the Ledger; a Hold whose Release still waits for a Write's answer is released (R179). -/
def clocheReads (s : State) (p : Nat) (flr : Bool) : State :=
  let q := quadrantOf p
  let s := ((quadOf s q).ledger.filter fun x => x.2.plot == p && x.2.emu == some .budgetGone).foldl (fun s x =>
    sendRelease (waitDrop s q x.1 x.2) q x.2) s
  ((quadOf s q).ledger.filter fun x => x.2.plot == p && x.2.kind != .write && x.2.kind != .release).foldl (fun s x => clocheRead s q flr x) s

/-- Step 2: the plot's DMA transactions leave the ingress store of their cluster (R212). -/
def clochePergola (s : State) (p : Nat) : State :=
  let own (t : QTxn) : Bool := t.ingress == 12 + quadrantOf p
  let act := s.pga.active.map fun x => (x.1, (x.2.map fun f =>
    if f.flow == .dma p then { f with queue := f.queue.filter fun t => !own t } else f).filter fun f => !f.queue.isEmpty)
  let s := { s with pga := { s.pga with
    active := act.filter fun x => !x.2.isEmpty
    waiting := s.pga.waiting.filter fun w => !(w.flow == .dma p && own w.t) } }
  pgaAdmit (occUpdate s (12 + quadrantOf p))

/-- Step 4: inbound requests in progress, those that wait for a fill among them; the plot's inbound stream records are free (R158). -/
def clocheInbound (s : State) (p : Nat) : State :=
  let q := quadrantOf p
  let s := inboundCut (missFail s q p 3 256) p true
  inUsed (modQuad s q fun x => { x with inStreams := x.inStreams.filter fun y => y.1 / 2 ^ 36 != p }) q

/-- Steps 2 to 4. -/
def clocheStop (s : State) (p : Nat) (flr : Bool) : State :=
  clocheInbound (pfForget (rakeCloche (clocheReads (clocheQueue (clochePergola (dmaCloche s p) p) p flr) p flr) p) p) p

/-- Steps 1 to 4 of a reset of a loaded plot. -/
def clocheBegin (s : State) (p : Nat) (flr unload : Bool) : State :=
  let refetch := (plotOf s p).refetch
  let s := pltEnd (tableQuit (enterState s p psResetting) p) p [2] 5
  let s := slotsReset (commitAbandon s p) (quadrantOf p) (fun i => getF s (F.GRF_DRAIN_INDEX (quadrantOf p) i) == indexOf p) (List.range 16)
  let s := modPlot s p fun x => { x with
    cloche := some { flr := flr, unload := unload, start := s.now, refetch := refetch }, refetch := false, refetchBare := false }
  clocheStop s p flr

/-- A reset event meets a plot (R54, R67, R70). -/
def clocheStart (s : State) (p : Nat) (flr unload : Bool) : State :=
  let st := plotState s p
  if st == psResetting then
    modPlot s p fun x => { x with cloche := x.cloche.map fun c => { c with flr := c.flr || flr, unload := c.unload || unload } }
  else if st == psDisabled then
    if unload then modPlot s p fun x => { x with cloche := none } else s
  else if st == psLoading then
    let o := (plotOf s p).load
    let s := loadFail s p 5
    if flr && !unload then clocheStop (modPlot s p fun x => { x with cloche := some { flr := true, start := s.now, reload := o } }) p true else s
  else clocheBegin s p flr unload

/-- PLOT_RESET_CMD (R66, R67). -/
def execPlotResetCmd (q : Fin 4) (who : Party) (i : Fin 1024) (s : State) : Host.Outcome State Fault Refusal :=
  .next (pltCmd s q who 3 i fun s p => clocheStart s p false false)

/-- PLOT_UNLOAD (R54, R66): while Loading, the plot is Disabled at once and no Cloche step runs. -/
def execPlotUnload (q : Fin 4) (who : Party) (i : Fin 1024) (s : State) : Host.Outcome State Fault Refusal :=
  .next <| pltCmd s q who 4 i fun s p =>
    if plotState s p == psLoading then pltResult (loadFail s p 5) q 0 else clocheStart s p false true

/-- The fabric writes of a plot that are outstanding. -/
def plotWrites (s : State) (p : Nat) : SMap LEntry :=
  (quadOf s (quadrantOf p)).ledger.filter fun x => x.2.plot == p && x.2.kind == .write

/-- The acknowledgement timeout of a plot, in microseconds (R49). -/
def ackMicros (s : State) (p : Nat) : Nat :=
  let v := getF s (F.PE_TIMERS_ACK_TIMEOUT p)
  if v == 0 then 5000 else 10 * v

/-- Step 5: the writes that remain retire Reset and the latches are cleared (R68, R142). -/
def clocheWrites (s : State) (p : Nat) : State :=
  let q := quadrantOf p
  clearLatches ((plotWrites s p).foldl (fun s x => writeDone s q x.1 x.2 0x11) s) p (2 ^ 32 - 1)

/-- Every vector of a plot is masked, with its address and data kept, and nothing is pending (R68, R275). -/
def vectorsReset (s : State) (p : Nat) : State :=
  let s := (s.msix.filter fun x => x.1 / 2048 == p).foldl (fun s x => setMsix s p (x.1 % 2048) { x.2 with mask := true, pend := false }) s
  let s := setFunc s p { funcOf s p with msiPend := 0 }
  if indexOf p == 0 then intaUpdate s (quadrantOf p) else s

/-- The registers of a plot's Rake slots (R191). -/
def rakeRegsReset (s : State) (p : Nat) : State :=
  resetFields (cellsClear s (A.PP_RAKE_WATCH p 0) 0x800) [F.PP_RAKE_PEND_V p, F.PP_RAKE_ERR_V p, F.PP_RAKE_LOST_V p]

/-- What step 6 clears. -/
def clocheClear (s : State) (p : Nat) : State := rakeRegsReset (plotSetReset (vectorsReset (mbxReset s p) p) p) p

/-- Step 6 of a loaded plot: the plot enters its next state, with one write-back (R68, R69). -/
def clocheEnd (s : State) (p : Nat) (c : Cloche) : State :=
  let s := wrapInc (setF (clocheClear s p) (F.PE_STATUS_PSET_VALID p) 0) (F.PE_STATUS_RESET_COUNT p)
  let s := bmeCopy (modPlot s p fun x => { x with cloche := none }) p
  if c.unload then
    pltEnd (plotDisable (linesDiscard (enterState s p psDisabled) p) p) p [3, 4] 0
  else
    let s := pltEnd (enterState s p (stateByBme s p)) p [3, 4] 0
    if c.refetch then refetchStart s p true else s

/-- The reset of a plot whose load an FLR abandoned ends: the load restarts (R54, R70). -/
def clocheReload (s : State) (p : Nat) (c : Cloche) : State :=
  let s := clocheClear (modPlot s p fun x => { x with cloche := none }) p
  if c.reload.isSome && funcEnabled s p && plotState s p == psDisabled then loadStart s p .auto else s

/-- Steps 5 and 6, once the last write has retired or A has passed. -/
def clocheStep5 (s : State) (p : Nat) : State :=
  match (plotOf s p).cloche with
  | none => s
  | some c =>
    if plotState s p != psResetting then clocheReload s p c
    else if (plotWrites s p).isEmpty || decide (c.start + min (ackMicros s p) 8000 ≤ s.now) then clocheEnd (clocheWrites s p) p c
    else s

/-- CLOCHE_STEP5 (R68). -/
def execClocheStep5 (p : Fin 4096) (s : State) : Host.Outcome State Fault Refusal := .next (clocheStep5 s p)

end Sys2Proof.Machine
end

