-- ==== Sys2Proof/Machine/Trellis.lean ====
section
/-!
DEFINITION. The commands of the route table Trellis (R121 to R126), and what a change of usable ports does (R112).
-/
namespace Sys2Proof.Machine

/-! ### Usable ports (R112) -/

/-- The indexes of the table's entries that are not all 0, ascending. -/
def tableIndexes (s : State) : List Nat := (s.trl.table.map fun x => x.1 / 2).eraseDups

/-- The DEST entries that list a port, whatever their scope, as level and key. -/
def destWith (s : State) (f : Nat) : List FenceEv :=
  (((tableIndexes s).filter fun i => !entryStruck s i && keyClass (entryKey s i) == 1 && bitOf (resPorts (entryResult s i)) f).map fun i =>
    { level := keyLevel (entryKey s i), key := keyKey (entryKey s i) }).eraseDups

/-- The Ledger of a quadrant is told. -/
def fenceTell (vs : List FenceEv) (q : Quad) : Quad :=
  { q with fenceNext := vs ++ q.fenceNext.filter fun v => !vs.any fun u => u.level == v.level && u.key == v.key }

/-- Port f has joined or left the usable ports: FAILOVER, and every Ledger fences the next read of each stream concerned (R112). -/
def usableChanged (s : State) (f : Nat) : State :=
  let vs := destWith s f
  if vs.isEmpty then s
  else (List.range 4).foldl (fun s q => modQuad s q (fenceTell vs)) (setEv s F.TRL_EVENT_FAILOVER 1240)

/-- Run a change, and report whether port f's usability has changed in it. -/
def withUsable (s : State) (f : Nat) (act : State → State) : State :=
  let t := act s
  if portUsable s f == portUsable t f then t else usableChanged t f

/-! ### TRL_CTRL (R122, R124) -/

/-- A write of TRL_CTRL. -/
def trlCtrl (s : State) (who : Party) (v : Nat) : State :=
  if !regOpen s who A.TRL_CTRL then s
  else
    let s := setF s F.TRL_CTRL_EPOCH (bits v 2 1)
    if bitOf v 0 && !bitF s F.TRL_CTRL_EN then
      let s := setF s F.TRL_CTRL_EN 1
      { s with trl := { s.trl with scan := true } }
    else if !bitOf v 0 && bitF s F.TRL_CTRL_EN then
      let s := setF (setF s F.TRL_CTRL_EN 0) F.TRL_CTRL_READY 0
      { s with trl := { s.trl with scan := false } }
    else s

/-- TRELLIS_CTRL_WRITE. -/
def execTrellisCtrlWrite (who : Party) (v : Word) (s : State) : Host.Outcome State Fault Refusal := .next (trlCtrl s who v.toNat)

/-- Entry i holds a key that another entry j of its bucket holds, live at once (R108, R123). -/
def twin (s : State) (i j : Nat) : Bool :=
  let a := entryKey s i
  let b := entryKey s j
  keyClass b != 0 && !entryStruck s j && keyClass a == keyClass b && keyLevel a == keyLevel b && keyKey a == keyKey b &&
    scopesOverlap (keyScope a) (keyScope b)

/-- Entry i lies outside the bucket its key fixes (R108). -/
def misplaced (k i : Nat) : Bool := trellisBucket (keyClass k) (keyLevel k) (keyKey k) != i / 8

/-- The scan finds an entry bad (R122). -/
def scanBad (s : State) (i : Nat) : Bool :=
  let k := entryKey s i
  keyClass k != 0 && !entryStruck s i &&
    (trellisMalformed k (entryResult s i) || misplaced k i || (List.range (i % 8)).any fun d => twin s i (i - i % 8 + d))

/-- Scan a list of entries in ascending order: the bad ones are written empty and counted. -/
def scanAll (s : State) (n : Nat) : List Nat → State × Nat
  | [] => (s, n)
  | i :: is => if scanBad s i then scanAll (writeEntry s i 0 0) (n + 1) is else scanAll s n is

/-- TRELLIS_SCAN_DONE (R122). -/
def execTrellisScanDone (s : State) : Host.Outcome State Fault Refusal :=
  .next <|
    if !s.trl.scan then s
    else
      let (s, n) := scanAll s 0 (tableIndexes s)
      let s := setF (setF s F.TRL_STATUS_BAD_COUNT (min n 0xFFFF)) F.TRL_CTRL_READY 1
      { s with trl := { s.trl with scan := false } }

/-! ### TRL_CMD (R123, R125) -/

/-- End a command with a RESULT. -/
def trlResult (s : State) (r : Nat) : State := setF s F.TRL_STATUS_RESULT r

/-- A write of TRL_CMD while BUSY is ignored and sets OVERRUN (R125, R126). -/
def trlOverrun (s : State) : State := raise (setF s F.TRL_STATUS_OVERRUN 1) 1240

/-- A write of TRL_CMD: INDEX is recorded, then the operation runs. It takes effect at the lookup boundary that follows, and BUSY stays 1 until the
block's next tick (DESIGN CHOICE, assumption 112). -/
def trlCmd (s : State) (who : Party) (index : Nat) (act : State → State) : State :=
  if !regOpen s who A.TRL_CMD then s
  else if bitF s F.TRL_STATUS_BUSY then trlOverrun s
  else act (setF (setF s F.TRL_STATUS_BUSY 1) F.TRL_STATUS_INDEX index)

/-- The checks of WRITE, in order; 0 where all pass. -/
def trlCheck (s : State) (i : Nat) : Nat :=
  let k := getF s F.TRL_STAGE0_V
  let staged := writeEntry s i k (getF s F.TRL_STAGE1_V)
  if !bitF s F.TRL_CTRL_READY then 5
  else if trellisMalformed k (getF s F.TRL_STAGE1_V) then 1
  else if keyClass k != 0 && misplaced k i then 2
  else if keyClass k != 0 && (List.range 8).any fun d => i / 8 * 8 + d != i && twin staged i (i / 8 * 8 + d) then 3
  else 0

/-- WRITE. -/
def trlWrite (s : State) (i : Nat) : State :=
  let r := trlCheck s i
  trlResult (if r == 0 then writeEntry s i (getF s F.TRL_STAGE0_V) (getF s F.TRL_STAGE1_V) else s) r

/-- The entry that FIND looks for. -/
def trlFound (s : State) : Option Nat :=
  let k := getF s F.TRL_STAGE0_V
  let b := trellisBucket (keyClass k) (keyLevel k) (keyKey k)
  if keyClass k == 0 then none
  else ((List.range 8).map fun d => 8 * b + d).find? fun i =>
    let e := entryKey s i
    !entryStruck s i && keyClass e == keyClass k && keyLevel e == keyLevel k && keyKey e == keyKey k && keyScope e == keyScope k

/-- FIND. -/
def trlFind (s : State) : State :=
  if !bitF s F.TRL_CTRL_READY then trlResult s 5
  else match trlFound s with
    | none => trlResult (setF s F.TRL_STATUS_FOUND 0) 4
    | some i =>
      let s := setF (setF s F.TRL_STATUS_FOUND 1) F.TRL_STATUS_INDEX i
      trlResult (setF s F.TRL_STAGE1_V (entryResult s i)) 0

/-- TRELLIS_WRITE. -/
def execTrellisWrite (who : Party) (i : Fin 65536) (s : State) : Host.Outcome State Fault Refusal :=
  .next (trlCmd s who i fun s => trlWrite s i)

/-- TRELLIS_FIND. -/
def execTrellisFind (who : Party) (i : Fin 65536) (s : State) : Host.Outcome State Fault Refusal := .next (trlCmd s who i trlFind)

/-- TRELLIS_INVALIDATE. -/
def execTrellisInvalidate (who : Party) (i : Fin 65536) (s : State) : Host.Outcome State Fault Refusal :=
  .next (trlCmd s who i fun s => trlResult (writeEntry s i 0 0) 0)

/-! ### The table region (R121, R510) -/

/-- A direct write of one word of the table region: it takes effect only while Trellis is stopped, and rewrites a struck entry (R31; DEDUCED, assumption 113). -/
def tableWordWrite (s : State) (who : Party) (i : Nat) (high : Bool) (v : Nat) : State :=
  if !partyOpen s who then s
  else if bitF s F.TRL_CTRL_EN || bitF s F.TRL_CTRL_READY then raise (setF s F.TRL_STATUS_LOCKED_IGNORED 1) 1240
  else { s with trl := { s.trl with table := mset s.trl.table (2 * i + if high then 1 else 0) v 0, struck := mdel s.trl.struck i } }

/-- TRELLIS_TABLE_WRITE. -/
def execTrellisTableWrite (who : Party) (i : Fin 65536) (high : Bool) (v : Word) (s : State) : Host.Outcome State Fault Refusal :=
  .next (tableWordWrite s who i high v.toNat)

end Sys2Proof.Machine
end

