-- ==== Sys2Proof/Machine/Link.lean ====
section
/-!
DEFINITION. A Calfos port's link layer (chapter 12): slots and transactions (R339 to R343), flits (R327 to R330), sequence, acknowledgement and
replay (R333 to R336), credit (R337, R338) and initialisation (R331, R332); and how a port leaves its states (R311).
-/
namespace Sys2Proof.Machine

/-- Port f beside its registers. -/
def linkOf (s : State) (f : Nat) : Link := mget s.links f {}
/-- Replace it. -/
def setLink (s : State) (f : Nat) (l : Link) : State := { s with links := mset s.links f l {} }
/-- Change it. -/
def modLink (s : State) (f : Nat) (g : Link → Link) : State := setLink s f (g (linkOf s f))
/-- Class c of a link. -/
def Link.cls (l : Link) (c : Nat) : LinkClass := mget l.classes c {}
/-- Change class c of a port. -/
def modClass (s : State) (f c : Nat) (g : LinkClass → LinkClass) : State :=
  modLink s f fun l => { l with classes := mset l.classes c (g (l.cls c)) {} }

/-- Lane states of a port (R322). -/
def cfpState (s : State) (f : Nat) : Nat := getF s (F.CFP_STATUS_STATE f)
def cfpOff : Nat := 0
def cfpTraining : Nat := 1
def cfpActive : Nat := 2
def cfpHush : Nat := 3
def cfpRetraining : Nat := 4
/-- LINK of a port (R350): 0 Down, 1 Init, 2 Up. -/
def linkUp (s : State) (f : Nat) : Bool := getF s (F.CFK_STATUS_LINK f) == 2

/-- Set an event bit of CFP_EVENT (R321) or CFK_EVENT (R348). -/
def cfpEvent (s : State) (f : Nat) (e : Nat → Fld) : State := setEv s (e f) (1256 + f)
def cfkEvent (s : State) (f : Nat) (e : Nat → Fld) : State := setEv s (e f) (1264 + f)

/-! ### Slots (R339 to R342) -/

/-- The route of a transaction. -/
def txnRoute : Txn → RouteCtx
  | .req r => { dest := r.dest, src := r.src, tenant := r.tenant, hop := r.hop }
  | .resp r => { dest := r.dest, src := r.src, tenant := r.tenant, hop := r.hop }

/-- A ROUTE slot (R340). -/
def routeSlot (c : RouteCtx) : Nat :=
  0x01 + c.hop * 2 ^ 8 + c.dest * 2 ^ 16 + c.src * 2 ^ 36 + c.tenant * 2 ^ 56

/-- The OP of a request (R341). -/
def fabCode : FabOp → Nat
  | .read => 0x10
  | .signalRead => 0x11
  | .write => 0x12
  | .atomic => 0x13
  | .hold => 0x14
  | .release => 0x15
  | .message => 0x16
  | .mgmtRead => 0x18
  | .mgmtWrite => 0x19

/-- The request an OP names. -/
def fabOfCode : Nat → Option FabOp
  | 0x10 => some .read
  | 0x11 => some .signalRead
  | 0x12 => some .write
  | 0x13 => some .atomic
  | 0x14 => some .hold
  | 0x15 => some .release
  | 0x16 => some .message
  | 0x18 => some .mgmtRead
  | 0x19 => some .mgmtWrite
  | _ => none

/-- A request of this OP carries a payload of LEN bytes (R341). -/
def opHasData : FabOp → Bool
  | .write | .atomic | .message | .mgmtWrite => true
  | _ => false

/-- The header slot of a request (R341). -/
def reqSlot (r : FabReq) : Nat :=
  if r.op == .message then 0x16 + r.code * 2 ^ 72 + r.vdh * 2 ^ 88 + r.len * 2 ^ 120
  else fabCode r.op + bt r.ordered 8 + bt r.holdFlag 9 + bt r.poison 10 + r.atop * 2 ^ 40 + r.tag * 2 ^ 44 + (r.len - 1) * 2 ^ 60 +
    r.addr * 2 ^ 72

/-- The header slot of a response (R342). -/
def respSlot (r : FabResp) : Nat :=
  (if r.data.isEmpty then 0x20 else 0x21) + r.status * 2 ^ 8 + (r.data.length - 1) * 2 ^ 16 + r.tag * 2 ^ 28

/-- The header slot of a transaction. -/
def headerSlot : Txn → Nat
  | .req r => reqSlot r
  | .resp r => respSlot r

/-- The payload of a transaction. -/
def txnData : Txn → List Byte
  | .req r => if opHasData r.op then r.data else []
  | .resp r => r.data

/-- Payload slots: 16 bytes each, the unused bytes 0. -/
def payloadSlots : Nat → List Byte → List Nat
  | 0, _ => []
  | n + 1, bs => leNat (bs.take 16) :: payloadSlots n (bs.drop 16)

/-- The slots of a transaction in a class with a route context: ROUTE where it differs, header, payload. -/
def txnSlots (ctx : Option RouteCtx) (t : Txn) : List Nat :=
  (if ctx == some (txnRoute t) then [] else [routeSlot (txnRoute t)]) ++
    headerSlot t :: payloadSlots (((txnData t).length + 15) / 16) (txnData t)

/-- Payload bytes that follow a header slot; none for an OP that R340 to R342 do not list (R346). -/
def slotPayload (h : Nat) : Option Nat :=
  if bits h 0 8 == 0x20 then some 0
  else if bits h 0 8 == 0x21 then some (bits h 16 12 + 1)
  else (fabOfCode (bits h 0 8)).map fun op =>
    if op == .message then bits h 120 8 else if opHasData op then bits h 60 12 + 1 else 0

/-- A header breaks the layout of R341 or R342, beside what `fabMalformed` judges: a reserved bit or an unused field is not 0. -/
def slotBad (h : Nat) : Bool :=
  match bits h 0 8 with
  | 0x20 => bits h 44 84 != 0 || bits h 16 12 != 0
  | 0x21 => bits h 44 84 != 0 || !(bits h 8 8 == 0 || bits h 8 8 == 6)
  | 0x16 => bits h 8 64 != 0
  | 0x13 => bits h 11 29 != 0
  | _ => bits h 11 33 != 0

/-- The request or response a header slot and its payload spell, under a route. -/
def txnOf (ctx : RouteCtx) (h : Nat) (data : List Byte) (mgmt : Bool) : Txn :=
  match fabOfCode (bits h 0 8) with
  | none => .resp { dest := ctx.dest, src := ctx.src, tenant := ctx.tenant, hop := ctx.hop, tag := bits h 28 16, status := bits h 8 8,
                    data := data, mgmt := mgmt }
  | some .message => .req { op := .message, dest := ctx.dest, src := ctx.src, tenant := ctx.tenant, hop := ctx.hop, tag := 0, addr := 0,
                            len := bits h 120 8, data := data, code := bits h 72 16, vdh := bits h 88 32, mgmt := mgmt }
  | some op => .req { op := op, dest := ctx.dest, src := ctx.src, tenant := ctx.tenant, hop := ctx.hop, tag := bits h 44 16, addr := bits h 72 56,
                      len := bits h 60 12 + 1, data := data, ordered := tb h 8, holdFlag := tb h 9, poison := tb h 10, atop := bits h 40 4 }

/-- The class a request may travel in (R341): its virtual channel is `c / 2`. -/
def opChannelOk (op : FabOp) (c : Nat) : Bool :=
  match op with
  | .message => c / 2 == 0 || c / 2 == 2
  | .mgmtRead | .mgmtWrite => c / 2 == 2
  | _ => c / 2 == 0

/-! ### Credit (R198, R337) -/

/-- The flits of class c that a port allots (R198), with and without the B classes. -/
def allotment (b : Bool) (c : Nat) : Nat :=
  match c, b with
  | 0, true => 640
  | 1, true => 384
  | 2, true => 512
  | 3, true => 384
  | 4, true => 64
  | 5, true => 64
  | 0, false => 1024
  | 2, false => 896
  | 4, false => 128
  | _, _ => 0

/-- The transactions from port f that wait inside the block for room further on. -/
def heldFrom (s : State) (f : Nat) : List QTxn :=
  ((s.pga.active.flatMap fun x => x.2.flatMap fun y => y.queue) ++ s.pga.waiting.map fun w => w.t).filter (fun t => t.ingress == 4 + f) ++
    (linkOf s f).waitRx.map fun x => x.2

/-- The flits of class c whose bytes are still in the receive buffer of port f. -/
def heldFlits (s : State) (f c : Nat) : List Nat :=
  let l := (linkOf s f).cls c
  ((((heldFrom s f).filter fun t => t.rcls == c).flatMap fun t => t.cred) ++ (match l.part with | none => [] | some p => p.flits)).eraseDups.filter
    fun n => l.rxBase ≤ n

/-- Flits of class c freed since initialisation (R337). -/
def rxFreed (s : State) (f c : Nat) : Nat :=
  ((linkOf s f).cls c).rxGot - ((linkOf s f).cls c).rxBase - (heldFlits s f c).length

/-- Credit available to send class c. -/
def txAvail (s : State) (f c : Nat) : Nat :=
  getF s (F.CFK_CREDIT_ALLOT_TX f c) - (((linkOf s f).cls c).sent - ((linkOf s f).cls c).freed)

/-- Show the credit of a class (R353). -/
def showCredit (s : State) (f c : Nat) : State := setF s (F.CFK_CREDIT_AVAIL f c) (txAvail s f c)

/-- Show UNACKED and REPLAYING (R350). -/
def showReplay (s : State) (f : Nat) : State :=
  let l := linkOf s f
  setB (setF s (F.CFK_STATUS_UNACKED f) l.replay.length) (F.CFK_STATUS_REPLAYING f) (!l.resend.isEmpty)

/-! ### The state of the port (R311) -/

/-- What a link keeps when its link layer's state is lost: training, lanes, the marker epochs, and the transactions already received (R336). -/
def Link.cleared (l : Link) : Link :=
  { step := l.step, attempt := l.attempt, fallback := l.fallback, maxRate := l.maxRate, preset := l.preset, capSup := l.capSup, preReq := l.preReq, retry := l.retry, eqDone := l.eqDone, preAsk := l.preAsk, count := l.count, lineUp := l.lineUp, rxLanes := l.rxLanes,
    txLanes := l.txLanes, waitRx := l.waitRx, txPos := l.txPos, txMarks := l.txMarks, txPre := l.txPre, rxPos := l.rxPos, hist := l.hist,
    classes := (l.classes.map fun x => (x.1, ({ rxBase := x.2.rxGot, rxGot := x.2.rxGot } : LinkClass))).filter fun x => x.2.rxGot != 0 }

/-- The link layer's state is lost: unacknowledged flits are counted (R336). -/
def linkLose (s : State) (f : Nat) : State :=
  let n := (linkOf s f).replay.length
  let s := if n == 0 then s else cfkEvent (bumpBy s (F.CFK_COUNT_LOST f) n) f F.CFK_EVENT_LOST
  let s := modLink s f Link.cleared
  let s := showReplay (setF s (F.CFK_STATUS_LINK f) 0) f
  let s := setF (setF s (F.CFK_STATUS_PARTNER_NODE f) 0) (F.CFK_STATUS_PARTNER_NODE_VALID f) 0
  let s := setF s (F.CFK_STATUS_PARTNER_B f) 0
  (List.range 6).foldl (fun s c => setF (setF (setF s (F.CFK_CREDIT_ALLOT_TX f c) 0) (F.CFK_CREDIT_ALLOT_RX f c) 0) (F.CFK_CREDIT_AVAIL f c) 0) s

/-- Clear what CFP_STATUS reports of lanes and clock. -/
def lanesClear (s : State) (f : Nat) : State :=
  [F.CFP_STATUS_ALIGNED f, F.CFP_STATUS_PRECODE_RX f, F.CFP_STATUS_PRECODE_TX f, F.CFP_STATUS_CLK_RX f, F.CFP_STATUS_RX_DRIFT f,
    F.CFP_STATUS_TX_DRIFT f].foldl (fun s x => setF s x 0) s

/-- A margin run on port f ends aborted (R497). -/
def marginAbort (s : State) (f : Nat) : State :=
  if s.test.margin == some f then
    let s := setF (setF (setF s F.TST_MARGIN_RESULT_BUSY 0) F.TST_MARGIN_RESULT_VALID 0) F.TST_MARGIN_RESULT_ABORTED 1
    setEv { s with test := { s.test with margin := none } } F.TST_EVENT_MARGIN_DONE 43
  else s

/-- The port takes a state; a margin run that began in another ends. -/
def cfpEnter (s : State) (f st : Nat) : State :=
  let s := if cfpState s f == st then s else marginAbort s f
  setF s (F.CFP_STATUS_STATE f) st

/-- The port enters Off (R311). -/
def portOff (s : State) (f : Nat) : State :=
  withUsable s f fun s =>
    let s := linkLose (lanesClear (cfpEnter s f cfpOff) f) f
    modLink s f fun l => { l with step := 0, eqDone := false, preAsk := false, count := 255, lineUp := false, rxLanes := [], txLanes := [], capSup := false, preReq := false, hist := [] }

/-- Step 1 of a training at a fallback rate (R308, R309); the link layer starts anew when the port is Active again (R331). -/
def trainFrom (s : State) (f rate : Nat) : State :=
  withUsable s f fun s =>
    let s := linkLose (lanesClear (cfpEnter s f cfpTraining) f) f
    let s := setF s (F.CFP_STATUS_RATE f) rate
    modLink s f fun l =>
      { l with step := 1, fallback := rate, retry := false, eqDone := false, preAsk := false, count := 255, lineUp := false, rxLanes := [], txLanes := [], capSup := false, preReq := false, hist := [] }

/-- A full training starts, at MAX_RATE (R308). -/
def trainStart (s : State) (f : Nat) : State :=
  let m := getF s (F.CFP_CTRL_MAX_RATE f)
  let p := getF s (F.CFP_CTRL_PRESET f)
  trainFrom (modLink s f fun l => { l with attempt := (l.attempt + 1) % 256, maxRate := m, preset := p }) f m

/-- No hold of a soft reset keeps the port Off (R478, R479). -/
def portFree (s : State) (f : Nat) : Bool :=
  !heldPort s f 0 && !heldPort s f 1 && !bitOf (getF s F.RST_SOFT_QUAD) (6 * (f / 2) + 5)

/-- The TAP instructions that drive the balls (R502). -/
def jtagTest (code : Nat) : Bool := code == 0x00 || code == 0x03 || code == 0x04 || code == 0x05 || code == 0x06

/-- The TAP holds an instruction under which the boundary register drives the balls (R502, R528). -/
def tapDrives (s : State) : Bool := jtagTest s.test.tap

/-- From Off, with EN 1, no RETRY interval running, no hold and no test mode (R504), training starts (R311). -/
def portWake (s : State) (f : Nat) : State :=
  if cfpState s f == cfpOff && portFree s f && bitF s (F.CFP_CTRL_EN f) && !(linkOf s f).retry && getF s (F.TST_PORT_MODE (4 + f)) == 0 && !tapDrives s then trainStart s f
  else s

/-- A training attempt fails (R309): at 53.125 Gb/s the port enters Off, otherwise it goes on at the next lower rate. -/
def trainFail (s : State) (f : Nat) : State :=
  let rate := getF s (F.CFP_STATUS_RATE f)
  let s := setF (setF s (F.CFP_TRAIN_LAST_STEP f) (linkOf s f).step) (F.CFP_TRAIN_LAST_RATE f) rate
  let s := bump s (F.CFP_TRAIN_FAILS f)
  if 2 ≤ rate then
    let s := cfpEvent (portOff s f) f F.CFP_EVENT_TRAIN_FAIL
    modLink s f fun l => { l with retry := true }
  else trainFrom s f (rate + 1)

/-- A protocol error (R346): PROTO, the port to Off, and it trains again. -/
def protoError (s : State) (f : Nat) : State := portWake (portOff (cfkEvent s f F.CFK_EVENT_PROTO) f) f

/-! ### Flits (R327 to R330) -/

/-- CRC-64 of a flit's first 248 bytes (R251, R329). -/
def flitCrc (bs : List Byte) : Nat := Nat.xor (sealBytes 1 (sealMask 1) (bs.take 248)) (sealMask 1)

/-- A flit passes R329. -/
def flitOk (bs : List Byte) : Bool := bs.length == 256 && wordAt bs 248 == flitCrc bs

/-- The bytes of a flit with a header word and 15 slots. -/
def flitBytes (h : Nat) (body : List Nat) : List Byte :=
  let bs := leBytes 8 h ++ body.flatMap (leBytes 16)
  bs ++ leBytes 8 (flitCrc bs)

/-- The classes whose credit a port reports: those it receives. -/
def creditClasses (s : State) (f : Nat) : List Nat :=
  (List.range 6).filter fun c => getF s (F.CFK_CREDIT_ALLOT_RX f c) != 0

/-- The class whose total goes in the next flit: each in turn, so that every class is reported in any six flits, as R337 needs in 8 and in 64. -/
def creditPick (s : State) (f : Nat) : Nat :=
  let l := linkOf s f
  let cs := creditClasses s f
  ((cs.filter (fun c => l.crNext ≤ c) ++ cs.filter fun c => c < l.crNext).head?).getD 0

/-- The header word of a flit sent now (R328). -/
def flitHeader (s : State) (f ftype cls seq cr : Nat) : Nat :=
  let l := linkOf s f
  ftype * 2 ^ 62 + cls * 2 ^ 59 + seq * 2 ^ 47 + (if l.got then (l.expect + 4095) % 4096 else 0) * 2 ^ 35 + bt l.got 34 + bt l.nak 33 +
    cr * 2 ^ 30 + (rxFreed s f cr % 2048) * 2 ^ 19

/-- Send a flit with the current ACK, NAK and a credit total (R330). -/
def flitSend (s : State) (f ftype cls seq : Nat) (body : List Nat) : State × List Byte :=
  let cr := creditPick s f
  let bs := flitBytes (flitHeader s f ftype cls seq cr) body
  let told := rxFreed s f cr % 2048
  let s := modClass s f cr fun x => { x with told := told }
  (modLink s f fun l => { l with ackDue := false, crNext := (cr + 1) % 6 }, bs)

/-- Fifteen empty slots. -/
def emptyBody : List Nat := List.replicate 15 0

/-- Send an IDLE flit. -/
def idleSend (s : State) (f : Nat) : State × List Byte := flitSend s f 0 0 (linkOf s f).next emptyBody

/-- The body of an INIT flit (R331) as a number, low byte first. B_CLASSES is as it was taken when this initialisation began (R349). -/
def initValue (s : State) (f : Nat) : Nat :=
  0x01 + bt (linkOf s f).rxValid 8 + bt (getF s (F.CFK_CREDIT_ALLOT_RX f 1) != 0) 9 + bt (bitF s F.GLB_NODE_VALID) 10 +
    ((List.range 6).map fun c => getF s (F.CFK_CREDIT_ALLOT_RX f c) * 2 ^ (16 + 16 * c)).sum +
    (if bitF s F.GLB_NODE_VALID then myNode s (8 + f) else 0) * 2 ^ 128

/-- Both conditions of R332 hold: the link layer is Up. -/
def linkBecomesUp (s : State) (f : Nat) : State :=
  withUsable s f fun s => cfkEvent (setF s (F.CFK_STATUS_LINK f) 2) f F.CFK_EVENT_UP

/-- Send an INIT flit; with RX_SEEN 1 after a valid INIT with RX_SEEN 1 has come it brings the link layer Up (R332). -/
def initSend (s : State) (f : Nat) : State × List Byte :=
  let l := linkOf s f
  let v := initValue s f
  let (s, bs) := flitSend s f 2 0 0 (v % 2 ^ 128 :: v / 2 ^ 128 :: List.replicate 13 0)
  (if l.rxValid && l.gotSeen then linkBecomesUp s f else s, bs)

/-- The link layer starts (R331): allotments of R198 by CFK_CTRL.B_CLASSES. -/
def linkStart (s : State) (f : Nat) : State :=
  let s := setF (linkLose s f) (F.CFK_STATUS_LINK f) 1
  let b := bitF s (F.CFK_CTRL_B_CLASSES f)
  let s := (List.range 6).foldl (fun s c => setF s (F.CFK_CREDIT_ALLOT_RX f c) (allotment b c)) s
  modLink s f fun l => { l with busyAt := s.ticks }

/-- Class c has slots to send. -/
def classHasSlots (s : State) (f c : Nat) : Bool := !((linkOf s f).cls c).txSlots.isEmpty || !(inboxOf s (4 + f) c).isEmpty

/-- Class c may send a DATA flit now (R338). -/
def classReady (s : State) (f c : Nat) : Bool :=
  classHasSlots s f c && decide (0 < txAvail s f c) && (c % 2 == 0 || bitF s (F.CFK_STATUS_PARTNER_B f))

/-- The class of the next DATA flit (R202): Management, Response, Request; A and B take turns. -/
def classPick (s : State) (f : Nat) : Option Nat :=
  [4, 2, 0].findSome? fun v =>
    if classReady s f v && classReady s f (v + 1) then some (if (linkOf s f).turnB.contains v then v + 1 else v)
    else if classReady s f v then some v else if classReady s f (v + 1) then some (v + 1) else none

/-- Take one slot of class c, from a transaction begun or from the next in the packer, and whether it is a header. -/
def slotTake (s : State) (f c : Nat) : Option (State × Nat × Bool) :=
  let l := (linkOf s f).cls c
  match l.txSlots with
  | x :: xs => some (modClass s f c fun y => { y with txSlots := xs, txHead := false }, x, l.txHead)
  | [] =>
    match inboxPop s (4 + f) c with
    | none => none
    | some (s, t) =>
      let routed := l.txCtx != some (txnRoute t.txn)
      match txnSlots l.txCtx t.txn with
      | [] => none
      | x :: xs => some (modClass s f c fun y => { y with txSlots := xs, txHead := routed, txCtx := some (txnRoute t.txn) }, x, !routed)

/-- Fill a flit's body from class c; what is left is PAD (R339). With each slot goes whether it is a header. -/
def bodyFill (s : State) (f c : Nat) : Nat → State × List (Nat × Bool)
  | 0 => (s, [])
  | n + 1 =>
    match slotTake s f c with
    | none => (s, List.replicate (n + 1) (0, false))
    | some (s, x) => let (s, xs) := bodyFill s f c n; (s, x :: xs)

/-- Send a new DATA flit of class c: it takes a SEQ, enters the replay buffer and spends a credit (R330, R335, R337). -/
def dataSend (s : State) (f c : Nat) : State × List Byte :=
  let (s, slots) := bodyFill s f c 15
  let body := slots.map fun x => x.1
  let heads := (slots.zipIdx.filter fun x => x.1.2).map fun x => x.2
  let seq := (linkOf s f).next
  let (s, bs) := flitSend s f 1 c seq body
  let s := modClass s f c fun x => { x with sent := x.sent + 1 }
  let s := modLink s f fun l =>
    { l with next := (seq + 1) % 4096, replay := l.replay ++ [{ seq := seq, cls := c, body := body, heads := heads }], busyAt := s.ticks,
             turnB := if c % 2 == 0 then (if l.turnB.contains c then l.turnB else c :: l.turnB) else l.turnB.erase (c - 1) }
  (showReplay (showCredit s f c) f, bs)

/-- Resend one flit of a replay (R335). -/
def replaySend (s : State) (f seq : Nat) (rest : List Nat) : State × List Byte :=
  let l := linkOf s f
  match l.replay.find? fun x => x.seq == seq with
  | none => idleSend (showReplay (setLink s f { l with resend := rest }) f) f
  | some x =>
    let (s, bs) := flitSend s f 1 x.cls x.seq x.body
    (showReplay (modLink s f fun l => { l with resend := rest }) f, bs)

/-- The next flit a port sends (R330, R332, R335). -/
def flitNext (s : State) (f : Nat) (first : Bool) : State × List Byte :=
  let l := linkOf s f
  if !linkUp s f then (if first && !l.initBad then initSend s f else idleSend s f)
  else match l.resend with
    | q :: qs => replaySend s f q qs
    | [] =>
      match classPick s f with
      | some c => if l.replay.length < 2048 then dataSend s f c else idleSend s f
      | none => idleSend s f

/-- The lanes of a port send levels: precoded while precoding is in effect (R290, R292). -/
def lanesSend (s : State) (f : Nat) (ls : List (List Nat)) : State × List (List Nat) :=
  let l := linkOf s f
  let out := ls.zipIdx.map fun x => laneOut (bitF s (F.CFP_STATUS_PRECODE_TX f)) (coef l.txPre x.2) x.1
  (setLink s f { l with txPre := out.zipIdx.map fun x => x.1.getLastD (coef l.txPre x.2) }, out)

/-- The markers of all lanes, where a marker period begins (R301, R302). -/
def markerSend (s : State) (f : Nat) : State :=
  let l := linkOf s f
  if l.txPos % markerPeriod != 0 then s
  else
    let m (i : Nat) : Nat := markerValue i (getF s (F.CFP_STATUS_RATE f)) l.txMarks (bitF s (F.CFP_STATUS_PRECODE_TX f)) (l.txPos == 0)
    let (s, out) := lanesSend s f ((List.range 8).map fun i => markerLevels (m i))
    emit (modLink s f fun l => { l with txMarks := (l.txMarks + 1) % 2 ^ 32 }) (.calfosMarker f out)

/-- A frame on the line (R290, R296 to R298), after the markers that are due. -/
def wireFrame (s : State) (f code : Nat) (a b : List Byte) : State :=
  let s := markerSend s f
  let n := (linkOf s f).txPos % markerPeriod
  let cw := rsEncode (frameMessage code a b)
  let (s, out) := lanesSend s f ((List.range 8).map fun i => frameLane n i cw)
  emit (modLink s f fun l => { l with txPos := l.txPos + 1 }) (.calfosFrame f code a b out)

/-- A marker epoch of the transmit direction begins (R301): after the last training frame (R292). -/
def epochStart (l : Link) : Link := { l with txPos := 0, txMarks := 0, txPre := [] }

/-- The link layer has something to send: slots, a replay, an acknowledgement or a credit return (R312). -/
def linkHasWork (s : State) (f : Nat) : Bool :=
  let l := linkOf s f
  !l.resend.isEmpty || l.ackDue || l.nak || (List.range 6).any (fun c => classHasSlots s f c) ||
    (creditClasses s f).any fun c => rxFreed s f c % 2048 != (l.cls c).told

/-- Send a frame of two flits with the PCTL code in effect (R296, R299). Traffic ends an entry into Drift; the last frame of DRIFT is followed by it
(R311, R320). -/
def frameSend (s : State) (f : Nat) : State :=
  let s := if (linkOf s f).pctl == 1 && linkHasWork s f then modLink s f fun l => { l with pctlLeft := 0 } else s
  let (s, a) := flitNext s f true
  let (s, b) := flitNext s f false
  let l := linkOf s f
  let s := wireFrame (setLink s f { l with pctlLeft := l.pctlLeft - 1 }) f (if l.pctlLeft == 0 then 0 else l.pctl) a b
  if l.pctl == 1 && l.pctlLeft == 1 then setF s (F.CFP_STATUS_TX_DRIFT f) 1 else s

/-- Send n frames of IDLE flits that carry a PCTL code. -/
def ctlFrames (s : State) (f code : Nat) : Nat → State
  | 0 => s
  | n + 1 =>
    let (s, a) := idleSend s f
    let (s, b) := idleSend s f
    ctlFrames (wireFrame s f code a b) f code n

/-! ### Retraining and replay (R315, R335, R336) -/

/-- The port enters Retraining (R311): RETRAIN in 16 frames, then steps 4 to 6. -/
def retrainEnter (s : State) (f : Nat) : State :=
  if cfpState s f != cfpActive then s
  else
    let s := if bitF s (F.CFP_STATUS_TX_DRIFT f) then s else ctlFrames s f 5 16
    withUsable s f fun s =>
      let s := cfpEvent (cfpEnter s f cfpRetraining) f F.CFP_EVENT_RETRAIN
      let s := setF (setF (setF s (F.CFP_STATUS_RX_DRIFT f) 0) (F.CFP_STATUS_TX_DRIFT f) 0) (F.CFP_STATUS_ALIGNED f) 0
      modLink s f fun l => { l with
                             step := 4, eqDone := false, preAsk := false, count := 255, lineUp := false, rxLanes := [], preReq := false
                             txLanes := l.txLanes.map fun x => (x.1, { x.2 with ready := false, askPreset := none, askPre := 0, askPost := 0 }), hush := 0, doze := false, driftSeen := false, pctlLeft := 0, hist := [], badAt := [] }

/-- A replay is due (R335): every unacknowledged flit is resent in order; past the limit the port retrains instead (R336). -/
def replayStart (s : State) (f : Nat) : State :=
  let l := linkOf s f
  if getF s (F.CFK_CTRL_REPLAY_LIMIT f) ≤ l.row then
    retrainEnter (modLink (cfkEvent s f F.CFK_EVENT_REPLAY_LIMIT) f fun l => { l with row := 0, resend := [], nakFor := none }) f
  else
    let s := bump s (F.CFK_COUNT_REPLAYS f)
    showReplay (modLink s f fun l => { l with row := l.row + 1, resend := l.replay.map fun x => x.seq }) f

/-- On return to Active from Retraining a replay starts from the oldest unacknowledged flit (R336, R347). -/
def replayAgain (s : State) (f : Nat) : State :=
  if (linkOf s f).replay.isEmpty then s
  else showReplay (modLink (bump s (F.CFK_COUNT_REPLAYS f)) f fun l =>
    { l with nakFor := none, row := l.row + 1, resend := l.replay.map fun x => x.seq }) f

end Sys2Proof.Machine
end

