-- ==== Sys2Proof/Machine/Phy.lean ====
section
/-!
DEFINITION. The Calfos physical layer (chapter 11): the sideband (R356 to R360), training (R304 to R310), alignment markers (R301 to R303), Drift, Hush
and Retraining (R311 to R315), with the commands of that chapter and the timers of chapter 12.
-/
namespace Sys2Proof.Machine

/-! ### The sideband -/

/-- CRC-32C (R251). -/
def crc32c (bs : List Byte) : Nat := Nat.xor (sealBytes 0 (sealMask 0) bs) (sealMask 0)

/-- The header word of a sideband frame (R357). -/
def sbHeader (type len id flags : Nat) : Nat := type + len * 2 ^ 8 + id * 2 ^ 16 + flags * 2 ^ 24

/-- The bytes of a sideband frame (R357): preamble, delimiter, header, payload, CHECK. -/
def sbBytes (type id flags : Nat) (payload : List Byte) : List Byte :=
  let body := leBytes 4 (sbHeader type payload.length id flags) ++ payload
  [0x55, 0x55, 0x55, 0x55, 0xD5] ++ body ++ leBytes 4 (crc32c body)

/-- The clock pair of port f carries a clock, so a frame travels in-band (R319, R360). -/
def inBand (s : State) (f : Nat) : Bool :=
  cfpState s f == cfpActive || cfpState s f == cfpRetraining || (cfpState s f == cfpTraining && decide (2 ≤ (linkOf s f).step)) ||
    (cfpState s f == cfpHush && (linkOf s f).exiting && decide (4 ≤ (linkOf s f).step))

/-- The chain Message that carries a frame in-band (R360). -/
def chainMessage (type id flags : Nat) (payload : List Byte) : FabReq :=
  { op := .message, dest := 0xFFFFF, src := 0xFFFFF, tenant := 0, tag := 0, addr := 0, len := payload.length, data := payload,
    code := 0xC000 + type, vdh := sbHeader type payload.length id flags, mgmt := true }

/-- Send a frame on a port's pair, in-band or on the sideband (R360). -/
def sbSend (s : State) (f type id flags : Nat) (payload : List Byte) : State :=
  if inBand s f then setInbox s (4 + f) 4 (inboxOf s (4 + f) 4 ++ [{ ingress := 16, txn := .req (chainMessage type id flags payload) }])
  else emit s (.sideband f (sbBytes type id flags payload))

/-! ### Training (R304 to R310) -/

/-- A control block (R305) from its fields below CHECK. -/
def blockBytes (v : Nat) : List Byte := leBytes 12 v ++ leBytes 4 (crc32c (leBytes 12 v))

/-- The CAP block of a port (R305). -/
def capBlock (s : State) (f : Nat) : List Byte :=
  let l := linkOf s f
  blockBytes (0x1 + l.step * 2 ^ 4 + l.maxRate * 2 ^ 12 + 2 ^ 14 + l.attempt * 2 ^ 56)

/-- The fields a TRAIN or ABORT block of a lane holds below CHECK (R305). -/
def blockFields (s : State) (f lane type : Nat) : Nat :=
  let l := linkOf s f
  let t := mget l.txLanes lane {}
  type + l.step * 2 ^ 4 + getF s (F.CFP_STATUS_RATE f) * 2 ^ 10 + l.maxRate * 2 ^ 12 + 2 ^ 14 + bt l.preAsk 15 + bt l.eqDone 16 + lane * 2 ^ 24 +
    t.askPreset.getD 0 * 2 ^ 36 + bt t.askPreset.isSome 39 + t.preSt * 2 ^ 40 + t.postSt * 2 ^ 42 + t.askPre * 2 ^ 44 + t.askPost * 2 ^ 46 +
    l.attempt * 2 ^ 56 + l.count * 2 ^ 64

/-- The TRAIN block that a port sends on a lane. -/
def trainBlock (s : State) (f lane : Nat) : List Byte := blockBytes (blockFields s f lane 2)

/-- A received block as a number, if its CHECK holds and it carries no reserved encoding (R305). -/
def blockOf (bs : List Byte) : Option Nat :=
  let v := leNat bs
  let bad := bs.length != 16 || leNat (bs.drop 12) != crc32c (bs.take 12) || bits v 0 4 == 0 || decide (3 < bits v 0 4) ||
    bits v 4 4 == 0 || decide (6 < bits v 4 4) || bits v 10 2 == 3 || bits v 12 2 == 3 || bits v 40 2 == 3 || bits v 42 2 == 3 ||
    bits v 44 2 == 3 || bits v 46 2 == 3
  if bad then none else some v

/-- Pre-tap and post-tap of a preset, in units of 1/32 (R306). -/
def presetTaps (p : Nat) : Nat × Nat :=
  match p with
  | 1 => (0, 4)
  | 2 => (0, 8)
  | 3 => (2, 4)
  | 4 => (4, 4)
  | 5 => (2, 0)
  | 6 => (4, 0)
  | 7 => (4, 8)
  | _ => (0, 0)

/-- Set the taps of a transmit lane. -/
def setTaps (s : State) (f lane : Nat) (t : Nat × Nat) : State :=
  setF (setF s (F.CFP_LANE_TX_PRE f lane) t.1) (F.CFP_LANE_TX_POST f lane) t.2

/-- Change what is kept of a transmit lane. -/
def modTx (s : State) (f lane : Nat) (g : TxLane → TxLane) : State :=
  modLink s f fun l => { l with txLanes := mset l.txLanes lane (g (mget l.txLanes lane {})) {} }

/-- One step of a tap as a request asks, and the status reported (R306, R307). -/
def tapStep (v req limit : Nat) : Nat × Nat :=
  if req == 1 then (if v < limit then (v + 1, 1) else (v, 2)) else (if v == 0 then (v, 2) else (v - 1, 1))

/-- A PRE_REQ or POST_REQ (R307): acted on when it changes from hold; the status returns to not updated with hold. -/
def tapReq (s : State) (tap : Fld) (limit old req st : Nat) : State × Nat :=
  if req == 0 then (s, 0)
  else if old != 0 then (s, st)
  else let (v, st) := tapStep (getF s tap) req limit; (setF s tap v, st)

/-- The statuses of the requests sent on a lane (R307): a request whose status is not "not updated" returns to hold. -/
def TxLane.told (t : TxLane) (pre post : Nat) : TxLane :=
  { t with seenPre := pre, seenPost := post, askPre := if pre == 0 then t.askPre else 0, askPost := if post == 0 then t.askPost else 0
           askPreset := if pre == 0 && post == 0 then t.askPreset else none }

/-- The partner has reported RX_READY on every lane. -/
def partnerReady (l : Link) : Bool := (List.range 8).all fun i => (mget l.txLanes i {}).ready

/-- Step 4 ends once both receivers are ready on every lane (R308): this direction is precoded as the partner has asked (R310), and COUNTDOWN starts. -/
def stepFourEnd (s : State) (f : Nat) : State :=
  let l := linkOf s f
  if l.step == 4 && l.eqDone && partnerReady l then setLink (setB s (F.CFP_STATUS_PRECODE_TX f) l.preReq) f { l with step := 5, count := 31 } else s

/-- A TRAIN block on lane `lane` (R307, R310): what it asks of the transmit lane, what it reports of the requests sent, and the block that answers it. -/
def blockTrain (s : State) (f lane v : Nat) : State :=
  let t := mget (linkOf s f).txLanes lane {}
  let pv := tb v 39
  let preset := pv && !t.presetValid
  let s := if preset then setTaps s f lane (presetTaps (bits v 36 3)) else s
  let (s, preSt) := tapReq s (F.CFP_LANE_TX_PRE f lane) 8 t.preReq (bits v 44 2) t.preSt
  let (s, postSt) := tapReq s (F.CFP_LANE_TX_POST f lane) 12 t.postReq (bits v 46 2) t.postSt
  let s := modTx s f lane fun t =>
    { t with presetValid := pv, preReq := bits v 44 2, postReq := bits v 46 2, preSt := if preset then 1 else preSt,
             postSt := if preset then 1 else postSt, ready := tb v 16 }
  let s := modTx s f lane fun t => t.told (bits v 40 2) (bits v 42 2)
  let s := modLink s f fun l => { l with preReq := l.preReq || (bits v 4 4 == 4 && tb v 15), capSup := l.capSup || tb v 14 }
  let s := stepFourEnd s f
  emit s (.trainBlock f lane (trainBlock s f lane))

/-- A port trains or retrains and exchanges training frames. -/
def inTraining (s : State) (f : Nat) : Bool :=
  (cfpState s f == cfpTraining || cfpState s f == cfpRetraining) && decide (2 ≤ (linkOf s f).step)

/-- An attempt fails: the port that detects it sends ABORT on every lane for 16 training frames (R309). -/
def attemptFail (s : State) (f : Nat) : State :=
  let bs := (List.range 8).map fun l => Emit.trainAbort f l (blockBytes (blockFields s f l 3)) 16
  trainFail (bs.foldl emit s) f

/-- While the receiver equalises, it asks one thing at a time of a lane of the partner's (R307, R308): a preset, or a step of a tap. What it asks is its
equaliser's choice, a free value (assumption 133). -/
def askNext (s : State) (f lane : Nat) : State :=
  let l := linkOf s f
  let t := mget l.txLanes lane {}
  if !inTraining s f || l.step != 4 || l.eqDone || t.askPreset.isSome || t.askPre != 0 || t.askPost != 0 || t.seenPre != 0 || t.seenPost != 0 then s
  else
    let (v, s) := drawFree s
    modTx s f lane fun t => match v % 4 with
      | 1 => { t with askPreset := some (bits v 2 3) }
      | 2 => { t with askPre := 1 + bits v 2 1 }
      | 3 => { t with askPost := 1 + bits v 2 1 }
      | _ => t

/-- One training frame of a lane (R304): its control block, and its pattern, on which PRBS13 runs on. -/
def laneFrame (s : State) (f lane : Nat) : State :=
  let p := (mget (linkOf s f).txLanes lane {}).prbs
  modTx (emit s (.trainFrame f lane (trainingFrame (leNat (trainBlock s f lane)) p))) f lane fun t => { t with prbs := prbsSkip 1 7040 p }

/-- A training frame on every lane; the one with COUNTDOWN 0 is the last, and the marker epoch follows it (R301, R308, R314). -/
def trainFrames (s : State) (f : Nat) : State :=
  let s := (List.range 8).foldl (fun s l => laneFrame (askNext s f l) f l) s
  let l := linkOf s f
  if l.step != 5 then s
  else if l.count == 0 then setLink s f { epochStart l with count := 255, lineUp := true }
  else setLink s f { l with count := l.count - 1 }

/-- Begin step 2 at a rate (R308): the taps at the preset, and the first training frame of every lane, its PRBS13 seeded (R304). -/
def stepTwo (s : State) (f rate : Nat) : State :=
  let s := setF s (F.CFP_STATUS_RATE f) rate
  let s := (List.range 8).foldl (fun s l => modTx (setTaps s f l (presetTaps (linkOf s f).preset)) f l fun t => { t with prbs := 0x1FF0 + l }) s
  trainFrames (modLink s f fun l => { l with step := 2 }) f

/-- The partner's CAP block fixes the rate (R308): the lowest of both MAX_RATE values and the fallback rate. -/
def capTake (s : State) (f : Nat) (v : Nat) : State :=
  let l := linkOf s f
  stepTwo (setLink s f { l with capSup := tb v 14 }) f (max (max l.maxRate (bits v 12 2)) l.fallback)

/-- Step 3 passed: clock present, lanes ordered, polarity fixed. -/
def stepThree (s : State) (f : Nat) (x : TrainFound) : State :=
  let s := setF s (F.CFP_STATUS_CLK_RX f) 1
  let s := (List.range 8).foldl (fun s l =>
    setB (setF s (F.CFP_LANE_PHYS f l) ((x.phys[l]?.map Fin.val).getD l)) (F.CFP_LANE_POLARITY f l) ((x.inverted[l]?).getD false)) s
  modLink s f fun l => { l with step := 4 }

/-- Interpolator codes as the receiver set them. -/
def codesSet (s : State) (f : Nat) (x : TrainFound) : State :=
  (List.range 8).foldl (fun s i => setF s (F.CFP_LANE_PI_CODE f i) ((x.codes[i]?.map BitVec.toNat).getD (getF s (F.CFP_LANE_PI_CODE f i)))) s

/-- The receiver has equalised every lane in step 4: interpolators set, its requests back to hold, the partner asked for precoding where decision errors
would run in bursts (R310), RX_READY sent on every lane (R308). -/
def stepFour (s : State) (f : Nat) (x : TrainFound) : State :=
  let s := codesSet s f x
  let ask := bitF s (F.CFP_CTRL_PRECODE_REQ_EN f) && x.bursts
  let s := setB s (F.CFP_STATUS_PRECODE_RX f) (ask && (linkOf s f).capSup)
  let s := modLink s f fun l => { l with
    eqDone := true, preAsk := ask, txLanes := l.txLanes.map fun y => (y.1, { y.2 with askPreset := none, askPre := 0, askPost := 0 }) }
  let s := (List.range 8).foldl (fun s i => emit s (.trainBlock f i (trainBlock s f i))) s
  stepFourEnd s f

/-- The port becomes Active: from Training the link layer starts; from Retraining it goes on (R311, R331, R336). -/
def phyActive (s : State) (f : Nat) : State :=
  let re := cfpState s f == cfpRetraining
  withUsable s f fun s =>
    let s := cfpEvent (cfpEnter s f cfpActive) f F.CFP_EVENT_UP
    let s := modLink s f fun l => { l with step := 0, frames := 0, badAt := [] }
    if re then replayAgain (cfpEvent (bump s (F.CFP_FEC_RETRAINS f)) f F.CFP_EVENT_RETRAIN) f else linkStart s f

/-- The end of a step of a Hush exit (R314): step 3, from which the clock runs and training frames go out at the retained settings; and step 4, the
partner's clock present and the interpolators adjusted, after which COUNTDOWN is sent. -/
def hushStep (s : State) (f : Nat) (x : TrainFound) : State :=
  let l := linkOf s f
  if l.step == 3 then setLink s f { l with step := 4 }
  else if l.step == 4 then setLink (setF (codesSet s f x) (F.CFP_STATUS_CLK_RX f) 1) f { l with step := 5, count := 31 }
  else s

/-- The end of a training step (R308): step 5 once the COUNTDOWN has been sent and the marker epoch has begun. -/
def stepDone (s : State) (f : Nat) (x : TrainFound) : State :=
  let l := linkOf s f
  if cfpState s f == cfpHush && l.exiting then hushStep s f x
  else if !inTraining s f then s
  else match l.step with
    | 2 => setLink s f { l with step := 3 }
    | 3 => stepThree s f x
    | 4 => if l.eqDone then s else stepFour s f x
    | 5 => if l.lineUp then setLink s f { l with step := 6, good := 0, fixed := 0 } else s
    | _ => if bitF s (F.CFP_STATUS_ALIGNED f) && decide (65536 ≤ l.good) && decide (l.fixed ≤ getF s (F.CFP_TRAIN_SER_LIMIT f)) then phyActive s f else s

/-- CALFOS_PORT_ENABLE (R311, R320, R504). -/
def portEnable (s : State) (f : Nat) (who : Party) (en : Bool) : State :=
  if !regOpen s who (A.CFP_CTRL f) then s
  else if en then portWake (setF s (F.CFP_CTRL_EN f) 1) f
  else
    let s := setF s (F.CFP_CTRL_EN f) 0
    if cfpState s f == cfpOff then modLink s f fun l => { l with retry := false }
    else modLink (portOff s f) f fun l => { l with retry := false }

/-- CALFOS_PORT_ENABLE. -/
def execCalfosPortEnable (f : Fin 8) (who : Party) (en : Bool) (s : State) : Host.Outcome State Fault Refusal := .next (portEnable s f who en)

/-- CFP_CTRL.RETRAIN (R321). -/
def portRetrain (s : State) (f : Nat) (who : Party) : State :=
  if !regOpen s who (A.CFP_CTRL f) then s
  else
    let s := if cfpState s f == cfpOff then s else portOff s f
    portWake (modLink s f fun l => { l with retry := false }) f

/-- CALFOS_RETRAIN_CMD. -/
def execCalfosRetrainCmd (f : Fin 8) (who : Party) (s : State) : Host.Outcome State Fault Refusal := .next (portRetrain s f who)

/-- CAP_BLOCK_SEND (R308). -/
def execCapBlockSend (f : Fin 8) (s : State) : Host.Outcome State Fault Refusal :=
  .next <| if cfpState s f == cfpTraining && (linkOf s f).step == 1 then emit s (.sideband f (sbBytes 1 0 0 (capBlock s f))) else s

/-- TRAIN_CAP_RECEIVED (R305, R308). -/
def execTrainCapReceived (f : Fin 8) (block : List Byte) (s : State) : Host.Outcome State Fault Refusal :=
  .next <|
    if cfpState s f == cfpTraining && (linkOf s f).step == 1 then
      match blockOf block with
      | none => s
      | some v => if bits v 0 4 == 1 then capTake s f v else s
    else s

/-- TRAINING_STEP_COMPLETE. -/
def execTrainingStepComplete (f : Fin 8) (x : TrainFound) (s : State) : Host.Outcome State Fault Refusal := .next (stepDone s f x)

/-- TRAINING_STEP_TIMEOUT (R309): a step other than 1 exceeds its bound. -/
def execTrainingStepTimeout (f : Fin 8) (s : State) : Host.Outcome State Fault Refusal :=
  .next <| if cfpState s f == cfpTraining && decide (2 ≤ (linkOf s f).step) then attemptFail s f else s

/-- An ABORT block arrives (R309). -/
def abortTake (s : State) (f : Nat) : State := if inTraining s f then trainFail s f else s

/-- TRAINING_ABORT_RECEIVED. -/
def execTrainingAbortReceived (f : Fin 8) (s : State) : Host.Outcome State Fault Refusal := .next (abortTake s f)

/-- TRAINING_BLOCK_RECEIVE (R305, R307). -/
def execTrainingBlockReceive (f : Fin 8) (lane : Fin 8) (block : List Byte) (s : State) : Host.Outcome State Fault Refusal :=
  .next <|
    match blockOf block with
    | none => s
    | some v =>
      if !inTraining s f then s
      else if bits v 0 4 == 2 then blockTrain s f lane v
      else if bits v 0 4 == 3 then abortTake s f else s

/-- TRAINING_RETRY_EXPIRE (R309). -/
def execTrainingRetryExpire (f : Fin 8) (s : State) : Host.Outcome State Fault Refusal :=
  .next <|
    if (linkOf s f).retry && getF s (F.CFP_TRAIN_RETRY f) != 0 then portWake (modLink s f fun l => { l with retry := false }) f else s

/-! ### Alignment markers (R301 to R303) -/

/-- Count the 1 bits among the low n bits. -/
def onesIn : Nat → Nat → Nat
  | 0, _ => 0
  | n + 1, v => v % 2 + onesIn n (v / 2)

/-- A first marker is exact (R303). -/
def markerExact (m : Nat) : Bool :=
  bits m 0 64 == 0x4B1ED2A735C98F06 && bits m 0 128 + bits m 128 128 == 2 ^ 128 - 1 && tb m 75 && bits m 96 32 == 0

/-- A Hush exit is complete: both directions Active (R314). -/
def hushDone (s : State) (f : Nat) : State :=
  withUsable s f fun s =>
    let s := setF (cfpEnter s f cfpActive) (F.CFP_STATUS_CLK_RX f) 1
    modLink s f fun l => { l with exiting := false, step := 0, frames := 0, badAt := [], hist := [], busyAt := s.ticks }

/-- Step 5 of a Hush exit ends once this side's marker epoch has begun and its receiver has aligned (R314). -/
def hushCheck (s : State) (f : Nat) : State :=
  if cfpState s f == cfpHush && (linkOf s f).exiting && (linkOf s f).lineUp && bitF s (F.CFP_STATUS_ALIGNED f) then hushDone s f else s

/-- Every lane's marker has come: deskew (R303), or for a Hush exit compare with the retained skew (R314). -/
def lanesAlign (s : State) (f : Nat) : State :=
  let ls := (linkOf s f).rxLanes.map fun x => x.2
  let base := ls.foldl (fun m x => min m x.arrived) (ls.headD { lane := 0, seq := 0 }).arrived
  if ls.length != 8 || (ls.map fun x => x.lane).eraseDups.length != 8 || ls.any fun x => 512 < x.arrived - base then s
  else
    let hush := cfpState s f == cfpHush
    let far := ls.any fun x =>
      let old := getF s (F.CFP_LANE_SKEW f x.lane)
      decide (old + 4 < x.arrived - base) || decide (x.arrived - base + 4 < old)
    if hush && far then trainFrom s f (getF s (F.CFP_STATUS_RATE f))
    else
      let s := ls.foldl (fun s x => setF s (F.CFP_LANE_SKEW f x.lane) (x.arrived - base)) s
      let s := modLink (setF s (F.CFP_STATUS_ALIGNED f) 1) f fun l => { l with rxPos := 0 }
      hushCheck s f

/-- A receive lane expects markers: from step 5 of training, in a Hush exit, and while Active and not in Drift. -/
def markersExpected (s : State) (f : Nat) : Bool :=
  (inTraining s f && decide (5 ≤ (linkOf s f).step)) || (cfpState s f == cfpHush && (linkOf s f).exiting) ||
    (cfpState s f == cfpActive && !bitF s (F.CFP_STATUS_RX_DRIFT f))

/-- A marker arrives on a physical lane. -/
def markerTake (s : State) (f phys m arrived : Nat) : State :=
  if !markersExpected s f then s
  else match mfind (linkOf s f).rxLanes phys with
    | none =>
      if !markerExact m || decide (7 < bits m 64 8) then s
      else
        let lane := bits m 64 8
        let s := setF s (F.CFP_LANE_PHYS f lane) phys
        lanesAlign (modLink s f fun l => { l with rxLanes := mput l.rxLanes phys { lane := lane, seq := 1, arrived := arrived } }) f
    | some x =>
      let want := markerValue x.lane (getF s (F.CFP_STATUS_RATE f)) x.seq (bitF s (F.CFP_STATUS_PRECODE_RX f)) false
      let ok := decide (onesIn 256 (Nat.xor m want) ≤ 16)
      let n := if ok then 0 else x.misses + 1
      let s := modLink s f fun l => { l with rxLanes := mput l.rxLanes phys { x with seq := (x.seq + 1) % 2 ^ 32, misses := n } }
      if 3 ≤ n then retrainEnter s f else s

/-- ALIGNMENT_MARKER_RECEIVE. -/
def execAlignmentMarkerReceive (f : Fin 8) (lane : Fin 8) (m : BitVec 256) (arrived : Nat) (s : State) : Host.Outcome State Fault Refusal :=
  .next (markerTake s f lane m.toNat arrived)

/-! ### Drift (R312) -/

/-- SETTLE frames of a Drift exit at a rate. -/
def settleFrames (rate : Nat) : Nat := if rate == 0 then 16 else if rate == 1 then 8 else 4

/-- Places of markers among n frames from a place on (R301). -/
def markersIn (pos n : Nat) : Nat := (pos + n + markerPeriod - 1) / markerPeriod - (pos + markerPeriod - 1) / markerPeriod

/-- n SETTLE frames that end a stretch of Drift, with the markers that fall due among them (R312). How many frames the stretch lasted and the levels its
SETTLE frames end on are free values: no marker was sent in it, and its frames are counted as if they had been sent. -/
def settleSend (s : State) (f n : Nat) : State :=
  let (d, s) := drawFree s
  let (v, s) := drawFree s
  let s := modLink s f fun l =>
    { l with txPos := l.txPos + d + n, txMarks := (l.txMarks + markersIn (l.txPos + d) n) % 2 ^ 32
             txPre := (List.range 8).map fun i => bits v (2 * i) 2 }
  emit s (.calfosSettle f n)

/-- The transmit direction leaves Drift. -/
def driftExit (s : State) (f : Nat) : State :=
  settleSend (setF s (F.CFP_STATUS_TX_DRIFT f) 0) f (settleFrames (getF s (F.CFP_STATUS_RATE f)))

/-- DRIFT_ENTER: the next four frames carry DRIFT, and the direction enters Drift after them unless traffic comes (R311, R312, R320). -/
def execDriftEnter (f : Fin 8) (s : State) : Host.Outcome State Fault Refusal :=
  .next <|
    if cfpState s f == cfpActive && bitF s (F.CFP_PM_DRIFT_EN f) && !bitF s (F.CFP_STATUS_TX_DRIFT f) && linkUp s f && !linkHasWork s f &&
        (linkOf s f).hush == 0 && (linkOf s f).pctlLeft == 0
    then modLink s f fun l => { l with pctl := 1, pctlLeft := 4 } else s

/-- DRIFT_EXIT. -/
def execDriftExit (f : Fin 8) (s : State) : Host.Outcome State Fault Refusal :=
  .next <|
    if cfpState s f == cfpActive && bitF s (F.CFP_STATUS_TX_DRIFT f) && (linkHasWork s f || (linkOf s f).pctlLeft != 0)
    then driftExit s f else s

/-- DRIFT_REFRESH. -/
def execDriftRefresh (f : Fin 8) (s : State) : Host.Outcome State Fault Refusal :=
  .next <| if cfpState s f == cfpActive && bitF s (F.CFP_STATUS_TX_DRIFT f) then settleSend s f 64 else s

/-- RECEIVE_DRIFT_ENTER (R320): the data lanes go idle after DRIFT frames. -/
def execReceiveDriftEnter (f : Fin 8) (s : State) : Host.Outcome State Fault Refusal :=
  .next <|
    if cfpState s f == cfpActive && (linkOf s f).driftSeen then
      modLink (setF s (F.CFP_STATUS_RX_DRIFT f) 1) f fun l => { l with driftSeen := false, hist := [] }
    else s

/-- RECEIVE_DRIFT_EXIT: the frames counted while in Drift (R312) are a free value. -/
def execReceiveDriftExit (f : Fin 8) (s : State) : Host.Outcome State Fault Refusal :=
  .next <|
    if cfpState s f == cfpActive && bitF s (F.CFP_STATUS_RX_DRIFT f) then
      let (d, s) := drawFree s
      modLink (setF s (F.CFP_STATUS_RX_DRIFT f) 0) f fun l => { l with rxPos := l.rxPos + d, driftSeen := true }
    else s

/-! ### Hush (R313, R314) -/

/-- The device is entering Doze: PWM_CMD DOZE is in progress (R459). -/
def dozing (s : State) : Bool := bitF s F.PWM_CMD_STATUS_BUSY && getF s F.PWM_CMD_STATUS_OP == 2

/-- The link layer has nothing to send or unacknowledged (R313, R347). -/
def linkQuiet (s : State) (f : Nat) : Bool := !linkHasWork s f && (linkOf s f).replay.isEmpty

/-- The conditions of R313 hold on this side. -/
def hushReady (s : State) (f : Nat) : Bool :=
  linkUp s f && linkQuiet s f &&
    (dozing s || (bitF s (F.CFP_PM_HUSH_EN f) && decide (getF s (F.CFP_PM_HUSH_IDLE f) * 10 ≤ s.ticks - (linkOf s f).busyAt)))

/-- Begin to send HUSH_REQ in every frame (R313); a direction in Drift leaves it. -/
def hushAsk (s : State) (f : Nat) : State :=
  let s := if bitF s (F.CFP_STATUS_TX_DRIFT f) then driftExit s f else s
  let d := dozing s
  modLink s f fun l => { l with hush := 1, doze := d, pctl := 2, pctlLeft := 64 }

/-- HUSH_REQUEST: HUSH_IDLE has passed with nothing sent and only idle flits received, or the device enters Doze. -/
def execHushRequest (f : Fin 8) (s : State) : Host.Outcome State Fault Refusal :=
  .next <|
    if cfpState s f == cfpActive && linkUp s f && linkQuiet s f && (dozing s || bitF s (F.CFP_PM_HUSH_EN f)) && (linkOf s f).hush == 0
    then hushAsk s f else s

/-- A handshake ends without agreement: the port stays Active (R313). -/
def hushDrop (s : State) (f : Nat) : State :=
  modLink s f fun l => { l with hush := 0, doze := false, pctlLeft := 0, busyAt := s.ticks }

/-- A Hush exit begins (R314): the initiator sends WAKE on its clock pair. -/
def hushExit (s : State) (f : Nat) (initiator : Bool) : State :=
  if cfpState s f != cfpHush || (linkOf s f).exiting then s
  else
    let s := if initiator then sbSend s f 2 0 0 [] else s
    modLink (setF s (F.CFP_STATUS_ALIGNED f) 0) f fun l => { l with exiting := true, step := 3, count := 255, lineUp := false, rxLanes := [] }

/-- The port enters Hush: four more frames of HUSH_ACK, then data lanes, PLL and clock stop (R313). Traffic that has come meanwhile starts an
exit at once (R320). -/
def hushEnter (s : State) (f : Nat) : State :=
  let s := ctlFrames s f 3 4
  let s := cfpEvent (cfpEnter s f cfpHush) f F.CFP_EVENT_HUSH
  let s := [F.CFP_STATUS_CLK_RX f, F.CFP_STATUS_RX_DRIFT f, F.CFP_STATUS_TX_DRIFT f].foldl (fun s x => setF s x 0) s
  let s := modLink s f fun l => { l with hush := 0, doze := false, pctlLeft := 0, driftSeen := false }
  if linkHasWork s f then hushExit s f true else s

/-- HUSH_ENTER. -/
def execHushEnter (f : Fin 8) (s : State) : Host.Outcome State Fault Refusal :=
  .next <| if cfpState s f == cfpActive && (linkOf s f).hush == 2 then hushEnter s f else s

/-- HUSH_EXIT_STEP_TIMEOUT (R311): full training from step 1 at the retained rate. -/
def execHushExitStepTimeout (f : Fin 8) (s : State) : Host.Outcome State Fault Refusal :=
  .next <| if cfpState s f == cfpHush && (linkOf s f).exiting then trainFrom s f (getF s (F.CFP_STATUS_RATE f)) else s

/-! ### Retraining and loss (R311) -/

/-- RETRAIN_TIMEOUT. -/
def execRetrainTimeout (f : Fin 8) (s : State) : Host.Outcome State Fault Refusal :=
  .next <| if cfpState s f == cfpRetraining then attemptFail s f else s

/-- CLOCK_LOSS: the received clock is absent for 100 ns. -/
def execClockLoss (f : Fin 8) (s : State) : Host.Outcome State Fault Refusal :=
  .next <|
    if cfpState s f == cfpActive || cfpState s f == cfpRetraining || (cfpState s f == cfpTraining && decide (3 < (linkOf s f).step))
    then portWake (portOff (cfpEvent s f F.CFP_EVENT_CLK_LOSS) f) f else s

/-! ### The link layer's timers (chapter 12) -/

/-- LINK_INIT_TIMEOUT (R332): INIT_FAIL; the side keeps trying. -/
def execLinkInitTimeout (f : Fin 8) (s : State) : Host.Outcome State Fault Refusal :=
  .next <| if getF s (F.CFK_STATUS_LINK f) == 1 then cfkEvent s f F.CFK_EVENT_INIT_FAIL else s

/-- CALFOS_FRAME_TRANSMIT: a training frame on every lane in steps 2 to 5 of training and in step 4 of a Hush exit (R304, R314, R315); from the marker epoch
on, before the port is Active, a frame of IDLE flits (R296, R308). -/
def execCalfosFrameTransmit (f : Fin 8) (s : State) : Host.Outcome State Fault Refusal :=
  .next <|
    if cfpState s f == cfpActive && !bitF s (F.CFP_STATUS_TX_DRIFT f) then frameSend s f
    else if inTraining s f || (cfpState s f == cfpHush && (linkOf s f).exiting && decide (4 ≤ (linkOf s f).step)) then
      (if (linkOf s f).lineUp then ctlFrames s f 0 1 else hushCheck (trainFrames s f) f)
    else s

/-- ACK_DELAY_EXPIRE (R333): the acknowledgement due is sent. -/
def execAckDelayExpire (f : Fin 8) (s : State) : Host.Outcome State Fault Refusal :=
  .next <|
    if cfpState s f == cfpActive && (linkOf s f).ackDue then frameSend (if bitF s (F.CFP_STATUS_TX_DRIFT f) then driftExit s f else s) f else s

/-- REPLAY_TIMEOUT (R335). -/
def execReplayTimeout (f : Fin 8) (s : State) : Host.Outcome State Fault Refusal :=
  .next <| if cfpState s f == cfpActive && linkUp s f && !(linkOf s f).replay.isEmpty then replayStart s f else s

end Sys2Proof.Machine
end

