-- ==== Sys2Proof/Machine/Rootstock.lean ====
section
/-!
DEFINITION. Rootstock (chapter 17): the word store with its classes, wear and write buckets, the write queue, the configuration beds and their
selection, and the commands of that chapter.
-/
namespace Sys2Proof.Machine

/-- Set an event bit of the Rootstock controller (R452). -/
def rootEvent (s : State) (f : Fld) : State := setEv s f 6

/-- Indexes of named words (R438, R440). -/
def rwSerial : Nat := 6144
def rwFabricId : Nat := 6152
def rwPosition : Nat := 6153
def rwStrapOvr : Nat := 6154
def rwFwTry : Nat := 6155
def rwMinFw : Nat := 6156
def rwRevoke : Nat := 6157
def rwTendril : Nat := 6158
def rwCounter (i : Nat) : Nat := 6208 + i
/-- Word w of bed b (1 A, 2 B). -/
def bedIndex (b w : Nat) : Nat := (b - 1) * 3072 + w

/-- The class of a word (R434, R438). -/
def rootClass (i : Nat) : Nat :=
  if i < 6144 then (if i % 3072 == 2 then 6 else 5)
  else if i < 6152 then 1
  else if i == rwMinFw then 2
  else if i == rwRevoke then 3
  else if i == rwTendril || (6160 ≤ i && i < 6196) then 4
  else if i == 6159 || (6196 ≤ i && i < 6208) then 7
  else 0

/-- The stored value of a word. -/
def rootStored (s : State) (i : Nat) : Nat := mget s.root.words i 0

/-- What an uncorrectable word reads as to its owner (R435): keys, revocation, version floor and Tendril allowance fail closed. -/
def failClosed (i found : Nat) : Nat :=
  if i == rwRevoke then 0xF else if i == rwMinFw then 0xFFFFFFFF else if i == rwTendril then 0 else found

/-- A word as the device's own controllers read it. -/
def rootWord (s : State) (i : Nat) : Nat :=
  match mfind s.root.uncorr i with
  | none => rootStored s i
  | some v => failClosed i v

/-- The value a word will hold once the queued writes are done. -/
def rootComing (s : State) (i : Nat) : Nat :=
  ((s.root.queue.filter fun w => w.index == i).getLast?.map fun w => w.value).getD (rootStored s i)

/-- A Once word is written, or its write is queued. -/
def rootOnce (s : State) (i : Nat) : Bool := mget s.root.written i false || s.root.queue.any fun w => w.index == i

/-- The bed in effect (R444). -/
def bedNow (s : State) : Nat := getF s F.ROOT_STATUS_IN_EFFECT

/-- The class check of R434: none where the class allows the write, else its WRESULT. -/
def classRefuses (s : State) (i v : Nat) (gardener : Bool) : Option Nat :=
  let p := bitF s F.ROOT_STATUS_PROVISION
  let old := rootComing s i
  match rootClass i with
  | 0 => none
  | 1 => if p && !rootOnce s i then none else some 1
  | 2 => if old ≤ v then none else some 1
  | 3 => if Nat.land old v == old then none else some 1
  | 4 => if p then none else some 1
  | 5 => if bedNow s != 0 && i / 3072 == bedNow s - 1 then some 3 else none
  | 6 => if gardener then some 1 else none
  | _ => some 6

/-- Show the queue and the word at INDEX (R452). -/
def rootShow (s : State) : State :=
  let i := getF s F.ROOT_ADDR_INDEX
  let s := setB s F.ROOT_STATUS_BUSY (!s.root.queue.isEmpty)
  let s := setF s F.ROOT_STATUS_QUEUED (min 7 (s.root.queue.length - 1))
  let s := setF s F.ROOT_DATA_V ((mfind s.root.uncorr i).getD (rootStored s i))
  let s := setB (setB s F.ROOT_WORD_UNCORR (mfind s.root.uncorr i).isSome) F.ROOT_WORD_CORR (mget s.root.corr i false)
  let s := setB s F.ROOT_WORD_WORN (decide (1000000 ≤ mget s.root.wear i 0))
  let s := setB s F.ROOT_WORD_WRITTEN (mget s.root.written i false)
  setF (setF s F.ROOT_WORD_CLASS (rootClass i)) F.ROOT_WORD_WEAR (mget s.root.wear i 0)

/-- A write is refused (R434, R410): it changes nothing but the counts. -/
def rootRefused (s : State) : State := rootEvent (bump s F.ROOT_COUNT_REFUSED) F.ROOT_EVENT_REFUSED

/-- A write from any writer (R432, R434, R410): its WRESULT where it ends at once, none where it is queued for a pulse. -/
def rootWrite (s : State) (i v : Nat) (gardener : Bool) : State × Option Nat :=
  match classRefuses s i v gardener with
  | some r => (rootRefused s, some r)
  | none =>
    if rootComing s i == v then (s, some 0)
    else if 64 ≤ mget s.root.used i 0 then
      (rootRefused (setEv (bump s F.HDG_COUNT_ROOT_REFUSED) F.HDG_EVENT_ROOT_RATE 1272), some 2)
    else
      (rootShow { s with root := { s.root with
        used := mset s.root.used i (mget s.root.used i 0 + 1) 0, queue := s.root.queue ++ [{ index := i, value := v, gardener := gardener }] } }, none)

/-- A write of one of the device's own controllers; true where it was performed or queued. -/
def rootPut (s : State) (i v : Nat) : State × Bool :=
  let (s, r) := rootWrite s i v false
  (s, r != some 2 && r != some 1)

/-- Advance INDEX after an access of ROOT_DATA. -/
def rootAdvance (s : State) : State :=
  rootShow (if bitF s F.ROOT_ADDR_INC then setF s F.ROOT_ADDR_INDEX (getF s F.ROOT_ADDR_INDEX + 1) else s)

/-- A write of ROOT_DATA (R431, R432); `half` marks a 4-byte write. -/
def rootDataWrite (s : State) (who : Party) (half : Bool) (v : Nat) : State :=
  if !partyOpen s who then s
  else if isHost who then bump s F.ROOT_COUNT_HOST_IGNORED
  else
    let i := getF s F.ROOT_ADDR_INDEX
    let s := setF s F.ROOT_RESULT_INDEX i
    if half then rootAdvance (setF s F.ROOT_RESULT_WRESULT 4)
    else
      let (s, r) := rootWrite s i v true
      rootAdvance (match r with | none => s | some r => setF s F.ROOT_RESULT_WRESULT r)

/-- ROOTSTOCK_WRITE. -/
def execRootstockWrite (who : Party) (half : Bool) (v : Word) (s : State) : Host.Outcome State Fault Refusal :=
  .next (rootDataWrite s who half v.toNat)

/-- A read of word i ends (R435). -/
def rootReadEnd (s : State) (i : Nat) (e : RootErr) : State :=
  match e with
  | .clean => { s with root := { s.root with corr := mdel s.root.corr i, uncorr := mdel s.root.uncorr i } }
  | .corrected =>
    rootEvent (bump { s with root := { s.root with corr := mput s.root.corr i true, uncorr := mdel s.root.uncorr i } } F.ROOT_COUNT_CORR)
      F.ROOT_EVENT_CORR
  | .uncorrectable v =>
    rootEvent { s with root := { s.root with corr := mdel s.root.corr i, uncorr := mput s.root.uncorr i v.toNat } } F.ROOT_EVENT_UNCORR

/-- A read of ROOT_DATA: the word at INDEX; the Gardener's access advances INDEX. -/
def rootDataRead (s : State) (who : Party) (e : RootErr) : State :=
  let i := getF s F.ROOT_ADDR_INDEX
  let s := rootShow (rootReadEnd s i e)
  let s := emit s (.read who (getF s F.ROOT_DATA_V))
  if isHost who then s else rootAdvance s

/-- ROOTSTOCK_READ. -/
def execRootstockRead (who : Party) (e : RootErr) (s : State) : Host.Outcome State Fault Refusal := .next (rootDataRead s who e)

/-! ### Beds (R440 to R449) -/

/-- Word w of a bed. -/
def bedWord (s : State) (b w : Nat) : Nat := rootWord s (bedIndex b w)

/-- A BAR size field (R442): 0, or 16 to `top`. -/
def barOk (v top : Nat) : Bool := v == 0 || (decide (16 ≤ v) && decide (v ≤ top))

/-- HOST_A and HOST_B are in range (R442, R443). -/
def hostWordsOk (a b : Nat) : Bool :=
  decide (1 ≤ bits a 20 12) && decide (bits a 20 12 ≤ 2048) && decide (1 ≤ bits a 16 4) && decide (bits a 16 4 ≤ 7) && bits a 15 1 == 0 &&
    decide (bits a 12 3 ≤ 4) && bits a 10 2 == 0 &&
    bits b 33 31 == 0 && bits b 30 2 == 0 && bits b 22 2 == 0 && bits b 14 2 == 0 && bits b 6 2 == 0 &&
    barOk (bits b 24 6) 32 && barOk (bits b 16 6) 40 && barOk (bits b 8 6) 32 && barOk (bits b 0 6) 40

/-- CHAIN carries no encoding that R373 reserves. -/
def chainWordOk (c : Nat) : Bool :=
  bits c 32 31 == 0 && bits c 0 4 == 0 &&
    (!tb c 63 || (bits c 4 4 != bits c 8 4 && decide (bits c 4 4 < 8) && decide (bits c 8 4 < 8) && bits c 28 4 != 0 && bits c 20 8 != 0))

/-- The CRC of a bed (R441): words 0, 1 and 4 to 3,071. -/
def bedCrc (s : State) (b : Nat) : Nat :=
  let ws := 0 :: 1 :: (List.range 3068).map fun i => i + 4
  Nat.xor (ws.foldl (fun r w => sealBytes 1 r (leBytes 8 (bedWord s b w))) (sealMask 1)) (sealMask 1)

/-- A bed is valid under R443, its STATE taken as `st`. -/
def bedValidAs (s : State) (b st : Nat) : Bool :=
  let h := bedWord s b 0
  bits h 32 32 == 0x52534244 && bits h 0 8 == 1 && bits h 12 20 == 0 && bits (bedWord s b 1) 0 32 != 0 && !tb st 7 &&
    (List.range 4).all (fun n => hostWordsOk (bedWord s b (4 + 2 * n)) (bedWord s b (5 + 2 * n))) && chainWordOk (bedWord s b 12) &&
    (List.range 3).all (fun i => bedWord s b (13 + i) == 0) && (List.range 16).all (fun i => bits (bedWord s b (16 + i)) 20 43 == 0) &&
    !(s.root.uncorr.any fun x => x.1 / 3072 == b - 1) && bedCrc s b == bedWord s b 3

/-- A bed is valid (R443). -/
def bedValid (s : State) (b : Nat) : Bool := bedValidAs s b (bedWord s b 2)

/-- VERSION of a bed. -/
def bedVersion (s : State) (b : Nat) : Nat := bits (bedWord s b 1) 0 32
/-- The other bed. -/
def otherBed (b : Nat) : Nat := 3 - b

/-- CHAIN replaces the reset values of CHN_CTRL (R445). -/
def chainApply (s : State) (b : Nat) : State :=
  let c := bedWord s b 12
  if !tb c 63 then s
  else [F.CHN_CTRL_ATTEMPTS, F.CHN_CTRL_ROLL_TIMEOUT, F.CHN_CTRL_PERSIST, F.CHN_CTRL_SEG_RESET_EN, F.CHN_CTRL_EAST_EN, F.CHN_CTRL_WEST_EN,
    F.CHN_CTRL_EAST_PORT, F.CHN_CTRL_WEST_PORT].foldl (fun s f => setF s f (bits c f.lo f.w)) s

/-- The controller raises a counter word (R438). -/
def rootCount (s : State) (i : Nat) : State := (rootPut s (rwCounter i) (rootComing s (rwCounter i) + 1)).1

/-- A bed that reached its boot limit is rejected, and the other taken (R444). -/
def bedRevert (s : State) (b reason : Nat) : State :=
  let st := bedWord s b 2
  let s := (rootPut s (bedIndex b 2) (st % 16 + reason * 16 + 2 ^ 7)).1
  rootCount s 1

/-- Take bed b into effect: its boot count rises (R444). -/
def bedTake (s : State) (b : Nat) : State :=
  let st := rootComing s (bedIndex b 2)
  let (s, ok) := rootPut s (bedIndex b 2) (st / 16 * 16 + min (st % 16 + 1) 15)
  let s := if ok then s else setF s F.ROOT_STATUS_COUNT_FAIL 1
  let s := setF (setF s F.ROOT_STATUS_IN_EFFECT b) F.ROOT_STATUS_VERSION (bedVersion s b)
  rootEvent s F.ROOT_EVENT_SELECTED

/-- Bed selection (R444, R446). -/
def bedSelect (s : State) : State :=
  let s := { s with root := { s.root with served := false } }
  let va := bedValid s 1
  let vb := bedValid s 2
  let s := setB (setB s F.ROOT_STATUS_VALID_A va) F.ROOT_STATUS_VALID_B vb
  let s := setF (setF (setF (setF s F.ROOT_STATUS_IN_EFFECT 0) F.ROOT_STATUS_VERSION 0) F.ROOT_STATUS_REVERTED 0) F.ROOT_STATUS_COUNT_FAIL 0
  if !va && !vb then rootEvent (rootEvent s F.ROOT_EVENT_NO_BED) F.ROOT_EVENT_SELECTED
  else
    let n := if va && (!vb || decide (bedVersion s 2 ≤ bedVersion s 1)) then 1 else 2
    let lim := if bits (bedWord s n 0) 8 4 == 0 then 3 else bits (bedWord s n 0) 8 4
    if lim ≤ bedWord s n 2 % 16 && (if n == 1 then vb else va) then
      let s := rootEvent (setF (bedRevert s n 1) F.ROOT_STATUS_REVERTED 1) F.ROOT_EVENT_REVERTED
      bedTake s (otherBed n)
    else bedTake s n

/-- At the first entry into Serve after a selection the boot count of the bed in effect returns to 0 (R445). -/
def bedServed (s : State) : State :=
  let again := s.root.served
  let s := { s with root := { s.root with served := true } }
  if again || bedNow s == 0 then s
  else
    let i := bedIndex (bedNow s) 2
    (rootPut s i (rootComing s i / 16 * 16)).1

/-- End a ROOT_CMD. -/
def rootCmdEnd (s : State) (r : Nat) : State := setF (setF s F.ROOT_RESULT_CRESULT r) F.ROOT_RESULT_BUSY 0

/-- The checks of COMMIT in order, then the STATE write (R448). -/
def rootCommit (s : State) (b : Nat) : State :=
  let s := { s with root := { s.root with commit := none } }
  if bedNow s == b then rootCmdEnd s 3
  else if !bedValidAs s b 0 then rootCmdEnd s 1
  else if bedVersion s b ≤ (if bedNow s == 0 then 0 else bedVersion s (bedNow s)) then rootCmdEnd s 2
  else let (s, ok) := rootPut s (bedIndex b 2) 0; rootCmdEnd s (if ok then 0 else 5)

/-- COMMIT waits for the queued writes to its bed (R451). -/
def rootCommitTry (s : State) (b : Nat) : State :=
  if s.root.queue.any fun w => w.index / 3072 == b - 1 then { s with root := { s.root with commit := some b } } else rootCommit s b

/-- A write of ROOT_CMD: ignored from the host, while BUSY, and in Safe (R431, R452, R413). -/
def rootCmd (s : State) (who : Party) (act : State → State) : State :=
  if !partyOpen s who then s
  else if isHost who then bump s F.ROOT_COUNT_HOST_IGNORED
  else if bitF s F.ROOT_RESULT_BUSY then setF s F.ROOT_RESULT_OVERRUN 1
  else act (setF s F.ROOT_RESULT_BUSY 1)

/-- ROOT_COMMIT: BED 1 or 2; another value is reserved and starts nothing. -/
def execRootCommit (who : Party) (bed : Fin 4) (s : State) : Host.Outcome State Fault Refusal :=
  .next <|
    if bed.val == 0 || bed.val == 3 then (if !partyOpen s who then s else if isHost who then bump s F.ROOT_COUNT_HOST_IGNORED
      else formatRecord (if bitF s F.ROOT_RESULT_BUSY then setF s F.ROOT_RESULT_OVERRUN 1 else s) who A.ROOT_CMD)
    else rootCmd s who fun s => rootCommitTry s bed

/-- REVERT (R449). -/
def rootRevert (s : State) : State :=
  let b := bedNow s
  if b == 0 || !bedValid s (otherBed b) then rootCmdEnd s 4
  else
    let st := bedWord s b 2
    let (s, ok) := rootPut s (bedIndex b 2) (st % 16 + 2 * 16 + 2 ^ 7)
    if ok then rootCmdEnd (rootCount s 1) 0 else rootCmdEnd s 5

/-- ROOT_REVERT. -/
def execRootRevert (who : Party) (s : State) : Host.Outcome State Fault Refusal := .next (rootCmd s who rootRevert)

/-- CHECK (R449). -/
def rootCheck (s : State) : State :=
  rootCmdEnd (setB (setB s F.ROOT_STATUS_VALID_A (bedValid s 1)) F.ROOT_STATUS_VALID_B (bedValid s 2)) 0

/-- ROOT_CHECK. -/
def execRootCheck (who : Party) (s : State) : Host.Outcome State Fault Refusal := .next (rootCmd s who rootCheck)

/-- ROOTSTOCK_BUCKET_REFILL (R410): each word's bucket gains one write. -/
def execRootstockBucketRefill (s : State) : Host.Outcome State Fault Refusal :=
  .next { s with root := { s.root with used := (s.root.used.map fun x => (x.1, x.2 - 1)).filter fun x => x.2 != 0 } }

/-! ### Pulses (R432, R436) -/

/-- Wear of one pulse at the junction temperature (R436). -/
def pulseWear (s : State) : Nat := if getF s F.PWM_STATUS_TJ_MAX ≤ 105 + 64 then 1 else 5

/-- Count n pulses of word i (R436). -/
def rootWear (s : State) (i n : Nat) : State :=
  let w := min (mget s.root.wear i 0 + n * pulseWear s) 0xFFFFFF
  let s := bumpBy { s with root := { s.root with wear := mput s.root.wear i w } } F.ROOT_COUNT_WRITES n
  if 900000 ≤ w then rootEvent s F.ROOT_EVENT_WEAR_WARN else s

/-- The word takes a value. -/
def rootStore (s : State) (i v : Nat) : State :=
  { s with root := { s.root with
    words := mset s.root.words i v 0, corr := mdel s.root.corr i, uncorr := mdel s.root.uncorr i
    written := if rootClass i == 1 then mput s.root.written i true else s.root.written } }

/-- Writes at the head of the queue whose value the word already holds complete without a pulse. -/
def rootSkip (s : State) : List RootWrite → State
  | [] => { s with root := { s.root with queue := [] } }
  | w :: ws =>
    if rootStored s w.index == w.value then rootSkip (if w.gardener then setF s F.ROOT_RESULT_WRESULT 0 else s) ws
    else { s with root := { s.root with queue := w :: ws } }

/-- The pulse of the first queued write ends: verified at the first pulse (0), at the second (1), or not at all (2). Before a held
reset nothing that is queued is performed, and a COMMIT that waits for it ends unperformed (R450). -/
def rootPulse (s : State) (tries : Nat) : State :=
  match s.root.queue with
  | [] => s
  | w :: ws =>
    let s := rootWear s w.index (if tries == 0 then 1 else 2)
    let s :=
      if tries < 2 then
        let s := rootStore s w.index w.value
        if w.gardener then setF s F.ROOT_RESULT_WRESULT 0 else s
      else
        let (v, s) := drawFree s
        let s := rootEvent (rootStore s w.index v) F.ROOT_EVENT_VERIFY_FAIL
        if w.gardener then setF s F.ROOT_RESULT_WRESULT 5 else s
    if s.root.held.isEmpty then
      let s := rootSkip s ws
      rootShow (match s.root.commit with
        | none => s
        | some b => rootCommitTry s b)
    else
      let s := { s with root := { s.root with queue := [], commit := none } }
      rootShow (if (bitF s F.ROOT_RESULT_BUSY) then rootCmdEnd s 5 else s)

end Sys2Proof.Machine
end

