-- ==== Sys2Proof/Machine/EventGate.lean ====
section
/-!
DEFINITION. The Event Gate (chapter 16): claims, ends of sources, routes, enables and pending bits, with its commands.
-/
namespace Sys2Proof.Machine

/-! ### Sources (R416, R417) -/

/-- A Tendril pin is at the level its configuration calls asserted (R525). -/
def tndAsserted (s : State) (t : Nat) : Bool := bitOf (getF s F.GDN_TND_IN_LEVEL) t != bitF s (F.GDN_TND_CFG_POL t)

/-- The condition of a Level source holds (R417). -/
def levelHolds (s : State) (n : Nat) : Bool :=
  if 1024 ≤ n ∧ n ≤ 1151 then getF s (F.MBX_GPEND_PLOTS (n - 1024)) != 0
  else if n = 1154 then !s.mq.isEmpty
  else if n = 1155 then bitF s F.I3C_STATUS_RX_READY || bitF s F.I3C_STATUS_TX_DONE
  else if 1156 ≤ n ∧ n ≤ 1159 then bitF s (F.DOE_STATUS_OBJECT_READY (n - 1156)) || bitF s (F.DOE_STATUS_ABORT (n - 1156))
  else if n = 1160 then bitF s F.XSP_STATUS_DONE
  else if 16 ≤ n ∧ n ≤ 39 then evgLevel s n && tndAsserted s (n - 16)
  else false

/-- A Level source whose condition holds is pending while it is not active (R416). -/
def levelSet (s : State) (n : Nat) : State := if levelHolds s n then raise s n else s

/-- The sources that can be Level sources. -/
def levelSources : List Nat :=
  (List.range 24).map (16 + ·) ++ (List.range 128).map (1024 + ·) ++ (List.range 7).map (1154 + ·)

/-- The Level sources take their pending bits from their conditions (R416, R421, R424, R427). -/
def levelRefresh (s : State) : State := levelSources.foldl levelSet s

/-- A source is pending. -/
def evgPending (s : State) (n : Nat) : Bool := bitOf (getF s (F.EVG_PEND_PEND (n / 64))) (n % 64)
/-- A source is enabled. -/
def evgEnabled (s : State) (n : Nat) : Bool := bitOf (getF s (F.EVG_ENABLE_ENABLE (n / 64))) (n % 64)
/-- The core a source is routed to (R418). -/
def evgRoute (s : State) (n : Nat) : Nat := bits (getF s (F.EVG_ROUTE_ROUTE (n / 32))) (2 * (n % 32)) 2

/-- A source that core c may claim (R419, R420). -/
def evgReady (s : State) (c n : Nat) : Bool := evgPending s n && evgEnabled s n && evgRoute s n == c && !evgActive s n

/-- The sources of word `w` that could be claimed: pending and enabled. -/
def evgWord (s : State) (w : Nat) : List Nat :=
  let m := Nat.land (getF s (F.EVG_PEND_PEND w)) (getF s (F.EVG_ENABLE_ENABLE w))
  if m == 0 then [] else (List.range 64).map (64 * w + ·)

/-- The lowest source that core c may claim. -/
def evgLowest (s : State) (c : Nat) : Option Nat := ((List.range 24).flatMap (evgWord s)).find? (evgReady s c)

/-- The machine external interrupt pending bit of core c (R419). -/
def evgMeip (s : State) (c : Nat) : Bool := !bitF s (F.EVG_CORE_ACTIVE c) && (evgLowest s c).isSome

/-- The mask of the sources of word w that exist. -/
def evgMask (w : Nat) : Nat := ((List.range 64).filter fun i => evgSource (64 * w + i)).foldl setBit 0

/-- The word a claim returns (R428). -/
def claimWord (valid busy : Bool) (n : Nat) : Nat := bt valid 31 + bt busy 30 + n

/-- A claim by core c: what it returns and the state after it (R420). -/
def evgClaim (s : State) (c : Nat) : State × Nat :=
  if bitF s (F.EVG_CORE_ACTIVE c) then (s, claimWord false true (getF s (F.EVG_CORE_ACTIVE_SRC c)))
  else match evgLowest s c with
    | some n =>
      let f := F.EVG_PEND_PEND (n / 64)
      let s := setF s f (clrBit (getF s f) (n % 64))
      let s := setF (setF s (F.EVG_CORE_ACTIVE c) 1) (F.EVG_CORE_ACTIVE_SRC c) n
      (bump s (F.EVG_CORE_CLAIMS c), claimWord true false n)
    | none => (bump s (F.EVG_CORE_SPURIOUS c), claimWord false false 0)

/-- A write of EVG_EOI of core c that names source n (R421). -/
def evgEoi (s : State) (c n : Nat) : State :=
  if bitF s (F.EVG_CORE_ACTIVE c) && getF s (F.EVG_CORE_ACTIVE_SRC c) == n then
    levelSet (setF (setF s (F.EVG_CORE_ACTIVE c) 0) (F.EVG_CORE_ACTIVE_SRC c) 0) n
  else setEv s F.EVG_STATUS_EOI_BAD 9

/-- Route source n to core c (R418). -/
def evgSetRoute (s : State) (n c : Nat) : State :=
  let f := F.EVG_ROUTE_ROUTE (n / 32)
  let v := getF s f
  setF s f (v - bits v (2 * (n % 32)) 2 * 2 ^ (2 * (n % 32)) + c * 2 ^ (2 * (n % 32)))

/-- The Event Gate is reset (R424). -/
def evgClear (s : State) : State :=
  let s := (List.range 24).foldl (fun s w => setF (setF s (F.EVG_ENABLE_ENABLE w) 0) (F.EVG_PEND_PEND w) 0) s
  let s := (List.range 48).foldl (fun s r => setF s (F.EVG_ROUTE_ROUTE r) 0) s
  let s := (List.range 4).foldl (fun s c => setF (setF (setF (setF s (F.EVG_CORE_ACTIVE c) 0) (F.EVG_CORE_ACTIVE_SRC c) 0)
    (F.EVG_CORE_CLAIMS c) 0) (F.EVG_CORE_SPURIOUS c) 0) s
  levelRefresh (setF (setF s F.EVG_STATUS_FORMAT 0) F.EVG_STATUS_EOI_BAD 0)

/-- A write to an EVG_ register takes effect: it is the Gardener's, and Safe does not bar it (R413, R426). -/
def evgOpen (s : State) (who : Party) : Bool := !isHost who && partyOpen s who

/-! ### Commands -/

/-- EVG_CLAIM (R420, R426): a read of EVG_CLAIM of core `reg` by `who`, which is core `by_` where it is the Gardener; `high` marks a 4-byte
read of bits 63:32. -/
def execEvgClaim (reg : Fin 4) (who : Party) (core : Fin 4) (high : Bool) (s : State) : Host.Outcome State Fault Refusal :=
  .next <|
    if isHost who || core != reg || high then emit s (.read who 0)
    else
      let (s, v) := evgClaim s reg
      emit s (.read who v)

/-- EVG_EOI (R421). -/
def execEvgEoi (reg : Fin 4) (who : Party) (core : Fin 4) (source : BitVec 11) (s : State) : Host.Outcome State Fault Refusal :=
  .next <|
    if !evgOpen s who then s
    else if core != reg then setEv s F.EVG_STATUS_EOI_BAD 9
    else evgEoi s reg source.toNat

/-- EVG_ROUTE_WRITE (R418, R429): a reserved source changes nothing and sets FORMAT. -/
def execEvgRouteWrite (who : Party) (source : BitVec 11) (core : Fin 4) (s : State) : Host.Outcome State Fault Refusal :=
  .next <|
    if !evgOpen s who then s
    else if evgSource source.toNat then evgSetRoute s source.toNat core
    else formatRecord (setEv s F.EVG_STATUS_FORMAT 9) who A.EVG_ROUTE_WR

/-- EVG_ENABLE_SET (R428). -/
def execEvgEnableSet (who : Party) (word : Fin 24) (mask : Word) (s : State) : Host.Outcome State Fault Refusal :=
  .next <|
    let f := F.EVG_ENABLE_ENABLE word
    if !evgOpen s who then s else setF s f (Nat.lor (getF s f) (Nat.land mask.toNat (evgMask word)))

/-- EVG_ENABLE_CLR (R428). -/
def execEvgEnableClr (who : Party) (word : Fin 24) (mask : Word) (s : State) : Host.Outcome State Fault Refusal :=
  .next <|
    let f := F.EVG_ENABLE_ENABLE word
    if !evgOpen s who then s else setF s f (clrBits (getF s f) mask.toNat)

/-- EVG_PEND_SET (R416, R428): any source that exists is forced pending. -/
def execEvgPendSet (who : Party) (word : Fin 24) (mask : Word) (s : State) : Host.Outcome State Fault Refusal :=
  .next <|
    let f := F.EVG_PEND_PEND word
    if !evgOpen s who then s else setF s f (Nat.lor (getF s f) (Nat.land mask.toNat (evgMask word)))

/-- EVG_PEND_CLR (R427, R428): a Level source whose condition holds is pending again. -/
def execEvgPendClr (who : Party) (word : Fin 24) (mask : Word) (s : State) : Host.Outcome State Fault Refusal :=
  .next <|
    let f := F.EVG_PEND_PEND word
    if !evgOpen s who then s else levelRefresh (setF s f (clrBits (getF s f) mask.toNat))

end Sys2Proof.Machine
end

