-- ==== Sys2Proof/Machine/Ingress.lean ====
section
/-!
DEFINITION. What a Calfos ingress does with a transaction it has received: through transfers (R25, R113 to R115, R200, R371), link-local
management (R351) and dispatch, with the wait for GLB_NODE.VALID (R37, R371).
-/
namespace Sys2Proof.Machine

/-! ### Chain ports and the dateline (R200, R354) -/

/-- The chain ports. -/
def westPort (s : State) : Nat := getF s F.CHN_CTRL_WEST_PORT
def eastPort (s : State) : Nat := getF s F.CHN_CTRL_EAST_PORT
/-- Port f is the enabled west chain port. -/
def isWest (s : State) (f : Nat) : Bool := bitF s F.CHN_CTRL_WEST_EN && westPort s == f
/-- Port f is the enabled east chain port. -/
def isEast (s : State) (f : Nat) : Bool := bitF s F.CHN_CTRL_EAST_EN && eastPort s == f
/-- Port f is an enabled chain port. -/
def chainPort (s : State) (f : Nat) : Bool := isWest s f || isEast s f

/-- Port f is at the dateline of a ring: the head's west or the tail's east chain port, as the last COMPLETE placed it (R200, R212). -/
def dateline (s : State) (f : Nat) : Bool :=
  bitF s F.CHN_STATUS_RING && ((bitF s F.CHN_CTRL_HEAD && isWest s f) || (s.chain.lineTail && isEast s f))

/-- The class in which a transfer of class c from port f leaves on port e (R200); `line` tells that port f was at the dateline when it was received (R212). -/
def classOut (s : State) (f c e : Nat) (line : Bool) : Nat :=
  c / 2 * 2 + (if chainPort s e && (line || (c % 2 == 1 && chainPort s f)) then 1 else 0)

/-! ### Through transfers -/

/-- HOP of a transaction. -/
def txnHop (t : Txn) : Nat := (txnRoute t).hop

/-- A transaction with HOP less by 1 (R115). -/
def hopDown : Txn → Txn
  | .req r => .req { r with hop := r.hop - 1 }
  | .resp r => .resp { r with hop := r.hop - 1 }

/-- A through transfer that is not forwarded: a request is answered, a Message or response discarded (R113 to R115). -/
def throughRefuse (s : State) (f : Nat) (t : Txn) (st : Nat) : State :=
  match t with
  | .req r => if r.op == .message then s else sendResponse s (4 + f) (.through f) r st []
  | .resp _ => s

/-- TRL_MISS.LOOP (R115). -/
def loopNote (s : State) : State := setEv (bump s F.TRL_MISS_LOOP) F.TRL_EVENT_LOOP 1240

/-- A request that breaks R341 (R344). -/
def txnMalformed : Txn → Bool
  | .req r => fabMalformed r
  | .resp _ => false

/-- A through transfer (R110 to R115, R200). -/
def passThrough (s : State) (f c : Nat) (b : QTxn) : State :=
  if txnMalformed b.txn then throughRefuse s f b.txn 2
  else if txnHop b.txn == 0 then throughRefuse (loopNote s) f b.txn 2
  else
    let rt := txnRoute b.txn
    match routeOf s rt.dest rt.src none with
    | (s, .egress e _) =>
      if e == f then throughRefuse (loopNote s) f b.txn 2
      else pgaPush s (4 + e) (classOut s f c e b.dateline) (.through f) { b with txn := hopDown b.txn, own := false }
    | (s, .reflect) => s
    | (s, .fail st) => throughRefuse s f b.txn st

/-! ### Dispatch (R25, R351) -/

/-- The link-local node ID. -/
def linkLocal : Nat := 0xFFFFF

/-- A link-local management request (R351): answered by port f, on port f. -/
def linkLocalAnswer (s : State) (f : Nat) (r : FabReq) : State :=
  let send (s : State) (st : Nat) (data : List Byte) : State :=
    pgaPush s (4 + f) 2 (.through f) { ingress := 4 + f, txn := .resp (responseTo r st data) }
  if fabMalformed r then send s 2 []
  else if r.op == .mgmtWrite then send s 3 []
  else if r.addr + r.len ≤ 0x10000 then
    send s 0 (((leBytes 8 (regWord s (0x200000 + f * 0x10000 + r.addr / 8 * 8))).drop (r.addr % 8)).take r.len)
  else send s 2 []

/-- A transaction under link-local routing, which neither R25 nor Trellis sees: its answer, or none where it is routed. The device makes no
link-local request, so a response to one names nothing outstanding. -/
def linkLocalTake (s : State) (f : Nat) (t : Txn) : Option State :=
  match t with
  | .req r => if r.dest == linkLocal && (r.op == .mgmtRead || r.op == .mgmtWrite) then some (linkLocalAnswer s f r) else none
  | .resp r => if r.src == linkLocal then some (respStray s) else none

/-- A transaction received while GLB_NODE.VALID is 1: dispatched here or passed through (R25). -/
def ingressRoute (s : State) (f : Nat) (x : Nat × QTxn) : State :=
  if nodePlace (txnRoute x.2.txn).dest == myPlace s then dispatchLocal s x.2 x.1 (.through f) else passThrough s f x.1 x.2

/-- A transaction arrives at the ingress of port f (R25, R37, R351, R371). -/
def ingressTake (s : State) (f c : Nat) (b : QTxn) : State :=
  match linkLocalTake s f b.txn with
  | some s => s
  | none =>
    if bitF s F.GLB_NODE_VALID then ingressRoute s f (c, b)
    else occUpdate (modLink s f fun l => { l with waitRx := l.waitRx ++ [(c, b)] }) (4 + f)

/-- What waited at port f goes on (R371). -/
def ingressRelease (s : State) (f : Nat) : State :=
  let w := (linkOf s f).waitRx
  occUpdate (w.foldl (fun s x => ingressRoute s f x) (modLink s f fun l => { l with waitRx := [] })) (4 + f)

/-! ### GLB_NODE (R37, R351) -/

/-- CFK_NODE of every port follows GLB_NODE. -/
def nodeShow (s : State) : State :=
  (List.range 8).foldl (fun s f =>
    setF (setB s (F.CFK_NODE_VALID f) (bitF s F.GLB_NODE_VALID)) (F.CFK_NODE_NODE f) (if bitF s F.GLB_NODE_VALID then myNode s (8 + f) else 0)) s

/-- Set GLB_NODE.VALID; what waited for it goes on. -/
def setNodeValid (s : State) (b : Bool) : State :=
  let s := nodeShow (setB s F.GLB_NODE_VALID b)
  if b then (List.range 8).foldl ingressRelease s else s

end Sys2Proof.Machine
end

