-- ==== Sys2Proof/Machine/Chain.lean ====
section
/-!
DEFINITION. The chain controller's roll call (R362 to R368, R372), with its commands.
-/
namespace Sys2Proof.Machine

/-- An event of the chain controller (R373). -/
def chnEvent (s : State) (f : Fld) : State := setEv s f 1252

/-- The device is segment head (R355). -/
def isHead (s : State) : Bool := bitF s F.CHN_CTRL_HEAD

/-- HEAD_TAG of this device (R358). -/
def ownTag (s : State) : Nat := rootWord s rwSerial % 2 ^ 32

/-- DOMAIN and SEGMENT of Rootstock (R103, R439). -/
def rootDomain (s : State) : Nat := if bitOf (rootWord s rwFabricId) 8 then bits (rootWord s rwFabricId) 4 4 else 0
def rootSegment (s : State) : Nat := if bitOf (rootWord s rwFabricId) 8 then bits (rootWord s rwFabricId) 0 4 else 0

/-- Roll-call states (R373). -/
def rsIdle : Nat := 0
def rsRolling : Nat := 1
def rsComplete : Nat := 2
def rsFailed : Nat := 3

/-- Send a frame on the west chain port, if it takes part. -/
def sendWest (s : State) (type id flags : Nat) (payload : List Byte) : State :=
  if bitF s F.CHN_CTRL_WEST_EN then sbSend s (westPort s) type id flags payload else s
/-- Send a frame on the east chain port, if it takes part. -/
def sendEast (s : State) (type id flags : Nat) (payload : List Byte) : State :=
  if bitF s F.CHN_CTRL_EAST_EN then sbSend s (eastPort s) type id flags payload else s

/-- The payload of the ROLL this device sends (R358). -/
def rollPayload (s : State) : List Byte :=
  leBytes 8 (getF s F.CHN_STATUS_POSITION + getF s F.GLB_NODE_SEGMENT * 2 ^ 8 + getF s F.GLB_NODE_DOMAIN * 2 ^ 12 + s.chain.headTag * 2 ^ 32)

/-- Send the ROLL and wait for its ROLL_ACK (R364). -/
def rollSend (s : State) : State :=
  let s := sendEast s 3 (getF s F.CHN_STATUS_ROLL_ID) (bt s.chain.reroll 0) (rollPayload s)
  { s with chain := { s.chain with wait := s.chain.wait + 1 } }

/-- The persisted position word with a position (R439). -/
def persistWord (pos : Nat) : Nat := 2 ^ 6 + pos

/-- Write the position taken to Rootstock, where PERSIST allows (R368). -/
def persistPut (s : State) : State :=
  if bitF s F.CHN_CTRL_PERSIST then (rootPut s rwPosition (persistWord (getF s F.CHN_STATUS_POSITION))).1 else s

/-- Take a place in a roll call: the position, the roll ID, and DOMAIN and SEGMENT of Rootstock (R363, R439). A node ID that changes is no longer valid. -/
def placeTake (s : State) (pos id tag : Nat) (reroll : Bool) : State :=
  let same := getF s F.GLB_NODE_POSITION == pos && getF s F.GLB_NODE_DOMAIN == rootDomain s && getF s F.GLB_NODE_SEGMENT == rootSegment s
  let s := if same then s else setNodeValid s false
  let s := setF (setF (setF s F.GLB_NODE_POSITION pos) F.GLB_NODE_DOMAIN (rootDomain s)) F.GLB_NODE_SEGMENT (rootSegment s)
  let s := setF (setF (setF (setF s F.CHN_STATUS_POSITION pos) F.CHN_STATUS_ROLL_ID id) F.CHN_STATUS_ROLL_STATE rsRolling) F.CHN_STATUS_TAIL 0
  let s := bump s F.CHN_COUNT_ROLLS
  { s with chain := { s.chain with wait := 0, headTag := tag, reroll := reroll, taken := some (id % 256), again := false } }

/-- COMPLETE takes effect (R365): COUNT, RING, VALID, the B classes of both chain ports, and the first persisted position (R368). -/
def completeTake (s : State) (count : Nat) (ring tail : Bool) : State :=
  let s := setB (setB (setF s F.CHN_STATUS_COUNT count) F.CHN_STATUS_RING ring) F.CHN_STATUS_TAIL tail
  let s := setF s F.CHN_STATUS_ROLL_STATE rsComplete
  let s := setB (setB s (F.CFK_CTRL_B_CLASSES (westPort s)) ring) (F.CFK_CTRL_B_CLASSES (eastPort s)) ring
  let s := { s with chain := { s.chain with wait := 0, lineTail := tail } }
  let s := if bitOf (rootWord s rwPosition) 6 then s else persistPut s
  setNodeValid s true

/-- A head whose EAST_EN is 0, or whose ROLL finds no one, is tail of a line of one; one whose ROLL comes back to itself is a ring of one. -/
def headAlone (s : State) (ring : Bool) : State :=
  let s := completeTake s 1 ring true
  chnEvent { s with chain := { s.chain with attempts := 0 } } F.CHN_EVENT_COMPLETE

/-- The head starts a roll call (R362): a new ROLL_ID, POSITION 0. -/
def rollBegin (s : State) (reroll : Bool) : State :=
  let s := placeTake s 0 (getF s F.CHN_STATUS_ROLL_ID + 1) (ownTag s) reroll
  let s := { s with chain := { s.chain with attempts := s.chain.attempts + 1 } }
  if bitF s F.CHN_CTRL_EAST_EN then rollSend s else headAlone s false

/-- A roll call for a cause of R362; its attempts count anew. -/
def rollStart (s : State) (reroll : Bool) : State :=
  if isHead s then rollBegin { s with chain := { s.chain with attempts := 0 } } reroll else s

/-- The device becomes tail (R364): it sends COMPLETE west and is VALID (R365). -/
def tailBecome (s : State) (ring overflow : Bool) : State :=
  if isHead s then headAlone s ring
  else
    let n := getF s F.CHN_STATUS_POSITION + 1
    let s := sendWest s 5 (getF s F.CHN_STATUS_ROLL_ID) (bt ring 0 + bt overflow 1) (leBytes 8 (n + s.chain.headTag * 2 ^ 32))
    completeTake s n ring true

/-- Send a ROLL_ACK (R363) with the payload of its ROLL. -/
def rollAck (s : State) (id flags : Nat) (payload : List Byte) : State := sendWest s 4 id flags payload

/-- The persisted position conflicts with the one taken (R368). -/
def posConflict (s : State) (pos : Nat) : Bool := bitOf (rootWord s rwPosition) 6 && bits (rootWord s rwPosition) 0 6 != pos

/-- Send a REROLL west, or pass one on; one that is sent is counted (R368, R373). -/
def rerollWest (s : State) (id : Nat) : State :=
  if bitF s F.CHN_CTRL_WEST_EN then bump (sendWest s 6 id 0 []) F.CHN_COUNT_REROLLS else s

/-- R368 at a ROLL: a conflict sends REROLL, or in a re-roll writes the new position. -/
def conflictApply (s : State) (id pos : Nat) (reroll : Bool) : State :=
  if !posConflict s pos then s
  else if reroll then persistPut s
  else rerollWest (chnEvent s F.CHN_EVENT_CONFLICT) id

/-- The last row of R363: the device takes POSITION + 1 and passes the ROLL on. -/
def rollTake (s : State) (id pos tag : Nat) (reroll : Bool) : State :=
  let s := conflictApply (placeTake s pos id tag reroll) id pos reroll
  if bitF s F.CHN_CTRL_EAST_EN then rollSend s else tailBecome s false false

/-- Count a frame discarded (R359). -/
def frameReject (s : State) : State := bump s F.CHN_COUNT_SB_ERR

/-- The payload of a ROLL or ROLL_ACK leaves reserved bits 0. -/
def rollShape (payload : List Byte) : Bool :=
  payload.length == 8 && bits (leNat payload) 6 2 == 0 && bits (leNat payload) 16 16 == 0

/-- A ROLL (R359, R363). -/
def rollReceive (s : State) (f id flags : Nat) (payload : List Byte) : State :=
  if !isWest s f || !rollShape payload || 1 < flags then frameReject s
  else
    let v := leNat payload
    let tag := bits v 32 32
    if isHead s then
      if tag == ownTag s then rollAck s id 1 payload
      else chnEvent (rollAck s id (2 + 2 * 4) payload) F.CHN_EVENT_DUAL_HEAD
    else if bits v 12 4 != rootDomain s || bits v 8 4 != rootSegment s then
      setNodeValid (chnEvent (rollAck s id (2 + 3 * 4) payload) F.CHN_EVENT_ID_MISMATCH) false
    else if bits v 0 6 == 63 then
      setNodeValid (chnEvent (rollAck s id (2 + 1 * 4) payload) F.CHN_EVENT_OVERFLOW) false
    else if s.chain.taken == some id then rollAck s id 0 payload
    else rollTake (rollAck s id 0 payload) id (bits v 0 6 + 1) tag (bitOf flags 0)

/-- ROLL_RECEIVE: a frame whose CHECK is good, on the clock pair of a port. -/
def execRollReceive (f : Fin 8) (id : Byte) (flags : Byte) (payload : List Byte) (s : State) : Host.Outcome State Fault Refusal :=
  .next (rollReceive s f id.toNat flags.toNat payload)

/-- A ROLL_ACK (R359, R364): it matches by roll ID and payload the ROLL that waits. -/
def rollAckReceive (s : State) (f id flags : Nat) (payload : List Byte) : State :=
  if !isEast s f || !rollShape payload || 15 < flags then frameReject s
  else if s.chain.wait == 0 || id != getF s F.CHN_STATUS_ROLL_ID || payload != rollPayload s then s
  else if bitOf flags 0 then tailBecome s true false
  else if bitOf flags 1 then tailBecome s false (bits flags 2 2 == 1)
  else { s with chain := { s.chain with wait := 0 } }

/-- ROLL_ACK_RECEIVE. -/
def execRollAckReceive (f : Fin 8) (id : Byte) (flags : Byte) (payload : List Byte) (s : State) : Host.Outcome State Fault Refusal :=
  .next (rollAckReceive s f id.toNat flags.toNat payload)

/-- ROLL_ACK_TIMEOUT (R364): 20 µs after a ROLL's last bit. -/
def rollAckTimeout (s : State) : State :=
  if s.chain.wait == 0 then s
  else if s.chain.wait < 4 then rollSend (bump s F.CHN_COUNT_RETRIES)
  else tailBecome s false false

/-- ROLL_ACK_TIMEOUT. -/
def execRollAckTimeout (s : State) : Host.Outcome State Fault Refusal := .next (rollAckTimeout s)

/-- COMPLETE at the head (R365, R368). -/
def headComplete (s : State) (count : Nat) (ring : Bool) : State :=
  let s := chnEvent (completeTake s count ring false) F.CHN_EVENT_COMPLETE
  let s := { s with chain := { s.chain with attempts := 0 } }
  if s.chain.again then rollStart s true else s

/-- A COMPLETE (R359, R365). -/
def completeReceive (s : State) (f id flags : Nat) (payload : List Byte) : State :=
  if !chainPort s f || payload.length != 8 || bits (leNat payload) 7 25 != 0 || 3 < flags then frameReject s
  else if !isEast s f || s.chain.taken != some id then s
  else
    let count := bits (leNat payload) 0 7
    let s := { s with chain := { s.chain with headTag := bits (leNat payload) 32 32 } }
    if isHead s then headComplete s count (bitOf flags 0)
    else sendWest (completeTake s count (bitOf flags 0) false) 5 id flags payload

/-- COMPLETE_RECEIVE. -/
def execCompleteReceive (f : Fin 8) (id : Byte) (flags : Byte) (payload : List Byte) (s : State) : Host.Outcome State Fault Refusal :=
  .next (completeReceive s f id.toNat flags.toNat payload)

/-- A REROLL (R359, R368): forwarded west; at the head it arranges one roll call with REROLL 1. -/
def rerollReceive (s : State) (f id flags : Nat) (payload : List Byte) : State :=
  if !chainPort s f || !payload.isEmpty || 0 < flags then frameReject s
  else if !isEast s f then s
  else if !isHead s then rerollWest s id
  else if s.chain.taken != some id || s.chain.reroll then s
  else if getF s F.CHN_STATUS_ROLL_STATE == rsComplete then rollStart s true
  else { s with chain := { s.chain with again := true } }

/-- REROLL_RECEIVE. -/
def execRerollReceive (f : Fin 8) (id : Byte) (flags : Byte) (payload : List Byte) (s : State) : Host.Outcome State Fault Refusal :=
  .next (rerollReceive s f id.toNat flags.toNat payload)

/-- ROLL_CALL_TIMEOUT (R367): a new roll call, or after ATTEMPTS of them Failed with VALID 0. -/
def rollTimeout (s : State) : State :=
  if !isHead s || getF s F.CHN_STATUS_ROLL_STATE != rsRolling then s
  else if s.chain.attempts < getF s F.CHN_CTRL_ATTEMPTS then rollBegin s s.chain.reroll
  else
    let s := setNodeValid (chnEvent (setF s F.CHN_STATUS_ROLL_STATE rsFailed) F.CHN_EVENT_FAIL) false
    { s with chain := { s.chain with wait := 0, taken := none, again := false, attempts := 0 } }

/-- ROLL_CALL_TIMEOUT. -/
def execRollCallTimeout (s : State) : Host.Outcome State Fault Refusal := .next (rollTimeout s)

/-- A write of CHN_CMD is ignored and sets OVERRUN (R373). -/
def chnOverrun (s : State) : State := raise (setF s F.CHN_STATUS_OVERRUN 1) 1252

/-- A write of CHN_CMD: ignored while BUSY, which stays 1 from a command until the block's next tick (DESIGN CHOICE, assumption 112). -/
def chnCmd (s : State) (who : Party) (act : State → State) : State :=
  if !regOpen s who A.CHN_CMD then s
  else if bitF s F.CHN_STATUS_BUSY then chnOverrun s
  else act (setF s F.CHN_STATUS_BUSY 1)

/-- CHN_CMD ROLL (R362, R372, R373): a device that is not head sets OVERRUN. -/
def chainCmdRoll (s : State) (who : Party) : State :=
  chnCmd s who fun s => if isHead s then rollStart s false else chnOverrun (setF s F.CHN_STATUS_BUSY 0)

/-- CHAIN_CMD_ROLL. -/
def execChainCmdRoll (who : Party) (s : State) : Host.Outcome State Fault Refusal := .next (chainCmdRoll s who)

/-- SIDEBAND_FRAME_REJECT (R359): a frame that fails a check of R359, on any Calfos port. -/
def execSidebandFrameReject (_f : Fin 8) (s : State) : Host.Outcome State Fault Refusal := .next (frameReject s)

end Sys2Proof.Machine
end

