-- ==== Sys2Proof/Machine/HostPort.lean ====
section
/-!
DEFINITION. The host ports as PCI Express endpoints (chapter 10): the link, the functions and their configuration, Bus Master Enable and power
states, interrupts, port resets, DOE, with the commands of that chapter that need no change of mode.
-/
namespace Sys2Proof.Machine

/-- Set an event bit of a host port (R286). -/
def hptEvent (s : State) (n : Nat) (f : Nat → Fld) : State := setEv s (f n) (1236 + n)

/-- The plots of port n. -/
def portPlots (n : Nat) : List Nat := (List.range 1024).map (n * 1024 + ·)

/-! ### Configuration requests (R262, R265, R281) -/

/-- A configuration request to function p is completed with Request Retry Status (R262, R265). -/
def configRetry (s : State) (p : Nat) : Bool :=
  let n := quadrantOf p
  !bitF s (F.HPT_LINK_READY n) ||
    ((portOf s n).vfLoading.contains (indexOf p) && decide (s.ticks < (portOf s n).vfSince + 1000000))

/-- The completion of a configuration request to function p. -/
def configTlp (p : Nat) (kind : TlpOutKind) (st : CplStatus) (data : List Byte) : TlpOut :=
  { kind := kind, plot := p, len := data.length, data := data, status := st }

/-- Complete a configuration request: behind everything committed before it (R274, R277). -/
def configAnswer (s : State) (p : Nat) (data : List Byte) : State := pushTlp s (quadrantOf p) (configTlp p .config .sc data)

/-- Complete a configuration request with Request Retry Status, or, where the function does not exist, as an Unsupported Request (R281, R286). -/
def configRefuse (s : State) (p : Nat) : State :=
  if configRetry s p then pushTlp s (quadrantOf p) (configTlp p .configRetry .sc [])
  else pushTlp (bump s (F.HPT_COUNT_UR_SENT (quadrantOf p))) (quadrantOf p) (configTlp p .config .ur [])

/-- A configuration write to function p, which needs the link, a port that does not answer Retry and a function that exists. It is completed
once it has had its effect. -/
def configWrite (s : State) (p : Nat) (act : State → State) : State :=
  if !hostUp s (quadrantOf p) then s
  else if configRetry s p || !funcEnabled s p then configRefuse s p
  else configAnswer (act s) p []

/-! ### Bus Master Enable and power states (R277, R278, R281) -/

/-- A write-back of plot p that is on its way fails. -/
def writebackCut (s : State) (p : Nat) : State := if (plotOf s p).wbBusy.isSome then writebackDone s p false else s

/-- Loads, refetches and write-backs of plot p, and the read of its fills, fail (R277). -/
def tableCutPlot (s : State) (p : Nat) : State :=
  let s := if loading s p then loadFail s p 2 else s
  let s := if (plotOf s p).refetch then refetchDone s p (.failed .unsupported) else s
  let s := writebackCut s p
  let fill (s : State) (d : Bool) : State :=
    if mfind (quadOf s (quadrantOf p)).fills (fillKey p d) == some .reading then fillFails s p d else s
  fill (fill s false) true

/-- A commit that reads or writes configuration memory fails (R91). -/
def tableCutCommit (s : State) (n : Nat) : State :=
  match (quadOf s n).commit with
  | some c => match c.stage with
    | .ready _ => s
    | _ => commitDone s n c 0xA
  | none => s

/-- PF0 of a port has lost its Bus Master Enable while the plot table lies in host memory (R277, R281). -/
def tableCut (s : State) (n : Nat) : State :=
  if bitF s (F.PLT_TABLE_BASE_TARGET n) then s
  else tableCutCommit ((portPlots n).foldl tableCutPlot s) n

/-- A plot follows the Bus Master Enable that now counts for it: Serving and Held change places, and what the change holds back or lets go
does (R54, R63, R241, R273, R275, R277). A plot that is Resetting takes it at Cloche step 6 (R70). -/
def bmeApply (s : State) (p : Nat) : State :=
  let st := plotState s p
  let on := bmeOf s p
  let bme := bitF s (F.PE_STATUS_BME p)
  if st == psServing then
    let s := bmeCopy s p
    if on then releasePending s p else leaveServing (enterState s p psHeld) p
  else if st == psHeld then
    let s := bmeCopy s p
    if on then serveAgain s p else s
  else if st == psFaulted then
    let s := bmeCopy s p
    let s := if bitF s (F.PE_STATUS_BME p) == bme then s else markDirty s p false
    if on then releasePending (faultRelease s p) p else tagsDead s p false
  else if st == psLoading then bmeCopy s p
  else s

/-- The same after a change of function p; a change of PF0's power state reaches every function of the port (R278). -/
def bmeChanged (old s : State) (p : Nat) : State :=
  let n := quadrantOf p
  let reach := if indexOf p == 0 && (funcOf old p).d3hot != (funcOf s p).d3hot then portPlots n else [p]
  let s := reach.foldl bmeApply s
  if bmeOf old (pf0Of p) && !bmeOf s (pf0Of p) then tableCut s n else s

/-- BUS_MASTER_ENABLE_CHANGE (R277). -/
def execBusMasterEnableChange (p : Fin 4096) (on : Bool) (s : State) : Host.Outcome State Fault Refusal :=
  .next (configWrite s p fun s => bmeChanged s (setFunc s p { funcOf s p with bme := on }) p)

/-- POWER_STATE_CHANGE (R278). PF0 alone has the Power Management capability (R263): the same write to a VF changes nothing. -/
def execPowerStateChange (p : Fin 4096) (d3hot : Bool) (s : State) : Host.Outcome State Fault Refusal :=
  .next (configWrite s p fun s => if indexOf p == 0 then bmeChanged s (setFunc s p { funcOf s p with d3hot := d3hot }) p else s)

/-! ### VF Enable and FLR (R265, R279) -/

/-- VF Enable is cleared: every VF plot is reset through Cloche to Disabled, and the VFs no longer exist (R67, R281). -/
def vfClear (s : State) (n : Nat) : State :=
  let vfs := (portPlots n).drop 1
  let s := vfs.foldl (fun s p => clocheStart s p false true) s
  let s := vfs.foldl (fun s p => modPlot (setFunc s p {}) p fun x => { x with autoWait := false }) s
  modPort s n fun h => { h with vfEnable := false, vfsOn := 0, vfLoading := [] }

/-- VF_ENABLE_CLEAR. -/
def execVfEnableClear (n : Fin 4) (s : State) : Host.Outcome State Fault Refusal :=
  .next (configWrite s (n * 1024) fun s => if (portOf s n).vfEnable then vfClear s n else s)

/-- VF Enable is set: min(NumVFs, TotalVFs) VFs exist, and with AUTO the plot of each is loaded (R265). -/
def vfSet (s : State) (n : Nat) : State :=
  let h := portOf s n
  let k := min h.numVfs h.totalVfs
  let auto := bitF s (F.PLT_TABLE_BASE_VALID n) && bitF s (F.PLT_TABLE_BASE_AUTO n) && !heldQ s n 4
  let vfs := (List.range k).map (· + 1)
  let s := modPort s n fun h => { h with vfEnable := true, vfsOn := k, vfSince := s.ticks, vfLoading := if auto then vfs else [] }
  if !auto then s
  else vfs.foldl (fun s i => if plotState s (n * 1024 + i) == psDisabled then loadAuto s (n * 1024 + i) else loadEnded s (n * 1024 + i)) s

/-- VF_ENABLE_SET. -/
def execVfEnableSet (n : Fin 4) (s : State) : Host.Outcome State Fault Refusal :=
  .next (configWrite s (n * 1024) fun s => if (portOf s n).vfEnable then s else vfSet s n)

/-- Every entry of a function's MSI-X table is masked. -/
def vectorsMasked (s : State) (p : Nat) : State :=
  (s.msix.filter fun x => x.1 / 2048 == p).foldl (fun s x => setMsix s p (x.1 % 2048) { x.2 with mask := true }) s

/-- A function after a Function Level Reset: AER keeps what it logged and its settings, which are sticky. -/
def funcReset (f : Func) : Func :=
  { aer := f.aer, aerAdv := f.aerAdv, aerMask := f.aerMask, aerSev := f.aerSev, aerCor := f.aerCor }

/-- A Function Level Reset of function p begins (R279). -/
def flrBegin (s : State) (p : Nat) : State :=
  let n := quadrantOf p
  let s := hptEvent (setF (bump s (F.HPT_FLR_COUNT n)) (F.HPT_FLR_INDEX n) (indexOf p)) n F.HPT_EVENT_FLR
  let s := vectorsMasked (setFunc s p (funcReset (funcOf s p))) p
  let s := if indexOf p == 0 then intaUpdate s n else s
  let s := clocheStart (if indexOf p == 0 then modPort (vfClear s n) n fun h => { h with numVfs := 0 } else s) p true false
  if indexOf p == 0 then tableCut s n else s

/-- FUNCTION_LEVEL_RESET. -/
def execFunctionLevelReset (p : Fin 4096) (s : State) : Host.Outcome State Fault Refusal :=
  .next (configWrite s p fun s => flrBegin s p)

/-! ### Interrupts (R270 to R275) -/

/-- The PBA bits of a function are cleared. -/
def pbaClear (s : State) (p : Nat) : State :=
  (pendingVectors s p).foldl (fun s v => setMsix s p v { msixOf s p v with pend := false }) s

/-- The enables of a function change; the pending state of a mechanism that is left is cleared, but INTx that Interrupt Disable
holds keeps its PBA bits until it is INTx again (R270, R275). -/
def mechanismSet (s : State) (p : Nat) (msix msi intDis : Bool) : State :=
  let old := mechanism s p
  let s := setFunc s p { funcOf s p with msixEn := msix, msiEn := msi && indexOf p == 0, intDis := intDis }
  let new := mechanism s p
  if old == new then s
  else
    let s := match old with
      | .msix => pbaClear s p
      | .msi => setFunc s p { funcOf s p with msiPend := 0 }
      | .intx => if new == .none then s else pbaClear s p
      | .none => if new == .intx then s else pbaClear s p
    let s := releasePending s p
    if indexOf p == 0 then intaUpdate s (quadrantOf p) else s

/-- INTERRUPT_MECHANISM_CHANGE. -/
def execInterruptMechanismChange (p : Fin 4096) (msix msi intDis : Bool) (s : State) : Host.Outcome State Fault Refusal :=
  .next (configWrite s p fun s => mechanismSet s p msix msi intDis)

/-- The MSI-X vectors a function owns: PF0's from the bed, a VF's from its loaded entry (R266). -/
def vectorCount (s : State) (p : Nat) : Nat :=
  if indexOf p == 0 then (portOf s (quadrantOf p)).pf0Msix
  else if plotState s p == psDisabled || plotState s p == psLoading then 0 else getF s (F.PE_MSIX_VEC_COUNT p)

/-- A write of a Mask bit of the MSI-X table. -/
def entryMask (s : State) (p v : Nat) (on : Bool) : State :=
  if v < vectorCount s p then releasePending (setMsix s p v { msixOf s p v with mask := on }) p else s

/-- A write of the address and data of an MSI-X table entry: `word` 0 or 1 of its 8-byte words, the second of which holds the Mask bit. -/
def entryWrite (s : State) (p v : Nat) (word value : Nat) : State :=
  if vectorCount s p ≤ v then s
  else if word == 0 then setMsix s p v { msixOf s p v with addr := value }
  else releasePending (setMsix s p v { msixOf s p v with data := value % 2 ^ 32, mask := bitOf value 32 }) p

/-- MSIX_MASK_WRITE (R273). -/
def execMsixMaskWrite (p : Fin 4096) (w : MaskWrite) (s : State) : Host.Outcome State Fault Refusal :=
  .next <| match w with
  | .function on => configWrite s p fun s => releasePending (setFunc s p { funcOf s p with fmask := on }) p
  | .entry v on => if funcMemory s p then entryMask s p v on else s
  | .msi mask => configWrite s p fun s =>
      if indexOf p == 0 then releasePending (setFunc s p { funcOf s p with msiMask := mask.toNat }) p else s

/-- A write of PP_INTX in PF0's plot page (R272). -/
def intxClear (s : State) (n v : Nat) : State :=
  let p := n * 1024
  if pageDead s p then s
  else if bitOf v 63 then intaUpdate (pbaClear s p) n
  else if bitOf v 62 then intaUpdate (setMsix s p (bits v 0 11) { msixOf s p (bits v 0 11) with pend := false }) n
  else s

/-- INTX_CLEAR. -/
def execIntxClear (n : Fin 4) (v : Word) (s : State) : Host.Outcome State Fault Refusal :=
  .next (if funcMemory s (n * 1024) then intxClear s n v.toNat else s)

/-! ### Configuration space (R263 to R267, R276, R279, R284; offsets, codes and defaults of the standard, assumption 20) -/

/-- A field of configuration space: the offset of its word of 32 bits, its lowest bit there, its width and its value. -/
def cfgFld (off lo w v : Nat) : Nat × Nat × Nat × Nat := (off / 4, lo + off % 4 * 8, w, v)

/-- A field of 64 bits, as two words. -/
def cfgLong (off v : Nat) : List (Nat × Nat × Nat × Nat) := [cfgFld off 0 32 (v % 2 ^ 32), cfgFld (off + 4) 0 32 (v / 2 ^ 32)]

/-- Bits of a word that read 1. -/
def cfgOnes (off : Nat) (bs : List Nat) : List (Nat × Nat × Nat × Nat) := bs.map fun b => cfgFld off b 1 1

/-- The ID and the next pointer of a list of capabilities in ascending offset (R263). -/
def cfgChain : List (Nat × Nat) → List (Nat × Nat × Nat × Nat)
  | [] => []
  | [(off, id)] => [cfgFld off 0 8 id, cfgFld off 8 8 0]
  | (off, id) :: (nxt, i) :: l => cfgFld off 0 8 id :: cfgFld off 8 8 nxt :: cfgChain ((nxt, i) :: l)

/-- The same of extended capabilities, with the version. The ID of the capability at 0x270 is the implementation's to this model. -/
def cfgExtended : List (Nat × Nat × Nat) → List (Nat × Nat × Nat × Nat)
  | [] => []
  | (off, id, ver) :: l => [cfgFld off 0 16 (if off == 0x270 then (Config.hwInit 0x270).toNat else id), cfgFld off 16 4 ver,
      cfgFld off 20 12 ((l.head?.map fun x => x.1).getD 0)] ++ cfgExtended l

/-- The capabilities of a function (R263). -/
def cfgCaps (pf : Bool) : List (Nat × Nat × Nat × Nat) :=
  if pf then cfgChain [(0x40, 0x01), (0x50, 0x05), (0x70, 0x10), (0xB0, 0x11)] ++
    cfgExtended [(0x100, 0x01, 3), (0x148, 0x0E, 1), (0x150, 0x10, 1), (0x190, 0x03, 1), (0x1A0, 0x25, 1), (0x1B0, 0x19, 1), (0x1E0, 0x26, 1),
      (0x210, 0x2A, 1), (0x240, 0x31, 1), (0x270, 0, 1), (0x2A0, 0x27, 1), (0x300, 0x2F, 1), (0x320, 0x1E, 2), (0x340, 0x0D, 1), (0x350, 0x22, 1),
      (0x360, 0x2E, 2), (0x380, 0x30, 1), (0x400, 0x0B, 1)]
  else cfgChain [(0x70, 0x10), (0xB0, 0x11)] ++ cfgExtended [(0x100, 0x01, 3), (0x148, 0x0E, 1), (0x340, 0x0D, 1), (0x400, 0x0B, 1)]

/-- The AER capability of a function: its status, its masks and severity (R276). -/
def cfgAer (f ctl : Func) : List (Nat × Nat × Nat × Nat) :=
  ([20, 15, 12, 14, 16, 18, 17, 13, 4, 22, 28, 46, 32, 38, 39, 40, 44].map fun b =>
    cfgFld (if b < 32 then 0x104 else 0x110) (b % 32) 1 (bt (f.aer.any fun e => aerBit e == b) 0)) ++
  [cfgFld 0x110 13 1 (bt f.aerAdv 0), cfgFld 0x108 0 32 ctl.aerMask, cfgFld 0x10C 0 32 ctl.aerSev, cfgFld 0x114 0 32 ctl.aerCor]

/-- Device Status: a correctable, non-fatal or fatal error and an Unsupported Request detected. -/
def cfgDetected (f ctl : Func) : List (Nat × Nat × Nat × Nat) :=
  let hard := f.aer.filter fun e => decide (aerBit e < 32)
  [cfgFld 0x07A 0 1 (bt (f.aerAdv || f.aer.any fun e => decide (32 ≤ aerBit e)) 0),
    cfgFld 0x07A 1 1 (bt (hard.any fun e => !bitOf ctl.aerSev (aerBit e)) 0), cfgFld 0x07A 2 1 (bt (hard.any fun e => bitOf ctl.aerSev (aerBit e)) 0),
    cfgFld 0x07A 3 1 (bt (f.aer.contains .unsupportedRequest) 0)]

/-- The fields of every function (R258, R263, R264, R266). -/
def cfgCommon (s : State) (p : Nat) (pf : Bool) : List (Nat × Nat × Nat × Nat) :=
  let h := portOf s (quadrantOf p)
  let f := funcOf s p
  [cfgFld 0x000 0 16 0x1F3D, cfgFld 0x002 0 16 (if pf then 0x8256 else 0x8257), cfgFld 0x004 1 1 (bt f.mse 0), cfgFld 0x004 2 1 (bt f.bme 0),
    cfgFld 0x006 4 1 1, cfgFld 0x008 0 32 0x06800000,
    cfgFld 0x02C 0 16 h.subsysVid, cfgFld 0x02E 0 16 h.subsysId, cfgFld 0x034 0 8 (if pf then 0x40 else 0x70), cfgFld 0x03D 0 8 (if pf then 1 else 0),
    cfgFld 0x072 0 4 2, cfgFld 0x072 15 1 1, cfgFld 0x074 0 3 2, cfgFld 0x074 5 1 1, cfgFld 0x074 15 1 1, cfgFld 0x074 18 10 h.slotPower,
    cfgFld 0x074 28 1 1, cfgFld 0x078 4 1 1, cfgFld 0x078 11 1 1, cfgFld 0x078 5 3 f.mps, cfgFld 0x078 12 3 f.mrrs, cfgFld 0x07C 0 4 h.bedSpeed,
    cfgFld 0x07C 4 6 (2 ^ h.bedWidth), cfgFld 0x07C 10 2 2, cfgFld 0x07C 15 3 6, cfgFld 0x07C 22 1 1, cfgFld 0x082 12 1 1, cfgFld 0x094 0 4 15,
    cfgFld 0x098 0 4 f.cto, cfgFld 0x098 4 1 (bt f.ctoDis 0), cfgFld 0x098 6 1 (bt f.atomicReq 0), cfgFld 0x09C 1 7 (2 ^ h.bedSpeed - 1),
    cfgFld 0x0B2 0 11 (max (vectorCount s p) 1 - 1), cfgFld 0x0B2 14 1 (bt f.fmask 0), cfgFld 0x0B2 15 1 (bt f.msixEn 0), cfgFld 0x0B4 0 32 0x8000,
    cfgFld 0x0B8 0 32 0x7F00, cfgFld 0x346 0 7 f.acs, cfgFld 0x404 0 16 1, cfgFld 0x404 20 12 16] ++
  cfgOnes 0x094 [4, 7, 8, 9, 16, 17] ++ cfgOnes 0x344 [2, 3, 5] ++ cfgLong 0x408 (ppIdWord p) ++ cfgAer f (funcOf s (pf0Of p)) ++
  cfgDetected f (funcOf s (pf0Of p)) ++ cfgCaps pf

/-- The registers of a BAR of 64 bits (R267): those of a BAR that is not implemented read 0; else the type, the Prefetchable bit, and the address as far as
the size lets it be written. -/
def cfgBar (off size addr : Nat) (prefetch : Bool) : List (Nat × Nat × Nat × Nat) :=
  if size == 0 then cfgLong off 0 else cfgLong off (addr % 2 ^ 64 / size * size + (if prefetch then 12 else 4))

/-- PF0's Link IDE Stream registers and capability (R284). -/
def cfgIde (s : State) (n : Nat) (h : HostPort) : List (Nat × Nat × Nat × Nat) :=
  [cfgFld 0x384 0 1 1, cfgFld 0x384 6 1 1, cfgFld 0x38C 0 1 (bt h.ide.enable 0), cfgFld 0x390 0 4 (if bitF s (F.HPT_LINK_IDE_SECURE n) then 2 else 0)]

/-- A time of Readiness Time Reporting: value and scale (R279). -/
def rtrTime (value scale : Nat) : Nat := value + scale * 512

/-- The CLKREQ_EN strap of port n: L1.1 and L1.2 are supported (R258, R524). -/
def clkreqWired (s : State) (n : Nat) : Bool := bitOf (getF s F.GDN_STRAP_EFFECTIVE) (3 + n)

/-- The fields of PF0 alone. -/
def cfgPf (s : State) (p : Nat) : List (Nat × Nat × Nat × Nat) :=
  let n := quadrantOf p
  let h := portOf s n
  let f := funcOf s p
  let pm := clkreqWired s n
  [cfgFld 0x004 8 1 (bt f.serr 0), cfgFld 0x004 10 1 (bt f.intDis 0), cfgFld 0x006 3 1 (bt (inta s n) 0), cfgFld 0x042 0 3 3,
    cfgFld 0x044 0 2 (if f.d3hot then 3 else 0), cfgFld 0x044 3 1 1, cfgFld 0x052 0 1 (bt f.msiEn 0), cfgFld 0x052 1 3 5, cfgFld 0x052 4 3 f.mme,
    cfgFld 0x052 7 2 3, cfgFld 0x05C 0 16 f.msiData, cfgFld 0x060 0 32 f.msiMask, cfgFld 0x064 0 32 f.msiPend,
    cfgFld 0x078 0 1 (bt f.repCor 0), cfgFld 0x078 1 1 (bt f.repNonFatal 0), cfgFld 0x078 2 1 (bt f.repFatal 0), cfgFld 0x078 3 1 (bt f.repUr 0),
    cfgFld 0x082 0 4 (getF s (F.HPT_LINK_SPEED n)), cfgFld 0x082 4 6 (getF s (F.HPT_LINK_WIDTH n)), cfgFld 0x0A0 0 4 h.bedSpeed,
    cfgFld 0x0A2 10 1 (bt (bitF s (F.HPT_LINK_FLIT n)) 0),
    cfgFld 0x154 2 1 1, cfgFld 0x158 0 1 (bt h.vfEnable 0), cfgFld 0x15C 0 16 h.totalVfs, cfgFld 0x15E 0 16 h.totalVfs, cfgFld 0x160 0 16 h.numVfs,
    cfgFld 0x164 0 16 1, cfgFld 0x166 0 16 1, cfgFld 0x16A 0 16 0x8257, cfgFld 0x16C 0 32 0x1F, cfgFld 0x170 0 32 1,
    cfgFld 0x1A4 0 1 1, cfgFld 0x1A4 31 1 1, cfgFld 0x304 1 2 3, cfgFld 0x324 0 5 (if pm then 31 else 0), cfgFld 0x328 0 4 f.substates,
    cfgFld 0x354 0 12 (rtrTime 30 5), cfgFld 0x354 12 12 (rtrTime 30 5), cfgFld 0x354 31 1 1, cfgFld 0x358 0 12 (rtrTime 306 3), cfgFld 0x358 12 12 (rtrTime 31 3),
    cfgFld 0x36C 0 1 (bt (bitF s (F.DOE_STATUS_OBJECT_READY n)) 0), cfgFld 0x36C 2 1 (bt h.doeError 0), cfgFld 0x36C 31 1 (bt h.doeReady 0)] ++
  cfgOnes 0x09C [23, 24] ++ cfgLong 0x054 f.msiAddr ++ cfgLong 0x194 (rootWord s rwSerial) ++ cfgIde s n h ++
  cfgBar 0x010 (if h.bar0Big then 0x2000000 else 0x10000) (mget f.bars 0 0) false ++ cfgBar 0x018 h.bar2Pf (mget f.bars 1 0) true ++
  cfgBar 0x020 h.bar4Pf (mget f.bars 2 0) false ++ cfgBar 0x174 0x10000 (mget f.vfBars 0 0) false ++ cfgBar 0x17C h.bar2Vf (mget f.vfBars 1 0) true ++
  cfgBar 0x184 h.bar4Vf (mget f.vfBars 2 0) false

/-- The fields of function p. -/
def configKnown (s : State) (p : Nat) : List (Nat × Nat × Nat × Nat) :=
  let pf := indexOf p == 0
  cfgCommon s p pf ++ (if pf then cfgPf s p else [])

/-- Put a field of width w at bit lo of a word. -/
def putBits (v lo w x : Nat) : Nat := v - bits v lo w * 2 ^ lo + x % 2 ^ w * 2 ^ lo

/-- The words of PF0 that the standard leaves to an implementation or fills from the link partner: Data Link Feature status, lane equalisation, the
Physical Layer capabilities' status, margining, the times of L1 PM Substates, the Egress Control Vector. -/
def cfgFixed (off : Nat) : Bool :=
  off == 0x1A8 || (decide (0x1BC ≤ off) && decide (off < 0x1DC)) || (decide (0x1E4 ≤ off) && decide (off < 0x2A0)) ||
    (decide (0x2A4 ≤ off) && decide (off < 0x2E8)) || (decide (0x324 ≤ off) && decide (off < 0x330)) || off == 0x348

/-- The words whose bits beyond the fields above no rule gives at this moment: the header log once an error has been logged, and the DOE read mailbox. -/
def cfgFree (s : State) (p off : Nat) : Bool :=
  (decide (0x11C ≤ off) && decide (off < 0x148) && !(funcOf s p).aer.isEmpty) ||
    (off == 0x374 && indexOf p == 0 && (portOf s (quadrantOf p)).doeReady)

/-- A word of configuration space: the fields above, and every other bit 0 (R258, R264), but for what an implementation fixes. -/
def configWord (s : State) (p d : Nat) : Nat × State :=
  let fs := (configKnown s p).filter fun x => x.1 == d
  let (v, s) :=
    if cfgFree s p (4 * d) then let (v, s) := drawFree s; (v % 2 ^ 32, s)
    else (if indexOf p == 0 && cfgFixed (4 * d) then (Config.hwInit (4 * d)).toNat else 0, s)
  (fs.foldl (fun v x => putBits v x.2.1 x.2.2.1 x.2.2.2) v, s)

/-- A write of one 32-bit register of the BARs held in a map (R267). -/
def barWrite (m : SMap Nat) (place value : Nat) : SMap Nat := mset m (place / 2) (putBits (mget m (place / 2) 0) (32 * (place % 2)) 32 value) 0

/-- The Link IDE Stream is Secure where it is enabled in Flit mode and each direction uses a key set that holds a key (R284). -/
def ideUpdate (s : State) (n : Nat) : State :=
  let i := (portOf s n).ide
  let keyed (d : Nat) : Bool := match mfind i.cur d with
    | some k => (mfind i.keys (2 * d + k)).isSome
    | none => false
  setB s (F.HPT_LINK_IDE_SECURE n) (i.enable && bitF s (F.HPT_LINK_FLIT n) && keyed 0 && keyed 1)

/-- Change a port's Link IDE Stream. -/
def modIde (s : State) (n : Nat) (f : Ide → Ide) : State := ideUpdate (modPort s n fun h => { h with ide := f h.ide }) n

/-- A configuration request other than those with a command of their own, to a function that answers it. -/
def configDo (s : State) (p : Nat) (a : ConfigAccess) : State :=
  let f := funcOf s p
  let n := quadrantOf p
  let pf := indexOf p == 0
  match a with
  | .memorySpace on => setFunc s p { f with mse := on }
  | .numVfs k => if pf then modPort s n fun h => { h with numVfs := k.toNat } else s
  | .sizes mps mrrs => setFunc s p { f with mps := mps, mrrs := mrrs }
  | .completionTimeout v off => setFunc s p { f with cto := v, ctoDis := off }
  | .atomicRequester on => setFunc s p { f with atomicReq := on }
  | .msiAddress a d m => if pf then setFunc s p { f with msiAddr := a.toNat, msiData := d.toNat, mme := m } else s
  | .bus b => if pf then modPort s n fun h => { h with rid := b.toNat * 256 } else s
  | .ideStream on => if pf && (!on || bitF s (F.HPT_LINK_FLIT n)) then modIde s n fun i => if on then { i with enable := true } else {} else s
  | .aerClear => setFunc s p { f with aer := [], aerAdv := false }
  | .bar k v => if pf then setFunc s p { f with bars := barWrite f.bars k v.toNat } else s
  | .vfBar k v => if pf then setFunc s p { f with vfBars := barWrite f.vfBars k v.toNat } else s
  | .acs r c e => setFunc s p { f with acs := bt r 2 + bt c 3 + bt e 5 }
  | .aerControl m v c => if pf then setFunc s p { f with aerMask := m.toNat, aerSev := v.toNat, aerCor := c.toNat } else s
  | .errorReporting c nf ft u serr => if pf then setFunc s p { f with repCor := c, repNonFatal := nf, repFatal := ft, repUr := u, serr := serr } else s
  | .substates e => if pf && clkreqWired s n then setFunc s p { f with substates := e } else s
  | .ideKey rx k1 key => if pf then modIde s n fun i => { i with keys := mput i.keys (bt rx 1 + bt k1 0) (key % 2 ^ 256) } else s
  | .ideGo rx k1 => if pf then modIde s n fun i => { i with cur := mput i.cur (bt rx 0) (bt k1 0) } else s
  | .read _ | .other => s

/-- HOST_CONFIG_ACCESS (R263). -/
def execHostConfigAccess (p : Fin 4096) (a : ConfigAccess) (s : State) : Host.Outcome State Fault Refusal :=
  .next <| match a with
  | .read d =>
    if !hostUp s (quadrantOf p) then s
    else if configRetry s p || !funcEnabled s p then configRefuse s p
    else
      let (v, s) := configWord s p d
      configAnswer s p (leBytes 4 v)
  | a => configWrite s p fun s => configDo s p a

/-! ### The link (R258, R262, R282, R286) -/

/-- The fields of HPT_LINK. -/
def hptLinkFields (n : Nat) : List Fld :=
  [F.HPT_LINK_LTSSM n, F.HPT_LINK_IDE_SECURE n, F.HPT_LINK_FLIT n, F.HPT_LINK_DL_UP n, F.HPT_LINK_READY n, F.HPT_LINK_SPEED n, F.HPT_LINK_WIDTH n]

/-- Set or clear port n's bit of RST_STATUS.PORT. -/
def portResetBit (s : State) (n : Nat) (on : Bool) : State :=
  let v := getF s F.RST_STATUS_PORT
  setF s F.RST_STATUS_PORT (if on then setBit v n else clrBit v n)

/-- What a port reset clears in the port's logic: the functions, the MSI-X tables, the transmit order, the link's state. The Routing ID and PERST_L are
not the reset's to change. -/
def portClear (s : State) (n : Nat) : State :=
  let s := { s with
    funcs := s.funcs.filter fun x => quadrantOf x.1 != n
    msix := s.msix.filter fun x => quadrantOf (x.1 / 2048) != n }
  let s := resetFields s (hptLinkFields n)
  let s := resetFields s [F.TST_PORT_MODE n]
  let h := portOf s n
  setPort (modQuad s n fun x => { x with held := [] }) n { rid := h.rid, perst := h.perst }

/-- A port reset (R282): every loaded plot goes through Cloche to Disabled, what awaits transmission is discarded and the port's
logic is reset. `ltssm` is where the LTSSM stands. The HPT_ registers keep the record of it (R474). -/
def portReset (s : State) (n ltssm : Nat) : State :=
  let s := hptEvent (bump s (F.HPT_COUNT_LINK_DOWNS n)) n F.HPT_EVENT_LINK_DOWN
  let s := (portPlots n).foldl (fun s p => clocheStart s p false true) s
  let s := (portPlots n).foldl (fun s p => if (plotOf s p).autoWait then modPlot s p fun x => { x with autoWait := false } else s) s
  portResetBit (setF (portClear s n) (F.HPT_LINK_LTSSM n) ltssm) n true

/-- A reset waits for the end of a Rootstock pulse that is in progress, and otherwise proceeds (R450, R472). -/
def heldOr (s : State) (r : HeldReset) (act : State → State) : State :=
  if s.root.queue.isEmpty then act s
  else setEv (setF { s with root := { s.root with held := s.root.held ++ [r] } } F.RST_STATUS_HELD 1) F.RST_EVENT_HELD 8

/-- A port reset as it arrives. -/
def portResetAsk (s : State) (n ltssm : Nat) : State := heldOr s (.port n ltssm) fun s => portReset s n ltssm

/-- log2 of a size in the bed as bytes. -/
def bedSize (k : Nat) : Nat := if k == 0 then 0 else 2 ^ k

/-- The values of R261 that a bed gives port n. -/
def bedPort (s : State) (n b : Nat) : State :=
  let x := bedWord s b (4 + 2 * n)
  let y := bedWord s b (5 + 2 * n)
  let s := setF (setF s (F.HPT_CTRL_MAX_SPEED n) (bits x 16 4)) (F.HPT_CTRL_MAX_WIDTH n) (bits x 12 3)
  modPort s n fun h => { h with
    bedSpeed := bits x 16 4, bedWidth := bits x 12 3, subsysId := bits x 48 16, subsysVid := bits x 32 16, pf0Msix := bits x 20 12, totalVfs := bits x 0 10, bar0Big := bitOf y 32,
    bar4Vf := bedSize (bits y 24 6), bar2Vf := bedSize (bits y 16 6), bar4Pf := bedSize (bits y 8 6), bar2Pf := bedSize (bits y 0 6) }

/-- The boot defaults (R262). -/
def bootPort (s : State) (n : Nat) : State :=
  let s := setF (setF s (F.HPT_CTRL_MAX_SPEED n) 7) (F.HPT_CTRL_MAX_WIDTH n) 4
  modPort s n fun h => { h with
    bedSpeed := 7, bedWidth := 4, subsysId := 0, subsysVid := 0, pf0Msix := 1, totalVfs := 0, bar0Big := false, bar4Vf := 0, bar2Vf := 0, bar4Pf := 0, bar2Pf := 0 }

/-- PORT_CONFIG_READY (R262): the boot ROM has the bed values in place once the Gardener runs. -/
def execPortConfigReady (n : Fin 4) (s : State) : Host.Outcome State Fault Refusal :=
  .next <|
    if !(portOf s n).perst || !decide (10 ≤ s.ctl.step) || decide (21 ≤ s.ctl.step) || bitF s (F.HPT_LINK_READY n) || heldQ s n 0 then s
    else
      let s := if bedNow s != 0 && s.ctl.step == 11 then bedPort s n (bedNow s) else bootPort s n
      hptEvent (portResetBit (setF s (F.HPT_LINK_READY n) 1) n false) n F.HPT_EVENT_READY

/-- The link can train: PERST_L high, LINK_EN 1, the port not held and out of the device's own reset. -/
def hostTrains (s : State) (n : Nat) : Bool :=
  (portOf s n).perst && bitF s (F.HPT_CTRL_LINK_EN n) && getF s (F.TST_PORT_MODE n) == 0 && !tapDrives s && !heldQ s n 0 && decide (10 ≤ s.ctl.step) && decide (s.ctl.step ≤ 11)

/-- The rate and width that HPT_CTRL offers are taken (R286): both when training starts, the rate at a RETRAIN. -/
def hostOffer (s : State) (n : Nat) (width : Bool) : State :=
  modPort s n fun h => { h with
    offSpeed := getF s (F.HPT_CTRL_MAX_SPEED n), offWidth := if width then getF s (F.HPT_CTRL_MAX_WIDTH n) else h.offWidth }

/-- A microsecond of training of a port whose link is down (R262): Detect, Polling, Configuration. -/
def hostTrainTick (s : State) (n : Nat) : State :=
  if !hostTrains s n || hostUp s n then s
  else match getF s (F.HPT_LINK_LTSSM n) with
    | 0 => setF (hostOffer s n true) (F.HPT_LINK_LTSSM n) 1
    | 1 => setF s (F.HPT_LINK_LTSSM n) 2
    | _ => s

/-- The port can reach L0 now: it trains, or it is in Recovery. -/
def hostReady (s : State) (n : Nat) : Bool :=
  let l := getF s (F.HPT_LINK_LTSSM n)
  hostTrains s n && (if hostUp s n then l == 4 else l != 9)

/-- The link reaches L0 at a rate and a width in lanes. -/
def hostL0 (s : State) (n speed lanes : Nat) (flit : Bool) : State :=
  let changed := getF s (F.HPT_LINK_SPEED n) != speed || getF s (F.HPT_LINK_WIDTH n) != lanes
  let s := setB (setF (setF (setF (setF s (F.HPT_LINK_LTSSM n) 3) (F.HPT_LINK_DL_UP n) 1) (F.HPT_LINK_SPEED n) speed) (F.HPT_LINK_WIDTH n) lanes)
    (F.HPT_LINK_FLIT n) flit
  if changed then hptEvent s n F.HPT_EVENT_RATE else s

/-- HOST_LINK_UP (R258, R286): the link reaches L0 at a rate and width that the port offered when this training began; Flit mode is required from
64 GT/s. -/
def execHostLinkUp (n : Fin 4) (speed : Fin 8) (width : Fin 5) (flit : Bool) (s : State) : Host.Outcome State Fault Refusal :=
  .next <|
    let l := getF s (F.HPT_LINK_LTSSM n)
    let s' := if l == 1 || l == 2 || l == 4 then s else hostOffer s n true
    if !hostReady s n || speed.val == 0 || decide ((portOf s' n).offSpeed < speed) || decide ((portOf s' n).offWidth < width) || (decide (6 ≤ speed.val) && !flit)
    then s
    else hostL0 s' n speed (2 ^ width.val) flit

/-- A write of 1 to HPT_CTRL.RETRAIN: a link that is up enters Recovery. -/
def hostRetrain (s : State) (n : Nat) : State :=
  if hostUp s n then modPort (setF (hostOffer s n false) (F.HPT_LINK_LTSSM n) 4) n fun h => { h with l1 := false } else s

/-- The partner asks for Loopback, or ends it (R491): the port enters it from Configuration or Recovery, which takes its link down. -/
def hostLoopback (s : State) (n : Nat) (on : Bool) : State :=
  let l := getF s (F.HPT_LINK_LTSSM n)
  if on then
    if hostUp s n && l == 4 then portResetAsk s n 9
    else if !hostUp s n && l == 2 then setF s (F.HPT_LINK_LTSSM n) 9 else s
  else if l == 9 then setF s (F.HPT_LINK_LTSSM n) 0 else s

/-- HOST_RETRAIN. -/
def execHostRetrain (n : Fin 4) (who : Party) (s : State) : Host.Outcome State Fault Refusal :=
  .next (if regOpen s who (A.HPT_CTRL n) then hostRetrain s n else s)

/-- A write of HPT_CTRL.LINK_EN: a change from 1 to 0 is a link-down. -/
def hostLinkEn (s : State) (n : Nat) (en : Bool) : State :=
  let was := bitF s (F.HPT_CTRL_LINK_EN n)
  let s := setB s (F.HPT_CTRL_LINK_EN n) en
  if was && !en then portResetAsk s n 0 else s

/-- HOST_LINK_EN_WRITE. -/
def execHostLinkEnWrite (n : Fin 4) (who : Party) (en : Bool) (s : State) : Host.Outcome State Fault Refusal :=
  .next (if regOpen s who (A.HPT_CTRL n) then hostLinkEn s n en else s)

/-- IDE_CHECK_FAIL (R284): the stream leaves Secure, and its keys are no longer used. -/
def execIdeCheckFail (n : Fin 4) (s : State) : Host.Outcome State Fault Refusal :=
  .next <|
    if bitF s (F.HPT_LINK_IDE_SECURE n) then
      let s := modPort s n fun h => { h with ide := { enable := h.ide.enable } }
      aerLog (hptEvent (setF s (F.HPT_LINK_IDE_SECURE n) 0) n F.HPT_EVENT_IDE_FAIL) (n * 1024) .ideCheck
    else s

/-- HOST_LINK_L1_ENTRY (R258): a link in L0 with nothing to transmit. -/
def execHostLinkL1Entry (n : Fin 4) (s : State) : Host.Outcome State Fault Refusal :=
  .next <|
    if getF s (F.HPT_LINK_LTSSM n) == 3 && hostUp s n && (portOf s n).txq.isEmpty then
      modPort (setF s (F.HPT_LINK_LTSSM n) 6) n fun h => { h with l1 := true }
    else s

/-! ### DOE (R285, R398) -/

/-- Firmware runs on the Gardener. -/
def firmwareRuns (s : State) : Bool := getF s F.GDN_BOOT_RESULT == 1 && !bitF s F.HDG_STATUS_SAFE

/-- DOE Error is set. -/
def doeFail (s : State) (n : Nat) : State := emit (modPort s n fun h => { h with doeError := true }) (.doeError n)

/-- A DOE Discovery object: vendor ID 0x0001, type 0 (PCI Express; assumption 20). -/
def doeDiscovery (bs : List Byte) : Bool := leNat (bs.take 3) == 1

/-- The answer to a DOE Discovery object (R285; laid out as the standard has it, assumption 20): the types DOE Discovery 0, CMA/SPDM 1 and Secured
CMA/SPDM 2 of vendor 0x0001, each with the index of the next; none at any other index. -/
def doeTypes (i : Nat) : List Byte :=
  leBytes 8 (1 + 3 * 2 ^ 32) ++ leBytes 4 (if i < 3 then 1 + i * 2 ^ 16 + (if i == 2 then 0 else i + 1) * 2 ^ 24 else 0xFFFF)

/-- The address of DOE_BUF of a port in the Gardener's space. -/
def doeBuf (n : Nat) : Nat := 0x30041000 + n * 0x2000

/-- A whole request object (R285, R376). -/
def doeObject (s : State) (n : Nat) (bs : List Byte) : State :=
  if 4096 < bs.length || bitF s (F.DOE_STATUS_OBJECT_READY n) then doeFail s n
  else if firmwareRuns s then
    let s := modPort (memWrite (memClear s (doeBuf n) 4096) (doeBuf n) bs) n fun h => { h with doeReady := false }
    let s := setF (setF s (F.DOE_STATUS_LENGTH n) ((bs.length + 3) / 4)) (F.DOE_STATUS_OBJECT_READY n) 1
    raise s (1156 + n)
  else if doeDiscovery bs then
    emit (modPort s n fun h => { h with doeReady := true }) (.doe n (doeTypes (leNat ((bs.drop 8).take 1))))
  else doeFail s n

/-- DOE_OBJECT_RECEIVED. -/
def execDoeObjectReceived (n : Fin 4) (bs : List Byte) (s : State) : Host.Outcome State Fault Refusal :=
  .next (if hostUp s n && bitF s (F.HPT_LINK_READY n) then doeObject s n bs else s)

/-- DOE_ABORT (R398). -/
def execDoeAbort (n : Fin 4) (s : State) : Host.Outcome State Fault Refusal :=
  .next <|
    if hostUp s n && bitF s (F.HPT_LINK_READY n) then
      let s := modPort (memClear s (doeBuf n) 4096) n fun h => { h with doeError := false, doeReady := false }
      let s := setF (setF s (F.DOE_STATUS_LENGTH n) 0) (F.DOE_STATUS_OBJECT_READY n) 0
      raise (setF s (F.DOE_STATUS_ABORT n) 1) (1156 + n)
    else s

/-- A write of DOE_RESP: ignored where no object is in progress. -/
def doeResponse (s : State) (n v : Nat) : State :=
  if !bitF s (F.DOE_STATUS_OBJECT_READY n) then s
  else
    let s := setF s (F.DOE_STATUS_OBJECT_READY n) 0
    if bitOf v 63 then doeFail s n
    else emit (modPort s n fun h => { h with doeReady := true }) (.doe n (memRead s (doeBuf n) (4 * min (bits v 0 11) 1024)))

/-- DOE_RESPONSE_READY. -/
def execDoeResponseReady (n : Fin 4) (v : Word) (s : State) : Host.Outcome State Fault Refusal := .next (doeResponse s n v.toNat)

end Sys2Proof.Machine
end

