-- ==== Sys2Proof/Machine/Modes.lean ====
section
/-!
DEFINITION. The mode controller (chapter 18): modes, wakes, Doze, trips into Safe (chapter 15) and the Gardener's reset (R480), with
the commands that reach no device-level reset.
-/
namespace Sys2Proof.Machine

/-- Event bits of the mode controller, the reset block and Hedge (R470, R485, R415). -/
def pwmEvent (s : State) (f : Fld) : State := setEv s f 7
def rstEvent (s : State) (f : Fld) : State := setEv s f 8
def hdgEvent (s : State) (f : Fld) : State := setEv s f 1272

/-! ### Modes (R453, R454) -/

/-- The device takes a mode. The time base starts at the first entry into Serve or Safe (R464); entry into Serve from Boot clears the bed's boot
count (R445) and starts the loads that waited (R547). -/
def setMode (s : State) (m : Nat) : State :=
  let old := pwmMode s
  if old == m then s
  else
    let s := pwmEvent (setF (setF s F.PWM_STATUS_LAST_MODE old) F.PWM_STATUS_MODE m) F.PWM_EVENT_MODE
    let s := if m == moSafe then bump s F.PWM_COUNT_SAFE else if m == moDoze then bump s F.PWM_COUNT_DOZES else s
    let s := if old == moDoze || old == moDormant then pwmEvent s F.PWM_EVENT_WOKE else s
    let s := if (m == moServe || m == moSafe) && !s.started then { s with started := true, now := 0 } else s
    if m == moServe && old == moBoot then loadsResume (bedServed s) else s

/-- End the command in progress. -/
def pwmResult (s : State) (r : Nat) : State := setF (setF s F.PWM_CMD_STATUS_RESULT r) F.PWM_CMD_STATUS_BUSY 0

/-- A Doze entry is abandoned (R459). -/
def dozeAbandon (s : State) (r : Nat) : State :=
  let s := pwmEvent (pwmResult s r) F.PWM_EVENT_DOZE_ABANDONED
  (List.range 8).foldl (fun s f => if (linkOf s f).doze then hushDrop s f else s) s

/-! ### Wakes (R457) -/

/-- RAIL_EN rises. -/
def railUp (s : State) : State := if s.ctl.railEn then s else emit { s with ctl := { s.ctl with railEn := true } } (.railEn true)

/-- A source of R457 wakes the device from Dormant, starts a Doze exit, or ends a Doze entry; in another mode it has no effect. -/
def wake (s : State) (code : Nat) : State :=
  let m := pwmMode s
  if m == moDormant then
    if s.ctl.railEn || decide (3 < code) then s else railUp (setF s F.PWM_STATUS_WAKE_SRC code)
  else if m == moDoze then
    if s.ctl.waking then s
    else
      let s := { setF s F.PWM_STATUS_WAKE_SRC code with ctl := { s.ctl with waking := true } }
      (List.range 8).foldl (fun s f => hushExit s f true) s
  else if dozing s then dozeAbandon s 5
  else s

/-! ### The Gardener's reset (R480) -/

/-- Aperture accesses are abandoned: their tags stay reserved, and their responses count as late (R386). -/
def apertureAbandon (s : State) (core : Nat → Bool) : State :=
  { s with unit0 := s.unit0.map fun x => match x.2 with
    | .aperture c w o _ op n => if core c then (x.1, .aperture c w o true op n) else x
    | _ => x }

/-- A reset of the Gardener: the engines, the Event Gate, the aperture and the watchdog. After a trip the recovery service runs (R382, R413). -/
def gardenerReset (s : State) : State :=
  let s := { apertureAbandon s (fun _ => true) with fw := {} }
  let s := [(0x30000000, 0x800), (0x30020000, 0x10000), (0x30030000, 0x10000), (0x30040000, 0x8000)].foldl
    (fun s x => memClear (cellsClear s x.1 x.2) x.1 x.2) s
  let s := evgClear (setF s F.HDG_STATUS_WDOG_RUN 0)
  if bitF s F.HDG_STATUS_SAFE && getF s F.HDG_STATUS_CAUSE != 0 then setF s F.GDN_BOOT_RESULT 3 else s

/-- The same as it arrives (R472). -/
def gardenerResetAsk (s : State) : State := heldOr s .gardener gardenerReset

/-! ### Trips (R413, R467) -/

/-- Trip causes. -/
def tcWatchdog : Nat := 1
def tcPower : Nat := 2
def tcCommand : Nat := 3
def tcThermal : Nat := 4
def tcIntegrity : Nat := 5

/-- Every Calfos port goes Off with EN 0 (R467, R502). -/
def calfosDown (s : State) : State := (List.range 8).foldl (fun s f => portOff (setF s (F.CFP_CTRL_EN f) 0) f) s

/-- The device enters Safe; `cause` 0 is NO_IMAGE, which no trip cause names (R382). The first cause stands. -/
def enterSafe (s : State) (cause : Nat) : State :=
  let s := if dozing s then dozeAbandon s 5 else s
  let s := setF (setF s F.HDG_STATUS_SAFE 1) F.HDG_STATUS_RELOADED 0
  let s := if getF s F.HDG_STATUS_CAUSE == 0 then setF s F.HDG_STATUS_CAUSE cause else s
  let s := setMode { s with ctl := { s.ctl with trip := none, cooling := false } } moSafe
  apertureAbandon s fun _ => true

/-- A trip whose time has come. -/
def tripNow (s : State) (cause : Nat) : State :=
  let s := enterSafe s cause
  let s := if cause == tcThermal then calfosDown (pwmEvent { s with ctl := { s.ctl with hotTrip := true } } F.PWM_EVENT_THERMAL_SAFE) else s
  gardenerResetAsk s

/-- A trip: recorded while the release order or a Doze exit runs, for which a trip in Doze is a wake (R469, R484). -/
def hedgeTrip (s : State) (cause : Nat) : State :=
  let record (s : State) : State := { s with ctl := { s.ctl with trip := some (s.ctl.trip.getD cause) } }
  if s.ctl.step != 11 then record s
  else if pwmMode s == moDoze then wake (record s) 8
  else tripNow s cause

/-! ### PWM_CMD (R458, R459) -/

/-- A write of PWM_CMD: `act` runs with BUSY 1. -/
def pwmCmd (s : State) (who : Party) (op : Nat) (act : State → State) : State :=
  if !partyOpen s who then s
  else if bitF s F.PWM_CMD_STATUS_BUSY then setF s F.PWM_CMD_STATUS_OVERRUN 1
  else act (setF (setF s F.PWM_CMD_STATUS_OP op) F.PWM_CMD_STATUS_BUSY 1)

/-- SERVE. -/
def modeServe (s : State) : State :=
  let m := pwmMode s
  if m == moBoot then
    if bitF s F.ROOT_STATUS_PROVISION then pwmResult s 2
    else if !bitF s F.ROOT_STATUS_READY then pwmResult s 1
    else setMode (pwmResult s 0) moServe
  else if m == moServe then pwmResult s 0
  else if m == moDoze then wake (pwmResult s 0) 7
  else pwmResult s 1

/-- MODE_SERVE. -/
def execModeServe (who : Party) (s : State) : Host.Outcome State Fault Refusal := .next (pwmCmd s who 1 modeServe)

/-- The conditions of a Doze entry (R459). -/
def dozeReady (s : State) : Bool :=
  (List.range 4).all (fun n => (portOf s n).l1 || !hostUp s n) && (List.range 4).all (fun q => (quadOf s q).ledger.isEmpty) &&
    s.chans.all (fun x => !x.2.resident && !x.2.pending) && getF s F.RAK_STATUS_WORDS == 0 && s.mq.isEmpty

/-- DOZE: every Active port is asked for Hush. -/
def modeDoze (s : State) : State :=
  if pwmMode s != moServe then pwmResult s 1
  else if !dozeReady s then pwmResult s 3
  else (List.range 8).foldl (fun s f =>
    if cfpState s f != cfpActive then s
    else if (linkOf s f).hush == 0 then hushAsk s f
    else modLink s f fun l => { l with doze := true }) s

/-- MODE_DOZE. -/
def execModeDoze (who : Party) (s : State) : Host.Outcome State Fault Refusal := .next (pwmCmd s who 2 modeDoze)

/-- A pin in the wake role is asserted (R525). -/
def wakePin (s : State) : Bool := (List.range 24).any fun t => getF s (F.GDN_TND_CFG_ROLE t) == 2 && tndAsserted s t

/-- DOZE_HUSH_COMPLETE (R459, step 3): every port is in Hush or Off, and the conditions hold still. -/
def execDozeHushComplete (s : State) : Host.Outcome State Fault Refusal :=
  .next <|
    if !dozing s then s
    else if !(List.range 8).all (fun f => cfpState s f == cfpHush || cfpState s f == cfpOff) then s
    else if !dozeReady s then dozeAbandon s 5
    else
      let s := setMode (pwmResult s 0) moDoze
      if wakePin s then wake s 6 else s

/-- DOZE_ENTRY_TIMEOUT (R459): a port did not answer within 1 ms. -/
def execDozeEntryTimeout (s : State) : Host.Outcome State Fault Refusal := .next (if dozing s then dozeAbandon s 4 else s)

/-- DOZE_EXIT_PLL_LOCKED (R460, R469): Serve, and then Safe where a trip was the wake. -/
def execDozeExitPllLocked (s : State) : Host.Outcome State Fault Refusal :=
  .next <|
    if pwmMode s == moDoze && s.ctl.waking then
      let s := setMode { s with ctl := { s.ctl with waking := false } } moServe
      match s.ctl.trip with
      | some c => tripNow s c
      | none => s
    else s

/-! ### Timers, clocks and rails -/

/-- WAKE_TIMER_EXPIRE (R457, R469): PWM_WAKE.TIMER has counted down to 0. -/
def execWakeTimerExpire (s : State) : Host.Outcome State Fault Refusal :=
  .next (if getF s F.PWM_WAKE_TIMER == 0 then s else wake (setF s F.PWM_WAKE_TIMER 0) 3)

/-- RAIL_TIMEOUT (R456). -/
def execRailTimeout (s : State) : Host.Outcome State Fault Refusal :=
  .next (if s.ctl.railEn && !s.ctl.railGood then pwmEvent s F.PWM_EVENT_RAIL_TIMEOUT else s)

/-- XTAL_STABLE (R462). -/
def execXtalStable (s : State) : Host.Outcome State Fault Refusal := .next (setF s F.PWM_STATUS_XTAL 1)

/-- XTAL_STOP (R462). -/
def execXtalStop (s : State) : Host.Outcome State Fault Refusal := .next (setF s F.PWM_STATUS_XTAL 0)

/-- CORE_RAIL_MISMATCH (R465). -/
def execCoreRailMismatch (s : State) : Host.Outcome State Fault Refusal := .next (pwmEvent s F.PWM_EVENT_RAIL_MISMATCH)

/-- AVS_ADJUST (R465): one step toward the code that the monitors need, within MIN_CODE to MAX_CODE, with an event where they need more; FIXED with EN 0. -/
def execAvsAdjust (need : Fin 32) (s : State) : Host.Outcome State Fault Refusal :=
  .next <|
    if !bitF s F.PWM_AVS_EN then setF s F.PWM_AVS_CODE (getF s F.PWM_AVS_FIXED)
    else
      let hi := getF s F.PWM_AVS_MAX_CODE
      let code := getF s F.PWM_AVS_CODE
      let s := setF s F.PWM_AVS_TARGET need
      let s := if hi < need.val then pwmEvent s F.PWM_EVENT_AVS_LIMIT else s
      let goal := min hi (max need.val (getF s F.PWM_AVS_MIN_CODE))
      setF s F.PWM_AVS_CODE (if code < goal then code + 1 else if goal < code then code - 1 else code)

/-! ### Quadrant clocks (R461) -/

/-- The quadrant has work. -/
def quadBusy (s : State) (q : Nat) : Bool :=
  let x := quadOf s q
  !(portOf s q).txq.isEmpty || !x.table.isEmpty || !x.ledger.isEmpty || !x.fills.isEmpty || x.commit.isSome || !x.commitQ.isEmpty || x.plt.isSome || !x.missQ.isEmpty ||
    !x.inbound.isEmpty || !x.held.isEmpty || (quadChans s q).any (fun c => c.2.resident || c.2.pending) ||
    s.plots.any (fun p => quadrantOf p.1 == q && (!p.2.queue.isEmpty || p.2.matched.isSome || p.2.passing.isSome || (p.2.dirty && getF s (F.PLT_WB_PERIOD q) != 0) || p.2.wbBusy.isSome || p.2.cloche.isSome || p.2.load.isSome)) ||
    s.pga.inbox.any (fun b => (b.1 / 8 == q || b.1 / 8 == 12 + q) && !b.2.isEmpty) ||
    s.pga.active.any (fun b => b.1 / 8 == q || b.1 / 8 == 12 + q) || 
    s.pga.waiting.any (fun x => x.t.ingress == q || x.t.ingress == 12 + q || x.egress == q || x.egress == 12 + q)

/-- The clocks of quadrant q run again; prefetch entries that reached LIFE meanwhile are discarded. -/
def quadRestart (s : State) (q : Nat) : State :=
  let r := getF s F.PWM_GATE_RUN
  if bitOf r q then s
  else
    let s := bump (setF s F.PWM_GATE_RUN (setBit r q)) F.PWM_GATE_WAKES
    pfDiscard s q 0 fun e => decide (e.born + e.life ≤ s.now)

/-- Outside Doze, each quadrant whose clocks are stopped and that has work has its clocks restarted. -/
def quadWakes (s : State) : State :=
  if pwmMode s == moDoze then s
  else (List.range 4).foldl (fun s q => if bitOf (getF s F.PWM_GATE_RUN) q || !quadBusy s q then s else quadRestart s q) s

/-- QUADRANT_CLOCK_STOP. -/
def execQuadrantClockStop (q : Fin 4) (s : State) : Host.Outcome State Fault Refusal :=
  .next <|
    if (pwmMode s == moServe || pwmMode s == moBoot) && bitOf (getF s F.PWM_GATE_Q_EN) q && !quadBusy s q
    then setF s F.PWM_GATE_RUN (clrBit (getF s F.PWM_GATE_RUN) q) else s

/-! ### Temperature (R466, R467) -/

/-- The step's thresholds, encoded as °C + 64: entered at and left below. -/
def stepEnter (k : Nat) : Nat := 105 + 5 * k + 64
def stepLeave (k : Nat) : Nat := 102 + 5 * k + 64

/-- The step after a hottest reading: up by at most one per sample, down by at most one per 1 ms (10 samples). -/
def thermStep (s : State) (tj : Nat) : State :=
  let k := getF s F.PWM_STATUS_THERM_STEP
  let age := s.ctl.since + 1
  let next := if decide (k < 8) && decide (stepEnter (k + 1) ≤ tj) then k + 1
    else if decide (0 < k) && decide (tj < stepLeave k) && decide (10 ≤ age) then k - 1 else k
  let s := { s with ctl := { s.ctl with since := if next < k then 0 else age } }
  if next == k then s else pwmEvent (setF s F.PWM_STATUS_THERM_STEP next) F.PWM_EVENT_THERM_STEP

/-- Time at step 1 or above, in whole milliseconds. -/
def throttleTime (s : State) : State :=
  if getF s F.PWM_STATUS_THERM_STEP == 0 then s
  else if s.ctl.hot == 9 then bump { s with ctl := { s.ctl with hot := 0 } } F.PWM_COUNT_THROTTLE_MS
  else { s with ctl := { s.ctl with hot := s.ctl.hot + 1 } }

/-- ALERT_L follows the step and ALERT_STEP. -/
def alertShow (s : State) : State :=
  let a := getF s F.PWM_THERM_ALERT_STEP
  { s with ctl := { s.ctl with alert := a != 0 && decide (a ≤ getF s F.PWM_STATUS_THERM_STEP) } }

/-- The device leaves Safe for Boot: SAFE_RELEASE takes effect (R454, R467). The Gardener is reset to boot as R379 gives. -/
def leaveSafe (s : State) : State :=
  let s := { s with ctl := { s.ctl with cooling := false, hotTrip := false } }
  let s := [F.HDG_STATUS_SAFE, F.HDG_STATUS_RELOADED, F.HDG_STATUS_CAUSE].foldl (fun s f => setF s f 0) s
  gardenerResetAsk (setMode s moBoot)

/-- THERMAL_SAMPLE: the sensors of the quadrants and of Pergola. -/
def thermalSample (s : State) (q0 q1 q2 q3 pga : Nat) : State :=
  let tj := max (max (max q0 q1) (max q2 q3)) pga
  let reached := decide (getF s F.PWM_STATUS_TJ_MAX < 150 + 64) && decide (150 + 64 ≤ tj)
  let s := setF (setF s F.PWM_TEMP_Q (q0 + q1 * 2 ^ 8 + q2 * 2 ^ 16 + q3 * 2 ^ 24)) F.PWM_TEMP_PGA pga
  let s := setF (highWater s F.PWM_TEMP_HIGH tj) F.PWM_STATUS_TJ_MAX tj
  let s := if pwmMode s == moDoze then s else alertShow (throttleTime (thermStep s tj))
  if reached then hedgeTrip s tcThermal
  else if s.ctl.cooling && decide (tj < 135 + 64) && s.ctl.step == 11 then leaveSafe s
  else s

/-- THERMAL_SAMPLE (R466): taken in every mode except Off and Dormant. -/
def execThermalSample (q0 q1 q2 q3 pga : Byte) (s : State) : Host.Outcome State Fault Refusal :=
  .next (if pwmMode s == moDormant then s else thermalSample s q0.toNat q1.toNat q2.toNat q3.toNat pga.toNat)

/-! ### Host pins that wake (R457) -/

/-- PERST_RISE (R262, R457). -/
def execPerstRise (n : Fin 4) (s : State) : Host.Outcome State Fault Refusal :=
  .next <|
    if (portOf s n).perst then s
    else wake (modPort s n fun h => { h with perst := true }) 1

/-- LTSSM after the event of a port reset. -/
def downState : PortDown → Nat
  | .perst | .linkDown => 0
  | .hotReset => 0x0A
  | .linkDisable => 0x08

/-- PORT_RESET (R282): PERST_L low is also a wake in Doze (R457). A Hot Reset, Link Disable or link-down needs a link that is up. -/
def execPortReset (n : Fin 4) (why : PortDown) (s : State) : Host.Outcome State Fault Refusal :=
  .next <|
    if why == .perst then
      if (portOf s n).perst then
        let s := modPort s n fun h => { h with perst := false }
        portResetAsk (if pwmMode s == moDormant then s else wake s 1) n 0
      else s
    else if hostUp s n then portResetAsk s n (downState why) else s

/-- HOST_LINK_L1_EXIT (R457). -/
def execHostLinkL1Exit (n : Fin 4) (s : State) : Host.Outcome State Fault Refusal :=
  .next <|
    if (portOf s n).l1 then wake (modPort (setF s (F.HPT_LINK_LTSSM n) 3) n fun h => { h with l1 := false }) 4 else s

end Sys2Proof.Machine
end

