-- ==== Sys2Proof/Machine/Reset.lean ====
section
/-!
DEFINITION. Resets (chapter 19): the reach of power-on, rail and device-level resets, the release order, block soft resets, held resets, and the
commands of the mode controller that lead to a reset.
-/
namespace Sys2Proof.Machine

/-- Device-level reset causes (R488). -/
def rcPowerOn : Nat := 1
def rcRail : Nat := 2
def rcRefLoss : Nat := 3
def rcDevice : Nat := 4
def rcSegment : Nat := 5

/-- The wider of two causes: power-on, rail, reference-loss, segment, device (R473). -/
def wider (a b : Nat) : Nat :=
  let rank (c : Nat) : Nat := if c == rcSegment then 3 else if c == rcDevice then 4 else c - 1
  if rank b < rank a then b else a

/-! ### Reach (R474, R477) -/

/-- The register fields that a device-level reset keeps: the always-on records, Rootstock, the chain controller with GLB_NODE, the straps and the level of
the Tendril pins. -/
def keyKept (k : Nat) : Bool :=
  let a := k / 64
  a == A.GLB_NODE || (decide (0x30000 ≤ a) && decide (a < 0x40000)) || a == A.PWM_STATUS || a == A.PWM_WAKE || a == A.PWM_EVENT || a == A.PWM_COUNT ||
    a == A.RST_STATUS || a == A.RST_CAUSE || a == A.RST_COUNT || (decide (0x60000 ≤ a) && decide (a < 0x70000)) || a == A.GDN_STRAP ||
    k == F.GDN_TND_IN_LEVEL.key

/-- Hedge's fields. -/
def keyHedge (k : Nat) : Bool := decide (0x20000 ≤ k / 64) && decide (k / 64 < 0x30000)

/-- HDG_SPDM_BUF in the Gardener's space. -/
def spdmBuf : Nat := 0x20021000

/-- Everything outside the always-on domain goes; Hedge stays where the main rails stay (R474). The first trip cause is a record since
power-on reset (R413). -/
def mainClear (s : State) (hedge : Bool) : State :=
  let inBuf (a : Nat) : Bool := decide (spdmBuf ≤ a) && decide (a < spdmBuf + 4096)
  { s with
    cells := s.cells.filter fun x => keyKept x.1 || (hedge && keyHedge x.1) || x.1 == F.HDG_STATUS_CAUSE.key
    mem := if hedge then s.mem.filter fun x => inBuf x.1 else []
    hdg := if hedge then s.hdg else {}
    plots := [], funcs := [], msix := [], quads := [], pga := {}, links := [], trl := {}, rake := {}, test := { tap := s.test.tap }, fw := {}, chans := [], unit0 := [], mq := []
    ports := s.ports.filterMap fun x => if x.2.perst || x.2.rid != 0 then some (x.1, { perst := x.2.perst, rid := x.2.rid }) else none
    started := false, now := 0 }

/-- The strap pins are sampled; TND0 only at power-on reset (R474, R523). The levels are free of any role: a pin that drives is high-impedance
in reset. -/
def strapsSample (s : State) (provision : Bool) : State :=
  let v := getF s F.GDN_TND_IN_LEVEL
  let old := getF s F.GDN_STRAP_SAMPLED
  setF s F.GDN_STRAP_SAMPLED (if provision then v else v / 2 * 2 + old % 2)

/-- STRAP_OVR takes effect on every strap but TND0 (R439). -/
def strapsApply (s : State) : State :=
  let o := rootWord s rwStrapOvr
  let v := getF s F.GDN_STRAP_SAMPLED
  setF s F.GDN_STRAP_EFFECTIVE (((List.range 24).filter fun t => if t != 0 && bitOf o (24 + t) then bitOf o t else bitOf v t).foldl setBit 0)

/-- A strap's value in effect. -/
def strap (s : State) (t : Nat) : Bool := bitOf (getF s F.GDN_STRAP_EFFECTIVE) t

/-! ### Device-level resets (R471 to R476) -/

/-- The release order of a device-level reset is in progress. -/
def resetGoing (s : State) : Bool := s.ctl.step != 11

/-- RST_CAUSE at a reset: one that merges with a reset in progress leaves the wider cause in LAST (R473, R488). -/
def causeNote (s : State) (cause : Nat) : State :=
  let last := getF s F.RST_CAUSE_LAST
  if resetGoing s then setF s F.RST_CAUSE_LAST (wider last cause) else setF (setF s F.RST_CAUSE_PREV last) F.RST_CAUSE_LAST cause

/-- A device, segment or reference-loss reset is asserted (S1): it merges with one in progress (R473), and restarts from S1. -/
def deviceAssert (s : State) (cause : Nat) : State :=
  let going := resetGoing s
  let s := bump (causeNote s cause) (if cause == rcDevice then F.RST_COUNT_DEVICE else if cause == rcSegment then F.RST_COUNT_SEGMENT else F.RST_COUNT_REF_LOSS)
  let s := setF (mainClear s true) F.HDG_STATUS_WDOG_RUN 0
  { setF s F.RST_STATUS_PORT 0xF with
    ctl := { s.ctl with step := 21, cause := if going then wider s.ctl.cause cause else cause, cooling := false, waking := false, alert := false, clrWait := 0 } }

/-- A segment reset also clears VALID and abandons the roll call, which the head begins anew (R471, R362). In Dormant only the chain is reached, because
everything else is in reset already. -/
def segmentReset (s : State) : State :=
  let s := setNodeValid s false
  let s := setF { s with chain := { s.chain with wait := 0, attempts := 0, again := false } } F.CHN_STATUS_ROLL_STATE rsIdle
  if pwmMode s == moDormant && decide (s.ctl.step < 6) then (if isHead s then rollStart s false else s)
  else
    let s := deviceAssert s rcSegment
    { s with ctl := { s.ctl with rollDue := true } }

/-- A rail reset (R454, R471): Dormant, with RAIL_EN kept high. -/
def railReset (s : State) : State :=
  let s := pwmEvent (causeNote s rcRail) F.PWM_EVENT_RAIL_LOSS
  let s := setMode (mainClear (bump s F.RST_COUNT_RAIL) false) moDormant
  { setF s F.RST_STATUS_PORT 0xF with
    ctl := { s.ctl with step := 5, cause := rcRail, trip := none, cooling := false, waking := false, alert := false, clrWait := 0 } }

/-- A power-on reset: all but Rootstock's words and what the pins hold (R474). -/
def powerOn (s : State) : State :=
  let s' : State :=
    { cells := s.cells.filter fun x => x.1 == F.GDN_TND_IN_LEVEL.key
      ports := s.ports.filterMap fun x => if x.2.perst then some (x.1, { perst := true }) else none
      root := { words := s.root.words, written := s.root.written, wear := s.root.wear, corr := s.root.corr, uncorr := s.root.uncorr }
      ctl := { railGood := s.ctl.railGood, refClk := s.ctl.refClk }
      test := { tap := s.test.tap }
      ticks := s.ticks, free := s.free, out := s.out, pending := s.pending }
  if s.ctl.railEn then emit s' (.railEn false) else s'

/-- The always-on rail falls during a pulse: the word holds its old value or its new one (R433). -/
def pulseCut (s : State) : State :=
  match s.root.queue with
  | [] => s
  | w :: _ =>
    let (v, s) := drawFree s
    if v % 2 == 1 then rootStore s w.index w.value else s

/-- POWER_ON_RESET: the fall of the rail is never held (R472). -/
def execPowerOnReset (railFall : Bool) (s : State) : Host.Outcome State Fault Refusal :=
  .next (if railFall then powerOn (pulseCut s) else heldOr s .powerOn powerOn)

/-! ### Release order (R476) -/

/-- The order has reached a step. -/
def atStep (s : State) (k : Nat) : State := { s with ctl := { s.ctl with step := k } }

/-- Step 4: bed selection, CHN_CTRL from the bed and the strap, Dormant. -/
def stepSelect (s : State) : State :=
  let s := bedSelect s
  let s := if bedNow s == 0 then s else chainApply s (bedNow s)
  pwmEvent (setF (setB s F.CHN_CTRL_HEAD (strap s 1)) F.PWM_STATUS_MODE moDormant) F.PWM_EVENT_MODE

/-- Step 5: roll call, and RAIL_EN unless BOOT_HOLD is 1. -/
def stepRails (s : State) : State :=
  let s := if isHead s then rollStart s false else s
  if strap s 2 then s else wake (atStep s 5) 0

/-- Step 6 can pass: the rails are good and the fabric reference clock is present. -/
def railsReady (s : State) : Bool := s.ctl.railEn && s.ctl.railGood && s.ctl.refClk

/-- Step 6: after a rail reset the straps other than TND0 are sampled again. -/
def stepMain (s : State) : State := if s.ctl.cause == rcRail then strapsApply (strapsSample s false) else s

/-- Step 8: where the main rails were lost, Hedge takes its allowance from Rootstock. -/
def stepHedge (s : State) : State :=
  if s.ctl.cause == rcPowerOn || s.ctl.cause == rcRail then { s with hdg := { allow := bits (rootWord s rwTendril) 0 48 } } else s

/-- Step 9: Boot, or Safe at 135 °C and above after a thermal trip (R475). -/
def stepMode (s : State) : State :=
  if s.ctl.hotTrip && decide (135 + 64 ≤ getF s F.PWM_STATUS_TJ_MAX) then
    let s := setF s F.HDG_STATUS_SAFE 1
    setMode { s with ctl := { s.ctl with cooling := true } } moSafe
  else setMode (setF (setF { s with ctl := { s.ctl with hotTrip := false } } F.HDG_STATUS_SAFE 0) F.HDG_STATUS_RELOADED 0) moBoot

/-- Step 10: the host ports whose PERST_L is high leave port reset. -/
def stepPorts (s : State) : State :=
  setF s F.RST_STATUS_PORT (((List.range 4).filter fun n => !(portOf s n).perst).foldl setBit 0)

/-- Step 11: the Gardener runs the boot ROM. The head begins the roll call of a segment reset, one that merged with a wider reset too (R473); a trip
that was recorded takes effect (R484). -/
def stepGardener (s : State) : State :=
  let due := s.ctl.rollDue
  let s := { s with ctl := { s.ctl with rollDue := false } }
  let s := if due then rollStart s false else s
  match s.ctl.trip with
  | some c => tripNow s c
  | none => if bitF s F.HDG_STATUS_SAFE then setF s F.GDN_BOOT_RESULT 3 else s

/-- The next step of the release order, where its condition holds. -/
def releaseStep (s : State) : State :=
  match s.ctl.step with
  | 1 =>
    let s := strapsSample s true
    let s := setF (setB s F.ROOT_STATUS_PROVISION (bitOf (getF s F.GDN_STRAP_SAMPLED) 0)) F.ROOT_STATUS_READY 1
    atStep s 2
  | 2 => atStep (rootCount (strapsApply s) 0) 3
  | 3 => atStep (stepSelect s) 4
  | 4 => atStep (stepRails s) 5
  | 5 => if railsReady s then atStep (stepMain s) 6 else s
  | 6 => atStep s 7
  | 7 => atStep (stepHedge s) 8
  | 8 => atStep (stepMode s) 9
  | 9 => atStep (stepPorts s) 10
  | 10 => stepGardener (atStep s 11)
  | 21 => atStep s 22
  | 22 => atStep (bedSelect (strapsApply (strapsSample s false))) 23
  | 23 => if s.ctl.refClk then atStep s 7 else s
  | _ => s

/-- RELEASE_ORDER_STEP. -/
def execReleaseOrderStep (s : State) : Host.Outcome State Fault Refusal := .next (releaseStep s)

/-- RAIL_GOOD_RISE (R454). -/
def execRailGoodRise (s : State) : Host.Outcome State Fault Refusal :=
  .next <|
    let s := { s with ctl := { s.ctl with railGood := true } }
    if s.ctl.step == 5 then releaseStep s else s

/-- RAIL_GOOD_LOSS (R454): outside Dormant a rail reset; before Boot the order waits at step 5 again. -/
def execRailGoodLoss (s : State) : Host.Outcome State Fault Refusal :=
  .next <|
    let s := { s with ctl := { s.ctl with railGood := false } }
    if pwmMode s == moDormant || decide (s.ctl.step < 4) then (if 5 < s.ctl.step then atStep s 5 else s)
    else heldOr s .rail railReset

/-- MODE_DORMANT (R456): every plot Disabled and every Calfos port Off. -/
def modeDormant (s : State) : State :=
  if pwmMode s != moServe then pwmResult s 1
  else if !((List.range 4).all (portIdle s) && (List.range 8).all fun f => cfpState s f == cfpOff) then pwmResult s 3
  else
    let s := setMode (mainClear (pwmResult s 0) false) moDormant
    emit { setF s F.RST_STATUS_PORT 0xF with ctl := { s.ctl with step := 5, cause := rcRail, railEn := false, alert := false, clrWait := 0 } } (.railEn false)

/-- MODE_DORMANT. -/
def execModeDormant (who : Party) (s : State) : Host.Outcome State Fault Refusal := .next (pwmCmd s who 3 modeDormant)

/-- The main rails are up: the release order has passed step 5, or one of S1 to S3 runs. -/
def railsUp (s : State) : Bool := decide (6 ≤ s.ctl.step)

/-- A reference-loss reset. -/
def refLossReset (s : State) : State := pwmEvent (deviceAssert s rcRefLoss) F.PWM_EVENT_REF_LOSS

/-- REF_CLOCK_LOSS (R463). A loss before the clock has been back for 1 ms only restarts that 1 ms (R484). -/
def execRefClockLoss (s : State) : Host.Outcome State Fault Refusal :=
  .next <| if !s.ctl.refClk then s else
    let s := { s with ctl := { s.ctl with refClk := false } }
    if railsUp s then heldOr s .refLoss refLossReset else s

/-- REF_CLOCK_RESTORED (R476): the clock has been present for 1 ms. -/
def execRefClockRestored (s : State) : Host.Outcome State Fault Refusal :=
  .next { s with ctl := { s.ctl with refClk := true } }

/-- A write of RST_CMD with OP DEVICE. -/
def deviceReset (s : State) (who : Party) : State :=
  if regOpen s who A.RST_CMD then heldOr s .device fun s => deviceAssert s rcDevice else s

/-- DEVICE_RESET. -/
def execDeviceReset (who : Party) (s : State) : Host.Outcome State Fault Refusal := .next (deviceReset s who)

/-! ### Block soft resets (R478 to R481) -/

/-- Set or clear hold bit i of RST_SOFT, numbered as R486 does. -/
def softBit (s : State) (i : Nat) (on : Bool) : State :=
  let put (f : Fld) (k : Nat) : State := setF s f (if on then setBit (getF s f) k else clrBit (getF s f) k)
  if i < 24 then put F.RST_SOFT_QUAD i
  else if i < 40 then put F.RST_SOFT_CALFOS (i - 24)
  else if i == 40 then setB s F.RST_SOFT_TRL on
  else if i == 41 then setB s F.RST_SOFT_RAK on
  else if i == 43 then setB s F.RST_SOFT_TST on
  else s

/-- Hold bit i is set. -/
def softHeld (s : State) (i : Nat) : Bool :=
  if i < 24 then bitOf (getF s F.RST_SOFT_QUAD) i
  else if i < 40 then bitOf (getF s F.RST_SOFT_CALFOS) (i - 24)
  else if i == 40 then bitF s F.RST_SOFT_TRL
  else if i == 41 then bitF s F.RST_SOFT_RAK
  else if i == 43 then bitF s F.RST_SOFT_TST
  else false

/-- Set or clear bit i of RST_SOFT_DONE. -/
def softDoneBit (s : State) (i : Nat) (on : Bool) : State :=
  let put (f : Fld) (k : Nat) : State := setF s f (if on then setBit (getF s f) k else clrBit (getF s f) k)
  if i < 40 then put F.RST_SOFT_DONE_PORTS i else put F.RST_SOFT_DONE_DEVICE (i - 40)

/-- Bit i of RST_SOFT_DONE. -/
def softDone (s : State) (i : Nat) : Bool :=
  if i < 40 then bitOf (getF s F.RST_SOFT_DONE_PORTS) i else bitOf (getF s F.RST_SOFT_DONE_DEVICE) (i - 40)

/-- Every loaded plot of a port goes to Disabled through Cloche. -/
def plotsUnload (s : State) (n : Nat) : State := (portPlots n).foldl (fun s p => clocheStart s p false true) s

/-- The Trellis is disabled; its table is kept (R125). -/
def trellisOff (s : State) : State :=
  let s := setF (setF s F.TRL_CTRL_EN 0) F.TRL_CTRL_READY 0
  { s with trl := { s.trl with scan := false } }

/-- A Calfos port goes Off for a hold; its test mode ends (R504). -/
def calfosHold (s : State) (f : Nat) : State := setF (portOff s f) (F.TST_PORT_MODE (4 + f)) 0

/-- The test block stops (R504): what the generator has sent is discarded when it is answered. -/
def testStop (s : State) : State :=
  let s := (List.range 12).foldl (fun s p => setF s (F.TST_PORT_MODE p) 0) s
  let s := (List.range 128).foldl (fun s l => setF s (F.TST_LANE_INJ_MODE l) 0) s
  let s := match s.test.margin with
    | some f => marginAbort s f
    | none => s
  setF (setF { s with test := { s.test with reqs := [], open_ := false } } F.TST_GEN_CTRL_EN 0) F.TST_GEN_LAT_BUSY 0

/-- The block of hold bit i accepts no new work (R478, steps 1 and 2). -/
def softStop (s : State) (i : Nat) : State :=
  if i < 24 then
    let q := i / 6
    let s := quadRestart s q
    match i % 6 with
    | 0 => portReset s q 0
    | 4 => plotsUnload s q
    | 5 => calfosHold (calfosHold (portReset s q 0) (2 * q)) (2 * q + 1)
    | _ => s
  else if i < 40 then calfosHold s ((i - 24) / 2)
  else if i == 40 then trellisOff s
  else if i == 43 then testStop s
  else s

/-- A core is restarted in the boot ROM's loop (R481). -/
def coreReset (s : State) (c : Nat) : State :=
  if c == 0 then gardenerReset s
  else
    let s := evgSetRoute (evgClear (apertureAbandon s fun k => k == c)) (64 + c) c
    setF s (F.EVG_ENABLE_ENABLE 1) (setBit (getF s (F.EVG_ENABLE_ENABLE 1)) c)

/-- The CHN pulse (R480): CHN_ registers at their reset or bed values, with POSITION, VALID and the recent IDs kept. -/
def chnReset (s : State) : State :=
  let pos := getF s F.CHN_STATUS_POSITION
  let s := cellsClear s 0x60000 0x10000
  let s := if bedNow s == 0 then s else chainApply s (bedNow s)
  let s := setF (setB s F.CHN_CTRL_HEAD (strap s 1)) F.CHN_STATUS_POSITION pos
  { s with chain := { s.chain with wait := 0, headTag := 0, reroll := false, taken := none, again := false, attempts := 0 } }

/-- The bits of a mask that name a hold. -/
def holdBits (m : Nat) : List Nat := ((List.range 44).filter fun i => i != 42 && bitOf m i)

/-- A write of RST_SOFT_SET takes effect: pulses reset their blocks at once, holds begin, and a bit already held has no effect (R480, R484). HDG is
ignored (R400). -/
def softSet (s : State) (m : Nat) : State :=
  let s := (holdBits m).foldl (fun s i => if softHeld s i then s else softStop (softBit s i true) i) s
  let s := if bitOf m 42 then chnReset s else s
  let s := if bitOf m 44 then evgClear s else s
  let s := [1, 2, 3].foldl (fun s c => if bitOf m (48 + c) then coreReset s c else s) s
  if bitOf m 45 || bitOf m 48 then gardenerReset s else s

/-- A write of RST_SOFT_SET as it arrives. -/
def softSetAsk (s : State) (who : Party) (m : Nat) : State :=
  if m != 0 && regOpen s who A.RST_SOFT then heldOr s (.soft m) fun s => softSet s m else s

/-- BLOCK_SOFT_RESET_SET. -/
def execBlockSoftResetSet (who : Party) (mask : Word) (s : State) : Host.Outcome State Fault Refusal := .next (softSetAsk s who mask.toNat)

/-- GARDENER_RESET: the GDN bit. -/
def execGardenerReset (who : Party) (s : State) : Host.Outcome State Fault Refusal := .next (softSetAsk s who (2 ^ 45))

/-- CORE_RESET: bit c of CORE. -/
def execCoreReset (who : Party) (c : Fin 4) (s : State) : Host.Outcome State Fault Refusal := .next (softSetAsk s who (2 ^ (48 + c.val)))

/-- EVG_RESET: the EVG bit. -/
def execEvgReset (who : Party) (s : State) : Host.Outcome State Fault Refusal := .next (softSetAsk s who (2 ^ 44))

/-- CHN_RESET: the CHN bit. -/
def execChnReset (who : Party) (s : State) : Host.Outcome State Fault Refusal := .next (softSetAsk s who (2 ^ 42))

/-! ### Outstanding work of a held block (R95, R479) -/

/-- GRF_: lines and prefetch entries go without records, commits end ABANDONED, drain slots are freed, waiting requests take the fill-failed outcome. -/
def graftFinish (s : State) (q : Nat) : State :=
  let s := (quadOf s q).commitQ.foldl (fun s c => setF (setF s (bankF c.hostBank (F.GRF_WIN_STATUS_RESULT q)) 0xB)
    (bankF c.hostBank (F.GRF_WIN_STATUS_BUSY q)) 0) s
  let s := modQuad s q fun x => { x with commitQ := [] }
  let s := match (quadOf s q).commit with
    | some c => commitDone s q c 0xB
    | none => s
  let s := modQuad s q fun x => { x with lines := [], pf := [] }
  let s := (List.range 16).foldl (fun s i => cellsClear s (A.GRF_DRAIN q i) 8) s
  let s := cellsClear (cellsClear s (0x110000 + q * 0x40000) 64) (0x40110000 + q * 0x40000) 64
  (quadOf s q).fills.foldl (fun s x => fillFails s (q * 1024 + x.1 / 2) (x.1 % 2 == 1)) s

/-- One Ledger entry retires: a write Timeout, a read or AtomicOp Budget; a Release that is out is no longer awaited. -/
def ledgerCut (s : State) (q : Nat) (x : Nat × LEntry) : State :=
  match entryOf s q x.1 with
  | none => s
  | some e =>
    if e.kind == .release then waitDrop s q x.1 e
    else if e.kind == .write then writeDone s q x.1 e 0x10
    else if e.hostPath then entryBudget s q x.1 e
    else dmaBudget s q x.1 e

/-- LDG_: every entry retires, writes first, and the stream records are cleared. -/
def ledgerFinish (s : State) (q : Nat) : State :=
  let es := (quadOf s q).ledger
  let s := (es.filter fun x => x.2.kind == .write).foldl (fun s x => ledgerCut s q x) s
  let s := (es.filter fun x => x.2.kind != .write).foldl (fun s x => ledgerCut s q x) s
  inUsed (streamUsed (modQuad s q fun x => { x with streams := [], inStreams := [], fenceNext := [] }) q) q

/-- A channel that is not Idle or Halted, or that is pending, is Halted with CAUSE CONTEXT (R479); any other loses its context. -/
def chanCutOff (s : State) (p c : Nat) : State :=
  let x := chanOf s p c
  if x.pending || !(x.st == csIdle || x.st == csHalted) then contextHalt s p c
  else if x.resident then modChan s p c fun x => { x with resident := false, held := false }
  else s

/-- DMA_: the channels halt, and the cluster's Ledger entries retire. -/
def dmaFinish (s : State) (q : Nat) : State :=
  let s := (quadChans s q).foldl (fun s x => chanCutOff s (x.1 / 256) (x.1 % 256)) s
  ((quadOf s q).ledger.filter fun x => !x.2.hostPath).foldl (fun s x => ledgerCut s q x) s

/-- RAK_: SignalReads that are outstanding are discarded, and each slot starts afresh at its next sweep (R189). -/
def rakeFinish (s : State) : State :=
  batchPrune { s with
    rake := { s.rake with
      slots := s.rake.slots.map fun x => (x.1, { x.2 with fresh := true, stale := false })
      batches := s.rake.batches.map fun b => { b with outstanding := false } }
    unit0 := s.unit0.filter fun x => match x.2 with | .rake _ _ _ => false | _ => true }

/-- The outstanding work of the block of hold bit i is completed. -/
def softFinish (s : State) (i : Nat) : State :=
  if i < 24 then
    let q := i / 6
    match i % 6 with
    | 1 => graftFinish s q
    | 2 => ledgerFinish s q
    | 3 => dmaFinish s q
    | 5 => ledgerFinish (dmaFinish (graftFinish s q) q) q
    | _ => s
  else if i == 41 then rakeFinish s
  else s

/-- The registers of a block return to their reset values and its part of the SRAM is clear (R477, R478). -/
def softClear (s : State) (i : Nat) : State :=
  if i < 24 then
    let b := 0x100000 + (i / 6) * 0x40000
    match i % 6 with
    | 0 => cellsClear s b 0x10000
    | 1 => cellsClear (cellsClear s (b + 0x10000) 0x8000) (b + 0x40010000) 0x8000
    | 2 => cellsClear s (b + 0x18000) 0x8000
    | 3 => cellsClear s (b + 0x20000) 0x10000
    | 4 => cellsClear s (b + 0x30000) 0x10000
    | _ => cellsClear (cellsClear s b 0x40000) (b + 0x40010000) 0x8000
  else if i < 40 then
    let f := (i - 24) / 2
    let s := cellsClear s (0x200000 + f * 0x10000 + (i % 2) * 0x8000) 0x8000
    { s with links := mdel s.links f }
  else if i == 40 then cellsClear s 0x70000 0x10000
  else if i == 41 then cellsClear s 0x90000 0x10000
  else if i == 43 then cellsClear s 0xA0000 0x10000
  else s

/-- The block is released. Calfos ports that its hold took Off train again where EN is 1 (R311). -/
def softRelease (s : State) (i : Nat) : State :=
  let s := softDoneBit (softBit (softClear s i) i false) i false
  if i < 24 then (if i % 6 == 5 then portWake (portWake s (2 * (i / 6))) (2 * (i / 6) + 1) else s)
  else if i < 40 then portWake s ((i - 24) / 2)
  else s

/-- BLOCK_SOFT_RESET_DONE (R478, step 3). A CLR that came earlier releases the block now (R484). -/
def execBlockSoftResetDone (i : Fin 64) (s : State) : Host.Outcome State Fault Refusal :=
  .next <|
    if !softHeld s i || softDone s i then s
    else
      let s := rstEvent (softDoneBit (softFinish s i) i true) F.RST_EVENT_SOFT_DONE
      if bitOf s.ctl.clrWait i then
        { softRelease s i with ctl := { s.ctl with clrWait := clrBit s.ctl.clrWait i } }
      else s

/-- A write of RST_SOFT_CLR. -/
def softClr (s : State) (who : Party) (m : Nat) : State :=
  if !regOpen s who A.RST_SOFT then s
  else (holdBits m).foldl (fun s i =>
    if !softHeld s i then s
    else if softDone s i then softRelease s i
    else { s with ctl := { s.ctl with clrWait := setBit s.ctl.clrWait i } }) s

/-- BLOCK_SOFT_RESET_CLR. -/
def execBlockSoftResetClr (who : Party) (mask : Word) (s : State) : Host.Outcome State Fault Refusal := .next (softClr s who mask.toNat)

/-! ### Held resets (R450, R472) -/

/-- A reset that was held proceeds. -/
def heldRun (s : State) (r : HeldReset) : State :=
  match r with
  | .powerOn => powerOn s
  | .rail => railReset s
  | .refLoss => refLossReset s
  | .segment => segmentReset s
  | .device => deviceAssert s rcDevice
  | .gardener => gardenerReset s
  | .port n l => portReset s n l
  | .soft m => softSet s m
  | .core c => coreReset s c

/-- ROOTSTOCK_PULSE_DONE (R432, R450): the first queued write ends, verified at the first pulse (0), the second (1) or not at all (2); then the resets
that were held proceed in order of arrival. -/
def execRootstockPulseDone (tries : Fin 3) (s : State) : Host.Outcome State Fault Refusal :=
  .next <|
    if s.root.queue.isEmpty then s
    else
      let s := rootPulse s tries
      if s.root.held.isEmpty then s
      else
        let rs := s.root.held
        let s := rootEvent { s with root := { s.root with held := [] } } F.ROOT_EVENT_RESET_HELD
        rs.foldl heldRun (setF s F.RST_STATUS_HELD 0)

end Sys2Proof.Machine
end

