-- ==== Sys2Proof/Machine/Hedge.lean ====
section
/-!
DEFINITION. Hedge (chapter 15): the SPDM endpoint and its session, the commands of the session, the power cap, the watchdog and trips.
-/
namespace Sys2Proof.Machine

/-! ### The endpoint (R401, R402) -/

/-- Hedge answers in the buffer (R402); BUSY shows that a message is in progress until the tick (DESIGN CHOICE, assumption 112). -/
def spdmAnswer (s : State) (bs : List Byte) : State :=
  let bs := bs.take 4096
  let s := setF s F.HDG_SPDM_CTRL_BUSY 1
  hdgEvent (setF (memWrite (memClear s spdmBuf 4096) spdmBuf bs) F.HDG_SPDM_CTRL_LEN bs.length) F.HDG_EVENT_SPDM_DONE

/-- A GO by a party reaches the endpoint. -/
def spdmOpen (s : State) (who : Party) : Bool := partyOpen s who && !bitF s F.HDG_SPDM_CTRL_BUSY

/-- A SHA-384 equals the key whose words begin at index i (R401, R438); an uncorrectable key matches nothing (R435). -/
def keyMatches (s : State) (i : Nat) (hash : List Word) : Bool :=
  (hash.map fun w => w.toNat) == (List.range 6).map (fun k => rootStored s (i + k)) &&
    !((List.range 6).any fun k => (mfind s.root.uncorr (i + k)).isSome)

/-- HEDGE_KEY_EXCHANGE (R401): SlotID 1, mutual authentication, a manager's key, and a signature that verifies open the session. -/
def execHedgeKeyExchange (who : Party) (slot : Byte) (mutAuth : Bool) (hash : List Word) (verified : Bool) (answer : List Byte) (s : State) :
    Host.Outcome State Fault Refusal :=
  .next <|
    if !spdmOpen s who then s
    else
      let s := spdmAnswer s answer
      if slot == 1 && mutAuth && verified && (keyMatches s 6184 hash || keyMatches s 6190 hash) then
        { setF s F.HDG_STATUS_SESSION 1 with hdg := { s.hdg with sess := s.ticks } }
      else s

/-- HEDGE_SPDM_MESSAGE (R402): `secured` marks a valid message of the session, `ends` one that ends it. -/
def execHedgeSpdmMessage (who : Party) (secured ends : Bool) (answer : List Byte) (s : State) : Host.Outcome State Fault Refusal :=
  .next <|
    if !spdmOpen s who then s
    else
      let s := spdmAnswer s answer
      if !secured || !bitF s F.HDG_STATUS_SESSION then s
      else if ends then setF s F.HDG_STATUS_SESSION 0
      else { s with hdg := { s.hdg with sess := s.ticks } }

/-- HEDGE_SESSION_EXPIRE (R401): 60 s without a valid secured message. -/
def execHedgeSessionExpire (s : State) : Host.Outcome State Fault Refusal :=
  .next (if bitF s F.HDG_STATUS_SESSION && decide (s.hdg.sess + 60000000 ≤ s.ticks) then setF s F.HDG_STATUS_SESSION 0 else s)

/-! ### Commands of the session (R403) -/

/-- Answer codes. -/
def hcOk : Nat := 0
def hcFormat : Nat := 1
def hcFull : Nat := 2
def hcState : Nat := 3

/-- A command of an open session: it is applied whole or not at all, and answered. -/
def hedgeCmd (s : State) (who : Party) (answer : List Byte) (act : State → State × Nat) : State :=
  if !spdmOpen s who || !bitF s F.HDG_STATUS_SESSION then s
  else
    let (s, code) := act { s with hdg := { s.hdg with sess := s.ticks } }
    emit (spdmAnswer s answer) (.hedge code)

/-- A fence or side-effect entry, taken apart (R404). -/
def parseFence (e : Slot) : FenceEnt :=
  let v := e.toNat
  { node := bits v 0 20, rd := bitOf v 20, wr := bitOf v 21, at_ := bitOf v 22, base := bits v 40 44, last := bits v 84 44 }

/-- An entry is malformed: LAST below BASE, or a reserved bit set; bits 22:20 are reserved in a side-effect entry. -/
def fenceMalformed (e : Slot) (side : Bool) : Bool :=
  let x := parseFence e
  decide (x.last < x.base) || bits e.toNat 23 17 != 0 || (side && bits e.toNat 20 3 != 0)

/-- Entries in use in a pool. -/
def poolUsed (m : SMap (List FenceEnt)) : Nat := (m.map fun x => x.2.length).sum

/-- A list has changed (R406). -/
def listChanged (s : State) : State := hdgEvent (wrapInc s F.HDG_STATUS_GEN) F.HDG_EVENT_LIST_CHANGE

/-- Graft marks every line of a plot (R96), and the entry of a commit under way (R414). -/
def markLines (s : State) (p : Nat) : State :=
  modQuad s (quadrantOf p) fun x => { x with
    lines := x.lines.map fun l => if l.1 / 64 == indexOf p then (l.1, { l.2 with marked := true }) else l
    commit := x.commit.map fun c => if c.index == indexOf p then { c with marked := true } else c }

/-- FENCE_SET. -/
def fenceSet (s : State) (p : Nat) (es : List Slot) : State × Nat :=
  let new := es.map parseFence
  if 256 < es.length || es.any fun e => fenceMalformed e false then (s, hcFormat)
  else if 8192 < poolUsed s.hdg.fence - (mget s.hdg.fence p []).length + es.length then (s, hcFull)
  else
    let s := { s with hdg := { s.hdg with fence := mset s.hdg.fence p new [] } }
    (markLines (listChanged (setF s F.HDG_STATUS_FENCE_USED (poolUsed s.hdg.fence))) p, hcOk)

/-- FENCE_SET (R403 to R406). -/
def execFenceSet (who : Party) (p : Fin 4096) (es : List Slot) (answer : List Byte) (s : State) : Host.Outcome State Fault Refusal :=
  .next (hedgeCmd s who answer fun s => fenceSet s p es)

/-- Prefetch entries that meet a node's new ranges, and those of reads in progress, are discarded with cause 0x4 (R96, R99). -/
def sideDiscard (s : State) (node : Nat) : State :=
  (List.range 4).foldl (fun s q =>
    pfTouch (pfDiscard s q 4 fun e => e.node == node && meetsSide s node e.addr (e.addr + e.len - 1)) q 4 fun e =>
      e.node == node && meetsSide s node e.addr (e.addr + e.len + e.ext - 1)) s

/-- SIDE_SET. -/
def sideSet (s : State) (node : Nat) (es : List Slot) : State × Nat :=
  let new := es.map parseFence
  if 64 < es.length || es.any (fun e => fenceMalformed e true) || new.any (fun e => e.node != node) then (s, hcFormat)
  else if 1024 < poolUsed s.hdg.side - (mget s.hdg.side node []).length + es.length then (s, hcFull)
  else
    let s := { s with hdg := { s.hdg with side := mset s.hdg.side node new [] } }
    (sideDiscard (listChanged (setF s F.HDG_STATUS_SIDE_USED (poolUsed s.hdg.side))) node, hcOk)

/-- SIDE_SET (R403 to R406). -/
def execSideSet (who : Party) (node : BitVec 20) (es : List Slot) (answer : List Byte) (s : State) : Host.Outcome State Fault Refusal :=
  .next (hedgeCmd s who answer fun s => sideSet s node.toNat es)

/-- A cap in the layout of RATE_TX: none with RATE 0; a change keeps the level, clamped to the new depth (R408). -/
def capTo (old : Option Cap) (v : Nat) : Option Cap :=
  let rate := bits v 0 20
  let depth := bits v 20 16 * 1024
  if rate == 0 then none
  else some { rate := rate, depth := depth, level := match old with | none => depth | some c => min c.level depth }

/-- A depth of 0 is reserved while RATE is not 0 (R49). -/
def capMalformed (v : Nat) : Bool := bits v 0 20 != 0 && bits v 20 16 == 0

/-- CAP_SET: `port` where ARG bit 8 names a Calfos port. -/
def capSet (s : State) (p : Nat) (port : Option Nat) (e : Nat) : State × Nat :=
  let hi := e / 2 ^ 64
  if capMalformed e || (port.isSome && capMalformed hi) then (s, hcFormat)
  else
    let s := { s with hdg := { s.hdg with plotCap := mset s.hdg.plotCap p (capTo (mget s.hdg.plotCap p none) e) none } }
    match port with
    | none => (s, hcOk)
    | some f => ({ s with hdg := { s.hdg with portCap := mset s.hdg.portCap f (capTo (mget s.hdg.portCap f none) hi) none } }, hcOk)

/-- CAP_SET (R403, R408). -/
def execCapSet (who : Party) (p : Fin 4096) (port : Option (Fin 8)) (e : Slot) (answer : List Byte) (s : State) : Host.Outcome State Fault Refusal :=
  .next (hedgeCmd s who answer fun s => capSet s p (port.map fun f => f.val) e.toNat)

/-- TAG_SET (R403, R407). -/
def execTagSet (who : Party) (p : Fin 4096) (tag : BitVec 16) (answer : List Byte) (s : State) : Host.Outcome State Fault Refusal :=
  .next <| hedgeCmd s who answer fun s =>
    if tag == 0xFFFF then (s, hcFormat)
    else ({ s with hdg := { s.hdg with tags := mset s.hdg.tags p (some tag.toNat) none } }, hcOk)

/-- MGMT_PLOT_SET (R403, R407). -/
def execMgmtPlotSet (who : Party) (p : Option (Fin 4096)) (answer : List Byte) (s : State) : Host.Outcome State Fault Refusal :=
  .next <| hedgeCmd s who answer fun s => ({ s with hdg := { s.hdg with mgmtPlot := p.map fun x => x.val } }, hcOk)

/-- The allowance a Tendril role needs (R525). -/
def roleNeeds (role : Nat) : Nat := if role < 3 then 0 else if role < 5 then 1 else if role == 5 then 2 else 3

/-- The allowance of pin t (R409). -/
def tndAllow (s : State) (t : Nat) : Nat := bits s.hdg.allow (2 * t) 2

/-- A pin whose role is beyond its allowance goes high-impedance with PULL 0 (R409, R528). -/
def tndLower (s : State) (t : Nat) : State :=
  if tndAllow s t < roleNeeds (getF s (F.GDN_TND_CFG_ROLE t)) then setF (setF s (F.GDN_TND_CFG_ROLE t) 0) (F.GDN_TND_CFG_PULL t) 0 else s

/-- TENDRIL_SET (R403, R409). -/
def execTendrilSet (who : Party) (allow : BitVec 48) (answer : List Byte) (s : State) : Host.Outcome State Fault Refusal :=
  .next <| hedgeCmd s who answer fun s =>
    ((List.range 24).foldl tndLower { s with hdg := { s.hdg with allow := allow.toNat } }, hcOk)

/-- POWER_SET (R403): 100 to 1,980 tenths of a watt. -/
def execPowerSet (who : Party) (cap : BitVec 16) (answer : List Byte) (s : State) : Host.Outcome State Fault Refusal :=
  .next <| hedgeCmd s who answer fun s =>
    if cap.toNat < 100 || 1980 < cap.toNat then (s, hcFormat) else (setF s F.HDG_POWER_CAP cap.toNat, hcOk)

/-- WDOG_SET (R403): 4 ≤ MIN ≤ MAX. -/
def execWdogSet (who : Party) (min max : BitVec 16) (answer : List Byte) (s : State) : Host.Outcome State Fault Refusal :=
  .next <| hedgeCmd s who answer fun s =>
    if min.toNat < 4 || max.toNat < min.toNat then (s, hcFormat)
    else (setF (setF s F.HDG_WDOG_MIN min.toNat) F.HDG_WDOG_MAX max.toNat, hcOk)

/-- FORCE_SAFE (R403, R413). -/
def execForceSafe (who : Party) (answer : List Byte) (s : State) : Host.Outcome State Fault Refusal :=
  .next <| hedgeCmd s who answer fun s => (hedgeTrip s tcCommand, hcOk)

/-- SAFE_RELEASE (R403, R454, R467): after a thermal trip the device stays in Safe until it has cooled. -/
def safeRelease (s : State) : State × Nat :=
  if pwmMode s != moSafe || !bitF s F.HDG_STATUS_RELOADED then (s, hcState)
  else if s.ctl.hotTrip && decide (135 + 64 ≤ getF s F.PWM_STATUS_TJ_MAX) then
    ({ s with ctl := { s.ctl with cooling := true } }, hcOk)
  else (leaveSafe s, hcOk)

/-- SAFE_RELEASE. -/
def execSafeRelease (who : Party) (answer : List Byte) (s : State) : Host.Outcome State Fault Refusal :=
  .next (hedgeCmd s who answer safeRelease)

/-- HEDGE_READ (R403): the fence list, ranges, caps and tag of a plot, a node and a port. -/
def execHedgeRead (who : Party) (p : Fin 4096) (node : BitVec 20) (answer : List Byte) (s : State) : Host.Outcome State Fault Refusal :=
  .next <| hedgeCmd s who answer fun s =>
    (emit s (.hedgeLists (mget s.hdg.fence p []) (mget s.hdg.side node.toNat []) (mget s.hdg.plotCap p none) (mget s.hdg.portCap (node.toNat % 8) none)
      (tenantOf s p)), hcOk)

/-! ### HDG_READ_DATA (R415) -/

/-- The 128 bits of an entry. -/
def fenceWord (e : FenceEnt) : Nat := e.last * 2 ^ 84 + e.base * 2 ^ 40 + bt e.at_ 22 + bt e.wr 21 + bt e.rd 20 + e.node

/-- A cap in the layout of RATE_TX. -/
def capWord : Option Cap → Nat
  | none => 0
  | some c => c.depth / 1024 * 2 ^ 20 + c.rate

/-- What HDG_READ_SEL selects. -/
def hedgeItem (s : State) : Nat :=
  let e := getF s F.HDG_READ_SEL_ENTRY
  let p := getF s F.HDG_READ_SEL_PLOT
  match getF s F.HDG_READ_SEL_KIND with
  | 0 => (((mget s.hdg.fence p [])[e]?).map fenceWord).getD 0
  | 1 => (((s.hdg.side.flatMap fun x => x.2)[p % 4 * 256 + e]?).map fenceWord).getD 0
  | 2 => tenantOf s p * 2 ^ 64 + capWord (mget s.hdg.plotCap p none)
  | _ => capWord (mget s.hdg.portCap (e % 8) none)

/-- HDG_READ_DATA[k]. -/
def hedgeData (s : State) (k : Nat) : Nat := if k == 0 then hedgeItem s % 2 ^ 64 else hedgeItem s / 2 ^ 64

/-! ### Power cap (R411) -/

/-- The estimate of one tick. -/
def powerTick (s : State) (m : Nat) : State :=
  let cap := getF s F.HDG_POWER_CAP
  let soft := getF s F.HDG_POWER_SOFT_CAP
  let eff := if soft == 0 then cap else min cap soft
  let k := getF s F.HDG_POWER_THROTTLE
  let above := decide (cap < m) && k == 8
  let s := { setF s F.HDG_POWER_MEASURED m with hdg := { s.hdg with capOver := if above then s.hdg.capOver + 1 else 0 } }
  if eff < m then setF s F.HDG_POWER_THROTTLE (min (k + 1) 8)
  else if 100 * m < 95 * eff then setF s F.HDG_POWER_THROTTLE (k - 1)
  else s

/-- POWER_ESTIMATE_TICK. -/
def execPowerEstimateTick (measured : BitVec 16) (s : State) : Host.Outcome State Fault Refusal := .next (powerTick s measured.toNat)

/-- POWER_CAP_TRIP: 10 ms of estimates above CAP at THROTTLE 8. -/
def execPowerCapTrip (s : State) : Host.Outcome State Fault Refusal :=
  .next (if 100 ≤ s.hdg.capOver then hedgeTrip { s with hdg := { s.hdg with capOver := 0 } } tcPower else s)

/-! ### Watchdog (R412) -/

/-- A write of HDG_KICK. -/
def wdogKick (s : State) (who : Party) (token : Nat) : State :=
  if !partyOpen s who then s
  else if token != getF s F.HDG_WDOG_TOKEN then hdgEvent s F.HDG_EVENT_KICK_BAD
  else
    let (v, s) := drawFree s
    let s := setF s F.HDG_WDOG_TOKEN (token + 1 + v % 65535)
    { s with hdg := { s.hdg with kickAt := s.ticks, period := getF s F.HDG_WDOG_PERIOD, warned := false } }

/-- WATCHDOG_KICK. -/
def execWatchdogKick (who : Party) (token : BitVec 16) (s : State) : Host.Outcome State Fault Refusal := .next (wdogKick s who token.toNat)

/-- WATCHDOG_EARLY: half a period has passed since the last kick, for the first time. -/
def execWatchdogEarly (s : State) : Host.Outcome State Fault Refusal :=
  .next (if bitF s F.HDG_STATUS_WDOG_RUN && !s.hdg.warned && decide (s.hdg.kickAt + 500 * s.hdg.period ≤ s.ticks)
    then raise (setF { s with hdg := { s.hdg with warned := true } } F.HDG_EVENT_EARLY 1) 1273 else s)

/-- WATCHDOG_EXPIRE: a period has passed. -/
def execWatchdogExpire (s : State) : Host.Outcome State Fault Refusal :=
  .next (if bitF s F.HDG_STATUS_WDOG_RUN && decide (s.hdg.kickAt + 1000 * s.hdg.period ≤ s.ticks) then hedgeTrip s tcWatchdog else s)

/-! ### Errors in Hedge's storage (R414) -/

/-- Mark entry i of a list as struck. -/
def strike (es : List FenceEnt) (i : Nat) : List FenceEnt := es.modify i fun e => { e with struck := true }

/-- HEDGE_ECC_ERROR: a fence entry of a plot is taken as absent, or a node is side-effecting over its whole space. -/
def execHedgeEccError (side : Bool) (key : BitVec 20) (i : Fin 256) (s : State) : Host.Outcome State Fault Refusal :=
  .next <|
    let k := key.toNat
    if side then
      match mfind s.hdg.side k with
      | none => s
      | some es => sideDiscard { s with hdg := { s.hdg with side := mput s.hdg.side k (strike es i) } } k
    else
      match mfind s.hdg.fence k with
      | none => s
      | some es =>
        if es.length ≤ i.val then s
        else
          let ts := s.ticks :: s.hdg.strikes.filter fun t => decide (s.ticks < t + 1000000)
          let s := markLines { s with hdg := { s.hdg with fence := mput s.hdg.fence k (strike es i), strikes := ts } } k
          if 16 ≤ ts.length then hedgeTrip s tcIntegrity else s

end Sys2Proof.Machine
end

