-- ==== Sys2Proof/Machine/Gardener.lean ====
section
/-!
DEFINITION. The Gardener (chapter 14): its boot (R378 to R382), the fabric aperture (R383 to R386), the XSP_ and I3C_ engines (R393, R398) and
the shipped firmware's mailbox commands (R394, R395).
-/
namespace Sys2Proof.Machine

/-- An event of the Gardener's own block (R376, R397). -/
def gdnEvent (s : State) (f : Fld) : State := setEv s f 1152

/-! ### Boot (R379) -/

/-- The body lies wholly in the Gardener's SRAM, in whole 8-byte words, and ENTRY lies in it. -/
def imagePlaced (im : Image) : Bool :=
  im.len % 8 == 0 && decide (im.len ≤ 0x300000) && decide (0x10000000 ≤ im.load) && decide (im.load + im.len ≤ 0x10400000) &&
    decide (im.load ≤ im.entry) && decide (im.entry < im.load + im.len)

/-- Every check of R379 but the body's digest. -/
def headerOk (s : State) (im : Image) : Bool :=
  im.magic == 0x147444E31 && !im.reserved && imagePlaced im && decide (im.keyIndex < 4) &&
    keyMatches s (6160 + 6 * im.keyIndex) im.keyHash && !bitOf (rootWord s rwRevoke) im.keyIndex && im.signed &&
    decide (rootWord s rwMinFw ≤ im.version.toNat)

/-- The body's digest equals DIGEST. -/
def digestOk (im : Image) : Bool := im.digest && im.body.length == im.len

/-- A slot that passes every check of R379. -/
def imageOk (s : State) (im : Image) : Bool := headerOk s im && digestOk im

/-- A slot whose header passes. -/
def goodSlot (s : State) (x : Option Image) : Option Image := x.filter (headerOk s)

/-- The newer of the slots that pass; A on a tie. -/
def newerSlot : Option Image → Option Image → Option Nat
  | none, none => none
  | some _, none => some 0
  | none, some _ => some 1
  | some x, some y => some (if x.version.toNat < y.version.toNat then 1 else 0)

/-- FW_TRY passes slot p over (R379, R381): it names p with a count of 2 or more. -/
def tryPasses (s : State) (p : Nat) : Bool :=
  let t := rootWord s rwFwTry
  bits t 8 1 == p && decide (2 ≤ bits t 0 4)

/-- FW_TRY counts a start of slot p (R379). -/
def tryCount (s : State) (p : Nat) : State :=
  let t := rootWord s rwFwTry
  (rootPut s rwFwTry (2 ^ 8 * p + (if bits t 8 1 == p then min (bits t 0 4 + 1) 15 else 1))).1

/-- Software source 64 + c goes to core c, enabled (R425). -/
def coreRoute (s : State) (c : Nat) : State :=
  let s := evgSetRoute s (64 + c) c
  setF s (F.EVG_ENABLE_ENABLE 1) (setBit (getF s (F.EVG_ENABLE_ENABLE 1)) c)

/-- Core 0 jumps to the image in slot p (R379, R412, R425). -/
def bootStart (s : State) (p : Nat) (im : Image) : State :=
  let s := tryCount s p
  let s := setF (setF (setF s F.GDN_BOOT_SLOT p) F.GDN_BOOT_VERSION im.version.toNat) F.GDN_BOOT_RESULT 1
  let s := [1, 2, 3].foldl coreRoute s
  { setF s F.HDG_STATUS_WDOG_RUN 1 with hdg := { s.hdg with kickAt := s.ticks, period := getF s F.HDG_WDOG_PERIOD, warned := false } }

/-- Neither slot is valid: Safe with NO_IMAGE (R382). -/
def bootNone (s : State) : State := enterSafe (setF s F.GDN_BOOT_RESULT 2) 0

/-- The newer slot is passed over. -/
def bootFallback (s : State) : State := gdnEvent (setF s F.GDN_BOOT_FALLBACK 1) F.GDN_EVENT_FALLBACK

/-- Selection, restarted without a slot whose digest fails once its body is loaded (R379). -/
def bootSelect : Nat → State → Option Image → Option Image → State
  | 0, s, _, _ => bootNone s
  | n + 1, s, a, b =>
    match newerSlot a b with
    | none => bootNone s
    | some p =>
      let passed := tryPasses s p && (if p == 0 then b else a).isSome
      let s := if passed then bootFallback s else s
      let q := if passed then 1 - p else p
      match if q == 0 then a else b with
      | none => bootNone s
      | some im =>
        let s := memWrite s im.load im.body
        if digestOk im then bootStart s q im
        else if q == 0 then bootSelect n s none b else bootSelect n s a none

/-- BOOT_IMAGE_LOADED (R379, R380): slots A and B as the boot ROM finds them, while it boots. -/
def execBootImageLoaded (a b : Option Image) (s : State) : Host.Outcome State Fault Refusal :=
  .next (if s.ctl.step == 11 && getF s F.GDN_BOOT_RESULT == 0 then bootSelect 3 s (goodSlot s a) (goodSlot s b) else s)

/-- GDN_BOOT.CONFIRM is written 1 (R381): FW_TRY.count returns to 0. -/
def bootConfirm (s : State) : State :=
  if getF s F.GDN_BOOT_RESULT == 1 then
    (rootPut (setF s F.GDN_BOOT_CONFIRM 1) rwFwTry (rootComing s rwFwTry / 16 * 16)).1
  else s

/-- BOOT_CONFIRM. -/
def execBootConfirm (s : State) : Host.Outcome State Fault Refusal := .next (bootConfirm s)

/-- RECOVERY_IMAGE_VERIFIED (R382, R413): in Safe, a slot that passes sets RELOADED; after NO_IMAGE the Gardener boots again. -/
def execRecoveryImageVerified (im : Image) (s : State) : Host.Outcome State Fault Refusal :=
  .next <|
    let r := getF s F.GDN_BOOT_RESULT
    if bitF s F.HDG_STATUS_SAFE && (r == 2 || r == 3) && imageOk s im then
      let s := setF s F.HDG_STATUS_RELOADED 1
      if r == 2 then gardenerResetAsk s else s
    else s

/-! ### The fabric aperture (R383 to R386) -/

/-- CAUSE codes of R385. -/
def faDisabled : Nat := 1
def faAlign : Nat := 2
def faSelf : Nat := 3
def faHedge : Nat := 4
def faStatus : Nat := 5
def faTimeout : Nat := 6

/-- The live access of a core: its tag and what it is. -/
def apertureLive (s : State) (core : Nat) : Option (Nat × Unit0Use) :=
  s.unit0.find? fun x => match x.2 with | .aperture c _ _ late _ _ => c == core && !late | _ => false

/-- An access ends other than OK (R385). -/
def apertureEnd (s : State) (core window off cause status : Nat) : State :=
  let s := if bitF s F.GDN_FAP_ERR_VALID then s
    else
      let s := setF (setF (setF s F.GDN_FAP_ERR_VALID 1) F.GDN_FAP_ERR_CORE core) F.GDN_FAP_ERR_WINDOW window
      setF (setF (setF s F.GDN_FAP_ERR_CAUSE cause) F.GDN_FAP_ERR_STATUS status) F.GDN_FAP_ERR_OFFSET off
  emit (gdnEvent (bump s F.GDN_FAP_COUNT_FAILS) F.GDN_EVENT_FAP_ERR) (.bus core none)

/-- Size and alignment of R383. -/
def apertureShape (kind off size : Nat) : Bool :=
  (size == 4 || size == 8 || (kind == 1 && (size == 1 || size == 2))) && off % size == 0

/-- The management plot's fence check of a MEMORY access (R405, R407). -/
def apertureFence (s : State) (node addr size : Nat) (wr : Bool) : Bool :=
  match s.hdg.mgmtPlot with
  | none => false
  | some p => fenceOk s p node addr (addr + size - 1) (!wr) wr false

/-- The management plot's cap admits a MEMORY access; with no such plot no access comes this far (R408). -/
def apertureCap (s : State) : Bool :=
  match s.hdg.mgmtPlot with
  | none => true
  | some p => capAdmits (mget s.hdg.plotCap p none)

/-- A MEMORY access counts in the management plot's cap. -/
def apertureCount (s : State) (n : Nat) : State :=
  match s.hdg.mgmtPlot with
  | none => s
  | some p => { s with hdg := { s.hdg with plotCap := mset s.hdg.plotCap p (takeCap (mget s.hdg.plotCap p none) n) none } }

/-- Send the request of an access (R383): MGMT on the Management channel, MEMORY on Request. -/
def apertureSend (s : State) (core window off node addr size kind : Nat) (data : Option Nat) : State :=
  let op : FabOp := if kind == 0 then (if data.isSome then .mgmtWrite else .mgmtRead) else if data.isSome then .write else .read
  let src := myNode s 0
  let (s, rt) := routeOf s node src none
  match rt with
  | .fail st => apertureEnd s core window off faStatus st
  | rt =>
    let tag := mfree s.unit0 0
    let s := { s with unit0 := mput s.unit0 tag (.aperture core window off false op size) }
    let s := if kind == 1 then apertureCount s size else s
    let r : FabReq := { op := op, dest := node, src := src, tenant := 0xFFFF, tag := tag, addr := addr, len := size,
                        data := match data with | none => [] | some v => leBytes size v }
    pgaPush s rt.pga (if kind == 0 then 4 else 0) .gardener { ingress := 16, txn := .req r }

/-- A core's access to offset `off` of window k: the rows of R385 in order. A MEMORY access waits while the cap is negative. -/
def apertureAccess (s : State) (core k off size : Nat) (data : Option Nat) : State :=
  let kind := getF s (F.GDN_FAP_KIND k)
  let node := getF s (F.GDN_FAP_NODE k)
  let addr := getF s (F.GDN_FAP_BASE k) * 2 ^ 28 + off
  if (apertureLive s core).isSome then s
  else if !bitF s (F.GDN_FAP_EN k) || 1 < kind then apertureEnd s core k off faDisabled 0
  else if !apertureShape kind off size then apertureEnd s core k off faAlign 0
  else if node == myNode s 0 then apertureEnd s core k off faSelf 0
  else if kind == 1 && !apertureFence s node addr size data.isSome then apertureEnd (fenceRefused s) core k off faHedge 0
  else if kind == 1 && !apertureCap s then s
  else apertureSend s core k off node addr size kind data

/-- APERTURE_ACCESS: a read, or a write of `data`. -/
def execApertureAccess (core : Fin 4) (k : Fin 8) (off : BitVec 28) (size : Fin 9) (data : Option Word) (s : State) : Host.Outcome State Fault Refusal :=
  .next (apertureAccess s core k off.toNat size (data.map fun v => v.toNat))

/-- The answer to an aperture request arrives (R385, R386): one that no core waits for is discarded and counted. -/
def apertureAnswer (s : State) (tag st : Nat) (data : List Byte) : State :=
  match mfind s.unit0 tag with
  | some (.aperture c k off late op _) =>
    let s := { s with unit0 := mdel s.unit0 tag }
    if late then bump s F.GDN_FAP_COUNT_LATE
    else if st != 0 then apertureEnd s c k off faStatus st
    else emit s (.bus c (some (if op == .read || op == .mgmtRead then leNat data else 0)))
  | _ => bump s F.GDN_FAP_COUNT_LATE

/-- APERTURE_TIMEOUT (R385, R386): 2 ms have passed for the core's access. The tag of one that was abandoned is free again. -/
def execApertureTimeout (core : Fin 4) (s : State) : Host.Outcome State Fault Refusal :=
  .next <| match apertureLive s core with
  | some (tag, .aperture c k off _ op n) => apertureEnd { s with unit0 := mput s.unit0 tag (.aperture c k off true op n) } c k off faTimeout 0
  | _ => { s with unit0 := s.unit0.filter fun x => match x.2 with | .aperture c _ _ _ _ _ => c != core.val | _ => true }

/-! ### XSP_ and I3C_ (R393, R398) -/

/-- XSP_DATA, I3C_RX and I3C_TX in the Gardener's space. -/
def xspData : Nat := 0x30020100
def i3cRx : Nat := 0x30030100
def i3cTx : Nat := 0x30030200

/-- A write of XSP_CMD: it starts a flash command; while one runs it is ignored. -/
def xspiCommand (s : State) (v : Nat) : State :=
  if bitF s F.XSP_STATUS_BUSY then s
  else
    let n := bits v 32 9
    let s := [F.XSP_CMD_BYTES, F.XSP_CMD_DUMMY, F.XSP_CMD_MODE, F.XSP_CMD_ADDR_WIDTH, F.XSP_CMD_OPCODE].foldl (fun s f => setF s f (bits v f.lo f.w)) s
    emit (setF (setF s F.XSP_STATUS_BUSY 1) F.XSP_STATUS_ERROR 0) (.flash v (getF s F.XSP_ADDR_ADDR) (memRead s xspData (min n 256)))

/-- XSPI_COMMAND. -/
def execXspiCommand (v : Word) (s : State) : Host.Outcome State Fault Refusal := .next (xspiCommand s v.toNat)

/-- XSPI_COMMAND_DONE: what the flash returned is in the buffer. -/
def execXspiCommandDone (error : Bool) (data : List Byte) (s : State) : Host.Outcome State Fault Refusal :=
  .next <|
    if bitF s F.XSP_STATUS_BUSY then
      let s := memWrite s xspData (data.take 256)
      raise (setB (setF (setF s F.XSP_STATUS_BUSY 0) F.XSP_STATUS_DONE 1) F.XSP_STATUS_ERROR error) 1160
    else s

/-- I3C_PACKET_RECEIVED (R376, R393): an addressed target with an empty receive buffer takes a packet of up to 256 bytes. -/
def execI3cPacketReceived (packet : List Byte) (s : State) : Host.Outcome State Fault Refusal :=
  .next <|
    if getF s F.I3C_STATUS_DYN_ADDR == 0 || bitF s F.I3C_STATUS_RX_READY || packet.isEmpty || 256 < packet.length then s
    else
      let s := memWrite (memClear s i3cRx 256) i3cRx packet
      raise (setF (setF s F.I3C_RX_LEN_LEN packet.length) F.I3C_STATUS_RX_READY 1) 1155

/-- A packet that waits is announced once the target has its dynamic address (R482). -/
def i3cAnnounce (s : State) : State :=
  if bitF s F.I3C_STATUS_IBI && getF s F.I3C_STATUS_DYN_ADDR != 0 then emit s (.i3c (memRead s i3cTx (min (getF s F.I3C_TX_LEN_LEN) 256))) else s

/-- A write of I3C_TX_LEN: the packet in the transmit buffer is announced. -/
def i3cTransmit (s : State) (len : Nat) : State := i3cAnnounce (setF (setF s F.I3C_TX_LEN_LEN len) F.I3C_STATUS_IBI 1)

/-- I3C_TRANSMIT. -/
def execI3cTransmit (len : Fin 257) (s : State) : Host.Outcome State Fault Refusal := .next (i3cTransmit s len)

/-- I3C_TRANSMIT_DONE (R376): the BMC has read the packet. -/
def execI3cTransmitDone (s : State) : Host.Outcome State Fault Refusal :=
  .next <|
    if bitF s F.I3C_STATUS_IBI && getF s F.I3C_STATUS_DYN_ADDR != 0 then raise (setF (setF s F.I3C_STATUS_IBI 0) F.I3C_STATUS_TX_DONE 1) 1155 else s

/-- I3C_ADDRESS_ASSIGN (R393). -/
def execI3cAddressAssign (addr : Fin 128) (s : State) : Host.Outcome State Fault Refusal :=
  .next <|
    let had := getF s F.I3C_STATUS_DYN_ADDR != 0
    let s := setF s F.I3C_STATUS_DYN_ADDR addr
    if had then s else i3cAnnounce s

/-! ### The mailbox commands of the shipped firmware (R394, R395) -/

/-- STATUS codes of R394. -/
def fsOk : Nat := 1
def fsDenied : Nat := 3
def fsFormat : Nat := 4
def fsBusy : Nat := 5
def fsFailed : Nat := 6

/-- What firmware answers: STATUS, DETAIL and the payload. -/
structure FwAnswer where
  status : Nat := 1
  detail : Nat := 0
  payload : List Byte := []

/-- The address of a slot. -/
def slotAddr (p i : Nat) : Nat := mbxAddr p (256 * i)

/-- Firmware writes its answer in place and returns the slot. -/
def fwAnswer (s : State) (p i : Nat) (a : FwAnswer) : State :=
  let at_ := slotAddr p i
  let bs := a.payload.take 240
  let s := memWrite s (at_ + 4) (leBytes 1 bs.length ++ [memByte s (at_ + 5)] ++ leBytes 1 a.status ++ leBytes 1 a.detail)
  let s := memWrite s (at_ + 16) bs
  let s := setMbxPend s p (clrBit (getF s (F.MBX_PEND_SLOT p)) i)
  mbxReturn { s with fw := { s.fw with jobs := mdel s.fw.jobs (p * 16 + i) } } p [i]

/-- LEN of the command in a slot, and its payload. -/
def slotLen (s : State) (p i : Nat) : Nat := (memByte s (slotAddr p i + 4)).toNat
def slotPayloadBytes (s : State) (p i : Nat) : List Byte := memRead s (slotAddr p i + 16) (min (slotLen s p i) 240)

/-- Who may issue a command. -/
inductive FwWho where
  | any | pf0 | manager

/-- The plot may issue a command (R395). -/
def fwMay (s : State) (p : Nat) : FwWho → Bool
  | .any => true
  | .pf0 => indexOf p == 0
  | .manager => indexOf p == 0 && bitF s (F.PE_CAPS_MGMT_EN p)

/-- A command in a slot that the Gardener owns, taken by running firmware: answered, or (none) still in progress. -/
def fwCommand (s : State) (p i op : Nat) (who : FwWho) (act : State → State × Option FwAnswer) : State :=
  if !firmwareRuns s || !bitOf (mbxOwn s p) i || leNat (memRead s (slotAddr p i) 2) != op then s
  else if !fwMay s p who then fwAnswer s p i { status := fsDenied }
  else if 240 < slotLen s p i then fwAnswer s p i { status := fsFormat }
  else match act s with
    | (s, none) => s
    | (s, some a) => fwAnswer s p i a

/-- GET_INFO: 24 bytes whose layout the spec leaves to firmware. -/
def execGetInfo (p : Fin 4096) (i : Fin 16) (s : State) : Host.Outcome State Fault Refusal :=
  .next <| fwCommand s p i 0x0001 .any fun s =>
    let (bs, s) := freeBytes s 24
    (s, some { payload := bs })

/-- GET_HEALTH: `payload` is what the sensors gave. -/
def execGetHealth (p : Fin 4096) (i : Fin 16) (payload : List Byte) (s : State) : Host.Outcome State Fault Refusal :=
  .next (fwCommand s p i 0x0002 .any fun s => (s, some { payload := payload }))

/-- EVENT_WAIT: held until an event for the plot, whose code goes into DETAIL; none while there is no event yet. -/
def execEventWait (p : Fin 4096) (i : Fin 16) (code : Option Byte) (s : State) : Host.Outcome State Fault Refusal :=
  .next <| fwCommand s p i 0x0003 .any fun s =>
    match code with
    | none => ({ s with fw := { s.fw with jobs := mput s.fw.jobs (p.val * 16 + i.val) 3 } }, none)
    | some c => (s, some { detail := c.toNat })

/-- A job of firmware is in progress in a slot. -/
def fwJob (s : State) (p i : Nat) : Bool := (mfind s.fw.jobs (p * 16 + i)).isSome

/-- Another slot's job of the same kind is in progress in the quadrant. -/
def fwOther (s : State) (q op : Nat) : Bool := s.fw.jobs.any fun x => x.2 == op && quadrantOf (x.1 / 16) == q

/-- Note a job. -/
def fwJobPut (s : State) (p i op : Nat) : State := { s with fw := { s.fw with jobs := mput s.fw.jobs (p * 16 + i) op } }

/-- The answer that carries a RESULT. -/
def fwResult (r : Nat) : FwAnswer := { status := if r == 0 then fsOk else fsFailed, detail := r }

/-- Firmware issues a hardware command and answers once it has ended; taken again while it runs, it polls. `busy` shows the command in
progress, `result` its RESULT. -/
def fwHardware (s : State) (p i op : Nat) (other : Bool) (busy : State → Bool) (result : State → Nat) (issue : State → State) : State × Option FwAnswer :=
  if fwJob s p i then (if busy s then (s, none) else (s, some (fwResult (result s))))
  else if busy s || other then (s, none)
  else
    let s := issue (fwJobPut s p i op)
    if busy s then (s, none) else (s, some (fwResult (result s)))

/-- The payload's WindowEntry goes to the Gardener's staging registers (R90). -/
def stagePayload (s : State) (p i : Nat) : State :=
  (List.range 8).foldl (fun s k => setF s (F.GRF_STAGE_V (quadrantOf p) k) (wordAt (slotPayloadBytes s p i) (8 * k))) s

/-- WINDOW_REQUEST: `win` is the window asked for, `policy` what the bed's policy says. -/
def execWindowRequest (p : Fin 4096) (i : Fin 16) (win : Fin 64) (policy : Bool) (s : State) : Host.Outcome State Fault Refusal :=
  .next <| fwCommand s p i 0x0010 .any fun s =>
    let q := quadrantOf p
    if slotLen s p i < 64 then (s, some { status := fsFormat })
    else if !policy then (s, some { status := fsDenied })
    else fwHardware s p i 0x10 (fwOther s q 0x10) (fun s => bitF s (F.GRF_WIN_STATUS_BUSY q)) (fun s => getF s (F.GRF_WIN_STATUS_RESULT q))
      fun s => winCmd (stagePayload s p i) q .gardener false win (indexOf p)

/-- WINDOW_LIST: four windows of the plot's table per answer. -/
def execWindowList (p : Fin 4096) (i : Fin 16) (payload : List Byte) (s : State) : Host.Outcome State Fault Refusal :=
  .next (fwCommand s p i 0x0011 .any fun s => (s, some { payload := payload }))

/-- PLOT_CMD: LOAD 1, RESET 3 or UNLOAD 4 of plot `index` of PF0's own port. -/
def execPlotCmd (p : Fin 4096) (i : Fin 16) (op : Fin 16) (index : Fin 1024) (s : State) : Host.Outcome State Fault Refusal :=
  .next <| fwCommand s p i 0x0020 .pf0 fun s =>
    let q := quadrantOf p
    if !(op.val == 1 || op.val == 3 || op.val == 4) then (s, some { status := fsFormat })
    else fwHardware s p i 0x20 (fwOther s q 0x20) (fun s => bitF s (F.PLT_CMD_STATUS_BUSY q)) (fun s => getF s (F.PLT_CMD_STATUS_RESULT q))
      fun s => pltCmd s q .gardener op index fun s x =>
        if op.val == 1 then loadStart s x .command
        else if op.val == 3 then clocheStart s x false false
        else if plotState s x == psLoading then pltResult (loadFail s x 5) q 0
        else clocheStart s x false true

/-- FW_BEGIN: the slot that is not running is written. -/
def execFwBegin (p : Fin 4096) (i : Fin 16) (s : State) : Host.Outcome State Fault Refusal :=
  .next <| fwCommand s p i 0x0030 .manager fun s =>
    ({ s with fw := { s.fw with writing := some (1 - getF s F.GDN_BOOT_SLOT) } }, some {})

/-- FW_DATA: up to 224 bytes at an offset of the slot. -/
def execFwData (p : Fin 4096) (i : Fin 16) (off : BitVec 22) (data : List Byte) (s : State) : Host.Outcome State Fault Refusal :=
  .next <| fwCommand s p i 0x0031 .manager fun s =>
    match s.fw.writing with
    | none => (s, some { status := fsFailed })
    | some x =>
      if 224 < data.length || 0x400000 < off.toNat + data.length then (s, some { status := fsFormat })
      else (emit s (.image x off.toNat data), some {})

/-- FW_END: the written slot is verified as R379 does; `image` is what stands in it. -/
def execFwEnd (p : Fin 4096) (i : Fin 16) (image : Image) (s : State) : Host.Outcome State Fault Refusal :=
  .next <| fwCommand s p i 0x0032 .manager fun s =>
    match s.fw.writing with
    | none => (s, some { status := fsFailed })
    | some _ => ({ s with fw := { s.fw with writing := none } }, some { status := if imageOk s image then fsOk else fsFailed })

/-- FW_ACTIVATE: answered, and then the Gardener is reset to boot the newer slot. -/
def execFwActivate (p : Fin 4096) (i : Fin 16) (s : State) : Host.Outcome State Fault Refusal :=
  .next <|
    let ok := firmwareRuns s && bitOf (mbxOwn s p) i && leNat (memRead s (slotAddr p i) 2) == 0x0033 && fwMay s p .manager &&
      decide (slotLen s p i ≤ 240)
    let s := fwCommand s p i 0x0033 .manager fun s => (s, some {})
    if ok then gardenerResetAsk s else s

/-- The words of a BED_STAGE are all in place. -/
def bedStaged (s : State) (b : Nat) (words : List (Fin 3072 × Word)) : Bool :=
  words.all fun x => rootStored s (bedIndex b x.1) == x.2.toNat

/-- BED_STAGE: words of the bed that is not in effect, by ROOT_DATA; answered once none waits. -/
def execBedStage (p : Fin 4096) (i : Fin 16) (words : List (Fin 3072 × Word)) (s : State) : Host.Outcome State Fault Refusal :=
  .next <| fwCommand s p i 0x0040 .manager fun s =>
    let b := if bedNow s == 0 then 1 else otherBed (bedNow s)
    let answer (s : State) : State × Option FwAnswer :=
      if s.root.queue.isEmpty then (s, some { status := if bedStaged s b words then fsOk else fsFailed }) else (s, none)
    if fwJob s p i then answer s
    else answer (words.foldl (fun s x => (rootWrite s (bedIndex b x.1) x.2.toNat true).1) (fwJobPut s p i 0x40))

/-- BED_COMMIT: ROOT_CMD COMMIT of a bed. -/
def execBedCommit (p : Fin 4096) (i : Fin 16) (bed : Fin 2) (s : State) : Host.Outcome State Fault Refusal :=
  .next <| fwCommand s p i 0x0041 .manager fun s =>
    fwHardware s p i 0x41 false (fun s => bitF s F.ROOT_RESULT_BUSY) (fun s => getF s F.ROOT_RESULT_CRESULT)
      fun s => rootCmd s .gardener fun s => rootCommitTry s (bed.val + 1)

/-- BED_REVERT: ROOT_CMD REVERT. -/
def execBedRevert (p : Fin 4096) (i : Fin 16) (s : State) : Host.Outcome State Fault Refusal :=
  .next <| fwCommand s p i 0x0042 .manager fun s =>
    fwHardware s p i 0x42 false (fun s => bitF s F.ROOT_RESULT_BUSY) (fun s => getF s F.ROOT_RESULT_CRESULT) fun s => rootCmd s .gardener rootRevert

/-- LOG_READ: 240 bytes of firmware's log. -/
def execLogRead (p : Fin 4096) (i : Fin 16) (s : State) : Host.Outcome State Fault Refusal :=
  .next <| fwCommand s p i 0x0050 .pf0 fun s =>
    let (bs, s) := freeBytes s 240
    (s, some { payload := bs })

end Sys2Proof.Machine
end

