-- ==== Sys2Proof/Machine/Segment.lean ====
section
/-!
DEFINITION. What a segment does together (R313, R314, R369, R370): WAKE and SEG_RESET frames, Hush exits, the commands of CHN_CMD that send them, and the
chain Messages that carry frames in-band (R360).
-/
namespace Sys2Proof.Machine

/-! ### Recent IDs (R369, R370) -/

/-- An ID was seen within the last 10 ms. -/
def idSeen (s : State) (l : List (Nat × Nat)) (id : Nat) : Bool := l.any fun x => x.1 == id && decide (s.ticks < x.2 + 10000)

/-- Note an ID; those that are older than 10 ms are forgotten. -/
def idNote (s : State) (l : List (Nat × Nat)) (id : Nat) : List (Nat × Nat) :=
  (id, s.ticks) :: l.filter fun x => x.1 != id && decide (s.ticks < x.2 + 10000)

/-- The chain port on the other side of port f, if both take part. -/
def otherChain (s : State) (f : Nat) : Option Nat :=
  if isWest s f then (if bitF s F.CHN_CTRL_EAST_EN then some (eastPort s) else none)
  else if isEast s f then (if bitF s F.CHN_CTRL_WEST_EN then some (westPort s) else none)
  else none

/-- The enabled chain ports. -/
def chainPorts (s : State) : List Nat :=
  (if bitF s F.CHN_CTRL_WEST_EN then [westPort s] else []) ++ (if bitF s F.CHN_CTRL_EAST_EN then [eastPort s] else [])

/-! ### WAKE (R314, R369) -/

/-- Send a WAKE with SEGMENT 1 on a port: a link in Hush leaves it. -/
def wakeSend (s : State) (f id : Nat) : State := hushExit (sbSend s f 2 id 1 []) f false

/-- A WAKE (R359, R369): the Hush exit of its link, and with SEGMENT 1 a device wake that goes on along the chain. -/
def wakeReceive (s : State) (f id flags : Nat) (payload : List Byte) : State :=
  if !payload.isEmpty || 1 < flags then frameReject s
  else
    let s := if cfpState s f == cfpHush then wake (hushExit s f false) 5 else s
    if flags == 0 then s
    else
      let seen := idSeen s s.chain.wakes id
      let s := { s with chain := { s.chain with wakes := idNote s s.chain.wakes id } }
      let s := wake s 2
      match otherChain s f with
      | none => s
      | some o => if seen then s else wakeSend s o id

/-- WAKE_RECEIVE. -/
def execWakeReceive (f : Fin 8) (id : Byte) (flags : Byte) (payload : List Byte) (s : State) : Host.Outcome State Fault Refusal :=
  .next (wakeReceive s f id.toNat flags.toNat payload)

/-- CHAIN_CMD_WAKE_SEG (R369, R373). -/
def chainWakeSeg (s : State) (who : Party) : State :=
  chnCmd s who fun s =>
    let id := (s.chain.wakeId + 1) % 256
    let s := { s with chain := { s.chain with wakeId := id, wakes := idNote s s.chain.wakes id } }
    (chainPorts s).foldl (fun s f => wakeSend s f id) s

/-- CHAIN_CMD_WAKE_SEG. -/
def execChainCmdWakeSeg (who : Party) (s : State) : Host.Outcome State Fault Refusal := .next (chainWakeSeg s who)

/-- HUSH_EXIT (R314): the port's link layer has traffic, or the device leaves Doze. -/
def execHushExit (f : Fin 8) (s : State) : Host.Outcome State Fault Refusal :=
  .next (if linkHasWork s f || s.ctl.waking then hushExit s f true else s)

/-- HUSH_REQUEST_TIMEOUT (R313): no answer within 64 frames. -/
def execHushRequestTimeout (f : Fin 8) (s : State) : Host.Outcome State Fault Refusal :=
  .next <|
    if cfpState s f == cfpActive && (linkOf s f).hush == 1 then
      let d := (linkOf s f).doze
      let s := hushDrop s f
      if d && dozing s then dozeAbandon s 4 else s
    else s

/-! ### SEG_RESET (R370) -/

/-- Send frames on port f until the Management class has nothing left to send, so that a chain Message has left before the reset. -/
def drainMgmt (s : State) (f : Nat) : Nat → State
  | 0 => s
  | n + 1 =>
    if cfpState s f == cfpActive && !bitF s (F.CFP_STATUS_TX_DRIFT f) && classHasSlots s f 4 then drainMgmt (frameSend s f) f n else s

/-- Send a SEG_RESET on a port, to its last bit. -/
def segSend (s : State) (f id : Nat) : State := drainMgmt (sbSend s f 7 id 0 []) f 64

/-- Note a reset ID. -/
def segNote (s : State) (id : Nat) : State := { s with chain := { s.chain with resets := idNote s s.chain.resets id } }

/-- A SEG_RESET (R359, R370): forwarded, and then the segment reset. -/
def segReceive (s : State) (f id flags : Nat) (payload : List Byte) : State :=
  if !chainPort s f || !payload.isEmpty || 0 < flags then frameReject s
  else if !bitF s F.CHN_CTRL_SEG_RESET_EN then chnEvent s F.CHN_EVENT_SEG_RESET_REFUSED
  else if idSeen s s.chain.resets id then s
  else
    let s := segNote s id
    let s := match otherChain s f with
      | none => s
      | some o => segSend s o id
    heldOr s .segment segmentReset

/-- SEG_RESET_RECEIVE. -/
def execSegResetReceive (f : Fin 8) (id : Byte) (flags : Byte) (payload : List Byte) (s : State) : Host.Outcome State Fault Refusal :=
  .next (segReceive s f id.toNat flags.toNat payload)

/-- CHN_CMD SEG_RESET. -/
def chainSegReset (s : State) (who : Party) : State :=
  chnCmd s who fun s =>
    let id := (s.chain.resetId + 1) % 256
    let s := segNote { s with chain := { s.chain with resetId := id } } id
    heldOr ((chainPorts s).foldl (fun s f => segSend s f id) s) .segment segmentReset

/-- CHAIN_CMD_SEG_RESET. -/
def execChainCmdSegReset (who : Party) (s : State) : Host.Outcome State Fault Refusal := .next (chainSegReset s who)

/-! ### Chain Messages (R360) -/

/-- A Message that is a chain frame, by its DEST and CODE (R360). -/
def isChainMessage (r : FabReq) : Bool :=
  r.op == .message && r.dest == 0xFFFFF && decide (0xC000 ≤ r.code) && decide (r.code < 0xC100)

/-- A chain Message received on port f is taken as the frame it carries; TRAIN is never sent in-band. -/
def chainFrame (s : State) (f : Nat) (r : FabReq) : State :=
  let type := r.code - 0xC000
  let id := bits r.vdh 16 8
  let flags := bits r.vdh 24 8
  if bits r.vdh 0 8 != type || bits r.vdh 8 8 != r.len then frameReject s
  else match type with
    | 2 => wakeReceive s f id flags r.data
    | 3 => rollReceive s f id flags r.data
    | 4 => rollAckReceive s f id flags r.data
    | 5 => completeReceive s f id flags r.data
    | 6 => rerollReceive s f id flags r.data
    | 7 => segReceive s f id flags r.data
    | _ => frameReject s

end Sys2Proof.Machine
end

