-- ==== Sys2Proof/Machine/Test.lean ====
section
/-!
DEFINITION. The test block (chapter 20): port test modes, checkers, injection, eye margin, the traffic generator and the TAP; and the Tendril pins
(R525 to R528).
-/
namespace Sys2Proof.Machine

/-- TST_EVENT bit k, held by field `f`, raises source 40 + k (R505). -/
def tstEvent (s : State) (f : Fld) : State := setEv s f (40 + f.lo)

/-! ### Port test modes (R490, R492) -/

/-- Port p of TST_PORT is stopped (R490). -/
def tstStopped (s : State) (p : Nat) : Bool :=
  if p < 4 then !bitF s (F.HPT_CTRL_LINK_EN p) else !bitF s (F.CFP_CTRL_EN (p - 4)) && cfpState s (p - 4) == cfpOff

/-- A RATE in the port's encodings: HPT_CTRL.MAX_SPEED 1 to 7, or R288. -/
def tstRateOk (p rate : Nat) : Bool := if p < 4 then decide (1 ≤ rate) && decide (rate ≤ 7) else decide (rate ≤ 2)

/-- The RATE part of a write of TST_PORT; a reserved one keeps the field. -/
def tstRate (s : State) (p rate : Nat) : State := if tstRateOk p rate then setF s (F.TST_PORT_RATE p) rate else s

/-- FAR_LOOP is reserved for host ports. -/
def tstModeOk (p mode : Nat) : Bool := !(mode == 3 && p < 4)

/-- A margin run on port p's lanes ends when its mode changes (R497). -/
def tstMargin (s : State) (p : Nat) : State := if 4 ≤ p then marginAbort s (p - 4) else s

/-- The MODE part: NORMAL at any time, another mode on a stopped port; any other write while the port runs is noted (R74, R504). A reserved mode
keeps the field. -/
def tstMode (s : State) (p mode : Nat) : State :=
  if !tstModeOk p mode then s
  else if mode == 0 then
    if getF s (F.TST_PORT_MODE p) == 0 then s
    else
      let s := tstMargin (setF s (F.TST_PORT_MODE p) 0) p
      if 4 ≤ p then portWake s (p - 4) else s
  else if !tstStopped s p then tstEvent s F.TST_EVENT_LOCKED_IGNORED
  else if getF s (F.TST_PORT_MODE p) == mode then s
  else tstMargin (setF s (F.TST_PORT_MODE p) mode) p

/-- A write of TST_PORT[p]; one with a reserved RATE, MODE or both is recorded once (R12, R549). -/
def tstPort (s : State) (who : Party) (p mode rate : Nat) : State :=
  if !regOpen s who (A.TST_PORT p) then s
  else
    let s := tstMode (tstRate s p rate) p mode
    if tstRateOk p rate && tstModeOk p mode then s else formatRecord s who (A.TST_PORT p)

/-- TEST_PORT_MODE_WRITE. -/
def execTestPortModeWrite (p : Fin 12) (who : Party) (mode : Fin 4) (rate : Fin 16) (s : State) : Host.Outcome State Fault Refusal :=
  .next (tstPort s who p mode rate)

/-! ### Lanes (R493 to R495, R505) -/

/-- The port of lane index l in TST_PORT. -/
def lanePort (l : Nat) : Nat := if l < 64 then l / 16 else 4 + (l - 64) / 8

/-- The lane is out of its link: PATTERN or NEAR_LOOP. -/
def laneTest (s : State) (l : Nat) : Bool :=
  let m := getF s (F.TST_PORT_MODE (lanePort l))
  m == 1 || m == 2

/-- Injection acts on the lane now (R495). -/
def laneInjects (s : State) (l : Nat) : Bool :=
  laneTest s l ||
    (decide (64 ≤ l) && getF s (F.TST_PORT_MODE (lanePort l)) == 0 &&
      (cfpState s (lanePort l - 4) == cfpActive || cfpState s (lanePort l - 4) == cfpRetraining))

/-- A write of TST_LANE_INJ. MODE RATE with an EXP outside 10 to 40 keeps both fields (R12, R505); so does a reserved MODE keep an EXP that the mode
kept could not have (DEDUCED, assumption 111). -/
def laneInject (s : State) (who : Party) (l mode lenm1 exp : Nat) (go : Bool) : State :=
  if !regOpen s who (A.TST_LANE_INJ l) then s
  else
    let s := setF s (F.TST_LANE_INJ_LENM1 l) lenm1
    let bad (e : Nat) : Bool := decide (e < 10) || decide (40 < e)
    if 4 < mode then
      let s := if getF s (F.TST_LANE_INJ_MODE l) == 4 && bad exp then s else setF s (F.TST_LANE_INJ_EXP l) exp
      formatRecord s who (A.TST_LANE_INJ l)
    else if mode == 4 && bad exp then formatRecord s who (A.TST_LANE_INJ l)
    else
      let s := setF (setF s (F.TST_LANE_INJ_MODE l) mode) (F.TST_LANE_INJ_EXP l) exp
      if !laneInjects s l then s
      else if mode == 4 then emit s (.inject l 4 exp)
      else if go && mode != 0 then emit s (.inject l mode (if mode == 1 then 1 else if mode == 2 then 10 else lenm1 + 1))
      else s

/-- LANE_INJECT. -/
def execLaneInject (l : Fin 128) (who : Party) (mode : Fin 16) (lenm1 : Fin 1024) (exp : Fin 64) (go : Bool) (s : State) : Host.Outcome State Fault Refusal :=
  .next (laneInject s who l mode lenm1 exp go)

/-- A checker runs on the lane. -/
def laneChecks (s : State) (l : Nat) : Bool := bitF s (F.TST_LANE_CTRL_CHK_EN l) && laneTest s l

/-- CHECKER_LOCK (R494). -/
def execCheckerLock (l : Fin 128) (s : State) : Host.Outcome State Fault Refusal :=
  .next (if laneChecks s l then setF s (F.TST_LANE_ERR_LOCK l) 1 else s)

/-- CHECKER_LOCK_LOST (R494): `count` bits were compared while locked and `errors` of them differed. -/
def execCheckerLockLost (l : Fin 128) (count errors : Nat) (s : State) : Host.Outcome State Fault Refusal :=
  .next <|
    if laneChecks s l && bitF s (F.TST_LANE_ERR_LOCK l) then
      let s := bumpBy (bumpBy s (F.TST_LANE_BITS_V l) count) (F.TST_LANE_ERR_ERRORS l) errors
      tstEvent (setF (setF s (F.TST_LANE_ERR_LOCK l) 0) (F.TST_LANE_ERR_LOST l) 1) F.TST_EVENT_LOCK_LOST
    else s

/-! ### Eye margin (R496, R497) -/

/-- A run's OFFSET, EYE and DWELL are in range: −128 to +127 in time, −63 to +63 in voltage. -/
def marginOk (axis : Bool) (eye off dwell : Nat) : Bool :=
  decide (eye < 3) && decide (20 ≤ dwell) && decide (dwell ≤ 40) && (!axis || decide (off ≤ 63) || decide (193 ≤ off))

/-- The clock of a port's receive lanes is present: the partner's, or the device's own in NEAR_LOOP. -/
def marginClock (s : State) (f : Nat) : Bool := bitF s (F.CFP_STATUS_CLK_RX f) || getF s (F.TST_PORT_MODE (4 + f)) == 2

/-- A write of TST_MARGIN_CMD with OP START. -/
def marginStart (s : State) (who : Party) (f : Nat) (axis : Bool) (eye off dwell : Nat) : State :=
  if !regOpen s who A.TST_MARGIN_CMD then s
  else if !marginOk axis eye off dwell then
    formatRecord (if bitF s F.TST_MARGIN_RESULT_BUSY then setF s F.TST_MARGIN_RESULT_OVERRUN 1 else s) who A.TST_MARGIN_CMD
  else if bitF s F.TST_MARGIN_RESULT_BUSY then setF s F.TST_MARGIN_RESULT_OVERRUN 1
  else if !marginClock s f then s
  else
    let s := setF (setF (setF s F.TST_MARGIN_RESULT_BUSY 1) F.TST_MARGIN_RESULT_VALID 0) F.TST_MARGIN_RESULT_ABORTED 0
    { s with test := { s.test with margin := some f } }

/-- MARGIN_START. -/
def execMarginStart (who : Party) (f : Fin 8) (_lane : Fin 8) (axis : Bool) (eye : Fin 4) (off : BitVec 8) (dwell : Fin 64) (s : State) :
    Host.Outcome State Fault Refusal :=
  .next (marginStart s who f axis eye off.toNat dwell)

/-- A write of TST_MARGIN_CMD with OP STOP. -/
def marginStop (s : State) (who : Party) : State :=
  if !regOpen s who A.TST_MARGIN_CMD then s
  else match s.test.margin with
    | none => s
    | some f => marginAbort s f

/-- MARGIN_STOP. -/
def execMarginStop (who : Party) (s : State) : Host.Outcome State Fault Refusal := .next (marginStop s who)

/-- MARGIN_RUN_DONE (R496): `mismatches` is what the sampler counted. -/
def execMarginRunDone (mismatches : BitVec 48) (s : State) : Host.Outcome State Fault Refusal :=
  .next <| match s.test.margin with
  | none => s
  | some _ =>
    let s := setF (setF (setF s F.TST_MARGIN_RESULT_BUSY 0) F.TST_MARGIN_RESULT_VALID 1) F.TST_MARGIN_RESULT_MISMATCHES mismatches.toNat
    tstEvent { s with test := { s.test with margin := none } } F.TST_EVENT_MARGIN_DONE

/-! ### The traffic generator (R498 to R500) -/

/-- The generator may send another request of its run. -/
def genMore (s : State) : Bool :=
  bitF s F.TST_GEN_CTRL_EN && (getF s F.TST_GEN_CTRL_COUNT == 0 || decide (s.test.next < getF s F.TST_GEN_CTRL_COUNT))

/-- BUSY follows; GEN_DONE is set once all that was sent has retired and nothing more is to be sent. -/
def genShow (s : State) : State :=
  let s := setB s F.TST_GEN_LAT_BUSY (bitF s F.TST_GEN_CTRL_EN || !s.test.reqs.isEmpty)
  if s.test.open_ && s.test.reqs.isEmpty && !genMore s then
    tstEvent { s with test := { s.test with open_ := false } } F.TST_EVENT_GEN_DONE
  else s

/-- A cause is recorded (R500). -/
def genCause (s : State) (c : Nat) : State := tstEvent (setF s F.TST_GEN_LAT_CAUSE c) F.TST_EVENT_GEN_FAIL

/-- The parts of a request: it is cut at a 4 KiB boundary. -/
def genParts (r : GenReq) : List (Nat × Nat) :=
  let n := min r.len (4096 - r.addr % 4096)
  (r.addr, n) :: (if n < r.len then [((r.addr + n) % 2 ^ 56, r.len - n)] else [])

/-- The byte of the pattern at an address (R499). -/
def genByte (s : State) (a : Nat) : Byte :=
  BitVec.ofNat 8 (Nat.xor (a / 8 * 8) (getF s F.TST_GEN_TARGET_SEED * 0x100000001) / 2 ^ (8 * (a % 8)))

/-- The pattern of a range. -/
def genBytes (s : State) (a n : Nat) : List Byte := (List.range n).map fun i => genByte s (a + i)

/-- Put a request, or take it out. -/
def genPut (s : State) (k : Nat) (r : GenReq) : State := { s with test := { s.test with reqs := mput s.test.reqs k r } }
def genDrop (s : State) (k : Nat) : State := { s with test := { s.test with reqs := mdel s.test.reqs k } }

/-- The round trip of a response, in ns: a free value (assumption 3). -/
def genLatency (s : State) : State :=
  let (v, s) := drawFree s
  let v := v % 2 ^ 16
  setF (highWater s F.TST_GEN_LAT_MAX v) F.TST_GEN_LAT_MIN (min (getF s F.TST_GEN_LAT_MIN) v)

/-- A request has retired: DONE or FAILS, and MISMATCHES. -/
def genRetire (s : State) (k : Nat) (r : GenReq) : State :=
  let s := genDrop s k
  let s := match r.bad with
    | none => bump s F.TST_GEN_COUNT_DONE
    | some st =>
      let s := bump s F.TST_GEN_COUNT_FAILS
      if getF s F.TST_GEN_LAT_CAUSE == 1 then s else genCause (setF s F.TST_GEN_LAT_FSTATUS st) 1
  let s := if !r.differs then s
    else
      let s := bump s F.TST_GEN_COUNT_MISMATCHES
      if getF s F.TST_GEN_LAT_CAUSE == 0 then genCause s 2 else s
  genShow s

/-- A part of a request has ended. A Write of WRITE_READ that is acknowledged OK makes its request wait for its Read half, while EN is 1. -/
def genPartEnd (s : State) (k st : Nat) (differs : Bool) : State :=
  match mfind s.test.reqs k with
  | none => s
  | some r =>
    let bad := r.bad.or (if st == 0 then none else some st)
    let r := { r with left := r.left - 1, bad := bad, differs := r.differs || differs }
    if r.left != 0 then genPut s k r
    else if r.bad.isNone && !r.reading && getF s F.TST_GEN_CTRL_OP == 2 && bitF s F.TST_GEN_CTRL_EN then genPut s k { r with reading := true }
    else genRetire s k r

/-- A write of TST_GEN_CTRL.EN (R500): with 0 nothing more is sent, and a request whose Read half waits retires. -/
def genEnable (s : State) (en : Bool) : State :=
  if bitF s F.TST_GEN_CTRL_EN == en then s
  else if en then
    let s := setF (setF (setF s F.TST_GEN_CTRL_EN 1) F.TST_GEN_LAT_MIN 0xFFFF) F.TST_GEN_LAT_MAX 0
    genShow { s with test := { s.test with next := 0, open_ := true } }
  else
    let s := setF s F.TST_GEN_CTRL_EN 0
    genShow ((s.test.reqs.filter fun x => x.2.left == 0).foldl (fun s x => genRetire s x.1 x.2) s)

/-- TRAFFIC_GEN_ENABLE. -/
def execTrafficGenEnable (who : Party) (en : Bool) (s : State) : Host.Outcome State Fault Refusal :=
  .next (if regOpen s who A.TST_GEN_CTRL then genEnable s en else s)

/-- Hedge's check of a request, part by part (R498). -/
def genFence (s : State) (r : GenReq) : Bool :=
  (genParts r).all fun x => apertureFence s (getF s F.TST_GEN_TARGET_NODE) x.1 x.2 (!r.reading)

/-- Send one part. -/
def genSendPart (s : State) (k : Nat) (r : GenReq) (x : (Nat × Nat) × Bool) : State :=
  let node := getF s F.TST_GEN_TARGET_NODE
  let src := myNode s 0
  let (s, rt) := routeOf s node src none
  match rt with
  | .fail st => genPartEnd s k st false
  | rt =>
    let tag := mfree s.unit0 0
    let s := apertureCount { s with unit0 := mput s.unit0 tag (.gen k x.2) } x.1.2
    let q : FabReq := { op := if r.reading then .read else .write, dest := node, src := src, tenant := 0xFFFF, tag := tag, addr := x.1.1,
                        len := x.1.2, data := if r.reading then [] else genBytes s x.1.1 x.1.2 }
    pgaPush s rt.pga 0 .diag { ingress := 18, txn := .req q }

/-- Send a request, or stop the generator where Hedge refuses it. -/
def genSend (s : State) (k : Nat) (r : GenReq) : State :=
  if !genFence s r then genCause (genEnable (fenceRefused (genDrop s k)) false) 3
  else
    let ps := genParts r
    let s := genPut s k { r with left := ps.length }
    (ps.zip [false, true]).foldl (fun s x => genSendPart s k r x) s

/-- The generator's next request. -/
def genRequest (s : State) : GenReq :=
  let len := getF s F.TST_GEN_CTRL_LENM1 + 1
  { addr := (getF s F.TST_GEN_ADDR_ADDR + s.test.next * len % 2 ^ getF s F.TST_GEN_ADDR_WRAP) % 2 ^ 56, len := len,
    reading := getF s F.TST_GEN_CTRL_OP == 1, left := 0 }

/-- A Read half that waits to be sent. -/
def genHalf (s : State) : Option (Nat × GenReq) := s.test.reqs.find? fun x => x.2.left == 0

/-- TRAFFIC_GEN_SEND: a Read half that waits, else the next request while fewer than OUTSTANDING are in flight. It waits while the cap is
negative. -/
def trafficSend (s : State) : State :=
  if blockHeld s A.TST_GEN_CTRL || !apertureCap s then s
  else match genHalf s with
    | some (k, r) => genSend s k r
    | none =>
      if genMore s && decide (s.test.reqs.length < getF s F.TST_GEN_CTRL_OUTSTANDING) then
        let k := s.test.serial
        let r := genRequest s
        genSend { s with test := { s.test with next := s.test.next + 1, serial := k + 1 } } k r
      else s

/-- TRAFFIC_GEN_SEND. -/
def execTrafficGenSend (s : State) : Host.Outcome State Fault Refusal := .next (trafficSend s)

/-- The answer to a part of a request arrives; one that is no longer awaited is discarded. -/
def genAnswer (s : State) (tag st : Nat) (data : List Byte) : State :=
  match mfind s.unit0 tag with
  | some (.gen k second) =>
    let s := { s with unit0 := mdel s.unit0 tag }
    match mfind s.test.reqs k with
    | none => s
    | some r =>
      let x := ((genParts r)[if second then 1 else 0]?).getD (0, 0)
      genPartEnd (genLatency s) k st (r.reading && bitF s F.TST_GEN_CTRL_CHECK && st == 0 && data != genBytes s x.1 x.2)
  | _ => s

/-- TRAFFIC_GEN_TIMEOUT (R499): 5 ms have passed for a request, or a half, that is in flight. -/
def execTrafficGenTimeout (k : Nat) (s : State) : Host.Outcome State Fault Refusal :=
  .next <| match mfind s.test.reqs k with
  | none => s
  | some r => if r.left == 0 then s else genRetire s k { r with left := 0, bad := r.bad.or (some 0x10) }

/-! ### JTAG (R501, R502) -/

/-- The instruction that acts when a code is loaded: a code of no instruction acts as BYPASS, and so does DTM unless PROVISION is 1 (R501, R503). -/
def tapActs (s : State) (code : Nat) : Nat :=
  if code ≤ 6 || (code == 0x10 && bitF s F.ROOT_STATUS_PROVISION) then code else 0xFF

/-- IDCODE (R501): the version is GLB_ID bits 7:4 (R36). -/
def tapIdcode (s : State) : Nat := bits (regWord s A.GLB_ID) 4 4 * 2 ^ 28 + 0x0825653B

/-- The TAP holds an instruction; when one that drove the balls is left, an enabled Calfos port may train (R502). -/
def tapHold (s : State) (code : Nat) : State :=
  let was := tapDrives s
  let s := { s with test := { s.test with tap := code } }
  if was && !jtagTest code then (List.range 8).foldl portWake s else s

/-- JTAG_INSTRUCTION_LOAD. IDCODE shows the device's identity. -/
def execJtagInstructionLoad (code : Byte) (s : State) : Host.Outcome State Fault Refusal :=
  .next <|
    let s := tapHold s (tapActs s code.toNat)
    if code == 1 then emit s (.tapData (tapIdcode s))
    else if jtagTest code.toNat then
      let s := tstEvent (calfosDown s) F.TST_EVENT_JTAG_TEST
      (List.range 4).foldl (fun s n => portResetAsk s n 0) s
    else s

/-- JTAG_TRST (R471): the TAP holds IDCODE. Out of a test instruction the ports stay down until firmware enables them (R504): a host port's LINK_EN
is 0 then, as a Calfos port's EN is (DEDUCED, assumption 131). -/
def execJtagTrst (s : State) : Host.Outcome State Fault Refusal :=
  .next (tapHold (if tapDrives s then (List.range 4).foldl (fun s n => setF s (F.HPT_CTRL_LINK_EN n) 0) s else s) 1)

/-! ### Tendril pins (R409, R525 to R528) -/

/-- A SEL value that a role gives a meaning (R526). -/
def tndSelOk (role sel : Nat) : Bool :=
  if role == 4 then decide (sel ≤ 4)
  else if role == 6 then decide (sel ≤ 8) || (decide (0x10 ≤ sel) && decide (sel ≤ 0x17))
  else true

/-- The condition or signal that SEL names for a FAULT or a DEBUG pin (R526). -/
def tndSignal (s : State) (role sel : Nat) : Bool :=
  if role == 4 then
    if sel == 0 then bitF s F.HDG_STATUS_SAFE
    else if sel == 1 then getF s F.PWM_THERM_ALERT_STEP != 0 && decide (getF s F.PWM_THERM_ALERT_STEP ≤ getF s F.PWM_STATUS_THERM_STEP)
    else if sel == 2 then getF s F.GLB_ECC_STATUS_UNCORR != 0
    else if sel == 3 then bitF s F.HDG_EVENT_EARLY
    else getF s F.RST_STATUS_PORT != 0
  else if sel < 4 then bitOf (getF s F.PWM_GATE_RUN) sel
  else if sel == 4 then getF s F.PWM_STATUS_THERM_STEP != 0
  else if sel < 9 then evgMeip s (sel - 5)
  else cfpState s (sel % 8) == cfpActive

/-- The level that pin t drives by its role, or none where it drives nothing (R525, R528): the pin as the board sees it. -/
def tndDrive (s : State) (t : Nat) : Option Bool :=
  let sel := getF s (F.GDN_TND_CFG_SEL t)
  if tapDrives s then none
  else match getF s (F.GDN_TND_CFG_ROLE t) with
    | 3 => if bitF s (F.GDN_TND_CFG_OUT t) then none else some false
    | 4 => if tndSignal s 4 sel then some false else none
    | 5 => some (bitF s (F.GDN_TND_CFG_OUT t))
    | 6 => some (tndSignal s 6 sel != bitF s (F.GDN_TND_CFG_POL t))
    | _ => none

/-- A pin in the wake role that is asserted is a wake. -/
def tndWake (s : State) (t : Nat) : State :=
  if getF s (F.GDN_TND_CFG_ROLE t) == 2 && tndAsserted s t then wake s 6 else s

/-- A write of GDN_TND_CFG[t] (R409, R527). -/
def tndConfig (s : State) (t v : Nat) : State :=
  let role := bits v 0 3
  if role == 7 || bits v 8 2 == 3 || !tndSelOk role (bits v 16 8) then setF s F.GDN_TND_IN_FORMAT 1
  else if tndAllow s t < roleNeeds role then hdgEvent (bump s F.HDG_COUNT_TND_REFUSED) F.HDG_EVENT_TND
  else
    let s := [F.GDN_TND_CFG_SEL t, F.GDN_TND_CFG_PULL t, F.GDN_TND_CFG_OUT t, F.GDN_TND_CFG_TYPE t, F.GDN_TND_CFG_POL t, F.GDN_TND_CFG_ROLE t].foldl
      (fun s f => setF s f (bits v f.lo f.w)) s
    tndWake (levelSet s (16 + t)) t

/-- TENDRIL_CONFIG_WRITE. -/
def execTendrilConfigWrite (t : Fin 24) (v : Word) (s : State) : Host.Outcome State Fault Refusal := .next (tndConfig s t v.toNat)

/-- A pin changes level: an Edge input raises its source as it becomes asserted. -/
def tndInput (s : State) (t : Nat) (level : Bool) : State :=
  let old := getF s F.GDN_TND_IN_LEVEL
  if bitOf old t == level then s
  else
    let s := setF s F.GDN_TND_IN_LEVEL (if level then setBit old t else clrBit old t)
    let s := if getF s (F.GDN_TND_CFG_ROLE t) == 1 && !bitF s (F.GDN_TND_CFG_TYPE t) && tndAsserted s t then raise s (16 + t) else s
    tndWake (levelSet s (16 + t)) t

/-- TENDRIL_INPUT_CHANGE. -/
def execTendrilInputChange (t : Fin 24) (level : Bool) (s : State) : Host.Outcome State Fault Refusal := .next (tndInput s t level)

end Sys2Proof.Machine
end

