-- ==== Sys2Proof/Machine/Pergola.lean ====
section
/-!
DEFINITION. The commands of Pergola (chapter 07): a grant and its hand-over, the reflection port (R26), unbroken stall (R209), and the arrival of fabric
responses at the blocks that wait for them (R24, R343, R346).
-/
namespace Sys2Proof.Machine

/-! ### Grants (R206 to R208) -/

/-- A transfer between a DMA cluster and the host has crossed Pergola (R21): a request takes its place in the port's transmit order, a read with a
host tag; the outcome of a read reaches the channel. -/
def legDeliver (s : State) (q plot : Nat) : HostLeg → State
  | .write t => pushTlp s q t
  | .read use t =>
    let (s, tag) := takeTag s q { use := use, plot := plot, off := t.addr, addr := t.addr, len := t.len }
    pushTlp s q { t with tag := tag }
  | .answer r bad off data => chanAnswer s r false bad off data

/-- The egress has what it was granted: a request for unit 0 enters the management queue (R345), a transfer of a DMA cluster with the host goes on,
anything else enters the client's input buffer, or the store of the reflection port. -/
def handOver (s : State) (e c : Nat) (t : QTxn) : State :=
  match t.host, e, t.txn with
  | some l, _, _ => legDeliver s (e % 4) t.plot l
  | none, 16, .req r => mqArrive s r
  | none, _, _ =>
    let s := setInbox s e c (inboxOf s e c ++ [t])
    if e == 19 then occUpdate s 19 else s

/-- The Ledger entry of a request that is handed to its egress is Issued (R135); a DMA write's buffer space is free (R228). -/
def entryHanded (s : State) (t : QTxn) : State :=
  match t.entry with
  | none => s
  | some (q, tag) =>
    match entryOf s q tag with
    | none => s
    | some e =>
      let s := putEntry s q tag { e with st := if e.st == .queued then .issued else e.st, handed := s.now }
      if !e.hostPath && e.kind == .write then chanHanded s (dmaRefOf e) else s

/-- A cycle of an egress that sends nothing: one of stall where it has beats queued (R213; DESIGN CHOICE, assumption 134). -/
def idleCycle (s : State) (e : Nat) : State :=
  let s' := noteCycles s e 1 false
  if egressStalled s e then noteStall s' e 1 else s'

/-- One grant of egress e, while Pergola has its clock (R32). -/
def pergolaTransfer (s : State) (e : Nat) : State :=
  if !coreRuns s then s
  else match serveClasses s e (classesNow s e) with
  | (s, none) => idleCycle s e
  | (s, some (c, t)) =>
    let s := portCapCount (noteGrant s e c t) e t
    pgaAdmit (handOver (entryHanded (occUpdate s t.ingress) t) e c t)

/-- PERGOLA_TRANSFER. -/
def execPergolaTransfer (e : Fin 20) (s : State) : Host.Outcome State Fault Refusal := .next (pergolaTransfer s e)

/-- PGA_SAT_TIMEOUT: SAT_TIME of unbroken stall. -/
def execPgaSatTimeout (e : Fin 20) (s : State) : Host.Outcome State Fault Refusal :=
  .next (if egressStalled s e then setEv s F.PGA_EVENT_SAT 1248 else s)

/-! ### Reflection (R26) -/

/-- The flow of a transaction that passes the reflection port: its originator's (R207). -/
def originFlow (s : State) (t : QTxn) : FlowId :=
  if t.ingress == 17 then .rake
  else if t.ingress == 18 then .diag
  else if t.ingress == 16 then .gardener
  else match t.entry.bind fun x => entryOf s x.1 x.2 with
    | some e => flowOf e
    | none => .host t.plot

/-- REFLECTION_INGRESS: the next transaction in the reflection port is dispatched as if it had arrived on a Calfos port. -/
def execReflectionIngress (s : State) : Host.Outcome State Fault Refusal :=
  .next <|
    if !coreRuns s then s
    else match classOrder.findSome? fun c => (inboxPop s 19 c).map fun x => (c, x) with
    | none => s
    | some (c, (s, t)) => occUpdate (dispatchLocal s { t with ingress := 19 } c (originFlow s t)) 19

/-! ### Responses (R24, R43, R343, R346) -/

/-- The request an operation of a Ledger entry has sent: its OP, whether it was ordered, and the bytes its answer carries. -/
def askedOf (e : LEntry) : FabOp × Bool × Nat :=
  match e.kind, e.emu with
  | .write, _ => (.write, false, 0)
  | .read, _ => (.read, e.ordered, e.len + e.ext)
  | .release, some .budgetGone => (.write, false, 0)
  | .release, _ => (.release, false, 0)
  | .atomic, none => (.atomic, e.ordered, e.len)
  | .atomic, some .read => (.read, false, e.len)
  | .atomic, some .write => (.write, false, 0)
  | .atomic, _ => (.hold, false, 0)

/-- The same for a request under unit 0. -/
def askedUnit0 (s : State) : Unit0Use → FabOp × Bool × Nat
  | .aperture _ _ _ _ op n => (op, false, if op == .read || op == .mgmtRead then n else 0)
  | .rake .. => (.signalRead, false, 256)
  | .gen k second =>
    match mfind s.test.reqs k with
    | none => (.write, false, 0)
    | some r => if r.reading then (.read, false, (((genParts r)[if second then 1 else 0]?).getD (0, 0)).2) else (.write, false, 0)

/-- The request that a response to this device answers, if one is outstanding. -/
def askedFor (s : State) (r : FabResp) : Option (FabOp × Bool × Nat) :=
  if nodeUnit r.dest == 0 then (mfind s.unit0 r.tag).map (askedUnit0 s)
  else
    let q := nodeUnit r.dest - 1
    ((entryOf s q r.tag).map askedOf).or
      ((mfind (quadOf s q).table r.tag).map fun t => (if t.write then .write else .read, false, t.len))

/-- A response breaks R342 or R343: a status not allowed for its request, or OK with too little data. -/
def respMalformed (s : State) (r : FabResp) : Bool :=
  match askedFor s r with
  | none => decide (6 < r.status)
  | some (op, ordered, n) =>
    !statusAllowed { op := op, dest := 0, src := 0, tenant := 0, tag := 0, addr := 0, len := 0, ordered := ordered } r.status ||
      (r.status == 0 && decide (r.data.length < n))

/-- A malformed response is taken as Nak-Address, and the Calfos port it came by sets PROTO (R346). -/
def respTake (s : State) (ingress : Nat) (r : FabResp) : State × FabResp :=
  if !respMalformed s r then (s, r)
  else
    let r := { r with status := 2, data := [] }
    if 4 ≤ ingress && ingress < 12 then (cfkEvent s (ingress - 4) F.CFK_EVENT_PROTO, r) else (s, r)

/-- How an access of configuration memory at a fabric node ended (R43, R87). -/
def tableResult (st : Nat) (data : List Byte) : MemResult :=
  if st == 0 then .ok data else .failed (if st == 6 then .poisoned else if st == 2 then .unsupported else .abort)

/-- The answer to a fabric request for configuration memory reaches what waits for it (R43, R47, R54, R66, R87, R91). -/
def tableAnswer (s : State) (q : Nat) (use : TabUse) (st : Nat) (data : List Byte) : State :=
  let r := tableResult st data
  match use with
  | .load p => if loading s p then loadRead s p r else s
  | .commit p => commitRead s p r
  | .refetch p => if (plotOf s p).refetch then refetchDone s p r else s
  | .fill p d => if fillReading s p d then fillRead s p d r else s
  | .commitRead => match (quadOf s q).commit with
    | some c => if c.stage == .reading then commitHalf s q c r else s
    | none => s
  | .commitWrite => match (quadOf s q).commit with
    | some c => match c.stage with
      | .writing e => commitWritten s q c e (st == 0)
      | _ => s
    | none => s
  | .writeback p => writebackDone s p (st == 0)

/-- A response reaches the host path of quadrant q: a request for configuration memory, or the Ledger. -/
def quadAnswer (s : State) (q : Nat) (r : FabResp) : State :=
  match (mfind (quadOf s q).table r.tag) with
  | some t => tableAnswer (modQuad s q fun x => { x with table := mdel x.table r.tag }) q t.use r.status r.data
  | none => ledgerAnswer s q r.tag r.status r.data

/-- A response reaches the block that waits for it; one to unit 0 that nobody waits for is discarded and counted (R346). -/
def respDeliver (s : State) (client : Nat) (r : FabResp) : State :=
  if client < 4 then quadAnswer s client r
  else if client < 16 then ledgerAnswer s (client - 12) r.tag r.status r.data
  else if client == 16 then apertureAnswer s r.tag r.status r.data
  else match mfind s.unit0 r.tag with
    | none => respStray s
    | some _ => if client == 17 then rakeAnswer s r.tag r.status r.data else genAnswer s r.tag r.status r.data

/-- The clocks of a client of Pergola run (R32, R33). -/
def clientRuns (s : State) (client : Nat) : Bool :=
  coreRuns s && (decide (16 ≤ client) || quadRuns s (client % 4))

/-- FABRIC_RESPONSE_ARRIVAL: the next response in the input buffer of a client, Pergola ports 0 to 3 and 12 to 18. What it frees lets waiting
transactions enter. -/
def execFabricResponseArrival (client : Fin 19) (s : State) : Host.Outcome State Fault Refusal :=
  .next <|
    if (4 ≤ client.val && client.val < 12) || !clientRuns s client then s
    else match (inboxPop s client 2).or (inboxPop s client 3) with
      | some (s, { ingress := i, txn := .resp r, .. }) =>
        let (s, r) := respTake s i r
        respDeliver s client r
      | _ => s

end Sys2Proof.Machine
end

