-- ==== Sys2Proof/Machine/Ecc.lean ====
section
/-!
DEFINITION. SRAM errors (R31, R38): the counters and the capture, and what an uncorrectable error does to each structure.
-/
namespace Sys2Proof.Machine

/-- Region codes (R38). -/
def Region.code : Region → Nat
  | .contexts => 0
  | .ledgers => 1
  | .hostReplay => 2
  | .calfos => 3
  | .staging => 4
  | .gardener => 5

/-- The region of a structure (R30). -/
def Struck.region : Struck → Nat
  | .windowLine _ _ => 0
  | .plotEntry _ => 0
  | .dmaContext _ _ => 0
  | .trellisEntry _ => 0
  | .rakeSlot _ _ => 0
  | .plotState _ => 0
  | .ledgerEntry _ _ => 1
  | .hostReplay _ => 2
  | .calfosBuffer _ => 3
  | .mailboxSlot _ _ => 4
  | .burstData _ _ _ => 4
  | .trackerData _ _ => 4
  | .prefetchData _ _ => 4
  | .otherStaging => 4
  | .gardenerSram _ => 5

/-- SRAM_ECC_CORRECTED (R31): the region's counter goes up and stops at 0xFF; one in host replay is logged in PF0 (R276). -/
def execSramEccCorrected (region : Region) (port : Fin 4) (s : State) : Host.Outcome State Fault Refusal :=
  let k := Region.code region
  let v := getF s F.GLB_ECC_CORR_CORR
  let s := if bits v (8 * k) 8 == 255 then s else setF s F.GLB_ECC_CORR_CORR (v + 2 ^ (8 * k))
  .next (if k == 2 then aerLog s (port * 1024) .correctedInternal else s)

/-- Flag and capture an uncorrectable error, and raise the region's source (R31, R38, R417). -/
def eccFlag (s : State) (k off : Nat) : State :=
  let s := setF s F.GLB_ECC_STATUS_UNCORR (setBit (getF s F.GLB_ECC_STATUS_UNCORR) k)
  let s := if bitF s F.GLB_ECC_ADDR_VALID then s
    else setF (setF (setF s F.GLB_ECC_ADDR_VALID 1) F.GLB_ECC_ADDR_REGION k) F.GLB_ECC_ADDR_OFFSET (off / 8 * 8)
  raise s k

/-- Change the first element of a list that a function changes. -/
def firstMap {α : Type} (f : α → Option α) : List α → Option (List α)
  | [] => none
  | x :: xs => match f x with
    | some y => some (y :: xs)
    | none => (firstMap f xs).map fun ys => x :: ys

/-- A transaction that carries data, poisoned (R31, R341, R342). -/
def poisonTxn : Txn → Option Txn
  | .req r => if r.data.isEmpty || (r.op != .write && r.op != .atomic) then none else some (.req { r with poison := true })
  | .resp r => if r.data.isEmpty then none else some (.resp { r with status := 6 })

/-- A queued transaction, poisoned; `port` is the Pergola port it came in by, if that matters. -/
def poisonQ (port : Option Nat) (t : QTxn) : Option QTxn :=
  if port.isSome && port != some t.ingress then none else (poisonTxn t.txn).map fun x => { t with txn := x }

/-- The first transaction with data in a list of keyed queues. -/
def poisonKeyed (ok : Nat → Bool) (port : Option Nat) (m : SMap (List QTxn)) : Option (SMap (List QTxn)) :=
  firstMap (fun x => if ok x.1 then (firstMap (poisonQ port) x.2).map fun l => (x.1, l) else none) m

/-- The first transaction with data that a Calfos port received, in Pergola's queues. -/
def poisonActive (port : Nat) (m : SMap (List FlowSt)) : Option (SMap (List FlowSt)) :=
  firstMap (fun x => (firstMap (fun f => (firstMap (poisonQ (some port)) f.queue).map fun q => { f with queue := q }) x.2).map fun l => (x.1, l)) m

/-- A header slot whose payload is poisoned: POISON of a Write or Atomic (R341), STATUS of a DATA response (R342). -/
def poisonSlot (h : Nat) : Option Nat :=
  let op := bits h 0 8
  if op == 0x12 || op == 0x13 then some (setBit h 10) else if op == 0x21 then some (clrBits h (0xFF * 2 ^ 8) + 6 * 2 ^ 8) else none

/-- The first flit of a replay buffer with the header of such a payload, which goes out poisoned from then on. -/
def poisonFlits (l : List TxFlit) : Option (List TxFlit) :=
  firstMap (fun (x : TxFlit) => (firstMap (fun y => if x.heads.contains y.2 then (poisonSlot y.1).map fun h => (h, y.2) else none) x.body.zipIdx).map
    fun b => { x with body := b.map fun y => y.1 }) l

/-- Data in a Calfos port's replay or receive buffer is struck: the flits not yet acknowledged first, then what was received, the transaction that
is still arriving, and what waits to be packed. -/
def calfosStruck (s : State) (f : Nat) : State :=
  let l := linkOf s f
  let queues (p : Pergola) : State := { s with pga := p }
  (((poisonFlits l.replay).map fun r => setLink s f { l with replay := r }) <|>
   ((poisonActive (4 + f) s.pga.active).map fun m => queues { s.pga with active := m }) <|>
   ((firstMap (fun (x : Waiting) => (poisonQ (some (4 + f)) x.t).map fun t => { x with t := t }) s.pga.waiting).map fun w =>
     queues { s.pga with waiting := w }) <|>
   ((firstMap (fun (x : Nat × QTxn) => (poisonQ none x.2).map fun t => (x.1, t)) l.waitRx).map fun w => setLink s f { l with waitRx := w }) <|>
   ((List.range 6).findSome? fun c => (l.cls c).part.bind fun p => (poisonSlot p.hdr).map fun h =>
     modClass s f c fun x => { x with part := some { p with hdr := h } }) <|>
   ((poisonKeyed (fun k => k / 8 == 4 + f) none s.pga.inbox).map fun m => queues { s.pga with inbox := m })).getD s

/-- The payload of a Message that waits in a host path is struck: it goes to the host poisoned (R31). -/
def messageStruck (s : State) : State :=
  let hit (t : QTxn) : Option QTxn := match t.txn with
    | .req r => if r.op == .message && !r.data.isEmpty && !r.poison then some { t with txn := .req { r with poison := true } } else none
    | .resp _ => none
  match firstMap (fun (x : Nat × List QTxn) => if x.1 / 8 < 4 then (firstMap hit x.2).map fun l => (x.1, l) else none) s.pga.inbox with
  | some m => { s with pga := { s.pga with inbox := m } }
  | none => s

/-- Data in a port's replay buffer is struck: the next TLP with data goes to the host poisoned (R31), and PF0 logs it (R276). -/
def replayStruck (s : State) (n : Nat) : State :=
  let s := match firstMap (fun t => if t.data.isEmpty then none else some { t with poisoned := true }) (portOf s n).txq with
    | some l => modPort s n fun h => { h with txq := l }
    | none => s
  aerLog s (n * 1024) .uncorrectableInternal

/-- A queued write of a burst, poisoned. -/
def burstPoisonQ (s : State) (p c b : Nat) (t : QTxn) : QTxn :=
  match t.host, t.entry, t.txn with
  | some (.write h), _, _ => if h.dma.any fun r => r.plot == p && r.chan == c && r.burst == b then { t with host := some (.write { h with poisoned := true }) } else t
  | _, some (q, tag), .req r =>
    if (entryOf s q tag).any fun e => !e.hostPath && e.plot == p && e.chan == c && e.burst == b then { t with txn := .req { r with poison := r.op == .write } } else t
  | _, _, _ => t

/-- Data of a DMA burst in the burst buffer is struck: what has not been handed over goes on as poisoned (R228, R242), its retries too. -/
def burstPoison (s : State) (p c b : Nat) : State :=
  let f := burstPoisonQ s p c b
  let s := { s with pga := { s.pga with
    active := s.pga.active.map fun x => (x.1, x.2.map fun y => { y with queue := y.queue.map f })
    waiting := s.pga.waiting.map fun x => { x with t := f x.t } } }
  let s := modQuad s (quadrantOf p) fun u => { u with ledger := u.ledger.map fun x =>
    if !x.2.hostPath && x.2.kind == .write && x.2.plot == p && x.2.chan == c && x.2.burst == b
    then (x.1, { x.2 with req := { x.2.req with poisoned := true } }) else x }
  modChan s p c fun x => { x with bursts := x.bursts.map fun z => if z.id == b then { z with poison := true } else z }

/-- Data of a DMA burst is struck: it goes on as poisoned, and the span of its Descriptor is broken (R242, R255). -/
def burstStruck (s : State) (p c b : Nat) : State :=
  match (chanOf s p c).bursts.find? fun y => y.id == b && y.holds with
  | none => s
  | some y =>
    modChan (burstPoison s p c b) p c fun x => match (x.ds.find? fun d => d.no == y.desc).bind fun d => d.span with
      | none => x
      | some n => { x with broken := if x.broken.contains n then x.broken else x.broken ++ [n] }

/-- A Trellis entry is struck: it counts as empty until it is rewritten (R125, R126). -/
def trellisStruck (s : State) (i : Nat) : State :=
  let s := { s with trl := { s.trl with struck := mput s.trl.struck i true } }
  let s := if bitF s F.TRL_ECC_VALID then s else setF (setF s F.TRL_ECC_VALID 1) F.TRL_ECC_INDEX i
  setEv s F.TRL_EVENT_ECC 1240

/-- A resident PlotEntry is struck: it is refetched, at Cloche step 6 while the plot is Resetting (R31, R70). -/
def entryStruckAt (s : State) (p : Nat) : State :=
  let st := plotState s p
  if st == psResetting then modPlot s p fun x => { x with cloche := x.cloche.map fun c => { c with refetch := true } }
  else if st == psServing || st == psHeld || st == psFaulted then refetchStart s p false else s

/-- The effect of an uncorrectable error on the structure struck (R31). -/
def struckEffect (s : State) : Struck → State
  | .windowLine p w =>
    match lineOf s p w with
    | none => s
    | some l => putLine s p w { l with entry := none }
  | .plotEntry p => entryStruckAt s p
  | .dmaContext p c => chanContextLost s p c
  | .trellisEntry i => trellisStruck s i
  | .rakeSlot p i =>
    { s with rake := { s.rake with slots := s.rake.slots.map fun x =>
        if x.1 == p.val * 64 + i.val then (x.1, { x.2 with fresh := true, quiet := true }) else x } }
  | .ledgerEntry q t =>
    match entryOf s q t with
    | none => s
    | some e => ledgerCut s q (t, e)
  | .plotState p => plotFaulted s p 0
  | .hostReplay n => replayStruck s n
  | .calfosBuffer f => calfosStruck s f
  | .mailboxSlot p i => mbxStruck s p i
  | .burstData p c b => burstStruck s p c b
  | .trackerData q i =>
    modQuad s q fun x => { x with inbound := x.inbound.map fun y =>
      if y.1 == i && y.2.req.op != .write then (y.1, { y.2 with worst := min y.2.worst 4 }) else y }
  | .prefetchData q i =>
    modQuad s q fun x => { x with pf := (x.pf.zip (List.range x.pf.length)).map fun y => if y.2 == i then { y.1 with poison := true } else y.1 }
  | .otherStaging => messageStruck s
  | .gardenerSram c => emit s (.bus c none)

/-- SRAM_ECC_UNCORRECTABLE (R31). -/
def execSramEccUncorrectable (struck : Struck) (off : BitVec 25) (s : State) : Host.Outcome State Fault Refusal :=
  .next (struckEffect (eccFlag s (Struck.region struck) off.toNat) struck)

end Sys2Proof.Machine
end

