-- ==== Sys2Proof/Machine/Calfos.lean ====
section
/-!
DEFINITION. A frame received on a Calfos port (R299, R300): its PHY control code (R299, R312, R313, R320), its flits' headers (R332 to R337, R346) and
their slots (R339 to R341).
-/
namespace Sys2Proof.Machine

/-! ### Slots (R339 to R341) -/

/-- A transaction whose header broke R341 or R342 in what its fields no longer show: a request reads as malformed (R344), a response carries a status
that no request allows (R346). -/
def spoilTxn : Txn → Txn
  | .req r => .req { r with atop := 15, len := if r.op == .message then 200 else r.len }
  | .resp r => .resp { r with status := 7 }

/-- The transaction of a header and payload received in class c. -/
def rxTxn (ctx : RouteCtx) (h c : Nat) (data : List Byte) : Txn :=
  let t := txnOf ctx h data (c / 2 == 2)
  let bad := slotBad h || (match t with
    | .req r => !opChannelOk r.op c
    | .resp _ => c / 2 != 1)
  if bad then spoilTxn t else t

/-- A whole transaction has been received in class c of port f: a chain Message is taken as the frame it carries (R360), anything else goes to the
ingress (R25). `flits` are the flits of the class it came in. -/
def rxDeliver (s : State) (f c : Nat) (t : Txn) (flits : List Nat) : State :=
  let q : QTxn := { ingress := 4 + f, txn := t, rcls := c, cred := flits, dateline := dateline s f }
  match t with
  | .req r => if isChainMessage r then chainFrame s f r else ingressTake s f c q
  | .resp _ => ingressTake s f c q

/-- One slot in a header position (R340): ROUTE, or a header; a reserved OP or a header with no route context is a protocol error. -/
def headerTake (s : State) (f c n h : Nat) : State :=
  if bits h 0 8 == 1 then
    modClass s f c fun x => { x with rxCtx := some { dest := bits h 16 20, src := bits h 36 20, tenant := bits h 56 16, hop := bits h 8 6 } }
  else match slotPayload h, ((linkOf s f).cls c).rxCtx with
    | some 0, some ctx => rxDeliver s f c (rxTxn ctx h c []) [n]
    | some k, some ctx => modClass s f c fun x => { x with part := some { ctx := ctx, hdr := h, left := k, data := [], flits := [n] } }
    | _, _ => protoError s f

/-- One payload slot (R339). -/
def payloadTake (s : State) (f c n : Nat) (p : PartTxn) (v : Nat) : State :=
  let data := p.data ++ leBytes (min 16 p.left) v
  let flits := if p.flits.contains n then p.flits else p.flits ++ [n]
  if p.left ≤ 16 then
    rxDeliver (modClass s f c fun x => { x with part := none }) f c (rxTxn p.ctx p.hdr c data) flits
  else modClass s f c fun x => { x with part := some { p with left := p.left - 16, data := data, flits := flits } }

/-- The slots of an accepted flit, in order, with the beats they fill (R213); n is the flit's place among those of its class. PAD ends the flit (R339), and so does a protocol error. -/
def slotsTake (s : State) (f c n : Nat) : List Nat → State
  | [] => occUpdate s (4 + f)
  | v :: vs =>
    if !linkUp s f then s
    else match ((linkOf s f).cls c).part with
      | some p => slotsTake (payloadTake s f c n p v) f c n vs
      | none => if bits v 0 8 == 0 then occUpdate s (4 + f) else slotsTake (headerTake s f c n v) f c n vs

/-! ### Flits (R328 to R337) -/

/-- The 15 slots of a flit. -/
def flitSlots (bs : List Byte) : List Nat := (List.range 15).map fun k => leNat ((bs.drop (8 + 16 * k)).take 16)

/-- A flit or frame is discarded under R329 or R334: NAK, and the count. -/
def flitDrop (s : State) (f : Nat) : State := modLink (bump s (F.CFK_COUNT_CRC_ERR f)) f fun l => { l with nak := true }

/-- SEQ a after SEQ b, modulo 4,096. -/
def seqAfter (a b : Nat) : Nat := (a + 4096 - b) % 4096

/-- ACK of a received flit (R335): the flits it covers leave the replay buffer; none for a flit not sent. -/
def ackTake (s : State) (f a : Nat) : Option State :=
  let l := linkOf s f
  let oldest := (l.next + 4096 - l.replay.length) % 4096
  let n := (seqAfter a oldest + 1) % 4096
  if n == 0 then (if l.acked then some s else none)
  else if l.replay.length < n then none
  else
    let rest := l.replay.drop n
    some (showReplay (modLink s f fun l =>
      { l with replay := rest, acked := true, row := 0, busyAt := s.ticks, resend := l.resend.filter fun q => rest.any fun x => x.seq == q }) f)

/-- NAK of a received flit (R335): a replay, unless one for the same ACK is still being resent. -/
def nakTake (s : State) (f key : Nat) : State :=
  let l := linkOf s f
  if l.replay.isEmpty || (l.nakFor == some key && !l.resend.isEmpty) then s
  else replayStart (modLink (bump s (F.CFK_COUNT_NAK_RX f)) f fun l => { l with nakFor := some key }) f

/-- CR_TOTAL of a class (R337); none for an advance beyond what is outstanding. -/
def creditTake (s : State) (f c total : Nat) : Option State :=
  let x := (linkOf s f).cls c
  let n := (total + 2048 - x.freed % 2048) % 2048
  if 5 < c || n == 0 then some s
  else if x.sent - x.freed < n then none
  else some (showCredit (modClass s f c fun x => { x with freed := x.freed + n }) f c)

/-- An INIT body, as a number, is valid (R332). -/
def initValid (v : Nat) : Bool :=
  let a (c : Nat) : Nat := bits v (16 + 16 * c) 16
  let ok (c lo : Nat) : Bool := decide (lo ≤ a c) && decide (a c ≤ 1024)
  bits v 0 8 == 1 && bits v 11 5 == 0 && bits v 112 16 == 0 && v / 2 ^ 148 == 0 && ok 0 64 && ok 2 64 && ok 4 16 &&
    (if tb v 9 then ok 1 64 && ok 3 64 && ok 5 16 else a 1 == 0 && a 3 == 0 && a 5 == 0)

/-- An INIT flit (R331, R332). After Up it is ignored. -/
def initTake (s : State) (f v : Nat) : State :=
  if getF s (F.CFK_STATUS_LINK f) != 1 then s
  else if !initValid v then cfkEvent (modLink s f fun l => { l with initBad := true }) f F.CFK_EVENT_INIT_FAIL
  else
    let s := (List.range 6).foldl (fun s c => showCredit (setF s (F.CFK_CREDIT_ALLOT_TX f c) (bits v (16 + 16 * c) 16)) f c) s
    let s := setB (setB s (F.CFK_STATUS_PARTNER_B f) (tb v 9)) (F.CFK_STATUS_PARTNER_NODE_VALID f) (tb v 10)
    let s := setF s (F.CFK_STATUS_PARTNER_NODE f) (bits v 128 20)
    modLink s f fun l => { l with initBad := false, rxValid := true, gotSeen := l.gotSeen || tb v 8 }

/-- DATA flits accepted since the link initialised. -/
def Link.accepted (l : Link) : Nat := (l.classes.map fun x => x.2.rxGot - x.2.rxBase).sum

/-- A DATA flit (R333, R334, R338): accepted in sequence, discarded otherwise; one beyond the allotment, or of a B class not offered, is a protocol
error. -/
def dataTake (s : State) (f c seq : Nat) (bs : List Byte) : State :=
  let l := linkOf s f
  if !linkUp s f then s
  else if seq != l.expect then
    if seqAfter l.expect seq ≤ min 2048 l.accepted then bump s (F.CFK_COUNT_CRC_ERR f) else flitDrop s f
  else if getF s (F.CFK_CREDIT_ALLOT_RX f c) ≤ (heldFlits s f c).length then protoError s f
  else
    let n := (l.cls c).rxGot
    let s := modLink s f fun l => { l with expect := (seq + 1) % 4096, got := true, nak := false, ackDue := true, busyAt := s.ticks }
    slotsTake (modClass s f c fun x => { x with rxGot := n + 1 }) f c n (flitSlots bs)

/-- The flit by its type (R328). -/
def flitBody (s : State) (f h : Nat) (bs : List Byte) : State :=
  match bits h 62 2 with
  | 0 =>
    let d := seqAfter (bits h 47 12) (linkOf s f).expect
    if linkUp s f && d != 0 && decide (d ≤ 2048) then modLink s f fun l => { l with nak := true } else s
  | 1 => dataTake s f (bits h 59 3) (bits h 47 12) bs
  | _ => initTake s f (leNat ((bs.drop 8).take 240))

/-- One flit (R329, R346): ACK, then NAK, then credit, then its body. A link that is Down takes none. -/
def flitTake (s : State) (f : Nat) (bs : List Byte) : State :=
  let h := wordAt bs 0
  if getF s (F.CFK_STATUS_LINK f) == 0 then s
  else if !flitOk bs then flitDrop s f
  else if bits h 62 2 == 3 || (bits h 62 2 == 1 && decide (5 < bits h 59 3)) then protoError s f
  else match (if tb h 34 then ackTake s f (bits h 35 12) else some s) with
    | none => protoError s f
    | some s =>
      let s := if tb h 33 then nakTake s f (if tb h 34 then bits h 35 12 else 4096) else s
      match creditTake s f (bits h 30 3) (bits h 19 11) with
      | none => protoError s f
      | some s => flitBody s f h bs

/-! ### PHY control codes (R299) -/

/-- An answer in the Hush handshake, in four frames; a direction in Drift leaves it to send. -/
def hushAnswer (s : State) (f code : Nat) : State :=
  let s := if bitF s (F.CFP_STATUS_TX_DRIFT f) then driftExit s f else s
  modLink s f fun l => { l with pctl := code, pctlLeft := 4 }

/-- Hush is agreed (R313): HUSH_ACK goes out, and HUSH_ENTER sends the last four frames. -/
def hushAgree (s : State) (f : Nat) : State := modLink (hushAnswer s f 3) f fun l => { l with hush := 2 }

/-- A request of this side is refused: it stays Active, and a Doze entry is abandoned (R313, R459). -/
def hushRefused (s : State) (f : Nat) : State :=
  let d := (linkOf s f).doze
  let s := hushDrop s f
  if d && dozing s then dozeAbandon s 4 else s

/-- HUSH_REQ (R313, R320): with a request of its own, it is an ACK if this side's conditions hold and a NAK otherwise. -/
def hushReqTake (s : State) (f : Nat) : State :=
  let h := (linkOf s f).hush
  if h == 2 then s
  else if hushReady s f then hushAgree s f
  else if h == 1 then hushRefused s f
  else hushAnswer s f 4

/-- A code is acted on (R299). -/
def pctlAct (s : State) (f code : Nat) : State :=
  match code with
  | 2 => hushReqTake s f
  | 3 => if (linkOf s f).hush == 1 then hushAgree s f else s
  | 4 => if (linkOf s f).hush == 1 then hushRefused s f else s
  | 5 => retrainEnter s f
  | _ => s

/-- A code is decoded: it joins the last four, and is acted on once two of them hold it (R299). DRIFT prepares RECEIVE_DRIFT_ENTER (R320); a SETTLE
or uncorrectable frame (`kept`) leaves that as it is, so that a direction whose Drift a refresh interrupts returns to it (R311, R312). -/
def pctlTake (s : State) (f code : Nat) (kept : Bool) : State :=
  let h := (code :: (linkOf s f).hist).take 4
  let s := modLink s f fun l => { l with hist := h, driftSeen := (kept && l.driftSeen) || decide (2 ≤ h.count 1) }
  if 2 ≤ h.count code then pctlAct s f code else s

/-- A reserved code (R299). -/
def pctlReserved (c : Nat) : Bool := c == 6 || decide (7 < c)

/-! ### Frames (R300) -/

/-- Count one more frame received, and whether it was uncorrectable (R311). -/
def frameCount (s : State) (f : Nat) (bad : Bool) : State :=
  modLink s f fun l =>
    { l with frames := l.frames + 1, badAt := (if bad then [l.frames] else []) ++ l.badAt.filter fun n => decide (l.frames < n + 1024) }

/-- An uncorrectable frame (R300, R311, R329): both flits are lost to the link layer. -/
def frameLost (s : State) (f : Nat) : State :=
  let s := pctlTake (frameCount s f true) f 0 true
  let s := cfpEvent (bump s (F.CFP_FEC_UNCORR f)) f F.CFP_EVENT_UNCORR
  let s := if getF s (F.CFK_STATUS_LINK f) == 0 then s else flitDrop (flitDrop s f) f
  if 8 ≤ (linkOf s f).badAt.length then retrainEnter s f else s

/-- Count corrected symbols (R300). -/
def symbolsCount (s : State) (f : Nat) (lanes : List (Fin 8)) : State :=
  lanes.foldl (fun s l => bump s (F.CFP_LANE_SYM_ERR f l)) (bumpBy s (F.CFP_FEC_CORR f) lanes.length)

/-- A decoded frame (R299, R300). -/
def frameGood (s : State) (f code : Nat) (a b : List Byte) (lanes : List (Fin 8)) : State :=
  let s := symbolsCount (frameCount s f false) f lanes
  if code == 7 then pctlTake s f 7 true
  else
    let s := if pctlReserved code then pctlTake (bump s (F.CFP_FEC_UNCORR f)) f 0 false else pctlTake s f code false
    flitTake (flitTake s f a) f b

/-- A frame on the lanes as the port decodes it (R290 to R300): polarity and lane order as training found them, precoding and scrambling undone, the
symbols gathered, and up to ten of them corrected. -/
def frameOf (s : State) (f : Nat) (x : Frame) : Frame :=
  match x with
  | .lanes before levels =>
    let n := (linkOf s f).rxPos % markerPeriod
    let lane (l : Nat) : List Nat :=
      let p := getF s (F.CFP_LANE_PHYS f l)
      let turn (v : Fin 4) : Nat := if bitF s (F.CFP_LANE_POLARITY f l) then 3 - v.val else v.val
      let xs := ((levels[p]?).getD []).map turn
      laneReceived n l (if bitF s (F.CFP_STATUS_PRECODE_RX f) then unprecode (turn ((before[p]?).getD 0)) xs else xs)
    match rsDecode (gather 430 (symbolLane n 0) ((List.range 8).map lane)) with
    | none => .uncorrectable
    | some (cw, places) =>
      let (c, a, b) := messageFrame (cw.take 410)
      .decoded (Fin.ofNat 16 c) a b (places.map fun k => Fin.ofNat 8 (symbolLane n k))
  | x => x

/-- One more frame of the marker epoch has been received. -/
def framePlace (s : State) (f : Nat) : State := modLink s f fun l => { l with rxPos := l.rxPos + 1 }

/-- An uncorrectable frame in step 6 of training begins the run of good frames anew (R308). -/
def stepSixLost (s : State) (f : Nat) : State :=
  let s := cfpEvent (bump (framePlace s f) (F.CFP_FEC_UNCORR f)) f F.CFP_EVENT_UNCORR
  let s := if getF s (F.CFK_STATUS_LINK f) == 0 then s else flitDrop (flitDrop s f) f
  pctlTake (modLink s f fun l => { l with good := 0, fixed := 0 }) f 0 true

/-- A decoded frame in step 6 of training: it adds to the run, which begins anew once more symbols than SER_LIMIT have been corrected in it. A
link that has kept its state takes the flits (R300, R315). -/
def stepSixGood (s : State) (f code : Nat) (a b : List Byte) (lanes : List (Fin 8)) : State :=
  let s := symbolsCount (framePlace s f) f lanes
  let n := (linkOf s f).fixed + lanes.length
  let s := modLink s f fun l =>
    if getF s (F.CFP_TRAIN_SER_LIMIT f) < n then { l with good := 0, fixed := 0 } else { l with good := l.good + 1, fixed := n }
  let s := if pctlReserved code then pctlTake (bump s (F.CFP_FEC_UNCORR f)) f 0 false else pctlTake s f code (code == 7)
  if code == 7 then s else flitTake (flitTake s f a) f b

/-- CALFOS_FRAME_RECEIVE: an Active port whose receive direction is not in Drift takes a frame; so does one that checks its frames in step 6 of training. -/
def execCalfosFrameReceive (port : Fin 8) (frame : Frame) (s : State) : Host.Outcome State Fault Refusal :=
  .next <|
    if cfpState s port == cfpActive && !bitF s (F.CFP_STATUS_RX_DRIFT port) then
      match frameOf s port frame with
      | .decoded c a b lanes => frameGood (framePlace s port) port c a b lanes
      | .delimiters => retrainEnter s port
      | _ => frameLost (framePlace s port) port
    else if inTraining s port && (linkOf s port).step == 6 && bitF s (F.CFP_STATUS_ALIGNED port) then
      match frameOf s port frame with
      | .decoded c a b lanes => stepSixGood s port c a b lanes
      | .delimiters => s
      | _ => stepSixLost s port
    else s

end Sys2Proof.Machine
end

