-- ==== Sys2Proof/Machine/Registers.lean ====
section
/-!
DEFINITION. Register accesses (R11 to R15, R506 to R513): the write of any register by its fields' access types, the registers whose write does more, and
the read of a register word.
-/
namespace Sys2Proof.Machine

/-! ### A write and the fields it touches (R11 to R13) -/

/-- A write of a register word: which of its bits are written, and their values. -/
structure RegWr where
  mask : Nat
  val : Nat
  deriving DecidableEq, Repr

/-- The low and the high half of a word. -/
def lowHalf : Nat := 2 ^ 32 - 1
def highHalf : Nat := lowHalf * 2 ^ 32

/-- The write that an access of 8 bytes, or of 4 at an address, makes (R13). -/
def regWr (addr : Nat) (wide : Bool) (v : Nat) : RegWr :=
  if wide then { mask := lowHalf + highHalf, val := v }
  else if addr % 8 == 0 then { mask := lowHalf, val := v % 2 ^ 32 }
  else { mask := highHalf, val := v % 2 ^ 32 * 2 ^ 32 }

/-- A naturally aligned access of 8 or 4 bytes. -/
def aligned (addr : Nat) (wide : Bool) : Bool := addr % (if wide then 8 else 4) == 0

/-- The write touches a field. -/
def RegWr.touches (w : RegWr) (f : Fld) : Bool := bits w.mask f.lo f.w != 0

/-- The bits a write brings to a field; bits that are not written are 0. -/
def RegWr.brings (w : RegWr) (f : Fld) : Nat := bits w.val f.lo f.w

/-- The value of a field after a write: the bits that are not written keep theirs. -/
def merged (s : State) (w : RegWr) (f : Fld) : Nat :=
  Nat.lor (clrBits (getF s f) (bits w.mask f.lo f.w)) (w.brings f)

/-- The value is a reserved encoding of the field (R12). -/
def RegFld.reserved (g : RegFld) (v : Nat) : Bool :=
  match g.lim with
  | none => false
  | some (lo, hi) => decide (v < lo) || decide (hi < v)

/-- The effect of a write on one field by its access type (R11); a reserved encoding keeps the field's value (R12). -/
def fieldWrite (s : State) (w : RegWr) (g : RegFld) (f : Fld) : State :=
  if !w.touches f then s
  else match g.acc with
    | .rw | .rwl => if g.reserved (merged s w f) then s else setF s f (merged s w f)
    | .rws => setF s f (merged s w f)
    | .w1c => setF s f (clrBits (getF s f) (w.brings f))
    | .w1s => setF s f (Nat.lor (getF s f) (w.brings f))
    | _ => s

/-- A field of this write takes a reserved encoding. -/
def fieldBad (s : State) (w : RegWr) (g : RegFld) (f : Fld) : Bool :=
  w.touches f && (g.acc == .rw || g.acc == .rwl) && g.reserved (merged s w f)

/-- The fields of the register at an address, as the table has them and as cells; `bank` is what a banked copy's cells lie above its address. -/
def regCells (a bank : Nat) : List (RegFld × Fld) := (regFlds a).map fun g => (g, g.at (a + bank))

/-- Write the fields that `ok` admits. -/
def cellsWrite (s : State) (w : RegWr) (ok : Fld → Bool) (cs : List (RegFld × Fld)) : State :=
  cs.foldl (fun s x => if ok x.2 then fieldWrite s w x.1 x.2 else s) s

/-- A write of a staging register carries a reserved encoding (R12, R78, R105): the CONTROL word of GRF_STAGE, where the fields of an outbound entry
are reserved in an inbound one, and the words of TRL_STAGE. A PF_DEPTH other than 0 with PREFETCH 0 counts as one (DEDUCED, assumption 110). -/
def stagedReserved (s : State) (a bank : Nat) (w : RegWr) : Bool :=
  let v := merged s w ⟨a + bank, 0, 64, 0⟩
  let t (lo n : Nat) (bad : Bool) : Bool := bits w.mask lo n != 0 && bad
  if a / 0x100000 == 1 && a % 0x40000 == 0x10000 then
    !tb v 62 && (t 12 3 (decide (4 ≤ bits v 12 3)) || (t 12 4 (!tb v 15 && bits v 12 3 != 0)) || t 8 2 (decide (2 ≤ bits v 8 2)) ||
      t 5 3 (decide (5 ≤ bits v 5 3)))
  else if a == 0x70008 then t 60 4 (decide (6 ≤ bits v 60 4)) || t 56 2 (bits v 56 2 == 3)
  else if a == 0x70010 then t 18 2 (decide (2 ≤ bits v 18 2)) || t 16 2 (decide (2 ≤ bits v 16 2))
  else false

/-- A register write in device register space: each field that `ok` admits takes it, and a write that carries a reserved encoding, in a field or, by
`bad`, otherwise, is recorded once (R12, R549). -/
def plainWriteIf (s : State) (who : Party) (a bank : Nat) (w : RegWr) (ok : Fld → Bool) (bad : Bool) : State :=
  let cs := regCells a bank
  let bad := bad || stagedReserved s a bank w || cs.any fun x => fieldBad s w x.1 x.2
  let s := cellsWrite s w ok cs
  if bad then formatRecord s who a else s

/-- A register write with no reserved encoding but those of its fields. -/
def plainWrite (s : State) (who : Party) (a bank : Nat) (w : RegWr) (ok : Fld → Bool) : State := plainWriteIf s who a bank w ok false

/-- Every field. -/
def anyField : Fld → Bool := fun _ => true

/-- Every field but some. -/
def allBut (fs : List Fld) : Fld → Bool := fun f => !(fs.map fun x => x.key).contains f.key

/-- The state after a command has been run for what a register write asks; commands of this block always answer a next state. -/
def ran (o : Host.Outcome State Fault Refusal) (s : State) : State :=
  match o with
  | .next t => t
  | _ => s

/-- A command register's write carries a reserved encoding: it is recorded, also where BUSY has it ignored (R12, R549). -/
def cmdReserved (s : State) (who : Party) (a : Nat) : State := formatRecord s who a

/-! ### Quadrants -/

/-- PLT_CMD (R65, R66). -/
def pltCmdWrite (s : State) (q : Fin 4) (who : Party) (w : RegWr) (out : Outside) : State :=
  let i : Fin 1024 := Fin.ofNat 1024 (bits w.val 0 10)
  match bits w.val 28 4 with
  | 1 => ran (execPlotLoad q who i s) s
  | 2 => ran (execPlotCommit q who i out.table s) s
  | 3 => ran (execPlotResetCmd q who i s) s
  | 4 => ran (execPlotUnload q who i s) s
  | 5 => ran (execPlotWritebackCmd q who i s) s
  | op =>
    if bitF s (F.PLT_CMD_STATUS_BUSY q) then cmdReserved (setF s (F.PLT_CMD_STATUS_OVERRUN q) 1) who (A.PLT_CMD q)
    else
      let s := setF (setF s (F.PLT_CMD_STATUS_OP q) op) (F.PLT_CMD_STATUS_INDEX q) i
      cmdReserved (setF s (F.PLT_CMD_STATUS_RESULT q) 1) who (A.PLT_CMD q)

/-- GRF_WIN_CMD (R90, R101). -/
def winCmdWrite (s : State) (q : Nat) (who : Party) (w : RegWr) : State :=
  let b := isHost who
  let win := bits w.val 10 6
  let i := bits w.val 0 10
  let op := bits w.val 28 4
  if op == 1 || op == 2 then winCmd s q who (op == 2) win i
  else if bitF s (bankF b (F.GRF_WIN_STATUS_BUSY q)) then
    cmdReserved (raise (setF s (bankF b (F.GRF_WIN_STATUS_OVERRUN q)) 1) (1220 + q)) who (A.GRF_WIN_CMD q)
  else
    let s := setF (setF s (bankF b (F.GRF_WIN_STATUS_WINDOW q)) win) (bankF b (F.GRF_WIN_STATUS_INDEX q)) i
    cmdReserved (setF s (bankF b (F.GRF_WIN_STATUS_RESULT q)) 1) who (A.GRF_WIN_CMD q)

/-- LDG_RETRY: BACKOFF_MIN 0, or BACKOFF_MAX below it, leaves the register unchanged (R163). -/
def retryWrite (s : State) (q : Nat) (who : Party) (w : RegWr) : State :=
  let lo := merged s w (F.LDG_RETRY_BACKOFF_MIN q)
  if lo == 0 || decide (merged s w (F.LDG_RETRY_BACKOFF_MAX q) < lo) then formatRecord s who (A.LDG_RETRY q)
  else plainWrite s who (A.LDG_RETRY q) 0 w anyField

/-- HPT_CTRL (R286): the fields, then LINK_EN, then RETRAIN. -/
def hptCtrlWrite (s : State) (n : Nat) (who : Party) (w : RegWr) : State :=
  let s := plainWrite s who (A.HPT_CTRL n) 0 w (allBut [F.HPT_CTRL_LINK_EN n])
  let s := if w.touches (F.HPT_CTRL_LINK_EN n) then hostLinkEn s n (tb w.val 0) else s
  if tb w.val 2 then hostRetrain s n else s

/-- A register of quadrant q; `o` is its offset in the quadrant. -/
def quadWrite (s : State) (q : Fin 4) (o : Nat) (who : Party) (w : RegWr) (out : Outside) : State :=
  let a := 0x100000 + q.val * 0x40000 + o
  let low := w.mask % 2 ^ 32 != 0
  let bank := if isHost who then 0x40000000 else 0
  if o == 0 then hptCtrlWrite s q who w
  else if 0x10000 ≤ o && o ≤ 0x10038 || o == 0x10048 then plainWrite s who a bank w anyField
  else if o == 0x10040 then (if low then winCmdWrite s q who w else s)
  else if o == 0x10060 then
    (if low then ran (execPrefetchCtrlWrite q who (BitVec.ofNat 64 (w.val % 2 ^ 32)) s) s else s)
  else if 0x10100 ≤ o && o < 0x10180 then
    (if tb w.val 62 then ran (execDrainSlotFree q who (Fin.ofNat 16 ((o - 0x10100) / 8)) s) s else s)
  else if o == 0x18008 then retryWrite s q who w
  else if a == A.LDG_OCC q then
    let s := plainWrite s who a 0 w anyField
    highWater (highWater s (F.LDG_OCC_WR_HIGH q) (getF s (F.LDG_OCC_WR_USED q))) (F.LDG_OCC_RD_HIGH q) (getF s (F.LDG_OCC_RD_USED q))
  else if a == A.DMA_CTX q then
    let s := plainWrite s who a 0 w anyField
    highWater s (F.DMA_CTX_HIGH q) (getF s (F.DMA_CTX_USED q))
  else if a == A.DMA_BUF q then
    let s := plainWrite s who a 0 w anyField
    highWater s (F.DMA_BUF_HIGH q) (getF s (F.DMA_BUF_USED q))
  else if o == 0x30000 then
    tableBaseWrite s q who (merged s w (F.PLT_TABLE_BASE_BASE q) * 2 ^ 18 + merged s w (F.PLT_TABLE_BASE_AUTO q) * 4 +
      merged s w (F.PLT_TABLE_BASE_TARGET q) * 2 + merged s w (F.PLT_TABLE_BASE_VALID q)) low
  else if o == 0x30008 then (if portIdle s q then plainWrite s who a 0 w anyField else lockedIgnored s q)
  else if o == 0x30010 then (if low then pltCmdWrite s q who w out else s)
  else plainWrite s who a 0 w anyField

/-! ### Calfos ports -/

/-- A register of port f; `o` is its offset in the port. -/
def calfosWrite (s : State) (f o : Nat) (who : Party) (w : RegWr) : State :=
  let a := 0x200000 + f * 0x10000 + o
  let s := plainWrite s who a 0 w (allBut [F.CFP_CTRL_EN f])
  if o != 0 || w.mask % 2 ^ 32 == 0 then s
  else
    let s := portEnable s f who (tb w.val 0)
    if tb w.val 2 then portRetrain s f who else s

/-! ### The Event Gate, Hedge and Rootstock (R507) -/

/-- A register of EVG_; an EOI counts as made by the register's own core, and host writes are ignored (R426). -/
def evgWrite (s : State) (o : Nat) (who : Party) (w : RegWr) : State :=
  let m := BitVec.ofNat 64 w.val
  let word (base : Nat) : Fin 24 := Fin.ofNat 24 ((o - base) / 8)
  let inSet (base : Nat) : Bool := decide (base ≤ o) && decide (o < base + 192)
  if inSet 0x200 then ran (execEvgEnableSet who (word 0x200) m s) s
  else if inSet 0x300 then ran (execEvgEnableClr who (word 0x300) m s) s
  else if inSet 0x500 then ran (execEvgPendSet who (word 0x500) m s) s
  else if inSet 0x600 then ran (execEvgPendClr who (word 0x600) m s) s
  else if !evgOpen s who then s
  else if o == 0x980 then
    (if w.mask % 2 ^ 32 == 0 then s else ran (execEvgRouteWrite who (BitVec.ofNat 11 w.val) (Fin.ofNat 4 (bits w.val 16 2)) s) s)
  else if 0xA00 ≤ o && o < 0xA80 && o % 32 == 8 then
    (if w.mask % 2 ^ 32 == 0 then s
     else let c : Fin 4 := Fin.ofNat 4 ((o - 0xA00) / 32); ran (execEvgEoi c who c (BitVec.ofNat 11 w.val) s) s)
  else plainWrite s who (0x10000 + o) 0 w anyField

/-- A register of HDG_ (R399, R415): fields typed RW, WO or W1C alone. A GO of HDG_SPDM_CTRL is a command of its own (R402). -/
def hdgWrite (s : State) (o : Nat) (who : Party) (w : RegWr) : State :=
  if o == 0x08 then
    let v := merged s w F.HDG_WDOG_PERIOD
    if !w.touches F.HDG_WDOG_PERIOD then s
    else if v < getF s F.HDG_WDOG_MIN || getF s F.HDG_WDOG_MAX < v then formatRecord s who A.HDG_WDOG
    else setF s F.HDG_WDOG_PERIOD v
  else if o == 0x10 then (if w.touches F.HDG_KICK_TOKEN then wdogKick s who (w.brings F.HDG_KICK_TOKEN) else s)
  else plainWrite s who (0x20000 + o) 0 w anyField

/-- ROOT_CMD (R448, R449, R452). -/
def rootCmdWrite (s : State) (who : Party) (w : RegWr) : State :=
  match bits w.val 28 4 with
  | 1 => ran (execRootCommit who (Fin.ofNat 4 (bits w.val 24 2)) s) s
  | 2 => ran (execRootRevert who s) s
  | 3 => ran (execRootCheck who s) s
  | _ => cmdReserved (if bitF s F.ROOT_RESULT_BUSY then setF s F.ROOT_RESULT_OVERRUN 1 else s) who A.ROOT_CMD

/-- A register of ROOT_ (R431, R452): host writes are ignored and counted. -/
def rootWriteReg (s : State) (o : Nat) (who : Party) (wide : Bool) (w : RegWr) : State :=
  if isHost who then bump s F.ROOT_COUNT_HOST_IGNORED
  else if o == 0x10 then rootDataWrite s who (!wide) w.val
  else if o == 0x20 then (if w.mask % 2 ^ 32 == 0 then s else rootCmdWrite s who w)
  else if o == 0x08 then rootShow (plainWrite s who A.ROOT_ADDR 0 w anyField)
  else plainWrite s who (0x30000 + o) 0 w anyField

/-! ### Modes, resets, the chain, Trellis and test -/

/-- PWM_CMD (R458 to R460). -/
def pwmCmdWrite (s : State) (who : Party) (w : RegWr) : State :=
  match bits w.val 28 4 with
  | 1 => ran (execModeServe who s) s
  | 2 => ran (execModeDoze who s) s
  | 3 => ran (execModeDormant who s) s
  | _ => cmdReserved (if bitF s F.PWM_CMD_STATUS_BUSY then setF s F.PWM_CMD_STATUS_OVERRUN 1 else s) who A.PWM_CMD

/-- A write of PWM_AVS leaves MIN_CODE and MAX_CODE as they are (R12, R470): MIN_CODE above MAX_CODE as written, or as they would stand where a
code above 0x10 keeps its field (DEDUCED, assumption 111). -/
def avsKeeps (s : State) (w : RegWr) : Bool :=
  let lo := merged s w F.PWM_AVS_MIN_CODE
  let hi := merged s w F.PWM_AVS_MAX_CODE
  let lo' := if 16 < lo then getF s F.PWM_AVS_MIN_CODE else lo
  let hi' := if 16 < hi then getF s F.PWM_AVS_MAX_CODE else hi
  decide (hi < lo) || decide (hi' < lo')

/-- A register of PWM_ (R470). A MIN_CODE above MAX_CODE keeps both fields (R12); with EN 0 the device drives FIXED (R465); the clocks of a quadrant
that may not be gated run (R461). -/
def pwmWrite (s : State) (o : Nat) (who : Party) (w : RegWr) : State :=
  let low := w.mask % 2 ^ 32 != 0
  if o == 0x08 then (if low then pwmCmdWrite s who w else s)
  else if o == 0x20 then
    let s := if avsKeeps s w then plainWriteIf s who A.PWM_AVS 0 w (allBut [F.PWM_AVS_MIN_CODE, F.PWM_AVS_MAX_CODE])
          (w.touches F.PWM_AVS_MIN_CODE || w.touches F.PWM_AVS_MAX_CODE)
      else plainWrite s who A.PWM_AVS 0 w anyField
    if bitF s F.PWM_AVS_EN then s else setF s F.PWM_AVS_CODE (getF s F.PWM_AVS_FIXED)
  else if o == 0x18 then
    let s := plainWrite s who A.PWM_GATE 0 w anyField
    (List.range 4).foldl (fun s q => if bitOf (getF s F.PWM_GATE_Q_EN) q then s else quadRestart s q) s
  else if o == 0x28 then alertShow (plainWrite s who A.PWM_THERM 0 w anyField)
  else plainWrite s who (0x40000 + o) 0 w anyField

/-- A register of RST_ (R485 to R489); a reserved encoding sets RST_EVENT.FORMAT (R12). -/
def rstWrite (s : State) (o : Nat) (who : Party) (w : RegWr) : State :=
  if o == 0 then softSetAsk s who w.val
  else if o == 0x08 then softClr s who w.val
  else if o == 0x18 then
    if w.mask % 2 ^ 32 == 0 then s
    else if bits w.val 28 4 == 1 then deviceReset s who
    else cmdReserved (rstEvent s F.RST_EVENT_FORMAT) who A.RST_CMD
  else plainWrite s who (0x50000 + o) 0 w anyField

/-- The fields of CHN_CTRL whose scope is the chain (R373). -/
def chnLocked : List Fld := [F.CHN_CTRL_HEAD, F.CHN_CTRL_WEST_PORT, F.CHN_CTRL_EAST_PORT, F.CHN_CTRL_WEST_EN, F.CHN_CTRL_EAST_EN]

/-- The chain is stopped: no roll call in progress and both chain ports Off (R373). -/
def chainStopped (s : State) : Bool :=
  getF s F.CHN_STATUS_ROLL_STATE != rsRolling && cfpState s (westPort s) == cfpOff && cfpState s (eastPort s) == cfpOff

/-- A chain port above 7 keeps its field, and the other one written is the port kept (R12; DEDUCED, assumption 111). -/
def chnClash (s : State) (west east : Nat) : Bool :=
  (if 7 < west then westPort s else west) == (if 7 < east then eastPort s else east)

/-- CHN_CTRL (R74, R373): Locked fields keep their values while the chain runs, and a write that reaches one is noted; two equal ports, or a port above
7, are reserved. -/
def chnCtrlWrite (s : State) (who : Party) (w : RegWr) : State :=
  let run := !chainStopped s
  let west := merged s w F.CHN_CTRL_WEST_PORT
  let east := merged s w F.CHN_CTRL_EAST_PORT
  let late := run && chnLocked.any w.touches
  let bad := w.touches F.CHN_CTRL_WEST_PORT && (west == east || chnClash s west east)
  let keep := if run then chnLocked else if bad then [F.CHN_CTRL_WEST_PORT, F.CHN_CTRL_EAST_PORT] else []
  let s := plainWriteIf s who A.CHN_CTRL 0 w (allBut keep) bad
  if late then raise (setF s F.CHN_STATUS_LOCKED_IGNORED 1) 1252 else s

/-- A register of CHN_. -/
def chnWrite (s : State) (o : Nat) (who : Party) (w : RegWr) : State :=
  if o == 0 then chnCtrlWrite s who w
  else if o == 0x08 then
    if w.mask % 2 ^ 32 == 0 then s
    else match bits w.val 28 4 with
      | 1 => chainCmdRoll s who
      | 2 => chainSegReset s who
      | 3 => chainWakeSeg s who
      | _ => cmdReserved (if bitF s F.CHN_STATUS_BUSY then chnOverrun s else s) who A.CHN_CMD
  else plainWrite s who (0x60000 + o) 0 w anyField

/-- A register of TRL_ (R121 to R126). -/
def trlWriteReg (s : State) (o : Nat) (who : Party) (w : RegWr) : State :=
  let low := w.mask % 2 ^ 32 != 0
  let i : Fin 65536 := Fin.ofNat 65536 (bits w.val 0 16)
  if o == 0 then
    (if low then trlCtrl s who (w.val % 8) else s)
  else if o == 0x18 then
    if !low then s
    else match bits w.val 28 4 with
      | 1 => ran (execTrellisWrite who i s) s
      | 2 => ran (execTrellisFind who i s) s
      | 3 => ran (execTrellisInvalidate who i s) s
      | _ => cmdReserved (if bitF s F.TRL_STATUS_BUSY then trlOverrun s else trlResult (setF s F.TRL_STATUS_INDEX i) 1) who A.TRL_CMD
  else plainWrite s who (0x70000 + o) 0 w anyField

/-- A word of the Trellis table (R121). -/
def trlTableWrite (s : State) (o : Nat) (who : Party) (w : RegWr) : State :=
  let old := mget s.trl.table (2 * (o / 16) + o / 8 % 2) 0
  tableWordWrite s who (o / 16) (o / 8 % 2 == 1) (Nat.lor (clrBits old w.mask) w.val)

/-- TST_LANE_CTRL (R493, R505): PRECODE is reserved for host lanes; a checker that stops is not locked. -/
def laneCtrlWrite (s : State) (l : Nat) (who : Party) (w : RegWr) : State :=
  let bad := decide (l < 64) && tb w.val 10
  let off := !bitF s (F.TST_LANE_CTRL_GEN_EN l)
  let s := plainWriteIf s who (A.TST_LANE_CTRL l) 0 w (allBut (if bad then [F.TST_LANE_CTRL_PRECODE l] else [])) bad
  let s := if bitF s (F.TST_LANE_CTRL_CHK_EN l) then s else setF s (F.TST_LANE_ERR_LOCK l) 0
  if !off || !bitF s (F.TST_LANE_CTRL_GEN_EN l) then s
  else emit s (.pattern l (getF s (F.TST_LANE_CTRL_PAT l)) (bitF s (F.TST_LANE_CTRL_PRECODE l)))

/-- TST_MARGIN_CMD (R496, R505). -/
def marginWrite (s : State) (who : Party) (w : RegWr) : State :=
  match bits w.val 28 4 with
  | 1 => marginStart s who (bits w.val 24 3) (tb w.val 17) (bits w.val 18 2) (bits w.val 8 8) (bits w.val 0 6)
  | 2 => marginStop s who
  | _ => cmdReserved s who A.TST_MARGIN_CMD

/-- A register of TST_ (R505). -/
def tstWrite (s : State) (o : Nat) (who : Party) (w : RegWr) : State :=
  let low := w.mask % 2 ^ 32 != 0
  if o == 0x10 then (if low then marginWrite s who w else s)
  else if 0x40 ≤ o && o < 0xA0 then
    let p := (o - 0x40) / 8
    (if low then tstPort s who p (merged s w (F.TST_PORT_MODE p)) (merged s w (F.TST_PORT_RATE p)) else s)
  else if o == 0x100 then
    let s := plainWrite s who A.TST_GEN_CTRL 0 w (allBut [F.TST_GEN_CTRL_EN])
    (if low then genEnable s (tb w.val 0) else s)
  else if 0x1000 ≤ o && o < 0x2000 && o % 32 == 0 then laneCtrlWrite s ((o - 0x1000) / 32) who w
  else if 0x1000 ≤ o && o < 0x2000 && o % 32 == 8 then
    let l := (o - 0x1000) / 32
    laneInject s who l (merged s w (F.TST_LANE_INJ_MODE l)) (merged s w (F.TST_LANE_INJ_LENM1 l)) (merged s w (F.TST_LANE_INJ_EXP l)) (tb w.val 63)
  else plainWrite s who (0xA0000 + o) 0 w anyField

/-- A register of RAK_ (R191, R192): a BUDGET lowered below DEMAND sets OVERRUN. -/
def rakWrite (s : State) (o : Nat) (who : Party) (w : RegWr) : State :=
  let old := getF s F.RAK_CTRL_BUDGET
  let s := plainWrite s who (0x90000 + o) 0 w anyField
  let d := getF s F.RAK_STATUS_DEMAND
  if getF s F.RAK_CTRL_BUDGET < d && d ≤ old then setEv s F.RAK_EVENT_OVERRUN 1244 else s

/-- A register of PGA_ (R213). HIGH of PGA_OCC is never below USED. -/
def pgaWrite (s : State) (o : Nat) (who : Party) (w : RegWr) : State :=
  let s := plainWrite s who (0x80000 + o) 0 w anyField
  if 0x200 ≤ o && o < 0x2A0 then
    let i := (o - 0x200) / 8
    highWater s (F.PGA_OCC_HIGH i) (getF s (F.PGA_OCC_USED i))
  else s

/-! ### Device register space (R511) -/

/-- Write the bytes of an access to an addressed buffer. -/
def bufferWrite (s : State) (a : Nat) (wide : Bool) (v : Nat) : State := memWrite s a (leBytes (if wide then 8 else 4) v)

/-- The block at an address runs on a clock that Doze stops (R32): GLB_, Trellis, Pergola, the Rake, the test block, the quadrants and the Calfos ports. -/
def dozeStops (a : Nat) : Bool :=
  let n := a / 0x10000
  n == 0 || (decide (7 ≤ n) && decide (n ≤ 10)) || (decide (16 ≤ n) && decide (n < 40)) || a / 0x100000 == 4

/-- An access to a block whose clocks are stopped waits for them: the Gardener's wakes the device from Doze (R457), and a quadrant restarts (R461). -/
def blockAccess (s : State) (who : Party) (a : Nat) : State :=
  if pwmMode s == moDoze then (if !isHost who && dozeStops a then wake s 7 else s)
  else if a / 0x100000 == 1 then
    let q := a / 0x40000 % 4
    quadRestart (if !isHost who && !bitOf (getF s F.PWM_GATE_RUN) q then wake s 7 else s) q
  else s

/-- A write of the register at offset `off` (R12 to R15, R507, R510). One that nothing assigns is ignored. -/
def deviceWrite (s : State) (who : Party) (off : Nat) (wide : Bool) (v : Nat) (out : Outside) : State :=
  let a := off / 8 * 8
  let w := regWr off wide v
  let o := a % 0x10000
  if a / 0x100000 == 4 then trlTableWrite (if partyOpen s who then blockAccess s who a else s) (a % 0x100000) who w
  else if !regOpen s who a then s
  else if 0x21000 ≤ a && a < 0x22000 then (if bitF s F.HDG_SPDM_CTRL_BUSY then s else bufferWrite s (0x20000000 + off) wide v)
  else if (regFlds a).isEmpty && !(a == 0x50008 || (0x10300 ≤ a && a < 0x103C0) || (0x10600 ≤ a && a < 0x106C0)) then s
  else
  let s := blockAccess s who a
  match a / 0x10000 with
    | 1 => evgWrite s o who w
    | 2 => hdgWrite s o who w
    | 3 => rootWriteReg s o who wide w
    | 4 => pwmWrite s o who w
    | 5 => rstWrite s o who w
    | 6 => chnWrite s o who w
    | 7 => trlWriteReg s o who w
    | 8 => pgaWrite s o who w
    | 9 => rakWrite s o who w
    | 10 => tstWrite s o who w
    | n =>
      if 16 ≤ n && n < 32 then quadWrite s (Fin.ofNat 4 ((n - 16) / 4)) (a % 0x40000) who w out
      else if 32 ≤ n && n < 40 then calfosWrite s (n - 32) o who w
      else plainWrite s who a 0 w anyField

/-! ### The Gardener's private space (R375, R513) -/

/-- An address of the private space that is memory: its base and length. -/
def privateBuffers : List (Nat × Nat) :=
  [(0x10000000, 0x400000), (xspData, 256), (i3cTx, 256), (doeBuf 0, 4096), (doeBuf 1, 4096), (doeBuf 2, 4096), (doeBuf 3, 4096)]

/-- GDN_ and MBX_ take 8-byte accesses alone (R375). -/
def wideOnly (a : Nat) : Bool := decide (0x30000000 ≤ a) && decide (a < 0x30020000)

/-- A plain write of a private register: a reserved encoding keeps its field and is recorded nowhere (R12). -/
def privatePlain (s : State) (a : Nat) (w : RegWr) : State := cellsWrite s w anyField (regCells a 0)

/-- A register of GDN_ or MBX_ whose write does more. -/
def gdnWrite (s : State) (a : Nat) (w : RegWr) : State :=
  let o := a - 0x30000000
  if o == 0 then (if tb w.val 7 then bootConfirm s else s)
  else if 0x800 ≤ o && o < 0x8C0 then tndConfig s ((o - 0x800) / 8) w.val
  else if 0x11000 ≤ o && o < 0x19000 then
    let p := (o - 0x11000) / 8
    setMbxPend s p (clrBits (getF s (F.MBX_PEND_SLOT p)) (w.brings (F.MBX_PEND_SLOT p)))
  else if o == 0x1A000 then mbxReturn s (bits w.val 16 12) (maskBits (bits w.val 0 16))
  else if o == 0x1B020 then mqRespond s w.val
  else privatePlain s a w

/-- A register of the XSP_, I3C_ or DOE_ engines (R398). -/
def engineWrite (s : State) (a : Nat) (w : RegWr) : State :=
  let low := w.mask % 2 ^ 32 != 0
  if a == 0x30020000 then (if low then xspiCommand s w.val else s)
  else if a == 0x30030008 then
    (if low && bits w.val 0 9 == 0 then setF (setF s F.I3C_RX_LEN_LEN 0) F.I3C_STATUS_RX_READY 0 else s)
  else if a == 0x30030010 then (if low then i3cTransmit s (bits w.val 0 9) else s)
  else if 0x30040000 ≤ a && a % 0x2000 == 8 then doeResponse s ((a - 0x30040000) / 0x2000) w.val
  else privatePlain s a w

/-- A write of the Gardener at an address of its private space; one that the space does not allow ends with a bus error to the core. -/
def privateWrite (s : State) (addr : Nat) (wide : Bool) (v : Nat) (out : Outside) : State :=
  let a := addr / 8 * 8
  let w := regWr addr wide v
  if addr / 0x1000000 == 0x20 then deviceWrite s .gardener (addr % 0x1000000) wide v out
  else if privateBuffers.any fun b => decide (b.1 ≤ addr) && decide (addr < b.1 + b.2) then bufferWrite s addr wide v
  else if addr / 0x1000000 == 0x40 then
    mbxAccess s (addr % 0x1000000 / 4096) true (addr % 4096) (leBytes (if wide then 8 else 4) v)
  else if (regFlds a).isEmpty || (wideOnly a && !wide) then s
  else if a < 0x30020000 then gdnWrite s a w
  else engineWrite s a w

/-! ### Plot pages (R51, R512) -/

/-- A doorbell (R219): an 8-byte write alone. -/
def doorbellWrite (s : State) (p : Fin 4096) (c : Fin 256) (wide : Bool) (v : Nat) : State :=
  if !wide then dbIgnored s p
  else match bits v 0 4 with
    | 1 => ran (execDmaStart p c (BitVec.ofNat 58 (bits v 6 58)) s) s
    | 2 => ran (execDmaKick p c s) s
    | 3 => ran (execDmaAbort p c s) s
    | 4 => ran (execDmaResume p c s) s
    | _ => dbIgnored s p

/-- PP_RAKE_CMD (R185, R186). -/
def rakeCmdWrite (s : State) (p : Fin 4096) (v : Nat) : State :=
  let i : Fin 64 := Fin.ofNat 64 (bits v 0 6)
  match bits v 28 4 with
  | 1 => ran (execRakeArm p i s) s
  | 2 => ran (execRakeDisarm p i s) s
  | 3 => ran (execRakeDisarmAll p i s) s
  | _ => rakeCmd s p i fun s => rakeEnd s p i 3

/-- A write of the word at offset `o` of a plot page that is not ignored. -/
def pageWord (s : State) (p : Fin 4096) (o : Nat) (wide : Bool) (w : RegWr) : State :=
  let a := 0x100000000 + p.val * 0x10000 + o
  let low := w.mask % 2 ^ 32 != 0
  if o == 0x30 then (if tb w.val 0 then pageCommit s p else s)
  else if o == 0x400 then clearLatches s p (w.brings (F.PP_WFL_LATCH p))
  else if o == 0x418 then (if indexOf p == 0 then intxClear s (quadrantOf p) w.val else s)
  else if o == 0x488 then mbxDoorbell s p (maskBits (bits w.val 0 16))
  else if o == 0x490 then
    (if low then modPlot (setF s (F.PP_MBX_DONE_SLOT p) (clrBits (getF s (F.PP_MBX_DONE_SLOT p)) (bits w.val 0 16))) p
      fun x => { x with mbxSent := false } else s)
  else if 0x2000 ≤ o && o < 0x2800 then doorbellWrite s p (Fin.ofNat 256 ((o - 0x2000) / 8)) wide w.val
  else if 0x3000 ≤ o && o < 0x3080 then
    (if low then ran (execCqHeadWrite p (Fin.ofNat 16 ((o - 0x3000) / 8)) (BitVec.ofNat 64 w.val) s) s else s)
  else if o == 0x3808 then (if low then ran (execFaultConsWrite p (BitVec.ofNat 64 w.val) s) s else s)
  else if o == 0x3C00 then (if low then rakeCmdWrite s p w.val else s)
  else cellsWrite s w anyField (regCells a 0)

/-- The words of an MSI-X table entry. -/
def msixWord (s : State) (p v word : Nat) : Nat :=
  let e := msixOf s p v
  if v == 0 && vectorCount s p == 0 then (if word == 0 then 0 else 2 ^ 32)
  else if vectorCount s p ≤ v then 0
  else if word == 0 then e.addr else e.data + bt e.mask 32

/-- A host write to a plot page (R13, R51, R388, R512). -/
def pageWrite (s : State) (p : Fin 4096) (off : Nat) (wide : Bool) (v : Nat) : State :=
  let o := off / 8 * 8
  let w := regWr off wide v
  if 0x8000 ≤ o then
    let k := (o - 0x8000) / 16
    let word := o / 8 % 2
    entryWrite s p k word (Nat.lor (clrBits (msixWord s p k word) w.mask) w.val)
  else if pageDead s p then s
  else if 0x1000 ≤ o && o < 0x2000 then mbxAccess s p false (off - 0x1000) (leBytes (if wide then 8 else 4) v)
  else pageWord s p o wide w

/-! ### Reads (R11, R51, R509, R510) -/

/-- The word of a register while its block is held: reset values (R510). -/
def resetWord (a : Nat) : Nat := ((regFlds a).map fun f => if f.acc == .wo then 0 else f.rst * 2 ^ f.lo).sum

/-- The word of a register of a bank. -/
def bankWord (s : State) (a bank : Nat) : Nat :=
  ((regCells a bank).map fun x => if x.1.acc == .wo then 0 else getF s x.2 * 2 ^ x.2.lo).sum

/-- A host read of a word of device register space: the value, and the state after it. Of the reads that have effects, a host makes none (R509). -/
def deviceWord (s : State) (who : Party) (a : Nat) : Nat :=
  let q := a % 0x40000
  if a / 0x100000 == 4 then mget s.trl.table (2 * (a % 0x100000 / 16) + a / 8 % 2) 0
  else if blockHeld s a then resetWord a
  else if 0x21000 ≤ a && a < 0x22000 then leNat (memRead s (0x20000000 + a) 8)
  else if 0x20040 ≤ a && a < 0x20050 then hedgeData s ((a - 0x20040) / 8)
  else if 0x10300 ≤ a && a < 0x103C0 then regWord s (a - 0x100)
  else if 0x10600 ≤ a && a < 0x106C0 then regWord s (a - 0x100)
  else if 0x10A00 ≤ a && a < 0x10A80 && a % 32 == 0 then 0
  else if 0x10A00 ≤ a && a < 0x10A80 && a % 32 == 16 then
    regWord s a + bt (evgMeip s ((a - 0x10A00) / 32)) 14
  else if a == 0x50008 then regWord s 0x50000
  else if isHost who && 0x100000 ≤ a && a < 0x200000 && (0x10000 ≤ q && q ≤ 0x10038 || q == 0x10048) then bankWord s a 0x40000000
  else regWord s a

/-- The committed view of an RWS register of a plot page: its place in the PlotEntry (R51). -/
def viewOff (o : Nat) : Option Nat :=
  if o == 0x218 then some 0x60 else if o == 0x220 then some 0x68 else if o == 0x228 then some 0x78
  else if 0x280 ≤ o && o < 0x300 then some (0x80 + (o - 0x280)) else none

/-- A register of a plot page that is staged. -/
def stagedAt (o : Nat) : Bool := ((regFlds (0x100000000 + o)).any fun f => f.acc == .rws)

/-- Word w of the PBA (R263, R271). -/
def pbaWord (s : State) (p w : Nat) : Nat := ((pendingVectors s p).filter fun v => v / 64 == w).foldl (fun n v => setBit n (v % 64)) 0

/-- A host read of a word of a plot page. -/
def pageWordRead (s : State) (p o : Nat) : Nat :=
  if 0x8000 ≤ o then msixWord s p ((o - 0x8000) / 16) (o / 8 % 2)
  else if 0x7F00 ≤ o then pbaWord s p ((o - 0x7F00) / 8)
  else if 0x1000 ≤ o && o < 0x2000 then leNat (mbxRead s p false (o - 0x1000) 8)
  else if o == 0 then ppIdWord p
  else if o == 8 then wordOf s (plotStatusFields p) 0
  else if o == 0x10 then wordOf s (plotStatusFields p) 8
  else if o == 0x3800 then wordOf s (plotPtrFields p) 0x70
  else if pageDead s p && stagedAt o then 0
  else match viewOff o with
    | some e => wordOf s (plotSetFields p) e
    | none => regWord s (0x100000000 + p * 0x10000 + o)

/-! ### Commands -/

/-- An access that is not a naturally aligned 4-byte or 8-byte access (R14, R375): Completer Abort for a host, a bus error for the Gardener. -/
def unaligned (s : State) (who : Party) (tag : Nat) (reqId : Nat) (core : Nat) : State :=
  match who with
  | .gardener => emit s (.bus core none)
  | .host n => completeAbort s (n * 1024) { kind := .read, bar4 := false, off := 0, len := 0, tag := tag, reqId := reqId }

/-- REGISTER_WRITE. -/
def execRegisterWrite (who : Party) (addr : RegAddr) (wide : Bool) (value : Word) (outside : Outside) (s : State) :
    Host.Outcome State Fault Refusal :=
  .next <| match addr with
  | .device off => if aligned off.toNat wide then deviceWrite s who off.toNat wide value.toNat outside else s
  | .gardener a => if !isHost who && aligned a.toNat wide then privateWrite s a.toNat wide value.toNat outside else s
  | .page p off => if funcMemory s p && aligned off.toNat wide then pageWrite s p off.toNat wide value.toNat else s

/-- UNALIGNED_REGISTER_ACCESS (R14): a read by the Gardener's core, or by a host of the register page of its PF0 or of a plot page. -/
def execUnalignedRegisterAccess (who : Party) (core : Fin 4) (tag : Nat) (reqId : BitVec 16) (s : State) : Host.Outcome State Fault Refusal :=
  .next (unaligned s who tag reqId.toNat core)

/-- STOPPED_BLOCK_REGISTER_READ (R457, R461, R509): the quadrant's clocks restart; a Gardener's read in Doze wakes the device. -/
def execStoppedBlockRegisterRead (who : Party) (quadrant : Fin 4) (s : State) : Host.Outcome State Fault Refusal :=
  .next <|
    blockAccess s who (A.HPT_CTRL quadrant)

end Sys2Proof.Machine
end

