-- ==== Sys2Proof/Machine/HostTlp.lean ====
section
/-!
DEFINITION. TLPs at a host port: what the host sends (R268, R269, R119), what the port transmits (R274, R407), and the completions of the
device's own requests (R157, R178, R232, R276, R280).
-/
namespace Sys2Proof.Machine

/-- A port can exchange TLPs: its link is in L0, or in L1, which it leaves for them (R258). -/
def linkActive (s : State) (n : Nat) : Bool :=
  hostUp s n && (getF s (F.HPT_LINK_LTSSM n) == 3 || getF s (F.HPT_LINK_LTSSM n) == 6)

/-- The link is in L0 for a TLP, and the quadrant has work (R258, R461). In Doze the link's exit from L1 is a wake, and no TLP is taken until the device
has left it (R32, R457; DESIGN CHOICE, assumption 123). -/
def linkWork (s : State) (n : Nat) : State :=
  quadRestart (modPort (setF s (F.HPT_LINK_LTSSM n) 3) n fun h => { h with l1 := false }) n

/-- A link in L1 leaves it in Doze, which wakes the device (R457). -/
def dozeExit (s : State) (n : Nat) : State :=
  if (portOf s n).l1 then wake (modPort (setF s (F.HPT_LINK_LTSSM n) 3) n fun h => { h with l1 := false }) 4 else s

/-! ### Receive credits (R194, R211) -/

/-- Data credits of 16 B that a payload takes. -/
def dataCredits (n : Nat) : Nat := (n + 15) / 16

/-- The payloads of the posted requests in a port's receive buffer: writes that wait for their plot queue, and Messages that wait for Pergola. -/
def postedHeld (s : State) (n : Nat) : List Nat :=
  (((quadOf s n).held.filter fun x => x.2.kind == .write).map fun x => x.2.data.length) ++
    s.pga.waiting.filterMap fun w => match w.t.txn with
      | .req r => if w.t.ingress == n && r.op == .message then some r.data.length else none
      | .resp _ => none

/-- The payloads of the non-posted requests there. -/
def nonPostedHeld (s : State) (n : Nat) : List Nat :=
  ((quadOf s n).held.filter fun x => x.2.kind != .write).map fun x => x.2.data.length

/-- A TLP is posted. -/
def tlpPosted (k : TlpKind) : Bool := k == .memWrite || k == .vendorMsg || k == .slotPower || k == .pmMsg || k == .otherMsg

/-- The receiver has the credits that a TLP takes: 384 headers and 6,144 data credits posted, 128 and 128 non-posted (R194). -/
def tlpCredit (s : State) (n : Nat) (t : Tlp) : Bool :=
  let fits (xs : List Nat) (hdrs data : Nat) : Bool :=
    decide (xs.length < hdrs) && decide ((xs.map dataCredits).sum + dataCredits t.data.length ≤ data)
  if tlpPosted t.kind then fits (postedHeld s n) 384 6144 else fits (nonPostedHeld s n) 128 128

/-! ### Requests from the host (R269) -/

/-- The port takes a TLP as malformed: so marked, or an AtomicOp of a bad operand size, payload or alignment (R168, R269). -/
def tlpMalformed (t : Tlp) : Bool :=
  t.kind == .malformed || t.kind == .atomic &&
    (!(t.len == 4 || t.len == 8 || (t.atop == 3 && t.len == 16)) || !(t.atop == 1 || t.atop == 2 || t.atop == 3) ||
      t.data.length != (if t.atop == 3 then 2 * t.len else t.len) || t.off % t.len != 0)

/-- The request of a TLP as the plot's host path holds it; a read of no bytes is the zero-length read of R146. -/
def tlpReq (s : State) (t : Tlp) : OutReq :=
  { kind := if t.kind == .memWrite then .write else if t.kind == .atomic then .atomic else .read,
    bar4 := t.bar == 4, off := t.off, len := t.len, data := t.data, tag := t.tag, reqId := t.reqId, atop := t.atop,
    zero := t.kind == .memRead && t.len == 0, poisoned := t.poisoned, received := s.now }

/-- The size of the BAR a TLP addresses (R261, R267); 0 for one that is not implemented. -/
def tlpBar (s : State) (p bar : Nat) : Nat :=
  match bar with
  | 0 => if indexOf p == 0 && (portOf s (quadrantOf p)).bar0Big then 0x2000000 else 0x10000
  | 2 => barSize s p false
  | 4 => barSize s p true
  | _ => 0

/-- A TLP that asks for memory. -/
def isMemory (k : TlpKind) : Bool := k == .memRead || k == .memWrite || k == .atomic || k == .lockedRead

/-- Answer a host read of BAR0. -/
def readDone0 (s : State) (p : Nat) (r : OutReq) (word : Nat) : State :=
  completeData s p r (((leBytes 8 word).drop (r.off % 8)).take r.len) false

/-- A host access of BAR0 that R13 admits, of a function's plot page (R51). -/
def pageAccess (s : State) (p : Fin 4096) (r : OutReq) : State :=
  if r.kind == .write then pageWrite s p r.off (r.len == 8) (leNat r.data) else readDone0 s p r (pageWordRead s p (r.off / 8 * 8))

/-- A host access of the register page (R15, R268): `off` is the offset in device register space. A read of ROOT_DATA reads the cell (R435). -/
def registerPage (s : State) (n : Fin 4) (r : OutReq) (off : Nat) (out : Outside) : State :=
  let p := n.val * 1024
  let a := off / 8 * 8
  if !pageOpen s n then completeAbort s p r
  else if r.kind == .write then deviceWrite s (.host n) off (r.len == 8) (leNat r.data) out
  else
    let s := if a == A.ROOT_DATA then rootShow (rootReadEnd s (getF s F.ROOT_ADDR_INDEX) out.root) else s
    readDone0 s p r (deviceWord s (.host n) a)

/-- A memory request to BAR0 (R268, R169, R170). Poisoned write data is discarded (assumption 21). -/
def bar0Access (s : State) (n : Fin 4) (p : Fin 4096) (t : Tlp) (out : Outside) : State :=
  let r := tlpReq s t
  if t.kind == .atomic || t.kind == .lockedRead then completeUr s p r
  else if !((t.len == 4 || t.len == 8) && aligned t.off (t.len == 8)) then completeAbort s p r
  else if t.kind == .memWrite && t.poisoned then s
  else if t.off < 0x10000 then pageAccess s p r
  else if t.off < 0x1000000 then (if r.kind == .write then s else readDone0 s p r 0)
  else registerPage s n r (t.off - 0x1000000) out

/-- A memory request to BAR2 or BAR4 (R55, R169, R170): the plot's state first, then CAPS.ATOMIC_EN, then the plot queue (R58). -/
def barAccess (s : State) (p : Fin 4096) (t : Tlp) : State :=
  let r := tlpReq s t
  if t.kind == .lockedRead then completeUr s p r
  else match stateOutcome (plotState s p) with
    | .abort counted => refuseAbort s p r counted
    | .wait => plotArrive s p r
    | .pass =>
      if t.kind == .atomic && !bitF s (F.PE_CAPS_ATOMIC_EN p) then completeUr s p r else plotArrive s p r

/-- A memory request (R269): Memory Space Enable and the power state, then the BAR. -/
def memoryTlp (s : State) (n : Fin 4) (p : Fin 4096) (t : Tlp) (out : Outside) : State :=
  let s := if t.kind == .memWrite && t.poisoned then aerLog s p .poisonedTlp else s
  if !funcMemory s p || decide (tlpBar s p t.bar < t.off + max t.len 1) then completeUr s p (tlpReq s t)
  else if t.bar == 0 then bar0Access s n p t out
  else barAccess s p t

/-- A vendor-defined message is discarded (R119, R276). -/
def messageDropped (s : State) (p : Nat) (t : Tlp) : State :=
  let s := bump s F.TRL_MISS_MSG
  if t.type0 then completeUr s p { tlpReq s t with kind := .write } else s

/-- The Calfos Message of a vendor-defined message of plot p (R119, R341); `vdh` holds the first header byte in its low bits. -/
def messageOf (s : State) (p : Nat) (t : Tlp) (e : Nat) : FabReq :=
  { op := .message, dest := resId e, src := myNode s (1 + quadrantOf p), tenant := tenantOf s p, tag := 0, addr := 0, len := t.data.length,
    data := t.data, mgmt := resClass e == 1, code := resAux e, vdh := t.vdh }

/-- A vendor-defined message of the host, routed by ID to function p (R119). -/
def messageOut (s : State) (p : Nat) (t : Tlp) : State :=
  match (if funcEnabled s p then trellisLookup s 4 (p * 2 ^ 24 + t.vendor * 2 ^ 8 + t.vdh % 256) else none) with
  | none => messageDropped s p t
  | some i =>
    if plotState s p != psServing || decide (128 < t.data.length) then messageDropped s p t
    else
      let r := messageOf s p t (entryResult s i)
      let (s, rt) := routeOf s r.dest r.src (some p)
      match rt with
      | .fail _ => s
      | rt => pgaPush (tagFix s p) rt.pga (if r.mgmt then 4 else 0) (.host p) { ingress := quadrantOf p, txn := .req r, plot := p }

/-- A power-management message: PME_Turn_Off is answered by PME_TO_Ack, after which the link goes to L2; the device sends no PME (R269, R278). -/
def pmReceive (s : State) (n : Nat) (t : Tlp) : State :=
  if t.msg == 0x19 then pushTlp s n { kind := .pmeToAck, plot := n * 1024, reqId := ridOf s (n * 1024) } else s

/-- The rows of R269. -/
def tlpReceive (s : State) (n : Fin 4) (p : Fin 4096) (t : Tlp) (out : Outside) : State :=
  if tlpMalformed t then aerLog s (n.val * 1024) .malformed
  else if isMemory t.kind then memoryTlp s n p t out
  else match t.kind with
    | .ioRequest | .cfgType1 => completeUr s p (tlpReq s t)
    | .deferrableWrite => completeUr s p { tlpReq s t with kind := .read }
    | .vendorMsg => messageOut s p t
    | .slotPower => modPort s n fun h => { h with slotPower := leNat t.data % 1024 }
    | .pmMsg => pmReceive s n t
    | _ => s

/-- What a port takes from its link: a link error is logged (R276), a TLP beyond the receiver's credits is a Receiver Overflow and is discarded
(R194, R276), any other is decided by R269. -/
def linkReceive (s : State) (n : Fin 4) (p : Fin 4096) (t : Tlp) (out : Outside) : State :=
  match t.kind with
  | .linkError e => aerLog s (n.val * 1024) (.link e)
  | _ => if tlpCredit s n t then tlpReceive s n p t out else aerLog s (n.val * 1024) .receiverOverflow

/-- HOST_TLP_RECEIVE. -/
def execHostTlpReceive (port : Fin 4) (tlp : Tlp) (outside : Outside) (s : State) : Host.Outcome State Fault Refusal :=
  .next <| match tlp.kind with
  | .loopback on => if heldQ s port 0 then s else hostLoopback s port on
  | _ =>
    if !linkActive s port || heldQ s port 0 then s
    else if !coreRuns s then dozeExit s port
    else linkReceive (linkWork s port) port (Fin.ofNat 4096 (port.val * 1024 + tlp.index.val)) tlp outside

/-! ### Completions of the device's requests (R157, R178, R232, R276) -/

/-- The place of a part's outcome in R157: the lowest of the parts decides. -/
def failRank : Option HostFail → Nat
  | some .unsupported => 1
  | some .abort => 2
  | some .timeout => 3
  | some .poisoned => 4
  | none => 6

/-- The Calfos status of a rank (R157, R178). -/
def rankStatus (k : Nat) : Nat := if k == 1 then 2 else if k == 2 || k == 3 then 3 else if k == 4 then 6 else 0

/-- A part of an inbound read, or an inbound AtomicOp, has its outcome. -/
def inPart (s : State) (q id part : Nat) (fail : Option HostFail) (data : List Byte) : State :=
  match mfind (quadOf s q).inbound id with
  | none => s
  | some x =>
    let x := { x with parts := x.parts - 1, worst := min x.worst (failRank fail), data := mput x.data part data }
    if x.parts == 0 then inFinish s q id x (rankStatus x.worst) (x.data.flatMap fun d => d.2)
    else modQuad s q fun u => { u with inbound := mput u.inbound id x }

/-- The outcome of a DMA cluster's host read crosses Pergola from the host path to the cluster (R21). -/
def legAnswer (s : State) (q p : Nat) (leg : HostLeg) (data : List Byte) : State :=
  pgaPush s (12 + q) 2 (.dma p)
    { ingress := q, plot := p, host := some leg, txn := .resp { dest := 0, src := 0, tenant := 0, tag := 0, status := 0, data := data } }

/-- A host request of the device has its outcome: its tag is free, and the block that issued it takes the outcome, unless nobody waits
for it any more (R69, R277). -/
def hostDone (s : State) (n tag : Nat) (t : HostTag) (fail : Option HostFail) (data : List Byte) : State :=
  let s := modPort s n fun h => { h with outTags := mdel h.outTags tag }
  if t.dead || t.orphan then s
  else match t.use with
    | .inbound id part => inPart s n id part fail data
    | .dma p c b part =>
      legAnswer s n p (.answer { plot := p, chan := c, burst := b, part := part } (fail.map HostFail.code) t.off data) data

/-- The request that holds a tag has not been transmitted yet. -/
def tagUnsent (s : State) (n tag : Nat) : Bool :=
  (portOf s n).txq.any fun t => (t.kind == .memRead || t.kind == .atomic) && t.tag == tag

/-- An outstanding request of the device: it has been transmitted and holds its tag. -/
def outstanding (s : State) (n tag : Nat) : Option HostTag := if tagUnsent s n tag then none else mfind (portOf s n).outTags tag

/-- A Completion with data: the request ends with its last byte. -/
def dataArrives (s : State) (n tag : Nat) (t : HostTag) (poisoned : Bool) (data : List Byte) : State :=
  let t := { t with data := t.data ++ data, poisoned := t.poisoned || poisoned }
  let s := if poisoned then aerLog s t.plot .poisonedTlp else s
  if t.data.length < t.len then modPort s n fun h => { h with outTags := mput h.outTags tag t }
  else hostDone s n tag t (if t.poisoned then some .poisoned else none) (t.data.take t.len)

/-- HOST_COMPLETION_ARRIVAL. -/
def execHostCompletionArrival (port : Fin 4) (tag : Nat) (status : CplStatus) (poisoned : Bool) (data : List Byte) (s : State) :
    Host.Outcome State Fault Refusal :=
  .next <|
    if !linkActive s port then s
    else if !coreRuns s then dozeExit s port
    else
      let s := linkWork s port
      match outstanding s port tag with
      | none => aerLogAs s (port.val * 1024) .unexpectedCompletion true
      | some t => match status with
        | .sc => dataArrives s port tag t poisoned data
        | .ur => hostDone s port tag t (some .unsupported) []
        | .ca => hostDone s port tag t (some .abort) []

/-- HOST_COMPLETION_TIMEOUT (R280). -/
def execHostCompletionTimeout (port : Fin 4) (tag : Nat) (s : State) : Host.Outcome State Fault Refusal :=
  .next <| match outstanding s port tag with
  | none => s
  | some t => hostDone (aerLog s t.plot .completionTimeout) port tag t (some .timeout) []

/-! ### Transmission (R274, R407) -/

/-- A TLP is a request, not a completion. -/
def isRequest (t : TlpOut) : Bool :=
  t.kind != .completion && t.kind != .completionData && t.kind != .config && t.kind != .configRetry

/-- The TLPs that serve an inbound Write no longer do. -/
def inbForget (s : State) (n id : Nat) : State :=
  modPort s n fun h => { h with txq := h.txq.map fun t => if t.inb == some id then { t with inb := none } else t }

/-- What a TLP that R407 holds back asked for, as its FaultRecord names it: the window, or the channel. -/
def tlpOrigin (s : State) (n : Nat) (t : TlpOut) : Option Nat × Option Nat :=
  let win (id : Nat) : Option Nat := (mfind (quadOf s n).inbound id).map fun x => x.win
  match t.inb, t.dma with
  | some id, _ => (win id, none)
  | none, some r => (none, some r.chan)
  | none, none =>
    if t.kind == .memRead || t.kind == .atomic then
      match mfind (portOf s n).outTags t.tag with
      | some { use := .inbound id _, .. } => (win id, none)
      | some { use := .dma _ c _ _, .. } => (none, some c)
      | none => (none, none)
    else (none, none)

/-- Its requester takes the outcome of a Completer Abort (R407). -/
def tlpAborted (s : State) (n : Nat) (t : TlpOut) : State :=
  match t.inb, t.dma with
  | some id, _ =>
    match mfind (quadOf s n).inbound id with
    | none => s
    | some x => inFinish (inbForget s n id) n id x 3 []
  | none, some r => chanAnswer s r true (some 0x21) 0 []
  | none, none =>
    if t.kind == .memRead || t.kind == .atomic then
      match mfind (portOf s n).outTags t.tag with
      | none => s
      | some x => hostDone s n t.tag x (some .abort) []
    else s

/-- A TLP whose Requester ID is not its plot's is not transmitted (R407). -/
def tlpHeldBack (s : State) (n : Nat) (t : TlpOut) : State :=
  let (win, chan) := tlpOrigin s n t
  let rec_ := hedgeRecord s 2 t.addr t.len none win chan
  setEv (faultCreate (tlpAborted s n t) t.plot rec_) F.HDG_EVENT_RID 1272

/-- A TLP is on the link: an inbound Write counts it, a DMA write is done with it (R156, R232), and after PME_TO_Ack the link goes to L2. -/
def tlpPlaced (s : State) (n : Nat) (t : TlpOut) : State :=
  let s := if t.poisoned then bump s (F.HPT_COUNT_POISON_TX n) else s
  let s := emit s (.tlp n t)
  let s := if t.kind == .pmeToAck then setF s (F.HPT_LINK_LTSSM n) 7 else s
  match t.inb, t.dma with
  | some id, _ => modQuad s n fun u => { u with
      inbound := match mfind u.inbound id with
        | none => u.inbound
        | some x => mput u.inbound id { x with toPlace := x.toPlace - 1 } }
  | none, some r => chanAnswer s r true none 0 []
  | none, none => s

/-- HOST_TLP_TRANSMIT: the first TLP of the port's transmit order. -/
def execHostTlpTransmit (port : Fin 4) (s : State) : Host.Outcome State Fault Refusal :=
  .next <|
    if !linkActive s port || !coreRuns s then s
    else match (portOf s port).txq with
      | [] => s
      | t :: ts =>
        let s := modPort (linkWork s port) port fun h => { h with txq := ts }
        if isRequest t && t.reqId != ridOf s t.plot then tlpHeldBack s port t else tlpPlaced s port t

end Sys2Proof.Machine
end

