-- ==== Sys2Proof/Machine/Dispatch.lean ====
section
/-!
DEFINITION. What each command does: one arm per constructor of Instr, each one call of the command's meaning.
-/
namespace Sys2Proof.Machine

/-- A command's effect on everything but the queue of commands. -/
def exec (i : Instr) (s : State) : Host.Outcome State Fault Refusal :=
  match i with
  | .registerWrite who addr wide value outside => Sys2Proof.Machine.execRegisterWrite who addr wide value outside s
  | .unalignedRegisterAccess who core tag reqId => Sys2Proof.Machine.execUnalignedRegisterAccess who core tag reqId s
  | .sramEccCorrected region port => Sys2Proof.Machine.execSramEccCorrected region port s
  | .sramEccUncorrectable struck off => Sys2Proof.Machine.execSramEccUncorrectable struck off s
  | .pergolaTransfer egress => Sys2Proof.Machine.execPergolaTransfer egress s
  | .reflectionIngress => Sys2Proof.Machine.execReflectionIngress s
  | .pgaSatTimeout egress => Sys2Proof.Machine.execPgaSatTimeout egress s
  | .hostTlpReceive port tlp outside => Sys2Proof.Machine.execHostTlpReceive port tlp outside s
  | .plotQueueAdmit plot => Sys2Proof.Machine.execPlotQueueAdmit plot s
  | .rateBucketRefill bucket micros => Sys2Proof.Machine.execRateBucketRefill bucket micros s
  | .ledgerEntryGrant quadrant => Sys2Proof.Machine.execLedgerEntryGrant quadrant s
  | .hostTlpTransmit port => Sys2Proof.Machine.execHostTlpTransmit port s
  | .hostCompletionArrival port tag status poisoned data => Sys2Proof.Machine.execHostCompletionArrival port tag status poisoned data s
  | .hostCompletionTimeout port tag => Sys2Proof.Machine.execHostCompletionTimeout port tag s
  | .inboundWritePlaced quadrant id => Sys2Proof.Machine.execInboundWritePlaced quadrant id s
  | .calfosFrameReceive port frame => Sys2Proof.Machine.execCalfosFrameReceive port frame s
  | .inboundRequest quadrant => Sys2Proof.Machine.execInboundRequest quadrant s
  | .fabricMessageIn quadrant => Sys2Proof.Machine.execFabricMessageIn quadrant s
  | .fabricResponseArrival client => Sys2Proof.Machine.execFabricResponseArrival client s
  | .ledgerAckTimeout quadrant tag => Sys2Proof.Machine.execLedgerAckTimeout quadrant tag s
  | .ledgerBackoffEnd quadrant tag => Sys2Proof.Machine.execLedgerBackoffEnd quadrant tag s
  | .readBudgetExpire request => Sys2Proof.Machine.execReadBudgetExpire request s
  | .wflClear plot mask => Sys2Proof.Machine.execWflClear plot mask s
  | .atomicTurnGrant plot => Sys2Proof.Machine.execAtomicTurnGrant plot s
  | .windowFillDone plot inbound answer => Sys2Proof.Machine.execWindowFillDone plot inbound answer s
  | .windowFillTimeout plot inbound => Sys2Proof.Machine.execWindowFillTimeout plot inbound s
  | .windowFillResume plot inbound => Sys2Proof.Machine.execWindowFillResume plot inbound s
  | .windowCommit quadrant who window index => Sys2Proof.Machine.execWindowCommit quadrant who window index s
  | .windowDrainCommit quadrant who window index => Sys2Proof.Machine.execWindowDrainCommit quadrant who window index s
  | .windowCommitReadDone quadrant answer => Sys2Proof.Machine.execWindowCommitReadDone quadrant answer s
  | .windowCommitBoundary quadrant ok => Sys2Proof.Machine.execWindowCommitBoundary quadrant ok s
  | .drainSlotFree quadrant who slot => Sys2Proof.Machine.execDrainSlotFree quadrant who slot s
  | .prefetchLifeExpire quadrant place => Sys2Proof.Machine.execPrefetchLifeExpire quadrant place s
  | .prefetchCtrlWrite quadrant who value => Sys2Proof.Machine.execPrefetchCtrlWrite quadrant who value s
  | .trellisCtrlWrite who value => Sys2Proof.Machine.execTrellisCtrlWrite who value s
  | .trellisScanDone => Sys2Proof.Machine.execTrellisScanDone s
  | .trellisWrite who index => Sys2Proof.Machine.execTrellisWrite who index s
  | .trellisFind who index => Sys2Proof.Machine.execTrellisFind who index s
  | .trellisInvalidate who index => Sys2Proof.Machine.execTrellisInvalidate who index s
  | .trellisTableWrite who index high value => Sys2Proof.Machine.execTrellisTableWrite who index high value s
  | .plotLoad quadrant who index => Sys2Proof.Machine.execPlotLoad quadrant who index s
  | .plotCommit quadrant who index answer => Sys2Proof.Machine.execPlotCommit quadrant who index answer s
  | .plotResetCmd quadrant who index => Sys2Proof.Machine.execPlotResetCmd quadrant who index s
  | .plotUnload quadrant who index => Sys2Proof.Machine.execPlotUnload quadrant who index s
  | .plotWritebackCmd quadrant who index => Sys2Proof.Machine.execPlotWritebackCmd quadrant who index s
  | .plotLoadEntryRead plot answer => Sys2Proof.Machine.execPlotLoadEntryRead plot answer s
  | .plotLoadTimeout plot => Sys2Proof.Machine.execPlotLoadTimeout plot s
  | .plotTableBaseWrite quadrant who value => Sys2Proof.Machine.execPlotTableBaseWrite quadrant who value s
  | .plotWritebackPeriod plot => Sys2Proof.Machine.execPlotWritebackPeriod plot s
  | .plotWritebackDone plot ok => Sys2Proof.Machine.execPlotWritebackDone plot ok s
  | .plotPageCommit plot => Sys2Proof.Machine.execPlotPageCommit plot s
  | .plotRefetchDone plot answer => Sys2Proof.Machine.execPlotRefetchDone plot answer s
  | .faultConsWrite plot value => Sys2Proof.Machine.execFaultConsWrite plot value s
  | .faultRateWindowEnd plot code scope => Sys2Proof.Machine.execFaultRateWindowEnd plot code scope s
  | .clocheStep5 plot => Sys2Proof.Machine.execClocheStep5 plot s
  | .rakeArm plot slot => Sys2Proof.Machine.execRakeArm plot slot s
  | .rakeDisarm plot slot => Sys2Proof.Machine.execRakeDisarm plot slot s
  | .rakeDisarmAll plot slot => Sys2Proof.Machine.execRakeDisarmAll plot slot s
  | .rakeSweepSend => Sys2Proof.Machine.execRakeSweepSend s
  | .rakeSweepTimeout tag => Sys2Proof.Machine.execRakeSweepTimeout tag s
  | .dmaStart plot chan head => Sys2Proof.Machine.execDmaStart plot chan head s
  | .dmaKick plot chan => Sys2Proof.Machine.execDmaKick plot chan s
  | .dmaAbort plot chan => Sys2Proof.Machine.execDmaAbort plot chan s
  | .dmaResume plot chan => Sys2Proof.Machine.execDmaResume plot chan s
  | .dmaContextLoaded plot chan answer => Sys2Proof.Machine.execDmaContextLoaded plot chan answer s
  | .dmaContextAdmit quadrant => Sys2Proof.Machine.execDmaContextAdmit quadrant s
  | .dmaSliceEvict plot chan => Sys2Proof.Machine.execDmaSliceEvict plot chan s
  | .dmaDescriptorFetched plot chan answer => Sys2Proof.Machine.execDmaDescriptorFetched plot chan answer s
  | .dmaExtensionFetched plot chan answer => Sys2Proof.Machine.execDmaExtensionFetched plot chan answer s
  | .dmaBurstIssue quadrant => Sys2Proof.Machine.execDmaBurstIssue quadrant s
  | .dmaBurstReadDone plot chan => Sys2Proof.Machine.execDmaBurstReadDone plot chan s
  | .dmaBurstWriteDone plot chan => Sys2Proof.Machine.execDmaBurstWriteDone plot chan s
  | .dmaBadProcedure plot chan => Sys2Proof.Machine.execDmaBadProcedure plot chan s
  | .dmaNextRereadDone plot chan answer => Sys2Proof.Machine.execDmaNextRereadDone plot chan answer s
  | .dmaStallRelease plot queue => Sys2Proof.Machine.execDmaStallRelease plot queue s
  | .cqHeadWrite plot queue value => Sys2Proof.Machine.execCqHeadWrite plot queue value s
  | .dmaHaltComplete plot chan => Sys2Proof.Machine.execDmaHaltComplete plot chan s
  | .dmaAbortComplete plot chan => Sys2Proof.Machine.execDmaAbortComplete plot chan s
  | .perstRise port => Sys2Proof.Machine.execPerstRise port s
  | .portReset port why => Sys2Proof.Machine.execPortReset port why s
  | .portConfigReady port => Sys2Proof.Machine.execPortConfigReady port s
  | .hostLinkUp port speed width flit => Sys2Proof.Machine.execHostLinkUp port speed width flit s
  | .vfEnableSet port => Sys2Proof.Machine.execVfEnableSet port s
  | .vfEnableClear port => Sys2Proof.Machine.execVfEnableClear port s
  | .busMasterEnableChange plot on => Sys2Proof.Machine.execBusMasterEnableChange plot on s
  | .functionLevelReset plot => Sys2Proof.Machine.execFunctionLevelReset plot s
  | .powerStateChange plot d3hot => Sys2Proof.Machine.execPowerStateChange plot d3hot s
  | .interruptMechanismChange plot msix msi intDis => Sys2Proof.Machine.execInterruptMechanismChange plot msix msi intDis s
  | .msixMaskWrite plot write => Sys2Proof.Machine.execMsixMaskWrite plot write s
  | .hostConfigAccess plot access => Sys2Proof.Machine.execHostConfigAccess plot access s
  | .intxClear port value => Sys2Proof.Machine.execIntxClear port value s
  | .hostRetrain port who => Sys2Proof.Machine.execHostRetrain port who s
  | .hostLinkEnWrite port who en => Sys2Proof.Machine.execHostLinkEnWrite port who en s
  | .ideCheckFail port => Sys2Proof.Machine.execIdeCheckFail port s
  | .doeObjectReceived port object => Sys2Proof.Machine.execDoeObjectReceived port object s
  | .doeAbort port => Sys2Proof.Machine.execDoeAbort port s
  | .doeResponseReady port value => Sys2Proof.Machine.execDoeResponseReady port value s
  | .calfosPortEnable port who enable => Sys2Proof.Machine.execCalfosPortEnable port who enable s
  | .calfosRetrainCmd port who => Sys2Proof.Machine.execCalfosRetrainCmd port who s
  | .trainCapReceived port block => Sys2Proof.Machine.execTrainCapReceived port block s
  | .trainingStepComplete port found => Sys2Proof.Machine.execTrainingStepComplete port found s
  | .trainingStepTimeout port => Sys2Proof.Machine.execTrainingStepTimeout port s
  | .trainingAbortReceived port => Sys2Proof.Machine.execTrainingAbortReceived port s
  | .trainingBlockReceive port lane block => Sys2Proof.Machine.execTrainingBlockReceive port lane block s
  | .trainingRetryExpire port => Sys2Proof.Machine.execTrainingRetryExpire port s
  | .alignmentMarkerReceive port lane marker arrived => Sys2Proof.Machine.execAlignmentMarkerReceive port lane marker arrived s
  | .calfosFrameTransmit port => Sys2Proof.Machine.execCalfosFrameTransmit port s
  | .driftEnter port => Sys2Proof.Machine.execDriftEnter port s
  | .driftExit port => Sys2Proof.Machine.execDriftExit port s
  | .driftRefresh port => Sys2Proof.Machine.execDriftRefresh port s
  | .hushRequest port => Sys2Proof.Machine.execHushRequest port s
  | .hushRequestTimeout port => Sys2Proof.Machine.execHushRequestTimeout port s
  | .hushEnter port => Sys2Proof.Machine.execHushEnter port s
  | .hushExit port => Sys2Proof.Machine.execHushExit port s
  | .hushExitStepTimeout port => Sys2Proof.Machine.execHushExitStepTimeout port s
  | .retrainTimeout port => Sys2Proof.Machine.execRetrainTimeout port s
  | .clockLoss port => Sys2Proof.Machine.execClockLoss port s
  | .linkInitTimeout port => Sys2Proof.Machine.execLinkInitTimeout port s
  | .ackDelayExpire port => Sys2Proof.Machine.execAckDelayExpire port s
  | .replayTimeout port => Sys2Proof.Machine.execReplayTimeout port s
  | .sidebandFrameReject port => Sys2Proof.Machine.execSidebandFrameReject port s
  | .rollReceive port id flags payload => Sys2Proof.Machine.execRollReceive port id flags payload s
  | .rollAckReceive port id flags payload => Sys2Proof.Machine.execRollAckReceive port id flags payload s
  | .rollAckTimeout => Sys2Proof.Machine.execRollAckTimeout s
  | .completeReceive port id flags payload => Sys2Proof.Machine.execCompleteReceive port id flags payload s
  | .rerollReceive port id flags payload => Sys2Proof.Machine.execRerollReceive port id flags payload s
  | .wakeReceive port id flags payload => Sys2Proof.Machine.execWakeReceive port id flags payload s
  | .segResetReceive port id flags payload => Sys2Proof.Machine.execSegResetReceive port id flags payload s
  | .rollCallTimeout => Sys2Proof.Machine.execRollCallTimeout s
  | .chainCmdRoll who => Sys2Proof.Machine.execChainCmdRoll who s
  | .chainCmdSegReset who => Sys2Proof.Machine.execChainCmdSegReset who s
  | .chainCmdWakeSeg who => Sys2Proof.Machine.execChainCmdWakeSeg who s
  | .bootImageLoaded a b => Sys2Proof.Machine.execBootImageLoaded a b s
  | .bootConfirm => Sys2Proof.Machine.execBootConfirm s
  | .recoveryImageVerified image => Sys2Proof.Machine.execRecoveryImageVerified image s
  | .apertureAccess core window off size data => Sys2Proof.Machine.execApertureAccess core window off size data s
  | .apertureTimeout core => Sys2Proof.Machine.execApertureTimeout core s
  | .mailboxDoorbell plot slots => Sys2Proof.Machine.execMailboxDoorbell plot slots s
  | .mailboxReturn plot slots => Sys2Proof.Machine.execMailboxReturn plot slots s
  | .mailboxSlotAccess plot gardener off data => Sys2Proof.Machine.execMailboxSlotAccess plot gardener off data s
  | .mailboxDoneClear plot slots => Sys2Proof.Machine.execMailboxDoneClear plot slots s
  | .mgmtQueueRespond value => Sys2Proof.Machine.execMgmtQueueRespond value s
  | .mgmtQueueExpire => Sys2Proof.Machine.execMgmtQueueExpire s
  | .xspiCommand value => Sys2Proof.Machine.execXspiCommand value s
  | .xspiCommandDone error data => Sys2Proof.Machine.execXspiCommandDone error data s
  | .i3cPacketReceived packet => Sys2Proof.Machine.execI3cPacketReceived packet s
  | .i3cTransmit len => Sys2Proof.Machine.execI3cTransmit len s
  | .i3cAddressAssign addr => Sys2Proof.Machine.execI3cAddressAssign addr s
  | .getInfo plot slot => Sys2Proof.Machine.execGetInfo plot slot s
  | .getHealth plot slot payload => Sys2Proof.Machine.execGetHealth plot slot payload s
  | .eventWait plot slot code => Sys2Proof.Machine.execEventWait plot slot code s
  | .windowRequest plot slot window policy => Sys2Proof.Machine.execWindowRequest plot slot window policy s
  | .windowList plot slot payload => Sys2Proof.Machine.execWindowList plot slot payload s
  | .plotCmd plot slot op index => Sys2Proof.Machine.execPlotCmd plot slot op index s
  | .fwBegin plot slot => Sys2Proof.Machine.execFwBegin plot slot s
  | .fwData plot slot off data => Sys2Proof.Machine.execFwData plot slot off data s
  | .fwEnd plot slot image => Sys2Proof.Machine.execFwEnd plot slot image s
  | .fwActivate plot slot => Sys2Proof.Machine.execFwActivate plot slot s
  | .bedStage plot slot words => Sys2Proof.Machine.execBedStage plot slot words s
  | .bedCommit plot slot bed => Sys2Proof.Machine.execBedCommit plot slot bed s
  | .bedRevert plot slot => Sys2Proof.Machine.execBedRevert plot slot s
  | .logRead plot slot => Sys2Proof.Machine.execLogRead plot slot s
  | .hedgeKeyExchange who slot mutAuth keyHash verified answer => Sys2Proof.Machine.execHedgeKeyExchange who slot mutAuth keyHash verified answer s
  | .hedgeSpdmMessage who secured ends answer => Sys2Proof.Machine.execHedgeSpdmMessage who secured ends answer s
  | .hedgeSessionExpire => Sys2Proof.Machine.execHedgeSessionExpire s
  | .fenceSet who plot entries answer => Sys2Proof.Machine.execFenceSet who plot entries answer s
  | .sideSet who node entries answer => Sys2Proof.Machine.execSideSet who node entries answer s
  | .capSet who plot port caps answer => Sys2Proof.Machine.execCapSet who plot port caps answer s
  | .tagSet who plot tag answer => Sys2Proof.Machine.execTagSet who plot tag answer s
  | .mgmtPlotSet who plot answer => Sys2Proof.Machine.execMgmtPlotSet who plot answer s
  | .tendrilSet who allow answer => Sys2Proof.Machine.execTendrilSet who allow answer s
  | .powerSet who cap answer => Sys2Proof.Machine.execPowerSet who cap answer s
  | .wdogSet who min max answer => Sys2Proof.Machine.execWdogSet who min max answer s
  | .forceSafe who answer => Sys2Proof.Machine.execForceSafe who answer s
  | .safeRelease who answer => Sys2Proof.Machine.execSafeRelease who answer s
  | .hedgeRead who plot node answer => Sys2Proof.Machine.execHedgeRead who plot node answer s
  | .powerEstimateTick measured => Sys2Proof.Machine.execPowerEstimateTick measured s
  | .powerCapTrip => Sys2Proof.Machine.execPowerCapTrip s
  | .watchdogKick who token => Sys2Proof.Machine.execWatchdogKick who token s
  | .watchdogEarly => Sys2Proof.Machine.execWatchdogEarly s
  | .watchdogExpire => Sys2Proof.Machine.execWatchdogExpire s
  | .rootstockBucketRefill => Sys2Proof.Machine.execRootstockBucketRefill s
  | .hedgeEccError side key entry => Sys2Proof.Machine.execHedgeEccError side key entry s
  | .evgClaim reg who core high => Sys2Proof.Machine.execEvgClaim reg who core high s
  | .evgEoi reg who core source => Sys2Proof.Machine.execEvgEoi reg who core source s
  | .evgRouteWrite who source core => Sys2Proof.Machine.execEvgRouteWrite who source core s
  | .evgEnableSet who word mask => Sys2Proof.Machine.execEvgEnableSet who word mask s
  | .evgEnableClr who word mask => Sys2Proof.Machine.execEvgEnableClr who word mask s
  | .evgPendSet who word mask => Sys2Proof.Machine.execEvgPendSet who word mask s
  | .evgPendClr who word mask => Sys2Proof.Machine.execEvgPendClr who word mask s
  | .rootstockWrite who half value => Sys2Proof.Machine.execRootstockWrite who half value s
  | .rootstockPulseDone tries => Sys2Proof.Machine.execRootstockPulseDone tries s
  | .rootstockRead who ended => Sys2Proof.Machine.execRootstockRead who ended s
  | .rootCommit who bed => Sys2Proof.Machine.execRootCommit who bed s
  | .rootRevert who => Sys2Proof.Machine.execRootRevert who s
  | .rootCheck who => Sys2Proof.Machine.execRootCheck who s
  | .modeServe who => Sys2Proof.Machine.execModeServe who s
  | .modeDoze who => Sys2Proof.Machine.execModeDoze who s
  | .modeDormant who => Sys2Proof.Machine.execModeDormant who s
  | .dozeHushComplete => Sys2Proof.Machine.execDozeHushComplete s
  | .dozeEntryTimeout => Sys2Proof.Machine.execDozeEntryTimeout s
  | .dozeExitPllLocked => Sys2Proof.Machine.execDozeExitPllLocked s
  | .railGoodRise => Sys2Proof.Machine.execRailGoodRise s
  | .railGoodLoss => Sys2Proof.Machine.execRailGoodLoss s
  | .railTimeout => Sys2Proof.Machine.execRailTimeout s
  | .wakeTimerExpire => Sys2Proof.Machine.execWakeTimerExpire s
  | .xtalStable => Sys2Proof.Machine.execXtalStable s
  | .xtalStop => Sys2Proof.Machine.execXtalStop s
  | .refClockLoss => Sys2Proof.Machine.execRefClockLoss s
  | .refClockRestored => Sys2Proof.Machine.execRefClockRestored s
  | .avsAdjust need => Sys2Proof.Machine.execAvsAdjust need s
  | .coreRailMismatch => Sys2Proof.Machine.execCoreRailMismatch s
  | .thermalSample q0 q1 q2 q3 pga => Sys2Proof.Machine.execThermalSample q0 q1 q2 q3 pga s
  | .quadrantClockStop quadrant => Sys2Proof.Machine.execQuadrantClockStop quadrant s
  | .powerOnReset railFall => Sys2Proof.Machine.execPowerOnReset railFall s
  | .releaseOrderStep => Sys2Proof.Machine.execReleaseOrderStep s
  | .deviceReset who => Sys2Proof.Machine.execDeviceReset who s
  | .blockSoftResetSet who mask => Sys2Proof.Machine.execBlockSoftResetSet who mask s
  | .blockSoftResetDone bit => Sys2Proof.Machine.execBlockSoftResetDone bit s
  | .blockSoftResetClr who mask => Sys2Proof.Machine.execBlockSoftResetClr who mask s
  | .gardenerReset who => Sys2Proof.Machine.execGardenerReset who s
  | .coreReset who core => Sys2Proof.Machine.execCoreReset who core s
  | .evgReset who => Sys2Proof.Machine.execEvgReset who s
  | .chnReset who => Sys2Proof.Machine.execChnReset who s
  | .testPortModeWrite port who mode rate => Sys2Proof.Machine.execTestPortModeWrite port who mode rate s
  | .laneInject lane who mode lenm1 exp go => Sys2Proof.Machine.execLaneInject lane who mode lenm1 exp go s
  | .marginStart who port lane axis eye off dwell => Sys2Proof.Machine.execMarginStart who port lane axis eye off dwell s
  | .marginStop who => Sys2Proof.Machine.execMarginStop who s
  | .marginRunDone mismatches => Sys2Proof.Machine.execMarginRunDone mismatches s
  | .trafficGenEnable who en => Sys2Proof.Machine.execTrafficGenEnable who en s
  | .trafficGenSend => Sys2Proof.Machine.execTrafficGenSend s
  | .trafficGenTimeout request => Sys2Proof.Machine.execTrafficGenTimeout request s
  | .jtagInstructionLoad code => Sys2Proof.Machine.execJtagInstructionLoad code s
  | .jtagTrst => Sys2Proof.Machine.execJtagTrst s
  | .tendrilConfigWrite pin value => Sys2Proof.Machine.execTendrilConfigWrite pin value s
  | .tendrilInputChange pin level => Sys2Proof.Machine.execTendrilInputChange pin level s
  | .receiveDriftEnter port => Sys2Proof.Machine.execReceiveDriftEnter port s
  | .receiveDriftExit port => Sys2Proof.Machine.execReceiveDriftExit port s
  | .hostLinkL1Entry port => Sys2Proof.Machine.execHostLinkL1Entry port s
  | .hostLinkL1Exit port => Sys2Proof.Machine.execHostLinkL1Exit port s
  | .checkerLock lane => Sys2Proof.Machine.execCheckerLock lane s
  | .checkerLockLost lane count errors => Sys2Proof.Machine.execCheckerLockLost lane count errors s
  | .stoppedBlockRegisterRead who quadrant => Sys2Proof.Machine.execStoppedBlockRegisterRead who quadrant s
  | .capBlockSend port => Sys2Proof.Machine.execCapBlockSend port s
  | .i3cTransmitDone => Sys2Proof.Machine.execI3cTransmitDone s

end Sys2Proof.Machine
end

