-- ==== Sys2Proof/Machine/Tick.lean ====
section
/-!
DEFINITION. A microsecond of the block's own time: what happens at a tick, whatever is commanded (DESIGN CHOICE, assumption 1).
-/
namespace Sys2Proof.Machine

/-- The commands of Trellis, of the chain and of the Hedge endpoint that have run are no longer in progress (R125, R373, R402; DESIGN CHOICE, assumption
112). -/
def busyEnds (s : State) : State := setF (setF (setF s F.TRL_STATUS_BUSY 0) F.CHN_STATUS_BUSY 0) F.HDG_SPDM_CTRL_BUSY 0

/-- The microsecond's 1,800 cycles at a Pergola egress that did not send: each is one of stall where beats wait for credit (R207, R213). -/
def egressTick (s : State) (e : Nat) : State :=
  let s' := noteCycles s e 63 false
  if egressStalled s e then noteStall s' e 1800 else s'

/-- The interpolators of an Active port follow the skew drift, which R318 limits; where a code stands is its receiver's, a free value within one step of the
last (R295; assumption 133). In Drift they hold. -/
def codesDrift (s : State) (f : Nat) : State :=
  if cfpState s f != cfpActive || bitF s (F.CFP_STATUS_RX_DRIFT f) then s
  else
    let (v, s) := drawFree s
    (List.range 8).foldl (fun s l => setF s (F.CFP_LANE_PI_CODE f l) (getF s (F.CFP_LANE_PI_CODE f l) + [0, 1, 255, 0].getD (bits v (2 * l) 2) 0)) s

/-- A locked checker counts the bits it compares and those that differ (R494): how many in a microsecond is the lane's, a free value (assumption 3). -/
def checkerTick (s : State) (l : Nat) : State :=
  if !laneChecks s l || !bitF s (F.TST_LANE_ERR_LOCK l) then s
  else
    let (v, s) := drawFree s
    bumpBy (bumpBy s (F.TST_LANE_BITS_V l) (bits v 0 20)) (F.TST_LANE_ERR_ERRORS l) (bits v 20 20)

/-- PWM_WAKE.TIMER counts milliseconds down (R457, R470), to 1: that the last one has passed is WAKE_TIMER_EXPIRE. -/
def timerTick (s : State) : State :=
  let n := getF s F.PWM_WAKE_TIMER
  if s.ticks % 1000 == 0 && decide (1 < n) then setF s F.PWM_WAKE_TIMER (n - 1) else s

/-- What the clocks that run do in a microsecond: Pergola's cycles (R32), the host links' training (R262), the interpolators (R295), the checkers (R494). -/
def clocksTick (s : State) : State :=
  let s := if coreRuns s then (List.range 20).foldl egressTick s else s
  (List.range 128).foldl checkerTick ((List.range 8).foldl codesDrift ((List.range 4).foldl hostTrainTick s))

/-- One microsecond passes, which the time base counts while it runs (R464), and the clocks of a quadrant that has work again restart (R461). -/
def tick (s : State) : State :=
  quadWakes (clocksTick (timerTick (busyEnds { s with ticks := s.ticks + 1, now := if s.started then s.now + 1 else s.now })))

end Sys2Proof.Machine
end

