-- ==== Sys2Proof/Machine/Pins.lean ====
section
/-!
DEFINITION. The output balls (R456, R465, R482, R483, R519): what each one does, as a function of the state.
-/
namespace Sys2Proof.Machine

/-- What an output does: nothing on a rail that is absent (R483), electrical idle, high impedance, a level, the signal of its function, or what the
TAP's boundary register drives (R502). -/
inductive PinOut where
  | unpowered | idle | highZ | low | high | active | scan
  deriving DecidableEq, Repr

/-- An output of the always-on domain: the boundary register drives it in a test instruction. -/
def aonPin (s : State) (p : PinOut) : PinOut := if tapDrives s then .scan else p

/-- An output on a main I/O rail. -/
def ioPin (s : State) (p : PinOut) : PinOut := if s.ctl.railGood then aonPin s p else .unpowered

/-- The transmit lanes of host port n: in electrical idle while the LTSSM is in Detect, in L1, in L2 or disabled, but for a pattern that drives them
(R286, R482, R490). -/
def hostTxPin (s : State) (n : Nat) : PinOut :=
  let l := getF s (F.HPT_LINK_LTSSM n)
  let m := getF s (F.TST_PORT_MODE n)
  ioPin s (if m == 1 then .active else if m != 0 || l == 0 || l == 6 || l == 7 || l == 8 then .idle else .active)

/-- The data transmit lanes of Calfos port f: in electrical idle in Off, at training step 1, in Hush and in transmit Drift (R311, R313, R482), but for
a pattern or the far loop (R490). -/
def calfosTxPin (s : State) (f : Nat) : PinOut :=
  let m := getF s (F.TST_PORT_MODE (4 + f))
  let st := cfpState s f
  ioPin s (if m == 1 || m == 3 then .active
    else if m != 0 || st == cfpOff || st == cfpHush || (st == cfpTraining && decide ((linkOf s f).step < 2)) || bitF s (F.CFP_STATUS_TX_DRIFT f) then .idle else .active)

/-- The transmit clock pair of port f: the forwarded clock, or in Off, at training step 1 and in Hush the sideband, idle between its frames (R319, R356,
R490). -/
def calfosClkPin (s : State) (f : Nat) : PinOut :=
  let m := getF s (F.TST_PORT_MODE (4 + f))
  let st := cfpState s f
  ioPin s (if m != 0 then (if m == 2 then .idle else .active)
    else if st == cfpOff || st == cfpHush || (st == cfpTraining && decide ((linkOf s f).step < 2)) then .idle else .active)

/-- Tendril pin t (R482, R525). -/
def tendrilPin (s : State) (t : Nat) : PinOut :=
  ioPin s (match tndDrive s t with
    | some true => .high
    | some false => .low
    | none => .highZ)

/-- ALERT_L, open-drain (R466). -/
def alertPin (s : State) : PinOut := ioPin s (if s.ctl.alert then .low else .highZ)

/-- RAIL_EN (R456). -/
def railEnPin (s : State) : PinOut := aonPin s (if s.ctl.railEn then .high else .low)

/-- VID[i]: not driven before step 2 of the release order, then bit i of the code (R465, R476). -/
def vidPin (s : State) (i : Nat) : PinOut :=
  aonPin s (if s.ctl.step < 2 then .highZ else if bitOf (getF s F.PWM_AVS_CODE) i then .high else .low)

/-- The XSPI_ controller talks to the flash: the boot ROM does from step 11 until firmware runs, and then each command does (R380, R398). -/
def flashBusy (s : State) : Bool := s.ctl.step == 11 && (getF s F.GDN_BOOT_RESULT == 0 || bitF s F.XSP_STATUS_BUSY)

/-- XSPI_CS_L, XSPI_RESET_L, XSPI_SCK and the data lines. -/
def xspiCsPin (s : State) : PinOut := ioPin s (if flashBusy s then .active else .high)
def xspiResetPin (s : State) : PinOut := ioPin s (if s.ctl.step == 11 then .high else .low)
def xspiSckPin (s : State) : PinOut := ioPin s (if flashBusy s then .active else .low)
def xspiDataPin (s : State) : PinOut := ioPin s (if flashBusy s then .active else .highZ)

/-- I3C_SDA: not driven before the target has a dynamic address, and then while it announces a packet (R393, R482). -/
def i3cPin (s : State) : PinOut :=
  ioPin s (if getF s F.I3C_STATUS_DYN_ADDR != 0 && bitF s F.I3C_STATUS_IBI then .active else .highZ)

/-- The static address that SETDASA names (R393, R524). -/
def i3cStatic (s : State) : Nat := 0x48 + bits (getF s F.GDN_STRAP_EFFECTIVE) 7 3

/-- CLKREQ_L of host port n: low until the host has enabled L1 PM Substates, which takes the strap; then as the standard has it (R258, R482, R524). -/
def clkreqPin (s : State) (n : Nat) : PinOut :=
  ioPin s (if clkreqWired s n && (funcOf s (1024 * n)).substates != 0 then .active else .low)

/-- TDO outside a Shift state, which a command of the TAP enters and leaves. -/
def tdoPin (s : State) : PinOut := if s.ctl.railGood then .highZ else .unpowered

end Sys2Proof.Machine
end

