-- ==== Sys2Proof/Safety.lean ====
section
/-!
DEFINITION. The words in which claims about the block are made: a command completes with a property of the next state, what a next state
leaves alone, and the canonical form of the state.
-/
namespace Sys2Proof

/-- A command completes in a state, and the next state has a property. -/
def Runs (i : Instr) (s : Machine.State) (post : Machine.State → Prop) : Prop := ∃ t, Machine.exec i s = .next t ∧ post t

/-- A command changes nothing. -/
def Leaves (i : Instr) (s : Machine.State) : Prop := Machine.exec i s = .next s

/-- Every register field reads as before but those of a list. -/
def FieldsBut (s t : Machine.State) (fs : List Machine.Fld) : Prop :=
  ∀ g : Machine.Fld, (∀ f ∈ fs, g.key ≠ f.key) → Machine.getF t g = Machine.getF s g

/-- Only register fields have changed: every queue, table and memory byte is as before. -/
def OnlyCells (s t : Machine.State) : Prop := t = { s with cells := t.cells }

/-- Register fields and outputs alone have changed, and outputs were only added. -/
def OnlyShown (s t : Machine.State) : Prop := t = { s with cells := t.cells, out := t.out } ∧ ∃ l, t.out = l ++ s.out

/-- The frame that an output of port f is, if it is one: its PHY control code and its flits (R296). -/
def Machine.frameIn (f : Nat) : Machine.Emit → Option (Nat × List Byte × List Byte)
  | .calfosFrame g c a b _ => if g = f then some (c, a, b) else none
  | _ => none

/-- The pending bit of an Event Gate source is 1 (R416). -/
def Pending (t : Machine.State) (src : Nat) : Prop := Machine.bitOf (Machine.getF t (Machine.F.EVG_PEND_PEND (src / 64))) (src % 64) = true

/-- A memory is in its one form: addresses rise, and no byte is listed that reads as an unlisted one does. -/
def memWf (m : List Host.Cell) : Bool := Machine.mwf m && m.all fun x => x.2 != 0

/-- The state is in canonical form: every table's keys rise strictly, and the memory is in its one form. -/
def Machine.State.wf (s : Machine.State) : Bool :=
  mwf s.cells && mwf s.plots && mwf s.funcs && mwf s.msix && mwf s.quads && mwf s.ports && mwf s.links && mwf s.chans && mwf s.unit0 &&
    mwf s.root.words && mwf s.root.used && mwf s.root.uncorr && mwf s.trl.table && memWf s.mem

/-- Running firmware takes a mailbox command (R394): the Gardener owns the slot, the command is the one named, its plot may issue it, and LEN is at most 240. -/
def FwTakes (s : Machine.State) (p i op : Nat) (who : Machine.FwWho) : Prop :=
  Machine.firmwareRuns s = true ∧ Machine.bitOf (Machine.mbxOwn s p) i = true ∧ Machine.leNat (Machine.memRead s (Machine.slotAddr p i) 2) = op ∧
    Machine.fwMay s p who = true ∧ Machine.slotLen s p i ≤ 240

/-- Firmware has answered in a slot with STATUS and DETAIL, and the slot is the host's again (R387, R394). -/
def Answered (t : Machine.State) (p i st detail : Nat) : Prop :=
  (Machine.memByte t (Machine.slotAddr p i + 6)).toNat = st ∧ (Machine.memByte t (Machine.slotAddr p i + 7)).toNat = detail ∧
    Machine.bitOf (Machine.mbxOwn t p) i = false ∧ Machine.bitOf (Machine.getF t (Machine.F.PP_MBX_DONE_SLOT p)) i = true

/-- Firmware has issued a hardware command, which leaves the block in `u`: while it runs the slot waits, and where it has ended its RESULT is the answer (R395). -/
def FwIssued (t u : Machine.State) (p i : Nat) (busy result : Machine.Fld) : Prop :=
  if Machine.bitF u busy then t = u else t = Machine.fwAnswer u p i (Machine.fwResult (Machine.getF u result))

/-- What stands in a plot's mailbox registers and memory when a slot is answered; all else is as before but the plot's vectors and the port they leave by. -/
def SlotOnly (s t : Machine.State) (p i : Nat) : Prop :=
  (∀ j < 16, j ≠ i → Machine.bitOf (Machine.mbxOwn t p) j = Machine.bitOf (Machine.mbxOwn s p) j) ∧
  (∀ k < 4096, k / 256 ≠ i → Machine.memByte t (Machine.mbxAddr p k) = Machine.memByte s (Machine.mbxAddr p k)) ∧
  (∀ k < 4, Machine.memByte t (Machine.slotAddr p i + k) = Machine.memByte s (Machine.slotAddr p i + k)) ∧
  t.quads = s.quads ∧ t.chans = s.chans ∧ t.links = s.links ∧ t.pga = s.pga ∧ t.hdg = s.hdg ∧ t.trl = s.trl ∧ t.rake = s.rake ∧ t.root = s.root ∧
    t.chain = s.chain ∧ t.ctl = s.ctl

/-- BED_STAGE's words written by ROOT_DATA in turn, each as its class and bucket allow, and the job noted (R395). -/
def bedWrites (s : Machine.State) (p i : Nat) (words : List (Fin 3072 × Word)) : Machine.State :=
  let b := if Machine.bedNow s = 0 then 1 else Machine.otherBed (Machine.bedNow s)
  words.foldl (fun s x => (Machine.rootWrite s (Machine.bedIndex b x.1) x.2.toNat true).1) (Machine.fwJobPut s p i 0x40)

/-- The registers of device register space whose write does no more than write their fields (R511): events, counters, limits and plain controls. -/
def plainRegs : List Nat :=
  [0x10, 0x18, 0x20, 0x20020, 0x20028, 0x20038, 0x40040, 0x40048, 0x50030, 0x50038, 0x60018, 0x60020, 0x70028, 0x70030, 0x70038, 0x80000, 0x80008,
    0x80010, 0x80018, 0x90010, 0x90018, 0xA0000, 0xA0108, 0xA0110, 0xA0120] ++
  (List.range 4).flatMap (fun q =>
    [0x10, 0x18, 0x20, 0x10050, 0x10068, 0x10070, 0x18000, 0x18018, 0x18020, 0x18028, 0x18100, 0x18108, 0x20000, 0x20010, 0x20018, 0x20028,
      0x30020].map fun o => 0x100000 + q * 0x40000 + o) ++
  (List.range 8).flatMap (fun f => [0x10, 0x18, 0x20, 0x28, 0x8000, 0x8010, 0x8018].map fun o => 0x200000 + f * 0x10000 + o)

/-- Those of a plot page (R512): the staged registers, PP_DMA, PP_MBX_COUNT and the Rake's staged slots. -/
def plainPage : List Nat :=
  [0x18, 0x20, 0x28, 0x410, 0x498] ++ (List.range 16).map (fun k => 0x80 + 8 * k) ++
    (List.range 64).flatMap (fun i => [0, 8, 16].map fun o => 0x3D00 + 32 * i + o)

/-- Those of the Gardener's private space (R513). -/
def plainPrivate : List Nat :=
  (List.range 8).map (fun k => 0x30000040 + 8 * k) ++ [0x30000080, 0x30000088, 0x30000090, 0x3001A008, 0x30020008, 0x30020010]

/-- The clocks of the block at an address run (R32): in Doze the device's stand, and a gated quadrant's. -/
def clocksRun (s : Machine.State) (a : Nat) : Bool :=
  Machine.pwmMode s != Machine.moDoze && (a / 0x100000 != 1 || Machine.bitOf (Machine.getF s Machine.F.PWM_GATE_RUN) (a / 0x40000 % 4))

/-- Bit i of a field after a write, by the field's access type (R11). A bit that is not written keeps its value, and so does every bit of a field that
the write would give a reserved encoding (R12). -/
def bitAfter (s : Machine.State) (w : Machine.RegWr) (g : Machine.RegFld) (f : Machine.Fld) (i : Nat) : Bool :=
  let old := Machine.bitOf (Machine.getF s f) i
  let new := Machine.bitOf w.val (g.lo + i)
  if !Machine.bitOf w.mask (g.lo + i) then old
  else match g.acc with
    | .rw | .rwl => if g.reserved (Machine.merged s w f) then old else new
    | .rws => new
    | .w1c => old && !new
    | .w1s => old || new
    | _ => old

/-- The fields of the register at an address have taken a write. -/
def Written (s t : Machine.State) (a : Nat) (w : Machine.RegWr) : Prop :=
  ∀ g ∈ Machine.regFlds a, ∀ i < g.w, Machine.bitOf (Machine.getF t (g.at a)) i = bitAfter s w g (g.at a) i

/-- The fields of the register at an address. -/
def fieldsAt (a : Nat) : List Machine.Fld := (Machine.regFlds a).map fun g => g.at a

/-- The write gives a field of the register a reserved encoding (R12). -/
def writesReserved (s : Machine.State) (a : Nat) (w : Machine.RegWr) : Bool := (Machine.regFlds a).any fun g => Machine.fieldBad s w g (g.at a)

/-- The error message that a logged error sends, if the masks and the enables of R276 ask for one. -/
def errorTlp (s : Machine.State) (p : Nat) (e : Machine.AerErr) (adv : Bool) : List Machine.TlpOut :=
  match Machine.errMessage s p e adv with
  | none => []
  | some k => if Machine.bitF s (Machine.F.HPT_LINK_DL_UP (Machine.quadrantOf p)) then [{ kind := k, plot := p, reqId := Machine.ridOf s p }] else []

/-- A port takes a TLP: its link is in L0 or L1, the device is not in Doze, the port is not held, its receiver has the credits, and the TLP is well-formed
(R194, R258, R269). -/
def TlpTaken (s : Machine.State) (n : Nat) (t : Tlp) : Prop :=
  Machine.linkActive s n = true ∧ Machine.coreRuns s = true ∧ Machine.heldQ s n 0 = false ∧ Machine.tlpCredit s n t = true ∧ Machine.tlpMalformed t = false

/-- A TLP for function p of port n is answered with a completion without data: its error is logged in the function, and reported if the host asks for it. -/
def AnswersError (s t : Machine.State) (n p : Nat) (x : Tlp) (e : Machine.AerErr) (st : CplStatus) : Prop :=
  (Machine.portOf t n).txq = (Machine.portOf s n).txq ++ errorTlp s p e true ++
      [{ kind := .completion, plot := p, reqId := x.reqId, tag := x.tag, status := st }] ∧
    e ∈ (Machine.funcOf t p).aer ∧ t.plots = s.plots ∧ t.mem = s.mem ∧ t.pga = s.pga

/-- The configuration memory of port q may be accessed and its requests get there: host memory, or a fabric node that Trellis leads to (R43, R113, R114). -/
def tableReached (s : Machine.State) (q : Nat) : Bool :=
  Machine.tableOpen s q && (!Machine.bitF s (Machine.F.PLT_TABLE_BASE_TARGET q) ||
    match (Machine.routeOf s (Machine.getF s (Machine.F.PLT_TABLE_NODE_NODE q)) (Machine.myNode s (1 + q)) (some (q * 1024))).2 with
    | .fail _ => false
    | _ => true)

/-- A fill of a plot's outbound windows waits for one that is under way, or starts and waits for its read (R87). -/
def fillWaits (s : Machine.State) (p : Nat) : Bool :=
  Machine.fillBusy s p false || Machine.commitWriting s p false || decide (64 ≤ (Machine.quadOf s (Machine.quadrantOf p)).fills.length) ||
    (Machine.windowCount s p false != 0 && tableReached s (Machine.quadrantOf p))

/-- A channel that is to run has a context, and its ChannelEntry is read; or, with none free, it waits for one (R217, R218). -/
def TakesContext (s t : Machine.State) (p c : Nat) : Prop :=
  let x := Machine.chanOf t p c
  let q := Machine.quadrantOf p
  x.st = Machine.csRunning ∧ Machine.getF t (Machine.F.PP_CHAN_STATUS_STATE p c) = Machine.csRunning ∧
    (Machine.ctxFree s q = true → x.loading = true ∧ x.resident = true ∧ t.out = .plotRead p (Machine.chanEntryAddr s p c) 64 :: s.out ∧
      t = { s with cells := t.cells, chans := t.chans, out := t.out }) ∧
    (Machine.ctxFree s q = false → x.pending = true ∧ Machine.bitF t (Machine.F.DMA_EVENT_CTX_WAIT q) = true ∧
      t = { s with cells := t.cells, chans := t.chans, ports := t.ports })

/-- The head of a chain is not to be finished yet: it has bursts to issue, or some in flight. -/
def headBusy (x : Machine.Chan) : Bool := x.ds.head?.all fun e => e.pos != e.length || x.live e

/-- The outputs as a reset that reaches them leaves them, where the TAP drives none: those on the main I/O rail do nothing while it is absent (R482,
R483). -/
def OutputsAtReset (t : Machine.State) : Prop :=
  let io (p : Machine.PinOut) : Machine.PinOut := if t.ctl.railGood then p else .unpowered
  (∀ n < 4, Machine.hostTxPin t n = io .idle ∧ Machine.clkreqPin t n = io .low) ∧
    (∀ f < 8, Machine.calfosTxPin t f = io .idle ∧ Machine.calfosClkPin t f = io .idle) ∧ (∀ k < 24, Machine.tendrilPin t k = io .highZ) ∧
    Machine.alertPin t = io .highZ ∧ Machine.xspiCsPin t = io .high ∧ Machine.xspiResetPin t = io .low ∧ Machine.xspiSckPin t = io .low ∧
    Machine.xspiDataPin t = io .highZ ∧ Machine.i3cPin t = io .highZ ∧ Machine.tdoPin t = io .highZ

/-- A Calfos port that is Off may train: nothing holds it, EN is 1, no RETRY runs, and neither a test mode nor the TAP has it (R311, R478, R502, R504). -/
def mayTrain (s : Machine.State) (f : Nat) : Bool :=
  Machine.portFree s f && Machine.bitF s (Machine.F.CFP_CTRL_EN f) && !(Machine.linkOf s f).retry && Machine.getF s (Machine.F.TST_PORT_MODE (4 + f)) == 0 &&
    !Machine.tapDrives s

/-- A full training of a port starts, at MAX_RATE (R308). -/
def Trains (s t : Machine.State) (f : Nat) : Prop :=
  Machine.cfpState t f = Machine.cfpTraining ∧ (Machine.linkOf t f).step = 1 ∧ (Machine.linkOf t f).attempt = ((Machine.linkOf s f).attempt + 1) % 256 ∧
    Machine.getF t (Machine.F.CFP_STATUS_RATE f) = Machine.getF s (Machine.F.CFP_CTRL_MAX_RATE f) % 4 ∧ (Machine.linkOf t f).retry = false

/-- The RESULT of a LOAD whose entry read ended so, if it is not OK (R54). -/
def loadBad (s : Machine.State) (p : Nat) : MemResult → Option Nat
  | .failed _ => some 2
  | .ok bs =>
    let v (f : Machine.Fld) (o : Nat) : Nat := Machine.fieldIn bs (f, o)
    if v (Machine.F.PE_CONTROL_VALID p) 0x10 = 0 then some 7
    else if Machine.plotMalformed bs p then some 1
    else if !Machine.vectorsFit s p (v (Machine.F.PE_MSIX_VEC_BASE p) 0x40) (v (Machine.F.PE_MSIX_VEC_COUNT p) 0x40) then some 4
    else none

/-- A command of a plot that is in progress, one with OP `op`, ends with a RESULT; PLT_CMD_STATUS stands where another or none is (R65). -/
def CmdEnds (s t : Machine.State) (p op r : Nat) : Prop :=
  let q := Machine.quadrantOf p
  ((Machine.quadOf s q).plt = some ⟨op, Machine.indexOf p⟩ →
    Machine.getF t (Machine.F.PLT_CMD_STATUS_RESULT q) = r ∧ Machine.bitF t (Machine.F.PLT_CMD_STATUS_BUSY q) = false ∧ (Machine.quadOf t q).plt = none) ∧
  ((Machine.quadOf s q).plt ≠ some ⟨op, Machine.indexOf p⟩ →
    Machine.getF t (Machine.F.PLT_CMD_STATUS_RESULT q) = Machine.getF s (Machine.F.PLT_CMD_STATUS_RESULT q) ∧
      Machine.bitF t (Machine.F.PLT_CMD_STATUS_BUSY q) = Machine.bitF s (Machine.F.PLT_CMD_STATUS_BUSY q))

/-- PLT_CMD is written, no command is in progress, and the function it names is enabled (R65, R66). -/
def PltTaken (s : Machine.State) (q : Nat) (who : Party) (i : Nat) : Prop :=
  Machine.regOpen s who (Machine.A.PLT_CMD q) = true ∧ Machine.bitF s (Machine.F.PLT_CMD_STATUS_BUSY q) = false ∧ Machine.funcEnabled s (q * 1024 + i) = true

/-- The class of the request that the host path of a quadrant serves next (R84). -/
def inClass (s : Machine.State) (q : Nat) : Nat := if Machine.headIsRequest s q 0 then 0 else 1

/-- A request for plot p is the next that the host path of quadrant q serves: its clocks run, no answer waits for its queue, and the port has room (R33, R193, R30). -/
def Inbound (s : Machine.State) (q p : Nat) (r : FabReq) : Prop :=
  Machine.quadRuns s q = true ∧ Machine.answersWait s q = false ∧ Machine.txqRoom s q = true ∧ Machine.quadrantOf p = q ∧ r.op ≠ .message ∧
    (Machine.inboxOf s q (inClass s q)).head?.map (fun b => (b.txn, b.plot)) = some (.req r, p)

/-- It is for a plot that takes inbound requests, none of which waits, and a window admits it (R55, R84). -/
def InAdmitted (s : Machine.State) (q p : Nat) (r : FabReq) (w : Nat) (l : Machine.Line) (e : Machine.WinEntry) : Prop :=
  Inbound s q p r ∧ Machine.inStateRefusal s p = none ∧ (∀ x ∈ (Machine.quadOf s q).missQ, x.plot ≠ p) ∧
    Machine.findLine s p true false r.addr r.len = some (w, l, e) ∧ (e.peerEn = true → r.src = e.node) ∧ Machine.inEnabled e r.op = true

/-- It goes on to the host: the tracker and RATE_RX have room, Bus Master Enable is 1, it is not poisoned, and no Write of its stream has failed before it
(R59, R84, R158, R194). -/
def InGoes (s : Machine.State) (q p : Nat) (r : FabReq) : Prop :=
  (r.op = .write ∨ Machine.trackFull s q r = false) ∧ Machine.rxAdmits s p = true ∧ Machine.bmeOf s p = true ∧ r.poison = false ∧
    (r.ordered = false ∨ r.op = .write ∨ (Machine.mfind (Machine.quadOf s q).inStreams (Machine.inKey p r)).any (fun i => !i.flag) = true)

/-- Pergola's state with the request taken from the host path's buffer. -/
def inboxTaken (s : Machine.State) (q : Nat) : Machine.Pergola :=
  { s.pga with inbox := Machine.mset s.pga.inbox (q * 8 + inClass s q) ((Machine.inboxOf s q (inClass s q)).drop 1) [] }

/-- The host path of quadrant q answers a request: its response enters Pergola, which stood as `g`, on the route to the requester, or is discarded where there is
none (R113, R342). Nothing else changes but registers, the plot and the quadrant. -/
def Responds (s t : Machine.State) (g : Machine.Pergola) (q p : Nat) (r : FabReq) (st : Nat) (data : List Byte) : Prop :=
  t.pga = (match (Machine.routeOf s r.src r.dest none).2 with
    | .fail _ => g
    | rt => (Machine.pgaPush { s with pga := g } rt.pga 2 (.host p) { ingress := q, txn := .resp (Machine.responseTo r st data), plot := p }).pga) ∧
  t = { s with cells := t.cells, plots := t.plots, quads := t.quads, pga := t.pga }

/-- Bytes cut into pieces of given places and lengths. -/
def cutData : List (Nat × Nat) → List Byte → List (Nat × List Byte)
  | [], _ => []
  | (a, k) :: cs, bs => (a, bs.take k) :: cutData cs (bs.drop k)

/-- A chain frame has been sent on port f, and nothing else has gone out: in-band as a chain Message, or as a frame on the sideband (R357, R360). -/
def FrameSent (s t : Machine.State) (f type id flags : Nat) (payload : List Byte) : Prop :=
  if Machine.inBand s f then
    t.out = s.out ∧ t.pga = (Machine.setInbox s (4 + f) 4 (Machine.inboxOf s (4 + f) 4 ++
      [{ ingress := 16, txn := .req (Machine.chainMessage type id flags payload) }])).pga
  else t.pga = s.pga ∧ t.out = .sideband f (Machine.sbBytes type id flags payload) :: s.out

/-- What goes with a change of GLB_NODE.VALID: the node fields of the Calfos ports (R102, R348). -/
def nodeFields : List Machine.Fld :=
  Machine.F.GLB_NODE_VALID :: (List.range 8).flatMap fun f => [Machine.F.CFK_NODE_VALID f, Machine.F.CFK_NODE_NODE f]

/-- A segment reset has been asserted, outside Dormant and not during another's release: its cause and count, VALID and the roll call gone, the ports' release
held, and everything outside the always-on domain as at reset (R370, R471, R474). Step 21 is S1 of the release order of a device-level reset. -/
def SegmentReset (s t : Machine.State) : Prop :=
  t.ctl.step = 21 ∧ Machine.getF t Machine.F.RST_CAUSE_LAST = Machine.rcSegment ∧
    Machine.getF t Machine.F.RST_COUNT_SEGMENT = min (Machine.getF s Machine.F.RST_COUNT_SEGMENT + 1) Machine.F.RST_COUNT_SEGMENT.max ∧
    Machine.bitF t Machine.F.GLB_NODE_VALID = false ∧ Machine.getF t Machine.F.CHN_STATUS_ROLL_STATE = Machine.rsIdle ∧ t.chain.wait = 0 ∧
    Machine.getF t Machine.F.RST_STATUS_PORT = 15 ∧ t.plots = [] ∧ t.links = [] ∧ t.quads = [] ∧ t.ctl.rollDue = true

/-- A register address lies in the block of a hold bit of RST_SOFT, numbered as R486 does. -/
def softBitOf (i a : Nat) : Bool :=
  let lies (lo n : Nat) : Bool := decide (lo ≤ a) && decide (a < lo + n)
  let b := 0x100000 + i / 6 * 0x40000
  if i < 24 then match i % 6 with
    | 0 => lies b 0x10000
    | 1 => lies (b + 0x10000) 0x8000
    | 2 => lies (b + 0x18000) 0x8000
    | 3 => lies (b + 0x20000) 0x10000
    | 4 => lies (b + 0x30000) 0x10000
    | _ => lies b 0x40000
  else if i < 40 then lies (0x200000 + (i - 24) / 2 * 0x10000 + i % 2 * 0x8000) 0x8000
  else if i = 40 then lies 0x70000 0x10000
  else if i = 41 then lies 0x90000 0x10000
  else if i = 43 then lies 0xA0000 0x10000
  else false

/-- A command of Hedge's session is taken: the buffer is open to its sender and the session is open (R402, R403). -/
def SessionOpen (s : Machine.State) (who : Party) : Prop := Machine.spdmOpen s who = true ∧ Machine.bitF s Machine.F.HDG_STATUS_SESSION = true

/-- Hedge has answered: its answer stands in the buffer with its length, the event is set, the session's time starts anew, and the command ended with a code. -/
def HedgeAnswers (s t : Machine.State) (answer : List Byte) (code : Nat) : Prop :=
  (∀ k < min answer.length 4096, Machine.memByte t (Machine.spdmBuf + k) = (answer[k]?).getD 0) ∧
    Machine.getF t Machine.F.HDG_SPDM_CTRL_LEN = min answer.length 4096 ∧ Machine.bitF t Machine.F.HDG_EVENT_SPDM_DONE = true ∧
    ∃ l, t.out = .hedge code :: l ++ s.out

/-- Nothing but Hedge's endpoint and the fields of a list has changed: the buffer, its length, the event, and Hedge's own store (R402, R415). -/
def HedgeOnly (s t : Machine.State) (fs : List Machine.Fld) : Prop :=
  t = { s with cells := t.cells, mem := t.mem, hdg := t.hdg, out := t.out } ∧
    FieldsBut s t ([Machine.F.HDG_SPDM_CTRL_BUSY, Machine.F.HDG_SPDM_CTRL_LEN, Machine.F.HDG_EVENT_SPDM_DONE, Machine.F.EVG_PEND_PEND 19] ++ fs) ∧
    (∀ a, (a < Machine.spdmBuf ∨ Machine.spdmBuf + 4096 ≤ a) → Machine.memByte t a = Machine.memByte s a)

/-- The device has tripped into Safe for a cause, unless an earlier cause stands (R413): outside Doze and the release order, where a trip comes at once. -/
def Trips (s t : Machine.State) (cause : Nat) : Prop :=
  Machine.bitF t Machine.F.HDG_STATUS_SAFE = true ∧ Machine.bitF t Machine.F.HDG_STATUS_RELOADED = false ∧ Machine.pwmMode t = Machine.moSafe ∧
    t.unit0.all (fun x => match x.2 with | .aperture _ _ _ late _ _ => late | _ => true) = true ∧
    Machine.getF t Machine.F.HDG_STATUS_CAUSE = (if Machine.getF s Machine.F.HDG_STATUS_CAUSE = 0 then cause else Machine.getF s Machine.F.HDG_STATUS_CAUSE)

/-- Every line of a plot's quadrant that is the plot's is marked (R96). -/
def LinesMarked (t : Machine.State) (p : Nat) : Prop :=
  ∀ l ∈ (Machine.quadOf t (Machine.quadrantOf p)).lines, l.1 / 64 = Machine.indexOf p → l.2.marked = true

end Sys2Proof
end

