-- ==== Sys2Proof/Certificates/Slice0/Obligations.lean ====
section
/-!
DEFINITION. The statements about the block, one `def Obligations.<Name> : Prop` each. `Runs i s P` says that exec answers a next state with P.
-/
open Sys2Proof Sys2Proof.Machine

/-! ### The Event Gate (chapter 16) -/

/-- R420. A read of EVG_CLAIM by its own core, with no source active on it and n the lowest source that is pending, enabled, routed to it and not active,
returns VALID with n, makes n active, clears its pending bit and counts in CLAIMS; MEIP falls. With no source to claim a claim returns 0 and counts in SPURIOUS; while a source is active it returns BUSY with that source and changes
nothing; a host read, a read by another core and a 4-byte read of the upper half return 0 and claim nothing. -/
def Obligations.EventGateClaims : Prop :=
  (∀ (s : State) (c : Fin 4) (n : Nat), bitF s (F.EVG_CORE_ACTIVE c) = false → n < 1536 → evgReady s c n = true → (∀ m < n, evgReady s c m = false) →
    Runs (.evgClaim c .gardener c false) s fun t =>
      t.out = .read .gardener (2 ^ 31 + n) :: s.out ∧ getF t (F.EVG_CORE_ACTIVE c) = 1 ∧ getF t (F.EVG_CORE_ACTIVE_SRC c) = n ∧
      getF t (F.EVG_CORE_CLAIMS c) = min (getF s (F.EVG_CORE_CLAIMS c) + 1) 0xFFFFFFFF ∧ ¬ Pending t n ∧ evgMeip t c = false ∧ OnlyShown s t ∧
      FieldsBut s t [F.EVG_PEND_PEND (n / 64), F.EVG_CORE_ACTIVE c, F.EVG_CORE_ACTIVE_SRC c, F.EVG_CORE_CLAIMS c]) ∧
  (∀ (s : State) (c : Fin 4), bitF s (F.EVG_CORE_ACTIVE c) = false → (∀ m < 1536, evgReady s c m = false) →
    Runs (.evgClaim c .gardener c false) s fun t =>
      t.out = .read .gardener 0 :: s.out ∧ getF t (F.EVG_CORE_SPURIOUS c) = min (getF s (F.EVG_CORE_SPURIOUS c) + 1) 0xFFFF ∧ OnlyShown s t ∧
      FieldsBut s t [F.EVG_CORE_SPURIOUS c]) ∧
  (∀ (s : State) (c : Fin 4), bitF s (F.EVG_CORE_ACTIVE c) = true →
    Runs (.evgClaim c .gardener c false) s fun t => t = emit s (.read .gardener (2 ^ 30 + getF s (F.EVG_CORE_ACTIVE_SRC c)))) ∧
  (∀ (s : State) (c k : Fin 4) (who : Party) (high : Bool), isHost who = true ∨ k ≠ c ∨ high = true →
    Runs (.evgClaim c who k high) s fun t => t = emit s (.read who 0))

/-- R421. An EOI by the core that names its active source ends it: nothing is active on the core, and a Level source whose condition holds is pending
again. Any other EOI of the Gardener changes nothing but EVG_STATUS.EOI_BAD. -/
def Obligations.EoiEndsActive : Prop :=
  (∀ (s : State) (c : Fin 4) (n : BitVec 11), partyOpen s .gardener = true → bitF s (F.EVG_CORE_ACTIVE c) = true →
    getF s (F.EVG_CORE_ACTIVE_SRC c) = n.toNat →
    Runs (.evgEoi c .gardener c n) s fun t =>
      getF t (F.EVG_CORE_ACTIVE c) = 0 ∧ getF t (F.EVG_CORE_ACTIVE_SRC c) = 0 ∧ (levelHolds s n.toNat = true → evgActive t n.toNat = false → Pending t n.toNat) ∧
      OnlyCells s t ∧ FieldsBut s t [F.EVG_CORE_ACTIVE c, F.EVG_CORE_ACTIVE_SRC c, F.EVG_PEND_PEND (n.toNat / 64)]) ∧
  (∀ (s : State) (c k : Fin 4) (n : BitVec 11), partyOpen s .gardener = true →
    k ≠ c ∨ bitF s (F.EVG_CORE_ACTIVE c) = false ∨ getF s (F.EVG_CORE_ACTIVE_SRC c) ≠ n.toNat →
    Runs (.evgEoi c .gardener k n) s fun t =>
      bitF t F.EVG_STATUS_EOI_BAD = true ∧ OnlyCells s t ∧ FieldsBut s t [F.EVG_STATUS_EOI_BAD, F.EVG_PEND_PEND 0])

/-- R418, R428, R429. Writes of the Gardener outside Safe: a route of a source that exists is set and every other route kept; a reserved source sets
FORMAT and leaves every route alone; the SET and CLR addresses set and clear the bits of the sources that exist. -/
def Obligations.EventGateWrites : Prop :=
  (∀ (s : State) (n : BitVec 11) (c : Fin 4), partyOpen s .gardener = true → evgSource n.toNat = true →
    Runs (.evgRouteWrite .gardener n c) s fun t =>
      evgRoute t n.toNat = c ∧ (∀ m, m ≠ n.toNat → evgRoute t m = evgRoute s m) ∧ OnlyCells s t ∧ FieldsBut s t [F.EVG_ROUTE_ROUTE (n.toNat / 32)]) ∧
  (∀ (s : State) (n : BitVec 11) (c : Fin 4), partyOpen s .gardener = true → evgSource n.toNat = false →
    Runs (.evgRouteWrite .gardener n c) s fun t => bitF t F.EVG_STATUS_FORMAT = true ∧ (∀ m, evgRoute t m = evgRoute s m) ∧ OnlyCells s t) ∧
  (∀ (s : State) (w : Fin 24) (m : Word), partyOpen s .gardener = true →
    Runs (.evgEnableSet .gardener w m) s fun t =>
      (∀ i < 64, evgEnabled t (64 * w + i) = (evgEnabled s (64 * w + i) || (m.getLsbD i && evgSource (64 * w + i)))) ∧ OnlyCells s t ∧
      FieldsBut s t [F.EVG_ENABLE_ENABLE w]) ∧
  (∀ (s : State) (w : Fin 24) (m : Word), partyOpen s .gardener = true →
    Runs (.evgEnableClr .gardener w m) s fun t =>
      (∀ i < 64, evgEnabled t (64 * w + i) = (evgEnabled s (64 * w + i) && !m.getLsbD i)) ∧ OnlyCells s t ∧
      FieldsBut s t [F.EVG_ENABLE_ENABLE w]) ∧
  (∀ (s : State) (w : Fin 24) (m : Word), partyOpen s .gardener = true →
    Runs (.evgPendSet .gardener w m) s fun t =>
      (∀ i < 64, evgPending t (64 * w + i) = (evgPending s (64 * w + i) || (m.getLsbD i && evgSource (64 * w + i)))) ∧ OnlyCells s t ∧
      FieldsBut s t [F.EVG_PEND_PEND w]) ∧
  (∀ (s : State) (w : Fin 24) (m : Word), partyOpen s .gardener = true →
    Runs (.evgPendClr .gardener w m) s fun t =>
      (∀ i < 64, evgPending t (64 * w + i) = true →
        evgPending s (64 * w + i) = true ∧ m.getLsbD i = false ∨ levelHolds s (64 * w + i) = true) ∧
      (∀ i < 64, evgPending s (64 * w + i) = true → m.getLsbD i = false → evgPending t (64 * w + i) = true) ∧ OnlyCells s t)

/-! ### Rootstock (chapter 17) -/

/-- R431, R432, R434, R410. A ROOT_DATA write of the Gardener that the word's class allows, that changes the word and that finds a token is queued behind the
writes before it and takes its token; ROOT_RESULT names the index, and INDEX advances where INC is 1. Nothing else of Rootstock changes. -/
def Obligations.RootWriteQueued : Prop :=
  ∀ (s : State) (v : Word) (i : Nat), partyOpen s .gardener = true → getF s F.ROOT_ADDR_INDEX = i →
    classRefuses s i v.toNat true = none → rootComing s i ≠ v.toNat → mget s.root.used i 0 < 64 →
    Runs (.rootstockWrite .gardener false v) s fun t =>
      t.root = { s.root with queue := s.root.queue ++ [{ index := i, value := v.toNat, gardener := true }],
                             used := mput s.root.used i (mget s.root.used i 0 + 1) } ∧
      getF t F.ROOT_RESULT_INDEX = i % 8192 ∧ bitF t F.ROOT_STATUS_BUSY = true ∧
      getF t F.ROOT_ADDR_INDEX = (if bitF s F.ROOT_ADDR_INC then (i + 1) % 8192 else i) ∧
      t = { s with cells := t.cells, root := t.root }

/-- R432, R434, R410, R431. A write that its class refuses changes nothing, ends with the class's result, counts in REFUSED and sets ROOT_EVENT.REFUSED; so does one that
finds no token, which ends RATE and sets HDG_EVENT.ROOT_RATE; a write of the value the word holds ends OK; a 4-byte write ends SIZE; a
host write only counts in HOST_IGNORED. In none of them does a word or the queue change. -/
def Obligations.RootWriteEndsAtOnce : Prop :=
  (∀ (s : State) (v : Word) (i r : Nat), partyOpen s .gardener = true → getF s F.ROOT_ADDR_INDEX = i →
    classRefuses s i v.toNat true = some r →
    Runs (.rootstockWrite .gardener false v) s fun t =>
      t.root = s.root ∧ getF t F.ROOT_RESULT_WRESULT = r ∧ bitF t F.ROOT_EVENT_REFUSED = true ∧
      getF t F.ROOT_COUNT_REFUSED = min (getF s F.ROOT_COUNT_REFUSED + 1) 0xFFF ∧ OnlyCells s t) ∧
  (∀ (s : State) (v : Word) (i : Nat), partyOpen s .gardener = true → getF s F.ROOT_ADDR_INDEX = i →
    classRefuses s i v.toNat true = none → rootComing s i ≠ v.toNat → 64 ≤ mget s.root.used i 0 →
    Runs (.rootstockWrite .gardener false v) s fun t =>
      t.root = s.root ∧ getF t F.ROOT_RESULT_WRESULT = 2 ∧ bitF t F.ROOT_EVENT_REFUSED = true ∧ bitF t F.HDG_EVENT_ROOT_RATE = true ∧ OnlyCells s t) ∧
  (∀ (s : State) (v : Word) (i : Nat), partyOpen s .gardener = true → getF s F.ROOT_ADDR_INDEX = i →
    classRefuses s i v.toNat true = none → rootComing s i = v.toNat →
    Runs (.rootstockWrite .gardener false v) s fun t => t.root = s.root ∧ getF t F.ROOT_RESULT_WRESULT = 0 ∧ OnlyCells s t) ∧
  (∀ (s : State) (v : Word), partyOpen s .gardener = true →
    Runs (.rootstockWrite .gardener true v) s fun t => t.root = s.root ∧ getF t F.ROOT_RESULT_WRESULT = 4 ∧ OnlyCells s t) ∧
  (∀ (s : State) (p : Fin 4) (v : Word) (half : Bool), partyOpen s (.host p) = true →
    Runs (.rootstockWrite (.host p) half v) s fun t =>
      getF t F.ROOT_COUNT_HOST_IGNORED = min (getF s F.ROOT_COUNT_HOST_IGNORED + 1) 0xFF ∧ OnlyCells s t ∧
      FieldsBut s t [F.ROOT_COUNT_HOST_IGNORED])

/-- R431, R435. A read of ROOT_DATA answers with the word at INDEX as the array holds it. A clean read leaves every event alone; a corrected one sets ROOT_WORD.CORR and
ROOT_EVENT.CORR and counts; an uncorrectable one returns the bits as found and sets ROOT_WORD.UNCORR and ROOT_EVENT.UNCORR. No word changes. -/
def Obligations.RootReads : Prop :=
  (∀ (s : State) (p : Fin 4) (i : Nat), s.wf = true → getF s F.ROOT_ADDR_INDEX = i →
    Runs (.rootstockRead (.host p) .clean) s fun t =>
      t.out = .read (.host p) (mget s.root.words i 0 % 2 ^ 64) :: s.out ∧ t.root.words = s.root.words ∧ getF t F.ROOT_EVENT_CORR = getF s F.ROOT_EVENT_CORR ∧
      getF t F.ROOT_ADDR_INDEX = getF s F.ROOT_ADDR_INDEX) ∧
  (∀ (s : State) (p : Fin 4) (i : Nat), s.wf = true → getF s F.ROOT_ADDR_INDEX = i →
    Runs (.rootstockRead (.host p) .corrected) s fun t =>
      t.out = .read (.host p) (mget s.root.words i 0 % 2 ^ 64) :: s.out ∧ t.root.words = s.root.words ∧ bitF t F.ROOT_WORD_CORR = true ∧
      bitF t F.ROOT_EVENT_CORR = true ∧ getF t F.ROOT_COUNT_CORR = min (getF s F.ROOT_COUNT_CORR + 1) 0xFFF) ∧
  (∀ (s : State) (p : Fin 4) (v : Word),
    Runs (.rootstockRead (.host p) (.uncorrectable v)) s fun t =>
      t.out = .read (.host p) v.toNat :: s.out ∧ t.root.words = s.root.words ∧ bitF t F.ROOT_WORD_UNCORR = true ∧ bitF t F.ROOT_EVENT_UNCORR = true) ∧
  (∀ (s : State) (e : RootErr), bitF s F.ROOT_ADDR_INC = true →
    Runs (.rootstockRead .gardener e) s fun t => getF t F.ROOT_ADDR_INDEX = (getF s F.ROOT_ADDR_INDEX + 1) % 8192 ∧ t.root.words = s.root.words)

/-- R432, R434, R436. A pulse that verifies makes the first queued write's value the word's value and ends it OK; no other word changes, and a Once word is WRITTEN from then
on. With no reset held and no COMMIT waiting, the writes that follow it stay in order. A pulse that does not verify sets VERIFY_FAIL, and what the word then
holds is a free value (assumption 3). -/
def Obligations.RootPulses : Prop :=
  (∀ (s : State) (w : RootWrite) (ws : List RootWrite) (n : Fin 3), s.wf = true → s.root.queue = w :: ws → s.root.held = [] → s.root.commit = none → n.val < 2 →
    Runs (.rootstockPulseDone n) s fun t =>
      mget t.root.words w.index 0 = w.value ∧ (∀ i, i ≠ w.index → mget t.root.words i 0 = mget s.root.words i 0) ∧
      (rootClass w.index = 1 → mget t.root.written w.index false = true) ∧ (∃ k, t.root.queue = ws.drop k) ∧
      (w.gardener = true → getF t F.ROOT_RESULT_WRESULT = 0) ∧ t = { s with cells := t.cells, root := t.root }) ∧
  (∀ (s : State) (w : RootWrite) (ws : List RootWrite), s.wf = true → s.root.queue = w :: ws → s.root.held = [] → s.root.commit = none →
    Runs (.rootstockPulseDone 2) s fun t =>
      bitF t F.ROOT_EVENT_VERIFY_FAIL = true ∧ mget t.root.words w.index 0 = (Config.freeWord s.free).toNat ∧ t.free = s.free + 1 ∧
      (∀ i, i ≠ w.index → mget t.root.words i 0 = mget s.root.words i 0))

/-- R448, R449, R410. COMMIT of a bed with no write to it queued ends with the result of the first check it fails, and otherwise OK or RATE, as
its STATE write is taken or refused; REVERT queues REJECTED with REASON COMMAND for
the bed in effect and ends OK, and with no bed to fall to ends NO_OTHER; CHECK shows which beds are valid and writes nothing; each bucket gains one write
every 100 ms, up to 64. -/
def Obligations.RootCommands : Prop :=
  (∀ (s : State) (b : Fin 4), b.val = 1 ∨ b.val = 2 → partyOpen s .gardener = true → bitF s F.ROOT_RESULT_BUSY = false →
    (s.root.queue.any fun w => w.index / 3072 == b.val - 1) = false →
    Runs (.rootCommit .gardener b) s fun t =>
      bitF t F.ROOT_RESULT_BUSY = false ∧ t.root.words = s.root.words ∧
      getF t F.ROOT_RESULT_CRESULT =
        (if bedNow s = b then 3 else if bedValidAs s b 0 = false then 1
         else if bedVersion s b ≤ (if bedNow s = 0 then 0 else bedVersion s (bedNow s)) then 2
         else if (rootPut s (bedIndex b 2) 0).2 then 0 else 5) ∧
      (getF t F.ROOT_RESULT_CRESULT = 0 → rootComing s (bedIndex b 2) ≠ 0 →
        t.root.queue = s.root.queue ++ [{ index := bedIndex b 2, value := 0, gardener := false }])) ∧
  (∀ (s : State) (b : Nat), partyOpen s .gardener = true → bitF s F.ROOT_RESULT_BUSY = false → bedNow s = b → b = 1 ∨ b = 2 →
    bedValid s (otherBed b) = true → mget s.root.used (bedIndex b 2) 0 < 64 → rootComing s (bedIndex b 2) ≠ bedWord s b 2 % 16 + 2 * 16 + 2 ^ 7 →
    Runs (.rootRevert .gardener) s fun t =>
      getF t F.ROOT_RESULT_CRESULT = 0 ∧ t.root.words = s.root.words ∧ getF t F.ROOT_STATUS_IN_EFFECT = b ∧
      ∃ l, t.root.queue = s.root.queue ++ { index := bedIndex b 2, value := bedWord s b 2 % 16 + 2 * 16 + 2 ^ 7, gardener := false } :: l) ∧
  (∀ s : State, partyOpen s .gardener = true → bitF s F.ROOT_RESULT_BUSY = false → bedNow s = 0 ∨ bedValid s (otherBed (bedNow s)) = false →
    Runs (.rootRevert .gardener) s fun t => getF t F.ROOT_RESULT_CRESULT = 4 ∧ t.root = s.root ∧ OnlyCells s t) ∧
  (∀ s : State, partyOpen s .gardener = true → bitF s F.ROOT_RESULT_BUSY = false →
    Runs (.rootCheck .gardener) s fun t =>
      bitF t F.ROOT_STATUS_VALID_A = bedValid s 1 ∧ bitF t F.ROOT_STATUS_VALID_B = bedValid s 2 ∧ getF t F.ROOT_RESULT_CRESULT = 0 ∧ OnlyCells s t) ∧
  (∀ s : State, s.wf = true →
    Runs .rootstockBucketRefill s fun t =>
      (∀ i, mget t.root.used i 0 = mget s.root.used i 0 - 1) ∧ t = { s with root := { s.root with used := t.root.used } })

/-! ### Registers (chapters 01 and 19) and SRAM errors (chapter 01) -/

/-- R11, R12, R13. A write, of 8 bytes or of a half, to a plain register of a block that is not held and whose clocks run, by the Gardener outside Safe or by host software behind an open
register page: every field takes the bits written by its access type, a field that would take a reserved encoding keeps its value, the write is then recorded once
in GLB_FORMAT, and nothing else changes. So with the plain registers of a plot page, whose writes are recorded nowhere, while the plot is not Disabled or Resetting and the function's Memory
Space Enable is 1, with those of the Gardener's private space, where GDN_ and MBX_ take 8-byte writes alone, and with the same registers by the Gardener's private address; a write of Gardener SRAM stores its bytes and no other. -/
def Obligations.RegisterWriteByType : Prop :=
  (∀ (s : State) (who : Party) (off : BitVec 24) (wide : Bool) (v : Word) (out : Outside) (a : Nat), off.toNat / 8 * 8 = a → a ∈ plainRegs →
    aligned off.toNat wide = true → regOpen s who a = true → clocksRun s a = true →
    Runs (.registerWrite who (.device off) wide v out) s fun t =>
      Written s t a (regWr off.toNat wide v.toNat) ∧
      (writesReserved s a (regWr off.toNat wide v.toNat) = true →
        bitF t F.GLB_FORMAT_VALID = true ∧ getF t F.GLB_FORMAT_COUNT = min (getF s F.GLB_FORMAT_COUNT + 1) F.GLB_FORMAT_COUNT.max) ∧
      (writesReserved s a (regWr off.toNat wide v.toNat) = false → FieldsBut s t (fieldsAt a)) ∧ OnlyCells s t ∧
      FieldsBut s t (fieldsAt a ++ [F.GLB_FORMAT_VALID, F.GLB_FORMAT_COUNT, F.GLB_FORMAT_WRITER, F.GLB_FORMAT_OFFSET, F.EVG_PEND_PEND 0])) ∧
  (∀ (s : State) (who : Party) (p : Fin 4096) (off : BitVec 16) (wide : Bool) (v : Word) (out : Outside) (a : Nat), off.toNat / 8 * 8 ∈ plainPage →
    a = 0x100000000 + p * 0x10000 + off.toNat / 8 * 8 → aligned off.toNat wide = true → funcMemory s p = true → pageDead s p = false →
    Runs (.registerWrite who (.page p off) wide v out) s fun t =>
      Written s t a (regWr off.toNat wide v.toNat) ∧ OnlyCells s t ∧ FieldsBut s t (fieldsAt a)) ∧
  (∀ (s : State) (x : BitVec 32) (wide : Bool) (v : Word) (out : Outside) (a : Nat), x.toNat / 8 * 8 = a → a ∈ plainPrivate →
    aligned x.toNat wide = true → wide = true ∨ 0x30020000 ≤ a →
    Runs (.registerWrite .gardener (.gardener x) wide v out) s fun t =>
      Written s t a (regWr x.toNat wide v.toNat) ∧ OnlyCells s t ∧ FieldsBut s t (fieldsAt a)) ∧
  (∀ (s : State) (off : BitVec 24) (wide : Bool) (v : Word) (out : Outside), aligned off.toNat wide = true →
    exec (.registerWrite .gardener (.gardener (BitVec.ofNat 32 (0x20000000 + off.toNat))) wide v out) s =
      exec (.registerWrite .gardener (.device off) wide v out) s) ∧
  (∀ (s : State) (x : BitVec 32) (wide : Bool) (v : Word) (out : Outside), 0x10000000 ≤ x.toNat → x.toNat < 0x10400000 → aligned x.toNat wide = true →
    Runs (.registerWrite .gardener (.gardener x) wide v out) s fun t =>
      (∀ k < (if wide then 8 else 4), (memByte t (x.toNat + k)).toNat = v.toNat / 2 ^ (8 * k) % 256) ∧
      (∀ y, y < x.toNat ∨ x.toNat + (if wide then 8 else 4) ≤ y → memByte t y = memByte s y) ∧ t = { s with mem := t.mem })

/-- R14, R15, R413, R510, R457, R461, R509. A write to an address that no block assigns, a host write while its register page is closed, a firmware write in Safe, and a write to a block that is held
change nothing. A host's misaligned read is completed with Completer Abort, logged in PF0, and the Gardener's ends in a bus error; a read of a quadrant, or a write to it, whose clocks
are stopped restarts them, and a read counts the wake, and in Doze a read of the Gardener wakes the device. -/
def Obligations.RegisterAccessesApart : Prop :=
  (∀ (s : State) (who : Party) (wide : Bool) (v : Word) (out : Outside), Leaves (.registerWrite who (.device 0x0BF000) wide v out) s) ∧
  (∀ (s : State) (who : Party) (q : Fin 4) (wide : Bool) (v : Word) (out : Outside), partyOpen s who = false ∨ blockHeld s (A.LDG_LIMIT q) = true →
    Leaves (.registerWrite who (.device (BitVec.ofNat 24 (A.LDG_LIMIT q))) wide v out) s) ∧
  (∀ (s : State) (n core : Fin 4) (tag : Nat) (id : BitVec 16), s.wf = true →
    Runs (.unalignedRegisterAccess (.host n) core tag id) s fun t =>
      (portOf t n).txq = (portOf s n).txq ++ errorTlp s (n * 1024) .completerAbort true ++
        [{ kind := .completion, plot := n * 1024, reqId := id.toNat, tag := tag, status := .ca }] ∧
      AerErr.completerAbort ∈ (funcOf t (n * 1024)).aer ∧ t.out = .aer (n * 1024) .completerAbort :: s.out ∧
      getF t (F.HPT_COUNT_CA_SENT n) = min (getF s (F.HPT_COUNT_CA_SENT n) + 1) (F.HPT_COUNT_CA_SENT n).max ∧
      t = { s with cells := t.cells, funcs := t.funcs, ports := t.ports, out := t.out }) ∧
  (∀ (s : State) (core : Fin 4) (tag : Nat) (id : BitVec 16),
    Runs (.unalignedRegisterAccess .gardener core tag id) s fun t => t = emit s (.bus core none)) ∧
  (∀ (s : State) (who : Party) (q : Fin 4) (out : Outside), regOpen s who (A.LDG_LIMIT q) = true → pwmMode s ≠ moDoze →
    bitOf (getF s F.PWM_GATE_RUN) q = false →
    Runs (.registerWrite who (.device (BitVec.ofNat 24 (A.LDG_LIMIT q))) true 0x0010010010010000 out) s fun t =>
      bitOf (getF t F.PWM_GATE_RUN) q = true ∧ getF t (F.LDG_LIMIT_WR_DMA q) = 1 ∧
      (quadOf t q).pf = (quadOf s q).pf.filter (fun e => decide (s.now < e.born + e.life)) ∧ ((∀ e ∈ (quadOf s q).pf, s.now < e.born + e.life) → OnlyCells s t)) ∧
  (∀ (s : State) (who : Party) (q : Fin 4), pwmMode s ≠ moDoze → bitOf (getF s F.PWM_GATE_RUN) q = false →
    Runs (.stoppedBlockRegisterRead who q) s fun t =>
      bitOf (getF t F.PWM_GATE_RUN) q = true ∧
      (quadOf t q).pf = (quadOf s q).pf.filter (fun e => decide (s.now < e.born + e.life)) ∧
      ((∀ e ∈ (quadOf s q).pf, s.now < e.born + e.life) → OnlyCells s t ∧ FieldsBut s t [F.PWM_GATE_RUN, F.PWM_GATE_WAKES]))

/-- R31, R38, R416. A corrected error raises the counter of its region, which stops at 0xFF, and no other region's. An uncorrectable error sets its region's bit of GLB_ECC_STATUS, is captured where nothing is, raises the region's source, and does to the structure
struck what R31's table says: a window line is discarded; a Trellis entry counts as empty until it is rewritten; a watched slot takes its next value as new and raises nothing for it; the bus of a core returns an error. -/
def Obligations.EccErrors : Prop :=
  (∀ (s : State) (r : Region) (n : Fin 4),
    Runs (.sramEccCorrected r n) s fun t =>
      bits (getF t F.GLB_ECC_CORR_CORR) (8 * Region.code r) 8 = min (bits (getF s F.GLB_ECC_CORR_CORR) (8 * Region.code r) 8 + 1) 255 ∧
      (∀ k, k < 6 → k ≠ Region.code r → bits (getF t F.GLB_ECC_CORR_CORR) (8 * k) 8 = bits (getF s F.GLB_ECC_CORR_CORR) (8 * k) 8) ∧
      FieldsBut s t [F.GLB_ECC_CORR_CORR] ∧ t = { s with cells := t.cells, funcs := t.funcs, ports := t.ports, out := t.out }) ∧
  (∀ (s : State) (p : Fin 4096) (w : Fin 64) (l : Line) (off : BitVec 25), s.wf = true → lineOf s p w = some l →
    bitF s F.GLB_ECC_ADDR_VALID = false →
    Runs (.sramEccUncorrectable (.windowLine p w) off) s fun t =>
      lineOf t p w = some { l with entry := none } ∧ bitOf (getF t F.GLB_ECC_STATUS_UNCORR) 0 = true ∧ bitF t F.GLB_ECC_ADDR_VALID = true ∧
      getF t F.GLB_ECC_ADDR_REGION = 0 ∧ Pending t 0 ∧ t = { s with cells := t.cells, quads := t.quads }) ∧
  (∀ (s : State) (i : Fin 65536) (off : BitVec 25),
    Runs (.sramEccUncorrectable (.trellisEntry i) off) s fun t =>
      entryLive t i = false ∧ bitF t F.TRL_EVENT_ECC = true ∧ t.trl.table = s.trl.table ∧ t = { s with cells := t.cells, trl := t.trl }) ∧
  (∀ (s : State) (p : Fin 4096) (i : Fin 64) (off : BitVec 25),
    Runs (.sramEccUncorrectable (.rakeSlot p i) off) s fun t =>
      (∀ x, mfind t.rake.slots (p * 64 + i) = some x → x.fresh = true ∧ x.quiet = true) ∧ t = { s with cells := t.cells, rake := t.rake }) ∧
  (∀ (s : State) (c : Fin 4) (off : BitVec 25),
    Runs (.sramEccUncorrectable (.gardenerSram c) off) s fun t =>
      bitOf (getF t F.GLB_ECC_STATUS_UNCORR) 5 = true ∧ t.out = .bus c none :: s.out ∧ OnlyShown s t)

/-! ### Pergola (chapter 07) -/

/-- R207, R208, R26, R209. The transaction an egress arbiter serves goes to the end of its client's input buffer; a lone transaction whose charge one quantum covers and for which the client has room is
the one served. The head of the reflection port is dispatched as one that came by a Calfos port: for unit 0 it goes toward the Gardener, and for a unit that serves no request it is answered
Nak-Address. An egress with a transaction that cannot be sent sets PGA_EVENT.SAT. -/
def Obligations.PergolaMoves : Prop :=
  (∀ (s u : State) (e : Fin 20) (c : Nat) (t : QTxn), coreRuns s = true → t.host = none → serveClasses s e (classesNow s e) = (u, some (c, t)) → e ≠ 16 ∨ (∃ r, t.txn = .resp r) →
    Runs (.pergolaTransfer e) s fun v => inboxOf v e c = inboxOf s e c ++ [t]) ∧
  (∀ (s : State) (e : Fin 20) (f : FlowId) (t : QTxn) (d : Nat), s.pga.active = [(e.val * 8, [({ flow := f, deficit := d, queue := [t] } : FlowSt)])] →
    txnCharge t.txn ≤ d + 64 * flowWeight s f → egressCredit s e 0 t = true → coreRuns s = true → t.host = none → e ≠ 16 →
    Runs (.pergolaTransfer e) s fun v => inboxOf v e 0 = inboxOf s e 0 ++ [t]) ∧
  (∀ (s : State) (r : FabReq) (b : QTxn) (bs : List QTxn), coreRuns s = true → (∀ c ∈ [4, 5, 2, 3], inboxOf s 19 c = []) → inboxOf s 19 0 = b :: bs → b.txn = .req r →
    fabMalformed r = false → nodeUnit r.dest = 0 →
    Runs .reflectionIngress s fun t => t = occUpdate (pgaPush (setInbox s 19 0 bs) 16 0 .gardener { b with ingress := 19, own := false }) 19) ∧
  (∀ (s : State) (r : FabReq) (b : QTxn) (bs : List QTxn), coreRuns s = true → (∀ c ∈ [4, 5, 2, 3], inboxOf s 19 c = []) → inboxOf s 19 0 = b :: bs → b.txn = .req r →
    r.op ≠ .message → 16 ≤ nodeUnit r.dest →
    Runs .reflectionIngress s fun t => t = occUpdate (sendResponse (setInbox s 19 0 bs) 19 (originFlow (setInbox s 19 0 bs) { b with ingress := 19 }) r 2 []) 19) ∧
  (∀ (s : State) (e : Fin 20), egressStalled s e = true →
    Runs (.pgaSatTimeout e) s fun t =>
      bitF t F.PGA_EVENT_SAT = true ∧ (bitF s F.PGA_EVENT_SAT = false → evgLevel s 1248 = false → Pending t 1248) ∧ OnlyCells s t ∧
      FieldsBut s t [F.PGA_EVENT_SAT, F.EVG_PEND_PEND 19])

/-! ### TLPs at a host port (chapter 10) -/

/-- R269, R55, R58, R268, R276, R119, R278. What a port does with a TLP that it takes. A memory read, a write that is not poisoned or an AtomicOp to BAR2 or BAR4 of a Serving plot, inside the BAR,
enters the plot queue; for a Disabled plot a read is completed with Completer Abort and a write is dropped. A request to a function whose Memory Space Enable is 0, or beyond the BAR, an
MRdLk, and an I/O, Type 1 configuration or Deferrable Memory Write request are completed with Unsupported Request. An aligned read of 4 or 8 bytes of the plot page returns the register's
bytes; PP_ID is as R51 gives it; an aligned write of 4 or 8 bytes of the plot page, and of the register page while it is open, is the REGISTER_WRITE of the
same register; another access of BAR0 is completed with Completer Abort. A malformed TLP, a link error and a TLP beyond the credits are logged in PF0. A vendor-defined message whose key hits leaves by
Pergola as a Message, and one that misses is counted; a slot power limit is captured; PME_Turn_Off is answered by PME_TO_Ack; a message of no row is discarded. -/
def Obligations.HostRequestsDecided : Prop :=
  (∀ (s : State) (n : Fin 4) (t : Tlp) (out : Outside) (p : Nat), s.wf = true → p = n * 1024 + t.index → TlpTaken s n t → funcMemory s p = true →
    t.kind = .memRead ∨ t.kind = .memWrite ∨ t.kind = .atomic ∧ bitF s (F.PE_CAPS_ATOMIC_EN p) = true → t.poisoned = false → t.bar = 2 ∨ t.bar = 4 →
    t.off + max t.len 1 ≤ barSize s p (t.bar == 4) → plotState s p = psServing → plotQueueUsed s p < 32 → (∀ x ∈ (quadOf s n).held, x.1 ≠ p) →
    Runs (.hostTlpReceive n t out) s fun u => (plotOf u p).queue = (plotOf s p).queue ++ [tlpReq s t] ∧ u.funcs = s.funcs ∧ u.out = s.out ∧
      (portOf u n).txq = (portOf s n).txq) ∧
  (∀ (s : State) (n : Fin 4) (t : Tlp) (out : Outside) (p : Nat), s.wf = true → p = n * 1024 + t.index → TlpTaken s n t → funcMemory s p = true →
    t.kind = .memRead → t.bar = 2 ∨ t.bar = 4 → t.off + max t.len 1 ≤ barSize s p (t.bar == 4) → plotState s p = psDisabled →
    Runs (.hostTlpReceive n t out) s fun u => AnswersError s u n p t .completerAbort .ca) ∧
  (∀ (s : State) (n : Fin 4) (t : Tlp) (out : Outside) (p : Nat), s.wf = true → p = n * 1024 + t.index → TlpTaken s n t → funcMemory s p = true →
    t.kind = .memWrite → t.bar = 2 ∨ t.bar = 4 → t.off + max t.len 1 ≤ barSize s p (t.bar == 4) → plotState s p = psDisabled →
    Runs (.hostTlpReceive n t out) s fun u =>
      AerErr.completerAbort ∈ (funcOf u p).aer ∧ u.plots = s.plots ∧ u.mem = s.mem ∧ u.pga = s.pga ∧
      ∀ x ∈ (portOf u n).txq, x ∈ (portOf s n).txq ∨ x.kind = .errNonFatal ∨ x.kind = .errFatal ∨ x.kind = .errCor) ∧
  (∀ (s : State) (n : Fin 4) (t : Tlp) (out : Outside) (p : Nat), s.wf = true → p = n * 1024 + t.index → TlpTaken s n t → t.poisoned = false →
    t.kind = .memRead ∧ (funcMemory s p = false ∨ tlpBar s p t.bar < t.off + max t.len 1) ∨
      t.kind = .lockedRead ∧ (t.bar = 0 ∨ t.bar = 2 ∨ t.bar = 4) ∨ t.kind = .ioRequest ∨ t.kind = .cfgType1 ∨ t.kind = .deferrableWrite →
    Runs (.hostTlpReceive n t out) s fun u => AnswersError s u n p t .unsupportedRequest .ur) ∧
  (∀ (s : State) (n : Fin 4) (t : Tlp) (out : Outside) (p : Nat), s.wf = true → p = n * 1024 + t.index → TlpTaken s n t → funcMemory s p = true →
    t.kind = .memRead → t.bar = 0 → t.len = 4 ∨ t.len = 8 → t.off % t.len = 0 → t.off < 0x10000 →
    Runs (.hostTlpReceive n t out) s fun u =>
      (portOf u n).txq = (portOf s n).txq ++
        [{ kind := .completionData, plot := p, reqId := t.reqId, tag := t.tag, len := t.len,
           data := ((leBytes 8 (pageWordRead (linkWork s n) p (t.off / 8 * 8))).drop (t.off % 8)).take t.len }] ∧
      (t.off = 0 → pageWordRead (linkWork s n) p 0 = p * 2 ^ 20 + n * 2 ^ 18 + t.index * 2 ^ 8 + 1) ∧ u.funcs = s.funcs ∧ u.plots = s.plots) ∧
  (∀ (s : State) (n : Fin 4) (t : Tlp) (out : Outside) (p : Fin 4096), p.val = n * 1024 + t.index → TlpTaken s n t → funcMemory s p = true →
    t.kind = .memWrite → t.poisoned = false → t.bar = 0 → t.len = 4 ∨ t.len = 8 → t.off % t.len = 0 → t.off < 0x10000 → t.data.length ≤ 8 →
    exec (.hostTlpReceive n t out) s =
      exec (.registerWrite (.host n) (.page p (BitVec.ofNat 16 t.off)) (t.len == 8) (BitVec.ofNat 64 (leNat t.data)) out) (linkWork s n)) ∧
  (∀ (s : State) (n : Fin 4) (t : Tlp) (out : Outside), t.index = 0 → TlpTaken s n t → funcMemory s (n * 1024) = true → pageOpen s n = true →
    (portOf s n).bar0Big = true → t.kind = .memWrite → t.poisoned = false → t.bar = 0 → t.len = 4 ∨ t.len = 8 → t.off % t.len = 0 → 0x1000000 ≤ t.off →
    t.off < 0x2000000 → t.data.length ≤ 8 →
    exec (.hostTlpReceive n t out) s =
      exec (.registerWrite (.host n) (.device (BitVec.ofNat 24 (t.off - 0x1000000))) (t.len == 8) (BitVec.ofNat 64 (leNat t.data)) out) (linkWork s n)) ∧
  (∀ (s : State) (n : Fin 4) (t : Tlp) (out : Outside) (p : Nat), s.wf = true → p = n * 1024 + t.index → TlpTaken s n t → funcMemory s p = true →
    t.kind = .memRead → t.bar = 0 → t.off + max t.len 1 ≤ 0x10000 → (t.len ≠ 4 ∧ t.len ≠ 8) ∨ t.off % t.len ≠ 0 →
    Runs (.hostTlpReceive n t out) s fun u => AnswersError s u n p t .completerAbort .ca) ∧
  (∀ (s : State) (n : Fin 4) (t : Tlp) (out : Outside), s.wf = true → linkActive s n = true → coreRuns s = true → heldQ s n 0 = false → tlpCredit s n t = true →
    t.kind = .malformed →
    Runs (.hostTlpReceive n t out) s fun u =>
      AerErr.malformed ∈ (funcOf u (n * 1024)).aer ∧ u.plots = s.plots ∧
      (portOf u n).txq = (portOf s n).txq ++ errorTlp s (n * 1024) .malformed false) ∧
  (∀ (s : State) (n : Fin 4) (t : Tlp) (out : Outside) (e : LinkErr), s.wf = true → linkActive s n = true → coreRuns s = true → heldQ s n 0 = false →
    t.kind = .linkError e →
    Runs (.hostTlpReceive n t out) s fun u => AerErr.link e ∈ (funcOf u (n * 1024)).aer ∧ u.plots = s.plots) ∧
  (∀ (s : State) (n : Fin 4) (t : Tlp) (out : Outside), s.wf = true → linkActive s n = true → coreRuns s = true → heldQ s n 0 = false → tlpCredit s n t = false →
    t.kind = .memRead ∨ t.kind = .memWrite →
    Runs (.hostTlpReceive n t out) s fun u => AerErr.receiverOverflow ∈ (funcOf u (n * 1024)).aer ∧ u.plots = s.plots) ∧
  (∀ (s : State) (n : Fin 4) (t : Tlp) (out : Outside) (p i f r : Nat), p = n * 1024 + t.index → TlpTaken s n t → t.kind = .vendorMsg →
    funcEnabled s p = true → plotState s p = psServing → t.data.length ≤ 128 →
    trellisLookup (linkWork s n) 4 (p * 2 ^ 24 + t.vendor * 2 ^ 8 + t.vdh % 256) = some i →
    (routeOf (linkWork s n) (resId (entryResult s i)) (myNode s (1 + n)) (some p)).2 = .egress f r →
    Runs (.hostTlpReceive n t out) s fun u =>
      ∃ v, v = (routeOf (linkWork s n) (resId (entryResult s i)) (myNode s (1 + n)) (some p)).1 ∧
        u = pgaPush (tagFix v p) (4 + f) (if resClass (entryResult s i) = 1 then 4 else 0) (.host p)
          { ingress := n, txn := .req (messageOf s p t (entryResult s i)), plot := p }) ∧
  (∀ (s : State) (n : Fin 4) (t : Tlp) (out : Outside) (p : Nat), p = n * 1024 + t.index → TlpTaken s n t → t.kind = .vendorMsg → t.type0 = false →
    trellisLookup (linkWork s n) 4 (p * 2 ^ 24 + t.vendor * 2 ^ 8 + t.vdh % 256) = none →
    Runs (.hostTlpReceive n t out) s fun u => getF u F.TRL_MISS_MSG = min (getF s F.TRL_MISS_MSG + 1) 0xFFFF ∧ u.pga = s.pga ∧ u.out = s.out) ∧
  (∀ (s : State) (n : Fin 4) (t : Tlp) (out : Outside), TlpTaken s n t → t.kind = .slotPower →
    Runs (.hostTlpReceive n t out) s fun u => (portOf u n).slotPower = leNat t.data % 1024 ∧ u.plots = s.plots ∧ u.out = s.out) ∧
  (∀ (s : State) (n : Fin 4) (t : Tlp) (out : Outside), TlpTaken s n t → t.kind = .pmMsg → t.msg = 0x19 →
    Runs (.hostTlpReceive n t out) s fun u =>
      (portOf u n).txq = (portOf s n).txq ++ [{ kind := .pmeToAck, plot := n * 1024, reqId := ridOf s (n * 1024) }] ∧ u.plots = s.plots ∧ u.out = s.out) ∧
  (∀ (s : State) (n : Fin 4) (t : Tlp) (out : Outside), t.kind = .otherMsg →
    Runs (.hostTlpReceive n t out) s fun u => u.plots = s.plots ∧ u.funcs = s.funcs ∧ u.pga = s.pga)

/-- R274, R407, R156, R157, R276, R280. The first TLP of a port's transmit order goes out, and nothing behind it; a request whose Requester ID is not its plot's is not sent and sets HDG_EVENT.RID. The last completion of a one-part
inbound Read ends the request, its data whole; an Unsupported Request ends it with Nak-Address; a completion for no request is logged in PF0; a timeout is logged in the function and frees the tag. -/
def Obligations.HostPortTransmitsAndCompletes : Prop :=
  (∀ (s : State) (n : Fin 4) (t : TlpOut) (ts : List TlpOut), s.wf = true → linkActive s n = true → coreRuns s = true → (portOf s n).txq = t :: ts →
    isRequest t = false ∨ t.reqId = ridOf s t.plot →
    Runs (.hostTlpTransmit n) s fun u => u.out = .tlp n t :: s.out ∧ (portOf u n).txq = ts) ∧
  (∀ (s : State) (n : Fin 4) (t : TlpOut) (ts : List TlpOut), s.wf = true → linkActive s n = true → coreRuns s = true → (portOf s n).txq = t :: ts →
    t.kind = .interrupt → t.reqId ≠ ridOf s t.plot → t.inb = none → t.dma = none →
    Runs (.hostTlpTransmit n) s fun u => u.out = s.out ∧ bitF u F.HDG_EVENT_RID = true) ∧
  (∀ (s : State) (n : Fin 4) (tag id part : Nat) (h : HostTag) (x : InReq) (bs : List Byte), s.wf = true → linkActive s n = true → coreRuns s = true →
    outstanding s n tag = some h → h.use = .inbound id part → h.dead = false → h.orphan = false → h.data = [] → h.poisoned = false → bs.length = h.len →
    mfind (quadOf s n).inbound id = some x → x.parts = 1 → x.worst = 6 → x.data = [] →
    Runs (.hostCompletionArrival n tag .sc false bs) s fun u =>
      ∃ v, v = linkWork s n ∧ u = inFinish (modPort v n fun y => { y with outTags := mdel y.outTags tag }) n id
        { x with parts := 0, worst := 6, data := [(part, bs)] } 0 bs) ∧
  (∀ (s : State) (n : Fin 4) (tag id part : Nat) (h : HostTag) (x : InReq), s.wf = true → linkActive s n = true → coreRuns s = true →
    outstanding s n tag = some h → h.use = .inbound id part → h.dead = false → h.orphan = false →
    mfind (quadOf s n).inbound id = some x → x.parts = 1 → x.worst = 6 → x.data = [] →
    Runs (.hostCompletionArrival n tag .ur false []) s fun u =>
      ∃ v, v = linkWork s n ∧ u = inFinish (modPort v n fun y => { y with outTags := mdel y.outTags tag }) n id
        { x with parts := 0, worst := 1, data := [(part, [])] } 2 []) ∧
  (∀ (s : State) (n : Fin 4) (tag : Nat) (st : CplStatus) (b : Bool) (bs : List Byte), s.wf = true → linkActive s n = true → coreRuns s = true → outstanding s n tag = none →
    Runs (.hostCompletionArrival n tag st b bs) s fun u => AerErr.unexpectedCompletion ∈ (funcOf u (n * 1024)).aer ∧ (bitOf (getF s F.PWM_GATE_RUN) n = true → u.quads = s.quads)) ∧
  (∀ (s : State) (n : Fin 4) (tag : Nat) (h : HostTag), s.wf = true → outstanding s n tag = some h → h.dead = true →
    Runs (.hostCompletionTimeout n tag) s fun u =>
      AerErr.completionTimeout ∈ (funcOf u h.plot).aer ∧ (portOf u n).outTags = mdel (portOf s n).outTags tag ∧ u.quads = s.quads)

/-! ### The quadrant's host path (chapters 02, 03, 05, 06) -/

/-- R27, R49, R58, R81, R276. The head of a plot queue that both buckets admit goes to Graft: matched by a line, it is translated and leaves the queue, and RATE_HELD shows no wait; refused by RD_EN it is completed with Completer
Abort; matched by a fenced line too, with FaultRecord 0x28; an AtomicOp without ATOMIC_EN is completed with Unsupported Request. -/
def Obligations.PlotQueueAdmission : Prop :=
  (∀ (s : State) (p : Fin 4096) (r : OutReq) (rs : List OutReq) (w : Nat) (l : Line) (e : WinEntry), s.wf = true → quadRuns s (quadrantOf p) = true → (plotOf s p).matched = none →
    (plotOf s p).queue = r :: rs → plotState s p = psServing → r.kind = .read → txAdmits s p = true → heldQ s (quadrantOf p) 2 = false →
    heldQ s (quadrantOf p) 1 = false → findLine s p false r.bar4 r.off r.len = some (w, l, e) → l.marked = false → l.fenced = false → e.rdEn = true →
    (quadOf s (quadrantOf p)).pf = [] →
    Runs (.plotQueueAdmit p) s fun t =>
      (plotOf t p).matched = some { req := r, win := w, gen := l.curGen, node := e.node, addr := e.tbase + (r.off - e.first), entry := e } ∧
      (∃ more, (plotOf t p).queue = rs ++ more) ∧ bitF t (F.PE_STATUS_RATE_HELD p) = false ∧ FieldsBut s t [F.PE_STATUS_RATE_HELD p] ∧
      t = { s with cells := t.cells, plots := t.plots, quads := t.quads }) ∧
  (∀ (s : State) (p : Fin 4096) (r : OutReq) (rs : List OutReq) (w : Nat) (l : Line) (e : WinEntry), s.wf = true → quadRuns s (quadrantOf p) = true → (plotOf s p).matched = none →
    (plotOf s p).queue = r :: rs → plotState s p = psServing → r.kind = .read → txAdmits s p = true → heldQ s (quadrantOf p) 2 = false →
    heldQ s (quadrantOf p) 1 = false → findLine s p false r.bar4 r.off r.len = some (w, l, e) → l.marked = false → l.fenced = false → e.rdEn = false →
    Runs (.plotQueueAdmit p) s fun t =>
      (portOf t (quadrantOf p)).txq = (portOf s (quadrantOf p)).txq ++ errorTlp s p .completerAbort true ++
        [{ kind := .completion, plot := p, reqId := r.reqId, tag := r.tag, status := .ca }] ∧
      AerErr.completerAbort ∈ (funcOf t p).aer ∧ (∃ more, (plotOf t p).queue = rs ++ more)) ∧
  (∀ (s : State) (p : Fin 4096) (r : OutReq) (rs : List OutReq) (w : Nat) (l : Line) (e : WinEntry), s.wf = true → quadRuns s (quadrantOf p) = true → (plotOf s p).matched = none →
    (plotOf s p).queue = r :: rs → plotState s p = psServing → r.kind = .read → txAdmits s p = true → heldQ s (quadrantOf p) 2 = false →
    heldQ s (quadrantOf p) 1 = false → findLine s p false r.bar4 r.off r.len = some (w, l, e) → l.marked = false → l.fenced = true →
    Runs (.plotQueueAdmit p) s fun t =>
      getF t (F.PE_STATUS_LAST_FAULT p) = 0x28 ∧ AerErr.completerAbort ∈ (funcOf t p).aer) ∧
  (∀ (s : State) (p : Fin 4096) (r : OutReq) (rs : List OutReq), s.wf = true → quadRuns s (quadrantOf p) = true → (plotOf s p).matched = none → (plotOf s p).queue = r :: rs →
    plotState s p = psServing → r.kind = .atomic → bitF s (F.PE_CAPS_ATOMIC_EN p) = false →
    Runs (.plotQueueAdmit p) s fun t =>
      (portOf t (quadrantOf p)).txq = (portOf s (quadrantOf p)).txq ++ errorTlp s p .unsupportedRequest true ++
        [{ kind := .completion, plot := p, reqId := r.reqId, tag := r.tag, status := .ur }] ∧
      AerErr.unsupportedRequest ∈ (funcOf t p).aer ∧ (∃ more, (plotOf t p).queue = rs ++ more))

/-- R49, R57, R59, R408, R149, R160, R142. A bucket fills by RATE times the time, to its depth and never down; a plot bucket without a limit stands at its depth. No other bucket changes, and nothing else but STATUS.RATE_HELD, which shows whether requests wait on a negative RATE_TX level. A request whose completion budget ends while it waits in its plot queue leaves the queue, is completed with Completer Abort and makes FaultRecord 0x03; ones written to PP_WFL clear
those latches and no other, and LATCH_ANY follows; while the plot is Disabled or Resetting they clear none. -/
def Obligations.BucketsBudgetsAndLatches : Prop :=
  (∀ (s : State) (p : Fin 4096) (us : Nat), s.wf = true →
    Runs (.rateBucketRefill (.tx p) us) s fun t =>
      (plotOf t p).tx = (if getF s (F.PE_RATE_RATE p 0) = 0 then getF s (F.PE_RATE_BURST p 0) * 1024 else
        max (plotOf s p).tx (min ((plotOf s p).tx + getF s (F.PE_RATE_RATE p 0) * us) (getF s (F.PE_RATE_BURST p 0) * 1024)) : Int) ∧
      (plotOf t p).rx = (plotOf s p).rx ∧ (∀ r, r ≠ p.val → plotOf t r = plotOf s r) ∧
      bitF t (F.PE_STATUS_RATE_HELD p) = (getF s (F.PE_RATE_RATE p 0) != 0 && decide ((plotOf t p).tx < 0) && !(plotOf s p).queue.isEmpty) ∧ (plotOf t p).queue = (plotOf s p).queue ∧
      FieldsBut s t [F.PE_STATUS_RATE_HELD p] ∧ t = { s with cells := t.cells, plots := t.plots }) ∧
  (∀ (s : State) (p : Fin 4096) (us : Nat), s.wf = true →
    Runs (.rateBucketRefill (.rx p) us) s fun t =>
      (plotOf t p).rx = (if getF s (F.PE_RATE_RATE p 1) = 0 then getF s (F.PE_RATE_BURST p 1) * 1024 else
        max (plotOf s p).rx (min ((plotOf s p).rx + getF s (F.PE_RATE_RATE p 1) * us) (getF s (F.PE_RATE_BURST p 1) * 1024)) : Int) ∧
      (plotOf t p).tx = (plotOf s p).tx ∧ t = { s with plots := t.plots }) ∧
  (∀ (s : State) (p : Fin 4096) (us : Nat) (c : Cap), mget s.hdg.plotCap p none = some c →
    Runs (.rateBucketRefill (.plotCap p) us) s fun t =>
      mget t.hdg.plotCap p none = some { c with level := max c.level (min (c.level + c.rate * us) c.depth) } ∧
      t = { s with hdg := { s.hdg with plotCap := t.hdg.plotCap } }) ∧
  (∀ (s : State) (f : Fin 8) (us : Nat) (c : Cap), mget s.hdg.portCap f none = some c →
    Runs (.rateBucketRefill (.portCap f) us) s fun t =>
      mget t.hdg.portCap f none = some { c with level := max c.level (min (c.level + c.rate * us) c.depth) } ∧
      t = { s with hdg := { s.hdg with portCap := t.hdg.portCap } }) ∧
  (∀ (s : State) (p : Fin 4096) (n : Nat) (r : OutReq), s.wf = true → (plotOf s p).queue[n]? = some r → r.kind = .read → plotState s p = psServing →
    (∀ x ∈ (quadOf s (quadrantOf p)).held, x.1 ≠ p.val) →
    Runs (.readBudgetExpire (.queued p n)) s fun t =>
      (plotOf t p).queue = (plotOf s p).queue.eraseIdx n ∧ getF t (F.PE_STATUS_LAST_FAULT p) = 3 ∧ AerErr.completerAbort ∈ (funcOf t p).aer ∧
      ({ kind := .completion, plot := p, reqId := r.reqId, tag := r.tag, status := .ca } : TlpOut) ∈ (portOf t (quadrantOf p)).txq) ∧
  (∀ (s : State) (p : Fin 4096) (m : BitVec 32), plotState s p ≠ psDisabled → plotState s p ≠ psResetting →
    Runs (.wflClear p m) s fun t =>
      (∀ w < 32, latchSet t p w = (latchSet s p w && !m.getLsbD w)) ∧
      bitF t (F.PE_STATUS_LATCH_ANY p) = (getF t (F.PP_WFL_LATCH p) != 0) ∧ FieldsBut s t [F.PP_WFL_LATCH p, F.PE_STATUS_LATCH_ANY p] ∧
      t = { s with cells := t.cells, plots := t.plots }) ∧
  (∀ (s : State) (p : Fin 4096) (m : BitVec 32), plotState s p = psDisabled ∨ plotState s p = psResetting → Leaves (.wflClear p m) s)

/-- R132, R135, R175. The next waiting plot whose request can have an entry is granted one: a posted write that routes to a Calfos port stands Queued in the Ledger under a tag of its own, a read with no write before it is issued, and the plot's place is
free. An emulated AtomicOp that takes its plot's turn sends its Hold, and the lease begins. -/
def Obligations.LedgerGrants : Prop :=
  (∀ (s : State) (q : Fin 4) (p f r : Nat) (ts ps : List Turn) (m : Matched), s.wf = true → heldQ s q 2 = false → quadRuns s q = true →
    turnsOf s q = ts ++ .plot p :: ps → (∀ x ∈ ts, turnServe s q [x] = none) → quadrantOf p = q → (plotOf s p).matched = some m → mayGrant s q p m = true → m.req.kind = .write → m.req.zero = false →
    (routeOf s m.node (myNode s (1 + q)) (some p)).2 = .egress f r →
    Runs (.ledgerEntryGrant q) s fun t =>
      (plotOf t p).matched = none ∧ (quadOf t q).lastPlot = p ∧
      ∃ e, entryOf t q (freeTag s q) = some e ∧ e.kind = .write ∧ e.plot = p ∧ e.win = m.win ∧ e.gen = m.gen ∧ e.node = m.node ∧ e.addr = m.addr ∧
        e.len = m.req.len ∧ e.st = .queued ∧ e.egress = 4 + f) ∧
  (∀ (s : State) (q : Fin 4) (p f r : Nat) (ts ps : List Turn) (m : Matched), s.wf = true → heldQ s q 2 = false → quadRuns s q = true →
    turnsOf s q = ts ++ .plot p :: ps → (∀ x ∈ ts, turnServe s q [x] = none) → quadrantOf p = q → (plotOf s p).matched = some m → mayGrant s q p m = true → m.req.kind = .read → m.req.zero = false →
    m.entry.ordered = false → m.entry.prefetch = false → (quadOf s q).streams = [] → latchSet s p m.win = false →
    (routeOf s m.node (myNode s (1 + q)) (some p)).2 = .egress f r →
    Runs (.ledgerEntryGrant q) s fun t =>
      (plotOf t p).matched = none ∧ (quadOf t q).lastPlot = p ∧
      ∃ e, entryOf t q (freeTag s q) = some e ∧ e.kind = .read ∧ e.plot = p ∧ e.win = m.win ∧ e.gen = m.gen ∧ e.node = m.node ∧ e.addr = m.addr ∧
        e.len = m.req.len ∧ e.st = .issued ∧ e.ordered = false ∧ e.egress = 4 + f) ∧
  (∀ (s : State) (p : Fin 4096) (tag f r : Nat) (ts : List Nat) (e : LEntry), s.wf = true → (plotOf s p).emu = tag :: ts →
    entryOf s (quadrantOf p) tag = some e → e.plot = p → e.emu = some .turn →
    (routeOf s e.node (myNode s (1 + quadrantOf p)) (some p)).2 = .egress f r →
    Runs (.atomicTurnGrant p) s fun t =>
      (∃ x, entryOf t (quadrantOf p) tag = some x ∧ x.st = .issued ∧ x.emu = some .hold ∧ x.lease = s.now ∧ x.addr = e.addr) ∧
      getF t (F.LDG_HOLD_OUT (quadrantOf p)) = (getF s (F.LDG_HOLD_OUT (quadrantOf p)) + 1) % 2 ^ 11)

/-- R127, R135, R136, R138, R140, R143, R148, R152, R166, R346. With no read waiting on it: an OK answer to a host read completes it with its data and frees its tag, and an OK answer to a write frees its own; a write answered Nak-Address, Nak-Access, Nak-Busy or Poisoned, and one that ACK_TIMEOUT ends, sets its window's latch and its event and
counts; Nak-Busy puts a native read into backoff, and the end of the backoff sends it again. An answer that no entry waits for is late and counted. While the quadrant's clocks stand, or with no answer there, nothing is taken, and a timeout of what does not wait does nothing. -/
def Obligations.LedgerAnswers : Prop :=
  (∀ (s : State) (q : Fin 4) (i : Nat) (r : FabResp) (ts : List QTxn) (e : LEntry), s.wf = true → quadRuns s q = true → inboxOf s q 2 = { ingress := i, txn := .resp r } :: ts →
    mfind (quadOf s q).table r.tag = none → respMalformed s r = false →
    nodeUnit r.dest = q + 1 → entryOf s q r.tag = some e → e.kind = .read → e.hostPath = true → e.emu = none → e.ordered = false → e.ext = 0 → quadrantOf e.plot = q →
    latchSet s e.plot e.win = false → r.status = 0 →
    Runs (.fabricResponseArrival ⟨q, by omega⟩) s fun t =>
      (portOf t q).txq = (portOf s q).txq ++ [{ kind := .completionData, plot := e.plot, reqId := e.req.reqId, tag := e.req.tag, len := e.len, data := r.data.take e.len }] ∧
      (quadOf t q).ledger = mdel (quadOf s q).ledger r.tag ∧ t.funcs = s.funcs) ∧
  (∀ (s : State) (q : Fin 4) (i : Nat) (r : FabResp) (ts : List QTxn) (e : LEntry), s.wf = true → quadRuns s q = true → inboxOf s q 2 = { ingress := i, txn := .resp r } :: ts →
    mfind (quadOf s q).table r.tag = none → respMalformed s r = false →
    nodeUnit r.dest = q + 1 → entryOf s q r.tag = some e → e.kind = .read → e.hostPath = true → e.emu = none → r.status = 4 → quadrantOf e.plot = q →
    Runs (.fabricResponseArrival ⟨q, by omega⟩) s fun t =>
      entryOf t q r.tag = some { e with st := .backoff, retry := e.retry + 1, lastStatus := 4 } ∧ (portOf t q).txq = (portOf s q).txq) ∧
  (∀ (s : State) (q : Fin 4) (i : Nat) (r : FabResp) (ts : List QTxn) (e : LEntry), s.wf = true → quadRuns s q = true → inboxOf s q 2 = { ingress := i, txn := .resp r } :: ts →
    mfind (quadOf s q).table r.tag = none → respMalformed s r = false →
    nodeUnit r.dest = q + 1 → entryOf s q r.tag = some e → e.kind = .write → e.hostPath = true → quadrantOf e.plot = q → e.win < 32 →
    (∀ x ∈ (quadOf s q).ledger, x.2.st ≠ .fenced ∧ x.2.st ≠ .settling) →
    Runs (.fabricResponseArrival ⟨q, by omega⟩) s fun t =>
      (quadOf t q).ledger = mdel (quadOf s q).ledger r.tag ∧ getF t (F.LDG_COUNT_TIMEOUTS q) = getF s (F.LDG_COUNT_TIMEOUTS q) ∧
      (r.status = 0 → getF t (F.PP_WFL_LATCH e.plot) = getF s (F.PP_WFL_LATCH e.plot) ∧ getF t (F.LDG_COUNT_REJECTS q) = getF s (F.LDG_COUNT_REJECTS q)) ∧
      (r.status ∈ [2, 3, 4, 6] → latchSet t e.plot e.win = true ∧ bitF t (F.LDG_EVENT_REJECT q) = true ∧
        getF t (F.LDG_COUNT_REJECTS q) = min (getF s (F.LDG_COUNT_REJECTS q) + 1) (F.LDG_COUNT_REJECTS q).max)) ∧
  (∀ (s : State) (q : Fin 4) (i : Nat) (r : FabResp) (ts : List QTxn), s.wf = true → quadRuns s q = true → inboxOf s q 2 = { ingress := i, txn := .resp r } :: ts →
    mfind (quadOf s q).table r.tag = none → respMalformed s r = false → entryOf s q r.tag = none →
    Runs (.fabricResponseArrival ⟨q, by omega⟩) s fun t =>
      getF t (F.LDG_COUNT_LATE q) = min (getF s (F.LDG_COUNT_LATE q) + 1) (F.LDG_COUNT_LATE q).max ∧ (quadOf t q).ledger = (quadOf s q).ledger ∧ t.ports = s.ports) ∧
  (∀ (s : State) (c : Fin 19), clientRuns s c = false ∨ (4 ≤ c.val ∧ c.val < 12) ∨ (inboxOf s c 2 = [] ∧ inboxOf s c 3 = []) → Leaves (.fabricResponseArrival c) s) ∧
  (∀ (s : State) (q : Fin 4) (tag : Nat) (e : LEntry), s.wf = true → entryOf s q tag = some e → e.kind = .write → e.hostPath = true → e.st = .issued →
    quadrantOf e.plot = q → e.win < 32 → (∀ x ∈ (quadOf s q).ledger, x.2.st ≠ .fenced ∧ x.2.st ≠ .settling) →
    Runs (.ledgerAckTimeout q tag) s fun t =>
      latchSet t e.plot e.win = true ∧ bitF t (F.LDG_EVENT_TIMEOUT q) = true ∧
      getF t (F.LDG_COUNT_TIMEOUTS q) = min (getF s (F.LDG_COUNT_TIMEOUTS q) + 1) 0xFFFF ∧ (quadOf t q).ledger = mdel (quadOf s q).ledger tag) ∧
  (∀ (s : State) (q : Fin 4) (tag : Nat) (e : LEntry), s.wf = true → entryOf s q tag = some e → e.kind = .release → e.emu ≠ some .budgetGone → e.st = .issued →
    Runs (.ledgerAckTimeout q tag) s fun t =>
      getF t (F.LDG_HOLD_REL_FAIL q) = min (getF s (F.LDG_HOLD_REL_FAIL q) + 1) (F.LDG_HOLD_REL_FAIL q).max ∧ (quadOf t q).ledger = mdel (quadOf s q).ledger tag ∧ t.ports = s.ports) ∧
  (∀ (s : State) (q : Fin 4) (tag : Nat), (entryOf s q tag).all (fun e => e.kind != .release && (if e.kind == .write then e.st != .issued else e.emu.isNone || e.st != .issued)) = true →
    Leaves (.ledgerAckTimeout q tag) s) ∧
  (∀ (s : State) (q : Fin 4) (tag f r : Nat) (e : LEntry), s.wf = true → entryOf s q tag = some e → e.kind = .read → e.hostPath = true → e.emu = none → e.st = .backoff →
    e.req.zero = false → quadrantOf e.plot = q → latchSet s e.plot e.win = false → (quadOf s q).streams = [] →
    (routeOf s e.node (myNode s (1 + q)) (some e.plot)).2 = .egress f r →
    Runs (.ledgerBackoffEnd q tag) s fun t => (entryOf t q tag).any (fun x => x.st == .issued && x.retry == e.retry && !x.ordered && x.egress == 4 + f) = true) ∧
  (∀ (s : State) (q : Fin 4) (tag : Nat), (entryOf s q tag).all (fun e => e.st != .backoff) = true → Leaves (.ledgerBackoffEnd q tag) s)

/-- R55, R59, R84, R87, R112, R120, R156, R157, R158, R173, R178, R194, R343. The next inbound request of a quadrant. A Write, a Read and an AtomicOp that a window of the plot admits and that go on to the host are formed as TLPs at the
translated address under the plot's Requester ID, cut at the host's sizes, and wait in the tracker. A Hold is answered Nak-Access, a Release that matches OK. A full tracker and an empty RATE_RX bucket answer Nak-Busy, Bus Master Enable 0
and an AtomicOp that is not enabled Nak-Access, a poisoned Write Poisoned, and an ordered request after a failed Write FailedPrior. A plot that takes none answers by its state; a window that
does not let it in answers Nak-Access; a plot with no inbound window Nak-Address; and without a line in the cache a fill starts, and the request waits for it. A Write whose TLPs are all placed is answered OK and leaves the tracker. A Message whose MSG_IN key hits a
Serving plot of the port goes to the host as a vendor-defined message, and any other is counted. -/
def Obligations.InboundRequests : Prop :=
  (∀ (s : State) (q : Fin 4) (p w : Nat) (r : FabReq) (l : Line) (e : WinEntry) (cs : List (Nat × Nat)), s.wf = true → InAdmitted s q p r w l e → InGoes s q p r → r.op = .write →
    cs = chunks 64 (e.tbase + (r.addr - e.first)) r.len (128 * 2 ^ (funcOf s p).mps) →
    Runs (.inboundRequest q) s fun t =>
      (portOf t q).txq = (portOf s q).txq ++ (((cutData cs r.data).zip cs).map fun x => { kind := .memWrite, plot := p, reqId := ridOf s p, addr := x.1.1, len := x.2.2, data := x.1.2, attrs := (if e.noSnoop then 1 else 0) + (if e.relaxed then 2 else 0), inb := some (mfree (quadOf s q).inbound 0) }) ∧
      (∃ x, mfind (quadOf t q).inbound (mfree (quadOf s q).inbound 0) = some x ∧ x.req = r ∧ x.toPlace = cs.length ∧ x.plot = p ∧ x.win = w) ∧
      (plotOf t p).rx = (if getF s (F.PE_RATE_RATE p 1) = 0 then (plotOf s p).rx else (plotOf s p).rx - r.len) ∧ t.pga = inboxTaken s q ∧
      t = { s with cells := t.cells, plots := t.plots, quads := t.quads, ports := t.ports, pga := t.pga }) ∧
  (∀ (s : State) (q : Fin 4) (p w : Nat) (r : FabReq) (l : Line) (e : WinEntry) (cs : List (Nat × Nat)), s.wf = true → InAdmitted s q p r w l e → InGoes s q p r →
    r.op = .read ∨ r.op = .signalRead → cs = chunks 64 (e.tbase + (r.addr - e.first)) r.len (128 * 2 ^ (funcOf s p).mrrs) →
    Runs (.inboundRequest q) s fun t =>
      (∃ l, (portOf t q).txq = (portOf s q).txq ++ l ∧
        l.map (fun x => (x.kind, x.plot, x.reqId, x.addr, x.len)) = cs.map (fun x => (TlpOutKind.memRead, p, ridOf s p, x.1, x.2)) ∧
        ∀ i < l.length, (mfind (portOf t q).outTags ((l[i]?.map fun x => x.tag).getD 0)).map (fun h => h.use) = some (.inbound (mfree (quadOf s q).inbound 0) i)) ∧
      (∃ x, mfind (quadOf t q).inbound (mfree (quadOf s q).inbound 0) = some x ∧ x.req = r ∧ x.parts = cs.length ∧ x.plot = p ∧ x.win = w) ∧ t.pga = inboxTaken s q ∧
      t = { s with cells := t.cells, plots := t.plots, quads := t.quads, ports := t.ports, pga := t.pga }) ∧
  (∀ (s : State) (q : Fin 4) (p w : Nat) (r : FabReq) (l : Line) (e : WinEntry), s.wf = true → InAdmitted s q p r w l e → InGoes s q p r → r.op = .atomic →
    bitF s (F.PE_CAPS_ATOMIC_EN p) = true → (funcOf s p).atomicReq = true →
    Runs (.inboundRequest q) s fun t =>
      (portOf t q).txq = (portOf s q).txq ++ [{ kind := .atomic, plot := p, reqId := ridOf s p, addr := e.tbase + (r.addr - e.first), len := r.len, data := r.data, tag := mfree (portOf s q).outTags 0, attrs := (if e.noSnoop then 1 else 0) + (if e.relaxed then 2 else 0), atop := r.atop }] ∧
      (∃ x, mfind (quadOf t q).inbound (mfree (quadOf s q).inbound 0) = some x ∧ x.req = r ∧ x.parts = 1 ∧ x.plot = p ∧ x.win = w) ∧ t.pga = inboxTaken s q ∧
      t = { s with cells := t.cells, plots := t.plots, quads := t.quads, ports := t.ports, pga := t.pga }) ∧
  (∀ (s : State) (q : Fin 4) (p w : Nat) (r : FabReq) (l : Line) (e : WinEntry), s.wf = true → InAdmitted s q p r w l e → r.op = .hold ∨ r.op = .release →
    Runs (.inboundRequest q) s fun t =>
      Responds s t (inboxTaken s q) q p r (if r.op = .hold then 3 else 0) [] ∧
      getF t (F.LDG_ATOM_REFUSED q) = (if r.op = .hold then min (getF s (F.LDG_ATOM_REFUSED q) + 1) (F.LDG_ATOM_REFUSED q).max else getF s (F.LDG_ATOM_REFUSED q))) ∧
  (∀ (s : State) (q : Fin 4) (p w : Nat) (r : FabReq) (l : Line) (e : WinEntry), s.wf = true → InAdmitted s q p r w l e → r.op = .read ∨ r.op = .signalRead ∨ r.op = .atomic →
    trackFull s q r = true →
    Runs (.inboundRequest q) s fun t =>
      Responds s t (inboxTaken s q) q p r 4 [] ∧ bitF t F.PGA_EVENT_TRACK_FULL = true ∧ getF t (F.PGA_TRACK_REFUSED q) = min (getF s (F.PGA_TRACK_REFUSED q) + 1) (F.PGA_TRACK_REFUSED q).max) ∧
  (∀ (s : State) (q : Fin 4) (p w : Nat) (r : FabReq) (l : Line) (e : WinEntry), s.wf = true → InAdmitted s q p r w l e → r.op = .write ∨ r.op = .atomic ∧ trackFull s q r = false →
    rxAdmits s p = false →
    Runs (.inboundRequest q) s fun t =>
      Responds s t (inboxTaken s q) q p r 4 [] ∧ getF t (F.PE_COUNTERS_RX_REFUSED p) = min (getF s (F.PE_COUNTERS_RX_REFUSED p) + 1) (F.PE_COUNTERS_RX_REFUSED p).max) ∧
  (∀ (s : State) (q : Fin 4) (p w : Nat) (r : FabReq) (l : Line) (e : WinEntry), s.wf = true → InAdmitted s q p r w l e → r.ordered = false → rxAdmits s p = true →
    r.op = .write ∨ r.op = .read ∧ trackFull s q r = false ∨ r.op = .atomic ∧ trackFull s q r = false →
    Runs (.inboundRequest q) s fun t =>
      (bmeOf s p = false ∨ r.op = .atomic ∧ (bitF s (F.PE_CAPS_ATOMIC_EN p) = false ∨ (funcOf s p).atomicReq = false) → Responds s t (inboxTaken s q) q p r 3 []) ∧
      (bmeOf s p = true → r.op = .write → r.poison = true → Responds s t (inboxTaken s q) q p r 6 [])) ∧
  (∀ (s : State) (q : Fin 4) (p w : Nat) (r : FabReq) (l : Line) (e : WinEntry), s.wf = true → InAdmitted s q p r w l e → r.ordered = true → rxAdmits s p = true →
    r.op = .read ∨ r.op = .atomic → trackFull s q r = false → (mfind (quadOf s q).inStreams (inKey p r)).any (fun i => i.flag && !i.late) = true →
    Runs (.inboundRequest q) s fun t =>
      Responds s t (inboxTaken s q) q p r 1 [] ∧ (mfind (quadOf t q).inStreams (inKey p r)).any (fun i => !i.flag) = true) ∧
  (∀ (s : State) (q : Fin 4) (p st : Nat) (r : FabReq), s.wf = true → Inbound s q p r → inStateRefusal s p = some st →
    Runs (.inboundRequest q) s fun t => Responds s t (inboxTaken s q) q p r st []) ∧
  (∀ (s : State) (q : Fin 4) (p w : Nat) (r : FabReq) (l : Line) (e : WinEntry), s.wf = true → Inbound s q p r → inStateRefusal s p = none →
    (∀ x ∈ (quadOf s q).missQ, x.plot ≠ p) → findLine s p true false r.addr r.len = some (w, l, e) → e.peerEn = true ∧ r.src ≠ e.node ∨ inEnabled e r.op = false →
    Runs (.inboundRequest q) s fun t => Responds s t (inboxTaken s q) q p r 3 []) ∧
  (∀ (s : State) (q : Fin 4) (p : Nat) (r : FabReq), s.wf = true → Inbound s q p r → inStateRefusal s p = none →
    (∀ x ∈ (quadOf s q).missQ, x.plot ≠ p) → findLine s p true false r.addr r.len = none → fillBusy s p true = false → commitWriting s p true = false →
    (quadOf s q).fills.length < 64 → (quadOf s q).missQ.length < 256 →
    Runs (.inboundRequest q) s fun t =>
      (getF s (F.PE_WINDOWS_IN_COUNT p) = 0 → Responds s t (inboxTaken s q) q p r 2 []) ∧
      (getF s (F.PE_WINDOWS_IN_COUNT p) ≠ 0 → tableOpen s q = true → bitF s (F.PLT_TABLE_BASE_TARGET q) = false →
        t.out = .tableRead q (windowAddr s p 32) (64 * getF s (F.PE_WINDOWS_IN_COUNT p)) :: s.out ∧ (quadOf t q).missQ = (quadOf s q).missQ ++ [{ req := r, plot := p }] ∧
        mfind (quadOf t q).fills (fillKey p true) = some .reading ∧ getF t (F.GRF_CACHE_MISSES q) = min (getF s (F.GRF_CACHE_MISSES q) + 1) (F.GRF_CACHE_MISSES q).max ∧
        t.pga = inboxTaken s q ∧ t = { s with cells := t.cells, quads := t.quads, pga := t.pga, out := t.out })) ∧
  (∀ (s : State) (q : Fin 4) (id : Nat) (x : InReq), s.wf = true → mfind (quadOf s q).inbound id = some x → x.req.op = .write → x.toPlace = 0 →
    Runs (.inboundWritePlaced q id) s fun t => Responds s t s.pga q x.plot x.req 0 [] ∧ (quadrantOf x.plot = q → (quadOf t q).inbound = mdel (quadOf s q).inbound id)) ∧
  (∀ (s : State) (q : Fin 4) (c i : Nat) (r : FabReq), s.wf = true → quadRuns s q = true → txqRoom s q = true → ([4, 5, 0, 1].find? (headIsMessage s q)) = some c →
    (inboxOf s q c).head?.map (fun b => b.txn) = some (.req r) → trellisLookup s 5 (r.src * 2 ^ 16 + r.code) = some i → quadrantOf (resId (entryResult s i)) = q →
    plotState s (resId (entryResult s i)) = psServing →
    Runs (.fabricMessageIn q) s fun t =>
      (portOf t q).txq = (portOf s q).txq ++ [{ kind := .vendorMsg, plot := resId (entryResult s i), reqId := ridOf s (resId (entryResult s i)), addr := resAux (entryResult s i), len := r.data.length, data := r.data, attrs := r.vdh, poisoned := r.poison }] ∧
      inboxOf t q c = (inboxOf s q c).drop 1 ∧ t = { s with ports := t.ports, pga := { s.pga with inbox := t.pga.inbox } }) ∧
  (∀ (s : State) (q : Fin 4) (c : Nat) (r : FabReq), quadRuns s q = true → txqRoom s q = true → ([4, 5, 0, 1].find? (headIsMessage s q)) = some c →
    (inboxOf s q c).head?.map (fun b => b.txn) = some (.req r) →
    (∀ i, trellisLookup s 5 (r.src * 2 ^ 16 + r.code) = some i → quadrantOf (resId (entryResult s i)) ≠ q ∨ plotState s (resId (entryResult s i)) ≠ psServing) →
    Runs (.fabricMessageIn q) s fun t =>
      getF t F.TRL_MISS_MSG = min (getF s F.TRL_MISS_MSG + 1) 0xFFFF ∧ FieldsBut s t [F.TRL_MISS_MSG] ∧ inboxOf t q c = (inboxOf s q c).drop 1 ∧
      t = { s with cells := t.cells, pga := { s.pga with inbox := t.pga.inbox } })

/-! ### Windows (chapter 03) -/

/-- R43, R90, R91, R101. A GRF_WIN_CMD of an idle bank, with no other commit running, records its WINDOW and INDEX, sets BUSY, takes the bank's staged entry and reads the window's table half, from host memory or by a fabric Read; while
another commit runs it waits for it; one from behind a closed register page changes nothing; while the bank is BUSY it only sets OVERRUN and raises the source; a plot in no state that allows a commit ends it STATE, a window not in use COUNT, and configuration memory
that may not be read NO_ACCESS, with nothing applied. -/
def Obligations.WindowCommandsStart : Prop :=
  (∀ (s : State) (q : Fin 4) (who : Party) (w : Fin 64) (i : Fin 1024) (drain : Bool), s.wf = true → regOpen s who (A.GRF_WIN_CMD q) = true →
    bitF s (bankF (isHost who) (F.GRF_WIN_STATUS_BUSY q)) = false → (quadOf s q).commit = none → (quadOf s q).commitQ = [] →
    plotState s (q * 1024 + i) = psServing ∨ plotState s (q * 1024 + i) = psHeld ∨ plotState s (q * 1024 + i) = psFaulted →
    windowInUse s (q * 1024 + i) w = true → tableOpen s q = true → bitF s (F.PLT_TABLE_BASE_TARGET q) = false →
    Runs (if drain then .windowDrainCommit q who w i else .windowCommit q who w i) s fun t =>
      (quadOf t q).commit = some { hostBank := isHost who, index := i, win := w, drain := drain, staged := stagedWindow s q (isHost who) } ∧
      t.out = .tableRead q (windowAddr s (q * 1024 + i) (dirBase (decide (32 ≤ w.val)))) (64 * windowCount s (q * 1024 + i) (decide (32 ≤ w.val))) :: s.out ∧
      bitF t (bankF (isHost who) (F.GRF_WIN_STATUS_BUSY q)) = true ∧ getF t (bankF (isHost who) (F.GRF_WIN_STATUS_WINDOW q)) = w.val ∧
      getF t (bankF (isHost who) (F.GRF_WIN_STATUS_INDEX q)) = i.val ∧ t = { s with cells := t.cells, quads := t.quads, out := t.out } ∧
      FieldsBut s t [bankF (isHost who) (F.GRF_WIN_STATUS_BUSY q), bankF (isHost who) (F.GRF_WIN_STATUS_WINDOW q), bankF (isHost who) (F.GRF_WIN_STATUS_INDEX q)]) ∧
  (∀ (s : State) (q : Fin 4) (who : Party) (w : Fin 64) (i : Fin 1024) (drain : Bool), regOpen s who (A.GRF_WIN_CMD q) = true →
    bitF s (bankF (isHost who) (F.GRF_WIN_STATUS_BUSY q)) = true →
    Runs (if drain then .windowDrainCommit q who w i else .windowCommit q who w i) s fun t =>
      bitF t (bankF (isHost who) (F.GRF_WIN_STATUS_OVERRUN q)) = true ∧ Pending t (1220 + q) ∧ OnlyCells s t ∧
      FieldsBut s t [bankF (isHost who) (F.GRF_WIN_STATUS_OVERRUN q), F.EVG_PEND_PEND 19]) ∧
  (∀ (s : State) (q : Fin 4) (who : Party) (w : Fin 64) (i : Fin 1024) (drain : Bool), s.wf = true → regOpen s who (A.GRF_WIN_CMD q) = true →
    bitF s (bankF (isHost who) (F.GRF_WIN_STATUS_BUSY q)) = false → (quadOf s q).commit = none → (quadOf s q).commitQ = [] →
    Runs (if drain then .windowDrainCommit q who w i else .windowCommit q who w i) s fun t =>
      (plotState s (q * 1024 + i) = psDisabled ∨ plotState s (q * 1024 + i) = psLoading ∨ plotState s (q * 1024 + i) = psResetting →
        getF t (bankF (isHost who) (F.GRF_WIN_STATUS_RESULT q)) = 2 ∧ bitF t (bankF (isHost who) (F.GRF_WIN_STATUS_BUSY q)) = false) ∧
      (plotState s (q * 1024 + i) = psServing → windowInUse s (q * 1024 + i) w = false →
        getF t (bankF (isHost who) (F.GRF_WIN_STATUS_RESULT q)) = 3 ∧ bitF t (bankF (isHost who) (F.GRF_WIN_STATUS_BUSY q)) = false) ∧
      (plotState s (q * 1024 + i) = psServing → windowInUse s (q * 1024 + i) w = true → tableOpen s q = false →
        getF t (bankF (isHost who) (F.GRF_WIN_STATUS_RESULT q)) = 10 ∧ bitF t (bankF (isHost who) (F.GRF_WIN_STATUS_BUSY q)) = false) ∧
      (windowInUse s (q * 1024 + i) w = false ∨ tableOpen s q = false → (quadOf t q).commit = none ∧ (quadOf t q).lines = (quadOf s q).lines ∧ t = { s with cells := t.cells, quads := t.quads })) ∧
  (∀ (s : State) (q : Fin 4) (who : Party) (w : Fin 64) (i : Fin 1024) (drain : Bool), s.wf = true → regOpen s who (A.GRF_WIN_CMD q) = true →
    bitF s (bankF (isHost who) (F.GRF_WIN_STATUS_BUSY q)) = false → (quadOf s q).commit = none → (quadOf s q).commitQ = [] →
    plotState s (q * 1024 + i) = psServing ∨ plotState s (q * 1024 + i) = psHeld ∨ plotState s (q * 1024 + i) = psFaulted →
    windowInUse s (q * 1024 + i) w = true → tableOpen s q = true → bitF s (F.PLT_TABLE_BASE_TARGET q) = true →
    (routeOf s (getF s (F.PLT_TABLE_NODE_NODE q)) (myNode s (1 + q)) (some (q * 1024))).2.pga ≠ 20 →
    Runs (if drain then .windowDrainCommit q who w i else .windowCommit q who w i) s fun t =>
      (quadOf t q).commit = some { hostBank := isHost who, index := i, win := w, drain := drain, staged := stagedWindow s q (isHost who) } ∧
      mfind (quadOf t q).table (freeTag s q) = some { use := .commitRead, write := false, len := 64 * windowCount s (q * 1024 + i) (decide (32 ≤ w.val)) } ∧
      bitF t (bankF (isHost who) (F.GRF_WIN_STATUS_BUSY q)) = true ∧ t = { s with cells := t.cells, quads := t.quads, pga := t.pga }) ∧
  (∀ (s : State) (q : Fin 4) (who : Party) (w : Fin 64) (i : Fin 1024) (drain : Bool) (c : WinCommit), s.wf = true → regOpen s who (A.GRF_WIN_CMD q) = true →
    bitF s (bankF (isHost who) (F.GRF_WIN_STATUS_BUSY q)) = false → (quadOf s q).commit = some c →
    Runs (if drain then .windowDrainCommit q who w i else .windowCommit q who w i) s fun t =>
      (quadOf t q).commit = some c ∧ bitF t (bankF (isHost who) (F.GRF_WIN_STATUS_BUSY q)) = true ∧ t = { s with cells := t.cells, quads := t.quads } ∧
      (quadOf t q).commitQ = (quadOf s q).commitQ ++ [{ hostBank := isHost who, index := i, win := w, drain := drain, staged := stagedWindow s q (isHost who) }]) ∧
  (∀ (s : State) (q : Fin 4) (who : Party) (w : Fin 64) (i : Fin 1024) (drain : Bool), regOpen s who (A.GRF_WIN_CMD q) = false →
    Leaves (if drain then .windowDrainCommit q who w i else .windowCommit q who w i) s)

/-- R91, R92, R276. When the table half has been read, no check of R91 fails and no fill of the window's direction is in progress, the staged entry goes to the table, in host memory or by a fabric Write, with the next generation of its window and the present time as COMMIT_TIME; while such
a fill is in progress it waits; the first check that fails, and a read that fails, end the commit with their RESULT and write nothing, and a read of host memory that times out is logged in PF0. -/
def Obligations.WindowCommitChecked : Prop :=
  (∀ (s : State) (q : Fin 4) (c : WinCommit) (bs : List Byte) (half : List WinEntry) (e : WinEntry), s.wf = true → (quadOf s q).commit = some c →
    c.stage = .reading → tableAsked s q .commitRead = false → half = parseWindows (windowCount s (q * 1024 + c.index) (decide (32 ≤ c.win))) bs →
    commitCheck s q c c.staged half = none → tableOpen s q = true →
    e = { c.staged with gen := ((half[c.win % 32]?.getD {}).gen + 1) % 65536 } →
    Runs (.windowCommitReadDone q (.ok bs)) s fun t =>
      (fillBusy s (q * 1024 + c.index) (decide (32 ≤ c.win)) = true → (quadOf t q).commit = some { c with stage := .ready e } ∧ t = { s with quads := t.quads }) ∧
      (fillBusy s (q * 1024 + c.index) (decide (32 ≤ c.win)) = false → bitF s (F.PLT_TABLE_BASE_TARGET q) = false →
        (quadOf t q).commit = some { c with stage := .writing { e with commitTime := max s.now 1 } } ∧
        (portOf t q).txq = (portOf s q).txq ++ [{ kind := .memWrite, plot := q * 1024, reqId := ridOf s (q * 1024), addr := windowAddr s (q * 1024 + c.index) c.win, len := 64, data := windowBytes { e with commitTime := max s.now 1 } }] ∧
        t = { s with quads := t.quads, ports := t.ports }) ∧
      (fillBusy s (q * 1024 + c.index) (decide (32 ≤ c.win)) = false → bitF s (F.PLT_TABLE_BASE_TARGET q) = true →
        (routeOf s (getF s (F.PLT_TABLE_NODE_NODE q)) (myNode s (1 + q)) (some (q * 1024))).2.pga ≠ 20 →
        (quadOf t q).commit = some { c with stage := .writing { e with commitTime := max s.now 1 } } ∧ tableAsked t q .commitWrite = true ∧
        t = { s with cells := t.cells, quads := t.quads, pga := t.pga }) ∧
      (quadOf t q).lines = (quadOf s q).lines) ∧
  (∀ (s : State) (q : Fin 4) (c : WinCommit) (bs : List Byte) (r : Nat), s.wf = true → (quadOf s q).commit = some c → (quadOf s q).commitQ = [] → c.stage = .reading → tableAsked s q .commitRead = false →
    commitCheck s q c c.staged (parseWindows (windowCount s (q * 1024 + c.index) (decide (32 ≤ c.win))) bs) = some r →
    Runs (.windowCommitReadDone q (.ok bs)) s fun t =>
      getF t (bankF c.hostBank (F.GRF_WIN_STATUS_RESULT q)) = r ∧ bitF t (bankF c.hostBank (F.GRF_WIN_STATUS_BUSY q)) = false ∧ (quadOf t q).commit = none ∧
      (r = 6 → getF t F.HDG_COUNT_FENCE_REFUSED = min (getF s F.HDG_COUNT_FENCE_REFUSED + 1) F.HDG_COUNT_FENCE_REFUSED.max) ∧
      t = { s with cells := t.cells, quads := t.quads } ∧ (quadOf t q).lines = (quadOf s q).lines) ∧
  (∀ (s : State) (q : Fin 4) (c : WinCommit) (why : HostFail), s.wf = true → (quadOf s q).commit = some c → (quadOf s q).commitQ = [] → c.stage = .reading →
    Runs (.windowCommitReadDone q (.failed why)) s fun t =>
      getF t (bankF c.hostBank (F.GRF_WIN_STATUS_RESULT q)) = 10 ∧ bitF t (bankF c.hostBank (F.GRF_WIN_STATUS_BUSY q)) = false ∧ (quadOf t q).commit = none ∧
      (why = .timeout → bitF s (F.PLT_TABLE_BASE_TARGET q) = false → AerErr.completionTimeout ∈ (funcOf t (q * 1024)).aer) ∧
      t = { s with cells := t.cells, funcs := t.funcs, quads := t.quads, ports := t.ports, out := t.out } ∧ (quadOf t q).lines = (quadOf s q).lines)

/-- R91, R93, R94, R101. Once the table is written, with no slot armed and nothing waiting on a fill, a window that has a line takes its new entry: the old generation's count becomes PREV, CUR starts at 0, the fence mark
goes, and the commit ends OK with the new GEN; an entry not valid clears the latch of an outbound window. A DRAIN_COMMIT opens the free slot with the old generation, and a slot whose count is 0 is DONE at once. A table write
that fails ends NO_ACCESS and leaves the lines alone. Writing 1 to DONE of a slot that is done frees it, and of no other; a write from behind a closed register page frees none. -/
def Obligations.WindowCommitTakesEffect : Prop :=
  (∀ (s : State) (q : Fin 4) (c : WinCommit) (e : WinEntry) (l : Line), s.wf = true → (quadOf s q).commit = some c → (quadOf s q).commitQ = [] →
    c.stage = .writing e → tableAsked s q .commitWrite = false → c.index < 1024 → c.win < 64 → s.rake.slots = [] → (quadOf s q).pf = [] → (quadOf s q).missQ = [] →
    armPlots s q = [] → lineOf s (q * 1024 + c.index) c.win = some l → c.drain = false →
    Runs (.windowCommitBoundary q true) s fun t =>
      lineOf t (q * 1024 + c.index) c.win =
        some { l with entry := some e, prev := l.cur, prevGen := l.curGen, cur := 0, curGen := e.gen, fenced := false, marked := c.marked } ∧
      (∀ p w, p / 1024 = q → w < 64 → lineKey p w ≠ lineKey (q * 1024 + c.index) c.win → lineOf t p w = lineOf s p w) ∧
      getF t (bankF c.hostBank (F.GRF_WIN_STATUS_RESULT q)) = 0 ∧ bitF t (bankF c.hostBank (F.GRF_WIN_STATUS_BUSY q)) = false ∧
      getF t (bankF c.hostBank (F.GRF_WIN_STATUS_GEN q)) = e.gen % 65536 ∧ (quadOf t q).commit = none ∧
      (c.win < 32 → latchSet t (q * 1024 + c.index) c.win = (e.valid && latchSet s (q * 1024 + c.index) c.win))) ∧
  (∀ (s : State) (q : Fin 4) (c : WinCommit) (e : WinEntry) (l : Line) (i : Nat), s.wf = true → (quadOf s q).commit = some c → (quadOf s q).commitQ = [] →
    c.stage = .writing e → tableAsked s q .commitWrite = false → c.index < 1024 → c.win < 64 → s.rake.slots = [] → (quadOf s q).pf = [] → (quadOf s q).missQ = [] →
    armPlots s q = [] →
    lineOf s (q * 1024 + c.index) c.win = some l → l.cur < 2 ^ 24 → c.drain = true → freeSlot s q = some i →
    Runs (.windowCommitBoundary q true) s fun t =>
      bitF t (F.GRF_DRAIN_VALID q i) = true ∧ getF t (F.GRF_DRAIN_OLD_GEN q i) = (e.gen + 65535) % 65536 ∧ getF t (F.GRF_DRAIN_WINDOW q i) = c.win ∧
      getF t (F.GRF_DRAIN_INDEX q i) = c.index ∧ getF t (F.GRF_DRAIN_IN_FLIGHT q i) = l.cur ∧ bitF t (F.GRF_DRAIN_DONE q i) = (l.cur == 0) ∧
      (l.cur = 0 → bitF t (F.GRF_EVENT_DRAIN_DONE q) = true) ∧ getF t (bankF c.hostBank (F.GRF_WIN_STATUS_SLOT q)) = i ∧
      getF t (bankF c.hostBank (F.GRF_WIN_STATUS_RESULT q)) = 0) ∧
  (∀ (s : State) (q : Fin 4) (c : WinCommit) (e : WinEntry), s.wf = true → (quadOf s q).commit = some c → (quadOf s q).commitQ = [] → c.stage = .writing e →
    (quadOf s q).missQ = [] → armPlots s q = [] →
    Runs (.windowCommitBoundary q false) s fun t =>
      getF t (bankF c.hostBank (F.GRF_WIN_STATUS_RESULT q)) = 10 ∧ bitF t (bankF c.hostBank (F.GRF_WIN_STATUS_BUSY q)) = false ∧
      (quadOf t q).lines = (quadOf s q).lines ∧ t = { s with cells := t.cells, quads := t.quads }) ∧
  (∀ (s : State) (q : Fin 4) (who : Party) (i : Fin 16), regOpen s who (A.GRF_DRAIN q i) = true →
    Runs (.drainSlotFree q who i) s fun t =>
      (bitF s (F.GRF_DRAIN_DONE q i) = true → bitF t (F.GRF_DRAIN_VALID q i) = false ∧ bitF t (F.GRF_DRAIN_DONE q i) = false ∧ OnlyCells s t ∧
        FieldsBut s t [F.GRF_DRAIN_VALID q i, F.GRF_DRAIN_DONE q i]) ∧
      (bitF s (F.GRF_DRAIN_DONE q i) = false → t = s)) ∧
  (∀ (s : State) (q : Fin 4) (who : Party) (i : Fin 16), regOpen s who (A.GRF_DRAIN q i) = false → Leaves (.drainSlotFree q who i) s)

/-- R98, R99, R101. A prefetch entry that reaches LIFE leaves the buffer, and counts as discarded and is logged as 0x05 where a byte of it was never delivered; a write of GRF_PF_CTRL sets LIFE, and sets a PLOT_MAX
that is not reserved and leaves no plot with more entries than it allows. -/
def Obligations.PrefetchEntriesEnd : Prop :=
  (∀ (s : State) (q : Fin 4) (k : Fin 64) (e : Prefetch), s.wf = true → quadRuns s q = true → (quadOf s q).pf[k.val]? = some e → pfMissing e = [] →
    Runs (.prefetchLifeExpire q k) s fun t => (quadOf t q).pf = (quadOf s q).pf.eraseIdx k ∧ t = { s with quads := t.quads }) ∧
  (∀ (s : State) (q : Fin 4) (k : Fin 64) (e : Prefetch), s.wf = true → quadRuns s q = true → (quadOf s q).pf[k.val]? = some e → pfMissing e ≠ [] →
    plotState s e.plot = psServing → (mget (plotOf s e.plot).rates (rateKey 5 e.win) {}).isOpen = false →
    Runs (.prefetchLifeExpire q k) s fun t =>
      (quadOf t q).pf = (quadOf s q).pf.eraseIdx k ∧ getF t (F.GRF_PF_COUNT_DISCARDS q) = min (getF s (F.GRF_PF_COUNT_DISCARDS q) + 1) 0xFFFFFFFF ∧
      getF t (F.PE_STATUS_LAST_FAULT e.plot) = 5) ∧
  (∀ (s : State) (q : Fin 4) (who : Party) (v : Word), s.wf = true → regOpen s who (A.GRF_PF_CTRL q) = true → 1 ≤ bits v.toNat 8 8 → bits v.toNat 8 8 ≤ 64 →
    (quadOf s q).pf.length ≤ 64 →
    Runs (.prefetchCtrlWrite q who v) s fun t =>
      getF t (F.GRF_PF_CTRL_LIFE q) = bits v.toNat 0 8 ∧ getF t (F.GRF_PF_CTRL_PLOT_MAX q) = bits v.toNat 8 8 ∧
      (∀ p, ((quadOf t q).pf.filter fun x => x.plot == p).length ≤ bits v.toNat 8 8) ∧
      (∀ e ∈ (quadOf t q).pf, e ∈ (quadOf s q).pf)) ∧
  (∀ (s : State) (q : Fin 4) (who : Party) (v : Word), regOpen s who (A.GRF_PF_CTRL q) = true → bits v.toNat 8 8 = 0 ∨ 64 < bits v.toNat 8 8 →
    Runs (.prefetchCtrlWrite q who v) s fun t =>
      getF t (F.GRF_PF_CTRL_LIFE q) = bits v.toNat 0 8 ∧ getF t (F.GRF_PF_CTRL_PLOT_MAX q) = getF s (F.GRF_PF_CTRL_PLOT_MAX q) ∧
      bitF t F.GLB_FORMAT_VALID = true ∧ OnlyCells s t)

/-- R81, R84, R87, R88, R99, R276. With nothing else waiting on it, a fill that finds the entry of the request it serves installs it as a line of its own and ends: an outbound entry that the plot's fence list refuses is installed fenced, and sets FENCED;
an inbound request that waited is decided. While all 4,096 lines are pinned the fill stalls, counts in PIN_STALL, and installs its entry once one is free. A fill that finds no entry completes a read with
Unsupported Request, and answers an inbound request Nak-Address; a read that fails, or that no answer ends within 1 ms, counts in FILL_FAIL, completes the waiting read with Completer Abort and answers the inbound request Nak-Access. -/
def Obligations.WindowFillsEnd : Prop :=
  (∀ (s : State) (p : Fin 4096) (bs : List Byte) (r : OutReq) (rs : List OutReq) (w : Nat) (e : WinEntry), s.wf = true →
    fillReading s p false = true → tableAsked s (quadrantOf p) (.fill p false) = false → (plotOf s p).queue = r :: rs → armPlots s (quadrantOf p) = [] →
    (quadOf s (quadrantOf p)).missQ = [] → (quadOf s (quadrantOf p)).commit = none →
    fillFind s p false r.bar4 r.off r.len 0 (parseWindows (windowCount s p false) bs) = (some (w, e), false) →
    lineOf s p w = none →
    Runs (.windowFillDone p false (.ok bs)) s fun t =>
      ((quadOf s (quadrantOf p)).lines.length < 4096 →
        lineOf t p w = some { entry := some e, curGen := e.gen, fenced := !windowFenceOk s p e, used := (quadOf s (quadrantOf p)).stamp + 1 } ∧ fillBusy t p false = false ∧
        (windowFenceOk s p e = true → t = { s with quads := t.quads }) ∧
        (windowFenceOk s p e = false → bitF t (F.GRF_EVENT_FENCED (quadrantOf p)) = true ∧ t = { s with cells := t.cells, quads := t.quads })) ∧
      (lineRoom s (quadrantOf p) = none →
        mfind (quadOf t (quadrantOf p)).fills (fillKey p false) = some (.stalled w e) ∧
        getF t (F.GRF_CACHE_PIN_STALL (quadrantOf p)) = min (getF s (F.GRF_CACHE_PIN_STALL (quadrantOf p)) + 1) (F.GRF_CACHE_PIN_STALL (quadrantOf p)).max) ∧
      (plotOf t p).queue = r :: rs) ∧
  (∀ (s : State) (p : Fin 4096) (w : Nat) (e : WinEntry) (b : Bool), s.wf = true →
    mfind (quadOf s (quadrantOf p)).fills (fillKey p b) = some (.stalled w e) → armPlots s (quadrantOf p) = [] →
    (quadOf s (quadrantOf p)).missQ = [] → (quadOf s (quadrantOf p)).commit = none → lineOf s p w = none → (quadOf s (quadrantOf p)).lines.length < 4096 →
    b = true ∨ windowFenceOk s p e = true →
    Runs (.windowFillResume p b) s fun t =>
      lineOf t p w = some { entry := some e, curGen := e.gen, used := (quadOf s (quadrantOf p)).stamp + 1 } ∧ fillBusy t p b = false ∧
      t = { s with quads := t.quads }) ∧
  (∀ (s : State) (p : Fin 4096) (bs : List Byte) (x : InReq) (w : Nat) (e : WinEntry), s.wf = true →
    fillReading s p true = true → tableAsked s (quadrantOf p) (.fill p true) = false → armPlots s (quadrantOf p) = [] →
    (quadOf s (quadrantOf p)).missQ = [x] → x.plot = p → (quadOf s (quadrantOf p)).commit = none → inStateRefusal s p = none →
    Runs (.windowFillDone p true (.ok bs)) s fun t =>
      (fillFind s p true false x.req.addr x.req.len 0 (parseWindows (windowCount s p true) bs) = (some (w, e), false) → windowInUse s p w = true →
        (∀ v, lineOf s p v = none) → (quadOf s (quadrantOf p)).lines.length < 4096 → entryMatches e true false x.req.addr x.req.len = true →
        (lineOf t p w).map (fun l => l.entry) = some (some e) ∧ fillBusy t p true = false ∧ (quadOf t (quadrantOf p)).missQ = [] ∧ t.chans = s.chans ∧ t.mem = s.mem) ∧
      (fillFind s p true false x.req.addr x.req.len 0 (parseWindows (windowCount s p true) bs) = (none, false) →
        Responds s t s.pga (quadrantOf p) p x.req 2 [] ∧ (quadOf t (quadrantOf p)).missQ = [] ∧ fillBusy t p true = false)) ∧
  (∀ (s : State) (p : Fin 4096) (bs : List Byte) (r : OutReq), s.wf = true →
    fillReading s p false = true → tableAsked s (quadrantOf p) (.fill p false) = false → (plotOf s p).queue = [r] → r.kind = .read → armPlots s (quadrantOf p) = [] →
    (quadOf s (quadrantOf p)).held = [] → (quadOf s (quadrantOf p)).missQ = [] → (quadOf s (quadrantOf p)).commit = none →
    fillFind s p false r.bar4 r.off r.len 0 (parseWindows (windowCount s p false) bs) = (none, false) →
    Runs (.windowFillDone p false (.ok bs)) s fun t =>
      (plotOf t p).queue = [] ∧ fillBusy t p false = false ∧ AerErr.unsupportedRequest ∈ (funcOf t p).aer ∧
      (portOf t (quadrantOf p)).txq = (portOf s (quadrantOf p)).txq ++ errorTlp s p .unsupportedRequest true ++
        [{ kind := .completion, plot := p, reqId := r.reqId, tag := r.tag, status := .ur }]) ∧
  (∀ (s : State) (p : Fin 4096) (r : OutReq) (late : Bool) (why : HostFail), s.wf = true →
    fillReading s p false = true → (plotOf s p).queue = [r] → r.kind = .read → armPlots s (quadrantOf p) = [] →
    (quadOf s (quadrantOf p)).held = [] → (quadOf s (quadrantOf p)).missQ = [] → (quadOf s (quadrantOf p)).commit = none →
    Runs (if late then .windowFillTimeout p false else .windowFillDone p false (.failed why)) s fun t =>
      (plotOf t p).queue = [] ∧ fillBusy t p false = false ∧ AerErr.completerAbort ∈ (funcOf t p).aer ∧
      (late = true → bitF s (F.PLT_TABLE_BASE_TARGET (quadrantOf p)) = false → AerErr.completionTimeout ∈ (funcOf t (quadrantOf p * 1024)).aer) ∧
      getF t (F.GRF_CACHE_FILL_FAIL (quadrantOf p)) = min (getF s (F.GRF_CACHE_FILL_FAIL (quadrantOf p)) + 1) 0xFFFF ∧
      bitF t (F.GRF_EVENT_FILL_FAIL (quadrantOf p)) = true ∧
      ∃ l, (portOf t (quadrantOf p)).txq = (portOf s (quadrantOf p)).txq ++ l ++ [{ kind := .completion, plot := p, reqId := r.reqId, tag := r.tag, status := .ca }]) ∧
  (∀ (s : State) (p : Fin 4096) (x : InReq) (late : Bool) (why : HostFail), s.wf = true →
    fillReading s p true = true → armPlots s (quadrantOf p) = [] → (quadOf s (quadrantOf p)).held = [] → (quadOf s (quadrantOf p)).missQ = [x] → x.plot = p →
    (quadOf s (quadrantOf p)).commit = none → bitF s (F.PLT_TABLE_BASE_TARGET (quadrantOf p)) = true →
    Runs (if late then .windowFillTimeout p true else .windowFillDone p true (.failed why)) s fun t =>
      Responds s t s.pga (quadrantOf p) p x.req 3 [] ∧ (quadOf t (quadrantOf p)).missQ = [] ∧ fillBusy t p true = false ∧ bitF t (F.GRF_EVENT_FILL_FAIL (quadrantOf p)) = true)

/-! ### Trellis (chapter 04) -/

/-- R13, R122, R123, R125, R126. Setting EN starts the scan, clearing it takes READY and every lookup with it, and EPOCH follows the write. The scan's end sets READY and leaves every entry it does not find bad as it was and
no malformed one. WRITE of an entry that passes every check puts the staged words there and no others, and otherwise ends with its RESULT and changes
none; INVALIDATE empties its entry alone. Each sets BUSY; one written while BUSY is 1 only sets OVERRUN and raises source 1,240. A write from behind a closed register page changes nothing. -/
def Obligations.TrellisControlAndWrites : Prop :=
  (∀ (s : State) (who : Party) (v : Word), regOpen s who A.TRL_CTRL = true →
    Runs (.trellisCtrlWrite who v) s fun t =>
      getF t F.TRL_CTRL_EPOCH = bits v.toNat 2 1 ∧ bitF t F.TRL_CTRL_EN = bitOf v.toNat 0 ∧ t.trl.table = s.trl.table ∧ t.trl.struck = s.trl.struck ∧
      t = { s with cells := t.cells, trl := t.trl } ∧ FieldsBut s t [F.TRL_CTRL_EPOCH, F.TRL_CTRL_EN, F.TRL_CTRL_READY] ∧
      (bitOf v.toNat 0 = true → bitF s F.TRL_CTRL_EN = false → t.trl.scan = true) ∧
      (bitOf v.toNat 0 = true → bitF s F.TRL_CTRL_EN = true → t.trl = s.trl ∧ getF t F.TRL_CTRL_READY = getF s F.TRL_CTRL_READY) ∧
      (bitOf v.toNat 0 = false → ∀ cls key, trellisLookup t cls key = none)) ∧
  (∀ s : State, s.wf = true → mwf s.trl.struck = true → s.trl.scan = true →
    Runs .trellisScanDone s fun t =>
      bitF t F.TRL_CTRL_READY = true ∧ t.trl.scan = false ∧ t = { s with cells := t.cells, trl := t.trl } ∧
      FieldsBut s t [F.TRL_STATUS_BAD_COUNT, F.TRL_CTRL_READY] ∧
      (∀ i, scanBad s i = false → entryKey t i = entryKey s i ∧ entryResult t i = entryResult s i) ∧
      (∀ i, entryStruck s i = false → trellisMalformed (entryKey t i) (entryResult t i) = false)) ∧
  (∀ (s : State) (who : Party) (i : Fin 65536), s.wf = true → mwf s.trl.struck = true → regOpen s who A.TRL_CMD = true → bitF s F.TRL_STATUS_BUSY = false →
    trlCheck s i = 0 →
    Runs (.trellisWrite who i) s fun t =>
      entryKey t i = getF s F.TRL_STAGE0_V ∧ entryResult t i = getF s F.TRL_STAGE1_V ∧ entryStruck t i = false ∧
      (∀ j, j ≠ i.val → entryKey t j = entryKey s j ∧ entryResult t j = entryResult s j) ∧
      getF t F.TRL_STATUS_RESULT = 0 ∧ getF t F.TRL_STATUS_INDEX = i.val ∧ bitF t F.TRL_STATUS_BUSY = true ∧ t = { s with cells := t.cells, trl := t.trl } ∧
      FieldsBut s t [F.TRL_STATUS_RESULT, F.TRL_STATUS_INDEX, F.TRL_STATUS_BUSY]) ∧
  (∀ (s : State) (who : Party) (i : Fin 65536), regOpen s who A.TRL_CMD = true → bitF s F.TRL_STATUS_BUSY = false → trlCheck s i ≠ 0 →
    Runs (.trellisWrite who i) s fun t =>
      getF t F.TRL_STATUS_RESULT = trlCheck s i ∧ t.trl = s.trl ∧ OnlyCells s t ∧ FieldsBut s t [F.TRL_STATUS_RESULT, F.TRL_STATUS_INDEX, F.TRL_STATUS_BUSY] ∧
      (bitF s F.TRL_CTRL_READY = false → getF t F.TRL_STATUS_RESULT = 5)) ∧
  (∀ (s : State) (who : Party) (i : Fin 65536), s.wf = true → regOpen s who A.TRL_CMD = true → bitF s F.TRL_STATUS_BUSY = false →
    Runs (.trellisInvalidate who i) s fun t =>
      entryKey t i = 0 ∧ entryResult t i = 0 ∧ (∀ j, j ≠ i.val → entryKey t j = entryKey s j ∧ entryResult t j = entryResult s j) ∧
      getF t F.TRL_STATUS_RESULT = 0 ∧ getF t F.TRL_STATUS_INDEX = i.val ∧ t = { s with cells := t.cells, trl := t.trl } ∧
      FieldsBut s t [F.TRL_STATUS_RESULT, F.TRL_STATUS_INDEX, F.TRL_STATUS_BUSY]) ∧
  (∀ (s : State) (who : Party) (i : Fin 65536), regOpen s who A.TRL_CMD = true → bitF s F.TRL_STATUS_BUSY = true →
    ∀ c ∈ [Instr.trellisWrite who i, .trellisInvalidate who i, .trellisFind who i],
      Runs c s fun t => bitF t F.TRL_STATUS_OVERRUN = true ∧ Pending t 1240 ∧ OnlyCells s t ∧ FieldsBut s t [F.TRL_STATUS_OVERRUN, F.EVG_PEND_PEND 19]) ∧
  (∀ (s : State) (who : Party) (i : Fin 65536) (v : Word) (high : Bool),
    (regOpen s who A.TRL_CTRL = false → Leaves (.trellisCtrlWrite who v) s) ∧
    (regOpen s who A.TRL_CMD = false → ∀ c ∈ [Instr.trellisWrite who i, .trellisInvalidate who i, .trellisFind who i], Leaves c s) ∧
    (partyOpen s who = false → Leaves (.trellisTableWrite who i high v) s))

/-- R121, R123, R510. FIND shows the entry with the staged key, its index and its result word, or NOT_FOUND; before READY it ends NOT_READY and shows neither. A write of the table region sets its word, and rewrites a struck entry, while Trellis is
stopped; otherwise it changes no entry and sets LOCKED_IGNORED. -/
def Obligations.TrellisFindAndTable : Prop :=
  (∀ (s : State) (who : Party) (i : Fin 65536) (j : Nat), regOpen s who A.TRL_CMD = true → bitF s F.TRL_STATUS_BUSY = false → bitF s F.TRL_CTRL_READY = true → trlFound s = some j →
    entryResult s j < 2 ^ 64 →
    Runs (.trellisFind who i) s fun t =>
      bitF t F.TRL_STATUS_FOUND = true ∧ getF t F.TRL_STATUS_INDEX = j ∧ getF t F.TRL_STAGE1_V = entryResult s j ∧ getF t F.TRL_STATUS_RESULT = 0 ∧
      OnlyCells s t ∧ FieldsBut s t [F.TRL_STATUS_FOUND, F.TRL_STATUS_INDEX, F.TRL_STAGE1_V, F.TRL_STATUS_RESULT, F.TRL_STATUS_BUSY]) ∧
  (∀ (s : State) (who : Party) (i : Fin 65536), regOpen s who A.TRL_CMD = true → bitF s F.TRL_STATUS_BUSY = false → bitF s F.TRL_CTRL_READY = true → trlFound s = none →
    Runs (.trellisFind who i) s fun t =>
      bitF t F.TRL_STATUS_FOUND = false ∧ getF t F.TRL_STATUS_INDEX = i.val ∧ getF t F.TRL_STATUS_RESULT = 4 ∧ OnlyCells s t ∧
      FieldsBut s t [F.TRL_STATUS_FOUND, F.TRL_STATUS_INDEX, F.TRL_STATUS_RESULT, F.TRL_STATUS_BUSY]) ∧
  (∀ (s : State) (who : Party) (i : Fin 65536), regOpen s who A.TRL_CMD = true → bitF s F.TRL_STATUS_BUSY = false → bitF s F.TRL_CTRL_READY = false →
    Runs (.trellisFind who i) s fun t =>
      getF t F.TRL_STATUS_RESULT = 5 ∧ getF t F.TRL_STATUS_INDEX = i.val ∧ OnlyCells s t ∧ FieldsBut s t [F.TRL_STATUS_INDEX, F.TRL_STATUS_RESULT, F.TRL_STATUS_BUSY]) ∧
  (∀ (s : State) (who : Party) (i : Fin 65536) (high : Bool) (v : Word), s.wf = true → mwf s.trl.struck = true → partyOpen s who = true → bitF s F.TRL_CTRL_EN = false →
    bitF s F.TRL_CTRL_READY = false →
    Runs (.trellisTableWrite who i high v) s fun t =>
      entryKey t i = (if high then entryKey s i else v.toNat) ∧ entryResult t i = (if high then v.toNat else entryResult s i) ∧
      (∀ j, j ≠ i.val → entryKey t j = entryKey s j ∧ entryResult t j = entryResult s j) ∧ entryStruck t i = false ∧ t = { s with trl := t.trl }) ∧
  (∀ (s : State) (who : Party) (i : Fin 65536) (high : Bool) (v : Word), partyOpen s who = true → bitF s F.TRL_CTRL_EN = true ∨ bitF s F.TRL_CTRL_READY = true →
    Runs (.trellisTableWrite who i high v) s fun t =>
      bitF t F.TRL_STATUS_LOCKED_IGNORED = true ∧ Pending t 1240 ∧ OnlyCells s t ∧ FieldsBut s t [F.TRL_STATUS_LOCKED_IGNORED, F.EVG_PEND_PEND 19])

/-! ### Plots (chapter 02) -/

/-- R54, R65, R66. LOAD of a Disabled plot outside Boot makes it Loading and reads its entry, in host memory or at the fabric node; where configuration memory is closed or not reached it ends NO_ACCESS. An entry that is valid, well formed and fits is taken, both buckets are full, and the plot is
Serving or Held by Bus Master Enable, and the LOAD ends OK; a read that fails or is not answered in 1 ms, VALID 0, a malformed entry and a vector range that does not fit leave the plot Disabled, each with its
RESULT for a LOAD command. A COMMIT whose read is not answered ends NO_ACCESS. A command in a state that does not accept it ends STATE, one for a function that is not enabled INDEX, and neither changes anything else; one while BUSY sets OVERRUN alone; one from behind a closed page does nothing. -/
def Obligations.PlotLoads : Prop :=
  (∀ (s : State) (q : Fin 4) (who : Party) (i : Fin 1024), s.wf = true → PltTaken s q who i → plotState s (q * 1024 + i) = psDisabled → pwmMode s ≠ moBoot →
    Runs (.plotLoad q who i) s fun t =>
      (tableReached s q = false → plotState t (q * 1024 + i) = psDisabled ∧ getF t (F.PLT_CMD_STATUS_RESULT q) = 2 ∧ bitF t (F.PLT_CMD_STATUS_BUSY q) = false) ∧
      (tableReached s q = true → bitF s (F.PLT_TABLE_BASE_TARGET q) = false → t.out = .tableRead q (entryAddr s (q * 1024 + i)) 256 :: s.out) ∧
      (tableReached s q = true → bitF s (F.PLT_TABLE_BASE_TARGET q) = true → tableAsked t q (.load (q * 1024 + i)) = true) ∧
      (tableReached s q = true →
        plotState t (q * 1024 + i) = psLoading ∧ (plotOf t (q * 1024 + i)).load = some .command ∧ bitF t (F.PLT_CMD_STATUS_BUSY q) = true ∧ (quadOf t q).plt = some ⟨1, i⟩) ∧
      t = { s with cells := t.cells, plots := t.plots, quads := t.quads, ports := t.ports, pga := t.pga, out := t.out }) ∧
  (∀ (s : State) (p : Fin 4096) (bs : List Byte), s.wf = true → loading s p = true → tableAsked s (quadrantOf p) (.load p) = false →
    loadBad s p (.ok bs) = none →
    Runs (.plotLoadEntryRead p (.ok bs)) s fun t =>
      plotState t p = (if bmeOf s p then psServing else psHeld) ∧ (∀ x ∈ plotMemFields p, getF t x.1 = fieldIn bs x) ∧
      (plotOf t p).tx = rateDepth t p 0 ∧ (plotOf t p).rx = rateDepth t p 1 ∧ (plotOf t p).load = none ∧ CmdEnds s t p 1 0) ∧
  (∀ (s : State) (p : Fin 4096) (r : MemResult) (res : Nat), s.wf = true → loading s p = true →
    r.isFailed = true ∨ tableAsked s (quadrantOf p) (.load p) = false → loadBad s p r = some res →
    Runs (.plotLoadEntryRead p r) s fun t =>
      plotState t p = psDisabled ∧ (plotOf t p).load = none ∧ CmdEnds s t p 1 res) ∧
  (∀ (s : State) (p : Fin 4096) (r : MemResult), loading s p = false → Leaves (.plotLoadEntryRead p r) s) ∧
  (∀ (s : State) (p : Fin 4096), s.wf = true → loading s p = true →
    Runs (.plotLoadTimeout p) s fun t => plotState t p = psDisabled ∧ (plotOf t p).load = none ∧ CmdEnds s t p 1 2) ∧
  (∀ (s : State) (p : Fin 4096), s.wf = true → loading s p = false →
    (tableAsked s (quadrantOf p) (.commit p) = false → Leaves (.plotLoadTimeout p) s) ∧
    (tableAsked s (quadrantOf p) (.commit p) = true → Runs (.plotLoadTimeout p) s fun t =>
      CmdEnds s t p 2 2 ∧ tableAsked t (quadrantOf p) (.commit p) = false ∧ t = { s with cells := t.cells, quads := t.quads })) ∧
  (∀ (s : State) (q : Fin 4) (who : Party) (i : Fin 1024) (r : MemResult),
    ∀ x ∈ [(Instr.plotLoad q who i, [psDisabled]), (.plotCommit q who i r, [psServing, psHeld]), (.plotResetCmd q who i, [psServing, psHeld, psFaulted]),
           (.plotUnload q who i, [psLoading, psServing, psHeld, psFaulted]), (.plotWritebackCmd q who i, [psServing, psHeld, psFaulted])],
      (regOpen s who (A.PLT_CMD q) = false → Leaves x.1 s) ∧
      (regOpen s who (A.PLT_CMD q) = true → bitF s (F.PLT_CMD_STATUS_BUSY q) = true →
        Runs x.1 s fun t => bitF t (F.PLT_CMD_STATUS_OVERRUN q) = true ∧ OnlyCells s t ∧ FieldsBut s t [F.PLT_CMD_STATUS_OVERRUN q]) ∧
      (regOpen s who (A.PLT_CMD q) = true → bitF s (F.PLT_CMD_STATUS_BUSY q) = false →
        funcEnabled s (q * 1024 + i) = false ∨ plotState s (q * 1024 + i) ∉ x.2 →
        Runs x.1 s fun t =>
          getF t (F.PLT_CMD_STATUS_RESULT q) = (if funcEnabled s (q * 1024 + i) then 3 else 6) ∧ getF t (F.PLT_CMD_STATUS_INDEX q) = i.val ∧
          t = { s with cells := t.cells, quads := t.quads } ∧
          FieldsBut s t [F.PLT_CMD_STATUS_RESULT q, F.PLT_CMD_STATUS_INDEX q, F.PLT_CMD_STATUS_OP q, F.PLT_CMD_STATUS_BUSY q]))

/-- R46, R51, R52, R65, R66. COMMIT of a Serving or Held plot takes every Staged field of a well-formed entry and no Locked one, and sets LOCKED_IGNORED where a Locked field differs; a malformed one ends FORMAT, and a read that fails NO_ACCESS, with no
field changed; at a fabric node the command waits for the answer. PP_COMMIT puts every staged page field in effect or, with FORMAT, IN_USE or STATE, none; with the plot Disabled or Resetting it does nothing. PLT_TABLE_BASE is written while every plot of the
port is Disabled, with TARGET 1 and bits 63:56 set it keeps BASE and TARGET, with VALID and AUTO the load of PF0 starts; it is otherwise ignored with LOCKED_IGNORED. -/
def Obligations.PlotCommits : Prop :=
  (∀ (s : State) (q : Fin 4) (who : Party) (i : Fin 1024) (p : Nat) (bs : List Byte), s.wf = true → PltTaken s q who i → p = q * 1024 + i →
    plotState s p = psServing ∨ plotState s p = psHeld → tableOpen s q = true → bitF s (F.PLT_TABLE_BASE_TARGET q) = false → tableAsked s q (.commit p) = false →
    Runs (.plotCommit q who i (.ok bs)) s fun t =>
      (plotMalformed (residentBytes (loadFields s bs (plotStagedFields p)) p) p = false →
        (∀ x ∈ plotStagedFields p, getF t x.1 = fieldIn bs x) ∧ getF t (F.PLT_CMD_STATUS_RESULT q) = 0) ∧
      (plotMalformed (residentBytes (loadFields s bs (plotStagedFields p)) p) p = true →
        (∀ x ∈ plotStagedFields p, getF t x.1 = getF s x.1) ∧ getF t (F.PLT_CMD_STATUS_RESULT q) = 1) ∧
      (∀ x ∈ plotLockedFields p, getF t x.1 = getF s x.1) ∧
      ((∃ x ∈ plotLockedFields p, fieldIn bs x ≠ getF s x.1) → bitF t (F.PLT_CMD_STATUS_LOCKED_IGNORED q) = true ∧ Pending t (1216 + q)) ∧
      bitF t (F.PLT_CMD_STATUS_BUSY q) = false ∧ t = { s with cells := t.cells, plots := t.plots, quads := t.quads, out := t.out }) ∧
  (∀ (s : State) (q : Fin 4) (who : Party) (i : Fin 1024) (r : MemResult), s.wf = true → PltTaken s q who i →
    plotState s (q * 1024 + i) = psServing ∨ plotState s (q * 1024 + i) = psHeld →
    tableReached s q = false ∨ (bitF s (F.PLT_TABLE_BASE_TARGET q) = false ∧ tableAsked s q (.commit (q * 1024 + i)) = false ∧ r.isFailed = true) →
    Runs (.plotCommit q who i r) s fun t =>
      getF t (F.PLT_CMD_STATUS_RESULT q) = 2 ∧ bitF t (F.PLT_CMD_STATUS_BUSY q) = false ∧ (∀ x ∈ plotMemFields (q * 1024 + i), getF t x.1 = getF s x.1) ∧
      plotState t (q * 1024 + i) = plotState s (q * 1024 + i) ∧ t.pga = s.pga ∧ t.links = s.links ∧ t.mem = s.mem) ∧
  (∀ (s : State) (q : Fin 4) (who : Party) (i : Fin 1024) (r : MemResult), s.wf = true → PltTaken s q who i →
    plotState s (q * 1024 + i) = psServing ∨ plotState s (q * 1024 + i) = psHeld → tableReached s q = true → bitF s (F.PLT_TABLE_BASE_TARGET q) = true →
    Runs (.plotCommit q who i r) s fun t =>
      tableAsked t q (.commit (q * 1024 + i)) = true ∧ bitF t (F.PLT_CMD_STATUS_BUSY q) = true ∧ (∀ x ∈ plotMemFields (q * 1024 + i), getF t x.1 = getF s x.1) ∧
      t = { s with cells := t.cells, quads := t.quads, pga := t.pga }) ∧
  (∀ (s : State) (p : Fin 4096), s.wf = true → plotState s p = psServing ∨ plotState s p = psHeld ∨ plotState s p = psFaulted → pageMalformed s p = false →
    pageInUse s p = false → pageDead s p = false →
    Runs (.plotPageCommit p) s fun t =>
      (∀ x ∈ plotStagePairs p, getF t x.2 = getF s x.1 % 2 ^ x.2.w) ∧ bitF t (F.PE_STATUS_PSET_VALID p) = true ∧ getF t (F.PP_COMMIT_STATUS_RESULT p) = 0 ∧
      plotState t p = plotState s p) ∧
  (∀ (s : State) (p : Fin 4096),
    (pageDead s p = true → Leaves (.plotPageCommit p) s) ∧
    (pageDead s p = false → Runs (.plotPageCommit p) s fun t =>
      (plotState s p = psLoading → getF t (F.PP_COMMIT_STATUS_RESULT p) = 3 ∧ OnlyCells s t ∧ FieldsBut s t [F.PP_COMMIT_STATUS_RESULT p]) ∧
      (plotState s p ∈ [psServing, psHeld, psFaulted] → pageMalformed s p = true →
        getF t (F.PP_COMMIT_STATUS_RESULT p) = 1 ∧ OnlyCells s t ∧ FieldsBut s t [F.PP_COMMIT_STATUS_RESULT p]) ∧
      (plotState s p ∈ [psServing, psHeld, psFaulted] → pageMalformed s p = false → pageInUse s p = true →
        getF t (F.PP_COMMIT_STATUS_RESULT p) = 2 ∧ OnlyCells s t ∧ FieldsBut s t [F.PP_COMMIT_STATUS_RESULT p]))) ∧
  (∀ (s : State) (q : Fin 4) (who : Party) (v : Word), s.wf = true → regOpen s who (A.PLT_TABLE_BASE q) = true → portIdle s q = true →
    Runs (.plotTableBaseWrite q who v) s fun t =>
      getF t (F.PLT_TABLE_BASE_VALID q) = bits v.toNat 0 1 ∧ getF t (F.PLT_TABLE_BASE_AUTO q) = bits v.toNat 2 1 ∧
      (bitOf v.toNat 1 = false ∨ bits v.toNat 56 8 = 0 → getF t (F.PLT_TABLE_BASE_BASE q) = bits v.toNat 18 46 ∧ getF t (F.PLT_TABLE_BASE_TARGET q) = bits v.toNat 1 1) ∧
      (bitOf v.toNat 1 = true → bits v.toNat 56 8 ≠ 0 →
        getF t (F.PLT_TABLE_BASE_BASE q) = getF s (F.PLT_TABLE_BASE_BASE q) ∧ getF t (F.PLT_TABLE_BASE_TARGET q) = getF s (F.PLT_TABLE_BASE_TARGET q) ∧
        bitF t F.GLB_FORMAT_VALID = true ∧ getF t F.GLB_FORMAT_COUNT = min (getF s F.GLB_FORMAT_COUNT + 1) F.GLB_FORMAT_COUNT.max) ∧
      (bitOf v.toNat 0 = false ∨ bitOf v.toNat 2 = false → OnlyCells s t ∧
        FieldsBut s t [F.PLT_TABLE_BASE_BASE q, F.PLT_TABLE_BASE_TARGET q, F.PLT_TABLE_BASE_VALID q, F.PLT_TABLE_BASE_AUTO q, F.GLB_FORMAT_VALID, F.GLB_FORMAT_COUNT,
          F.GLB_FORMAT_WRITER, F.GLB_FORMAT_OFFSET, F.EVG_PEND_PEND 0]) ∧
      (bitOf v.toNat 0 = true → bitOf v.toNat 2 = true → bitOf v.toNat 1 = false → bmeOf s (q * 1024) = true → pwmMode s ≠ moBoot →
        plotState t (q * 1024) = psLoading ∧ (plotOf t (q * 1024)).load = some .auto)) ∧
  (∀ (s : State) (q : Fin 4) (who : Party) (v : Word),
    (regOpen s who (A.PLT_TABLE_BASE q) = false → Leaves (.plotTableBaseWrite q who v) s) ∧
    (regOpen s who (A.PLT_TABLE_BASE q) = true → portIdle s q = false →
      Runs (.plotTableBaseWrite q who v) s fun t =>
        bitF t (F.PLT_CMD_STATUS_LOCKED_IGNORED q) = true ∧ Pending t (1216 + q) ∧ OnlyCells s t ∧
        FieldsBut s t [F.PLT_CMD_STATUS_LOCKED_IGNORED q, F.EVG_PEND_PEND 19]))

/-- R54, R66, R67, R68, R70. RESET and UNLOAD of a loaded plot make it Resetting and the command stays BUSY; UNLOAD while Loading makes it Disabled at once, OK. Step 5 with no write outstanding, or A after step 1, ends the reset: the latches are cleared, PSET_VALID is 0, RESET_COUNT has gone up,
the command ends OK, and the plot is Serving or Held by Bus Master Enable, or Disabled for an UNLOAD. While writes are outstanding and A has not passed,
and where no reset is under way, nothing happens. -/
def Obligations.PlotResets : Prop :=
  (∀ (s : State) (q : Fin 4) (who : Party) (i : Fin 1024) (unload : Bool), s.wf = true → PltTaken s q who i →
    plotState s (q * 1024 + i) = psServing ∨ plotState s (q * 1024 + i) = psHeld ∨ plotState s (q * 1024 + i) = psFaulted →
    Runs (if unload then .plotUnload q who i else .plotResetCmd q who i) s fun t =>
      plotState t (q * 1024 + i) = psResetting ∧ (plotOf t (q * 1024 + i)).cloche.map (fun c => (c.unload, c.flr)) = some (unload, false) ∧
      bitF t (F.PLT_CMD_STATUS_BUSY q) = true ∧ t.root = s.root ∧ t.chain = s.chain ∧ t.ctl = s.ctl ∧ t.test = s.test ∧ t.fw = s.fw ∧ t.now = s.now ∧ t.mq = s.mq) ∧
  (∀ (s : State) (q : Fin 4) (who : Party) (i : Fin 1024), s.wf = true → PltTaken s q who i → plotState s (q * 1024 + i) = psLoading →
    Runs (.plotUnload q who i) s fun t =>
      plotState t (q * 1024 + i) = psDisabled ∧ getF t (F.PLT_CMD_STATUS_RESULT q) = 0 ∧ bitF t (F.PLT_CMD_STATUS_BUSY q) = false ∧
      (plotOf t (q * 1024 + i)).load = none ∧ t.out = s.out) ∧
  (∀ (s : State) (p : Fin 4096) (c : Cloche), s.wf = true → (plotOf s p).cloche = some c → plotState s p = psResetting →
    plotWrites s p = [] ∨ c.start + min (ackMicros s p) 8000 ≤ s.now → c.refetch = false →
    Runs (.clocheStep5 p) s fun t =>
      plotState t p = (if c.unload then psDisabled else if bmeOf s p then psServing else psHeld) ∧ (plotOf t p).cloche = none ∧
      getF t (F.PE_STATUS_RESET_COUNT p) = (getF s (F.PE_STATUS_RESET_COUNT p) + 1) % 2 ^ (F.PE_STATUS_RESET_COUNT p).w ∧
      bitF t (F.PE_STATUS_PSET_VALID p) = false ∧ (∀ w < 32, latchSet t p w = false) ∧ plotWrites t p = [] ∧
      ((quadOf s (quadrantOf p)).plt = some ⟨3, indexOf p⟩ ∨ (quadOf s (quadrantOf p)).plt = some ⟨4, indexOf p⟩ →
        getF t (F.PLT_CMD_STATUS_RESULT (quadrantOf p)) = 0 ∧ bitF t (F.PLT_CMD_STATUS_BUSY (quadrantOf p)) = false)) ∧
  (∀ (s : State) (p : Fin 4096), (plotOf s p).cloche = none → Leaves (.clocheStep5 p) s) ∧
  (∀ (s : State) (p : Fin 4096) (c : Cloche), (plotOf s p).cloche = some c → plotState s p = psResetting → plotWrites s p ≠ [] →
    s.now < c.start + min (ackMicros s p) 8000 → Leaves (.clocheStep5 p) s)

/-- R45, R47, R54, R62, R63, R550. A write-back of a plot whose page was never committed writes bytes 0x00 to 0x0F with WB_SEQ increased; with PSET_VALID 1 and a change there bytes 0x60 to 0xFF go first and, once written, bytes 0x00 to 0x0F. Its end gives STATUS that WB_SEQ and ends the command; one that fails counts in WB_FAIL, leaves WB_SEQ and is due again. A refetch that reads a well-formed entry takes it and makes
FaultRecord 0x32; one that cannot makes the plot Faulted with 0x31. A write of PP_FAULT_CONS moves CONS and PHASE and lets a held record into the ring. A rate window that carried events makes
one record of them; one that carried none closes. -/
def Obligations.PlotRecordsWritten : Prop :=
  (∀ (s : State) (p : Fin 4096) (who : Party) (periodic : Bool), s.wf = true → (plotOf s p).wbBusy = none → tableOpen s (quadrantOf p) = true →
    bitF s (F.PLT_TABLE_BASE_TARGET (quadrantOf p)) = false →
    plotState s p = psServing ∨ plotState s p = psHeld ∨ plotState s p = psFaulted →
    (if periodic then (plotOf s p).dirty = true ∧ getF s (F.PLT_WB_PERIOD (quadrantOf p)) ≠ 0 else PltTaken s (quadrantOf p) who (indexOf p)) →
    Runs (if periodic then .plotWritebackPeriod p else .plotWritebackCmd ⟨quadrantOf p, by unfold quadrantOf; omega⟩ who ⟨indexOf p, by unfold indexOf; omega⟩) s fun t =>
      getF t (F.PE_STATUS_WB_SEQ p) = getF s (F.PE_STATUS_WB_SEQ p) ∧ bitF t (F.PLT_CMD_STATUS_BUSY (quadrantOf p)) = (!periodic || bitF s (F.PLT_CMD_STATUS_BUSY (quadrantOf p))) ∧
      (bitF s (F.PE_STATUS_PSET_VALID p) = false ∨ (plotOf s p).pdirty = false → (plotOf t p).wbBusy = some 2 ∧
        (portOf t (quadrantOf p)).txq = (portOf s (quadrantOf p)).txq ++ [{ kind := .memWrite, plot := pf0Of p, reqId := ridOf s (pf0Of p), addr := entryAddr s p, len := 16, data := plotLowBytes (wrapInc s (F.PE_STATUS_WB_SEQ p)) p }]) ∧
      (bitF s (F.PE_STATUS_PSET_VALID p) = true → (plotOf s p).pdirty = true → (plotOf t p).wbBusy = some 1 ∧ (plotOf t p).wbLow = plotLowBytes (wrapInc s (F.PE_STATUS_WB_SEQ p)) p ∧
        (portOf t (quadrantOf p)).txq = (portOf s (quadrantOf p)).txq ++ [{ kind := .memWrite, plot := pf0Of p, reqId := ridOf s (pf0Of p), addr := entryAddr s p + 0x60, len := 160, data := plotHighBytes s p }]) ∧
      t = { s with cells := t.cells, plots := t.plots, quads := t.quads, ports := t.ports }) ∧
  (∀ (s : State) (p : Fin 4096), (plotOf s p).dirty = false ∨ getF s (F.PLT_WB_PERIOD (quadrantOf p)) = 0 → Leaves (.plotWritebackPeriod p) s) ∧
  (∀ (s : State) (p : Fin 4096), s.wf = true → (plotOf s p).wbBusy = some 1 → tableOpen s (quadrantOf p) = true → bitF s (F.PLT_TABLE_BASE_TARGET (quadrantOf p)) = false →
    tableAsked s (quadrantOf p) (.writeback p) = false →
    Runs (.plotWritebackDone p true) s fun t =>
      (plotOf t p).wbBusy = some 2 ∧ getF t (F.PE_STATUS_WB_SEQ p) = getF s (F.PE_STATUS_WB_SEQ p) ∧
      (portOf t (quadrantOf p)).txq = (portOf s (quadrantOf p)).txq ++ [{ kind := .memWrite, plot := pf0Of p, reqId := ridOf s (pf0Of p), addr := entryAddr s p, len := (plotOf s p).wbLow.length, data := (plotOf s p).wbLow }] ∧
      t = { s with plots := t.plots, quads := t.quads, ports := t.ports }) ∧
  (∀ (s : State) (p : Fin 4096), s.wf = true → (plotOf s p).wbBusy = some 2 → (plotOf s p).wbAgain = false → tableAsked s (quadrantOf p) (.writeback p) = false →
    Runs (.plotWritebackDone p true) s fun t =>
      getF t (F.PE_STATUS_WB_SEQ p) = (getF s (F.PE_STATUS_WB_SEQ p) + 1) % 2 ^ (F.PE_STATUS_WB_SEQ p).w ∧ (plotOf t p).wbBusy = none ∧ CmdEnds s t p 5 0 ∧
      t = { s with cells := t.cells, plots := t.plots, quads := t.quads }) ∧
  (∀ (s : State) (p : Fin 4096), s.wf = true → (plotOf s p).wbBusy = some 1 ∨ (plotOf s p).wbBusy = some 2 → (plotOf s p).wbAgain = false →
    Runs (.plotWritebackDone p false) s fun t =>
      (plotOf t p).wbBusy = none ∧ (plotOf t p).dirty = true ∧ getF t (F.PE_STATUS_WB_SEQ p) = getF s (F.PE_STATUS_WB_SEQ p) ∧ CmdEnds s t p 5 2 ∧
      getF t (F.PLT_WB_WB_FAIL (quadrantOf p)) = min (getF s (F.PLT_WB_WB_FAIL (quadrantOf p)) + 1) (F.PLT_WB_WB_FAIL (quadrantOf p)).max) ∧
  (∀ (s : State) (p : Fin 4096) (bs : List Byte), s.wf = true → (plotOf s p).refetch = true → (plotOf s p).refetchBare = false → tableAsked s (quadrantOf p) (.refetch p) = false →
    plotState s p = psServing ∨ plotState s p = psHeld → plotMalformed bs p = false → bits (wordAt bs 0) 0 4 ≤ 5 →
    Runs (.plotRefetchDone p (.ok bs)) s fun t =>
      (∀ x ∈ plotMemFields p, getF t x.1 = fieldIn bs x) ∧ getF t (F.PE_STATUS_LAST_FAULT p) = 0x32 ∧ (plotOf t p).refetch = false ∧
      (bits (wordAt bs 0) 0 4 ≠ psFaulted → getF s (F.PE_STATUS_BME p) = (if bmeOf s p then 1 else 0) → plotState s p = (if bmeOf s p then psServing else psHeld) → plotState t p = plotState s p) ∧
      (bits (wordAt bs 0) 0 4 = psFaulted → plotState t p = psFaulted)) ∧
  (∀ (s : State) (p : Fin 4096) (r : MemResult), s.wf = true → (plotOf s p).refetch = true → plotState s p = psServing ∨ plotState s p = psHeld →
    r.isFailed = true ∨ tableAsked s (quadrantOf p) (.refetch p) = false → (match r with | .ok bs => plotMalformed bs p | .failed _ => true) = true →
    Runs (.plotRefetchDone p r) s fun t =>
      plotState t p = psFaulted ∧ getF t (F.PE_STATUS_LAST_FAULT p) = 0x31 ∧ AerErr.uncorrectableInternal ∈ (funcOf t p).aer ∧ (plotOf t p).refetch = false) ∧
  (∀ (s : State) (p : Fin 4096) (r : MemResult), (plotOf s p).refetch = false → Leaves (.plotRefetchDone p r) s) ∧
  (∀ (s : State) (p : Fin 4096) (v : Word),
    (pageDead s p = true → Leaves (.faultConsWrite p v) s) ∧
    (s.wf = true → pageDead s p = false → (plotOf s p).held = [] →
      Runs (.faultConsWrite p v) s fun t =>
        getF t (F.PP_FAULT_CONS_CONS p) = bits v.toNat 0 12 ∧ getF t (F.PP_FAULT_CONS_PHASE p) = bits v.toNat 12 1 ∧ (plotOf t p).vecSent = false ∧
        t = { s with cells := t.cells, plots := t.plots } ∧ FieldsBut s t [F.PP_FAULT_CONS_CONS p, F.PP_FAULT_CONS_PHASE p, F.PE_FAULT_PTR_HELD p])) ∧
  (∀ (s : State) (p : Fin 4096) (v : Word) (r : FaultRec), s.wf = true → pageDead s p = false → (plotOf s p).held = [r] → bmeOf s p = true →
    getF s (F.PE_FAULT_LOG_EN p) = 1 → getF s (F.PE_FAULT_PTR_PROD p) ≠ bits v.toNat 0 12 →
    getF s (F.PE_FAULT_PTR_PROD p) + 1 < 16 * 2 ^ getF s (F.PE_FAULT_LOG_SIZE p) → getF s (F.PE_FAULT_PTR_PROD p) + 1 < 4096 →
    Runs (.faultConsWrite p v) s fun t =>
      getF t (F.PE_FAULT_PTR_PROD p) = getF s (F.PE_FAULT_PTR_PROD p) + 1 ∧ (plotOf t p).held = [] ∧ getF t (F.PE_FAULT_PTR_HELD p) = 0 ∧
      ∃ l, (portOf t (quadrantOf p)).txq = (portOf s (quadrantOf p)).txq ++ { kind := .memWrite, plot := p, reqId := ridOf s p, addr := getF s (F.PE_FAULT_LOG_BASE p) * 4096 + 64 * getF s (F.PE_FAULT_PTR_PROD p), len := 64, data := leBytes 64 (faultValue r p (getF s (F.PE_FAULT_PTR_PHASE p))) } :: l) ∧
  (∀ (s : State) (p : Fin 4096) (code : BitVec 8) (scope : Fin 64) (w : RateWin) (r : FaultRec), s.wf = true →
    mget (plotOf s p).rates (rateKey code.toNat scope) {} = w → w.isOpen = true → w.first = some r → r.code < 256 →
    Runs (.faultRateWindowEnd p code scope) s fun t =>
      getF t (F.PE_STATUS_LAST_FAULT p) = r.code ∧ mget (plotOf t p).rates (rateKey code.toNat scope) {} = { isOpen := true }) ∧
  (∀ (s : State) (p : Fin 4096) (code : BitVec 8) (scope : Fin 64) (w : RateWin), s.wf = true → mwf (plotOf s p).rates = true →
    mget (plotOf s p).rates (rateKey code.toNat scope) {} = w → w.isOpen = true → w.first = none →
    Runs (.faultRateWindowEnd p code scope) s fun t =>
      mget (plotOf t p).rates (rateKey code.toNat scope) {} = {} ∧ t = { s with plots := t.plots })

/-! ### The Rake (chapter 06) -/

/-- R185, R186, R187. ARM of a slot that passes every check and matches a window arms it with that window's translation, clears its PEND bit (the model's choice, assumption 129) and LAST and ends OK; its checks end it with STATE, LIMIT, FORMAT, NO_WINDOW or SIDE_EFFECT in that order, with no slot armed;
with no matching line at hand it waits for a fill, or ends NO_WINDOW where none can start. DISARM takes its slot out, DISARM_ALL every slot of the plot and of no other. A command while BUSY sets OVERRUN alone, and one at a Disabled or Resetting plot does nothing. -/
def Obligations.RakeSlots : Prop :=
  (∀ (s : State) (p : Fin 4096) (i : Fin 64) (w : Nat) (l : Line) (e : WinEntry), s.wf = true → plotState s p = psServing ∨ plotState s p = psHeld → bitF s (F.PP_RAKE_STATUS_BUSY p) = false →
    i.val < getF s (F.PE_CAPS_RAKE_LIMIT p) → getF s (F.PP_RAKE_CTRL_MODE p i) < 3 → getF s (F.PP_RAKE_CTRL_VEC p i) < getF s (F.PE_MSIX_VEC_COUNT p) →
    heldQ s (quadrantOf p) 1 = false → findLine s p false (bitF s (F.PP_RAKE_WATCH_BAR p i)) (watchOff s p i) 8 = some (w, l, e) →
    (recheck s p w l e).2.fenced = false → e.rdEn = true → e.sideEffect = false →
    meetsSide s e.node (e.tbase + (watchOff s p i - e.first)) (e.tbase + (watchOff s p i - e.first) + 7) = false →
    Runs (.rakeArm p i) s fun t =>
      (∃ x, mfind t.rake.slots (p * 64 + i) = some x ∧ x.win = w ∧ x.gen = (recheck s p w l e).2.curGen ∧ x.node = e.node ∧ x.addr = e.tbase + (watchOff s p i - e.first) ∧ x.cls = e.pollClass ∧
        x.mask = getF s (F.PP_RAKE_MASK_V p i) ∧ x.mode = getF s (F.PP_RAKE_CTRL_MODE p i) ∧ x.vec = getF s (F.PP_RAKE_CTRL_VEC p i) ∧ x.fresh = true) ∧
      (∃ b ∈ t.rake.batches, b.plot = p.val ∧ b.node = e.node ∧ b.block = rakeBlock (e.tbase + (watchOff s p i - e.first))) ∧
      getF t (F.PP_RAKE_STATUS_RESULT p) = 0 ∧ getF t (F.PP_RAKE_STATUS_SLOT p) = i.val ∧ bitF t (F.PP_RAKE_STATUS_BUSY p) = false ∧
      getF t (F.PP_RAKE_LAST_V p i) = 0 ∧ bitOf (getF t (F.PP_RAKE_PEND_V p)) i = false ∧ bitOf (getF t (F.PP_RAKE_ARMED_V p)) i = true ∧
      (∀ k, k ≠ p * 64 + i.val → mfind t.rake.slots k = mfind s.rake.slots k) ∧
      t = { s with cells := t.cells, plots := t.plots, quads := t.quads, rake := t.rake }) ∧
  (∀ (s : State) (p : Fin 4096) (i : Fin 64), plotState s p ≠ psDisabled → plotState s p ≠ psResetting → bitF s (F.PP_RAKE_STATUS_BUSY p) = false →
    Runs (.rakeArm p i) s fun t =>
      (plotState s p ≠ psServing → plotState s p ≠ psHeld → getF t (F.PP_RAKE_STATUS_RESULT p) = 1 ∧ t.rake = s.rake ∧ OnlyCells s t) ∧
      (plotState s p = psServing ∨ plotState s p = psHeld → getF s (F.PE_CAPS_RAKE_LIMIT p) ≤ i.val → getF t (F.PP_RAKE_STATUS_RESULT p) = 2 ∧ t.rake = s.rake ∧ OnlyCells s t) ∧
      (plotState s p = psServing ∨ plotState s p = psHeld → i.val < getF s (F.PE_CAPS_RAKE_LIMIT p) →
        getF s (F.PP_RAKE_CTRL_MODE p i) = 3 ∨ getF s (F.PE_MSIX_VEC_COUNT p) ≤ getF s (F.PP_RAKE_CTRL_VEC p i) →
        getF t (F.PP_RAKE_STATUS_RESULT p) = 3 ∧ t.rake = s.rake ∧ OnlyCells s t)) ∧
  (∀ (s : State) (p : Fin 4096) (i : Fin 64) (w : Nat) (l : Line) (e : WinEntry), plotState s p = psServing ∨ plotState s p = psHeld → bitF s (F.PP_RAKE_STATUS_BUSY p) = false →
    i.val < getF s (F.PE_CAPS_RAKE_LIMIT p) → getF s (F.PP_RAKE_CTRL_MODE p i) < 3 → getF s (F.PP_RAKE_CTRL_VEC p i) < getF s (F.PE_MSIX_VEC_COUNT p) →
    heldQ s (quadrantOf p) 1 = false → findLine s p false (bitF s (F.PP_RAKE_WATCH_BAR p i)) (watchOff s p i) 8 = some (w, l, e) →
    Runs (.rakeArm p i) s fun t =>
      ((recheck s p w l e).2.fenced = true ∨ e.rdEn = false → getF t (F.PP_RAKE_STATUS_RESULT p) = 4 ∧ t.rake = s.rake) ∧
      ((recheck s p w l e).2.fenced = false → e.rdEn = true →
        e.sideEffect = true ∨ meetsSide s e.node (e.tbase + (watchOff s p i - e.first)) (e.tbase + (watchOff s p i - e.first) + 7) = true →
        getF t (F.PP_RAKE_STATUS_RESULT p) = 5 ∧ t.rake = s.rake)) ∧
  (∀ (s : State) (p : Fin 4096) (i : Fin 64), s.wf = true → plotState s p = psServing ∨ plotState s p = psHeld → bitF s (F.PP_RAKE_STATUS_BUSY p) = false →
    i.val < getF s (F.PE_CAPS_RAKE_LIMIT p) → getF s (F.PP_RAKE_CTRL_MODE p i) < 3 → getF s (F.PP_RAKE_CTRL_VEC p i) < getF s (F.PE_MSIX_VEC_COUNT p) →
    findLine s p false (bitF s (F.PP_RAKE_WATCH_BAR p i)) (watchOff s p i) 8 = none →
    Runs (.rakeArm p i) s fun t =>
      (heldQ s (quadrantOf p) 1 = false → fillWaits s p = true → (plotOf t p).arm = some (i.val, armStaged s p i) ∧ bitF t (F.PP_RAKE_STATUS_BUSY p) = true ∧ t.rake = s.rake) ∧
      (heldQ s (quadrantOf p) 1 = true ∨ fillWaits s p = false →
        getF t (F.PP_RAKE_STATUS_RESULT p) = 4 ∧ bitF t (F.PP_RAKE_STATUS_BUSY p) = false ∧ t.rake = s.rake)) ∧
  (∀ (s : State) (p : Fin 4096) (i : Fin 64), plotState s p ≠ psDisabled → plotState s p ≠ psResetting → bitF s (F.PP_RAKE_STATUS_BUSY p) = false → mwf s.rake.slots = true →
    Runs (.rakeDisarm p i) s fun t =>
      mfind t.rake.slots (p * 64 + i) = none ∧ (∀ k, k ≠ p * 64 + i.val → mfind t.rake.slots k = mfind s.rake.slots k) ∧
      bitOf (getF t (F.PP_RAKE_PEND_V p)) i = false ∧ bitOf (getF t (F.PP_RAKE_ARMED_V p)) i = false ∧ getF t (F.PP_RAKE_STATUS_RESULT p) = 0 ∧
      t = { s with cells := t.cells, rake := t.rake }) ∧
  (∀ (s : State) (p : Fin 4096) (i : Fin 64), plotState s p ≠ psDisabled → plotState s p ≠ psResetting → bitF s (F.PP_RAKE_STATUS_BUSY p) = false → mwf s.rake.slots = true →
    Runs (.rakeDisarmAll p i) s fun t =>
      (∀ k, k / 64 = p → mfind t.rake.slots k = none) ∧ (∀ k, k / 64 ≠ p → mfind t.rake.slots k = mfind s.rake.slots k) ∧
      getF t (F.PP_RAKE_STATUS_RESULT p) = 0 ∧ t = { s with cells := t.cells, rake := t.rake }) ∧
  (∀ (s : State) (p : Fin 4096) (i : Fin 64), ∀ c ∈ [Instr.rakeArm p i, .rakeDisarm p i, .rakeDisarmAll p i],
    (plotState s p = psDisabled ∨ plotState s p = psResetting → Leaves c s) ∧
    (plotState s p ≠ psDisabled → plotState s p ≠ psResetting → bitF s (F.PP_RAKE_STATUS_BUSY p) = true →
      Runs c s fun t => bitF t (F.PP_RAKE_STATUS_OVERRUN p) = true ∧ OnlyCells s t ∧ FieldsBut s t [F.PP_RAKE_STATUS_OVERRUN p]))

/-- R183, R188, R189, R191. Of the batches that are due, the one due first, the lowest plot first at equal times, is swept when the issue rate allows it: its SignalRead of 256 bytes goes to Pergola under a tag of its own, the batch is outstanding and remembers when it was sent, from which its next is due a period later, and SWEEPS counts it;
one more than a period late counts as a miss. One that has no way, and one that no answer ends in time, counts in ERRORS, frees its tag and sets the ERR bit of every slot it was for. Nothing is sent with no batch due or too soon after the last. -/
def Obligations.RakeSweeps : Prop :=
  (∀ (s : State) (b : Batch) (rt : Route), s.wf = true → rakHeld s = false → rakeRate s = true → b ∈ batchesDue s →
    (∀ c ∈ batchesDue s, c = b ∨ batchDue s b < batchDue s c ∨ (batchDue s b = batchDue s c ∧ b.plot < c.plot)) →
    (routeOf s b.node (myNode s 0) (some b.plot)).2 = rt → (∀ st, rt ≠ .fail st) →
    Runs .rakeSweepSend s fun t =>
      t.rake.batches = s.rake.batches.map (fun c => if c = b then { b with outstanding := true, sent := some s.now } else c) ∧ t.rake.lastSent = some s.now ∧
      getF t F.RAK_COUNT_SWEEPS = min (getF s F.RAK_COUNT_SWEEPS + 1) F.RAK_COUNT_SWEEPS.max ∧
      getF t F.RAK_COUNT_MISSES = (if batchDue s b + batchPeriod s b < s.now then min (getF s F.RAK_COUNT_MISSES + 1) F.RAK_COUNT_MISSES.max else getF s F.RAK_COUNT_MISSES) ∧
      mfind t.unit0 (mfree s.unit0 0) = some (.rake b.plot b.node b.block) ∧
      t.pga = (pgaPush s rt.pga 0 .rake { ingress := 17, txn := .req { op := .signalRead, dest := b.node, src := myNode s 0, tenant := tenantOf s b.plot, tag := mfree s.unit0 0, addr := b.block, len := 256 } }).pga) ∧
  (∀ (s : State) (b : Batch) (st : Nat), s.wf = true → rakHeld s = false → rakeRate s = true → b ∈ batchesDue s →
    (∀ c ∈ batchesDue s, c = b ∨ batchDue s b < batchDue s c ∨ (batchDue s b = batchDue s c ∧ b.plot < c.plot)) →
    (routeOf s b.node (myNode s 0) (some b.plot)).2 = .fail st →
    Runs .rakeSweepSend s fun t =>
      getF t F.RAK_COUNT_SWEEPS = min (getF s F.RAK_COUNT_SWEEPS + 1) F.RAK_COUNT_SWEEPS.max ∧
      getF t F.RAK_COUNT_ERRORS = min (getF s F.RAK_COUNT_ERRORS + 1) F.RAK_COUNT_ERRORS.max ∧ bitF t F.RAK_EVENT_ERROR = true ∧ t.rake.lastSent = some s.now ∧
      (∀ x ∈ batchSlots s b.plot b.node b.block, bitOf (getF t (F.PP_RAKE_ERR_V b.plot)) (x.1 % 64) = true) ∧ t.pga = s.pga ∧ t.unit0 = s.unit0) ∧
  (∀ s : State, rakHeld s = true ∨ rakeRate s = false ∨ batchesDue s = [] → Leaves .rakeSweepSend s) ∧
  (∀ (s : State) (tag p node block : Nat), s.wf = true → mfind s.unit0 tag = some (.rake p node block) →
    Runs (.rakeSweepTimeout tag) s fun t =>
      mfind t.unit0 tag = none ∧ getF t F.RAK_COUNT_ERRORS = min (getF s F.RAK_COUNT_ERRORS + 1) F.RAK_COUNT_ERRORS.max ∧
      bitF t F.RAK_EVENT_ERROR = true ∧
      (plotState s p = psServing ∨ plotState s p = psHeld → ∀ x ∈ batchSlots s p node block, x.2.stale = false → bitOf (getF t (F.PP_RAKE_ERR_V p)) (x.1 % 64) = true) ∧
      (∀ b ∈ t.rake.batches, b.plot = p → b.node = node → b.block = block → b.outstanding = false) ∧ t.rake.slots = s.rake.slots) ∧
  (∀ (s : State) (tag : Nat), mfind s.unit0 tag = none → Leaves (.rakeSweepTimeout tag) s)

/-! ### The DMA engine (chapters 08 and 09) -/

/-- R219, R222, R225, R235. A doorbell that the plot, its page, its operand or the state of its channel refuses only counts in DB_IGNORED; at a Disabled or Resetting plot it does nothing. START and RESUME make their channel Running and read its ChannelEntry, or let it wait for a context, as KICK does of an Idle one; KICK of a Running or Stalled channel sets REARM;
ABORT takes a Running channel to Aborting and waits on a Stalled one. -/
def Obligations.DmaDoorbells : Prop :=
  (∀ (s : State) (p : Fin 4096) (c : Fin 256) (h : BitVec 58), pageDead s p = true →
    ∀ i ∈ [Instr.dmaStart p c h, .dmaKick p c, .dmaAbort p c, .dmaResume p c], Leaves i s) ∧
  (∀ (s : State) (p : Fin 4096) (c : Fin 256) (h : BitVec 58), pageDead s p = false →
    ∀ i ∈ [(Instr.dmaStart p c h, decide (h ≠ 0) && ((chanOf s p c).st == csIdle || (chanOf s p c).st == csHalted) && !(chanOf s p c).held && !(chanOf s p c).pending),
           (.dmaKick p c, (chanOf s p c).going || (chanOf s p c).st == csIdle), (.dmaAbort p c, (chanOf s p c).st == csRunning || (chanOf s p c).st == csStalled),
           (.dmaResume p c, (chanOf s p c).st == csHalted && (chanOf s p c).cause == ccHost && !(chanOf s p c).held)],
      (dbRefused s p c = true ∨ i.2 = false →
        Runs i.1 s fun t => getF t (F.PP_DMA_DB_IGNORED p) = min (getF s (F.PP_DMA_DB_IGNORED p) + 1) (F.PP_DMA_DB_IGNORED p).max ∧ OnlyCells s t ∧
          FieldsBut s t [F.PP_DMA_DB_IGNORED p])) ∧
  (∀ (s : State) (p : Fin 4096) (c : Fin 256) (h : BitVec 58), s.wf = true → dbRefused s p c = false → h ≠ 0 →
    (chanOf s p c).st = csIdle ∨ (chanOf s p c).st = csHalted → (chanOf s p c).held = false → (chanOf s p c).pending = false →
    Runs (.dmaStart p c h) s fun t =>
      TakesContext s t p c ∧ (chanOf t p c).cause = 0 ∧ (chanOf t p c).cur = h.toNat * 64 ∧ (chanOf t p c).span = none ∧ (chanOf t p c).kind = .start ∧
      (ctxFree s (quadrantOf p) = false → (portOf t (quadrantOf p)).txq = (portOf s (quadrantOf p)).txq ++
        [{ kind := .memWrite, plot := p, reqId := ridOf s p, addr := chanEntryAddr s p c + 16, len := 8, data := leBytes 8 (h.toNat * 64 + csRunning) }])) ∧
  (∀ (s : State) (p : Fin 4096) (c : Fin 256), s.wf = true → dbRefused s p c = false → (chanOf s p c).going = true →
    Runs (.dmaKick p c) s fun t => chanOf t p c = { chanOf s p c with rearm := true } ∧ bitF t (F.PP_CHAN_STATUS_REARM p c) = true ∧
      t = { s with cells := t.cells, chans := t.chans }) ∧
  (∀ (s : State) (p : Fin 4096) (c : Fin 256), s.wf = true → dbRefused s p c = false → (chanOf s p c).st = csIdle →
    Runs (.dmaKick p c) s fun t =>
      (chanOf t p c).st = csRunning ∧ (chanOf t p c).cur = (chanOf s p c).cur ∧
      ((chanOf s p c).resident = false → TakesContext s t p c ∧ (chanOf t p c).kind = .kick) ∧
      ((chanOf s p c).resident = true → (chanOf t p c).reread = some ((chanOf s p c).cur, 0) ∧ t.out = .plotRead p ((chanOf s p c).cur + 0x20) 8 :: s.out ∧
        t = { s with cells := t.cells, chans := t.chans, out := t.out })) ∧
  (∀ (s : State) (p : Fin 4096) (c : Fin 256), s.wf = true → dbRefused s p c = false → (chanOf s p c).st = csRunning →
    Runs (.dmaAbort p c) s fun t => (chanOf t p c).st = csAborting ∨ ((chanOf t p c).st = csStalled ∧ (chanOf t p c).back = csAborting)) ∧
  (∀ (s : State) (p : Fin 4096) (c : Fin 256), s.wf = true → dbRefused s p c = false → (chanOf s p c).st = csStalled →
    Runs (.dmaAbort p c) s fun t => chanOf t p c = { chanOf s p c with abortPend := true } ∧ t = { s with cells := t.cells, chans := t.chans }) ∧
  (∀ (s : State) (p : Fin 4096) (c : Fin 256), s.wf = true → dbRefused s p c = false → (chanOf s p c).st = csHalted → (chanOf s p c).cause = ccHost →
    (chanOf s p c).held = false →
    Runs (.dmaResume p c) s fun t =>
      TakesContext s t p c ∧ (chanOf t p c).cause = 0 ∧ (chanOf t p c).kind = .resume ∧ (chanOf t p c).resumeAt = (chanOf s p c).resumeAt ∧
      (chanOf t p c).cur = (chanOf s p c).cur)

/-- R217, R218, R222, R223, R224, R225, R248. A usable ChannelEntry read for START gives the control word and fetches the first Descriptor, of a START that waited the one the entry names; one read for KICK, RESUME or after an eviction gives the channel its Status fields and goes on from CUR; one that fails or is unusable halts the channel with ENTRY. A free context goes to the next pending channel. A channel at a Descriptor boundary whose slice is over writes its context back and waits again. A Descriptor of some length with no transform joins the chain; one of no length finishes at once; a malformed one joins it Bad, with reason 0x03; one that needs an extension has it read; a fetch that
fails or a NEXT that is not aligned halts with FETCH. An extension that is well formed gives a woven Descriptor its ways; one that is malformed, or whose read fails, makes the Descriptor Bad with reason 0x03 or 0x0B. -/
def Obligations.DmaFetches : Prop :=
  (∀ (s : State) (p : Fin 4096) (c : Fin 256) (bs : List Byte) (a : Nat), s.wf = true → (chanOf s p c).loading = true → (chanOf s p c).st = csRunning →
    ((chanOf s p c).kind = .start ∧ a = (chanOf s p c).cur) ∨ ((chanOf s p c).kind = .waited ∧ a = wordAt bs 0x10 / 64 * 64) → entryUnusable s p (wordAt bs 0) = false →
    Runs (.dmaContextLoaded p c (.ok bs)) s fun t =>
      (chanOf t p c).act = wordAt bs 0 ∧ (chanOf t p c).fetch = some a ∧ (chanOf t p c).cur = a ∧ (chanOf t p c).loading = false ∧ (chanOf t p c).descs = 0 ∧
      (chanOf t p c).bytes = 0 ∧ t.out = .plotRead p a 64 :: s.out ∧ t = { s with cells := t.cells, chans := t.chans, out := t.out }) ∧
  (∀ (s : State) (p : Fin 4096) (c : Fin 256) (bs : List Byte), s.wf = true → (chanOf s p c).loading = true → (chanOf s p c).st = csRunning →
    (chanOf s p c).kind = .kick ∨ (chanOf s p c).kind = .resume ∨ (chanOf s p c).kind = .evicted →
    Runs (.dmaContextLoaded p c (.ok bs)) s fun t =>
      (chanOf t p c).act = wordAt bs 0x38 ∧ (chanOf t p c).cur = wordAt bs 0x10 / 64 * 64 ∧ (chanOf t p c).descs = bits (wordAt bs 0x18) 32 32 ∧
      (chanOf t p c).residue = bits (wordAt bs 0x18) 0 32 ∧ (chanOf t p c).bytes = wordAt bs 0x20 ∧ (chanOf t p c).badCount = bits (wordAt bs 0x28) 32 32 ∧
      (chanOf t p c).loading = false ∧ t = { s with cells := t.cells, chans := t.chans, out := t.out } ∧
      (if (chanOf s p c).kind = .kick ∨ ((chanOf s p c).kind = .resume ∧ (chanOf s p c).resumeAt = none)
        then (chanOf t p c).reread = some (wordAt bs 0x10 / 64 * 64, 0) ∧ t.out = .plotRead p (wordAt bs 0x10 / 64 * 64 + 0x20) 8 :: s.out
        else (chanOf t p c).fetch = some (wordAt bs 0x10 / 64 * 64) ∧ t.out = .plotRead p (wordAt bs 0x10 / 64 * 64) 64 :: s.out)) ∧
  (∀ (s : State) (p : Fin 4096) (c : Fin 256) (r : MemResult), s.wf = true → (chanOf s p c).loading = true → (chanOf s p c).st = csRunning →
    (match r with
      | .failed _ => true
      | .ok bs => ((chanOf s p c).kind == .start || (chanOf s p c).kind == .waited) && entryUnusable s p (wordAt bs 0)) = true →
    Runs (.dmaContextLoaded p c r) s fun t =>
      (chanOf t p c).st = csHalting ∧ (chanOf t p c).cause = ccEntry ∧ (chanOf t p c).loading = false ∧ t.out = s.out) ∧
  (∀ (s : State) (p : Fin 4096) (c : Fin 256) (r : MemResult),
    ((chanOf s p c).loading = false → Leaves (.dmaContextLoaded p c r) s) ∧ ((chanOf s p c).fetch = none → Leaves (.dmaDescriptorFetched p c r) s) ∧
    ((∀ d ∈ (chanOf s p c).ds, d.extWait = false) → Leaves (.dmaExtensionFetched p c r) s)) ∧
  (∀ (s : State) (q : Fin 4) (k : Nat), s.wf = true → ctxFree s q = true → heldQ s q 3 = false → nextPending s q = some k →
    Runs (.dmaContextAdmit q) s fun t =>
      (chanOf t (k / 256) (k % 256)).resident = true ∧ (chanOf t (k / 256) (k % 256)).pending = false ∧ (chanOf t (k / 256) (k % 256)).loading = true ∧
      (chanOf t (k / 256) (k % 256)).since = s.now ∧ t.out = .plotRead (k / 256) (chanEntryAddr s (k / 256) (k % 256)) 64 :: s.out ∧
      t = { s with cells := t.cells, chans := t.chans, quads := t.quads, out := t.out }) ∧
  (∀ (s : State) (q : Fin 4), ctxFree s q = false ∨ heldQ s q 3 = true ∨ nextPending s q = none → Leaves (.dmaContextAdmit q) s) ∧
  (∀ (s : State) (p : Fin 4096) (c : Fin 256) (d : Desc), s.wf = true → getF s (F.DMA_CTRL_SLICE (quadrantOf p)) ≠ 0 → atBoundary (chanOf s p c) = true →
    (chanOf s p c).since + getF s (F.DMA_CTRL_SLICE (quadrantOf p)) * 10 ≤ s.now → (nextPending s (quadrantOf p)).isSome = true → memOpen s p = true →
    heldQ s (quadrantOf p) 3 = false → (chanOf s p c).ds = [d] →
    Runs (.dmaSliceEvict p c) s fun t =>
      (chanOf t p c).resident = false ∧ (chanOf t p c).pending = true ∧ (chanOf t p c).kind = .evicted ∧ (chanOf t p c).ds = [] ∧ (chanOf t p c).cur = d.addr ∧
      (portOf t (quadrantOf p)).txq = (portOf s (quadrantOf p)).txq ++ [{ kind := .memWrite, plot := p, reqId := ridOf s p, addr := chanEntryAddr s p c + 16, len := 48, data := entryWords { chanOf s p c with cur := d.addr, ds := [], span := d.spanBefore } }] ∧
      t = { s with cells := t.cells, chans := t.chans, ports := t.ports }) ∧
  (∀ (s : State) (p : Fin 4096) (c : Fin 256), getF s (F.DMA_CTRL_SLICE (quadrantOf p)) = 0 ∨ atBoundary (chanOf s p c) = false ∨
    s.now < (chanOf s p c).since + getF s (F.DMA_CTRL_SLICE (quadrantOf p)) * 10 ∨ nextPending s (quadrantOf p) = none → Leaves (.dmaSliceEvict p c) s) ∧
  (∀ (s : State) (p : Fin 4096) (c : Fin 256) (a : Nat) (d : Desc) (bs : List Byte), s.wf = true → (chanOf s p c).fetch = some a → (chanOf s p c).st = csRunning →
    headBusy (chanOf s p c) = true → (chanOf s p c).after = .none → (chanOf s p c).span = none → (chanOf s p c).resumeAt = none →
    d = parseDesc (chanOf s p c).nextNo a bs → d.next % 64 = 0 → d.xform = 0 → 0 < d.length →
    Runs (.dmaDescriptorFetched p c (.ok bs)) s fun t =>
      (descMalformed d (chanOf s p c).burstMax = false → (chanOf t p c).ds = (chanOf s p c).ds ++ [d]) ∧
      (descMalformed d (chanOf s p c).burstMax = true →
        (chanOf t p c).ds = (chanOf s p c).ds ++ [{ d with bad := some { reason := 3, fst := 0xFF, addr := 0, len := 0 }, failOff := some 0 }]) ∧
      (chanOf t p c).fetch = none ∧ (chanOf t p c).st = csRunning ∧ t = { s with cells := t.cells, chans := t.chans }) ∧
  (∀ (s : State) (p : Fin 4096) (c : Fin 256) (a : Nat) (d : Desc) (bs : List Byte), s.wf = true → (chanOf s p c).fetch = some a → (chanOf s p c).st = csRunning →
    (chanOf s p c).ds = [] → (chanOf s p c).after = .none → (chanOf s p c).recs = [] → (chanOf s p c).span = none → (chanOf s p c).resumeAt = none →
    d = parseDesc (chanOf s p c).nextNo a bs → d.next % 64 = 0 → d.xform = 0 → d.length = 0 → descMalformed d (chanOf s p c).burstMax = false → d.statusWb = false → d.cr = false →
    Runs (.dmaDescriptorFetched p c (.ok bs)) s fun t =>
      (chanOf t p c).ds = [] ∧ (chanOf t p c).descs = ((chanOf s p c).descs + 1) % 2 ^ 32 ∧
      getF t (F.DMA_COUNT_DESCS (quadrantOf p)) = min (getF s (F.DMA_COUNT_DESCS (quadrantOf p)) + 1) (F.DMA_COUNT_DESCS (quadrantOf p)).max ∧
      (if d.next = 0 then (chanOf t p c).reread = some (a, d.user) ∧ t.out = .plotRead p (a + 0x20) 8 :: s.out
        else (chanOf t p c).fetch = some d.next ∧ t.out = .plotRead p d.next 64 :: s.out)) ∧
  (∀ (s : State) (p : Fin 4096) (c : Fin 256) (a : Nat) (d : Desc) (bs : List Byte), s.wf = true → (chanOf s p c).fetch = some a → (chanOf s p c).st = csRunning →
    headBusy (chanOf s p c) = true → (chanOf s p c).after = .none → (chanOf s p c).resumeAt = none →
    d = parseDesc (chanOf s p c).nextNo a bs → d.next % 64 = 0 → descMalformed d (chanOf s p c).burstMax = false → d.extNeeded = true → d.extAddr ≠ 0 →
    (d.weave = true → bitF s (F.PE_CAPS_WEAVE_EN p) = true) → (bits d.xform 2 3 ≠ 0 → bitF s (F.PE_CAPS_SEAL_EN p) = true) →
    Runs (.dmaDescriptorFetched p c (.ok bs)) s fun t =>
      (chanOf t p c).ds = (chanOf s p c).ds ++ [{ d with extWait := true, spanBefore := (chanOf s p c).span }] ∧ t.out = .extRead p d.extAddr d.weave :: s.out ∧
      t = { s with cells := t.cells, chans := t.chans, out := t.out }) ∧
  (∀ (s : State) (p : Fin 4096) (c : Fin 256) (a : Nat) (r : MemResult), s.wf = true → (chanOf s p c).fetch = some a → (chanOf s p c).st = csRunning →
    (match r with | .failed _ => true | .ok bs => (parseDesc 0 a bs).next % 64 != 0) = true →
    Runs (.dmaDescriptorFetched p c r) s fun t =>
      (chanOf t p c).st = csHalting ∧ (chanOf t p c).cause = ccFetch ∧ (chanOf t p c).fetch = none ∧ (chanOf t p c).ds = (chanOf s p c).ds) ∧
  (∀ (s : State) (p : Fin 4096) (c : Fin 256) (d : Desc) (es : List Desc) (bs : List Byte), s.wf = true → (chanOf s p c).ds = es ++ [d] → d.extWait = true →
    (∀ e ∈ es, e.extWait = false ∧ e.pos ≠ e.length) → d.bad = none → (chanOf s p c).st = csRunning → (chanOf s p c).after = .none →
    (chanOf s p c).span = none → (chanOf s p c).resumeAt = none → d.seal = false → d.cut = false → d.pos = 0 → 0 < d.length →
    Runs (.dmaExtensionFetched p c (.ok bs)) s fun t =>
      (xformMalformed { d with extWait := false, ext := parseExt d bs } bs (chanOf s p c).spanAlg = false →
        (chanOf t p c).ds = es ++ [{ d with extWait := false, ext := parseExt d bs }]) ∧
      (xformMalformed { d with extWait := false, ext := parseExt d bs } bs (chanOf s p c).spanAlg = true →
        (chanOf t p c).ds = es ++ [{ d with extWait := false, ext := parseExt d bs, bad := some { reason := 3, fst := 0xFF, addr := 0, len := 0 }, failOff := some 0 }]) ∧
      t = { s with cells := t.cells, chans := t.chans }) ∧
  (∀ (s : State) (p : Fin 4096) (c : Fin 256) (d : Desc) (es : List Desc) (why : HostFail), s.wf = true → (chanOf s p c).ds = es ++ [d] → d.extWait = true →
    (∀ e ∈ es, e.extWait = false ∧ e.pos ≠ e.length) → d.cut = false → (chanOf s p c).st = csRunning → (chanOf s p c).after = .none → (chanOf s p c).span = none →
    Runs (.dmaExtensionFetched p c (.failed why)) s fun t =>
      (∃ n < 65, (chanOf t p c).ds = es ++ [{ d with extWait := false, extLen := 64 + 16 * n, bad := some { reason := 0x0B, fst := why.code, addr := d.extAddr, len := 64 + 16 * n }, failOff := some 0 }] ∧
        (d.weave = false → n = 0)) ∧
      t = { s with cells := t.cells, chans := t.chans, free := t.free }) ∧
  (∀ (s : State) (p : Fin 4096) (c : Fin 256) (r : MemResult), s.wf = true → (chanOf s p c).going = false →
    ((chanOf s p c).ds.any fun d => d.extWait) = true →
    Runs (.dmaExtensionFetched p c r) s fun t => (∀ d ∈ (chanOf t p c).ds, d.extWait = false) ∧ t = { s with cells := t.cells, chans := t.chans })

/-- R225, R227, R228, R229, R230, R244. The scheduler's choice issues the next burst of its Descriptor, at the offset and of the length of R227, and moves the Descriptor past it; one that the fence list refuses counts, is not issued and fails its Descriptor with reason 0x04. A burst whose data is whole is
written in its turn: a plain host destination of one TLP crosses Pergola to the host path, a fabric one takes a Ledger entry. A burst that retires OK adds its bytes, and the last one of the last Descriptor counts the Descriptor and fetches NEXT. The end of the chain read
again goes on to a NEXT that has been set, or makes the channel Idle; a read that fails halts it with FETCH. -/
def Obligations.DmaBursts : Prop :=
  (∀ (s : State) (q : Fin 4) (lvl k : Nat) (d : Desc) (x : Chan), s.wf = true → heldQ s q 3 = false → quadRuns s q = true →
    schedule s q (fun p r => reqMay s p false false r) = some (lvl, k) →
    x = chanOf s (k / 256) (k % 256) → issuing x = some d → (∀ b ∈ x.bursts, b.id < x.nextNo) →
    burstRefused s (k / 256) (readReqs d d.pos (burstLen d x.burstMax)) (writeReqs d d.pos (burstLen d x.burstMax)) = none →
    Runs (.dmaBurstIssue q) s fun t =>
      (chanOf t (k / 256) (k % 256)).nextNo = x.nextNo + 1 ∧
      (∃ b ∈ (chanOf t (k / 256) (k % 256)).bursts, b.id = x.nextNo ∧ b.desc = d.no ∧ b.off = d.pos ∧ b.len = burstLen d x.burstMax ∧ b.written = false) ∧
      (∃ e ∈ (chanOf t (k / 256) (k % 256)).ds, e.no = d.no ∧ e.pos = d.pos + burstLen d x.burstMax)) ∧
  (∀ (s : State) (q : Fin 4) (lvl k : Nat) (d : Desc) (x : Chan) (r : DReq), s.wf = true → heldQ s q 3 = false → quadRuns s q = true →
    schedule s q (fun p r => reqMay s p false false r) = some (lvl, k) →
    x = chanOf s (k / 256) (k % 256) → issuing x = some d → x.ds = [d] →
    burstRefused s (k / 256) (readReqs d d.pos (burstLen d x.burstMax)) (writeReqs d d.pos (burstLen d x.burstMax)) = some r →
    Runs (.dmaBurstIssue q) s fun t =>
      getF t F.HDG_COUNT_FENCE_REFUSED = min (getF s F.HDG_COUNT_FENCE_REFUSED + 1) F.HDG_COUNT_FENCE_REFUSED.max ∧
      ((chanOf t (k / 256) (k % 256)).ds.head?.bind fun e => e.bad).map (fun f => (f.reason, f.fst)) = some (4, 0x25) ∧ t.pga = s.pga) ∧
  (∀ (s : State) (q : Fin 4), heldQ s q 3 = true ∨ quadRuns s q = false → Leaves (.dmaBurstIssue q) s) ∧
  (∀ (s : State) (p : Fin 4096) (c : Fin 256) (b : Burst) (d : Desc) (a n : Nat) (dt : List Byte), s.wf = true →
    ((chanOf s p c).bursts.find? fun b => !b.written && !b.readFailed) = some b → ((chanOf s p c).ds.find? fun d => d.no == b.desc) = some d →
    b.whole = true → memOpen s p = true → dmaHeld s p = false → quadRuns s (quadrantOf p) = true → (chanOf s p c).nextWrite = none →
    b.writes = [{ node := none, addr := a, len := n }] → d.weaveDst = false → voqOpen s (12 + quadrantOf p) (quadrantOf p) 0 = true →
    hostCuts s p { node := none, addr := a, len := n } true = [(a, n)] → dt = (burstBytes d b).take n → dt ≠ [] →
    Runs (.dmaBurstReadDone p c) s fun t =>
      (∃ y ∈ (chanOf t p c).bursts, y.id = b.id ∧ y.written = true) ∧
      t.pga = (pgaPush s (quadrantOf p) 0 (.dma p) { ingress := 12 + quadrantOf p, txn := .req { op := .write, dest := 0, src := 0, tenant := 0, tag := 0, addr := 0, len := dt.length, data := dt }, plot := p, host := some (.write { kind := .memWrite, plot := p, reqId := ridOf s p, addr := a, len := n, data := dt, attrs := b.attrs, poisoned := b.poison, dma := some { plot := p, chan := c, burst := b.id, part := 0 } }) }).pga ∧
      t = { s with cells := t.cells, chans := t.chans, pga := t.pga }) ∧
  (∀ (s : State) (p : Fin 4096) (c : Fin 256) (b : Burst) (d : Desc) (nd a n f g : Nat), s.wf = true →
    ((chanOf s p c).bursts.find? fun b => !b.written && !b.readFailed) = some b → ((chanOf s p c).ds.find? fun d => d.no == b.desc) = some d →
    b.whole = true → memOpen s p = true → dmaHeld s p = false → quadRuns s (quadrantOf p) = true → (chanOf s p c).nextWrite = none →
    b.writes = [{ node := some nd, addr := a, len := n }] → d.weaveDst = false → reqMay s p true false { node := some nd, addr := a, len := n } = true →
    (routeOf s nd (myNode s (1 + quadrantOf p)) (some p)).2 = .egress f g →
    Runs (.dmaBurstReadDone p c) s fun t =>
      (∃ y ∈ (chanOf t p c).bursts, y.id = b.id ∧ y.written = true) ∧
      (mfind (quadOf t (quadrantOf p)).ledger (freeTag s (quadrantOf p))).map (fun e => (e.kind, e.hostPath, e.plot, e.chan, e.node, e.addr, e.len, e.burst)) =
        some (.write, false, p.val, c.val, nd, a, n, b.id)) ∧
  (∀ (s : State) (p : Fin 4096) (c : Fin 256), (∀ b ∈ (chanOf s p c).bursts, b.written = true ∨ b.readFailed = true) ∨ memOpen s p = false ∨
    dmaHeld s p = true ∨ quadRuns s (quadrantOf p) = false → Leaves (.dmaBurstReadDone p c) s) ∧
  (∀ (s : State) (p : Fin 4096) (c : Fin 256) (b : Burst), s.wf = true → (chanOf s p c).bursts.find? Burst.retired = some b → b.written = true →
    (∀ w ∈ b.writes, w.bad = none) →
    Runs (.dmaBurstWriteDone p c) s fun t =>
      getF t (F.DMA_BYTES_BYTES (quadrantOf p)) = min (getF s (F.DMA_BYTES_BYTES (quadrantOf p)) + b.len) (F.DMA_BYTES_BYTES (quadrantOf p)).max ∧
      (chanOf t p c).bytes = ((chanOf s p c).bytes + b.len) % 2 ^ 64) ∧
  (∀ (s : State) (p : Fin 4096) (c : Fin 256) (b : Burst) (d : Desc), s.wf = true → (chanOf s p c).bursts = [b] → b.retired = true → b.written = true →
    (∀ w ∈ b.writes, w.bad = none) → (chanOf s p c).st = csRunning → (chanOf s p c).recs = [] → (chanOf s p c).fetch = none → (chanOf s p c).ds = [d] →
    d.pos = d.length → d.bad = none → d.cut = false → d.extWait = false → d.sealEnd = false → d.statusWb = false → d.cr = false → d.next ≠ 0 →
    Runs (.dmaBurstWriteDone p c) s fun t =>
      (chanOf t p c).ds = [] ∧ (chanOf t p c).fetch = some d.next ∧ (chanOf t p c).descs = ((chanOf s p c).descs + 1) % 2 ^ 32 ∧
      getF t (F.DMA_COUNT_DESCS (quadrantOf p)) = min (getF s (F.DMA_COUNT_DESCS (quadrantOf p)) + 1) (F.DMA_COUNT_DESCS (quadrantOf p)).max ∧
      t.out = .plotRead p d.next 64 :: s.out) ∧
  (∀ (s : State) (p : Fin 4096) (c : Fin 256), (chanOf s p c).bursts.find? Burst.retired = none → Leaves (.dmaBurstWriteDone p c) s) ∧
  (∀ (s : State) (p : Fin 4096) (c : Fin 256) (a u : Nat) (r : MemResult), s.wf = true → (chanOf s p c).reread = some (a, u) → (chanOf s p c).st = csRunning →
    Runs (.dmaNextRereadDone p c r) s fun t => match r with
      | .failed _ => (chanOf t p c).st = csHalting ∧ (chanOf t p c).cause = ccFetch ∧ (chanOf t p c).reread = none
      | .ok bs =>
        (wordAt bs 0 % 64 = 0 → wordAt bs 0 ≠ 0 → (chanOf t p c).fetch = some (wordAt bs 0) ∧ (chanOf t p c).reread = none ∧ t.out = .plotRead p (wordAt bs 0) 64 :: s.out) ∧
        (wordAt bs 0 = 0 → (chanOf s p c).rearm = true → (chanOf t p c).reread = some (a, u) ∧ (chanOf t p c).rearm = false) ∧
        (wordAt bs 0 = 0 → (chanOf s p c).rearm = false → (chanOf t p c).st = csIdle ∧ (chanOf t p c).cause = 0 ∧ (chanOf t p c).cur = a) ∧
        (wordAt bs 0 % 64 ≠ 0 → (chanOf t p c).st = csHalting ∧ (chanOf t p c).cause = ccFetch)) ∧
  (∀ (s : State) (p : Fin 4096) (c : Fin 256) (r : MemResult), (chanOf s p c).reread = none → Leaves (.dmaNextRereadDone p c r) s)

/-- R222, R233, R235, R236, R238, R239, R243, R244. A failed Descriptor whose bursts have retired counts as Bad, makes FaultRecord 0x10, and with HALT_ON_BAD takes its channel to Halting with BAD_STOP. A Stalled channel's record is appended at PROD once its queue
has room, and the channel runs on; a write of PP_CQ_HEAD moves CONS and PHASE. A Halting channel with nothing out becomes Halted and counts; an Aborting one becomes Idle, and the Descriptor that the abort cut counts and makes FaultRecord 0x12; until then neither ends. -/
def Obligations.DmaEnds : Prop :=
  (∀ (s : State) (p : Fin 4096) (c : Fin 256) (d : Desc) (f : DFail), s.wf = true → (chanOf s p c).ds.head? = some d → d.bad = some f →
    d.cut = false → d.extWait = false → (chanOf s p c).live d = false → (chanOf s p c).st = csRunning → (chanOf s p c).recs = [] → dmaHeld s p = false →
    Runs (.dmaBadProcedure p c) s fun t =>
      getF t (F.DMA_COUNT_BAD (quadrantOf p)) = min (getF s (F.DMA_COUNT_BAD (quadrantOf p)) + 1) (F.DMA_COUNT_BAD (quadrantOf p)).max ∧
      bitF t (F.DMA_EVENT_BAD (quadrantOf p)) = true ∧ getF t (F.PE_STATUS_LAST_FAULT p) = 0x10 ∧
      (chanOf t p c).badCount = min ((chanOf s p c).badCount + 1) (2 ^ 32 - 1) ∧
      ((chanOf s p c).haltOnBad = true → (chanOf t p c).cause = ccBadStop ∧
        ((chanOf t p c).st = csHalting ∨ ((chanOf t p c).st = csStalled ∧ (chanOf t p c).back = csHalting)))) ∧
  (∀ (s : State) (p : Fin 4096) (c : Fin 256), ((chanOf s p c).ds.head?.bind fun d => d.bad) = none ∨ (chanOf s p c).st = csStalled ∨ dmaHeld s p = true →
    Leaves (.dmaBadProcedure p c) s) ∧
  (∀ (s : State) (p : Fin 4096) (k : Fin 16) (c : Nat) (r : CRec) (v : Word) (head : Bool), s.wf = true → mwf (plotOf s p).cqs = true → c < 256 → dmaHeld s p = false →
    pageDead s p = false → (cqOf s p k).order = [c] → (chanOf s p c).st = csStalled → (chanOf s p c).back = csRunning → (chanOf s p c).recs = [r] → (chanOf s p c).cq = k.val → (chanOf s p c).stWords = [] →
    (chanOf s p c).held = false → (chanOf s p c).abortPend = false → (chanOf s p c).after = .none → (chanOf s p c).ds = [] → memOpen s p = true →
    getF s (F.PP_CQ_PROD_PROD p k) ≠ (if head then bits v.toNat 0 16 else getF s (F.PP_CQ_HEAD_CONS p k)) →
    getF s (F.PP_CQ_PROD_PROD p k) + 1 < 64 * 2 ^ getF s (F.PE_CQ_SIZE p k) → getF s (F.PP_CQ_PROD_PROD p k) + 1 < 65536 →
    Runs (if head then .cqHeadWrite p k v else .dmaStallRelease p k) s fun t =>
      getF t (F.PP_CQ_PROD_PROD p k) = getF s (F.PP_CQ_PROD_PROD p k) + 1 ∧ (chanOf t p c).st = csRunning ∧ (chanOf t p c).recs = [] ∧
      ∃ l, (portOf t (quadrantOf p)).txq = (portOf s (quadrantOf p)).txq ++ { kind := .memWrite, plot := p, reqId := ridOf s p, addr := getF s (F.PE_CQ_BASE p k) * 4096 + 32 * getF s (F.PP_CQ_PROD_PROD p k), len := 32, data := leBytes 32 (crecValue p c (cqOf s p k).seq (getF s (F.PP_CQ_PROD_PHASE p k)) r) } :: l) ∧
  (∀ (s : State) (p : Fin 4096) (k : Fin 16) (v : Word), s.wf = true → mwf (plotOf s p).cqs = true → pageDead s p = false → (cqOf s p k).order = [] →
    Runs (.cqHeadWrite p k v) s fun t =>
      getF t (F.PP_CQ_HEAD_CONS p k) = bits v.toNat 0 16 ∧ getF t (F.PP_CQ_HEAD_PHASE p k) = bits v.toNat 16 1 ∧ (cqOf t p k).vecSent = false ∧
      t = { s with cells := t.cells, plots := t.plots } ∧ FieldsBut s t [F.PP_CQ_HEAD_CONS p k, F.PP_CQ_HEAD_PHASE p k]) ∧
  (∀ (s : State) (p : Fin 4096) (k : Fin 16) (v : Word),
    (pageDead s p = true → Leaves (.cqHeadWrite p k v) s) ∧
    (dmaHeld s p = true ∨ (cqOf s p k).order = [] ∨ cqFull s p k = true ∨ memOpen s p = false → Leaves (.dmaStallRelease p k) s)) ∧
  (∀ (s : State) (p : Fin 4096) (c : Fin 256), s.wf = true → (chanOf s p c).st = csHalting → endReady s p (chanOf s p c) = true → (chanOf s p c).ds = [] →
    (chanOf s p c).recs = [] → (chanOf s p c).last = none →
    Runs (.dmaHaltComplete p c) s fun t =>
      (chanOf t p c).st = csHalted ∧ (chanOf t p c).cause = (chanOf s p c).cause ∧ (chanOf t p c).after = .none ∧
      getF t (F.DMA_COUNT_HALTS (quadrantOf p)) = min (getF s (F.DMA_COUNT_HALTS (quadrantOf p)) + 1) (F.DMA_COUNT_HALTS (quadrantOf p)).max ∧
      bitF t (F.DMA_EVENT_HALT (quadrantOf p)) = true) ∧
  (∀ (s : State) (p : Fin 4096) (c : Fin 256), s.wf = true → (chanOf s p c).st = csAborting → endReady s p (chanOf s p c) = true → (chanOf s p c).ds = [] →
    (chanOf s p c).recs = [] →
    Runs (.dmaAbortComplete p c) s fun t => (chanOf t p c).st = csIdle ∧ (chanOf t p c).cause = 0 ∧ (chanOf t p c).after = .none) ∧
  (∀ (s : State) (p : Fin 4096) (c : Fin 256) (d : Desc), s.wf = true → (chanOf s p c).st = csAborting → endReady s p (chanOf s p c) = true →
    (chanOf s p c).ds = [d] → (chanOf s p c).recs = [] →
    Runs (.dmaAbortComplete p c) s fun t =>
      getF t (F.PE_STATUS_LAST_FAULT p) = 0x12 ∧
      getF t (F.DMA_COUNT_DESCS (quadrantOf p)) = min (getF s (F.DMA_COUNT_DESCS (quadrantOf p)) + 1) (F.DMA_COUNT_DESCS (quadrantOf p)).max) ∧
  (∀ (s : State) (p : Fin 4096) (c : Fin 256),
    ((chanOf s p c).st ≠ csHalting ∨ endReady s p (chanOf s p c) = false → Leaves (.dmaHaltComplete p c) s) ∧
    ((chanOf s p c).st ≠ csAborting ∨ endReady s p (chanOf s p c) = false → Leaves (.dmaAbortComplete p c) s))

/-! ### The host ports (chapter 10) -/

/-- R262, R263, R265, R277, R278, R279. A configuration write that a present function takes has its effect and is answered; before READY it is answered with Retry, at a function that does not exist as an Unsupported Request, and with the link down not at all, and changes nothing. Bus Master Enable moves a Held plot to Serving and a VF's Serving plot to Held, and
D3hot of PF0 counts as Bus Master Enable 0 for every function; a VF has no power state. VF Enable makes min(NumVFs, TotalVFs) functions, and clearing it resets every VF and starts Cloche of its plot; an FLR counts, names its function, resets it and starts Cloche, of PF0 with VF Enable cleared. -/
def Obligations.HostConfiguration : Prop :=
  (∀ (s : State) (p : Fin 4096), s.wf = true → hostUp s (quadrantOf p) = true → configRetry s p = false → funcEnabled s p = true → plotState s p = psHeld →
    (funcOf s p).d3hot = false → (funcOf s (pf0Of p)).d3hot = false →
    Runs (.busMasterEnableChange p true) s fun t =>
      plotState t p = psServing ∧ (funcOf t p).bme = true ∧ bitF t (F.PE_STATUS_BME p) = true ∧ (portOf t (quadrantOf p)).txq.getLast? = some (configTlp p .config .sc [])) ∧
  (∀ (s : State) (p : Fin 4096), s.wf = true → hostUp s (quadrantOf p) = true → configRetry s p = false → funcEnabled s p = true → plotState s p = psServing →
    (plotOf s p).refetch = false →
    Runs (.busMasterEnableChange p false) s fun t =>
      plotState t p = psHeld ∧ (funcOf t p).bme = false ∧ bitF t (F.PE_STATUS_BME p) = false ∧ (portOf t (quadrantOf p)).txq.getLast? = some (configTlp p .config .sc [])) ∧
  (∀ (s : State) (p : Fin 4096) (on : Bool), s.wf = true → hostUp s (quadrantOf p) = true → configRetry s p = false → funcEnabled s p = true →
    Runs (.busMasterEnableChange p on) s fun t =>
      (funcOf t p).bme = on ∧ (portOf t (quadrantOf p)).txq.getLast? = some (configTlp p .config .sc []) ∧
      (plotState s p ∈ [psDisabled, psResetting] → plotState t p = plotState s p) ∧ t.rake = s.rake ∧ t.root = s.root ∧ t.mem = s.mem) ∧
  (∀ (s : State) (p : Fin 4096), s.wf = true → hostUp s (quadrantOf p) = true → configRetry s p = false → funcEnabled s p = true →
    (indexOf p ≠ 0 → ∀ d, Runs (.powerStateChange p d) s fun t => t = configAnswer s p []) ∧
    (indexOf p = 0 → plotState s p = psServing → (plotOf s p).refetch = false → Runs (.powerStateChange p true) s fun t => plotState t p = psHeld ∧ (funcOf t p).d3hot = true ∧ (portOf t (quadrantOf p)).txq.getLast? = some (configTlp p .config .sc [])) ∧
    (indexOf p = 0 → plotState s p = psHeld → (funcOf s p).bme = true →
      Runs (.powerStateChange p false) s fun t => plotState t p = psServing ∧ (funcOf t p).d3hot = false ∧ (portOf t (quadrantOf p)).txq.getLast? = some (configTlp p .config .sc []))) ∧
  (∀ (s : State) (n : Fin 4), s.wf = true → hostUp s n = true → configRetry s (n * 1024) = false → (portOf s n).vfEnable = false →
    min (portOf s n).numVfs (portOf s n).totalVfs < 1024 →
    Runs (.vfEnableSet n) s fun t =>
      (portOf t n).vfEnable = true ∧ (portOf t n).vfsOn = min (portOf s n).numVfs (portOf s n).totalVfs ∧ (portOf t n).vfSince = s.ticks ∧
      (∀ i, 1 ≤ i → i ≤ min (portOf s n).numVfs (portOf s n).totalVfs → plotState s (n * 1024 + i) = psDisabled →
        bitF s (F.PLT_TABLE_BASE_AUTO n) = true → heldQ s n 4 = false → tableOpen s n = true → pwmMode s ≠ moBoot → plotState t (n * 1024 + i) = psLoading)) ∧
  (∀ (s : State) (n : Fin 4), s.wf = true → hostUp s n = true → configRetry s (n * 1024) = false → (portOf s n).vfEnable = true →
    Runs (.vfEnableClear n) s fun t =>
      (portOf t n).vfEnable = false ∧ (portOf t n).vfsOn = 0 ∧ (portOf t n).vfLoading = [] ∧
      (∀ i, 1 ≤ i → i < 1024 → funcOf t (n * 1024 + i) = {} ∧ (plotState s (n * 1024 + i) = psServing → plotState t (n * 1024 + i) = psResetting)) ∧
      plotState t (n * 1024) = plotState s (n * 1024)) ∧
  (∀ (s : State) (p : Fin 4096), s.wf = true → hostUp s (quadrantOf p) = true → configRetry s p = false → funcEnabled s p = true →
    Runs (.functionLevelReset p) s fun t =>
      (plotState s p ∈ [psServing, psHeld, psFaulted] → plotState t p = psResetting ∧ (plotOf t p).cloche.map (fun c => (c.flr, c.unload)) = some (true, false)) ∧
      (indexOf p = 0 → (portOf t (quadrantOf p)).vfEnable = false ∧ (portOf t (quadrantOf p)).numVfs = 0) ∧ (funcOf t p).bme = false ∧ (funcOf t p).mse = false ∧ (funcOf t p).msixEn = false ∧
      getF t (F.HPT_FLR_INDEX (quadrantOf p)) = indexOf p ∧
      getF t (F.HPT_FLR_COUNT (quadrantOf p)) = min (getF s (F.HPT_FLR_COUNT (quadrantOf p)) + 1) 0xFFFFFFFF ∧
      bitF t (F.HPT_EVENT_FLR (quadrantOf p)) = true) ∧
  (∀ (s : State) (p : Fin 4096), s.wf = true → hostUp s (quadrantOf p) = true → configRetry s p = false → funcEnabled s p = true →
    (∀ on, Runs (.hostConfigAccess p (.memorySpace on)) s fun t => (funcOf t p).mse = on ∧ (∀ r, r ≠ p.val → funcOf t r = funcOf s r) ∧ t = configAnswer { s with funcs := t.funcs } p []) ∧
    (∀ m r, Runs (.hostConfigAccess p (.sizes m r)) s fun t => (funcOf t p).mps = m.val ∧ (funcOf t p).mrrs = r.val ∧ t = configAnswer { s with funcs := t.funcs } p []) ∧
    (∀ v off, Runs (.hostConfigAccess p (.completionTimeout v off)) s fun t => (funcOf t p).cto = v.val ∧ (funcOf t p).ctoDis = off ∧ t = configAnswer { s with funcs := t.funcs } p []) ∧
    (∀ on, Runs (.hostConfigAccess p (.atomicRequester on)) s fun t => (funcOf t p).atomicReq = on ∧ t = configAnswer { s with funcs := t.funcs } p []) ∧
    Runs (.hostConfigAccess p .aerClear) s (fun t => (funcOf t p).aer = [] ∧ (funcOf t p).aerAdv = false ∧ t = configAnswer { s with funcs := t.funcs } p []) ∧
    (∀ k, indexOf p = 0 → Runs (.hostConfigAccess p (.numVfs k)) s fun t => (portOf t (quadrantOf p)).numVfs = k.toNat ∧ (portOf t (quadrantOf p)).txq = (portOf s (quadrantOf p)).txq ++ [configTlp p .config .sc []] ∧ t = { s with ports := t.ports }) ∧
    (∀ b, indexOf p = 0 → Runs (.hostConfigAccess p (.bus b)) s fun t => (portOf t (quadrantOf p)).rid = b.toNat * 256 ∧ (portOf t (quadrantOf p)).txq = (portOf s (quadrantOf p)).txq ++ [configTlp p .config .sc []] ∧ t = { s with ports := t.ports }) ∧
    (∀ a d m, indexOf p = 0 → Runs (.hostConfigAccess p (.msiAddress a d m)) s fun t => (funcOf t p).msiAddr = a.toNat ∧ (funcOf t p).msiData = d.toNat ∧ (funcOf t p).mme = m.val ∧ t = configAnswer { s with funcs := t.funcs } p []) ∧
    (∀ m v c, indexOf p = 0 → Runs (.hostConfigAccess p (.aerControl m v c)) s fun t => (funcOf t p).aerMask = m.toNat ∧ (funcOf t p).aerSev = v.toNat ∧ (funcOf t p).aerCor = c.toNat ∧ t = configAnswer { s with funcs := t.funcs } p []) ∧
    (∀ e, indexOf p = 0 → clkreqWired s (quadrantOf p) = true → Runs (.hostConfigAccess p (.substates e)) s fun t =>
      (funcOf t p).substates = e.val ∧ t = configAnswer { s with funcs := t.funcs } p []) ∧
    (∀ a, (∀ d, a ≠ .read d) → Runs (.hostConfigAccess p a) s fun t => t = configAnswer (configDo s p a) p []) ∧
    Runs (.hostConfigAccess p .other) s (fun t => t = configAnswer s p []) ∧
    Runs (.hostConfigAccess p (.read 0)) s fun t =>
      t = configAnswer s p (leBytes 4 (0x1F3D + (if indexOf p = 0 then 0x8256 else 0x8257) * 65536))) ∧
  (∀ (s : State) (p : Fin 4096) (on : Bool) (a : ConfigAccess), hostUp s (quadrantOf p) = true → configRetry s p = true →
    ∀ c ∈ [Instr.busMasterEnableChange p on, .powerStateChange p on, .functionLevelReset p, .hostConfigAccess p a, .interruptMechanismChange p on on on],
      Runs c s fun t => t = pushTlp s (quadrantOf p) (configTlp p .configRetry .sc [])) ∧
  (∀ (s : State) (p : Fin 4096) (n : Fin 4) (on : Bool) (a : ConfigAccess),
    (hostUp s (quadrantOf p) = false →
      ∀ c ∈ [Instr.busMasterEnableChange p on, .powerStateChange p on, .functionLevelReset p, .hostConfigAccess p a, .interruptMechanismChange p on on on], Leaves c s) ∧
    (hostUp s (quadrantOf p) = true → configRetry s p = false → funcEnabled s p = false →
      ∀ c ∈ [Instr.busMasterEnableChange p on, .powerStateChange p on, .functionLevelReset p, .hostConfigAccess p a, .interruptMechanismChange p on on on],
        Runs c s fun t => t = configRefuse s p ∧ getF t (F.HPT_COUNT_UR_SENT (quadrantOf p)) = min (getF s (F.HPT_COUNT_UR_SENT (quadrantOf p)) + 1) (F.HPT_COUNT_UR_SENT (quadrantOf p)).max ∧
          (portOf t (quadrantOf p)).txq = (portOf s (quadrantOf p)).txq ++ [configTlp p .config .ur []]) ∧
    (hostUp s n = false → Leaves (.vfEnableSet n) s ∧ Leaves (.vfEnableClear n) s))

/-- R270, R272, R273, R275. A change of mechanism sets the three enables, and leaving MSI-X clears every pending bit of its table. With MSI-X enabled and nothing else holding it, the end of a mask
sends the pending message and clears its pending bit; a mask set takes effect. PP_INTX clears the PBA bit it names, or every one; with the function's memory or page closed neither write does anything. -/
def Obligations.HostInterrupts : Prop :=
  (∀ (s : State) (p : Fin 4096) (msix msi off : Bool), s.wf = true → hostUp s (quadrantOf p) = true → configRetry s p = false → funcEnabled s p = true →
    Runs (.interruptMechanismChange p msix msi off) s fun t =>
      (funcOf t p).msixEn = msix ∧ (funcOf t p).msiEn = (msi && indexOf p == 0) ∧ (funcOf t p).intDis = off ∧
      ((funcOf s p).msixEn = true → msix = false → ∀ v < 2048, (msixOf t p v).pend = false) ∧ (portOf t (quadrantOf p)).txq.getLast? = some (configTlp p .config .sc [])) ∧
  (∀ (s : State) (p : Fin 4096), s.wf = true → hostUp s (quadrantOf p) = true → configRetry s p = false → funcEnabled s p = true →
    Runs (.msixMaskWrite p (.function true)) s fun t => (funcOf t p).fmask = true ∧ (∀ v < 2048, (funcOf s p).msixEn = true → msixOf t p v = msixOf s p v)) ∧
  (∀ (s : State) (p : Fin 4096) (v : Nat), s.wf = true → hostUp s (quadrantOf p) = true → configRetry s p = false → funcEnabled s p = true →
    plotState s p = psServing → (funcOf s p).d3hot = false → (funcOf s p).msixEn = true → v < 2048 → (msixOf s p v).pend = true → (msixOf s p v).mask = false →
    Runs (.msixMaskWrite p (.function false)) s fun t =>
      (funcOf t p).fmask = false ∧ (msixOf t p v).pend = false ∧
      ({ kind := .interrupt, plot := p, reqId := ridOf s p, addr := (msixOf s p v).addr, len := 4, data := leBytes 4 (msixOf s p v).data } : TlpOut) ∈ (portOf t (quadrantOf p)).txq) ∧
  (∀ (s : State) (p : Fin 4096) (v : Fin 2048), s.wf = true → funcMemory s p = true → v.val < vectorCount s p → plotState s p = psServing →
    (funcOf s p).msixEn = true → (funcOf s p).fmask = false → (msixOf s p v).pend = true →
    Runs (.msixMaskWrite p (.entry v false)) s fun t =>
      (msixOf t p v).mask = false ∧ (msixOf t p v).pend = false ∧
      ({ kind := .interrupt, plot := p, reqId := ridOf s p, addr := (msixOf s p v).addr, len := 4, data := leBytes 4 (msixOf s p v).data } : TlpOut) ∈ (portOf t (quadrantOf p)).txq) ∧
  (∀ (s : State) (p : Fin 4096) (v : Fin 2048), s.wf = true → funcMemory s p = true → v.val < vectorCount s p →
    Runs (.msixMaskWrite p (.entry v true)) s fun t => (msixOf t p v).mask = true) ∧
  (∀ (s : State) (n : Fin 4) (m : BitVec 32), s.wf = true → hostUp s n = true → configRetry s (n * 1024) = false →
    Runs (.msixMaskWrite ⟨n * 1024, by omega⟩ (.msi m)) s fun t => (funcOf t (n * 1024)).msiMask = m.toNat) ∧
  (∀ (s : State) (n : Fin 4) (v : Word), s.wf = true → funcMemory s (n * 1024) = true → pageDead s (n * 1024) = false →
    Runs (.intxClear n v) s fun t =>
      (bitOf v.toNat 63 = true → ∀ k < 2048, (msixOf t (n * 1024) k).pend = false) ∧
      (bitOf v.toNat 63 = false → bitOf v.toNat 62 = true →
        (msixOf t (n * 1024) (bits v.toNat 0 11)).pend = false ∧ ∀ k < 2048, k ≠ bits v.toNat 0 11 → msixOf t (n * 1024) k = msixOf s (n * 1024) k) ∧
      (bitOf v.toNat 63 = false → bitOf v.toNat 62 = false → t = s) ∧ t = { s with msix := t.msix, ports := t.ports } ∧
      (inta t n = (portOf s n).intaOn → t.ports = s.ports) ∧
      (inta t n ≠ (portOf s n).intaOn → (portOf t n).txq = (portOf s n).txq ++ [{ kind := if inta t n then .assertInta else .deassertInta, plot := n * 1024, reqId := ridOf s (n * 1024) }])) ∧
  (∀ (s : State) (p : Fin 4096) (n : Fin 4) (i : Fin 2048) (on : Bool) (m : BitVec 32) (v : Word),
    (funcMemory s (n * 1024) = false ∨ pageDead s (n * 1024) = true → Leaves (.intxClear n v) s) ∧
    (funcMemory s p = false ∨ vectorCount s p ≤ i.val → Leaves (.msixMaskWrite p (.entry i on)) s) ∧
    (hostUp s (quadrantOf p) = false → Leaves (.msixMaskWrite p (.function on)) s ∧ Leaves (.msixMaskWrite p (.msi m)) s))

/-- R258, R262, R282, R284, R286, R450, R457. PERST_L high lets a port become ready, with READY and its event set; a link that trains, or is in Recovery, is up in L0 at a speed and width that it offers, and in no other case; RETRAIN takes it to Recovery. LINK_EN 0, PERST_L low, Hot Reset, Link Disable and a link-down reset the port: it counts, its
transmit order is empty and every Serving plot begins Cloche; while a Rootstock pulse runs the reset waits. An IDE failure ends Secure, drops the keys and is logged and reported. L1 is entered with nothing to transmit, and its end wakes a dozing device with
code 4. -/
def Obligations.HostLinks : Prop :=
  (∀ (s : State) (n : Fin 4), s.wf = true → (portOf s n).perst = false → pwmMode s ≠ moDormant → pwmMode s ≠ moDoze → dozing s = false →
    Runs (.perstRise n) s fun t => (portOf t n).perst = true ∧ (∀ k, k ≠ n.val → portOf t k = portOf s k) ∧ t = { s with ports := t.ports }) ∧
  (∀ (s : State) (n : Fin 4), s.wf = true → (portOf s n).perst = false → pwmMode s = moDormant → s.ctl.railEn = false →
    Runs (.perstRise n) s fun t =>
      (portOf t n).perst = true ∧ t.ctl = { s.ctl with railEn := true } ∧ getF t F.PWM_STATUS_WAKE_SRC = 1 ∧ t.out = .railEn true :: s.out) ∧
  (∀ (s : State) (n : Fin 4), s.wf = true → (portOf s n).perst = true → 10 ≤ s.ctl.step → s.ctl.step < 21 → bitF s (F.HPT_LINK_READY n) = false → heldQ s n 0 = false →
    Runs (.portConfigReady n) s fun t =>
      bitF t (F.HPT_LINK_READY n) = true ∧ bitF t (F.HPT_EVENT_READY n) = true ∧ bitOf (getF t F.RST_STATUS_PORT) n = false ∧
      t = { s with cells := t.cells, ports := t.ports }) ∧
  (∀ (s : State) (n : Fin 4) (speed : Fin 8) (width : Fin 5) (flit : Bool), s.wf = true → hostReady s n = true → speed.val ≠ 0 → speed.val < 6 ∨ flit = true →
    (if getF s (F.HPT_LINK_LTSSM n) ∈ [1, 2, 4] then speed.val ≤ (portOf s n).offSpeed ∧ width.val ≤ (portOf s n).offWidth
      else speed.val ≤ getF s (F.HPT_CTRL_MAX_SPEED n) ∧ width.val ≤ getF s (F.HPT_CTRL_MAX_WIDTH n)) →
    Runs (.hostLinkUp n speed width flit) s fun t =>
      getF t (F.HPT_LINK_LTSSM n) = 3 ∧ hostUp t n = true ∧ getF t (F.HPT_LINK_SPEED n) = speed.val ∧ getF t (F.HPT_LINK_WIDTH n) = 2 ^ width.val ∧
      bitF t (F.HPT_LINK_FLIT n) = flit ∧ t = { s with cells := t.cells, ports := t.ports } ∧ (portOf t n).txq = (portOf s n).txq ∧
      (getF s (F.HPT_LINK_SPEED n) ≠ speed.val ∨ getF s (F.HPT_LINK_WIDTH n) ≠ 2 ^ width.val → bitF t (F.HPT_EVENT_RATE n) = true) ∧
      FieldsBut s t [F.HPT_LINK_LTSSM n, F.HPT_LINK_DL_UP n, F.HPT_LINK_SPEED n, F.HPT_LINK_WIDTH n, F.HPT_LINK_FLIT n, F.HPT_EVENT_RATE n, F.EVG_PEND_PEND 19]) ∧
  (∀ (s : State) (n : Fin 4) (speed : Fin 8) (width : Fin 5) (flit : Bool), hostReady s n = false ∨ speed.val = 0 ∨ (6 ≤ speed.val ∧ flit = false) →
    Leaves (.hostLinkUp n speed width flit) s) ∧
  (∀ (s : State) (n : Fin 4) (who : Party) (on : Bool), (regOpen s who (A.HPT_CTRL n) = false → Leaves (.hostRetrain n who) s ∧ Leaves (.hostLinkEnWrite n who on) s) ∧
    (hostUp s n = false → Leaves (.hostRetrain n who) s ∧ Leaves (.portReset n .hotReset) s ∧ Leaves (.portReset n .linkDown) s ∧ Leaves (.portReset n .linkDisable) s) ∧
    ((portOf s n).perst = true → Leaves (.perstRise n) s) ∧ ((portOf s n).perst = false → Leaves (.portReset n .perst) s) ∧
    ((portOf s n).perst = false ∨ bitF s (F.HPT_LINK_READY n) = true → Leaves (.portConfigReady n) s) ∧
    (bitF s (F.HPT_LINK_IDE_SECURE n) = false → Leaves (.ideCheckFail n) s) ∧
    (getF s (F.HPT_LINK_LTSSM n) ≠ 3 ∨ (portOf s n).txq ≠ [] → Leaves (.hostLinkL1Entry n) s) ∧ ((portOf s n).l1 = false → Leaves (.hostLinkL1Exit n) s)) ∧
  (∀ (s : State) (n : Fin 4) (who : Party), s.wf = true → regOpen s who (A.HPT_CTRL n) = true → hostUp s n = true →
    Runs (.hostRetrain n who) s fun t =>
      getF t (F.HPT_LINK_LTSSM n) = 4 ∧ (portOf t n).l1 = false ∧ hostUp t n = true ∧ (portOf t n).offSpeed = getF s (F.HPT_CTRL_MAX_SPEED n) ∧
      (portOf t n).offWidth = (portOf s n).offWidth ∧ t = { s with cells := t.cells, ports := t.ports } ∧
      FieldsBut s t [F.HPT_LINK_LTSSM n]) ∧
  (∀ (s : State) (n : Fin 4) (who : Party), regOpen s who (A.HPT_CTRL n) = true →
    Runs (.hostLinkEnWrite n who true) s fun t => bitF t (F.HPT_CTRL_LINK_EN n) = true ∧ OnlyCells s t ∧ FieldsBut s t [F.HPT_CTRL_LINK_EN n]) ∧
  (∀ (s : State) (n : Fin 4) (who : Party), s.wf = true → s.root.queue = [] →
    ∀ c ∈ [Instr.hostLinkEnWrite n who false, .portReset n .perst, .portReset n .hotReset, .portReset n .linkDown, .portReset n .linkDisable],
      (c = .hostLinkEnWrite n who false → regOpen s who (A.HPT_CTRL n) = true ∧ bitF s (F.HPT_CTRL_LINK_EN n) = true) →
      (c = .portReset n .perst → (portOf s n).perst = true ∧ pwmMode s = moServe ∧ dozing s = false) →
      (c = .portReset n .hotReset ∨ c = .portReset n .linkDown ∨ c = .portReset n .linkDisable → hostUp s n = true) →
      Runs c s fun t =>
        hostUp t n = false ∧ bitF t (F.HPT_LINK_READY n) = false ∧ (portOf t n).txq = [] ∧ (portOf t n).outTags = [] ∧
        getF t (F.HPT_LINK_LTSSM n) = (if c = .portReset n .hotReset then 10 else if c = .portReset n .linkDisable then 8 else 0) ∧ bitOf (getF t F.RST_STATUS_PORT) n = true ∧
        getF t (F.HPT_COUNT_LINK_DOWNS n) = min (getF s (F.HPT_COUNT_LINK_DOWNS n) + 1) 0xFFFF ∧ bitF t (F.HPT_EVENT_LINK_DOWN n) = true ∧
        (∀ i < 1024, funcOf t (n * 1024 + i) = {} ∧ (plotState s (n * 1024 + i) = psServing → plotState t (n * 1024 + i) = psResetting))) ∧
  (∀ (s : State) (n : Fin 4), s.root.queue ≠ [] → hostUp s n = true →
    Runs (.portReset n .hotReset) s fun t =>
      t.root = { s.root with held := s.root.held ++ [.port n 10] } ∧ bitF t F.RST_STATUS_HELD = true ∧ bitF t F.RST_EVENT_HELD = true ∧
      t = { s with cells := t.cells, root := t.root } ∧ FieldsBut s t [F.RST_STATUS_HELD, F.RST_EVENT_HELD, F.EVG_PEND_PEND 0]) ∧
  (∀ (s : State) (n : Fin 4), s.wf = true → bitF s (F.HPT_LINK_IDE_SECURE n) = true →
    Runs (.ideCheckFail n) s fun t =>
      bitF t (F.HPT_LINK_IDE_SECURE n) = false ∧ bitF t (F.HPT_EVENT_IDE_FAIL n) = true ∧ AerErr.ideCheck ∈ (funcOf t (n * 1024)).aer ∧
      (portOf t n).ide = { enable := (portOf s n).ide.enable } ∧ (portOf t n).txq = (portOf s n).txq ++ errorTlp s (n * 1024) .ideCheck false ∧
      t = { s with cells := t.cells, funcs := t.funcs, ports := t.ports, out := .aer (n * 1024) .ideCheck :: s.out }) ∧
  (∀ (s : State) (n : Fin 4), s.wf = true → getF s (F.HPT_LINK_LTSSM n) = 3 → hostUp s n = true → (portOf s n).txq = [] →
    Runs (.hostLinkL1Entry n) s fun t =>
      getF t (F.HPT_LINK_LTSSM n) = 6 ∧ (portOf t n).l1 = true ∧ t = { s with cells := t.cells, ports := t.ports } ∧ FieldsBut s t [F.HPT_LINK_LTSSM n]) ∧
  (∀ (s : State) (n : Fin 4), s.wf = true → (portOf s n).l1 = true → pwmMode s = moServe → dozing s = false →
    Runs (.hostLinkL1Exit n) s fun t =>
      getF t (F.HPT_LINK_LTSSM n) = 3 ∧ (portOf t n).l1 = false ∧ t = { s with cells := t.cells, ports := t.ports } ∧ FieldsBut s t [F.HPT_LINK_LTSSM n]) ∧
  (∀ (s : State) (n : Fin 4), s.wf = true → (portOf s n).l1 = true → pwmMode s = moDoze → s.ctl.waking = false →
    Runs (.hostLinkL1Exit n) s fun t => getF t F.PWM_STATUS_WAKE_SRC = 4 ∧ t.ctl.waking = true ∧ (portOf t n).l1 = false)

/-- R285, R376, R398. A DOE object with firmware running and no object in progress stands in the buffer with its length and OBJECT_READY; one too long, or in the way of another, is a DOE Error, as is one that is no Discovery while no firmware runs; a Discovery is then answered by the port with the type it asks for (laid out as the standard has it, assumption 20). An abort ends the object and
clears the buffer; a response is returned from the buffer at its length, or as a DOE Error. -/
def Obligations.DoeObjects : Prop :=
  (∀ (s : State) (n : Fin 4) (bs : List Byte), s.wf = true → hostUp s n = true → bitF s (F.HPT_LINK_READY n) = true → bs.length ≤ 4096 →
    bitF s (F.DOE_STATUS_OBJECT_READY n) = false → firmwareRuns s = true →
    Runs (.doeObjectReceived n bs) s fun t =>
      (∀ i, i < bs.length → memByte t (doeBuf n + i) = bs[i]?.getD 0) ∧ (∀ i, bs.length ≤ i → i < 4096 → memByte t (doeBuf n + i) = 0) ∧
      (∀ a, a < doeBuf n ∨ doeBuf n + 4096 ≤ a → memByte t a = memByte s a) ∧ getF t (F.DOE_STATUS_LENGTH n) = (bs.length + 3) / 4 ∧
      bitF t (F.DOE_STATUS_OBJECT_READY n) = true ∧ (evgActive s (1156 + n) = false → Pending t (1156 + n)) ∧
      t = { s with cells := t.cells, ports := t.ports, mem := t.mem }) ∧
  (∀ (s : State) (n : Fin 4) (bs : List Byte), s.wf = true → hostUp s n = true → bitF s (F.HPT_LINK_READY n) = true →
    4096 < bs.length ∨ bitF s (F.DOE_STATUS_OBJECT_READY n) = true ∨ (firmwareRuns s = false ∧ doeDiscovery bs = false) →
    Runs (.doeObjectReceived n bs) s fun t =>
      (portOf t n).doeError = true ∧ t = { s with ports := t.ports, out := .doeError n :: s.out }) ∧
  (∀ (s : State) (n : Fin 4) (bs : List Byte), s.wf = true → hostUp s n = true → bitF s (F.HPT_LINK_READY n) = true → bs.length ≤ 4096 →
    bitF s (F.DOE_STATUS_OBJECT_READY n) = false → firmwareRuns s = false → doeDiscovery bs = true →
    Runs (.doeObjectReceived n bs) s fun t =>
      (portOf t n).doeReady = true ∧ t.out = .doe n (doeTypes (leNat ((bs.drop 8).take 1))) :: s.out ∧ t = { s with ports := t.ports, out := t.out }) ∧
  (∀ (s : State) (n : Fin 4), s.wf = true → hostUp s n = true → bitF s (F.HPT_LINK_READY n) = true →
    Runs (.doeAbort n) s fun t =>
      (evgActive s (1156 + n) = false → Pending t (1156 + n)) ∧ bitF t (F.DOE_STATUS_OBJECT_READY n) = false ∧ bitF t (F.DOE_STATUS_ABORT n) = true ∧ getF t (F.DOE_STATUS_LENGTH n) = 0 ∧
      (∀ i < 4096, memByte t (doeBuf n + i) = 0) ∧ (∀ a, a < doeBuf n ∨ doeBuf n + 4096 ≤ a → memByte t a = memByte s a) ∧
      (portOf t n).doeError = false ∧ (portOf t n).doeReady = false ∧ t = { s with cells := t.cells, ports := t.ports, mem := t.mem }) ∧
  (∀ (s : State) (n : Fin 4) (v : Word), s.wf = true → bitF s (F.DOE_STATUS_OBJECT_READY n) = true →
    Runs (.doeResponseReady n v) s fun t =>
      bitF t (F.DOE_STATUS_OBJECT_READY n) = false ∧
      (bitOf v.toNat 63 = false → (portOf t n).doeReady = true ∧ t.out = .doe n (memRead s (doeBuf n) (4 * min (bits v.toNat 0 11) 1024)) :: s.out) ∧
      (bitOf v.toNat 63 = true → (portOf t n).doeError = true ∧ t.out = .doeError n :: s.out) ∧
      t = { s with cells := t.cells, ports := t.ports, out := t.out } ∧ FieldsBut s t [F.DOE_STATUS_OBJECT_READY n]) ∧
  (∀ (s : State) (n : Fin 4) (v : Word), bitF s (F.DOE_STATUS_OBJECT_READY n) = false → Leaves (.doeResponseReady n v) s) ∧
  (∀ (s : State) (n : Fin 4) (bs : List Byte), hostUp s n = false ∨ bitF s (F.HPT_LINK_READY n) = false → Leaves (.doeObjectReceived n bs) s ∧ Leaves (.doeAbort n) s)

/-! ### Calfos ports (chapters 11 and 12) -/

/-- R305, R308, R309, R311, R321, R331. EN 1 starts a full training, at MAX_RATE, of a port that is Off and that nothing holds there, and RETRAIN does of any with EN 1; EN 0 takes the port to Off and its link Down. While step 1 runs the CAP block is sent; the partner's
fixes the lowest rate of the two and the fallback and sets every lane's taps. Each step follows the last once its condition is met, and step 6 with the lanes aligned makes the port Active and its link Init with the allotments
of R198. In step 6 each good frame adds to the run, which an uncorrectable one ends. An attempt that fails counts and goes on one rate lower, or Off; when RETRY has passed a new one starts. A write from behind a closed page, and an event in a state it does not belong to, changes nothing. -/
def Obligations.CalfosTraining : Prop :=
  (∀ (s : State) (f : Fin 8) (who : Party), s.wf = true → regOpen s who (A.CFP_CTRL f) = true →
    Runs (.calfosPortEnable f who true) s fun t =>
      bitF t (F.CFP_CTRL_EN f) = true ∧ t.out = s.out ∧
      (cfpState s f = cfpOff → mayTrain (setF s (F.CFP_CTRL_EN f) 1) f = true → Trains s t f) ∧
      (cfpState s f ≠ cfpOff ∨ mayTrain (setF s (F.CFP_CTRL_EN f) 1) f = false → OnlyCells s t ∧ FieldsBut s t [F.CFP_CTRL_EN f])) ∧
  (∀ (s : State) (f : Fin 8) (who : Party), s.wf = true → regOpen s who (A.CFP_CTRL f) = true →
    Runs (.calfosPortEnable f who false) s fun t =>
      bitF t (F.CFP_CTRL_EN f) = false ∧ cfpState t f = cfpOff ∧ (linkOf t f).retry = false ∧ (cfpState s f ≠ cfpOff → getF t (F.CFK_STATUS_LINK f) = 0)) ∧
  (∀ (s : State) (f : Fin 8) (who : Party), s.wf = true → regOpen s who (A.CFP_CTRL f) = true →
    Runs (.calfosRetrainCmd f who) s fun t =>
      (mayTrain { s with links := [] } f = true → Trains s t f) ∧ (mayTrain { s with links := [] } f = false → cfpState t f = cfpOff) ∧
      (linkOf t f).retry = false) ∧
  (∀ (s : State) (f : Fin 8), cfpState s f = cfpTraining → (linkOf s f).step = 1 →
    Runs (.capBlockSend f) s fun t => t = emit s (.sideband f (sbBytes 1 0 0 (capBlock s f)))) ∧
  (∀ (s : State) (f : Fin 8) (b : List Byte) (v : Nat), s.wf = true → cfpState s f = cfpTraining → (linkOf s f).step = 1 → (linkOf s f).maxRate ≤ 2 →
    (linkOf s f).fallback ≤ 2 → blockOf b = some v → bits v 0 4 = 1 →
    Runs (.trainCapReceived f b) s fun t =>
      getF t (F.CFP_STATUS_RATE f) = max (max (linkOf s f).maxRate (bits v 12 2)) (linkOf s f).fallback ∧ (linkOf t f).step = 2 ∧
      (∀ l < 8, getF t (F.CFP_LANE_TX_PRE f l) = (presetTaps (linkOf s f).preset).1 ∧ getF t (F.CFP_LANE_TX_POST f l) = (presetTaps (linkOf s f).preset).2) ∧
      t.out = (((List.range 8).map fun l => Emit.trainFrame f l (trainingFrame (leNat (trainBlock t f l)) (0x1FF0 + l))).reverse) ++ s.out ∧
      t = { s with cells := t.cells, links := t.links, out := t.out }) ∧
  (∀ (s : State) (f : Fin 8) (x : TrainFound), s.wf = true → inTraining s f = true →
    Runs (.trainingStepComplete f x) s fun t =>
      ((linkOf s f).step = 2 → linkOf t f = { linkOf s f with step := 3 }) ∧
      ((linkOf s f).step = 3 → (linkOf t f).step = 4 ∧ bitF t (F.CFP_STATUS_CLK_RX f) = true ∧ ∀ l < 8, getF t (F.CFP_LANE_PHYS f l) = (x.phys[l]?.map Fin.val).getD l) ∧
      ((linkOf s f).step = 4 → (linkOf s f).eqDone = false →
        (linkOf t f).eqDone = true ∧ ((∀ i < 8, (mget (linkOf s f).txLanes i {}).ready = true) → (linkOf t f).step = 5 ∧ (linkOf t f).count = 31 ∧ bitF t (F.CFP_STATUS_PRECODE_TX f) = (linkOf s f).preReq) ∧
        ((∃ i < 8, (mget (linkOf s f).txLanes i {}).ready = false) → (linkOf t f).step = 4)) ∧
      ((linkOf s f).step = 5 → (linkOf s f).lineUp = true → linkOf t f = { linkOf s f with step := 6, good := 0, fixed := 0 }) ∧
      ((linkOf s f).step = 5 → (linkOf s f).lineUp = false → t = s) ∧
      ((linkOf s f).step = 6 → cfpState s f = cfpTraining → bitF s (F.CFP_STATUS_ALIGNED f) = true → 65536 ≤ (linkOf s f).good →
        (linkOf s f).fixed ≤ getF s (F.CFP_TRAIN_SER_LIMIT f) →
        cfpState t f = cfpActive ∧ getF t (F.CFK_STATUS_LINK f) = 1 ∧ bitF t (F.CFP_EVENT_UP f) = true ∧ (linkOf t f).step = 0 ∧
        ∀ c < 6, getF t (F.CFK_CREDIT_ALLOT_RX f c) = allotment (bitF s (F.CFK_CTRL_B_CLASSES f)) c)) ∧
  (∀ (s : State) (f : Fin 8) (abort : Bool), s.wf = true → cfpState s f = cfpTraining → 2 ≤ (linkOf s f).step → (linkOf s f).step ≤ 6 →
    Runs (if abort then .trainingAbortReceived f else .trainingStepTimeout f) s fun t =>
      getF t (F.CFP_TRAIN_FAILS f) = min (getF s (F.CFP_TRAIN_FAILS f) + 1) 0xFFFF ∧ getF t (F.CFP_TRAIN_LAST_STEP f) = (linkOf s f).step ∧
      t.out = (if abort then s.out else (((List.range 8).map fun l => Emit.trainAbort f l (blockBytes (blockFields s f l 3)) 16).reverse) ++ s.out) ∧
      (getF s (F.CFP_STATUS_RATE f) < 2 →
        cfpState t f = cfpTraining ∧ getF t (F.CFP_STATUS_RATE f) = getF s (F.CFP_STATUS_RATE f) + 1 ∧ (linkOf t f).step = 1 ∧
        (linkOf t f).fallback = getF s (F.CFP_STATUS_RATE f) + 1) ∧
      (2 ≤ getF s (F.CFP_STATUS_RATE f) → cfpState t f = cfpOff ∧ bitF t (F.CFP_EVENT_TRAIN_FAIL f) = true ∧ (linkOf t f).retry = true)) ∧
  (∀ (s : State) (f : Fin 8), s.wf = true → (linkOf s f).retry = true → getF s (F.CFP_TRAIN_RETRY f) ≠ 0 →
    Runs (.trainingRetryExpire f) s fun t =>
      (linkOf t f).retry = false ∧ (cfpState s f = cfpOff → mayTrain { s with links := [] } f = true → Trains s t f) ∧
      (cfpState s f ≠ cfpOff ∨ mayTrain { s with links := [] } f = false → t = { s with links := t.links })) ∧
  (∀ (s : State) (f : Fin 8) (k : Fin 16) (a b : List Byte) (ls : List (Fin 8)), s.wf = true → inTraining s f = true → (linkOf s f).step = 6 →
    bitF s (F.CFP_STATUS_ALIGNED f) = true → getF s (F.CFK_STATUS_LINK f) = 0 →
    Runs (.calfosFrameReceive f (.decoded k a b ls)) s fun t =>
      (linkOf t f).good = (if getF s (F.CFP_TRAIN_SER_LIMIT f) < (linkOf s f).fixed + ls.length then 0 else (linkOf s f).good + 1) ∧
      getF t (F.CFP_FEC_CORR f) = min (getF s (F.CFP_FEC_CORR f) + ls.length) 0xFFFFFFFF ∧ (linkOf t f).step = 6 ∧ t = { s with cells := t.cells, links := t.links }) ∧
  (∀ (s : State) (f : Fin 8), s.wf = true → inTraining s f = true → (linkOf s f).step = 6 → bitF s (F.CFP_STATUS_ALIGNED f) = true → getF s (F.CFK_STATUS_LINK f) = 0 →
    Runs (.calfosFrameReceive f .uncorrectable) s fun t =>
      (linkOf t f).good = 0 ∧ (linkOf t f).fixed = 0 ∧ getF t (F.CFP_FEC_UNCORR f) = min (getF s (F.CFP_FEC_UNCORR f) + 1) 0xFFFF ∧
      bitF t (F.CFP_EVENT_UNCORR f) = true ∧ (linkOf t f).step = 6) ∧
  (∀ (s : State) (f l : Fin 8) (who : Party) (en : Bool) (b : List Byte) (x : TrainFound),
    (regOpen s who (A.CFP_CTRL f) = false → Leaves (.calfosPortEnable f who en) s ∧ Leaves (.calfosRetrainCmd f who) s) ∧
    (cfpState s f ≠ cfpTraining ∨ (linkOf s f).step ≠ 1 → Leaves (.capBlockSend f) s ∧ Leaves (.trainCapReceived f b) s) ∧
    (cfpState s f ≠ cfpTraining ∨ (linkOf s f).step < 2 → Leaves (.trainingStepTimeout f) s) ∧
    (inTraining s f = false → Leaves (.trainingAbortReceived f) s ∧ Leaves (.trainingBlockReceive f l b) s ∧ (cfpState s f ≠ cfpHush → Leaves (.trainingStepComplete f x) s)) ∧
    ((linkOf s f).retry = false ∨ getF s (F.CFP_TRAIN_RETRY f) = 0 → Leaves (.trainingRetryExpire f) s))

/-- R303, R306, R307, R311. A TRAIN block whose PRESET_VALID becomes 1 sets its lane's taps to the preset; a PRE_REQ of increment that follows hold moves the pre-tap by one within its range. A lane's first exact marker names its logical lane; a marker that matches is accepted, and the third in a
row that does not match takes an Active port to Retraining; no marker counts where none is expected, and no block whose CHECK fails. -/
def Obligations.CalfosLanes : Prop :=
  (∀ (s : State) (f l : Fin 8) (b : List Byte) (v : Nat), s.wf = true → mwf (linkOf s f).txLanes = true → inTraining s f = true → blockOf b = some v → bits v 0 4 = 2 →
    Runs (.trainingBlockReceive f l b) s fun t =>
      (tb v 39 = true → (mget (linkOf s f).txLanes l {}).presetValid = false → bits v 44 2 = 0 → bits v 46 2 = 0 →
        getF t (F.CFP_LANE_TX_PRE f l) = (presetTaps (bits v 36 3)).1 ∧ getF t (F.CFP_LANE_TX_POST f l) = (presetTaps (bits v 36 3)).2) ∧
      (tb v 39 = false → bits v 44 2 = 1 → (mget (linkOf s f).txLanes l {}).preReq = 0 →
        getF t (F.CFP_LANE_TX_PRE f l) = (if getF s (F.CFP_LANE_TX_PRE f l) < 8 then getF s (F.CFP_LANE_TX_PRE f l) + 1 else getF s (F.CFP_LANE_TX_PRE f l) % 16) ∧
        (mget (linkOf t f).txLanes l {}).preSt = (if getF s (F.CFP_LANE_TX_PRE f l) < 8 then 1 else 2)) ∧
      (mget (linkOf t f).txLanes l {}).presetValid = tb v 39 ∧ (mget (linkOf t f).txLanes l {}).ready = tb v 16 ∧
      t.out = .trainBlock f l (trainBlock t f l) :: s.out ∧
      t = { s with cells := t.cells, links := t.links, out := t.out }) ∧
  (∀ (s : State) (f l : Fin 8) (m : BitVec 256) (u : Nat), s.wf = true → markersExpected s f = true → (linkOf s f).rxLanes = [] → markerExact m.toNat = true →
    bits m.toNat 64 8 ≤ 7 →
    Runs (.alignmentMarkerReceive f l m u) s fun t =>
      getF t (F.CFP_LANE_PHYS f (bits m.toNat 64 8)) = l.val ∧ (linkOf t f).rxLanes = [(l.val, { lane := bits m.toNat 64 8, seq := 1, arrived := u })] ∧
      t = { s with cells := t.cells, links := t.links } ∧ FieldsBut s t [F.CFP_LANE_PHYS f (bits m.toNat 64 8)]) ∧
  (∀ (s : State) (f l : Fin 8) (m : BitVec 256) (u : Nat) (x : RxLane), s.wf = true → markersExpected s f = true → mfind (linkOf s f).rxLanes l = some x →
    m.toNat = markerValue x.lane (getF s (F.CFP_STATUS_RATE f)) x.seq (bitF s (F.CFP_STATUS_PRECODE_RX f)) false →
    Runs (.alignmentMarkerReceive f l m u) s fun t =>
      mfind (linkOf t f).rxLanes l = some { x with seq := (x.seq + 1) % 2 ^ 32, misses := 0 } ∧ t = { s with links := t.links }) ∧
  (∀ (s : State) (f l : Fin 8) (m : BitVec 256) (u : Nat) (x : RxLane), s.wf = true → cfpState s f = cfpActive → bitF s (F.CFP_STATUS_RX_DRIFT f) = false →
    mfind (linkOf s f).rxLanes l = some x → x.misses = 2 →
    16 < onesIn 256 (Nat.xor m.toNat (markerValue x.lane (getF s (F.CFP_STATUS_RATE f)) x.seq (bitF s (F.CFP_STATUS_PRECODE_RX f)) false)) →
    Runs (.alignmentMarkerReceive f l m u) s fun t =>
      cfpState t f = cfpRetraining ∧ (linkOf t f).step = 4 ∧ bitF t (F.CFP_EVENT_RETRAIN f) = true ∧ (linkOf t f).rxLanes = []) ∧
  (∀ (s : State) (f l : Fin 8) (m : BitVec 256) (u : Nat) (b : List Byte),
    (markersExpected s f = false ∨ (mfind (linkOf s f).rxLanes l = none ∧ markerExact m.toNat = false) → Leaves (.alignmentMarkerReceive f l m u) s) ∧
    (blockOf b = none → Leaves (.trainingBlockReceive f l b) s))

/-- R312, R313, R314, R320. A transmit direction with nothing to send sends DRIFT in four frames and enters Drift after the last, unless traffic comes before; it leaves Drift through the SETTLE frames of its rate, and sends 64 at a refresh; a receiver that has decoded DRIFT follows. An idle port asks for Hush in every frame for 64 frames and gives up
without an answer; agreed, it sends four frames of HUSH_ACK and is in Hush with its clock stopped. An exit begins on traffic; it goes through its steps, and one that passes its bound trains anew at the
retained rate. An event in a state it does not belong to changes nothing. -/
def Obligations.CalfosDriftAndHush : Prop :=
  (∀ (s : State) (f : Fin 8), s.wf = true → cfpState s f = cfpActive → bitF s (F.CFP_PM_DRIFT_EN f) = true → bitF s (F.CFP_STATUS_TX_DRIFT f) = false →
    linkUp s f = true → linkHasWork s f = false → (linkOf s f).hush = 0 → (linkOf s f).pctlLeft = 0 →
    Runs (.driftEnter f) s fun t =>
      linkOf t f = { linkOf s f with pctl := 1, pctlLeft := 4 } ∧ t = { s with links := t.links }) ∧
  (∀ (s : State) (f : Fin 8), s.wf = true → cfpState s f = cfpActive → bitF s (F.CFP_STATUS_TX_DRIFT f) = false → (linkOf s f).pctl = 1 → (linkOf s f).pctlLeft ≠ 0 →
    Runs (.calfosFrameTransmit f) s fun t =>
      bitF t (F.CFP_STATUS_TX_DRIFT f) = decide ((linkOf s f).pctlLeft = 1 ∧ linkHasWork s f = false) ∧
      (linkOf t f).pctlLeft = (if linkHasWork s f then 0 else (linkOf s f).pctlLeft - 1) ∧
      ∃ l a b, t.out = l ++ s.out ∧ l.filterMap (frameIn f) = [(if linkHasWork s f then 0 else 1, a, b)]) ∧
  (∀ (s : State) (f : Fin 8), s.wf = true → cfpState s f = cfpActive → bitF s (F.CFP_STATUS_TX_DRIFT f) = true → linkHasWork s f = true →
    Runs (.driftExit f) s fun t =>
      bitF t (F.CFP_STATUS_TX_DRIFT f) = false ∧
      t.out = .calfosSettle f (if getF s (F.CFP_STATUS_RATE f) = 0 then 16 else if getF s (F.CFP_STATUS_RATE f) = 1 then 8 else 4) :: s.out ∧
      (∀ g, g ≠ f.val → linkOf t g = linkOf s g) ∧ t = { s with cells := t.cells, links := t.links, free := s.free + 2, out := t.out } ∧
      FieldsBut s t [F.CFP_STATUS_TX_DRIFT f]) ∧
  (∀ (s : State) (f : Fin 8), cfpState s f = cfpActive → bitF s (F.CFP_STATUS_TX_DRIFT f) = true →
    Runs (.driftRefresh f) s fun t => t.out = .calfosSettle f 64 :: s.out ∧ t = { s with links := t.links, free := s.free + 2, out := t.out }) ∧
  (∀ (s : State) (f : Fin 8), s.wf = true → cfpState s f = cfpActive → (linkOf s f).driftSeen = true →
    Runs (.receiveDriftEnter f) s fun t =>
      bitF t (F.CFP_STATUS_RX_DRIFT f) = true ∧ (linkOf t f).driftSeen = false ∧ t = { s with cells := t.cells, links := t.links } ∧
      FieldsBut s t [F.CFP_STATUS_RX_DRIFT f]) ∧
  (∀ (s : State) (f : Fin 8), cfpState s f = cfpActive →
    Runs (.receiveDriftExit f) s fun t =>
      bitF t (F.CFP_STATUS_RX_DRIFT f) = false ∧ t = { s with cells := t.cells, links := t.links, free := t.free } ∧ FieldsBut s t [F.CFP_STATUS_RX_DRIFT f]) ∧
  (∀ (s : State) (f : Fin 8), s.wf = true → cfpState s f = cfpActive → linkUp s f = true → linkQuiet s f = true →
    dozing s = true ∨ bitF s (F.CFP_PM_HUSH_EN f) = true → (linkOf s f).hush = 0 → bitF s (F.CFP_STATUS_TX_DRIFT f) = false →
    Runs (.hushRequest f) s fun t =>
      linkOf t f = { linkOf s f with hush := 1, doze := dozing s, pctl := 2, pctlLeft := 64 } ∧ t = { s with links := t.links }) ∧
  (∀ (s : State) (f : Fin 8), s.wf = true → cfpState s f = cfpActive → (linkOf s f).hush = 1 → (linkOf s f).doze = false →
    Runs (.hushRequestTimeout f) s fun t =>
      linkOf t f = { linkOf s f with hush := 0, doze := false, pctlLeft := 0, busyAt := s.ticks } ∧ t = { s with links := t.links }) ∧
  (∀ (s : State) (f : Fin 8), s.wf = true → cfpState s f = cfpActive → (linkOf s f).hush = 1 → (linkOf s f).doze = true → dozing s = true →
    Runs (.hushRequestTimeout f) s fun t =>
      (linkOf t f).hush = 0 ∧ getF t F.PWM_CMD_STATUS_RESULT = 4 ∧ bitF t F.PWM_CMD_STATUS_BUSY = false ∧ bitF t F.PWM_EVENT_DOZE_ABANDONED = true) ∧
  (∀ (s : State) (f : Fin 8), s.wf = true → cfpState s f = cfpActive → (linkOf s f).hush = 2 →
    Runs (.hushEnter f) s fun t =>
      cfpState t f = cfpHush ∧ bitF t (F.CFP_EVENT_HUSH f) = true ∧ bitF t (F.CFP_STATUS_CLK_RX f) = false ∧ (linkOf t f).hush = 0 ∧
      (linkHasWork t f = false →
        ∃ l a b c d e g h i, t.out = l ++ s.out ∧ l.filterMap (frameIn f) = [(3, a, b), (3, c, d), (3, e, g), (3, h, i)])) ∧
  (∀ (s : State) (f : Fin 8), s.wf = true → linkHasWork s f = true ∨ s.ctl.waking = true → cfpState s f = cfpHush → (linkOf s f).exiting = false →
    Runs (.hushExit f) s fun t =>
      (linkOf t f).exiting = true ∧ (linkOf t f).rxLanes = [] ∧ bitF t (F.CFP_STATUS_ALIGNED f) = false ∧ cfpState t f = cfpHush ∧
      t.out = .sideband f (sbBytes 2 0 0 []) :: s.out) ∧
  (∀ (s : State) (f : Fin 8), s.wf = true → cfpState s f = cfpHush → (linkOf s f).exiting = true →
    Runs (.hushExitStepTimeout f) s fun t =>
      cfpState t f = cfpTraining ∧ (linkOf t f).step = 1 ∧ getF t (F.CFP_STATUS_RATE f) = getF s (F.CFP_STATUS_RATE f) % 4 ∧ t.out = s.out) ∧
  (∀ (s : State) (f : Fin 8) (x : TrainFound), s.wf = true → cfpState s f = cfpHush → (linkOf s f).exiting = true →
    Runs (.trainingStepComplete f x) s fun t =>
      ((linkOf s f).step = 3 → linkOf t f = { linkOf s f with step := 4 }) ∧
      ((linkOf s f).step = 4 → linkOf t f = { linkOf s f with step := 5, count := 31 } ∧ bitF t (F.CFP_STATUS_CLK_RX f) = true) ∧
      cfpState t f = cfpHush ∧ t = { s with cells := t.cells, links := t.links }) ∧
  (∀ (s : State) (f : Fin 8),
    (cfpState s f ≠ cfpActive → Leaves (.driftEnter f) s ∧ Leaves (.driftExit f) s ∧ Leaves (.driftRefresh f) s ∧ Leaves (.receiveDriftEnter f) s ∧
      Leaves (.receiveDriftExit f) s ∧ Leaves (.hushRequest f) s ∧ Leaves (.hushRequestTimeout f) s ∧ Leaves (.hushEnter f) s) ∧
    (linkHasWork s f = true → Leaves (.driftEnter f) s ∧ Leaves (.hushRequest f) s) ∧
    (bitF s (F.CFP_STATUS_TX_DRIFT f) = false → Leaves (.driftExit f) s ∧ Leaves (.driftRefresh f) s) ∧
    ((linkOf s f).hush ≠ 2 → Leaves (.hushEnter f) s) ∧ ((linkOf s f).hush ≠ 1 → Leaves (.hushRequestTimeout f) s) ∧
    (cfpState s f ≠ cfpHush → Leaves (.hushExit f) s ∧ Leaves (.hushExitStepTimeout f) s))

/-- R296, R297, R298, R300, R301, R311, R329, R330, R332, R333, R334, R335, R336, R337. A frame sent carries the code in effect and two flits that pass R329, goes over the eight lanes as its codeword striped and scrambled, after the markers where a period begins, and leaves no acknowledgement due; with a class ready and no replay running it carries that class's next DATA flit, which waits for its acknowledgement. In training a frame is a training frame, and the COUNTDOWN of step 5 ends in the marker epoch. A flit received in sequence moves SEQ on and is to be acknowledged; one that fails its CRC counts and asks for
a replay; an uncorrectable frame counts as one and loses both flits. A replay resends every unacknowledged flit in order, up to the limit, past which the port retrains. The clock's loss takes a port to Off, and to training again where nothing holds it; Retraining that passes its
bound trains one rate lower; INIT that takes too long sets INIT_FAIL. -/
def Obligations.CalfosFramesAndLosses : Prop :=
  (∀ (s : State) (f : Fin 8), s.wf = true → cfpState s f = cfpActive → bitF s (F.CFP_STATUS_TX_DRIFT f) = false →
    Runs (.calfosFrameTransmit f) s fun t =>
      (∃ c a b ls l, c = (if (linkOf s f).pctlLeft = 0 ∨ ((linkOf s f).pctl = 1 ∧ linkHasWork s f = true) then 0 else (linkOf s f).pctl) ∧ t.out = .calfosFrame f c a b ls :: l ++ s.out ∧
        flitOk a = true ∧ flitOk b = true ∧ ((linkOf s f).txPos % 16384 ≠ 0 → l = []) ∧
        (bitF s (F.CFP_STATUS_PRECODE_TX f) = false →
          ls = ((List.range 8).map fun i => frameLane ((linkOf s f).txPos % 16384) i (rsEncode (frameMessage c a b))) ∧
          ((linkOf s f).txPos % 16384 = 0 →
            l = [.calfosMarker f ((List.range 8).map fun i =>
              markerLevels (markerValue i (getF s (F.CFP_STATUS_RATE f)) (linkOf s f).txMarks false ((linkOf s f).txPos == 0)))]))) ∧
      (linkOf t f).txPos = (linkOf s f).txPos + 1 ∧
      (linkOf t f).ackDue = false ∧ (linkOf t f).pctlLeft = (if (linkOf s f).pctl = 1 ∧ linkHasWork s f = true then 0 else (linkOf s f).pctlLeft - 1) ∧
      (∀ c < 6, linkUp s f = true → (linkOf s f).resend = [] → (linkOf s f).replay.length < 2048 → classPick s f = some c →
        ∃ x ∈ (linkOf t f).replay, x.seq = (linkOf s f).next ∧ x.cls = c)) ∧
  (∀ (s : State) (f : Fin 8), s.wf = true → inTraining s f = true → (linkOf s f).lineUp = false →
    Runs (.calfosFrameTransmit f) s fun t =>
      (∃ l, t.out = l ++ s.out ∧ l.filterMap (fun e => match e with | .trainFrame g i _ => if g = f.val then some i else none | _ => none) = [7, 6, 5, 4, 3, 2, 1, 0]) ∧
      ((linkOf s f).step ≠ 5 → (linkOf t f).count = (linkOf s f).count ∧ (linkOf t f).lineUp = false) ∧
      ((linkOf s f).step = 5 → (linkOf s f).count ≠ 0 → (linkOf t f).count = (linkOf s f).count - 1 ∧ (linkOf t f).lineUp = false) ∧
      ((linkOf s f).step = 5 → (linkOf s f).count = 0 → (linkOf t f).lineUp = true ∧ (linkOf t f).txPos = 0 ∧ (linkOf t f).txMarks = 0) ∧
      t = { s with links := t.links, free := t.free, out := t.out }) ∧
  (∀ (s : State) (f : Fin 8), s.wf = true → cfpState s f = cfpActive → (linkOf s f).ackDue = true →
    Runs (.ackDelayExpire f) s fun t => (linkOf t f).ackDue = false ∧ ∃ l k a b, t.out = l ++ s.out ∧ l.filterMap (frameIn f) = [(k, a, b)]) ∧
  (∀ (s : State) (f : Fin 8), s.wf = true → cfpState s f = cfpActive → linkUp s f = true → (linkOf s f).replay ≠ [] →
    Runs (.replayTimeout f) s fun t =>
      ((linkOf s f).row < getF s (F.CFK_CTRL_REPLAY_LIMIT f) →
        (linkOf t f).resend = (linkOf s f).replay.map (fun x => x.seq) ∧ (linkOf t f).row = (linkOf s f).row + 1 ∧
        getF t (F.CFK_COUNT_REPLAYS f) = min (getF s (F.CFK_COUNT_REPLAYS f) + 1) 0xFFFF ∧ bitF t (F.CFK_STATUS_REPLAYING f) = true ∧
        t = { s with cells := t.cells, links := t.links }) ∧
      (getF s (F.CFK_CTRL_REPLAY_LIMIT f) ≤ (linkOf s f).row →
        cfpState t f = cfpRetraining ∧ bitF t (F.CFK_EVENT_REPLAY_LIMIT f) = true ∧ (linkOf t f).replay = (linkOf s f).replay)) ∧
  (∀ (s : State) (f : Fin 8) (k : Fin 16) (a b : List Byte) (seq c : Nat), s.wf = true → mwf (linkOf s f).classes = true → cfpState s f = cfpActive →
    bitF s (F.CFP_STATUS_RX_DRIFT f) = false → linkUp s f = true → k.val = 0 → flitOk a = true → flitOk b = false → bits (wordAt a 0) 62 2 = 1 →
    bits (wordAt a 0) 59 3 = c → c ≤ 5 → bits (wordAt a 0) 47 12 = seq → seq = (linkOf s f).expect → tb (wordAt a 0) 34 = false → tb (wordAt a 0) 33 = false →
    bits (wordAt a 0) 30 3 = 6 → (heldFlits s f c).length < getF s (F.CFK_CREDIT_ALLOT_RX f c) → ((linkOf s f).cls c).part = none →
    bits ((flitSlots a)[0]?.getD 0) 0 8 = 0 →
    Runs (.calfosFrameReceive f (.decoded k a b [])) s fun t =>
      (linkOf t f).expect = (seq + 1) % 4096 ∧ (linkOf t f).got = true ∧ (linkOf t f).ackDue = true ∧ ((linkOf t f).cls c).rxGot = ((linkOf s f).cls c).rxGot + 1 ∧
      (linkOf t f).nak = true ∧ getF t (F.CFK_COUNT_CRC_ERR f) = min (getF s (F.CFK_COUNT_CRC_ERR f) + 1) 0xFFFF) ∧
  (∀ (s : State) (f : Fin 8), s.wf = true → cfpState s f = cfpActive → bitF s (F.CFP_STATUS_RX_DRIFT f) = false → linkUp s f = true → (linkOf s f).badAt = [] →
    Runs (.calfosFrameReceive f .uncorrectable) s fun t =>
      getF t (F.CFP_FEC_UNCORR f) = min (getF s (F.CFP_FEC_UNCORR f) + 1) 0xFFFF ∧ bitF t (F.CFP_EVENT_UNCORR f) = true ∧ (linkOf t f).nak = true ∧
      getF t (F.CFK_COUNT_CRC_ERR f) = min (getF s (F.CFK_COUNT_CRC_ERR f) + 2) 0xFFFF ∧ (linkOf t f).expect = (linkOf s f).expect ∧ cfpState t f = cfpActive) ∧
  (∀ (s : State) (f : Fin 8), s.wf = true → cfpState s f = cfpActive → bitF s (F.CFP_STATUS_RX_DRIFT f) = false →
    Runs (.calfosFrameReceive f .delimiters) s fun t => cfpState t f = cfpRetraining ∧ bitF t (F.CFP_EVENT_RETRAIN f) = true) ∧
  (∀ (s : State) (f : Fin 8) (x : Frame), cfpState s f ≠ cfpActive → inTraining s f = false ∨ (linkOf s f).step ≠ 6 ∨ bitF s (F.CFP_STATUS_ALIGNED f) = false →
    Leaves (.calfosFrameReceive f x) s) ∧
  (∀ (s : State) (f : Fin 8), s.wf = true → cfpState s f = cfpRetraining → getF s (F.CFP_STATUS_RATE f) < 2 →
    Runs (.retrainTimeout f) s fun t =>
      cfpState t f = cfpTraining ∧ getF t (F.CFP_STATUS_RATE f) = getF s (F.CFP_STATUS_RATE f) + 1 ∧ (linkOf t f).step = 1 ∧
      getF t (F.CFP_TRAIN_FAILS f) = min (getF s (F.CFP_TRAIN_FAILS f) + 1) 0xFFFF ∧ t.out = (((List.range 8).map fun l => Emit.trainAbort f l (blockBytes (blockFields s f l 3)) 16).reverse) ++ s.out) ∧
  (∀ (s : State) (f : Fin 8), s.wf = true → cfpState s f = cfpActive ∨ cfpState s f = cfpRetraining ∨ (cfpState s f = cfpTraining ∧ 3 < (linkOf s f).step) →
    Runs (.clockLoss f) s fun t =>
      bitF t (F.CFP_EVENT_CLK_LOSS f) = true ∧ getF t (F.CFK_STATUS_LINK f) = 0 ∧
      cfpState t f = (if mayTrain s f then cfpTraining else cfpOff)) ∧
  (∀ (s : State) (f : Fin 8), getF s (F.CFK_STATUS_LINK f) = 1 →
    Runs (.linkInitTimeout f) s fun t =>
      bitF t (F.CFK_EVENT_INIT_FAIL f) = true ∧ OnlyCells s t ∧ FieldsBut s t [F.CFK_EVENT_INIT_FAIL f, F.EVG_PEND_PEND 19]) ∧
  (∀ (s : State) (f : Fin 8),
    (cfpState s f = cfpOff → Leaves (.calfosFrameTransmit f) s ∧ Leaves (.clockLoss f) s) ∧ (cfpState s f ≠ cfpActive ∨ (linkOf s f).ackDue = false → Leaves (.ackDelayExpire f) s) ∧
    (cfpState s f ≠ cfpActive ∨ (linkOf s f).replay = [] → Leaves (.replayTimeout f) s) ∧ (cfpState s f ≠ cfpRetraining → Leaves (.retrainTimeout f) s) ∧
    (getF s (F.CFK_STATUS_LINK f) ≠ 1 → Leaves (.linkInitTimeout f) s))

/-! ### The chain (chapter 13) -/

/-- R359, R362, R363, R364, R365, R367, R368, R372, R373. CHN_CMD ROLL at a head takes POSITION 0 under a new ROLL_ID and sends its ROLL east, or is complete at once where it has no east; at another device, and while BUSY is 1, a command only sets OVERRUN. A ROLL at a head is answered HEAD or DUAL_HEAD; elsewhere a
foreign DOMAIN or SEGMENT and a POSITION of 63 are refused with an event and clear VALID, a resend is only acknowledged, and any other gives the next position: a device with an east sends its ROLL, one without is tail and complete. A persisted position that differs sets CONFLICT. A ROLL_ACK that matches ends the wait,
and one with HEAD or REFUSE makes this device tail; others do nothing. With no answer the ROLL is sent again, counted, up to three times, and then this device is tail. A COMPLETE of the current roll gives COUNT and RING, sets VALID and both B_CLASSES, ends the roll at the head and goes on west elsewhere; a REROLL goes west,
and at the head arranges one more roll. At its timeout a roll call begins again, or has failed after ATTEMPTS. A frame that its port or its form does not allow is discarded and counted. -/
def Obligations.ChainRollCalls : Prop :=
  (∀ (s : State) (who : Party), s.wf = true → regOpen s who A.CHN_CMD = true → isHead s = true → bitF s F.CHN_STATUS_BUSY = false →
    Runs (.chainCmdRoll who) s fun t =>
      getF t F.CHN_STATUS_POSITION = 0 ∧ getF t F.CHN_STATUS_ROLL_ID = (getF s F.CHN_STATUS_ROLL_ID + 1) % 256 ∧ bitF t F.CHN_STATUS_BUSY = true ∧
      t.chain.headTag = ownTag s ∧ getF t F.CHN_COUNT_ROLLS = min (getF s F.CHN_COUNT_ROLLS + 1) F.CHN_COUNT_ROLLS.max ∧
      (bitF s F.CHN_CTRL_EAST_EN = true → getF t F.CHN_STATUS_ROLL_STATE = rsRolling ∧ t.chain.wait = 1 ∧ t.chain.attempts = 1 ∧
        FrameSent s t (eastPort s) 3 ((getF s F.CHN_STATUS_ROLL_ID + 1) % 256) 0 (rollPayload t)) ∧
      (bitF s F.CHN_CTRL_EAST_EN = false → getF t F.CHN_STATUS_ROLL_STATE = rsComplete ∧ getF t F.CHN_STATUS_COUNT = 1 ∧ bitF t F.CHN_STATUS_TAIL = true ∧
        bitF t F.CHN_STATUS_RING = false ∧ bitF t F.GLB_NODE_VALID = true ∧ bitF t F.CHN_EVENT_COMPLETE = true)) ∧
  (∀ (s : State) (who : Party), regOpen s who A.CHN_CMD = true → isHead s = false →
    Runs (.chainCmdRoll who) s fun t =>
      bitF t F.CHN_STATUS_OVERRUN = true ∧ Pending t 1252 ∧ bitF t F.CHN_STATUS_BUSY = bitF s F.CHN_STATUS_BUSY ∧ OnlyCells s t ∧
      FieldsBut s t [F.CHN_STATUS_OVERRUN, F.CHN_STATUS_BUSY, F.EVG_PEND_PEND 19]) ∧
  (∀ (s : State) (who : Party), regOpen s who A.CHN_CMD = true → bitF s F.CHN_STATUS_BUSY = true → ∀ i ∈ [Instr.chainCmdRoll who, .chainCmdSegReset who, .chainCmdWakeSeg who],
    Runs i s fun t => bitF t F.CHN_STATUS_OVERRUN = true ∧ Pending t 1252 ∧ OnlyCells s t ∧ FieldsBut s t [F.CHN_STATUS_OVERRUN, F.EVG_PEND_PEND 19]) ∧
  (∀ (s : State) (who : Party), regOpen s who A.CHN_CMD = false →
    Leaves (.chainCmdRoll who) s ∧ Leaves (.chainCmdSegReset who) s ∧ Leaves (.chainCmdWakeSeg who) s) ∧
  (∀ (s : State) (f : Fin 8) (id flags : Byte) (pl : List Byte), isWest s f = true → rollShape pl = true → flags.toNat ≤ 1 → isHead s = true →
    Runs (.rollReceive f id flags pl) s fun t =>
      t = { s with cells := t.cells, pga := t.pga, out := t.out } ∧
      (bits (leNat pl) 32 32 = ownTag s → FrameSent s t f 4 id.toNat 1 pl ∧ t.cells = s.cells) ∧
      (bits (leNat pl) 32 32 ≠ ownTag s → FrameSent s t f 4 id.toNat 10 pl ∧ bitF t F.CHN_EVENT_DUAL_HEAD = true ∧
        FieldsBut s t [F.CHN_EVENT_DUAL_HEAD, F.EVG_PEND_PEND 19])) ∧
  (∀ (s : State) (f : Fin 8) (id flags : Byte) (pl : List Byte), isWest s f = true → rollShape pl = true → flags.toNat ≤ 1 → isHead s = false →
    bits (leNat pl) 12 4 ≠ rootDomain s ∨ bits (leNat pl) 8 4 ≠ rootSegment s →
    Runs (.rollReceive f id flags pl) s fun t =>
      FrameSent s t f 4 id.toNat 14 pl ∧ bitF t F.CHN_EVENT_ID_MISMATCH = true ∧ bitF t F.GLB_NODE_VALID = false ∧
      t = { s with cells := t.cells, pga := t.pga, out := t.out } ∧ FieldsBut s t (F.CHN_EVENT_ID_MISMATCH :: F.EVG_PEND_PEND 19 :: nodeFields)) ∧
  (∀ (s : State) (f : Fin 8) (id flags : Byte) (pl : List Byte), isWest s f = true → rollShape pl = true → flags.toNat ≤ 1 → isHead s = false →
    bits (leNat pl) 12 4 = rootDomain s → bits (leNat pl) 8 4 = rootSegment s → bits (leNat pl) 0 6 = 63 →
    Runs (.rollReceive f id flags pl) s fun t =>
      FrameSent s t f 4 id.toNat 6 pl ∧ bitF t F.CHN_EVENT_OVERFLOW = true ∧ bitF t F.GLB_NODE_VALID = false ∧
      t = { s with cells := t.cells, pga := t.pga, out := t.out } ∧ FieldsBut s t (F.CHN_EVENT_OVERFLOW :: F.EVG_PEND_PEND 19 :: nodeFields)) ∧
  (∀ (s : State) (f : Fin 8) (id flags : Byte) (pl : List Byte), isWest s f = true → rollShape pl = true → flags.toNat ≤ 1 → isHead s = false →
    bits (leNat pl) 12 4 = rootDomain s → bits (leNat pl) 8 4 = rootSegment s → bits (leNat pl) 0 6 < 63 → s.chain.taken = some id.toNat →
    Runs (.rollReceive f id flags pl) s fun t => FrameSent s t f 4 id.toNat 0 pl ∧ t = { s with pga := t.pga, out := t.out }) ∧
  (∀ (s : State) (f : Fin 8) (id flags : Byte) (pl : List Byte), s.wf = true → isWest s f = true → eastPort s ≠ f → inBand s f = false → rollShape pl = true →
    flags.toNat ≤ 1 → isHead s = false → bits (leNat pl) 12 4 = rootDomain s → bits (leNat pl) 8 4 = rootSegment s → bits (leNat pl) 0 6 < 63 →
    s.chain.taken ≠ some id.toNat →
    Runs (.rollReceive f id flags pl) s fun t =>
      getF t F.CHN_STATUS_POSITION = bits (leNat pl) 0 6 + 1 ∧ getF t F.CHN_STATUS_ROLL_ID = id.toNat ∧ t.chain.taken = some id.toNat ∧
      t.chain.reroll = bitOf flags.toNat 0 ∧ t.chain.headTag = bits (leNat pl) 32 32 ∧
      getF t F.CHN_COUNT_ROLLS = min (getF s F.CHN_COUNT_ROLLS + 1) F.CHN_COUNT_ROLLS.max ∧
      (posConflict s (bits (leNat pl) 0 6 + 1) = true → flags = 0 → bitF t F.CHN_EVENT_CONFLICT = true ∧
        getF t F.CHN_COUNT_REROLLS = min (getF s F.CHN_COUNT_REROLLS + 1) F.CHN_COUNT_REROLLS.max ∧
        .sideband f (sbBytes 6 id.toNat 0 []) ∈ t.out) ∧
      (posConflict s (bits (leNat pl) 0 6 + 1) = false ∨ flags = 1 → bitF t F.CHN_EVENT_CONFLICT = bitF s F.CHN_EVENT_CONFLICT ∧
        getF t F.CHN_COUNT_REROLLS = getF s F.CHN_COUNT_REROLLS) ∧
      (∃ l, t.out = l ++ .sideband f (sbBytes 4 id.toNat 0 pl) :: s.out) ∧
      (bitF s F.CHN_CTRL_EAST_EN = true → getF t F.CHN_STATUS_ROLL_STATE = rsRolling ∧ t.chain.wait = 1 ∧
        (inBand s (eastPort s) = false → t.out.head? = some (.sideband (eastPort s) (sbBytes 3 id.toNat flags.toNat (rollPayload t))))) ∧
      (bitF s F.CHN_CTRL_EAST_EN = false → getF t F.CHN_STATUS_ROLL_STATE = rsComplete ∧ bitF t F.CHN_STATUS_TAIL = true ∧
        getF t F.CHN_STATUS_COUNT = bits (leNat pl) 0 6 + 2 ∧ bitF t F.CHN_STATUS_RING = false ∧ bitF t F.GLB_NODE_VALID = true ∧
        .sideband f (sbBytes 5 id.toNat 0 (leBytes 8 (bits (leNat pl) 0 6 + 2 + bits (leNat pl) 32 32 * 2 ^ 32))) ∈ t.out)) ∧
  (∀ (s : State) (f : Fin 8) (id flags : Byte) (pl : List Byte),
    ∀ x ∈ [(Instr.rollReceive f id flags pl, !isWest s f || !rollShape pl || decide (1 < flags.toNat)),
      (.rollAckReceive f id flags pl, !isEast s f || !rollShape pl || decide (15 < flags.toNat)),
      (.completeReceive f id flags pl, !chainPort s f || pl.length != 8 || bits (leNat pl) 7 25 != 0 || decide (3 < flags.toNat)),
      (.rerollReceive f id flags pl, !chainPort s f || !pl.isEmpty || flags != 0), (.wakeReceive f id flags pl, !pl.isEmpty || decide (1 < flags.toNat)),
      (.segResetReceive f id flags pl, !chainPort s f || !pl.isEmpty || flags != 0), (.sidebandFrameReject f, true)],
    (x.2 = true → Runs x.1 s fun t => getF t F.CHN_COUNT_SB_ERR = min (getF s F.CHN_COUNT_SB_ERR + 1) F.CHN_COUNT_SB_ERR.max ∧ OnlyCells s t ∧
      FieldsBut s t [F.CHN_COUNT_SB_ERR])) ∧
  (∀ (s : State) (f : Fin 8) (id flags : Byte), s.wf = true → (∀ n < 8, (linkOf s n).waitRx = []) → isEast s f = true → rollShape (rollPayload s) = true →
    s.chain.wait ≠ 0 → id.toNat = getF s F.CHN_STATUS_ROLL_ID → flags.toNat ≤ 15 →
    Runs (.rollAckReceive f id flags (rollPayload s)) s fun t =>
      t.chain.wait = 0 ∧ (bitOf flags.toNat 0 = false → bitOf flags.toNat 1 = false → t = { s with chain := { s.chain with wait := 0 } }) ∧
      (bitOf flags.toNat 0 = true ∨ bitOf flags.toNat 1 = true →
        getF t F.CHN_STATUS_ROLL_STATE = rsComplete ∧ bitF t F.CHN_STATUS_TAIL = true ∧
        getF t F.CHN_STATUS_COUNT = (if isHead s then 1 else getF s F.CHN_STATUS_POSITION + 1) ∧
        bitF t F.CHN_STATUS_RING = bitOf flags.toNat 0 ∧ bitF t F.GLB_NODE_VALID = true ∧
        (isHead s = true → bitF t F.CHN_EVENT_COMPLETE = true) ∧
        (isHead s = false → bitF s F.CHN_CTRL_WEST_EN = true → FrameSent s t (westPort s) 5 id.toNat
          (bt (bitOf flags.toNat 0) 0 + bt (!bitOf flags.toNat 0 && bits flags.toNat 2 2 == 1) 1)
          (leBytes 8 (getF s F.CHN_STATUS_POSITION + 1 + s.chain.headTag * 2 ^ 32))))) ∧
  (∀ (s : State) (f : Fin 8) (id flags : Byte) (pl : List Byte), isEast s f = true → rollShape pl = true → flags.toNat ≤ 15 →
    s.chain.wait = 0 ∨ id.toNat ≠ getF s F.CHN_STATUS_ROLL_ID ∨ pl ≠ rollPayload s → Leaves (.rollAckReceive f id flags pl) s) ∧
  (∀ s : State, s.chain.wait ≠ 0 → s.chain.wait < 4 → bitF s F.CHN_CTRL_EAST_EN = true →
    Runs .rollAckTimeout s fun t =>
      getF t F.CHN_COUNT_RETRIES = min (getF s F.CHN_COUNT_RETRIES + 1) F.CHN_COUNT_RETRIES.max ∧ t.chain = { s.chain with wait := s.chain.wait + 1 } ∧
      FrameSent s t (eastPort s) 3 (getF s F.CHN_STATUS_ROLL_ID) (bt s.chain.reroll 0) (rollPayload s) ∧ FieldsBut s t [F.CHN_COUNT_RETRIES] ∧
      t = { s with cells := t.cells, chain := t.chain, pga := t.pga, out := t.out }) ∧
  (∀ s : State, s.wf = true → (∀ n < 8, (linkOf s n).waitRx = []) → 4 ≤ s.chain.wait →
    Runs .rollAckTimeout s fun t =>
      t.chain.wait = 0 ∧ getF t F.CHN_STATUS_ROLL_STATE = rsComplete ∧ bitF t F.CHN_STATUS_TAIL = true ∧ bitF t F.CHN_STATUS_RING = false ∧
      bitF t F.GLB_NODE_VALID = true ∧ getF t F.CHN_STATUS_COUNT = (if isHead s then 1 else getF s F.CHN_STATUS_POSITION + 1)) ∧
  (∀ s : State, s.chain.wait = 0 → Leaves .rollAckTimeout s) ∧
  (∀ (s : State) (f : Fin 8) (id flags : Byte) (pl : List Byte), s.wf = true → (∀ n < 8, (linkOf s n).waitRx = []) → westPort s < 8 → isEast s f = true → pl.length = 8 →
    bits (leNat pl) 7 25 = 0 → flags.toNat ≤ 3 → s.chain.taken = some id.toNat → isHead s = true ∧ s.chain.again = false ∨ isHead s = false →
    Runs (.completeReceive f id flags pl) s fun t =>
      getF t F.CHN_STATUS_COUNT = bits (leNat pl) 0 7 ∧ bitF t F.CHN_STATUS_RING = bitOf flags.toNat 0 ∧ getF t F.CHN_STATUS_ROLL_STATE = rsComplete ∧
      bitF t F.CHN_STATUS_TAIL = false ∧ t.chain.headTag = bits (leNat pl) 32 32 ∧ t.chain.wait = 0 ∧
      bitF t F.GLB_NODE_VALID = true ∧ bitF t (F.CFK_CTRL_B_CLASSES (westPort s)) = bitOf flags.toNat 0 ∧ bitF t (F.CFK_CTRL_B_CLASSES f) = bitOf flags.toNat 0 ∧
      (isHead s = true → bitF t F.CHN_EVENT_COMPLETE = true ∧ t.chain.attempts = 0) ∧
      (isHead s = false → bitF s F.CHN_CTRL_WEST_EN = true → FrameSent s t (westPort s) 5 id.toNat flags.toNat pl)) ∧
  (∀ (s : State) (f : Fin 8) (id flags : Byte) (pl : List Byte), chainPort s f = true → pl.length = 8 → bits (leNat pl) 7 25 = 0 → flags.toNat ≤ 3 →
    isEast s f = false ∨ s.chain.taken ≠ some id.toNat → Leaves (.completeReceive f id flags pl) s) ∧
  (∀ (s : State) (f : Fin 8) (id : Byte), isEast s f = true → isHead s = true → s.chain.taken = some id.toNat → s.chain.reroll = false →
    Runs (.rerollReceive f id 0 []) s fun t =>
      (getF s F.CHN_STATUS_ROLL_STATE ≠ rsComplete → t = { s with chain := { s.chain with again := true } }) ∧
      (getF s F.CHN_STATUS_ROLL_STATE = rsComplete → bitF s F.CHN_CTRL_EAST_EN = true → t.chain.reroll = true ∧ t.chain.wait = 1 ∧
        getF t F.CHN_STATUS_ROLL_STATE = rsRolling ∧ getF t F.CHN_STATUS_ROLL_ID = (getF s F.CHN_STATUS_ROLL_ID + 1) % 256)) ∧
  (∀ (s : State) (f : Fin 8) (id : Byte), isEast s f = true → isHead s = false → bitF s F.CHN_CTRL_WEST_EN = true →
    Runs (.rerollReceive f id 0 []) s fun t =>
      getF t F.CHN_COUNT_REROLLS = min (getF s F.CHN_COUNT_REROLLS + 1) F.CHN_COUNT_REROLLS.max ∧ FrameSent s t (westPort s) 6 id.toNat 0 [] ∧
      t = { s with cells := t.cells, pga := t.pga, out := t.out } ∧ FieldsBut s t [F.CHN_COUNT_REROLLS]) ∧
  (∀ (s : State) (f : Fin 8) (id : Byte), chainPort s f = true →
    isEast s f = false ∨ (isHead s = true ∧ (s.chain.taken ≠ some id.toNat ∨ s.chain.reroll = true)) ∨ (isHead s = false ∧ bitF s F.CHN_CTRL_WEST_EN = false) →
    Leaves (.rerollReceive f id 0 []) s) ∧
  (∀ s : State, s.wf = true → isHead s = true → getF s F.CHN_STATUS_ROLL_STATE = rsRolling →
    Runs .rollCallTimeout s fun t =>
      (s.chain.attempts < getF s F.CHN_CTRL_ATTEMPTS → bitF s F.CHN_CTRL_EAST_EN = true →
        getF t F.CHN_STATUS_ROLL_ID = (getF s F.CHN_STATUS_ROLL_ID + 1) % 256 ∧ t.chain.attempts = s.chain.attempts + 1 ∧ t.chain.wait = 1 ∧
        FrameSent s t (eastPort s) 3 ((getF s F.CHN_STATUS_ROLL_ID + 1) % 256) (bt s.chain.reroll 0) (rollPayload t)) ∧
      (getF s F.CHN_CTRL_ATTEMPTS ≤ s.chain.attempts →
        getF t F.CHN_STATUS_ROLL_STATE = rsFailed ∧ bitF t F.CHN_EVENT_FAIL = true ∧ bitF t F.GLB_NODE_VALID = false ∧ t.chain.wait = 0 ∧
        t = { s with cells := t.cells, chain := t.chain } ∧ FieldsBut s t (F.CHN_STATUS_ROLL_STATE :: F.CHN_EVENT_FAIL :: F.EVG_PEND_PEND 19 :: nodeFields))) ∧
  (∀ s : State, isHead s = false ∨ getF s F.CHN_STATUS_ROLL_STATE ≠ rsRolling → Leaves .rollCallTimeout s)

/-- R369, R370, R372, R471. A WAKE with SEGMENT 1 notes its ID and goes on to the other chain port unless it was seen within 10 ms; it is a device wake, which makes a device in Doze leave it. WAKE_SEG sends one on both chain ports under an ID of its own. A SEG_RESET is refused where SEG_RESET_EN is 0, and one seen within
10 ms does nothing. Where it is 1, and for CHN_CMD SEG_RESET, it goes on and a Rootstock pulse in progress holds the segment reset; with none, outside Dormant, the reset is asserted. -/
def Obligations.ChainSegmentCommands : Prop :=
  (∀ (s : State) (f : Fin 8) (id : Byte), pwmMode s = moServe → dozing s = false → cfpState s f ≠ cfpHush →
    Runs (.wakeReceive f id 1 []) s fun t =>
      t.chain = { s.chain with wakes := idNote s s.chain.wakes id.toNat } ∧
      (idSeen s s.chain.wakes id.toNat = true ∨ otherChain s f = none → t = { s with chain := t.chain }) ∧
      (∀ o ∈ otherChain s f, idSeen s s.chain.wakes id.toNat = false → cfpState s o ≠ cfpHush →
        FrameSent s t o 2 id.toNat 1 [] ∧ t = { s with chain := t.chain, pga := t.pga, out := t.out })) ∧
  (∀ (s : State) (f : Fin 8) (id : Byte), cfpState s f ≠ cfpHush → Leaves (.wakeReceive f id 0 []) s) ∧
  (∀ (s : State) (f : Fin 8) (id : Byte), s.wf = true → cfpState s f = cfpHush → (linkOf s f).exiting = false → pwmMode s = moServe → dozing s = false →
    Runs (.wakeReceive f id 0 []) s fun t =>
      (linkOf t f).exiting = true ∧ (linkOf t f).step = 3 ∧ cfpState t f = cfpHush ∧ t = { s with cells := t.cells, links := t.links } ∧
      FieldsBut s t [F.CFP_STATUS_ALIGNED f] ∧ ∀ g < 8, g ≠ f.val → linkOf t g = linkOf s g) ∧
  (∀ (s : State) (f : Fin 8) (id : Byte), pwmMode s = moDoze → s.ctl.waking = false → cfpState s f ≠ cfpHush → otherChain s f = none →
    Runs (.wakeReceive f id 1 []) s fun t => t.ctl.waking = true ∧ getF t F.PWM_STATUS_WAKE_SRC = 2) ∧
  (∀ (s : State) (who : Party), regOpen s who A.CHN_CMD = true → bitF s F.CHN_STATUS_BUSY = false →
    (∀ o ∈ chainPorts s, inBand s o = false ∧ cfpState s o ≠ cfpHush) →
    Runs (.chainCmdWakeSeg who) s fun t =>
      t.chain = { s.chain with wakeId := (s.chain.wakeId + 1) % 256, wakes := idNote s s.chain.wakes ((s.chain.wakeId + 1) % 256) } ∧
      t.out = ((chainPorts s).map fun o => Emit.sideband o (sbBytes 2 ((s.chain.wakeId + 1) % 256) 1 [])).reverse ++ s.out ∧
      bitF t F.CHN_STATUS_BUSY = true ∧ FieldsBut s t [F.CHN_STATUS_BUSY] ∧ t = { s with cells := t.cells, chain := t.chain, out := t.out }) ∧
  (∀ (s : State) (f : Fin 8) (id : Byte), chainPort s f = true → bitF s F.CHN_CTRL_SEG_RESET_EN = false →
    Runs (.segResetReceive f id 0 []) s fun t =>
      bitF t F.CHN_EVENT_SEG_RESET_REFUSED = true ∧ OnlyCells s t ∧ FieldsBut s t [F.CHN_EVENT_SEG_RESET_REFUSED, F.EVG_PEND_PEND 19]) ∧
  (∀ (s : State) (f : Fin 8) (id : Byte), chainPort s f = true → bitF s F.CHN_CTRL_SEG_RESET_EN = true → idSeen s s.chain.resets id.toNat = true →
    Leaves (.segResetReceive f id 0 []) s) ∧
  (∀ (s : State) (f : Fin 8) (id : Byte), s.wf = true → chainPort s f = true → bitF s F.CHN_CTRL_SEG_RESET_EN = true → idSeen s s.chain.resets id.toNat = false →
    (∀ o ∈ otherChain s f, inBand s o = false) →
    Runs (.segResetReceive f id 0 []) s fun t =>
      t.chain.resets = idNote s s.chain.resets id.toNat ∧
      (∃ l, t.out = l ++ ((otherChain s f).toList.map (fun o => Emit.sideband o (sbBytes 7 id.toNat 0 [])) ++ s.out)) ∧
      (s.root.queue = [] → pwmMode s ≠ moDormant → s.ctl.step = 11 → SegmentReset s t) ∧
      (s.root.queue ≠ [] → t.root.held = s.root.held ++ [.segment] ∧ bitF t F.RST_STATUS_HELD = true ∧
        t = { s with cells := t.cells, root := t.root, chain := t.chain, links := t.links, out := t.out })) ∧
  (∀ (s : State) (who : Party), s.wf = true → regOpen s who A.CHN_CMD = true → bitF s F.CHN_STATUS_BUSY = false → (∀ o ∈ chainPorts s, inBand s o = false) →
    Runs (.chainCmdSegReset who) s fun t =>
      t.chain.resetId = (s.chain.resetId + 1) % 256 ∧ t.chain.resets = idNote s s.chain.resets ((s.chain.resetId + 1) % 256) ∧
      (∃ l, t.out = l ++ (((chainPorts s).map fun o => Emit.sideband o (sbBytes 7 ((s.chain.resetId + 1) % 256) 0 [])).reverse ++ s.out)) ∧
      (s.root.queue = [] → pwmMode s ≠ moDormant → s.ctl.step = 11 → SegmentReset s t) ∧
      (s.root.queue ≠ [] → t.root.held = s.root.held ++ [.segment] ∧ bitF t F.RST_STATUS_HELD = true ∧
        t = { s with cells := t.cells, root := t.root, chain := t.chain, links := t.links, out := t.out }))

/-! ### The Gardener and the mailboxes (chapter 14) -/

/-- R387, R388, R389, R390, R391, R392. A doorbell passes the slots rung to the Gardener, pending, and clears their DONE bits; one of a slot already passed is counted. A return passes slots back, DONE, with the plot's vector, and one of a slot that the Gardener does not own sets RETURN_IGNORED. An access writes the bytes
in slots that its party owns and no other byte, and one with a byte elsewhere is counted or sets NOT_OWNER. A write of PP_MBX_DONE clears bits and arms the vector. The page of a plot that is Disabled or in reset does nothing. An answer, a discard or an expiry takes the head of the management queue; a Message has no answer. -/
def Obligations.MailboxSlotsAndQueue : Prop :=
  (∀ (s : State) (p : Fin 4096) (m : BitVec 16), pageDead s p = false →
    Runs (.mailboxDoorbell p m) s fun t =>
      (∀ i < 16, bitOf (mbxOwn t p) i = (bitOf (mbxOwn s p) i || m.getLsbD i) ∧
        bitOf (getF t (F.PP_MBX_DONE_SLOT p)) i = (bitOf (getF s (F.PP_MBX_DONE_SLOT p)) i && !(m.getLsbD i && !bitOf (mbxOwn s p) i)) ∧
        bitOf (getF t (F.MBX_PEND_SLOT p)) i = (bitOf (getF s (F.MBX_PEND_SLOT p)) i || (m.getLsbD i && !bitOf (mbxOwn s p) i))) ∧
      ((∃ i < 16, m.getLsbD i = true ∧ bitOf (mbxOwn s p) i = false) → bitOf (getF t (F.MBX_GPEND_PLOTS (p / 32))) (p % 32) = true ∧
        (bitOf (getF s (F.MBX_GPEND_PLOTS (p / 32))) (p % 32) = false → evgActive s (1024 + p / 32) = false → Pending t (1024 + p / 32))) ∧
      OnlyCells s t ∧ FieldsBut s t [F.PP_MBX_DONE_SLOT p, F.MBX_PEND_OWN p, F.PP_MBX_OWN_GDN p, F.PP_MBX_DB_SLOT p, F.MBX_PEND_SLOT p,
        F.MBX_GPEND_PLOTS (p / 32), F.PP_MBX_COUNT_DB_IGNORED p, F.EVG_PEND_PEND ((1024 + p / 32) / 64)]) ∧
  (∀ (s : State) (p : Fin 4096) (i : Fin 16), pageDead s p = false → bitOf (mbxOwn s p) i = true →
    Runs (.mailboxDoorbell p (BitVec.ofNat 16 (2 ^ i.val))) s fun t => t = bump s (F.PP_MBX_COUNT_DB_IGNORED p)) ∧
  (∀ (s : State) (p : Fin 4096) (m : BitVec 16), s.wf = true →
    Runs (.mailboxReturn p m) s fun t =>
      (∀ i < 16, bitOf (mbxOwn t p) i = (bitOf (mbxOwn s p) i && !m.getLsbD i) ∧
        bitOf (getF t (F.PP_MBX_DONE_SLOT p)) i = (bitOf (getF s (F.PP_MBX_DONE_SLOT p)) i || (m.getLsbD i && bitOf (mbxOwn s p) i)) ∧
        (m.getLsbD i = true → bitOf (mbxOwn s p) i = true →
          (plotOf t p).mbxSent = ((plotOf s p).mbxSent || !dropByState s p (getF s (F.PE_EVENT_VEC_MBX_VEC p)))) ∧
        (m.getLsbD i = true → bitOf (mbxOwn s p) i = false → bitF t F.MBX_EVENT_RETURN_IGNORED = true)) ∧
      ((plotOf s p).mbxSent = true ∨ (∀ i < 16, m.getLsbD i = true → bitOf (mbxOwn s p) i = false) → OnlyCells s t) ∧
      getF t (F.MBX_PEND_SLOT p) = getF s (F.MBX_PEND_SLOT p) ∧ t.mem = s.mem ∧ t.quads = s.quads ∧ t.pga = s.pga) ∧
  (∀ (s : State) (p : Fin 4096) (gdn : Bool) (off : Fin 4096) (data : List Byte), s.wf = true → (if gdn then coreShape off data.length = true else pageDead s p = false) →
    off.val + data.length ≤ 4096 →
    Runs (.mailboxSlotAccess p gdn off data) s fun t =>
      (∀ k < data.length, memByte t (mbxAddr p (off.val + k)) =
        if bitOf (mbxOwn s p) ((off.val + k) / 256) = gdn then (data[k]?).getD 0 else memByte s (mbxAddr p (off.val + k))) ∧
      (∀ a, (∀ k < data.length, a ≠ mbxAddr p (off.val + k)) → memByte t a = memByte s a) ∧
      ((∀ k < data.length, bitOf (mbxOwn s p) ((off.val + k) / 256) = gdn) → t = { s with mem := t.mem }) ∧
      ((∃ k < data.length, bitOf (mbxOwn s p) ((off.val + k) / 256) ≠ gdn) →
        if gdn then bitF t F.MBX_EVENT_NOT_OWNER = true else getF t (F.PP_MBX_COUNT_WR_IGNORED p) = min (getF s (F.PP_MBX_COUNT_WR_IGNORED p) + 1) 0xFFFF) ∧
      t = { s with cells := t.cells, mem := t.mem } ∧ FieldsBut s t [F.MBX_EVENT_NOT_OWNER, F.PP_MBX_COUNT_WR_IGNORED p, F.EVG_PEND_PEND 18]) ∧
  (∀ (s : State) (p : Fin 4096) (m : BitVec 16), s.wf = true → pageDead s p = false →
    Runs (.mailboxDoneClear p m) s fun t =>
      (∀ i < 16, bitOf (getF t (F.PP_MBX_DONE_SLOT p)) i = (bitOf (getF s (F.PP_MBX_DONE_SLOT p)) i && !m.getLsbD i)) ∧
      plotOf t p = { plotOf s p with mbxSent := false } ∧ t = { s with cells := t.cells, plots := t.plots } ∧ FieldsBut s t [F.PP_MBX_DONE_SLOT p]) ∧
  (∀ (s : State) (p : Fin 4096) (m : BitVec 16) (off : Fin 4096) (data : List Byte), pageDead s p = true →
    Leaves (.mailboxDoorbell p m) s ∧ Leaves (.mailboxDoneClear p m) s ∧ Leaves (.mailboxSlotAccess p false off data) s) ∧
  (∀ (s : State) (p : Fin 4096) (off : Fin 4096) (data : List Byte), coreShape off data.length = false → Leaves (.mailboxSlotAccess p true off data) s) ∧
  (∀ (s : State) (v : Word) (x : MqEntry) (xs : List MqEntry), s.mq = x :: xs → bitOf v.toNat 16 = true →
    Runs (.mgmtQueueRespond v) s fun t => t = mqShow { s with mq := xs } ∧ t.mq = xs ∧ bitF t F.MBX_MQ_ENTRY0_VALID = !xs.isEmpty) ∧
  (∀ (s : State) (v : Word) (x : MqEntry) (xs : List MqEntry), s.mq = x :: xs → bitOf v.toNat 16 = false → x.req.op = .message → Leaves (.mgmtQueueRespond v) s) ∧
  (∀ (s : State) (v : Word), s.mq = [] → Leaves (.mgmtQueueRespond v) s ∧ Leaves .mgmtQueueExpire s) ∧
  (∀ (s : State) (v : Word) (x : MqEntry) (xs : List MqEntry), s.mq = x :: xs → bitOf v.toNat 16 = false → x.req.op = .mgmtRead → x.req.len = 8 → x.half = none →
    bits v.toNat 8 8 = 0xFF →
    Runs (.mgmtQueueRespond v) s fun t => t = { s with mq := { x with half := some (bits v.toNat 32 32) } :: xs }) ∧
  (∀ (s : State) (v : Word) (x : MqEntry) (xs : List MqEntry), s.mq = x :: xs → bitOf v.toNat 16 = false → x.req.op = .mgmtRead →
    x.req.len = 4 ∨ bits v.toNat 8 8 ≠ 0xFF →
    Runs (.mgmtQueueRespond v) s fun t =>
      t.mq = xs ∧ bitF t F.MBX_MQ_ENTRY0_VALID = !xs.isEmpty ∧
      t = mqShow (sendResponse { s with mq := xs } 16 .gardener x.req (if statusAllowed x.req (bits v.toNat 8 8) then bits v.toNat 8 8 else 2)
        (leBytes x.req.len (if x.req.len = 8 then x.half.getD 0 + bits v.toNat 32 32 * 2 ^ 32 else bits v.toNat 32 32)))) ∧
  (∀ (s : State) (v : Word) (x : MqEntry) (xs : List MqEntry), s.mq = x :: xs → bitOf v.toNat 16 = false → x.req.op ∈ [FabOp.mgmtWrite, .write, .hold, .release] →
    Runs (.mgmtQueueRespond v) s fun t =>
      t.mq = xs ∧ bitF t F.MBX_MQ_ENTRY0_VALID = !xs.isEmpty ∧
      t = mqShow (sendResponse { s with mq := xs } 16 .gardener x.req (if statusAllowed x.req (bits v.toNat 8 8) then bits v.toNat 8 8 else 2) [])) ∧
  (∀ (s : State) (x : MqEntry) (xs : List MqEntry), s.mq = x :: xs → x.arrived + 900 ≤ s.ticks →
    Runs .mgmtQueueExpire s fun t => t.mq = xs ∧ bitF t F.MBX_EVENT_MQ_EXPIRED = true ∧ bitF t F.MBX_MQ_ENTRY0_VALID = !xs.isEmpty ∧
      (x.req.op = .message → t.pga = s.pga) ∧ (x.req.op ≠ .message → t.pga = (sendResponse { s with mq := xs } 16 .gardener x.req 4 []).pga)) ∧
  (∀ (s : State) (x : MqEntry) (xs : List MqEntry), s.mq = x :: xs → s.ticks < x.arrived + 900 → Leaves .mgmtQueueExpire s)

/-- R379, R380, R381, R382, R383, R385, R386, R393, R398. The boot ROM starts the valid image it finds, the newer of two, in its place in SRAM, with RESULT, SLOT and VERSION and the watchdog running; one not confirmed twice is passed over; with none valid the device enters Safe with RESULT NO_IMAGE. CONFIRM is noted. In Safe
a slot that passes sets RELOADED, and after NO_IMAGE resets the Gardener. An aperture access that passes the rows of R385 takes a tag; one that does not fails with its record; 2 ms without an answer end it. The flash and I3C engines carry a command or a packet and report its end. An event that comes in another state of its engine does nothing. -/
def Obligations.GardenerBootAndEngines : Prop :=
  (∀ (s : State) (im : Image), s.wf = true → s.ctl.step = 11 → getF s F.GDN_BOOT_RESULT = 0 → imageOk s im = true →
    Runs (.bootImageLoaded (some im) none) s fun t =>
      getF t F.GDN_BOOT_RESULT = 1 ∧ getF t F.GDN_BOOT_SLOT = 0 ∧ getF t F.GDN_BOOT_VERSION = im.version.toNat ∧ bitF t F.HDG_STATUS_WDOG_RUN = true ∧
      (∀ k < im.body.length, memByte t (im.load + k) = (im.body[k]?).getD 0) ∧ t.hdg = { s.hdg with kickAt := s.ticks, period := getF s F.HDG_WDOG_PERIOD, warned := false } ∧
      evgRoute t 65 = 1 ∧ evgRoute t 66 = 2 ∧ evgRoute t 67 = 3) ∧
  (∀ (s : State) (x y : Image) (p q : Nat), p = (if x.version.toNat < y.version.toNat then 1 else 0) → q = (if tryPasses s p then 1 - p else p) → s.wf = true → s.ctl.step = 11 → getF s F.GDN_BOOT_RESULT = 0 → imageOk s x = true → imageOk s y = true →
    Runs (.bootImageLoaded (some x) (some y)) s fun t =>
      getF t F.GDN_BOOT_RESULT = 1 ∧ getF t F.GDN_BOOT_SLOT = q ∧ getF t F.GDN_BOOT_VERSION = (if q = 0 then x else y).version.toNat ∧
      (tryPasses s p = true → bitF t F.GDN_BOOT_FALLBACK = true ∧ bitF t F.GDN_EVENT_FALLBACK = true) ∧
      (∀ k < (if q = 0 then x else y).body.length, memByte t ((if q = 0 then x else y).load + k) = ((if q = 0 then x else y).body[k]?).getD 0)) ∧
  (∀ (s : State) (x y : Option Image), s.ctl.step = 11 → getF s F.GDN_BOOT_RESULT = 0 → x.all (fun i => !headerOk s i) = true → y.all (fun i => !headerOk s i) = true →
    Runs (.bootImageLoaded x y) s fun t =>
      getF t F.GDN_BOOT_RESULT = 2 ∧ bitF t F.HDG_STATUS_SAFE = true ∧ pwmMode t = moSafe ∧ getF t F.HDG_STATUS_CAUSE = getF s F.HDG_STATUS_CAUSE) ∧
  (∀ (s : State) (x y : Option Image), s.ctl.step ≠ 11 ∨ getF s F.GDN_BOOT_RESULT ≠ 0 → Leaves (.bootImageLoaded x y) s) ∧
  (∀ s : State, getF s F.GDN_BOOT_RESULT = 1 → Runs .bootConfirm s fun t => bitF t F.GDN_BOOT_CONFIRM = true ∧ getF t F.GDN_BOOT_RESULT = 1 ∧ t.mem = s.mem ∧
    (rootComing s rwFwTry % 16 = 0 → t = setF s F.GDN_BOOT_CONFIRM 1) ∧
    (rootComing s rwFwTry % 16 ≠ 0 → mget s.root.used rwFwTry 0 < 64 → t.root.queue = s.root.queue ++ [{ index := rwFwTry, value := rootComing s rwFwTry / 16 * 16, gardener := false }])) ∧
  (∀ s : State, getF s F.GDN_BOOT_RESULT ≠ 1 → Leaves .bootConfirm s) ∧
  (∀ (s : State) (im : Image), bitF s F.HDG_STATUS_SAFE = true → getF s F.GDN_BOOT_RESULT = 3 → imageOk s im = true →
    Runs (.recoveryImageVerified im) s fun t => t = setF s F.HDG_STATUS_RELOADED 1) ∧
  (∀ (s : State) (im : Image), bitF s F.HDG_STATUS_SAFE = true → getF s F.GDN_BOOT_RESULT = 2 → getF s F.HDG_STATUS_CAUSE = 0 → imageOk s im = true → s.root.queue = [] →
    Runs (.recoveryImageVerified im) s fun t => bitF t F.HDG_STATUS_RELOADED = true ∧ getF t F.GDN_BOOT_RESULT = 0 ∧ t.fw = {}) ∧
  (∀ (s : State) (im : Image), bitF s F.HDG_STATUS_SAFE = false ∨ getF s F.GDN_BOOT_RESULT < 2 ∨ imageOk s im = false → Leaves (.recoveryImageVerified im) s) ∧
  (∀ (s : State) (c : Fin 4) (k : Fin 8) (off : BitVec 28) (n : Fin 9) (d : Option Word), apertureLive s c = none → bitF s (F.GDN_FAP_EN k) = true →
    getF s (F.GDN_FAP_KIND k) ≤ 1 → apertureShape (getF s (F.GDN_FAP_KIND k)) off.toNat n = true → getF s (F.GDN_FAP_NODE k) ≠ myNode s 0 →
    (getF s (F.GDN_FAP_KIND k) = 1 → apertureFence s (getF s (F.GDN_FAP_NODE k)) (getF s (F.GDN_FAP_BASE k) * 2 ^ 28 + off.toNat) n d.isSome = true ∧ apertureCap s = true) →
    (routeOf s (getF s (F.GDN_FAP_NODE k)) (myNode s 0) none).2.pga ≠ 20 →
    Runs (.apertureAccess c k off n d) s fun t =>
      mfind t.unit0 (mfree s.unit0 0) = some (.aperture c k off.toNat false (if getF s (F.GDN_FAP_KIND k) = 0 then (if d.isSome then .mgmtWrite else .mgmtRead)
        else if d.isSome then .write else .read) n) ∧
      t.out = s.out ∧ (∀ tag, tag ≠ mfree s.unit0 0 → mfind t.unit0 tag = mfind s.unit0 tag)) ∧
  (∀ (s : State) (c : Fin 4) (k : Fin 8) (off : BitVec 28) (n : Fin 9) (d : Option Word), (apertureLive s c).isSome = true → Leaves (.apertureAccess c k off n d) s) ∧
  (∀ (s : State) (c : Fin 4) (k : Fin 8) (off : BitVec 28) (n : Fin 9) (d : Option Word) (why st : Nat), apertureLive s c = none →
    (if bitF s (F.GDN_FAP_EN k) = false ∨ 1 < getF s (F.GDN_FAP_KIND k) then (why, st) = (faDisabled, 0)
      else if apertureShape (getF s (F.GDN_FAP_KIND k)) off.toNat n = false then (why, st) = (faAlign, 0)
      else if getF s (F.GDN_FAP_NODE k) = myNode s 0 then (why, st) = (faSelf, 0)
      else getF s (F.GDN_FAP_KIND k) = 0 ∧ why = faStatus ∧ (routeOf s (getF s (F.GDN_FAP_NODE k)) (myNode s 0) none).2 = .fail st) →
    Runs (.apertureAccess c k off n d) s fun t =>
      t.out = .bus c none :: s.out ∧ getF t F.GDN_FAP_COUNT_FAILS = min (getF s F.GDN_FAP_COUNT_FAILS + 1) F.GDN_FAP_COUNT_FAILS.max ∧
      bitF t F.GDN_EVENT_FAP_ERR = true ∧ t = { s with cells := t.cells, out := t.out } ∧
      (bitF s F.GDN_FAP_ERR_VALID = false → getF t F.GDN_FAP_ERR_CAUSE = why ∧ getF t F.GDN_FAP_ERR_STATUS = st ∧ getF t F.GDN_FAP_ERR_CORE = c ∧
        getF t F.GDN_FAP_ERR_WINDOW = k ∧ getF t F.GDN_FAP_ERR_OFFSET = off.toNat)) ∧
  (∀ (s : State) (c : Fin 4) (k : Fin 8) (off : BitVec 28) (n : Fin 9) (d : Option Word), apertureLive s c = none → bitF s (F.GDN_FAP_EN k) = true →
    getF s (F.GDN_FAP_KIND k) = 1 → apertureShape 1 off.toNat n = true → getF s (F.GDN_FAP_NODE k) ≠ myNode s 0 →
    apertureFence s (getF s (F.GDN_FAP_NODE k)) (getF s (F.GDN_FAP_BASE k) * 2 ^ 28 + off.toNat) n d.isSome = false →
    Runs (.apertureAccess c k off n d) s fun t =>
      t.out = .bus c none :: s.out ∧ bitF t F.GDN_EVENT_FAP_ERR = true ∧ t.unit0 = s.unit0 ∧ t.pga = s.pga ∧
      (bitF s F.GDN_FAP_ERR_VALID = false → getF t F.GDN_FAP_ERR_CAUSE = faHedge)) ∧
  (∀ (s : State) (c : Fin 4) (tag k off : Nat) (op : FabOp) (n : Nat), apertureLive s c = some (tag, .aperture c k off false op n) →
    Runs (.apertureTimeout c) s fun t =>
      t.out = .bus c none :: s.out ∧ mfind t.unit0 tag = some (.aperture c k off true op n) ∧ bitF t F.GDN_EVENT_FAP_ERR = true ∧
      getF t F.GDN_FAP_COUNT_FAILS = min (getF s F.GDN_FAP_COUNT_FAILS + 1) F.GDN_FAP_COUNT_FAILS.max ∧
      t = { s with cells := t.cells, unit0 := t.unit0, out := t.out } ∧ (bitF s F.GDN_FAP_ERR_VALID = false → getF t F.GDN_FAP_ERR_CAUSE = faTimeout)) ∧
  (∀ (s : State) (c : Fin 4), apertureLive s c = none →
    Runs (.apertureTimeout c) s fun t =>
      t = { s with unit0 := s.unit0.filter fun x => match x.2 with | .aperture d _ _ _ _ _ => d != c.val | _ => true }) ∧
  (∀ (s : State) (v : Word), bitF s F.XSP_STATUS_BUSY = false →
    Runs (.xspiCommand v) s fun t =>
      bitF t F.XSP_STATUS_BUSY = true ∧ bitF t F.XSP_STATUS_ERROR = false ∧
      getF t F.XSP_CMD_OPCODE = bits v.toNat F.XSP_CMD_OPCODE.lo F.XSP_CMD_OPCODE.w ∧ getF t F.XSP_CMD_BYTES = bits v.toNat 32 9 ∧
      t.out = .flash v.toNat (getF s F.XSP_ADDR_ADDR) (memRead s xspData (min (bits v.toNat 32 9) 256)) :: s.out ∧ OnlyShown s t ∧
      FieldsBut s t [F.XSP_STATUS_BUSY, F.XSP_STATUS_ERROR, F.XSP_CMD_BYTES, F.XSP_CMD_DUMMY, F.XSP_CMD_MODE, F.XSP_CMD_ADDR_WIDTH, F.XSP_CMD_OPCODE]) ∧
  (∀ (s : State) (v : Word), bitF s F.XSP_STATUS_BUSY = true → Leaves (.xspiCommand v) s) ∧
  (∀ (s : State) (e : Bool) (d : List Byte), s.wf = true → bitF s F.XSP_STATUS_BUSY = true →
    Runs (.xspiCommandDone e d) s fun t =>
      bitF t F.XSP_STATUS_BUSY = false ∧ bitF t F.XSP_STATUS_DONE = true ∧ bitF t F.XSP_STATUS_ERROR = e ∧ (evgActive s 1160 = false → Pending t 1160) ∧
      (∀ k < min d.length 256, memByte t (xspData + k) = (d[k]?).getD 0) ∧ t = { s with cells := t.cells, mem := t.mem }) ∧
  (∀ (s : State) (e : Bool) (d : List Byte), bitF s F.XSP_STATUS_BUSY = false → Leaves (.xspiCommandDone e d) s) ∧
  (∀ (s : State) (d : List Byte), s.wf = true → getF s F.I3C_STATUS_DYN_ADDR ≠ 0 → bitF s F.I3C_STATUS_RX_READY = false → 1 ≤ d.length → d.length ≤ 256 →
    Runs (.i3cPacketReceived d) s fun t =>
      getF t F.I3C_RX_LEN_LEN = d.length ∧ bitF t F.I3C_STATUS_RX_READY = true ∧ (evgActive s 1155 = false → Pending t 1155) ∧
      (∀ k < d.length, memByte t (i3cRx + k) = (d[k]?).getD 0) ∧ t = { s with cells := t.cells, mem := t.mem }) ∧
  (∀ (s : State) (d : List Byte), getF s F.I3C_STATUS_DYN_ADDR = 0 ∨ bitF s F.I3C_STATUS_RX_READY = true ∨ d = [] ∨ 256 < d.length →
    Leaves (.i3cPacketReceived d) s) ∧
  (∀ (s : State) (n : Fin 257),
    Runs (.i3cTransmit n) s fun t =>
      getF t F.I3C_TX_LEN_LEN = n ∧ bitF t F.I3C_STATUS_IBI = true ∧ OnlyShown s t ∧ FieldsBut s t [F.I3C_TX_LEN_LEN, F.I3C_STATUS_IBI] ∧
      t.out = (if getF s F.I3C_STATUS_DYN_ADDR = 0 then s.out else .i3c (memRead s i3cTx (min n.val 256)) :: s.out)) ∧
  (∀ s : State, bitF s F.I3C_STATUS_IBI = true → getF s F.I3C_STATUS_DYN_ADDR ≠ 0 →
    Runs .i3cTransmitDone s fun t =>
      bitF t F.I3C_STATUS_IBI = false ∧ bitF t F.I3C_STATUS_TX_DONE = true ∧ (evgActive s 1155 = false → Pending t 1155) ∧ OnlyCells s t ∧
      FieldsBut s t [F.I3C_STATUS_IBI, F.I3C_STATUS_TX_DONE, F.EVG_PEND_PEND 18]) ∧
  (∀ s : State, bitF s F.I3C_STATUS_IBI = false ∨ getF s F.I3C_STATUS_DYN_ADDR = 0 → Leaves .i3cTransmitDone s) ∧
  (∀ (s : State) (a : Fin 128),
    Runs (.i3cAddressAssign a) s fun t =>
      getF t F.I3C_STATUS_DYN_ADDR = a ∧ OnlyShown s t ∧ FieldsBut s t [F.I3C_STATUS_DYN_ADDR] ∧
      t.out = (if getF s F.I3C_STATUS_DYN_ADDR = 0 ∧ bitF s F.I3C_STATUS_IBI = true ∧ a.val ≠ 0 then
        .i3c (memRead s i3cTx (min (getF s F.I3C_TX_LEN_LEN) 256)) :: s.out else s.out))

/-- R394, R395. Firmware that runs answers each mailbox command in place, with its STATUS, DETAIL and LEN, returns the slot and leaves the others: DENIED where the plot may not issue it, FORMAT for a LEN above 240; EVENT_WAIT without an event is held. FW_BEGIN opens the slot that does not run, FW_DATA writes it, FW_END closes it with what
verification gives, and FW_ACTIVATE resets the Gardener. The commands that run a hardware command issue it, wait for it, and answer with its RESULT. With no firmware, or in a slot that is not the Gardener's or holds another command, nothing happens. -/
def Obligations.FirmwareAnswers : Prop :=
  (∀ (s : State) (p : Fin 4096) (i : Fin 16) (b : Fin 2) (w : Fin 64) (op : Fin 16) (n : Fin 1024) (off : BitVec 22) (d : List Byte) (c : Option Byte) (y : Bool)
      (im : Image) (ws : List (Fin 3072 × Word)),
    ∀ x ∈ [(Instr.getInfo p i, 1, FwWho.any), (.getHealth p i d, 2, .any), (.eventWait p i c, 3, .any), (.windowRequest p i w y, 0x10, .any), (.windowList p i d, 0x11, .any),
      (.plotCmd p i op n, 0x20, .pf0), (.fwBegin p i, 0x30, .manager), (.fwData p i off d, 0x31, .manager), (.fwEnd p i im, 0x32, .manager), (.fwActivate p i, 0x33, .manager),
      (.bedStage p i ws, 0x40, .manager), (.bedCommit p i b, 0x41, .manager), (.bedRevert p i, 0x42, .manager), (.logRead p i, 0x50, .pf0)],
    ((firmwareRuns s = false ∨ bitOf (mbxOwn s p) i = false ∨ leNat (memRead s (slotAddr p i) 2) ≠ x.2.1 → Leaves x.1 s) ∧
    (s.wf = true → firmwareRuns s = true → bitOf (mbxOwn s p) i = true → leNat (memRead s (slotAddr p i) 2) = x.2.1 → x.2.1 ≠ 0x33 →
      (fwMay s p x.2.2 = false → Runs x.1 s fun t => Answered t p i fsDenied 0 ∧ SlotOnly s t p i) ∧
      (fwMay s p x.2.2 = true → 240 < slotLen s p i → Runs x.1 s fun t => Answered t p i fsFormat 0 ∧ SlotOnly s t p i)))) ∧
  (∀ (s : State) (p : Fin 4096) (i : Fin 16) (d : List Byte) (c : Byte), s.wf = true →
    ∀ x ∈ [(Instr.getInfo p i, 1, FwWho.any, 0, 24), (.getHealth p i d, 2, .any, 0, min d.length 240), (.eventWait p i (some c), 3, .any, c.toNat, 0),
      (.windowList p i d, 0x11, .any, 0, min d.length 240), (.fwBegin p i, 0x30, .manager, 0, 0), (.logRead p i, 0x50, .pf0, 0, 240)],
    (FwTakes s p i x.2.1 x.2.2.1 → Runs x.1 s fun t => Answered t p i fsOk x.2.2.2.1 ∧ slotLen t p i = x.2.2.2.2 ∧ SlotOnly s t p i)) ∧
  (∀ (s : State) (p : Fin 4096) (i : Fin 16) (pl : List Byte), s.wf = true → FwTakes s p i 2 .any →
    Runs (.getHealth p i pl) s fun t => memRead t (slotAddr p i + 16) (min pl.length 240) = pl.take 240) ∧
  (∀ (s : State) (p : Fin 4096) (i : Fin 16) (pl : List Byte), s.wf = true → FwTakes s p i 0x11 .any →
    Runs (.windowList p i pl) s fun t => memRead t (slotAddr p i + 16) (min pl.length 240) = pl.take 240) ∧
  (∀ (s : State) (p : Fin 4096) (i : Fin 16), FwTakes s p i 3 .any →
    Runs (.eventWait p i none) s fun t => fwJob t p i = true ∧ t = { s with fw := { s.fw with jobs := mput s.fw.jobs (p.val * 16 + i.val) 3 } }) ∧
  (∀ (s : State) (p : Fin 4096) (i : Fin 16) (w : Fin 64) (y : Bool), s.wf = true → FwTakes s p i 0x10 .any →
    (slotLen s p i < 64 → Runs (.windowRequest p i w y) s fun t => Answered t p i fsFormat 0 ∧ SlotOnly s t p i) ∧
    (64 ≤ slotLen s p i → Runs (.windowRequest p i w false) s fun t => Answered t p i fsDenied 0 ∧ SlotOnly s t p i)) ∧
  (∀ (s : State) (p : Fin 4096) (i : Fin 16) (w : Fin 64), s.wf = true → FwTakes s p i 0x10 .any → 64 ≤ slotLen s p i → fwJob s p i = false →
    fwOther s (quadrantOf p) 0x10 = false → bitF s (F.GRF_WIN_STATUS_BUSY (quadrantOf p)) = false →
    Runs (.windowRequest p i w true) s fun t =>
      FwIssued t (winCmd (stagePayload (fwJobPut s p i 0x10) p i) (quadrantOf p) .gardener false w (indexOf p)) p i (F.GRF_WIN_STATUS_BUSY (quadrantOf p))
        (F.GRF_WIN_STATUS_RESULT (quadrantOf p))) ∧
  (∀ (s : State) (p : Fin 4096) (i op : Fin 16) (n : Fin 1024), s.wf = true → FwTakes s p i 0x20 .pf0 → fwJob s p i = false → fwOther s (quadrantOf p) 0x20 = false →
    bitF s (F.PLT_CMD_STATUS_BUSY (quadrantOf p)) = false → op.val = 1 ∨ op.val = 3 ∨ op.val = 4 →
    Runs (.plotCmd p i op n) s fun t =>
      FwIssued t (pltCmd (fwJobPut s p i 0x20) (quadrantOf p) .gardener op n fun u x =>
        if op.val = 1 then loadStart u x .command else if op.val = 3 then clocheStart u x false false
        else if plotState u x = psLoading then pltResult (loadFail u x 5) (quadrantOf p) 0 else clocheStart u x false true)
        p i (F.PLT_CMD_STATUS_BUSY (quadrantOf p)) (F.PLT_CMD_STATUS_RESULT (quadrantOf p))) ∧
  (∀ (s : State) (p : Fin 4096) (i op : Fin 16) (n : Fin 1024), s.wf = true → FwTakes s p i 0x20 .pf0 → op.val ≠ 1 → op.val ≠ 3 → op.val ≠ 4 →
    Runs (.plotCmd p i op n) s fun t => Answered t p i fsFormat 0 ∧ SlotOnly s t p i) ∧
  (∀ (s : State) (p : Fin 4096) (i : Fin 16) (b : Fin 2), FwTakes s p i 0x41 .manager → fwJob s p i = false → bitF s F.ROOT_RESULT_BUSY = false →
    Runs (.bedCommit p i b) s fun t =>
      FwIssued t (rootCmd (fwJobPut s p i 0x41) .gardener fun u => rootCommitTry u (b.val + 1)) p i F.ROOT_RESULT_BUSY F.ROOT_RESULT_CRESULT) ∧
  (∀ (s : State) (p : Fin 4096) (i : Fin 16), FwTakes s p i 0x42 .manager → fwJob s p i = false → bitF s F.ROOT_RESULT_BUSY = false →
    Runs (.bedRevert p i) s fun t => FwIssued t (rootCmd (fwJobPut s p i 0x42) .gardener rootRevert) p i F.ROOT_RESULT_BUSY F.ROOT_RESULT_CRESULT) ∧
  (∀ (s : State) (p : Fin 4096) (i op : Fin 16) (w : Fin 64) (n : Fin 1024) (b : Fin 2),
    (FwTakes s p i 0x10 .any → 64 ≤ slotLen s p i → bitF s (F.GRF_WIN_STATUS_BUSY (quadrantOf p)) = true ∨ (fwJob s p i = false ∧ fwOther s (quadrantOf p) 0x10 = true) →
      Leaves (.windowRequest p i w true) s) ∧
    (FwTakes s p i 0x20 .pf0 → op.val = 1 ∨ op.val = 3 ∨ op.val = 4 →
      bitF s (F.PLT_CMD_STATUS_BUSY (quadrantOf p)) = true ∨ (fwJob s p i = false ∧ fwOther s (quadrantOf p) 0x20 = true) → Leaves (.plotCmd p i op n) s) ∧
    (FwTakes s p i 0x41 .manager → bitF s F.ROOT_RESULT_BUSY = true → Leaves (.bedCommit p i b) s) ∧
    (FwTakes s p i 0x42 .manager → bitF s F.ROOT_RESULT_BUSY = true → Leaves (.bedRevert p i) s)) ∧
  (∀ (s : State) (p : Fin 4096) (i op : Fin 16) (w : Fin 64) (n : Fin 1024) (b : Fin 2), s.wf = true → fwJob s p i = true →
    ∀ x ∈ [(Instr.windowRequest p i w true, 0x10, FwWho.any, F.GRF_WIN_STATUS_BUSY (quadrantOf p), F.GRF_WIN_STATUS_RESULT (quadrantOf p)),
      (.plotCmd p i op n, 0x20, .pf0, F.PLT_CMD_STATUS_BUSY (quadrantOf p), F.PLT_CMD_STATUS_RESULT (quadrantOf p)),
      (.bedCommit p i b, 0x41, .manager, F.ROOT_RESULT_BUSY, F.ROOT_RESULT_CRESULT), (.bedRevert p i, 0x42, .manager, F.ROOT_RESULT_BUSY, F.ROOT_RESULT_CRESULT)],
    (FwTakes s p i x.2.1 x.2.2.1 → (x.2.1 = 0x10 → 64 ≤ slotLen s p i) → (x.2.1 = 0x20 → op.val = 1 ∨ op.val = 3 ∨ op.val = 4) → bitF s x.2.2.2.1 = false →
      getF s x.2.2.2.2 < 256 →
      Runs x.1 s fun t => Answered t p i (if getF s x.2.2.2.2 = 0 then fsOk else fsFailed) (getF s x.2.2.2.2) ∧ SlotOnly s t p i)) ∧
  (∀ (s : State) (p : Fin 4096) (i : Fin 16), s.wf = true → FwTakes s p i 0x30 .manager →
    Runs (.fwBegin p i) s fun t => t.fw.writing = some (1 - getF s F.GDN_BOOT_SLOT)) ∧
  (∀ (s : State) (p : Fin 4096) (i : Fin 16) (off : BitVec 22) (d : List Byte), s.wf = true → FwTakes s p i 0x31 .manager →
    (∀ x ∈ s.fw.writing, d.length ≤ 224 → off.toNat + d.length ≤ 0x400000 →
      Runs (.fwData p i off d) s fun t => Answered t p i fsOk 0 ∧ t.out = .image x off.toNat d :: s.out ∧ SlotOnly s t p i) ∧
    (s.fw.writing.isSome = true → 224 < d.length ∨ 0x400000 < off.toNat + d.length →
      Runs (.fwData p i off d) s fun t => Answered t p i fsFormat 0 ∧ t.out = s.out ∧ SlotOnly s t p i) ∧
    (s.fw.writing = none → Runs (.fwData p i off d) s fun t => Answered t p i fsFailed 0 ∧ t.out = s.out ∧ SlotOnly s t p i)) ∧
  (∀ (s : State) (p : Fin 4096) (i : Fin 16) (im : Image), s.wf = true → FwTakes s p i 0x32 .manager →
    Runs (.fwEnd p i im) s fun t => Answered t p i (if s.fw.writing.isSome && imageOk s im then fsOk else fsFailed) 0 ∧ t.fw.writing = none ∧ SlotOnly s t p i) ∧
  (∀ (s : State) (p : Fin 4096) (i : Fin 16), s.wf = true → FwTakes s p i 0x33 .manager →
    Runs (.fwActivate p i) s fun t => Answered t p i fsOk 0 ∧
      (s.root.queue = [] → t.fw = {} ∧ getF t F.GDN_BOOT_RESULT = 0 ∧ bitF t F.HDG_STATUS_WDOG_RUN = false) ∧
      (s.root.queue ≠ [] → t.root.held = s.root.held ++ [.gardener] ∧ getF t F.GDN_BOOT_RESULT = 1)) ∧
  (∀ (s : State) (p : Fin 4096) (i : Fin 16) (ws : List (Fin 3072 × Word)), s.wf = true → FwTakes s p i 0x40 .manager → fwJob s p i = false →
    Runs (.bedStage p i ws) s fun t =>
      ((bedWrites s p i ws).root.queue ≠ [] → t = bedWrites s p i ws) ∧
      ((bedWrites s p i ws).root.queue = [] →
        Answered t p i (if bedStaged (bedWrites s p i ws) (if bedNow s = 0 then 1 else otherBed (bedNow s)) ws then fsOk else fsFailed) 0)) ∧
  (∀ (s : State) (p : Fin 4096) (i : Fin 16) (ws : List (Fin 3072 × Word)), s.wf = true → FwTakes s p i 0x40 .manager → fwJob s p i = true →
    (s.root.queue = [] → Runs (.bedStage p i ws) s fun t =>
      Answered t p i (if bedStaged s (if bedNow s = 0 then 1 else otherBed (bedNow s)) ws then fsOk else fsFailed) 0 ∧ SlotOnly s t p i) ∧
    (s.root.queue ≠ [] → Leaves (.bedStage p i ws) s))

/-! ### Hedge (chapter 15) -/

/-- R401, R402, R403, R404, R405, R406, R407, R408, R409, R414. A key exchange in slot 1 with mutual authentication, a manager's key and a good signature opens the session, and one without is only answered; a valid secured message keeps it, or ends it; 60 s without one end it. A command of the session is applied whole and answered, or
answered with an error and has no effect: the fence list of a plot, the side-effect ranges of a node, caps, the tag, the management plot, the Tendril allowance, which lowers pins beyond it, and what HEDGE_READ shows. GO while BUSY is ignored, and so is a command with no session. -/
def Obligations.HedgeSessionCommands : Prop :=
  (∀ (s : State) (who : Party) (hash : List Word) (ans : List Byte), s.wf = true → spdmOpen s who = true → keyMatches s 6184 hash = true ∨ keyMatches s 6190 hash = true →
    Runs (.hedgeKeyExchange who 1 true hash true ans) s fun t =>
      bitF t F.HDG_STATUS_SESSION = true ∧ t.hdg = { s.hdg with sess := s.ticks } ∧ getF t F.HDG_SPDM_CTRL_LEN = min ans.length 4096 ∧
      HedgeOnly s t [F.HDG_STATUS_SESSION]) ∧
  (∀ (s : State) (who : Party) (slot : Byte) (both ver : Bool) (hash : List Word) (ans : List Byte), s.wf = true → spdmOpen s who = true →
    slot ≠ 1 ∨ both = false ∨ ver = false ∨ (keyMatches s 6184 hash = false ∧ keyMatches s 6190 hash = false) →
    Runs (.hedgeKeyExchange who slot both hash ver ans) s fun t => HedgeOnly s t [] ∧ t.hdg = s.hdg ∧ getF t F.HDG_SPDM_CTRL_LEN = min ans.length 4096) ∧
  (∀ (s : State) (who : Party) (ends : Bool) (ans : List Byte), s.wf = true → SessionOpen s who →
    Runs (.hedgeSpdmMessage who true ends ans) s fun t =>
      bitF t F.HDG_STATUS_SESSION = !ends ∧ t.hdg = { s.hdg with sess := if ends then s.hdg.sess else s.ticks } ∧
      getF t F.HDG_SPDM_CTRL_LEN = min ans.length 4096 ∧ (∀ k < min ans.length 4096, memByte t (spdmBuf + k) = (ans[k]?).getD 0) ∧
      HedgeOnly s t [F.HDG_STATUS_SESSION]) ∧
  (∀ (s : State) (who : Party) (sec ends : Bool) (ans : List Byte), s.wf = true → spdmOpen s who = true → sec = false ∨ bitF s F.HDG_STATUS_SESSION = false →
    Runs (.hedgeSpdmMessage who sec ends ans) s fun t =>
      HedgeOnly s t [] ∧ t.hdg = s.hdg ∧ getF t F.HDG_SPDM_CTRL_LEN = min ans.length 4096 ∧ ∀ k < min ans.length 4096, memByte t (spdmBuf + k) = (ans[k]?).getD 0) ∧
  (∀ (s : State) (who : Party) (p : Fin 4096) (f : Option (Fin 8)) (m : Option (Fin 4096)) (n : BitVec 20) (tag x y : BitVec 16) (a : BitVec 48) (e : Slot)
      (es : List Slot) (ans : List Byte), spdmOpen s who = false ∨ bitF s F.HDG_STATUS_SESSION = false →
    ∀ i ∈ [Instr.fenceSet who p es ans, .sideSet who n es ans, .capSet who p f e ans, .tagSet who p tag ans, .mgmtPlotSet who m ans, .tendrilSet who a ans,
      .powerSet who x ans, .wdogSet who x y ans, .forceSafe who ans, .safeRelease who ans, .hedgeRead who p n ans], Leaves i s) ∧
  (∀ (s : State) (who : Party) (slot : Byte) (b c : Bool) (hash : List Word) (ans : List Byte), spdmOpen s who = false →
    Leaves (.hedgeKeyExchange who slot b hash c ans) s ∧ Leaves (.hedgeSpdmMessage who b c ans) s) ∧
  (∀ s : State, bitF s F.HDG_STATUS_SESSION = true → s.hdg.sess + 60000000 ≤ s.ticks → Runs .hedgeSessionExpire s fun t => t = setF s F.HDG_STATUS_SESSION 0) ∧
  (∀ s : State, bitF s F.HDG_STATUS_SESSION = false ∨ s.ticks < s.hdg.sess + 60000000 → Leaves .hedgeSessionExpire s) ∧
  (∀ (s : State) (who : Party) (p : Fin 4096) (es : List Slot) (ans : List Byte), s.wf = true → mwf s.hdg.fence = true → SessionOpen s who → es.length ≤ 256 →
    (∀ e ∈ es, fenceMalformed e false = false) → poolUsed s.hdg.fence - (mget s.hdg.fence p []).length + es.length ≤ 8192 →
    Runs (.fenceSet who p es ans) s fun t =>
      HedgeAnswers s t ans hcOk ∧ mget t.hdg.fence p [] = es.map parseFence ∧ (∀ n, n ≠ p.val → mget t.hdg.fence n [] = mget s.hdg.fence n []) ∧
      getF t F.HDG_STATUS_FENCE_USED = poolUsed t.hdg.fence % 2 ^ 14 ∧ getF t F.HDG_STATUS_GEN = (getF s F.HDG_STATUS_GEN + 1) % 2 ^ 16 ∧
      bitF t F.HDG_EVENT_LIST_CHANGE = true ∧ LinesMarked t p ∧ HedgeOnly s { t with quads := s.quads } [F.HDG_STATUS_FENCE_USED, F.HDG_STATUS_GEN, F.HDG_EVENT_LIST_CHANGE]) ∧
  (∀ (s : State) (who : Party) (p : Fin 4096) (es : List Slot) (ans : List Byte), s.wf = true → SessionOpen s who → 256 < es.length ∨ (∃ e ∈ es, fenceMalformed e false = true) →
    Runs (.fenceSet who p es ans) s fun t => HedgeAnswers s t ans hcFormat ∧ t.hdg = { s.hdg with sess := s.ticks } ∧ HedgeOnly s t []) ∧
  (∀ (s : State) (who : Party) (p : Fin 4096) (es : List Slot) (ans : List Byte), s.wf = true → SessionOpen s who → es.length ≤ 256 →
    (∀ e ∈ es, fenceMalformed e false = false) → 8192 < poolUsed s.hdg.fence - (mget s.hdg.fence p []).length + es.length →
    Runs (.fenceSet who p es ans) s fun t => HedgeAnswers s t ans hcFull ∧ t.hdg = { s.hdg with sess := s.ticks } ∧ HedgeOnly s t []) ∧
  (∀ (s : State) (who : Party) (n : BitVec 20) (es : List Slot) (ans : List Byte), s.wf = true → mwf s.hdg.side = true → SessionOpen s who → es.length ≤ 64 →
    (∀ e ∈ es, fenceMalformed e true = false ∧ (parseFence e).node = n.toNat) → poolUsed s.hdg.side - (mget s.hdg.side n.toNat []).length + es.length ≤ 1024 →
    Runs (.sideSet who n es ans) s fun t =>
      HedgeAnswers s t ans hcOk ∧ mget t.hdg.side n.toNat [] = es.map parseFence ∧ (∀ m, m ≠ n.toNat → mget t.hdg.side m [] = mget s.hdg.side m []) ∧
      getF t F.HDG_STATUS_SIDE_USED = poolUsed t.hdg.side % 2 ^ 11 ∧ getF t F.HDG_STATUS_GEN = (getF s F.HDG_STATUS_GEN + 1) % 2 ^ 16 ∧
      bitF t F.HDG_EVENT_LIST_CHANGE = true ∧
      ∀ q < 4, ∀ e ∈ (quadOf t q).pf, e.node = n.toNat → meetsSide t n.toNat e.addr (e.addr + e.len - 1) = false) ∧
  (∀ (s : State) (who : Party) (n : BitVec 20) (es : List Slot) (ans : List Byte), s.wf = true → SessionOpen s who →
    64 < es.length ∨ (∃ e ∈ es, fenceMalformed e true = true ∨ (parseFence e).node ≠ n.toNat) →
    Runs (.sideSet who n es ans) s fun t => HedgeAnswers s t ans hcFormat ∧ t.hdg = { s.hdg with sess := s.ticks } ∧ HedgeOnly s t []) ∧
  (∀ (s : State) (who : Party) (n : BitVec 20) (es : List Slot) (ans : List Byte), s.wf = true → SessionOpen s who → es.length ≤ 64 →
    (∀ e ∈ es, fenceMalformed e true = false ∧ (parseFence e).node = n.toNat) → 1024 < poolUsed s.hdg.side - (mget s.hdg.side n.toNat []).length + es.length →
    Runs (.sideSet who n es ans) s fun t => HedgeAnswers s t ans hcFull ∧ t.hdg = { s.hdg with sess := s.ticks } ∧ HedgeOnly s t []) ∧
  (∀ (s : State) (who : Party) (p : Fin 4096) (f : Option (Fin 8)) (e : Slot) (ans : List Byte), s.wf = true → mwf s.hdg.plotCap = true → mwf s.hdg.portCap = true →
    SessionOpen s who → capMalformed e.toNat = false → (f.isSome = true → capMalformed (e.toNat / 2 ^ 64) = false) →
    Runs (.capSet who p f e ans) s fun t =>
      HedgeAnswers s t ans hcOk ∧ mget t.hdg.plotCap p none = capTo (mget s.hdg.plotCap p none) e.toNat ∧
      (∀ n, n ≠ p.val → mget t.hdg.plotCap n none = mget s.hdg.plotCap n none) ∧
      (∀ n < 8, mget t.hdg.portCap n none = if f.map (fun x => x.val) = some n then capTo (mget s.hdg.portCap n none) (e.toNat / 2 ^ 64) else mget s.hdg.portCap n none) ∧
      t.hdg = { s.hdg with sess := s.ticks, plotCap := t.hdg.plotCap, portCap := t.hdg.portCap } ∧ HedgeOnly s t []) ∧
  (∀ (s : State) (who : Party) (p : Fin 4096) (f : Option (Fin 8)) (e : Slot) (ans : List Byte), s.wf = true → SessionOpen s who →
    capMalformed e.toNat = true ∨ (f.isSome = true ∧ capMalformed (e.toNat / 2 ^ 64) = true) →
    Runs (.capSet who p f e ans) s fun t => HedgeAnswers s t ans hcFormat ∧ t.hdg = { s.hdg with sess := s.ticks } ∧ HedgeOnly s t []) ∧
  (∀ (s : State) (who : Party) (p : Fin 4096) (tag : BitVec 16) (ans : List Byte), s.wf = true → mwf s.hdg.tags = true → SessionOpen s who →
    Runs (.tagSet who p tag ans) s fun t =>
      (tag ≠ 0xFFFF → HedgeAnswers s t ans hcOk ∧ mget t.hdg.tags p none = some tag.toNat ∧ ∀ n, n ≠ p.val → mget t.hdg.tags n none = mget s.hdg.tags n none) ∧
      (tag = 0xFFFF → HedgeAnswers s t ans hcFormat ∧ t.hdg.tags = s.hdg.tags) ∧ t.hdg = { s.hdg with sess := s.ticks, tags := t.hdg.tags } ∧ HedgeOnly s t []) ∧
  (∀ (s : State) (who : Party) (p : Option (Fin 4096)) (ans : List Byte), s.wf = true → SessionOpen s who →
    Runs (.mgmtPlotSet who p ans) s fun t =>
      HedgeAnswers s t ans hcOk ∧ t.hdg = { s.hdg with sess := s.ticks, mgmtPlot := p.map fun x => x.val } ∧ HedgeOnly s t []) ∧
  (∀ (s : State) (who : Party) (a : BitVec 48) (ans : List Byte), s.wf = true → SessionOpen s who →
    Runs (.tendrilSet who a ans) s fun t =>
      HedgeAnswers s t ans hcOk ∧ t.hdg = { s.hdg with sess := s.ticks, allow := a.toNat } ∧
      (∀ n < 24, if bits a.toNat (2 * n) 2 < roleNeeds (getF s (F.GDN_TND_CFG_ROLE n)) then getF t (F.GDN_TND_CFG_ROLE n) = 0 ∧ getF t (F.GDN_TND_CFG_PULL n) = 0
        else getF t (F.GDN_TND_CFG_ROLE n) = getF s (F.GDN_TND_CFG_ROLE n) ∧ getF t (F.GDN_TND_CFG_PULL n) = getF s (F.GDN_TND_CFG_PULL n)) ∧
      HedgeOnly s t ((List.range 24).flatMap fun n => [F.GDN_TND_CFG_ROLE n, F.GDN_TND_CFG_PULL n])) ∧
  (∀ (s : State) (who : Party) (cap : BitVec 16) (ans : List Byte), s.wf = true → SessionOpen s who →
    Runs (.powerSet who cap ans) s fun t =>
      (100 ≤ cap.toNat → cap.toNat ≤ 1980 → HedgeAnswers s t ans hcOk ∧ getF t F.HDG_POWER_CAP = cap.toNat) ∧
      (cap.toNat < 100 ∨ 1980 < cap.toNat → HedgeAnswers s t ans hcFormat ∧ getF t F.HDG_POWER_CAP = getF s F.HDG_POWER_CAP) ∧ HedgeOnly s t [F.HDG_POWER_CAP]) ∧
  (∀ (s : State) (who : Party) (lo hi : BitVec 16) (ans : List Byte), s.wf = true → SessionOpen s who →
    Runs (.wdogSet who lo hi ans) s fun t =>
      (4 ≤ lo.toNat → lo.toNat ≤ hi.toNat → HedgeAnswers s t ans hcOk ∧ getF t F.HDG_WDOG_MIN = lo.toNat ∧ getF t F.HDG_WDOG_MAX = hi.toNat) ∧
      (lo.toNat < 4 ∨ hi.toNat < lo.toNat → HedgeAnswers s t ans hcFormat ∧ getF t F.HDG_WDOG_MIN = getF s F.HDG_WDOG_MIN ∧ getF t F.HDG_WDOG_MAX = getF s F.HDG_WDOG_MAX) ∧
      HedgeOnly s t [F.HDG_WDOG_MIN, F.HDG_WDOG_MAX]) ∧
  (∀ (s : State) (who : Party) (p : Fin 4096) (n : BitVec 20) (ans : List Byte), s.wf = true → SessionOpen s who →
    Runs (.hedgeRead who p n ans) s fun t =>
      HedgeAnswers s t ans hcOk ∧ t.hdg = { s.hdg with sess := s.ticks } ∧ HedgeOnly s t [] ∧
      .hedgeLists (mget s.hdg.fence p []) (mget s.hdg.side n.toNat []) (mget s.hdg.plotCap p none) (mget s.hdg.portCap (n.toNat % 8) none) (tenantOf s p) ∈ t.out)

/-- R411, R412, R413, R414, R454, R467. FORCE_SAFE, a watchdog that runs out, 10 ms above the cap at the highest throttle and the sixteenth strike within a second trip the device into Safe with their cause, the first cause standing; while the release order runs the trip is recorded. SAFE_RELEASE of a reloaded device takes it to Boot, or
leaves it cooling after a thermal trip while it is hot; else it is answered STATE. The estimate moves THROTTLE by one against the cap in effect. A kick with the token starts the period anew under another token, and another sets KICK_BAD; EARLY comes at half the period. A struck fence entry marks its plot's lines, and a struck side-effect
entry stands for the whole space of its node. What comes before its time does nothing. -/
def Obligations.HedgeGuardsAndTrips : Prop :=
  (∀ (s : State) (who : Party) (ans : List Byte), s.wf = true → SessionOpen s who → s.ctl.step = 11 → pwmMode s ≠ moDoze →
    Runs (.forceSafe who ans) s fun t => HedgeAnswers s t ans hcOk ∧ Trips s t tcCommand) ∧
  (∀ (s : State) (who : Party) (ans : List Byte), s.wf = true → SessionOpen s who → s.ctl.step ≠ 11 →
    Runs (.forceSafe who ans) s fun t =>
      HedgeAnswers s t ans hcOk ∧ HedgeOnly s { t with ctl := s.ctl } [] ∧ t.ctl = { s.ctl with trip := some (s.ctl.trip.getD tcCommand) } ∧ pwmMode t = pwmMode s) ∧
  (∀ (s : State) (who : Party) (ans : List Byte), s.wf = true → SessionOpen s who → pwmMode s = moSafe → bitF s F.HDG_STATUS_RELOADED = true →
    s.ctl.hotTrip = false ∨ getF s F.PWM_STATUS_TJ_MAX < 135 + 64 →
    Runs (.safeRelease who ans) s fun t =>
      HedgeAnswers s t ans hcOk ∧ pwmMode t = moBoot ∧ bitF t F.HDG_STATUS_SAFE = false ∧ bitF t F.HDG_STATUS_RELOADED = false ∧ getF t F.HDG_STATUS_CAUSE = 0 ∧
      t.ctl.cooling = false ∧ t.ctl.hotTrip = false ∧ (s.root.queue = [] → getF t F.GDN_BOOT_RESULT = 0 ∧ t.fw = {}) ∧
      (s.root.queue ≠ [] → t.root.held = s.root.held ++ [.gardener])) ∧
  (∀ (s : State) (who : Party) (ans : List Byte), s.wf = true → SessionOpen s who → pwmMode s = moSafe → bitF s F.HDG_STATUS_RELOADED = true →
    s.ctl.hotTrip = true → 135 + 64 ≤ getF s F.PWM_STATUS_TJ_MAX →
    Runs (.safeRelease who ans) s fun t => HedgeAnswers s t ans hcOk ∧ HedgeOnly s { t with ctl := s.ctl } [] ∧ t.ctl = { s.ctl with cooling := true }) ∧
  (∀ (s : State) (who : Party) (ans : List Byte), s.wf = true → SessionOpen s who → pwmMode s ≠ moSafe ∨ bitF s F.HDG_STATUS_RELOADED = false →
    Runs (.safeRelease who ans) s fun t => HedgeAnswers s t ans hcState ∧ HedgeOnly s t [] ∧ t.hdg = { s.hdg with sess := s.ticks }) ∧
  (∀ (s : State) (m : BitVec 16) (eff : Nat),
    eff = (if getF s F.HDG_POWER_SOFT_CAP = 0 then getF s F.HDG_POWER_CAP else min (getF s F.HDG_POWER_CAP) (getF s F.HDG_POWER_SOFT_CAP)) →
    Runs (.powerEstimateTick m) s fun t =>
      getF t F.HDG_POWER_MEASURED = m.toNat ∧ FieldsBut s t [F.HDG_POWER_MEASURED, F.HDG_POWER_THROTTLE] ∧ t = { s with cells := t.cells, hdg := t.hdg } ∧
      t.hdg = { s.hdg with capOver := if getF s F.HDG_POWER_CAP < m.toNat ∧ getF s F.HDG_POWER_THROTTLE = 8 then s.hdg.capOver + 1 else 0 } ∧
      (eff < m.toNat → getF t F.HDG_POWER_THROTTLE = min (getF s F.HDG_POWER_THROTTLE + 1) 8) ∧
      (m.toNat ≤ eff → 95 * eff ≤ 100 * m.toNat → getF t F.HDG_POWER_THROTTLE = getF s F.HDG_POWER_THROTTLE) ∧
      (100 * m.toNat < 95 * eff → getF t F.HDG_POWER_THROTTLE = getF s F.HDG_POWER_THROTTLE - 1)) ∧
  (∀ s : State, 100 ≤ s.hdg.capOver → s.ctl.step = 11 → pwmMode s ≠ moDoze → Runs .powerCapTrip s fun t => Trips s t tcPower ∧ t.hdg.capOver = 0) ∧
  (∀ s : State, s.hdg.capOver < 100 → Leaves .powerCapTrip s) ∧
  (∀ (s : State) (who : Party) (k : BitVec 16), partyOpen s who = true →
    Runs (.watchdogKick who k) s fun t =>
      (k.toNat = getF s F.HDG_WDOG_TOKEN → getF t F.HDG_WDOG_TOKEN ≠ k.toNat ∧ t.hdg = { s.hdg with kickAt := s.ticks, period := getF s F.HDG_WDOG_PERIOD, warned := false } ∧
        t = { s with cells := t.cells, hdg := t.hdg, free := t.free } ∧ FieldsBut s t [F.HDG_WDOG_TOKEN]) ∧
      (k.toNat ≠ getF s F.HDG_WDOG_TOKEN → bitF t F.HDG_EVENT_KICK_BAD = true ∧ OnlyCells s t ∧ FieldsBut s t [F.HDG_EVENT_KICK_BAD, F.EVG_PEND_PEND 19])) ∧
  (∀ (s : State) (who : Party) (k : BitVec 16), partyOpen s who = false → Leaves (.watchdogKick who k) s) ∧
  (∀ s : State, bitF s F.HDG_STATUS_WDOG_RUN = true → s.hdg.warned = false → s.hdg.kickAt + 500 * s.hdg.period ≤ s.ticks →
    Runs .watchdogEarly s fun t =>
      bitF t F.HDG_EVENT_EARLY = true ∧ Pending t 1273 ∧ t = { s with cells := t.cells, hdg := { s.hdg with warned := true } } ∧
      FieldsBut s t [F.HDG_EVENT_EARLY, F.EVG_PEND_PEND 19]) ∧
  (∀ s : State, bitF s F.HDG_STATUS_WDOG_RUN = false ∨ s.hdg.warned = true ∨ s.ticks < s.hdg.kickAt + 500 * s.hdg.period → Leaves .watchdogEarly s) ∧
  (∀ s : State, bitF s F.HDG_STATUS_WDOG_RUN = true → s.hdg.kickAt + 1000 * s.hdg.period ≤ s.ticks → s.ctl.step = 11 → pwmMode s ≠ moDoze →
    Runs .watchdogExpire s fun t => Trips s t tcWatchdog) ∧
  (∀ s : State, bitF s F.HDG_STATUS_WDOG_RUN = false ∨ s.ticks < s.hdg.kickAt + 1000 * s.hdg.period → Leaves .watchdogExpire s) ∧
  (∀ (s : State) (k : BitVec 20) (i : Fin 256) (es : List FenceEnt), s.wf = true → mwf s.hdg.side = true → mfind s.hdg.side k.toNat = some es → i.val < es.length →
    Runs (.hedgeEccError true k i) s fun t =>
      mfind t.hdg.side k.toNat = some (strike es i) ∧ t.hdg = { s.hdg with side := t.hdg.side } ∧ (∀ a b, meetsSide t k.toNat a b = true) ∧
      (∀ m, m ≠ k.toNat → mget t.hdg.side m [] = mget s.hdg.side m []) ∧ ∀ q < 4, ∀ e ∈ (quadOf t q).pf, e.node ≠ k.toNat) ∧
  (∀ (s : State) (k : BitVec 20) (i : Fin 256) (es : List FenceEnt), s.wf = true → mfind s.hdg.fence k.toNat = some es → i.val < es.length →
    (s.hdg.strikes.filter fun a => decide (s.ticks < a + 1000000)).length < 15 →
    Runs (.hedgeEccError false k i) s fun t =>
      mfind t.hdg.fence k.toNat = some (strike es i) ∧ t.hdg.strikes = s.ticks :: s.hdg.strikes.filter (fun a => decide (s.ticks < a + 1000000)) ∧
      LinesMarked t k.toNat ∧ t = { s with hdg := t.hdg, quads := t.quads }) ∧
  (∀ (s : State) (k : BitVec 20) (i : Fin 256) (es : List FenceEnt), s.wf = true → mfind s.hdg.fence k.toNat = some es → i.val < es.length →
    15 ≤ (s.hdg.strikes.filter fun a => decide (s.ticks < a + 1000000)).length → s.ctl.step = 11 → pwmMode s ≠ moDoze →
    Runs (.hedgeEccError false k i) s fun t => mfind t.hdg.fence k.toNat = some (strike es i) ∧ LinesMarked t k.toNat ∧ Trips s t tcIntegrity) ∧
  (∀ (s : State) (side : Bool) (k : BitVec 20) (i : Fin 256), (if side then mfind s.hdg.side k.toNat = none else (mfind s.hdg.fence k.toNat).all (fun es => decide (es.length ≤ i.val)) = true) →
    Leaves (.hedgeEccError side k i) s) ∧
  (∀ (s : State) (who : Party) (ans : List Byte), s.wf = true → SessionOpen s who → s.ctl.step = 11 → pwmMode s = moDoze → s.ctl.waking = false →
    Runs (.forceSafe who ans) s fun t =>
      HedgeAnswers s t ans hcOk ∧ t.ctl.trip = some (s.ctl.trip.getD tcCommand) ∧ t.ctl.waking = true ∧ pwmMode t = moDoze ∧ getF t F.PWM_STATUS_WAKE_SRC = 8)

/-! ### Modes (chapter 18) -/

/-- R453, R454, R456, R457, R458, R459, R460, R461, R462, R465, R466, R467. SERVE takes a Boot that is not provisioning to Serve, ends PROVISION in one that is, OK in Serve and STATE in Safe, and wakes Doze; DOZE asks every Active port for Hush and ends in Doze once all are in Hush or Off, or is abandoned; a wake from Doze ends in Serve when the PLL locks.
DORMANT with every port idle drops the rails. A command in another mode or without its conditions ends with its RESULT and changes nothing else. The wake timer raises the rails from Dormant and wakes Doze. A quadrant without work stops its clocks, which run again when it has some. The oscillator, the rails and AVS report as they are; a sample of the
sensors shows the hottest, moves the thermal step by at most one, takes a cooled device from Safe to Boot after a release, and at 150 °C trips the device into Safe with the Calfos ports Off. -/
def Obligations.ModesAndWakes : Prop :=
  (∀ (s : State) (who : Party), partyOpen s who = true → bitF s F.PWM_CMD_STATUS_BUSY = false → pwmMode s = moBoot → bitF s F.ROOT_STATUS_PROVISION = false →
    bitF s F.ROOT_STATUS_READY = true →
    Runs (.modeServe who) s fun t => pwmMode t = moServe ∧ getF t F.PWM_STATUS_LAST_MODE = moBoot ∧ getF t F.PWM_CMD_STATUS_RESULT = 0 ∧ bitF t F.PWM_CMD_STATUS_BUSY = false ∧
      t.started = true ∧ bitF t F.PWM_EVENT_MODE = true ∧ t.root.served = true) ∧
  (∀ (s : State) (who : Party), partyOpen s who = true → bitF s F.PWM_CMD_STATUS_BUSY = true → ∀ i ∈ [Instr.modeServe who, .modeDoze who, .modeDormant who],
    Runs i s fun t => t = setF s F.PWM_CMD_STATUS_OVERRUN 1) ∧
  (∀ (s : State) (who : Party), partyOpen s who = false → ∀ i ∈ [Instr.modeServe who, .modeDoze who, .modeDormant who], Leaves i s) ∧
  (∀ (s : State) (who : Party), partyOpen s who = true → bitF s F.PWM_CMD_STATUS_BUSY = false → pwmMode s ≠ moDoze →
    (pwmMode s = moBoot → bitF s F.ROOT_STATUS_PROVISION = true ∨ bitF s F.ROOT_STATUS_READY = false) →
    Runs (.modeServe who) s fun t =>
      getF t F.PWM_CMD_STATUS_RESULT = (if pwmMode s = moBoot ∧ bitF s F.ROOT_STATUS_PROVISION = true then 2 else if pwmMode s = moServe then 0 else 1) ∧ pwmMode t = pwmMode s ∧
      bitF t F.PWM_CMD_STATUS_BUSY = false ∧ OnlyCells s t ∧ FieldsBut s t [F.PWM_CMD_STATUS_OP, F.PWM_CMD_STATUS_BUSY, F.PWM_CMD_STATUS_RESULT]) ∧
  (∀ (s : State) (who : Party), s.wf = true → partyOpen s who = true → bitF s F.PWM_CMD_STATUS_BUSY = false → pwmMode s = moDoze → s.ctl.waking = false →
    Runs (.modeServe who) s fun t =>
      getF t F.PWM_CMD_STATUS_RESULT = 0 ∧ getF t F.PWM_STATUS_WAKE_SRC = 7 ∧ t.ctl = { s.ctl with waking := true } ∧ pwmMode t = moDoze ∧
      ∀ f < 8, cfpState s f = cfpHush → (linkOf t f).exiting = true) ∧
  (∀ (s : State) (who : Party), s.wf = true → partyOpen s who = true → bitF s F.PWM_CMD_STATUS_BUSY = false → pwmMode s = moServe → dozeReady s = true →
    Runs (.modeDoze who) s fun t =>
      dozing t = true ∧ pwmMode t = moServe ∧
      ∀ f < 8, cfpState s f = cfpActive → (linkOf s f).hush = 0 → (linkOf t f).hush = 1 ∧ (linkOf t f).doze = true ∧ (linkOf t f).pctl = 2 ∧ (linkOf t f).pctlLeft = 64) ∧
  (∀ (s : State) (who : Party), partyOpen s who = true → bitF s F.PWM_CMD_STATUS_BUSY = false → pwmMode s ≠ moServe ∨ dozeReady s = false →
    Runs (.modeDoze who) s fun t =>
      getF t F.PWM_CMD_STATUS_RESULT = (if pwmMode s = moServe then 3 else 1) ∧ bitF t F.PWM_CMD_STATUS_BUSY = false ∧ pwmMode t = pwmMode s ∧ OnlyCells s t ∧
      FieldsBut s t [F.PWM_CMD_STATUS_OP, F.PWM_CMD_STATUS_BUSY, F.PWM_CMD_STATUS_RESULT]) ∧
  (∀ s : State, dozing s = true → pwmMode s = moServe → (∀ f < 8, cfpState s f = cfpHush ∨ cfpState s f = cfpOff) → dozeReady s = true → wakePin s = false →
    Runs .dozeHushComplete s fun t => pwmMode t = moDoze ∧ getF t F.PWM_STATUS_LAST_MODE = moServe ∧ bitF t F.PWM_CMD_STATUS_BUSY = false ∧ getF t F.PWM_CMD_STATUS_RESULT = 0 ∧
      getF t F.PWM_COUNT_DOZES = min (getF s F.PWM_COUNT_DOZES + 1) 0xFFFF ∧ OnlyCells s t) ∧
  (∀ s : State, dozing s = false ∨ (∃ f < 8, cfpState s f ≠ cfpHush ∧ cfpState s f ≠ cfpOff) → Leaves .dozeHushComplete s) ∧
  (∀ s : State, dozing s = true → (∀ f < 8, cfpState s f = cfpHush ∨ cfpState s f = cfpOff) → dozeReady s = false →
    Runs .dozeHushComplete s fun t => getF t F.PWM_CMD_STATUS_RESULT = 5 ∧ bitF t F.PWM_CMD_STATUS_BUSY = false ∧ bitF t F.PWM_EVENT_DOZE_ABANDONED = true ∧ pwmMode t = pwmMode s) ∧
  (∀ s : State, s.wf = true → dozing s = true →
    Runs .dozeEntryTimeout s fun t => getF t F.PWM_CMD_STATUS_RESULT = 4 ∧ bitF t F.PWM_CMD_STATUS_BUSY = false ∧ bitF t F.PWM_EVENT_DOZE_ABANDONED = true ∧ pwmMode t = pwmMode s ∧
      (∀ f < 8, (linkOf s f).doze = true → (linkOf t f).hush = 0 ∧ (linkOf t f).doze = false) ∧ t = { s with cells := t.cells, links := t.links } ∧
      FieldsBut s t [F.PWM_CMD_STATUS_RESULT, F.PWM_CMD_STATUS_BUSY, F.PWM_EVENT_DOZE_ABANDONED, F.EVG_PEND_PEND 0]) ∧
  (∀ s : State, dozing s = false → Leaves .dozeEntryTimeout s) ∧
  (∀ s : State, pwmMode s = moDoze → s.ctl.waking = true → s.ctl.trip = none →
    Runs .dozeExitPllLocked s fun t => pwmMode t = moServe ∧ t.ctl = { s.ctl with waking := false } ∧ bitF t F.PWM_EVENT_WOKE = true ∧ bitF t F.PWM_EVENT_MODE = true ∧ t.links = s.links) ∧
  (∀ (s : State) (c : Nat), pwmMode s = moDoze → s.ctl.waking = true → s.ctl.trip = some c → dozing s = false →
    Runs .dozeExitPllLocked s fun t => Trips s t (c % 16) ∧ t.ctl.waking = false) ∧
  (∀ s : State, pwmMode s ≠ moDoze ∨ s.ctl.waking = false → Leaves .dozeExitPllLocked s) ∧
  (∀ s : State, getF s F.PWM_WAKE_TIMER ≠ 0 → pwmMode s = moDormant → s.ctl.railEn = false →
    Runs .wakeTimerExpire s fun t => getF t F.PWM_WAKE_TIMER = 0 ∧ getF t F.PWM_STATUS_WAKE_SRC = 3 ∧ t.ctl = { s.ctl with railEn := true } ∧ t.out = .railEn true :: s.out) ∧
  (∀ s : State, getF s F.PWM_WAKE_TIMER ≠ 0 → pwmMode s = moDoze → s.ctl.waking = false →
    Runs .wakeTimerExpire s fun t => getF t F.PWM_WAKE_TIMER = 0 ∧ getF t F.PWM_STATUS_WAKE_SRC = 3 ∧ t.ctl = { s.ctl with waking := true }) ∧
  (∀ s : State, getF s F.PWM_WAKE_TIMER ≠ 0 → pwmMode s ≠ moDoze → dozing s = false → (pwmMode s = moDormant → s.ctl.railEn = true) →
    Runs .wakeTimerExpire s fun t => t = setF s F.PWM_WAKE_TIMER 0) ∧
  (∀ s : State, getF s F.PWM_WAKE_TIMER = 0 → Leaves .wakeTimerExpire s) ∧
  (∀ s : State, s.ctl.railEn = true → s.ctl.railGood = false →
    Runs .railTimeout s fun t => bitF t F.PWM_EVENT_RAIL_TIMEOUT = true ∧ OnlyCells s t ∧ FieldsBut s t [F.PWM_EVENT_RAIL_TIMEOUT, F.EVG_PEND_PEND 0]) ∧
  (∀ s : State, s.ctl.railEn = false ∨ s.ctl.railGood = true → Leaves .railTimeout s) ∧
  (∀ s : State, Runs .xtalStable s fun t => t = setF s F.PWM_STATUS_XTAL 1) ∧
  (∀ s : State, Runs .xtalStop s fun t => t = setF s F.PWM_STATUS_XTAL 0) ∧
  (∀ s : State, Runs .coreRailMismatch s fun t => bitF t F.PWM_EVENT_RAIL_MISMATCH = true ∧ OnlyCells s t ∧ FieldsBut s t [F.PWM_EVENT_RAIL_MISMATCH, F.EVG_PEND_PEND 0]) ∧
  (∀ (s : State) (n : Fin 32) (goal : Nat), bitF s F.PWM_AVS_EN = true → goal = min (getF s F.PWM_AVS_MAX_CODE) (max n.val (getF s F.PWM_AVS_MIN_CODE)) →
    Runs (.avsAdjust n) s fun t => getF t F.PWM_AVS_TARGET = n ∧
      getF t F.PWM_AVS_CODE = (if getF s F.PWM_AVS_CODE < goal then getF s F.PWM_AVS_CODE + 1 else if goal < getF s F.PWM_AVS_CODE then getF s F.PWM_AVS_CODE - 1 else getF s F.PWM_AVS_CODE) ∧
      bitF t F.PWM_EVENT_AVS_LIMIT = (bitF s F.PWM_EVENT_AVS_LIMIT || decide (getF s F.PWM_AVS_MAX_CODE < n.val)) ∧
      OnlyCells s t ∧ FieldsBut s t [F.PWM_AVS_TARGET, F.PWM_AVS_CODE, F.PWM_EVENT_AVS_LIMIT, F.EVG_PEND_PEND 0]) ∧
  (∀ (s : State) (n : Fin 32), bitF s F.PWM_AVS_EN = false → Runs (.avsAdjust n) s fun t => t = setF s F.PWM_AVS_CODE (getF s F.PWM_AVS_FIXED)) ∧
  (∀ (s : State) (q : Fin 4), pwmMode s = moServe ∨ pwmMode s = moBoot → bitOf (getF s F.PWM_GATE_Q_EN) q = true → quadBusy s q = false →
    Runs (.quadrantClockStop q) s fun t => bitOf (getF t F.PWM_GATE_RUN) q = false ∧ (∀ k < 4, k ≠ q.val → bitOf (getF t F.PWM_GATE_RUN) k = bitOf (getF s F.PWM_GATE_RUN) k) ∧
      OnlyCells s t ∧ FieldsBut s t [F.PWM_GATE_RUN]) ∧
  (∀ (s : State) (q : Fin 4), pwmMode s ≠ moServe ∧ pwmMode s ≠ moBoot ∨ bitOf (getF s F.PWM_GATE_Q_EN) q = false ∨ quadBusy s q = true → Leaves (.quadrantClockStop q) s) ∧
  (∀ (s : State) (q : Fin 4), s.pending = [] → pwmMode s ≠ moDoze → quadBusy s q = true →
    ∃ t, step s = .next t ∧ bitOf (getF t F.PWM_GATE_RUN) q = true ∧ t.ticks = s.ticks + 1) ∧
  (∀ (s : State) (a b c d e : Byte) (tj : Nat), pwmMode s ≠ moDormant → tj = max (max (max a.toNat b.toNat) (max c.toNat d.toNat)) e.toNat →
    tj < 150 + 64 ∨ 150 + 64 ≤ getF s F.PWM_STATUS_TJ_MAX → s.ctl.cooling = false →
    Runs (.thermalSample a b c d e) s fun t =>
      getF t F.PWM_STATUS_TJ_MAX = tj ∧ getF t F.PWM_TEMP_PGA = e.toNat ∧ pwmMode t = pwmMode s ∧
      getF t F.PWM_TEMP_Q = a.toNat + b.toNat * 2 ^ 8 + c.toNat * 2 ^ 16 + d.toNat * 2 ^ 24 ∧ getF t F.PWM_TEMP_HIGH = max (getF s F.PWM_TEMP_HIGH) tj ∧
      t = { s with cells := t.cells, ctl := t.ctl } ∧
      (pwmMode s = moDoze → getF t F.PWM_STATUS_THERM_STEP = getF s F.PWM_STATUS_THERM_STEP) ∧
      (pwmMode s ≠ moDoze → getF s F.PWM_STATUS_THERM_STEP < 8 → stepEnter (getF s F.PWM_STATUS_THERM_STEP + 1) ≤ tj →
        getF t F.PWM_STATUS_THERM_STEP = getF s F.PWM_STATUS_THERM_STEP + 1 ∧ bitF t F.PWM_EVENT_THERM_STEP = true) ∧
      (pwmMode s ≠ moDoze → 0 < getF s F.PWM_STATUS_THERM_STEP → tj < stepLeave (getF s F.PWM_STATUS_THERM_STEP) → 9 ≤ s.ctl.since →
        getF t F.PWM_STATUS_THERM_STEP = getF s F.PWM_STATUS_THERM_STEP - 1 ∧ bitF t F.PWM_EVENT_THERM_STEP = true ∧ t.ctl.since = 0) ∧
      (pwmMode s ≠ moDoze → t.ctl.alert = (getF s F.PWM_THERM_ALERT_STEP != 0 && decide (getF s F.PWM_THERM_ALERT_STEP ≤ getF t F.PWM_STATUS_THERM_STEP)))) ∧
  (∀ (s : State) (a b c d e : Byte), pwmMode s = moSafe → s.ctl.cooling = true → s.ctl.step = 11 → max (max (max a.toNat b.toNat) (max c.toNat d.toNat)) e.toNat < 135 + 64 →
    s.root.queue = [] →
    Runs (.thermalSample a b c d e) s fun t =>
      pwmMode t = moBoot ∧ bitF t F.HDG_STATUS_SAFE = false ∧ getF t F.HDG_STATUS_CAUSE = 0 ∧ t.ctl.cooling = false ∧ t.ctl.hotTrip = false ∧ getF t F.GDN_BOOT_RESULT = 0) ∧
  (∀ (s : State) (a b c d e : Byte), pwmMode s = moDormant → Leaves (.thermalSample a b c d e) s) ∧
  (∀ (s : State) (a b c d e : Byte), s.wf = true → pwmMode s ≠ moDormant → pwmMode s ≠ moDoze → s.ctl.step = 11 → getF s F.PWM_STATUS_TJ_MAX < 150 + 64 → 150 + 64 ≤ e.toNat →
    Runs (.thermalSample a b c d e) s fun t =>
      Trips s t tcThermal ∧ bitF t F.PWM_EVENT_THERMAL_SAFE = true ∧ t.ctl.hotTrip = true ∧
      ∀ f < 8, cfpState t f = cfpOff ∧ bitF t (F.CFP_CTRL_EN f) = false) ∧
  (∀ (s : State) (who : Party), s.wf = true → partyOpen s who = true → bitF s F.PWM_CMD_STATUS_BUSY = false → pwmMode s = moServe → (∀ n < 4, portIdle s n = true) →
    (∀ f < 8, cfpState s f = cfpOff) →
    Runs (.modeDormant who) s fun t => pwmMode t = moDormant ∧ t.ctl.railEn = false ∧ t.ctl.step = 5 ∧ t.out = .railEn false :: s.out ∧ t.plots = [] ∧ t.links = [] ∧ t.root = s.root ∧
      t.chain = s.chain ∧ bitF t F.GLB_NODE_VALID = bitF s F.GLB_NODE_VALID ∧ getF t F.CHN_STATUS_POSITION = getF s F.CHN_STATUS_POSITION) ∧
  (∀ (s : State) (who : Party), partyOpen s who = true → bitF s F.PWM_CMD_STATUS_BUSY = false →
    pwmMode s ≠ moServe ∨ (∃ n < 4, portIdle s n = false) ∨ (∃ f < 8, cfpState s f ≠ cfpOff) →
    Runs (.modeDormant who) s fun t =>
      getF t F.PWM_CMD_STATUS_RESULT = (if pwmMode s = moServe then 3 else 1) ∧ bitF t F.PWM_CMD_STATUS_BUSY = false ∧ pwmMode t = pwmMode s ∧ OnlyCells s t ∧
      FieldsBut s t [F.PWM_CMD_STATUS_OP, F.PWM_CMD_STATUS_BUSY, F.PWM_CMD_STATUS_RESULT])

/-! ### Resets (chapter 19) -/

/-- R471, R472, R473, R474, R476, R477, R478, R480, R481, R482, R484, R486. A power-on reset keeps Rootstock's words and starts the release order at its first step, which goes on step by step; a loss of the rails before Boot takes it back; each output then holds the state of R482. A rail reset leaves Dormant; a loss of the reference clock and DEVICE are device-level resets, counted, with their cause, and keep Rootstock,
Hedge's lists and the chain; one during another merges, with the wider cause; during a Rootstock pulse a reset waits. A block's hold is set, done with its outstanding work completed, and released with its registers at reset; the Gardener, a core, the Event Gate and the chain controller are reset by a pulse; HDG is ignored. -/
def Obligations.ResetsAndHolds : Prop :=
  (∀ (s : State) (fall : Bool), s.wf = true → fall = true ∨ s.root.queue = [] →
    Runs (.powerOnReset fall) s fun t =>
      (s.root.queue = [] → t.root.words = s.root.words) ∧
      (∀ w ∈ s.root.queue.head?, t.root.words = s.root.words ∨ t.root.words = mset s.root.words w.index w.value 0) ∧ t.root.queue = [] ∧
      t.ctl = { railGood := s.ctl.railGood, refClk := s.ctl.refClk } ∧ t.plots = [] ∧ t.mem = [] ∧ t.hdg = {} ∧ t.links = [] ∧ t.chain = {} ∧
      getF t F.RST_CAUSE_LAST = rcPowerOn ∧ bitF t F.GLB_NODE_VALID = false ∧ getF t F.GDN_TND_IN_LEVEL = getF s F.GDN_TND_IN_LEVEL ∧
      (tapDrives s = false → OutputsAtReset t ∧ railEnPin t = .low ∧ ∀ i < 5, vidPin t i = .highZ)) ∧
  (∀ s : State, s.root.queue ≠ [] →
    Runs (.powerOnReset false) s fun t => t.root = { s.root with held := s.root.held ++ [.powerOn] } ∧ bitF t F.RST_STATUS_HELD = true ∧ t = { s with cells := t.cells, root := t.root }) ∧
  (∀ s : State, s.ctl.step = 1 → Runs .releaseOrderStep s fun t =>
      t.ctl = { s.ctl with step := 2 } ∧ getF t F.GDN_STRAP_SAMPLED = getF s F.GDN_TND_IN_LEVEL % 2 ^ 24 ∧ bitF t F.ROOT_STATUS_READY = true ∧
      bitF t F.ROOT_STATUS_PROVISION = bitOf (getF s F.GDN_TND_IN_LEVEL) 0) ∧
  (∀ s : State, s.ctl.step = 2 → Runs .releaseOrderStep s fun t => t.ctl = { s.ctl with step := 3 } ∧
      ∀ n < 24, strap t n = bitOf (if n ≠ 0 ∧ bitOf (rootWord s rwStrapOvr) (24 + n) = true then rootWord s rwStrapOvr else getF s F.GDN_STRAP_SAMPLED) n) ∧
  (∀ s : State, s.ctl.step = 3 → Runs .releaseOrderStep s fun t =>
      t.ctl = { s.ctl with step := 4 } ∧ pwmMode t = moDormant ∧ isHead t = strap s 1 ∧ bitF t F.ROOT_STATUS_VALID_A = bedValid s 1 ∧ bitF t F.ROOT_STATUS_VALID_B = bedValid s 2) ∧
  (∀ s : State, s.ctl.step = 4 → pwmMode s = moDormant → isHead s = false → s.ctl.railEn = false →
    Runs .releaseOrderStep s fun t => t.ctl = { s.ctl with step := 5, railEn := !strap s 2 }) ∧
  (∀ s : State, s.wf = true → s.ctl.step = 4 → pwmMode s = moDormant → isHead s = true → bitF s F.CHN_CTRL_EAST_EN = true → s.ctl.railEn = false →
    Runs .releaseOrderStep s fun t =>
      t.ctl = { s.ctl with step := 5, railEn := !strap s 2 } ∧ getF t F.CHN_STATUS_ROLL_STATE = rsRolling ∧ t.chain.wait = 1 ∧ getF t F.CHN_STATUS_POSITION = 0) ∧
  (∀ s : State, s.ctl.step = 5 → railsReady s = true → Runs .releaseOrderStep s fun t => t.ctl = { s.ctl with step := 6 }) ∧
  (∀ s : State, s.ctl.step = 5 → railsReady s = false → Leaves .releaseOrderStep s) ∧
  (∀ s : State, s.ctl.step = 6 → Runs .releaseOrderStep s fun t => t = { s with ctl := { s.ctl with step := 7 } }) ∧
  (∀ s : State, s.ctl.step = 7 → Runs .releaseOrderStep s fun t =>
      t.ctl = { s.ctl with step := 8 } ∧ t = { s with ctl := t.ctl, hdg := t.hdg } ∧
      t.hdg = (if s.ctl.cause = rcPowerOn ∨ s.ctl.cause = rcRail then { allow := bits (rootWord s rwTendril) 0 48 } else s.hdg)) ∧
  (∀ s : State, s.ctl.step = 8 → s.ctl.hotTrip = false ∨ getF s F.PWM_STATUS_TJ_MAX < 135 + 64 →
    Runs .releaseOrderStep s fun t => t.ctl = { s.ctl with step := 9, hotTrip := false } ∧ pwmMode t = moBoot ∧ bitF t F.HDG_STATUS_SAFE = false ∧ bitF t F.HDG_STATUS_RELOADED = false) ∧
  (∀ s : State, s.ctl.step = 8 → s.ctl.hotTrip = true → 135 + 64 ≤ getF s F.PWM_STATUS_TJ_MAX →
    Runs .releaseOrderStep s fun t => t.ctl = { s.ctl with step := 9, cooling := true } ∧ pwmMode t = moSafe ∧ bitF t F.HDG_STATUS_SAFE = true) ∧
  (∀ s : State, s.ctl.step = 9 →
    Runs .releaseOrderStep s fun t => t.ctl = { s.ctl with step := 10 } ∧ (∀ n < 4, bitOf (getF t F.RST_STATUS_PORT) n = !(portOf s n).perst) ∧ OnlyCells s { t with ctl := s.ctl }) ∧
  (∀ s : State, s.ctl.step = 10 → s.ctl.trip = none → isHead s = false ∨ s.ctl.rollDue = false →
    Runs .releaseOrderStep s fun t => t = { s with cells := t.cells, ctl := { s.ctl with step := 11, rollDue := false } } ∧
      getF t F.GDN_BOOT_RESULT = (if bitF s F.HDG_STATUS_SAFE then 3 else getF s F.GDN_BOOT_RESULT) ∧ FieldsBut s t [F.GDN_BOOT_RESULT]) ∧
  (∀ s : State, s.wf = true → s.ctl.step = 10 → s.ctl.trip = none → isHead s = true → s.ctl.rollDue = true → bitF s F.CHN_CTRL_EAST_EN = true →
    Runs .releaseOrderStep s fun t =>
      t.ctl = { s.ctl with step := 11, rollDue := false } ∧ getF t F.CHN_STATUS_ROLL_STATE = rsRolling ∧ t.chain.wait = 1 ∧ getF t F.CHN_STATUS_POSITION = 0) ∧
  (∀ (s : State) (c : Nat), s.ctl.step = 10 → s.ctl.trip = some c → c < 16 → s.ctl.rollDue = false → dozing s = false → Runs .releaseOrderStep s fun t => Trips s t c ∧ t.ctl.step = 11) ∧
  (∀ s : State, s.ctl.step = 21 → Runs .releaseOrderStep s fun t => t = { s with ctl := { s.ctl with step := 22 } }) ∧
  (∀ s : State, s.ctl.step = 22 → Runs .releaseOrderStep s fun t =>
      t.ctl = { s.ctl with step := 23 } ∧ getF t F.GDN_STRAP_SAMPLED = (getF s F.GDN_TND_IN_LEVEL / 2 * 2 + getF s F.GDN_STRAP_SAMPLED % 2) % 2 ^ 24 ∧
      bitF t F.ROOT_STATUS_VALID_A = bedValid s 1 ∧ bitF t F.ROOT_STATUS_VALID_B = bedValid s 2) ∧
  (∀ s : State, s.ctl.step = 23 → Runs .releaseOrderStep s fun t => t = if s.ctl.refClk then { s with ctl := { s.ctl with step := 7 } } else s) ∧
  (∀ s : State, s.ctl.step = 0 ∨ (10 < s.ctl.step ∧ s.ctl.step < 21) ∨ 23 < s.ctl.step → Leaves .releaseOrderStep s) ∧
  (∀ s : State, s.ctl.step ≠ 5 → Runs .railGoodRise s fun t => t = { s with ctl := { s.ctl with railGood := true } }) ∧
  (∀ s : State, s.ctl.step = 5 → s.ctl.railEn = true → s.ctl.refClk = true → Runs .railGoodRise s fun t => t.ctl = { s.ctl with railGood := true, step := 6 }) ∧
  (∀ s : State, s.wf = true → pwmMode s ≠ moDormant → 4 ≤ s.ctl.step → s.root.queue = [] →
    Runs .railGoodLoss s fun t =>
      pwmMode t = moDormant ∧ getF t F.RST_CAUSE_LAST = (if s.ctl.step = 11 then rcRail else wider (getF s F.RST_CAUSE_LAST) rcRail) ∧
      (s.ctl.step = 11 → getF t F.RST_CAUSE_PREV = getF s F.RST_CAUSE_LAST) ∧ t.ctl.step = 5 ∧ t.ctl.railGood = false ∧ t.ctl.railEn = s.ctl.railEn ∧
      getF t F.RST_COUNT_RAIL = min (getF s F.RST_COUNT_RAIL + 1) 0xFFFF ∧ t.root = s.root ∧ t.chain = s.chain ∧ t.plots = [] ∧ t.quads = [] ∧ t.links = [] ∧ t.hdg = {} ∧ t.mem = [] ∧
      (tapDrives s = false → OutputsAtReset t ∧ railEnPin t = railEnPin s)) ∧
  (∀ s : State, pwmMode s = moDormant ∨ s.ctl.step < 4 →
    Runs .railGoodLoss s fun t => t = { s with ctl := { s.ctl with railGood := false, step := if 5 < s.ctl.step then 5 else s.ctl.step } }) ∧
  (∀ s : State, s.ctl.refClk = true → railsUp s = false → Runs .refClockLoss s fun t => t = { s with ctl := { s.ctl with refClk := false } }) ∧
  (∀ s : State, s.ctl.refClk = false → Leaves .refClockLoss s) ∧
  (∀ s : State, s.wf = true → s.ctl.refClk = true → railsUp s = true → s.ctl.step = 11 → s.root.queue = [] →
    Runs .refClockLoss s fun t =>
      t.ctl.step = 21 ∧ t.ctl.refClk = false ∧ getF t F.RST_CAUSE_LAST = rcRefLoss ∧ getF t F.RST_COUNT_REF_LOSS = min (getF s F.RST_COUNT_REF_LOSS + 1) 0xFFFF ∧
      bitF t F.PWM_EVENT_REF_LOSS = true ∧ t.hdg = s.hdg ∧ t.root = s.root ∧ t.chain = s.chain ∧ t.plots = [] ∧ t.quads = [] ∧ t.links = []) ∧
  (∀ s : State, Runs .refClockRestored s fun t => t = { s with ctl := { s.ctl with refClk := true } }) ∧
  (∀ (s : State) (who : Party), s.wf = true → regOpen s who A.RST_CMD = true → s.root.queue = [] →
    Runs (.deviceReset who) s fun t =>
      t.ctl.step = 21 ∧ getF t F.RST_CAUSE_LAST = (if s.ctl.step = 11 then rcDevice else wider (getF s F.RST_CAUSE_LAST) rcDevice) ∧
      (s.ctl.step = 11 → getF t F.RST_CAUSE_PREV = getF s F.RST_CAUSE_LAST) ∧
      getF t F.RST_COUNT_DEVICE = min (getF s F.RST_COUNT_DEVICE + 1) 0xFFFF ∧ getF t F.RST_STATUS_PORT = 15 ∧ t.plots = [] ∧ t.quads = [] ∧ t.links = [] ∧ t.hdg = s.hdg ∧
      t.root = s.root ∧ t.chain = s.chain ∧ t.out = s.out ∧ t.started = false ∧ getF t F.RST_SOFT_QUAD = 0 ∧ getF t F.RST_SOFT_CALFOS = 0 ∧
      (tapDrives s = false → OutputsAtReset t ∧ railEnPin t = railEnPin s)) ∧
  (∀ (s : State) (who : Party), regOpen s who A.RST_CMD = true → s.root.queue ≠ [] →
    Runs (.deviceReset who) s fun t => t.root = { s.root with held := s.root.held ++ [.device] } ∧ bitF t F.RST_STATUS_HELD = true ∧ t = { s with cells := t.cells, root := t.root }) ∧
  (∀ (s : State) (who : Party), regOpen s who A.RST_CMD = false → Leaves (.deviceReset who) s) ∧
  (∀ (s : State) (who : Party) (i : Fin 44), s.wf = true → i.val ≠ 42 → regOpen s who A.RST_SOFT = true → s.root.queue = [] → softHeld s i = false →
    Runs (.blockSoftResetSet who (BitVec.ofNat 64 (2 ^ i.val))) s fun t =>
      softHeld t i = true ∧ (∀ k < 44, k ≠ i.val → softHeld t k = softHeld s k) ∧ (∀ k < 44, softDone t k = softDone s k) ∧
      (i.val < 24 → bitOf (getF t F.PWM_GATE_RUN) (i / 6) = true) ∧
      (i.val < 24 → i.val % 6 = 0 ∨ i.val % 6 = 5 → bitOf (getF t F.RST_STATUS_PORT) (i / 6) = true ∧ getF t (F.HPT_LINK_LTSSM (i / 6)) = 0) ∧
      (i.val < 24 → i.val % 6 = 5 → cfpState t (2 * (i / 6)) = cfpOff ∧ cfpState t (2 * (i / 6) + 1) = cfpOff) ∧
      (24 ≤ i.val → i.val < 40 → cfpState t ((i - 24) / 2) = cfpOff) ∧ (i.val = 40 → bitF t F.TRL_STATUS_BUSY = bitF s F.TRL_STATUS_BUSY ∧ trellisReady t = false) ∧
      (i.val = 43 → (∀ p < 12, getF t (F.TST_PORT_MODE p) = 0) ∧ bitF t F.TST_GEN_CTRL_EN = false)) ∧
  (∀ (s : State) (who : Party) (i : Fin 64), regOpen s who A.RST_SOFT = true → s.root.queue = [] → i.val = 46 ∨ i.val = 47 ∨ 52 ≤ i.val ∨ (i.val < 44 ∧ i.val ≠ 42 ∧ softHeld s i = true) →
    Leaves (.blockSoftResetSet who (BitVec.ofNat 64 (2 ^ i.val))) s) ∧
  (∀ (s : State) (who : Party) (c : Fin 4) (m : Word), regOpen s who A.RST_SOFT = false → ∀ i ∈ [Instr.blockSoftResetSet who m, .blockSoftResetClr who m, .gardenerReset who,
    .coreReset who c, .evgReset who, .chnReset who], Leaves i s) ∧
  (∀ (s : State) (who : Party) (c : Fin 4), regOpen s who A.RST_SOFT = true → s.root.queue ≠ [] →
    ∀ x ∈ [(Instr.blockSoftResetSet who 1, 1), (.gardenerReset who, 2 ^ 45), (.coreReset who c, 2 ^ (48 + c.val)), (.evgReset who, 2 ^ 44), (.chnReset who, 2 ^ 42)],
    Runs x.1 s fun t => t.root = { s.root with held := s.root.held ++ [.soft x.2] } ∧ bitF t F.RST_STATUS_HELD = true ∧ t = { s with cells := t.cells, root := t.root }) ∧
  (∀ (s : State) (i : Fin 44), s.wf = true → softHeld s i = true → softDone s i = false → bitOf s.ctl.clrWait i = false →
    Runs (.blockSoftResetDone ⟨i, by omega⟩) s fun t =>
      softDone t i = true ∧ softHeld t i = true ∧ bitF t F.RST_EVENT_SOFT_DONE = true ∧
      (i.val < 24 → i.val % 6 = 1 ∨ i.val % 6 = 5 → (quadOf t (i / 6)).lines = [] ∧ (quadOf t (i / 6)).pf = [] ∧ (quadOf t (i / 6)).commit = none ∧ (quadOf t (i / 6)).commitQ = []) ∧
      (i.val < 24 → i.val % 6 = 3 ∨ i.val % 6 = 5 → ∀ x ∈ quadChans t (i / 6), x.2.resident = false ∧ x.2.pending = false) ∧
      (i.val = 41 → ∀ b ∈ t.rake.batches, b.outstanding = false)) ∧
  (∀ (s : State) (i : Fin 44), s.wf = true → i.val < 40 → softHeld s i = true → softDone s i = false → bitOf s.ctl.clrWait i = true →
    Runs (.blockSoftResetDone ⟨i, by omega⟩) s fun t => softDone t i = false ∧ softHeld t i = false ∧ bitF t F.RST_EVENT_SOFT_DONE = true ∧ bitOf t.ctl.clrWait i = false) ∧
  (∀ (s : State) (i : Fin 64), softHeld s i = false ∨ softDone s i = true → Leaves (.blockSoftResetDone i) s) ∧
  (∀ (s : State) (who : Party) (i : Fin 44), s.wf = true → regOpen s who A.RST_SOFT = true → softHeld s i = true →
    Runs (.blockSoftResetClr who (BitVec.ofNat 64 (2 ^ i.val))) s fun t =>
      (softDone s i = true → softHeld t i = false ∧ softDone t i = false ∧ (i.val < 24 → i.val % 6 < 5 → ∀ x ∈ t.cells, ¬ softBitOf i (x.1 / 64)) ∧
        (40 ≤ i.val → (∀ x ∈ t.cells, ¬ softBitOf i (x.1 / 64)) ∧ OnlyCells s t)) ∧
      (softDone s i = false → t = { s with ctl := { s.ctl with clrWait := setBit s.ctl.clrWait i } })) ∧
  (∀ (s : State) (who : Party) (i : Fin 64), regOpen s who A.RST_SOFT = true → i.val ≥ 44 ∨ i.val = 42 ∨ softHeld s i = false →
    Leaves (.blockSoftResetClr who (BitVec.ofNat 64 (2 ^ i.val))) s) ∧
  (∀ (s : State) (who : Party) (i : Instr), i ∈ [Instr.gardenerReset who, .coreReset who 0] → regOpen s who A.RST_SOFT = true → s.root.queue = [] →
    Runs i s fun t => t.fw = {} ∧ bitF t F.HDG_STATUS_WDOG_RUN = false ∧ (∀ c < 4, bitF t (F.EVG_CORE_ACTIVE c) = false ∧ apertureLive t c = none) ∧
      getF t F.GDN_BOOT_RESULT = (if bitF s F.HDG_STATUS_SAFE = true ∧ getF s F.HDG_STATUS_CAUSE ≠ 0 then 3 else 0) ∧
      (∀ a, 0x40000000 ≤ a → memByte t a = memByte s a) ∧ t.mq = s.mq ∧ t = { s with cells := t.cells, mem := t.mem, fw := t.fw, unit0 := t.unit0 }) ∧
  (∀ (s : State) (who : Party) (c : Fin 4), c.val ≠ 0 → regOpen s who A.RST_SOFT = true → s.root.queue = [] →
    Runs (.coreReset who c) s fun t => evgRoute t (64 + c) = c ∧ evgEnabled t (64 + c) = true ∧ apertureLive t c = none ∧
      (∀ k < 4, bitF t (F.EVG_CORE_ACTIVE k) = false ∧ (k ≠ c.val → apertureLive t k = apertureLive s k)) ∧ t = { s with cells := t.cells, unit0 := t.unit0 }) ∧
  (∀ (s : State) (who : Party), regOpen s who A.RST_SOFT = true → s.root.queue = [] →
    Runs (.evgReset who) s fun t => OnlyCells s t ∧ (∀ c < 4, bitF t (F.EVG_CORE_ACTIVE c) = false) ∧
      ∀ n < 1536, evgEnabled t n = false ∧ evgRoute t n = 0 ∧ (evgLevel s n = false → ¬ Pending t n)) ∧
  (∀ (s : State) (who : Party), s.wf = true → regOpen s who A.RST_SOFT = true → s.root.queue = [] →
    Runs (.chnReset who) s fun t =>
      getF t F.CHN_STATUS_POSITION = getF s F.CHN_STATUS_POSITION ∧ getF t F.CHN_STATUS_ROLL_STATE = rsIdle ∧ getF t F.CHN_STATUS_COUNT = 0 ∧ isHead t = strap s 1 ∧ t.chain.wait = 0 ∧
      t.chain.taken = none ∧ t.chain.resets = s.chain.resets ∧ t.chain.wakes = s.chain.wakes ∧ bitF t F.GLB_NODE_VALID = bitF s F.GLB_NODE_VALID ∧
      t = { s with cells := t.cells, chain := t.chain })

/-! ### The test block (chapter 20) and the Tendril pins (chapter 21) -/

/-- R490, R494, R495, R496, R497, R498, R499, R500, R501, R502, R503, R504. A stopped port takes a test mode with its rate, NORMAL comes at any time and lets an enabled Calfos port train, and another mode on a port that runs is ignored with its event; a reserved RATE or MODE keeps
its field and is recorded once. A pattern error or burst is injected on a lane that is out of its link, RATE until another mode is written, and nothing on a lane that runs a link. A checker's lock is shown and its loss counted. A margin run of an idle sampler with a clock starts, and ends
with its count or aborted; a command while one runs sets OVERRUN. The TAP acts on its instructions and every other code is BYPASS, DTM too unless the boot is provisioning; an instruction that drives the balls takes every Calfos port Off, and the TAP's reset leaves the host ports down
until firmware enables them (the model's reading, assumption 131). Setting EN begins a run of the generator and clearing it stops the run, done when nothing is in flight. While EN is 1 and fewer than OUTSTANDING are in flight it sends request i at ADDR + (i x LEN) mod 2^WRAP; one that
Hedge refuses is not sent and stops it with CAUSE HEDGE. A request answered OK counts in DONE, any other in FAILS, the first with its status and CAUSE STATUS, and one that has waited 5 ms is retired with Timeout; read data that differs counts once in MISMATCHES, and the Write of
WRITE_READ that is acknowledged is followed by its Read. A write by a party that may not make it changes nothing. -/
def Obligations.TestBlock : Prop :=
  (∀ (s : State) (p : Fin 12) (who : Party) (m : Fin 4) (r : Fin 16), regOpen s who (A.TST_PORT p) = true → tstStopped s p = true → tstRateOk p r = true →
    m.val ≠ 0 → (m.val = 3 → 4 ≤ p.val) →
    Runs (.testPortModeWrite p who m r) s fun t => getF t (F.TST_PORT_MODE p) = m ∧ getF t (F.TST_PORT_RATE p) = r ∧ t = { s with cells := t.cells, test := t.test } ∧
      (s.test.margin = none → t.test = s.test ∧ FieldsBut s t [F.TST_PORT_MODE p, F.TST_PORT_RATE p]) ∧
      (4 ≤ p.val → s.test.margin = some (p.val - 4) → getF s (F.TST_PORT_MODE p) ≠ m →
        t.test.margin = none ∧ bitF t F.TST_MARGIN_RESULT_BUSY = false ∧ bitF t F.TST_MARGIN_RESULT_ABORTED = true ∧ bitF t F.TST_EVENT_MARGIN_DONE = true)) ∧
  (∀ (s : State) (p : Fin 12) (who : Party) (r : Fin 16), regOpen s who (A.TST_PORT p) = true → tstRateOk p r = true →
    Runs (.testPortModeWrite p who 0 r) s fun t => getF t (F.TST_PORT_MODE p) = 0 ∧ getF t (F.TST_PORT_RATE p) = r ∧
      (p.val < 4 ∨ getF s (F.TST_PORT_MODE p) = 0 → OnlyCells s t ∧ FieldsBut s t [F.TST_PORT_MODE p, F.TST_PORT_RATE p]) ∧
      (4 ≤ p.val → getF s (F.TST_PORT_MODE p) ≠ 0 → cfpState s (p.val - 4) = cfpOff → mayTrain (setF s (F.TST_PORT_MODE p) 0) (p.val - 4) = true → Trains s t (p.val - 4)) ∧
      (4 ≤ p.val → s.test.margin = none → cfpState s (p.val - 4) ≠ cfpOff ∨ mayTrain (setF s (F.TST_PORT_MODE p) 0) (p.val - 4) = false → OnlyCells s t)) ∧
  (∀ (s : State) (p : Fin 12) (who : Party) (m : Fin 4) (r : Fin 16), regOpen s who (A.TST_PORT p) = true → tstStopped s p = false → tstRateOk p r = true →
    m.val ≠ 0 → (m.val = 3 → 4 ≤ p.val) →
    Runs (.testPortModeWrite p who m r) s fun t => getF t (F.TST_PORT_MODE p) = getF s (F.TST_PORT_MODE p) ∧ getF t (F.TST_PORT_RATE p) = r ∧
      bitF t F.TST_EVENT_LOCKED_IGNORED = true ∧ (bitF s F.TST_EVENT_LOCKED_IGNORED = false → Pending t 44) ∧ OnlyCells s t ∧
      FieldsBut s t [F.TST_PORT_RATE p, F.TST_EVENT_LOCKED_IGNORED, F.EVG_PEND_PEND 0]) ∧
  (∀ (s : State) (p : Fin 12) (who : Party) (m : Fin 4) (r : Fin 16), regOpen s who (A.TST_PORT p) = true → tstRateOk p r = false → (m.val = 3 ∧ p.val < 4) ∨ getF s (F.TST_PORT_MODE p) = m →
    tstStopped s p = true →
    Runs (.testPortModeWrite p who m r) s fun t =>
      getF t F.GLB_FORMAT_COUNT = min (getF s F.GLB_FORMAT_COUNT + 1) F.GLB_FORMAT_COUNT.max ∧ bitF t F.GLB_FORMAT_VALID = true ∧ OnlyCells s t ∧
      FieldsBut s t [F.GLB_FORMAT_VALID, F.GLB_FORMAT_COUNT, F.GLB_FORMAT_WRITER, F.GLB_FORMAT_OFFSET, F.EVG_PEND_PEND 0]) ∧
  (∀ (s : State) (l : Fin 128) (who : Party) (m : Fin 16) (n : Fin 1024) (x : Fin 64), regOpen s who (A.TST_LANE_INJ l) = true → 1 ≤ m.val → m.val ≤ 3 → laneInjects s l = true →
    Runs (.laneInject l who m n x true) s fun t =>
      getF t (F.TST_LANE_INJ_MODE l) = m ∧ getF t (F.TST_LANE_INJ_LENM1 l) = n ∧ getF t (F.TST_LANE_INJ_EXP l) = x ∧ OnlyShown s t ∧
      FieldsBut s t [F.TST_LANE_INJ_MODE l, F.TST_LANE_INJ_LENM1 l, F.TST_LANE_INJ_EXP l] ∧
      t.out = .inject l m (if m.val = 1 then 1 else if m.val = 2 then 10 else n + 1) :: s.out) ∧
  (∀ (s : State) (l : Fin 128) (who : Party) (n : Fin 1024) (x : Fin 64) (go : Bool), regOpen s who (A.TST_LANE_INJ l) = true → 10 ≤ x.val → x.val ≤ 40 →
    Runs (.laneInject l who 4 n x go) s fun t =>
      getF t (F.TST_LANE_INJ_MODE l) = 4 ∧ getF t (F.TST_LANE_INJ_EXP l) = x ∧ OnlyShown s t ∧ t.out = (if laneInjects s l then [.inject l 4 x] else []) ++ s.out) ∧
  (∀ (s : State) (l : Fin 128) (who : Party) (n : Fin 1024) (x : Fin 64) (go : Bool), regOpen s who (A.TST_LANE_INJ l) = true → x.val < 10 ∨ 40 < x.val →
    Runs (.laneInject l who 4 n x go) s fun t =>
      getF t (F.TST_LANE_INJ_MODE l) = getF s (F.TST_LANE_INJ_MODE l) ∧ getF t (F.TST_LANE_INJ_EXP l) = getF s (F.TST_LANE_INJ_EXP l) ∧ bitF t F.GLB_FORMAT_VALID = true ∧ OnlyCells s t) ∧
  (∀ (s : State) (l : Fin 128) (who : Party) (m : Fin 16) (n : Fin 1024) (x : Fin 64) (go : Bool), regOpen s who (A.TST_LANE_INJ l) = true → m.val ≤ 3 →
    m.val = 0 ∨ go = false ∨ laneInjects s l = false →
    Runs (.laneInject l who m n x go) s fun t =>
      getF t (F.TST_LANE_INJ_MODE l) = m ∧ getF t (F.TST_LANE_INJ_LENM1 l) = n ∧ getF t (F.TST_LANE_INJ_EXP l) = x ∧ OnlyCells s t) ∧
  (∀ (s : State) (l : Fin 128), laneChecks s l = true → Runs (.checkerLock l) s fun t => t = setF s (F.TST_LANE_ERR_LOCK l) 1) ∧
  (∀ (s : State) (l : Fin 128), laneChecks s l = false → Leaves (.checkerLock l) s) ∧
  (∀ (s : State) (l : Fin 128) (n e : Nat), laneChecks s l = true → bitF s (F.TST_LANE_ERR_LOCK l) = true →
    Runs (.checkerLockLost l n e) s fun t =>
      bitF t (F.TST_LANE_ERR_LOCK l) = false ∧ bitF t (F.TST_LANE_ERR_LOST l) = true ∧ getF t (F.TST_LANE_BITS_V l) = min (getF s (F.TST_LANE_BITS_V l) + n) (2 ^ 64 - 1) ∧
      getF t (F.TST_LANE_ERR_ERRORS l) = min (getF s (F.TST_LANE_ERR_ERRORS l) + e) (2 ^ 48 - 1) ∧ bitF t F.TST_EVENT_LOCK_LOST = true ∧
      (bitF s F.TST_EVENT_LOCK_LOST = false → Pending t 40) ∧ OnlyCells s t ∧
      FieldsBut s t [F.TST_LANE_ERR_LOCK l, F.TST_LANE_ERR_LOST l, F.TST_LANE_BITS_V l, F.TST_LANE_ERR_ERRORS l, F.TST_EVENT_LOCK_LOST, F.EVG_PEND_PEND 0]) ∧
  (∀ (s : State) (l : Fin 128) (n e : Nat), laneChecks s l = false ∨ bitF s (F.TST_LANE_ERR_LOCK l) = false → Leaves (.checkerLockLost l n e) s) ∧
  (∀ (s : State) (who : Party) (f l : Fin 8) (ax : Bool) (eye : Fin 4) (off : BitVec 8) (dw : Fin 64), regOpen s who A.TST_MARGIN_CMD = true → bitF s F.TST_MARGIN_RESULT_BUSY = false →
    marginOk ax eye off.toNat dw = true → marginClock s f = true →
    Runs (.marginStart who f l ax eye off dw) s fun t =>
      t.test = { s.test with margin := some f.val } ∧ bitF t F.TST_MARGIN_RESULT_BUSY = true ∧ bitF t F.TST_MARGIN_RESULT_VALID = false ∧ bitF t F.TST_MARGIN_RESULT_ABORTED = false ∧
      t = { s with cells := t.cells, test := t.test } ∧ FieldsBut s t [F.TST_MARGIN_RESULT_BUSY, F.TST_MARGIN_RESULT_VALID, F.TST_MARGIN_RESULT_ABORTED]) ∧
  (∀ (s : State) (who : Party) (f l : Fin 8) (ax : Bool) (eye : Fin 4) (off : BitVec 8) (dw : Fin 64), regOpen s who A.TST_MARGIN_CMD = true → bitF s F.TST_MARGIN_RESULT_BUSY = true →
    marginOk ax eye off.toNat dw = true →
    Runs (.marginStart who f l ax eye off dw) s fun t => t = setF s F.TST_MARGIN_RESULT_OVERRUN 1) ∧
  (∀ (s : State) (who : Party) (f l : Fin 8) (ax : Bool) (eye : Fin 4) (off : BitVec 8) (dw : Fin 64), regOpen s who A.TST_MARGIN_CMD = true → bitF s F.TST_MARGIN_RESULT_BUSY = false →
    eye = 3 ∨ dw.val < 20 ∨ 40 < dw.val ∨ (ax = true ∧ (off.toInt < -63 ∨ 63 < off.toInt)) →
    Runs (.marginStart who f l ax eye off dw) s fun t =>
      getF t F.GLB_FORMAT_COUNT = min (getF s F.GLB_FORMAT_COUNT + 1) F.GLB_FORMAT_COUNT.max ∧ bitF t F.GLB_FORMAT_VALID = true ∧ OnlyCells s t ∧
      FieldsBut s t [F.GLB_FORMAT_VALID, F.GLB_FORMAT_COUNT, F.GLB_FORMAT_WRITER, F.GLB_FORMAT_OFFSET, F.EVG_PEND_PEND 0]) ∧
  (∀ (s : State) (who : Party) (f l : Fin 8) (ax : Bool) (eye : Fin 4) (off : BitVec 8) (dw : Fin 64), bitF s F.TST_MARGIN_RESULT_BUSY = false → marginOk ax eye off.toNat dw = true →
    marginClock s f = false → Leaves (.marginStart who f l ax eye off dw) s) ∧
  (∀ (s : State) (who : Party) (f : Nat), regOpen s who A.TST_MARGIN_CMD = true → s.test.margin = some f →
    Runs (.marginStop who) s fun t =>
      t.test = { s.test with margin := none } ∧ bitF t F.TST_MARGIN_RESULT_BUSY = false ∧ bitF t F.TST_MARGIN_RESULT_ABORTED = true ∧ bitF t F.TST_MARGIN_RESULT_VALID = false ∧
      bitF t F.TST_EVENT_MARGIN_DONE = true ∧ (bitF s F.TST_EVENT_MARGIN_DONE = false → Pending t 43) ∧ t = { s with cells := t.cells, test := t.test } ∧
      FieldsBut s t [F.TST_MARGIN_RESULT_BUSY, F.TST_MARGIN_RESULT_VALID, F.TST_MARGIN_RESULT_ABORTED, F.TST_EVENT_MARGIN_DONE, F.EVG_PEND_PEND 0]) ∧
  (∀ (s : State) (n : BitVec 48) (f : Nat), s.test.margin = some f →
    Runs (.marginRunDone n) s fun t =>
      t.test = { s.test with margin := none } ∧ bitF t F.TST_MARGIN_RESULT_BUSY = false ∧ bitF t F.TST_MARGIN_RESULT_VALID = true ∧
      getF t F.TST_MARGIN_RESULT_MISMATCHES = n.toNat ∧ bitF t F.TST_EVENT_MARGIN_DONE = true ∧ (bitF s F.TST_EVENT_MARGIN_DONE = false → Pending t 43) ∧
      t = { s with cells := t.cells, test := t.test } ∧
      FieldsBut s t [F.TST_MARGIN_RESULT_BUSY, F.TST_MARGIN_RESULT_VALID, F.TST_MARGIN_RESULT_MISMATCHES, F.TST_EVENT_MARGIN_DONE, F.EVG_PEND_PEND 0]) ∧
  (∀ (s : State) (who : Party) (n : BitVec 48), s.test.margin = none → Leaves (.marginStop who) s ∧ Leaves (.marginRunDone n) s) ∧
  (∀ (s : State) (c : Byte), tapDrives s = false → jtagTest c.toNat = false →
    Runs (.jtagInstructionLoad c) s fun t =>
      t.test = { s.test with tap := if c.toNat = 1 ∨ c.toNat = 2 ∨ (c.toNat = 0x10 ∧ bitF s F.ROOT_STATUS_PROVISION = true) then c.toNat else 0xFF } ∧
      t.out = (if c.toNat = 1 then .tapData (tapIdcode s) :: s.out else s.out) ∧ t = { s with test := t.test, out := t.out }) ∧
  (∀ s : State, bits (regWord s A.GLB_ID) 4 4 = 0 → Runs (.jtagInstructionLoad 1) s fun t => t.test.tap = 1 ∧ t.out.head? = some (.tapData 0x0825653B)) ∧
  (∀ (s : State) (c : Byte), s.wf = true → jtagTest c.toNat = true → s.root.queue ≠ [] →
    Runs (.jtagInstructionLoad c) s fun t =>
      t.test.tap = c.toNat ∧ bitF t F.TST_EVENT_JTAG_TEST = true ∧ (∀ f < 8, cfpState t f = cfpOff ∧ bitF t (F.CFP_CTRL_EN f) = false) ∧
      t.root.held = s.root.held ++ (List.range 4).map fun n => .port n 0) ∧
  (∀ s : State, Runs .jtagTrst s fun t =>
      t.test.tap = 1 ∧ (tapDrives s = true → ∀ n < 4, bitF t (F.HPT_CTRL_LINK_EN n) = false) ∧
      (tapDrives s = true → ∀ f < 8, bitF s (F.CFP_CTRL_EN f) = false → cfpState t f = cfpState s f) ∧
      (tapDrives s = false → t = { s with test := { s.test with tap := 1 } })) ∧
  (∀ (s : State) (p : Fin 12) (l : Fin 128) (who : Party) (m : Fin 4) (r i : Fin 16) (n : Fin 1024) (x : Fin 64) (go : Bool), regOpen s who (A.TST_PORT p) = false →
    regOpen s who (A.TST_LANE_INJ l) = false → Leaves (.testPortModeWrite p who m r) s ∧ Leaves (.laneInject l who i n x go) s) ∧
  (∀ (s : State) (who : Party) (f l : Fin 8) (ax : Bool) (eye : Fin 4) (off : BitVec 8) (dw : Fin 64), regOpen s who A.TST_MARGIN_CMD = false →
    Leaves (.marginStart who f l ax eye off dw) s ∧ Leaves (.marginStop who) s) ∧
  (∀ (s : State) (who : Party), regOpen s who A.TST_GEN_CTRL = true → bitF s F.TST_GEN_CTRL_EN = false →
    Runs (.trafficGenEnable who true) s fun t =>
      bitF t F.TST_GEN_CTRL_EN = true ∧ t.test = { s.test with next := 0, open_ := true } ∧ getF t F.TST_GEN_LAT_MIN = 0xFFFF ∧ getF t F.TST_GEN_LAT_MAX = 0 ∧
      bitF t F.TST_GEN_LAT_BUSY = true ∧ t = { s with cells := t.cells, test := t.test } ∧
      FieldsBut s t [F.TST_GEN_CTRL_EN, F.TST_GEN_LAT_MIN, F.TST_GEN_LAT_MAX, F.TST_GEN_LAT_BUSY]) ∧
  (∀ (s : State) (who : Party), regOpen s who A.TST_GEN_CTRL = true → bitF s F.TST_GEN_CTRL_EN = true → s.test.reqs = [] →
    Runs (.trafficGenEnable who false) s fun t =>
      bitF t F.TST_GEN_CTRL_EN = false ∧ bitF t F.TST_GEN_LAT_BUSY = false ∧ t.test = { s.test with open_ := false } ∧
      (s.test.open_ = true → bitF t F.TST_EVENT_GEN_DONE = true) ∧ t = { s with cells := t.cells, test := t.test } ∧
      FieldsBut s t [F.TST_GEN_CTRL_EN, F.TST_GEN_LAT_BUSY, F.TST_EVENT_GEN_DONE, F.EVG_PEND_PEND 0]) ∧
  (∀ (s : State) (who : Party), regOpen s who A.TST_GEN_CTRL = true → bitF s F.TST_GEN_CTRL_EN = true → s.test.reqs ≠ [] → (∀ x ∈ s.test.reqs, x.2.left ≠ 0) →
    Runs (.trafficGenEnable who false) s fun t =>
      bitF t F.TST_GEN_CTRL_EN = false ∧ bitF t F.TST_GEN_LAT_BUSY = true ∧ OnlyCells s t ∧ FieldsBut s t [F.TST_GEN_CTRL_EN, F.TST_GEN_LAT_BUSY]) ∧
  (∀ (s : State) (who : Party) (en : Bool), regOpen s who A.TST_GEN_CTRL = false ∨ bitF s F.TST_GEN_CTRL_EN = en → Leaves (.trafficGenEnable who en) s) ∧
  (∀ s : State, blockHeld s A.TST_GEN_CTRL = false → apertureCap s = true → genHalf s = none → genMore s = true → s.test.reqs.length < getF s F.TST_GEN_CTRL_OUTSTANDING →
    genFence s (genRequest s) = true → (genRequest s).addr % 4096 + (genRequest s).len ≤ 4096 →
    (routeOf s (getF s F.TST_GEN_TARGET_NODE) (myNode s 0) none).2.pga ≠ 20 →
    Runs .trafficGenSend s fun t =>
      (genRequest s).len = getF s F.TST_GEN_CTRL_LENM1 + 1 ∧
      (genRequest s).addr = (getF s F.TST_GEN_ADDR_ADDR + s.test.next * (getF s F.TST_GEN_CTRL_LENM1 + 1) % 2 ^ getF s F.TST_GEN_ADDR_WRAP) % 2 ^ 56 ∧
      t.test.next = s.test.next + 1 ∧ t.test.serial = s.test.serial + 1 ∧ mfind t.test.reqs s.test.serial = some { genRequest s with left := 1 } ∧
      mfind t.unit0 (mfree s.unit0 0) = some (.gen s.test.serial false) ∧ t.out = s.out) ∧
  (∀ s : State, blockHeld s A.TST_GEN_CTRL = false → apertureCap s = true → genHalf s = none → genMore s = true → s.test.reqs.length < getF s F.TST_GEN_CTRL_OUTSTANDING →
    s.wf = true → genFence s (genRequest s) = false → mfind s.test.reqs s.test.serial = none → (∀ x ∈ s.test.reqs, x.2.left ≠ 0) →
    Runs .trafficGenSend s fun t =>
      getF t F.TST_GEN_LAT_CAUSE = 3 ∧ bitF t F.TST_EVENT_GEN_FAIL = true ∧ bitF t F.TST_GEN_CTRL_EN = false ∧ t.test.reqs = s.test.reqs ∧ t.unit0 = s.unit0 ∧ t.pga = s.pga ∧
      getF t F.HDG_COUNT_FENCE_REFUSED = min (getF s F.HDG_COUNT_FENCE_REFUSED + 1) F.HDG_COUNT_FENCE_REFUSED.max) ∧
  (∀ s : State, blockHeld s A.TST_GEN_CTRL = true ∨ apertureCap s = false ∨
      (genHalf s = none ∧ (genMore s = false ∨ getF s F.TST_GEN_CTRL_OUTSTANDING ≤ s.test.reqs.length)) → Leaves .trafficGenSend s) ∧
  (∀ (s : State) (i : Nat) (r : FabResp) (ts : List QTxn) (k : Nat) (x : GenReq), s.wf = true → coreRuns s = true → inboxOf s 18 2 = { ingress := i, txn := .resp r } :: ts →
    respMalformed s r = false → mfind s.unit0 r.tag = some (.gen k false) → mfind s.test.reqs k = some x → x.left = 1 → x.bad = none → x.differs = false → r.status = 0 →
    getF s F.TST_GEN_CTRL_OP ≠ 2 ∨ x.reading = true → x.addr % 4096 + x.len ≤ 4096 →
    Runs (.fabricResponseArrival 18) s fun t =>
      mfind t.test.reqs k = none ∧ mfind t.unit0 r.tag = none ∧ getF t F.TST_GEN_COUNT_DONE = min (getF s F.TST_GEN_COUNT_DONE + 1) F.TST_GEN_COUNT_DONE.max ∧
      getF t F.TST_GEN_COUNT_FAILS = getF s F.TST_GEN_COUNT_FAILS ∧
      (x.reading = true → bitF s F.TST_GEN_CTRL_CHECK = true → r.data ≠ genBytes s x.addr x.len →
        getF t F.TST_GEN_COUNT_MISMATCHES = min (getF s F.TST_GEN_COUNT_MISMATCHES + 1) F.TST_GEN_COUNT_MISMATCHES.max ∧ (getF s F.TST_GEN_LAT_CAUSE = 0 → getF t F.TST_GEN_LAT_CAUSE = 2)) ∧
      (x.reading = false ∨ bitF s F.TST_GEN_CTRL_CHECK = false ∨ r.data = genBytes s x.addr x.len →
        getF t F.TST_GEN_COUNT_MISMATCHES = getF s F.TST_GEN_COUNT_MISMATCHES ∧ getF t F.TST_GEN_LAT_CAUSE = getF s F.TST_GEN_LAT_CAUSE)) ∧
  (∀ (s : State) (i : Nat) (r : FabResp) (ts : List QTxn) (k : Nat) (x : GenReq), s.wf = true → coreRuns s = true → inboxOf s 18 2 = { ingress := i, txn := .resp r } :: ts →
    respMalformed s r = false → mfind s.unit0 r.tag = some (.gen k false) → mfind s.test.reqs k = some x → x.left = 1 → x.bad = none → r.status = 0 →
    getF s F.TST_GEN_CTRL_OP = 2 → bitF s F.TST_GEN_CTRL_EN = true → x.reading = false →
    Runs (.fabricResponseArrival 18) s fun t =>
      mfind t.test.reqs k = some { x with left := 0, reading := true } ∧ mfind t.unit0 r.tag = none ∧ getF t F.TST_GEN_COUNT_DONE = getF s F.TST_GEN_COUNT_DONE) ∧
  (∀ (s : State) (i : Nat) (r : FabResp) (ts : List QTxn) (k : Nat) (x : GenReq), s.wf = true → coreRuns s = true → inboxOf s 18 2 = { ingress := i, txn := .resp r } :: ts →
    respMalformed s r = false → mfind s.unit0 r.tag = some (.gen k false) → mfind s.test.reqs k = some x → x.left = 1 → x.bad = none → r.status ≠ 0 →
    Runs (.fabricResponseArrival 18) s fun t =>
      mfind t.test.reqs k = none ∧ mfind t.unit0 r.tag = none ∧ getF t F.TST_GEN_COUNT_FAILS = min (getF s F.TST_GEN_COUNT_FAILS + 1) F.TST_GEN_COUNT_FAILS.max ∧
      getF t F.TST_GEN_COUNT_DONE = getF s F.TST_GEN_COUNT_DONE ∧
      (getF s F.TST_GEN_LAT_CAUSE = 0 → getF t F.TST_GEN_LAT_CAUSE = 1 ∧ getF t F.TST_GEN_LAT_FSTATUS = r.status % 256 ∧ bitF t F.TST_EVENT_GEN_FAIL = true)) ∧
  (∀ (s : State) (i : Nat) (r : FabResp) (ts : List QTxn) (k : Nat) (b : Bool), s.wf = true → coreRuns s = true → inboxOf s 18 2 = { ingress := i, txn := .resp r } :: ts →
    respMalformed s r = false → mfind s.unit0 r.tag = some (.gen k b) → mfind s.test.reqs k = none →
    Runs (.fabricResponseArrival 18) s fun t => t.test = s.test ∧ t.unit0 = mdel s.unit0 r.tag ∧ getF t F.TST_GEN_COUNT_DONE = getF s F.TST_GEN_COUNT_DONE ∧ t.mem = s.mem) ∧
  (∀ (s : State) (k : Nat) (r : GenReq), mwf s.test.reqs = true → mfind s.test.reqs k = some r → r.left ≠ 0 →
    Runs (.trafficGenTimeout k) s fun t =>
      mfind t.test.reqs k = none ∧ getF t F.TST_GEN_COUNT_FAILS = min (getF s F.TST_GEN_COUNT_FAILS + 1) 0xFFFF ∧ t.unit0 = s.unit0 ∧
      t = { s with cells := t.cells, test := t.test } ∧
      (getF s F.TST_GEN_LAT_CAUSE = 0 → getF t F.TST_GEN_LAT_CAUSE = 1 ∧ getF t F.TST_GEN_LAT_FSTATUS = (r.bad.getD 0x10) % 256 ∧ bitF t F.TST_EVENT_GEN_FAIL = true)) ∧
  (∀ (s : State) (k : Nat), mfind s.test.reqs k = none → Leaves (.trafficGenTimeout k) s)

/-- R409, R525, R526, R527, R528. A write of a pin's configuration in its allowance takes effect, and an open-drain or a push-pull output drives what OUT says, low for a FAULT condition that holds, and a DEBUG signal XOR POL; an input drives nothing, and nothing does while the boundary register
drives the balls. A write beyond the allowance is refused, counted and leaves the pin as it is; one with a reserved encoding sets FORMAT. A level change shows in GDN_TND_IN; an Edge input that becomes asserted and a Level input that is asserted raise the source, and an asserted wake pin wakes Doze. -/
def Obligations.TendrilPins : Prop :=
  (∀ (s : State) (n : Fin 24) (v : Word), bits v.toNat 0 3 ≠ 7 → bits v.toNat 8 2 ≠ 3 → tndSelOk (bits v.toNat 0 3) (bits v.toNat 16 8) = true →
    roleNeeds (bits v.toNat 0 3) ≤ tndAllow s n →
    Runs (.tendrilConfigWrite n v) s fun t =>
      getF t (F.GDN_TND_CFG_ROLE n) = bits v.toNat 0 3 ∧ getF t (F.GDN_TND_CFG_POL n) = bits v.toNat 5 1 ∧ getF t (F.GDN_TND_CFG_TYPE n) = bits v.toNat 6 1 ∧
      getF t (F.GDN_TND_CFG_OUT n) = bits v.toNat 7 1 ∧ getF t (F.GDN_TND_CFG_PULL n) = bits v.toNat 8 2 ∧ getF t (F.GDN_TND_CFG_SEL n) = bits v.toNat 16 8 ∧
      (bits v.toNat 0 3 ≠ 2 → OnlyCells s t ∧ FieldsBut s t [F.GDN_TND_CFG_ROLE n, F.GDN_TND_CFG_POL n, F.GDN_TND_CFG_TYPE n, F.GDN_TND_CFG_OUT n, F.GDN_TND_CFG_PULL n, F.GDN_TND_CFG_SEL n,
        F.EVG_PEND_PEND 0]) ∧
      (bits v.toNat 0 3 = 1 → bits v.toNat 6 1 = 1 → bitOf (getF s F.GDN_TND_IN_LEVEL) n = (bits v.toNat 5 1 == 0) → evgActive s (16 + n) = false → Pending t (16 + n)) ∧
      (bits v.toNat 0 3 = 2 → bitOf (getF s F.GDN_TND_IN_LEVEL) n = (bits v.toNat 5 1 == 0) → pwmMode s = moDoze → s.ctl.waking = false →
        t.ctl = { s.ctl with waking := true } ∧ getF t F.PWM_STATUS_WAKE_SRC = 6) ∧
      ∀ k < 24, k ≠ n.val → getF t (F.GDN_TND_CFG_ROLE k) = getF s (F.GDN_TND_CFG_ROLE k) ∧ tndDrive t k = tndDrive s k) ∧
  (∀ (s : State) (n : Fin 24) (v : Word), bits v.toNat 8 2 ≠ 3 → tapDrives s = false →
    roleNeeds (bits v.toNat 0 3) ≤ tndAllow s n → bits v.toNat 0 3 = 3 ∨ bits v.toNat 0 3 = 5 →
    Runs (.tendrilConfigWrite n v) s fun t =>
      tndDrive t n = if bits v.toNat 0 3 = 3 then (if v.getLsbD 7 then none else some false) else some (v.getLsbD 7)) ∧
  (∀ (s : State) (n : Fin 24) (v : Word), bits v.toNat 8 2 ≠ 3 → tapDrives s = false → tndSelOk (bits v.toNat 0 3) (bits v.toNat 16 8) = true →
    roleNeeds (bits v.toNat 0 3) ≤ tndAllow s n → bits v.toNat 0 3 = 4 ∨ bits v.toNat 0 3 = 6 →
    Runs (.tendrilConfigWrite n v) s fun t =>
      tndDrive t n = if bits v.toNat 0 3 = 4 then (if tndSignal s 4 (bits v.toNat 16 8) then some false else none) else some (tndSignal s 6 (bits v.toNat 16 8) != v.getLsbD 5)) ∧
  (∀ (s : State) (n : Fin 24) (v : Word), bits v.toNat 8 2 ≠ 3 → bits v.toNat 0 3 < 3 → Runs (.tendrilConfigWrite n v) s fun t => tndDrive t n = none) ∧
  (∀ (s : State) (n : Fin 24) (v : Word), bits v.toNat 0 3 ≠ 7 → bits v.toNat 8 2 ≠ 3 → tndSelOk (bits v.toNat 0 3) (bits v.toNat 16 8) = true →
    tndAllow s n < roleNeeds (bits v.toNat 0 3) →
    Runs (.tendrilConfigWrite n v) s fun t =>
      getF t F.HDG_COUNT_TND_REFUSED = min (getF s F.HDG_COUNT_TND_REFUSED + 1) 0xFFFF ∧ bitF t F.HDG_EVENT_TND = true ∧ OnlyCells s t ∧
      FieldsBut s t [F.HDG_COUNT_TND_REFUSED, F.HDG_EVENT_TND, F.EVG_PEND_PEND 19]) ∧
  (∀ (s : State) (n : Fin 24) (v : Word), bits v.toNat 0 3 = 7 ∨ bits v.toNat 8 2 = 3 ∨ tndSelOk (bits v.toNat 0 3) (bits v.toNat 16 8) = false →
    Runs (.tendrilConfigWrite n v) s fun t => t = setF s F.GDN_TND_IN_FORMAT 1) ∧
  (∀ (s : State) (n : Fin 24) (l : Bool), bitOf (getF s F.GDN_TND_IN_LEVEL) n ≠ l →
    Runs (.tendrilInputChange n l) s fun t =>
      bitOf (getF t F.GDN_TND_IN_LEVEL) n = l ∧ (∀ k < 24, k ≠ n.val → bitOf (getF t F.GDN_TND_IN_LEVEL) k = bitOf (getF s F.GDN_TND_IN_LEVEL) k) ∧
      (getF s (F.GDN_TND_CFG_ROLE n) ≠ 2 → OnlyCells s t ∧ FieldsBut s t [F.GDN_TND_IN_LEVEL, F.EVG_PEND_PEND 0]) ∧
      (getF s (F.GDN_TND_CFG_ROLE n) ≠ 2 → getF s (F.GDN_TND_CFG_ROLE n) ≠ 1 ∨ l = bitF s (F.GDN_TND_CFG_POL n) → getF t (F.EVG_PEND_PEND 0) = getF s (F.EVG_PEND_PEND 0)) ∧
      (getF s (F.GDN_TND_CFG_ROLE n) = 1 → l ≠ bitF s (F.GDN_TND_CFG_POL n) → bitF s (F.GDN_TND_CFG_TYPE n) = false ∨ evgActive s (16 + n) = false → Pending t (16 + n)) ∧
      (getF s (F.GDN_TND_CFG_ROLE n) = 2 → l ≠ bitF s (F.GDN_TND_CFG_POL n) → pwmMode s = moDoze → s.ctl.waking = false →
        t.ctl = { s.ctl with waking := true } ∧ getF t F.PWM_STATUS_WAKE_SRC = 6)) ∧
  (∀ (s : State) (n : Fin 24) (l : Bool), bitOf (getF s F.GDN_TND_IN_LEVEL) n = l → Leaves (.tendrilInputChange n l) s)

/-! ### The block as a whole -/

/-- A step with a command at the front of the queue is that command on the state with the queue's rest. A step on an empty queue is one microsecond of the block (the model's choice, assumption 1): the always-on clock counts, the time base while it runs, and the wake timer at the end of each
millisecond; the commands that the Trellis, chain and session registers show as BUSY are over, a stopped quadrant with work has its clocks restarted outside Doze, and memory, links, Rootstock, the Trellis table and what has been shown to the outside stay as they are. -/
def Obligations.StepRunsFront : Prop :=
  (∀ (c : Instr) (s : State) (cs : List Instr), step { s with pending := c :: cs } = exec c { s with pending := cs }) ∧
  (∀ s : State, s.pending = [] → ∃ t, step s = .next t ∧
    (t.pending = [] ∧ t.ticks = s.ticks + 1 ∧ t.now = (if s.started then s.now + 1 else s.now) ∧ t.started = s.started ∧
      bitF t F.TRL_STATUS_BUSY = false ∧ bitF t F.CHN_STATUS_BUSY = false ∧ bitF t F.HDG_SPDM_CTRL_BUSY = false ∧
      getF t F.PWM_WAKE_TIMER = (if (s.ticks + 1) % 1000 = 0 ∧ 1 < getF s F.PWM_WAKE_TIMER then (getF s F.PWM_WAKE_TIMER - 1) % 2 ^ F.PWM_WAKE_TIMER.w else getF s F.PWM_WAKE_TIMER) ∧
      (∀ q < 4, bitOf (getF s F.PWM_GATE_RUN) q = true → bitOf (getF t F.PWM_GATE_RUN) q = true) ∧
      (pwmMode s ≠ moDoze → ∀ q < 4, quadBusy s q = true → bitOf (getF t F.PWM_GATE_RUN) q = true) ∧
      t.mem = s.mem ∧ t.links = s.links ∧ t.root = s.root ∧ t.chain = s.chain ∧ t.ctl = s.ctl ∧ t.trl = s.trl ∧ t.hdg = s.hdg ∧ t.rake = s.rake ∧ t.test = s.test ∧
      t.chans = s.chans ∧ t.mq = s.mq ∧ t.unit0 = s.unit0 ∧ t.fw = s.fw ∧ t.out = s.out))

/-- R475, R476, R488, R453. After a power-on reset: nothing is loaded, trained or pending; the release order stands before its first step; the last reset cause is power-on; the node ID is not valid; memory lists nothing; and the state has its canonical form. -/
def Obligations.ResetLeaves : Prop :=
  State.reset.wf = true ∧ State.reset.ctl.step = 1 ∧ getF State.reset F.RST_CAUSE_LAST = rcPowerOn ∧ bitF State.reset F.GLB_NODE_VALID = false ∧
    (∀ p, plotState State.reset p = psDisabled) ∧ (∀ f, cfpState State.reset f = cfpOff ∧ linkUp State.reset f = false) ∧ (∀ a, memByte State.reset a = 0) ∧
    (∀ w, getF State.reset (F.EVG_PEND_PEND w) = 0 ∧ getF State.reset (F.EVG_ENABLE_ENABLE w) = 0) ∧ State.reset.pending = [] ∧ State.reset.mq = []

/-- Every command of the opcode table completes in every state: the block has no command that stops it. -/
def Obligations.EveryCommandCompletes : Prop :=
  ∀ (c : Instr) (s : State), ∃ t, exec c s = .next t

/-- A command changes everything but the queue of commands and the clock of the always-on domain, and takes back no output that the block has already shown. -/
def Obligations.CommandsLeaveTheQueue : Prop :=
  ∀ (c : Instr) (s t : State), exec c s = .next t → t.pending = s.pending ∧ t.ticks = s.ticks ∧ ∃ l, t.out = l ++ s.out

/-- Every step keeps the state's canonical form: the keys of every table rise strictly, and memory lists no byte that reads as an unlisted one does. -/
def Obligations.StepKeepsForm : Prop :=
  ∀ s t : State, s.wf = true → step s = .next t → t.wf = true
end

