-- ==== Sys2Proof/Laws/Maps.lean ====
section
/-!
SUPPORT. Sparse maps: what a put, a delete and a set leave at each key, and that each keeps the keys strictly rising.
-/
namespace Sys2Proof.Machine

variable {α : Type}

@[simp] theorem mget_nil (i : Nat) (d : α) : mget ([] : SMap α) i d = d := rfl

@[simp] theorem mfind_nil (i : Nat) : mfind ([] : SMap α) i = none := rfl

/-- `mget` is `mfind` with the default. -/
theorem mget_eq_mfind (m : SMap α) (i : Nat) (d : α) : mget m i d = (mfind m i).getD d := by
  induction m with
  | nil => rfl
  | cons e m ih =>
    obtain ⟨k, v⟩ := e
    simp only [mget, mfind]
    split_ifs <;> simp_all

@[simp] theorem mfind_mput_same (m : SMap α) (i : Nat) (x : α) : mfind (mput m i x) i = some x := by
  induction m with
  | nil => simp [mput, mfind]
  | cons e m ih =>
    obtain ⟨k, v⟩ := e
    simp only [mput]
    split_ifs <;> simp_all [mfind]

theorem mfind_mput_ne (m : SMap α) {i j : Nat} (x : α) (h : j ≠ i) : mfind (mput m i x) j = mfind m j := by
  induction m with
  | nil => simp [mput, mfind, h]
  | cons e m ih =>
    obtain ⟨k, v⟩ := e
    simp only [mput]
    split_ifs with h1 h2
    · simp only [mfind]
      split_ifs <;> first | rfl | omega
    · subst h2
      simp only [mfind]
      split_ifs <;> rfl
    · simp only [mfind, ih]

@[simp] theorem mget_mput_same (m : SMap α) (i : Nat) (x d : α) : mget (mput m i x) i d = x := by
  simp [mget_eq_mfind]

theorem mget_mput_ne (m : SMap α) {i j : Nat} (x d : α) (h : j ≠ i) : mget (mput m i x) j d = mget m j d := by
  simp [mget_eq_mfind, mfind_mput_ne m x h]

/-! ### Canonical form -/

/-- Every key of a canonical map but the first is above the first. -/
theorem mwf_cons {k : Nat} {v : α} {m : SMap α} : mwf ((k, v) :: m) = true ↔ (∀ e ∈ m, k < e.1) ∧ mwf m = true := by
  induction m generalizing k v with
  | nil => simp [mwf]
  | cons e m ih =>
    obtain ⟨k', v'⟩ := e
    simp only [mwf, Bool.and_eq_true, decide_eq_true_eq]
    constructor
    · rintro ⟨h, hm⟩
      refine ⟨?_, hm⟩
      intro e he
      rcases List.mem_cons.1 he with rfl | he
      · exact h
      · exact lt_trans h ((ih.1 hm).1 e he)
    · rintro ⟨h, hm⟩
      exact ⟨h _ (List.mem_cons_self ..), hm⟩

theorem mem_mput {m : SMap α} {i : Nat} {x : α} {e : Nat × α} (h : e ∈ mput m i x) : e = (i, x) ∨ e ∈ m := by
  induction m with
  | nil => simpa [mput] using h
  | cons a m ih =>
    obtain ⟨k, v⟩ := a
    simp only [mput] at h
    split_ifs at h
    · simpa using h
    · rcases List.mem_cons.1 h with h | h
      · exact Or.inl h
      · exact Or.inr (List.mem_cons_of_mem _ h)
    · rcases List.mem_cons.1 h with h | h
      · exact Or.inr (h ▸ List.mem_cons_self ..)
      · exact (ih h).imp id (List.mem_cons_of_mem _)

theorem mwf_mput {m : SMap α} (i : Nat) (x : α) (h : mwf m = true) : mwf (mput m i x) = true := by
  induction m with
  | nil => rfl
  | cons e m ih =>
    obtain ⟨k, v⟩ := e
    obtain ⟨hk, hm⟩ := mwf_cons.1 h
    simp only [mput]
    split_ifs with h1 h2
    · refine mwf_cons.2 ⟨fun e he => ?_, h⟩
      rcases List.mem_cons.1 he with rfl | he
      · exact h1
      · exact lt_trans h1 (hk e he)
    · exact mwf_cons.2 ⟨h2 ▸ hk, hm⟩
    · refine mwf_cons.2 ⟨fun e he => ?_, ih hm⟩
      rcases mem_mput he with rfl | he
      · simp only; omega
      · exact hk e he

theorem mwf_sublist {m m' : SMap α} (hs : m'.Sublist m) (h : mwf m = true) : mwf m' = true := by
  induction hs with
  | slnil => rfl
  | cons a _ ih =>
    obtain ⟨k, v⟩ := a
    exact ih (mwf_cons.1 h).2
  | cons_cons a hs ih =>
    obtain ⟨k, v⟩ := a
    obtain ⟨hk, hm⟩ := mwf_cons.1 h
    exact mwf_cons.2 ⟨fun e he => hk e (hs.subset he), ih hm⟩

theorem mdel_sublist (m : SMap α) (i : Nat) : (mdel m i).Sublist m := by
  induction m with
  | nil => exact List.Sublist.refl _
  | cons e m ih =>
    obtain ⟨k, v⟩ := e
    simp only [mdel]
    split_ifs
    · exact List.Sublist.refl _
    · exact List.sublist_cons_self ..
    · exact ih.cons_cons _

theorem mwf_mdel {m : SMap α} (i : Nat) (h : mwf m = true) : mwf (mdel m i) = true := mwf_sublist (mdel_sublist m i) h

theorem mwf_filter {m : SMap α} (p : Nat × α → Bool) (h : mwf m = true) : mwf (m.filter p) = true :=
  mwf_sublist List.filter_sublist h

theorem mwf_mset [DecidableEq α] {m : SMap α} (i : Nat) (x d : α) (h : mwf m = true) : mwf (mset m i x d) = true := by
  unfold mset
  split_ifs
  · exact mwf_mdel i h
  · exact mwf_mput i x h

/-- Changing what the keys hold keeps the form. -/
theorem mwf_mapVal {m : SMap α} (f : Nat × α → Nat × α) (hf : ∀ e, (f e).1 = e.1) (h : mwf m = true) : mwf (m.map f) = true := by
  induction m with
  | nil => rfl
  | cons e m ih =>
    obtain ⟨k, v⟩ := e
    obtain ⟨hk, hm⟩ := mwf_cons.1 h
    rw [List.map_cons, show f (k, v) = (k, (f (k, v)).2) from Prod.ext (hf _) rfl]
    refine mwf_cons.2 ⟨fun e he => ?_, ih hm⟩
    obtain ⟨b, hb, rfl⟩ := List.mem_map.1 he
    rw [hf b]
    exact hk b hb

/-! ### Deletes and sets of a canonical map -/

theorem mfind_above {m : SMap α} {i : Nat} (h : ∀ e ∈ m, i < e.1) : mfind m i = none := by
  cases m with
  | nil => rfl
  | cons e m =>
    obtain ⟨k, v⟩ := e
    have := h _ (List.mem_cons_self ..)
    simp [mfind, this]

theorem mfind_mdel_same {m : SMap α} (i : Nat) (h : mwf m = true) : mfind (mdel m i) i = none := by
  induction m with
  | nil => rfl
  | cons e m ih =>
    obtain ⟨k, v⟩ := e
    obtain ⟨hk, hm⟩ := mwf_cons.1 h
    simp only [mdel]
    split_ifs with h1 h2
    · simp [mfind, h1]
    · subst h2
      exact mfind_above hk
    · simp only [mfind, h1, h2, if_false]
      exact ih hm

theorem mfind_mdel_ne {m : SMap α} {i j : Nat} (hj : j ≠ i) (h : mwf m = true) : mfind (mdel m i) j = mfind m j := by
  induction m with
  | nil => rfl
  | cons e m ih =>
    obtain ⟨k, v⟩ := e
    obtain ⟨hk, hm⟩ := mwf_cons.1 h
    simp only [mdel]
    split_ifs with h1 h2
    · rfl
    · subst h2
      simp only [mfind, hj, if_false]
      split_ifs with h3
      · exact mfind_above fun e he => lt_trans h3 (hk e he)
      · rfl
    · simp only [mfind, ih hm]

theorem mget_mset_same [DecidableEq α] {m : SMap α} (i : Nat) (x d : α) (h : mwf m = true) : mget (mset m i x d) i d = x := by
  unfold mset
  split_ifs with hx
  · simp [mget_eq_mfind, mfind_mdel_same i h, hx]
  · simp

theorem mget_mset_ne [DecidableEq α] {m : SMap α} {i j : Nat} (x d : α) (hj : j ≠ i) (h : mwf m = true) :
    mget (mset m i x d) j d = mget m j d := by
  unfold mset
  split_ifs with hx
  · simp [mget_eq_mfind, mfind_mdel_ne hj h]
  · exact mget_mput_ne m x d hj

end Sys2Proof.Machine
end

