-- ==== Sys2Proof/Laws/State.lean ====
section
/-!
SUPPORT. What each update of the state leaves in each field of State: one lemma per update and field.
-/
namespace Sys2Proof.Machine

variable (s : State)

/-! ### setF -/

@[simp] theorem setF_plots (f : Fld) (v : Nat) : (setF s f v).plots = s.plots := rfl
@[simp] theorem setF_funcs (f : Fld) (v : Nat) : (setF s f v).funcs = s.funcs := rfl
@[simp] theorem setF_msix (f : Fld) (v : Nat) : (setF s f v).msix = s.msix := rfl
@[simp] theorem setF_quads (f : Fld) (v : Nat) : (setF s f v).quads = s.quads := rfl
@[simp] theorem setF_ports (f : Fld) (v : Nat) : (setF s f v).ports = s.ports := rfl
@[simp] theorem setF_pga (f : Fld) (v : Nat) : (setF s f v).pga = s.pga := rfl
@[simp] theorem setF_links (f : Fld) (v : Nat) : (setF s f v).links = s.links := rfl
@[simp] theorem setF_root (f : Fld) (v : Nat) : (setF s f v).root = s.root := rfl
@[simp] theorem setF_chain (f : Fld) (v : Nat) : (setF s f v).chain = s.chain := rfl
@[simp] theorem setF_ctl (f : Fld) (v : Nat) : (setF s f v).ctl = s.ctl := rfl
@[simp] theorem setF_trl (f : Fld) (v : Nat) : (setF s f v).trl = s.trl := rfl
@[simp] theorem setF_hdg (f : Fld) (v : Nat) : (setF s f v).hdg = s.hdg := rfl
@[simp] theorem setF_rake (f : Fld) (v : Nat) : (setF s f v).rake = s.rake := rfl
@[simp] theorem setF_test (f : Fld) (v : Nat) : (setF s f v).test = s.test := rfl
@[simp] theorem setF_fw (f : Fld) (v : Nat) : (setF s f v).fw = s.fw := rfl
@[simp] theorem setF_chans (f : Fld) (v : Nat) : (setF s f v).chans = s.chans := rfl
@[simp] theorem setF_unit0 (f : Fld) (v : Nat) : (setF s f v).unit0 = s.unit0 := rfl
@[simp] theorem setF_mq (f : Fld) (v : Nat) : (setF s f v).mq = s.mq := rfl
@[simp] theorem setF_mem (f : Fld) (v : Nat) : (setF s f v).mem = s.mem := rfl
@[simp] theorem setF_ticks (f : Fld) (v : Nat) : (setF s f v).ticks = s.ticks := rfl
@[simp] theorem setF_now (f : Fld) (v : Nat) : (setF s f v).now = s.now := rfl
@[simp] theorem setF_started (f : Fld) (v : Nat) : (setF s f v).started = s.started := rfl
@[simp] theorem setF_free (f : Fld) (v : Nat) : (setF s f v).free = s.free := rfl
@[simp] theorem setF_out (f : Fld) (v : Nat) : (setF s f v).out = s.out := rfl
@[simp] theorem setF_pending (f : Fld) (v : Nat) : (setF s f v).pending = s.pending := rfl

/-! ### resetF -/

@[simp] theorem resetF_plots (f : Fld) : (resetF s f).plots = s.plots := rfl
@[simp] theorem resetF_funcs (f : Fld) : (resetF s f).funcs = s.funcs := rfl
@[simp] theorem resetF_msix (f : Fld) : (resetF s f).msix = s.msix := rfl
@[simp] theorem resetF_quads (f : Fld) : (resetF s f).quads = s.quads := rfl
@[simp] theorem resetF_ports (f : Fld) : (resetF s f).ports = s.ports := rfl
@[simp] theorem resetF_pga (f : Fld) : (resetF s f).pga = s.pga := rfl
@[simp] theorem resetF_links (f : Fld) : (resetF s f).links = s.links := rfl
@[simp] theorem resetF_root (f : Fld) : (resetF s f).root = s.root := rfl
@[simp] theorem resetF_chain (f : Fld) : (resetF s f).chain = s.chain := rfl
@[simp] theorem resetF_ctl (f : Fld) : (resetF s f).ctl = s.ctl := rfl
@[simp] theorem resetF_trl (f : Fld) : (resetF s f).trl = s.trl := rfl
@[simp] theorem resetF_hdg (f : Fld) : (resetF s f).hdg = s.hdg := rfl
@[simp] theorem resetF_rake (f : Fld) : (resetF s f).rake = s.rake := rfl
@[simp] theorem resetF_test (f : Fld) : (resetF s f).test = s.test := rfl
@[simp] theorem resetF_fw (f : Fld) : (resetF s f).fw = s.fw := rfl
@[simp] theorem resetF_chans (f : Fld) : (resetF s f).chans = s.chans := rfl
@[simp] theorem resetF_unit0 (f : Fld) : (resetF s f).unit0 = s.unit0 := rfl
@[simp] theorem resetF_mq (f : Fld) : (resetF s f).mq = s.mq := rfl
@[simp] theorem resetF_mem (f : Fld) : (resetF s f).mem = s.mem := rfl
@[simp] theorem resetF_ticks (f : Fld) : (resetF s f).ticks = s.ticks := rfl
@[simp] theorem resetF_now (f : Fld) : (resetF s f).now = s.now := rfl
@[simp] theorem resetF_started (f : Fld) : (resetF s f).started = s.started := rfl
@[simp] theorem resetF_free (f : Fld) : (resetF s f).free = s.free := rfl
@[simp] theorem resetF_out (f : Fld) : (resetF s f).out = s.out := rfl
@[simp] theorem resetF_pending (f : Fld) : (resetF s f).pending = s.pending := rfl

/-! ### setB -/

@[simp] theorem setB_plots (f : Fld) (b : Bool) : (setB s f b).plots = s.plots := rfl
@[simp] theorem setB_funcs (f : Fld) (b : Bool) : (setB s f b).funcs = s.funcs := rfl
@[simp] theorem setB_msix (f : Fld) (b : Bool) : (setB s f b).msix = s.msix := rfl
@[simp] theorem setB_quads (f : Fld) (b : Bool) : (setB s f b).quads = s.quads := rfl
@[simp] theorem setB_ports (f : Fld) (b : Bool) : (setB s f b).ports = s.ports := rfl
@[simp] theorem setB_pga (f : Fld) (b : Bool) : (setB s f b).pga = s.pga := rfl
@[simp] theorem setB_links (f : Fld) (b : Bool) : (setB s f b).links = s.links := rfl
@[simp] theorem setB_root (f : Fld) (b : Bool) : (setB s f b).root = s.root := rfl
@[simp] theorem setB_chain (f : Fld) (b : Bool) : (setB s f b).chain = s.chain := rfl
@[simp] theorem setB_ctl (f : Fld) (b : Bool) : (setB s f b).ctl = s.ctl := rfl
@[simp] theorem setB_trl (f : Fld) (b : Bool) : (setB s f b).trl = s.trl := rfl
@[simp] theorem setB_hdg (f : Fld) (b : Bool) : (setB s f b).hdg = s.hdg := rfl
@[simp] theorem setB_rake (f : Fld) (b : Bool) : (setB s f b).rake = s.rake := rfl
@[simp] theorem setB_test (f : Fld) (b : Bool) : (setB s f b).test = s.test := rfl
@[simp] theorem setB_fw (f : Fld) (b : Bool) : (setB s f b).fw = s.fw := rfl
@[simp] theorem setB_chans (f : Fld) (b : Bool) : (setB s f b).chans = s.chans := rfl
@[simp] theorem setB_unit0 (f : Fld) (b : Bool) : (setB s f b).unit0 = s.unit0 := rfl
@[simp] theorem setB_mq (f : Fld) (b : Bool) : (setB s f b).mq = s.mq := rfl
@[simp] theorem setB_mem (f : Fld) (b : Bool) : (setB s f b).mem = s.mem := rfl
@[simp] theorem setB_ticks (f : Fld) (b : Bool) : (setB s f b).ticks = s.ticks := rfl
@[simp] theorem setB_now (f : Fld) (b : Bool) : (setB s f b).now = s.now := rfl
@[simp] theorem setB_started (f : Fld) (b : Bool) : (setB s f b).started = s.started := rfl
@[simp] theorem setB_free (f : Fld) (b : Bool) : (setB s f b).free = s.free := rfl
@[simp] theorem setB_out (f : Fld) (b : Bool) : (setB s f b).out = s.out := rfl
@[simp] theorem setB_pending (f : Fld) (b : Bool) : (setB s f b).pending = s.pending := rfl

/-! ### bumpBy -/

@[simp] theorem bumpBy_plots (f : Fld) (n : Nat) : (bumpBy s f n).plots = s.plots := rfl
@[simp] theorem bumpBy_funcs (f : Fld) (n : Nat) : (bumpBy s f n).funcs = s.funcs := rfl
@[simp] theorem bumpBy_msix (f : Fld) (n : Nat) : (bumpBy s f n).msix = s.msix := rfl
@[simp] theorem bumpBy_quads (f : Fld) (n : Nat) : (bumpBy s f n).quads = s.quads := rfl
@[simp] theorem bumpBy_ports (f : Fld) (n : Nat) : (bumpBy s f n).ports = s.ports := rfl
@[simp] theorem bumpBy_pga (f : Fld) (n : Nat) : (bumpBy s f n).pga = s.pga := rfl
@[simp] theorem bumpBy_links (f : Fld) (n : Nat) : (bumpBy s f n).links = s.links := rfl
@[simp] theorem bumpBy_root (f : Fld) (n : Nat) : (bumpBy s f n).root = s.root := rfl
@[simp] theorem bumpBy_chain (f : Fld) (n : Nat) : (bumpBy s f n).chain = s.chain := rfl
@[simp] theorem bumpBy_ctl (f : Fld) (n : Nat) : (bumpBy s f n).ctl = s.ctl := rfl
@[simp] theorem bumpBy_trl (f : Fld) (n : Nat) : (bumpBy s f n).trl = s.trl := rfl
@[simp] theorem bumpBy_hdg (f : Fld) (n : Nat) : (bumpBy s f n).hdg = s.hdg := rfl
@[simp] theorem bumpBy_rake (f : Fld) (n : Nat) : (bumpBy s f n).rake = s.rake := rfl
@[simp] theorem bumpBy_test (f : Fld) (n : Nat) : (bumpBy s f n).test = s.test := rfl
@[simp] theorem bumpBy_fw (f : Fld) (n : Nat) : (bumpBy s f n).fw = s.fw := rfl
@[simp] theorem bumpBy_chans (f : Fld) (n : Nat) : (bumpBy s f n).chans = s.chans := rfl
@[simp] theorem bumpBy_unit0 (f : Fld) (n : Nat) : (bumpBy s f n).unit0 = s.unit0 := rfl
@[simp] theorem bumpBy_mq (f : Fld) (n : Nat) : (bumpBy s f n).mq = s.mq := rfl
@[simp] theorem bumpBy_mem (f : Fld) (n : Nat) : (bumpBy s f n).mem = s.mem := rfl
@[simp] theorem bumpBy_ticks (f : Fld) (n : Nat) : (bumpBy s f n).ticks = s.ticks := rfl
@[simp] theorem bumpBy_now (f : Fld) (n : Nat) : (bumpBy s f n).now = s.now := rfl
@[simp] theorem bumpBy_started (f : Fld) (n : Nat) : (bumpBy s f n).started = s.started := rfl
@[simp] theorem bumpBy_free (f : Fld) (n : Nat) : (bumpBy s f n).free = s.free := rfl
@[simp] theorem bumpBy_out (f : Fld) (n : Nat) : (bumpBy s f n).out = s.out := rfl
@[simp] theorem bumpBy_pending (f : Fld) (n : Nat) : (bumpBy s f n).pending = s.pending := rfl

/-! ### bump -/

@[simp] theorem bump_plots (f : Fld) : (bump s f).plots = s.plots := rfl
@[simp] theorem bump_funcs (f : Fld) : (bump s f).funcs = s.funcs := rfl
@[simp] theorem bump_msix (f : Fld) : (bump s f).msix = s.msix := rfl
@[simp] theorem bump_quads (f : Fld) : (bump s f).quads = s.quads := rfl
@[simp] theorem bump_ports (f : Fld) : (bump s f).ports = s.ports := rfl
@[simp] theorem bump_pga (f : Fld) : (bump s f).pga = s.pga := rfl
@[simp] theorem bump_links (f : Fld) : (bump s f).links = s.links := rfl
@[simp] theorem bump_root (f : Fld) : (bump s f).root = s.root := rfl
@[simp] theorem bump_chain (f : Fld) : (bump s f).chain = s.chain := rfl
@[simp] theorem bump_ctl (f : Fld) : (bump s f).ctl = s.ctl := rfl
@[simp] theorem bump_trl (f : Fld) : (bump s f).trl = s.trl := rfl
@[simp] theorem bump_hdg (f : Fld) : (bump s f).hdg = s.hdg := rfl
@[simp] theorem bump_rake (f : Fld) : (bump s f).rake = s.rake := rfl
@[simp] theorem bump_test (f : Fld) : (bump s f).test = s.test := rfl
@[simp] theorem bump_fw (f : Fld) : (bump s f).fw = s.fw := rfl
@[simp] theorem bump_chans (f : Fld) : (bump s f).chans = s.chans := rfl
@[simp] theorem bump_unit0 (f : Fld) : (bump s f).unit0 = s.unit0 := rfl
@[simp] theorem bump_mq (f : Fld) : (bump s f).mq = s.mq := rfl
@[simp] theorem bump_mem (f : Fld) : (bump s f).mem = s.mem := rfl
@[simp] theorem bump_ticks (f : Fld) : (bump s f).ticks = s.ticks := rfl
@[simp] theorem bump_now (f : Fld) : (bump s f).now = s.now := rfl
@[simp] theorem bump_started (f : Fld) : (bump s f).started = s.started := rfl
@[simp] theorem bump_free (f : Fld) : (bump s f).free = s.free := rfl
@[simp] theorem bump_out (f : Fld) : (bump s f).out = s.out := rfl
@[simp] theorem bump_pending (f : Fld) : (bump s f).pending = s.pending := rfl

/-! ### wrapInc -/

@[simp] theorem wrapInc_plots (f : Fld) : (wrapInc s f).plots = s.plots := rfl
@[simp] theorem wrapInc_funcs (f : Fld) : (wrapInc s f).funcs = s.funcs := rfl
@[simp] theorem wrapInc_msix (f : Fld) : (wrapInc s f).msix = s.msix := rfl
@[simp] theorem wrapInc_quads (f : Fld) : (wrapInc s f).quads = s.quads := rfl
@[simp] theorem wrapInc_ports (f : Fld) : (wrapInc s f).ports = s.ports := rfl
@[simp] theorem wrapInc_pga (f : Fld) : (wrapInc s f).pga = s.pga := rfl
@[simp] theorem wrapInc_links (f : Fld) : (wrapInc s f).links = s.links := rfl
@[simp] theorem wrapInc_root (f : Fld) : (wrapInc s f).root = s.root := rfl
@[simp] theorem wrapInc_chain (f : Fld) : (wrapInc s f).chain = s.chain := rfl
@[simp] theorem wrapInc_ctl (f : Fld) : (wrapInc s f).ctl = s.ctl := rfl
@[simp] theorem wrapInc_trl (f : Fld) : (wrapInc s f).trl = s.trl := rfl
@[simp] theorem wrapInc_hdg (f : Fld) : (wrapInc s f).hdg = s.hdg := rfl
@[simp] theorem wrapInc_rake (f : Fld) : (wrapInc s f).rake = s.rake := rfl
@[simp] theorem wrapInc_test (f : Fld) : (wrapInc s f).test = s.test := rfl
@[simp] theorem wrapInc_fw (f : Fld) : (wrapInc s f).fw = s.fw := rfl
@[simp] theorem wrapInc_chans (f : Fld) : (wrapInc s f).chans = s.chans := rfl
@[simp] theorem wrapInc_unit0 (f : Fld) : (wrapInc s f).unit0 = s.unit0 := rfl
@[simp] theorem wrapInc_mq (f : Fld) : (wrapInc s f).mq = s.mq := rfl
@[simp] theorem wrapInc_mem (f : Fld) : (wrapInc s f).mem = s.mem := rfl
@[simp] theorem wrapInc_ticks (f : Fld) : (wrapInc s f).ticks = s.ticks := rfl
@[simp] theorem wrapInc_now (f : Fld) : (wrapInc s f).now = s.now := rfl
@[simp] theorem wrapInc_started (f : Fld) : (wrapInc s f).started = s.started := rfl
@[simp] theorem wrapInc_free (f : Fld) : (wrapInc s f).free = s.free := rfl
@[simp] theorem wrapInc_out (f : Fld) : (wrapInc s f).out = s.out := rfl
@[simp] theorem wrapInc_pending (f : Fld) : (wrapInc s f).pending = s.pending := rfl

/-! ### setQuad -/

@[simp] theorem setQuad_cells (q : Nat) (x : Quad) : (setQuad s q x).cells = s.cells := rfl
@[simp] theorem setQuad_plots (q : Nat) (x : Quad) : (setQuad s q x).plots = s.plots := rfl
@[simp] theorem setQuad_funcs (q : Nat) (x : Quad) : (setQuad s q x).funcs = s.funcs := rfl
@[simp] theorem setQuad_msix (q : Nat) (x : Quad) : (setQuad s q x).msix = s.msix := rfl
@[simp] theorem setQuad_ports (q : Nat) (x : Quad) : (setQuad s q x).ports = s.ports := rfl
@[simp] theorem setQuad_pga (q : Nat) (x : Quad) : (setQuad s q x).pga = s.pga := rfl
@[simp] theorem setQuad_links (q : Nat) (x : Quad) : (setQuad s q x).links = s.links := rfl
@[simp] theorem setQuad_root (q : Nat) (x : Quad) : (setQuad s q x).root = s.root := rfl
@[simp] theorem setQuad_chain (q : Nat) (x : Quad) : (setQuad s q x).chain = s.chain := rfl
@[simp] theorem setQuad_ctl (q : Nat) (x : Quad) : (setQuad s q x).ctl = s.ctl := rfl
@[simp] theorem setQuad_trl (q : Nat) (x : Quad) : (setQuad s q x).trl = s.trl := rfl
@[simp] theorem setQuad_hdg (q : Nat) (x : Quad) : (setQuad s q x).hdg = s.hdg := rfl
@[simp] theorem setQuad_rake (q : Nat) (x : Quad) : (setQuad s q x).rake = s.rake := rfl
@[simp] theorem setQuad_test (q : Nat) (x : Quad) : (setQuad s q x).test = s.test := rfl
@[simp] theorem setQuad_fw (q : Nat) (x : Quad) : (setQuad s q x).fw = s.fw := rfl
@[simp] theorem setQuad_chans (q : Nat) (x : Quad) : (setQuad s q x).chans = s.chans := rfl
@[simp] theorem setQuad_unit0 (q : Nat) (x : Quad) : (setQuad s q x).unit0 = s.unit0 := rfl
@[simp] theorem setQuad_mq (q : Nat) (x : Quad) : (setQuad s q x).mq = s.mq := rfl
@[simp] theorem setQuad_mem (q : Nat) (x : Quad) : (setQuad s q x).mem = s.mem := rfl
@[simp] theorem setQuad_ticks (q : Nat) (x : Quad) : (setQuad s q x).ticks = s.ticks := rfl
@[simp] theorem setQuad_now (q : Nat) (x : Quad) : (setQuad s q x).now = s.now := rfl
@[simp] theorem setQuad_started (q : Nat) (x : Quad) : (setQuad s q x).started = s.started := rfl
@[simp] theorem setQuad_free (q : Nat) (x : Quad) : (setQuad s q x).free = s.free := rfl
@[simp] theorem setQuad_out (q : Nat) (x : Quad) : (setQuad s q x).out = s.out := rfl
@[simp] theorem setQuad_pending (q : Nat) (x : Quad) : (setQuad s q x).pending = s.pending := rfl

/-! ### modQuad -/

@[simp] theorem modQuad_cells (q : Nat) (g : Quad → Quad) : (modQuad s q g).cells = s.cells := rfl
@[simp] theorem modQuad_plots (q : Nat) (g : Quad → Quad) : (modQuad s q g).plots = s.plots := rfl
@[simp] theorem modQuad_funcs (q : Nat) (g : Quad → Quad) : (modQuad s q g).funcs = s.funcs := rfl
@[simp] theorem modQuad_msix (q : Nat) (g : Quad → Quad) : (modQuad s q g).msix = s.msix := rfl
@[simp] theorem modQuad_ports (q : Nat) (g : Quad → Quad) : (modQuad s q g).ports = s.ports := rfl
@[simp] theorem modQuad_pga (q : Nat) (g : Quad → Quad) : (modQuad s q g).pga = s.pga := rfl
@[simp] theorem modQuad_links (q : Nat) (g : Quad → Quad) : (modQuad s q g).links = s.links := rfl
@[simp] theorem modQuad_root (q : Nat) (g : Quad → Quad) : (modQuad s q g).root = s.root := rfl
@[simp] theorem modQuad_chain (q : Nat) (g : Quad → Quad) : (modQuad s q g).chain = s.chain := rfl
@[simp] theorem modQuad_ctl (q : Nat) (g : Quad → Quad) : (modQuad s q g).ctl = s.ctl := rfl
@[simp] theorem modQuad_trl (q : Nat) (g : Quad → Quad) : (modQuad s q g).trl = s.trl := rfl
@[simp] theorem modQuad_hdg (q : Nat) (g : Quad → Quad) : (modQuad s q g).hdg = s.hdg := rfl
@[simp] theorem modQuad_rake (q : Nat) (g : Quad → Quad) : (modQuad s q g).rake = s.rake := rfl
@[simp] theorem modQuad_test (q : Nat) (g : Quad → Quad) : (modQuad s q g).test = s.test := rfl
@[simp] theorem modQuad_fw (q : Nat) (g : Quad → Quad) : (modQuad s q g).fw = s.fw := rfl
@[simp] theorem modQuad_chans (q : Nat) (g : Quad → Quad) : (modQuad s q g).chans = s.chans := rfl
@[simp] theorem modQuad_unit0 (q : Nat) (g : Quad → Quad) : (modQuad s q g).unit0 = s.unit0 := rfl
@[simp] theorem modQuad_mq (q : Nat) (g : Quad → Quad) : (modQuad s q g).mq = s.mq := rfl
@[simp] theorem modQuad_mem (q : Nat) (g : Quad → Quad) : (modQuad s q g).mem = s.mem := rfl
@[simp] theorem modQuad_ticks (q : Nat) (g : Quad → Quad) : (modQuad s q g).ticks = s.ticks := rfl
@[simp] theorem modQuad_now (q : Nat) (g : Quad → Quad) : (modQuad s q g).now = s.now := rfl
@[simp] theorem modQuad_started (q : Nat) (g : Quad → Quad) : (modQuad s q g).started = s.started := rfl
@[simp] theorem modQuad_free (q : Nat) (g : Quad → Quad) : (modQuad s q g).free = s.free := rfl
@[simp] theorem modQuad_out (q : Nat) (g : Quad → Quad) : (modQuad s q g).out = s.out := rfl
@[simp] theorem modQuad_pending (q : Nat) (g : Quad → Quad) : (modQuad s q g).pending = s.pending := rfl

/-! ### setPlot -/

@[simp] theorem setPlot_cells (p : Nat) (x : Plot) : (setPlot s p x).cells = s.cells := rfl
@[simp] theorem setPlot_funcs (p : Nat) (x : Plot) : (setPlot s p x).funcs = s.funcs := rfl
@[simp] theorem setPlot_msix (p : Nat) (x : Plot) : (setPlot s p x).msix = s.msix := rfl
@[simp] theorem setPlot_quads (p : Nat) (x : Plot) : (setPlot s p x).quads = s.quads := rfl
@[simp] theorem setPlot_ports (p : Nat) (x : Plot) : (setPlot s p x).ports = s.ports := rfl
@[simp] theorem setPlot_pga (p : Nat) (x : Plot) : (setPlot s p x).pga = s.pga := rfl
@[simp] theorem setPlot_links (p : Nat) (x : Plot) : (setPlot s p x).links = s.links := rfl
@[simp] theorem setPlot_root (p : Nat) (x : Plot) : (setPlot s p x).root = s.root := rfl
@[simp] theorem setPlot_chain (p : Nat) (x : Plot) : (setPlot s p x).chain = s.chain := rfl
@[simp] theorem setPlot_ctl (p : Nat) (x : Plot) : (setPlot s p x).ctl = s.ctl := rfl
@[simp] theorem setPlot_trl (p : Nat) (x : Plot) : (setPlot s p x).trl = s.trl := rfl
@[simp] theorem setPlot_hdg (p : Nat) (x : Plot) : (setPlot s p x).hdg = s.hdg := rfl
@[simp] theorem setPlot_rake (p : Nat) (x : Plot) : (setPlot s p x).rake = s.rake := rfl
@[simp] theorem setPlot_test (p : Nat) (x : Plot) : (setPlot s p x).test = s.test := rfl
@[simp] theorem setPlot_fw (p : Nat) (x : Plot) : (setPlot s p x).fw = s.fw := rfl
@[simp] theorem setPlot_chans (p : Nat) (x : Plot) : (setPlot s p x).chans = s.chans := rfl
@[simp] theorem setPlot_unit0 (p : Nat) (x : Plot) : (setPlot s p x).unit0 = s.unit0 := rfl
@[simp] theorem setPlot_mq (p : Nat) (x : Plot) : (setPlot s p x).mq = s.mq := rfl
@[simp] theorem setPlot_mem (p : Nat) (x : Plot) : (setPlot s p x).mem = s.mem := rfl
@[simp] theorem setPlot_ticks (p : Nat) (x : Plot) : (setPlot s p x).ticks = s.ticks := rfl
@[simp] theorem setPlot_now (p : Nat) (x : Plot) : (setPlot s p x).now = s.now := rfl
@[simp] theorem setPlot_started (p : Nat) (x : Plot) : (setPlot s p x).started = s.started := rfl
@[simp] theorem setPlot_free (p : Nat) (x : Plot) : (setPlot s p x).free = s.free := rfl
@[simp] theorem setPlot_out (p : Nat) (x : Plot) : (setPlot s p x).out = s.out := rfl
@[simp] theorem setPlot_pending (p : Nat) (x : Plot) : (setPlot s p x).pending = s.pending := rfl

/-! ### modPlot -/

@[simp] theorem modPlot_cells (p : Nat) (g : Plot → Plot) : (modPlot s p g).cells = s.cells := rfl
@[simp] theorem modPlot_funcs (p : Nat) (g : Plot → Plot) : (modPlot s p g).funcs = s.funcs := rfl
@[simp] theorem modPlot_msix (p : Nat) (g : Plot → Plot) : (modPlot s p g).msix = s.msix := rfl
@[simp] theorem modPlot_quads (p : Nat) (g : Plot → Plot) : (modPlot s p g).quads = s.quads := rfl
@[simp] theorem modPlot_ports (p : Nat) (g : Plot → Plot) : (modPlot s p g).ports = s.ports := rfl
@[simp] theorem modPlot_pga (p : Nat) (g : Plot → Plot) : (modPlot s p g).pga = s.pga := rfl
@[simp] theorem modPlot_links (p : Nat) (g : Plot → Plot) : (modPlot s p g).links = s.links := rfl
@[simp] theorem modPlot_root (p : Nat) (g : Plot → Plot) : (modPlot s p g).root = s.root := rfl
@[simp] theorem modPlot_chain (p : Nat) (g : Plot → Plot) : (modPlot s p g).chain = s.chain := rfl
@[simp] theorem modPlot_ctl (p : Nat) (g : Plot → Plot) : (modPlot s p g).ctl = s.ctl := rfl
@[simp] theorem modPlot_trl (p : Nat) (g : Plot → Plot) : (modPlot s p g).trl = s.trl := rfl
@[simp] theorem modPlot_hdg (p : Nat) (g : Plot → Plot) : (modPlot s p g).hdg = s.hdg := rfl
@[simp] theorem modPlot_rake (p : Nat) (g : Plot → Plot) : (modPlot s p g).rake = s.rake := rfl
@[simp] theorem modPlot_test (p : Nat) (g : Plot → Plot) : (modPlot s p g).test = s.test := rfl
@[simp] theorem modPlot_fw (p : Nat) (g : Plot → Plot) : (modPlot s p g).fw = s.fw := rfl
@[simp] theorem modPlot_chans (p : Nat) (g : Plot → Plot) : (modPlot s p g).chans = s.chans := rfl
@[simp] theorem modPlot_unit0 (p : Nat) (g : Plot → Plot) : (modPlot s p g).unit0 = s.unit0 := rfl
@[simp] theorem modPlot_mq (p : Nat) (g : Plot → Plot) : (modPlot s p g).mq = s.mq := rfl
@[simp] theorem modPlot_mem (p : Nat) (g : Plot → Plot) : (modPlot s p g).mem = s.mem := rfl
@[simp] theorem modPlot_ticks (p : Nat) (g : Plot → Plot) : (modPlot s p g).ticks = s.ticks := rfl
@[simp] theorem modPlot_now (p : Nat) (g : Plot → Plot) : (modPlot s p g).now = s.now := rfl
@[simp] theorem modPlot_started (p : Nat) (g : Plot → Plot) : (modPlot s p g).started = s.started := rfl
@[simp] theorem modPlot_free (p : Nat) (g : Plot → Plot) : (modPlot s p g).free = s.free := rfl
@[simp] theorem modPlot_out (p : Nat) (g : Plot → Plot) : (modPlot s p g).out = s.out := rfl
@[simp] theorem modPlot_pending (p : Nat) (g : Plot → Plot) : (modPlot s p g).pending = s.pending := rfl

/-! ### emit -/

@[simp] theorem emit_cells (e : Emit) : (emit s e).cells = s.cells := rfl
@[simp] theorem emit_plots (e : Emit) : (emit s e).plots = s.plots := rfl
@[simp] theorem emit_funcs (e : Emit) : (emit s e).funcs = s.funcs := rfl
@[simp] theorem emit_msix (e : Emit) : (emit s e).msix = s.msix := rfl
@[simp] theorem emit_quads (e : Emit) : (emit s e).quads = s.quads := rfl
@[simp] theorem emit_ports (e : Emit) : (emit s e).ports = s.ports := rfl
@[simp] theorem emit_pga (e : Emit) : (emit s e).pga = s.pga := rfl
@[simp] theorem emit_links (e : Emit) : (emit s e).links = s.links := rfl
@[simp] theorem emit_root (e : Emit) : (emit s e).root = s.root := rfl
@[simp] theorem emit_chain (e : Emit) : (emit s e).chain = s.chain := rfl
@[simp] theorem emit_ctl (e : Emit) : (emit s e).ctl = s.ctl := rfl
@[simp] theorem emit_trl (e : Emit) : (emit s e).trl = s.trl := rfl
@[simp] theorem emit_hdg (e : Emit) : (emit s e).hdg = s.hdg := rfl
@[simp] theorem emit_rake (e : Emit) : (emit s e).rake = s.rake := rfl
@[simp] theorem emit_test (e : Emit) : (emit s e).test = s.test := rfl
@[simp] theorem emit_fw (e : Emit) : (emit s e).fw = s.fw := rfl
@[simp] theorem emit_chans (e : Emit) : (emit s e).chans = s.chans := rfl
@[simp] theorem emit_unit0 (e : Emit) : (emit s e).unit0 = s.unit0 := rfl
@[simp] theorem emit_mq (e : Emit) : (emit s e).mq = s.mq := rfl
@[simp] theorem emit_mem (e : Emit) : (emit s e).mem = s.mem := rfl
@[simp] theorem emit_ticks (e : Emit) : (emit s e).ticks = s.ticks := rfl
@[simp] theorem emit_now (e : Emit) : (emit s e).now = s.now := rfl
@[simp] theorem emit_started (e : Emit) : (emit s e).started = s.started := rfl
@[simp] theorem emit_free (e : Emit) : (emit s e).free = s.free := rfl
@[simp] theorem emit_pending (e : Emit) : (emit s e).pending = s.pending := rfl

/-! ### highWater -/

@[simp] theorem highWater_plots (f : Fld) (v : Nat) : (highWater s f v).plots = s.plots := by unfold highWater; (repeat split) <;> simp
@[simp] theorem highWater_funcs (f : Fld) (v : Nat) : (highWater s f v).funcs = s.funcs := by unfold highWater; (repeat split) <;> simp
@[simp] theorem highWater_msix (f : Fld) (v : Nat) : (highWater s f v).msix = s.msix := by unfold highWater; (repeat split) <;> simp
@[simp] theorem highWater_quads (f : Fld) (v : Nat) : (highWater s f v).quads = s.quads := by unfold highWater; (repeat split) <;> simp
@[simp] theorem highWater_ports (f : Fld) (v : Nat) : (highWater s f v).ports = s.ports := by unfold highWater; (repeat split) <;> simp
@[simp] theorem highWater_pga (f : Fld) (v : Nat) : (highWater s f v).pga = s.pga := by unfold highWater; (repeat split) <;> simp
@[simp] theorem highWater_links (f : Fld) (v : Nat) : (highWater s f v).links = s.links := by unfold highWater; (repeat split) <;> simp
@[simp] theorem highWater_root (f : Fld) (v : Nat) : (highWater s f v).root = s.root := by unfold highWater; (repeat split) <;> simp
@[simp] theorem highWater_chain (f : Fld) (v : Nat) : (highWater s f v).chain = s.chain := by unfold highWater; (repeat split) <;> simp
@[simp] theorem highWater_ctl (f : Fld) (v : Nat) : (highWater s f v).ctl = s.ctl := by unfold highWater; (repeat split) <;> simp
@[simp] theorem highWater_trl (f : Fld) (v : Nat) : (highWater s f v).trl = s.trl := by unfold highWater; (repeat split) <;> simp
@[simp] theorem highWater_hdg (f : Fld) (v : Nat) : (highWater s f v).hdg = s.hdg := by unfold highWater; (repeat split) <;> simp
@[simp] theorem highWater_rake (f : Fld) (v : Nat) : (highWater s f v).rake = s.rake := by unfold highWater; (repeat split) <;> simp
@[simp] theorem highWater_test (f : Fld) (v : Nat) : (highWater s f v).test = s.test := by unfold highWater; (repeat split) <;> simp
@[simp] theorem highWater_fw (f : Fld) (v : Nat) : (highWater s f v).fw = s.fw := by unfold highWater; (repeat split) <;> simp
@[simp] theorem highWater_chans (f : Fld) (v : Nat) : (highWater s f v).chans = s.chans := by unfold highWater; (repeat split) <;> simp
@[simp] theorem highWater_unit0 (f : Fld) (v : Nat) : (highWater s f v).unit0 = s.unit0 := by unfold highWater; (repeat split) <;> simp
@[simp] theorem highWater_mq (f : Fld) (v : Nat) : (highWater s f v).mq = s.mq := by unfold highWater; (repeat split) <;> simp
@[simp] theorem highWater_mem (f : Fld) (v : Nat) : (highWater s f v).mem = s.mem := by unfold highWater; (repeat split) <;> simp
@[simp] theorem highWater_ticks (f : Fld) (v : Nat) : (highWater s f v).ticks = s.ticks := by unfold highWater; (repeat split) <;> simp
@[simp] theorem highWater_now (f : Fld) (v : Nat) : (highWater s f v).now = s.now := by unfold highWater; (repeat split) <;> simp
@[simp] theorem highWater_started (f : Fld) (v : Nat) : (highWater s f v).started = s.started := by unfold highWater; (repeat split) <;> simp
@[simp] theorem highWater_free (f : Fld) (v : Nat) : (highWater s f v).free = s.free := by unfold highWater; (repeat split) <;> simp
@[simp] theorem highWater_out (f : Fld) (v : Nat) : (highWater s f v).out = s.out := by unfold highWater; (repeat split) <;> simp
@[simp] theorem highWater_pending (f : Fld) (v : Nat) : (highWater s f v).pending = s.pending := by unfold highWater; (repeat split) <;> simp

/-! ### raise -/

@[simp] theorem raise_plots (n : Nat) : (raise s n).plots = s.plots := by unfold raise; (repeat split) <;> simp
@[simp] theorem raise_funcs (n : Nat) : (raise s n).funcs = s.funcs := by unfold raise; (repeat split) <;> simp
@[simp] theorem raise_msix (n : Nat) : (raise s n).msix = s.msix := by unfold raise; (repeat split) <;> simp
@[simp] theorem raise_quads (n : Nat) : (raise s n).quads = s.quads := by unfold raise; (repeat split) <;> simp
@[simp] theorem raise_ports (n : Nat) : (raise s n).ports = s.ports := by unfold raise; (repeat split) <;> simp
@[simp] theorem raise_pga (n : Nat) : (raise s n).pga = s.pga := by unfold raise; (repeat split) <;> simp
@[simp] theorem raise_links (n : Nat) : (raise s n).links = s.links := by unfold raise; (repeat split) <;> simp
@[simp] theorem raise_root (n : Nat) : (raise s n).root = s.root := by unfold raise; (repeat split) <;> simp
@[simp] theorem raise_chain (n : Nat) : (raise s n).chain = s.chain := by unfold raise; (repeat split) <;> simp
@[simp] theorem raise_ctl (n : Nat) : (raise s n).ctl = s.ctl := by unfold raise; (repeat split) <;> simp
@[simp] theorem raise_trl (n : Nat) : (raise s n).trl = s.trl := by unfold raise; (repeat split) <;> simp
@[simp] theorem raise_hdg (n : Nat) : (raise s n).hdg = s.hdg := by unfold raise; (repeat split) <;> simp
@[simp] theorem raise_rake (n : Nat) : (raise s n).rake = s.rake := by unfold raise; (repeat split) <;> simp
@[simp] theorem raise_test (n : Nat) : (raise s n).test = s.test := by unfold raise; (repeat split) <;> simp
@[simp] theorem raise_fw (n : Nat) : (raise s n).fw = s.fw := by unfold raise; (repeat split) <;> simp
@[simp] theorem raise_chans (n : Nat) : (raise s n).chans = s.chans := by unfold raise; (repeat split) <;> simp
@[simp] theorem raise_unit0 (n : Nat) : (raise s n).unit0 = s.unit0 := by unfold raise; (repeat split) <;> simp
@[simp] theorem raise_mq (n : Nat) : (raise s n).mq = s.mq := by unfold raise; (repeat split) <;> simp
@[simp] theorem raise_mem (n : Nat) : (raise s n).mem = s.mem := by unfold raise; (repeat split) <;> simp
@[simp] theorem raise_ticks (n : Nat) : (raise s n).ticks = s.ticks := by unfold raise; (repeat split) <;> simp
@[simp] theorem raise_now (n : Nat) : (raise s n).now = s.now := by unfold raise; (repeat split) <;> simp
@[simp] theorem raise_started (n : Nat) : (raise s n).started = s.started := by unfold raise; (repeat split) <;> simp
@[simp] theorem raise_free (n : Nat) : (raise s n).free = s.free := by unfold raise; (repeat split) <;> simp
@[simp] theorem raise_out (n : Nat) : (raise s n).out = s.out := by unfold raise; (repeat split) <;> simp
@[simp] theorem raise_pending (n : Nat) : (raise s n).pending = s.pending := by unfold raise; (repeat split) <;> simp

/-! ### setEv -/

@[simp] theorem setEv_plots (f : Fld) (n : Nat) : (setEv s f n).plots = s.plots := by unfold setEv; (repeat split) <;> simp
@[simp] theorem setEv_funcs (f : Fld) (n : Nat) : (setEv s f n).funcs = s.funcs := by unfold setEv; (repeat split) <;> simp
@[simp] theorem setEv_msix (f : Fld) (n : Nat) : (setEv s f n).msix = s.msix := by unfold setEv; (repeat split) <;> simp
@[simp] theorem setEv_quads (f : Fld) (n : Nat) : (setEv s f n).quads = s.quads := by unfold setEv; (repeat split) <;> simp
@[simp] theorem setEv_ports (f : Fld) (n : Nat) : (setEv s f n).ports = s.ports := by unfold setEv; (repeat split) <;> simp
@[simp] theorem setEv_pga (f : Fld) (n : Nat) : (setEv s f n).pga = s.pga := by unfold setEv; (repeat split) <;> simp
@[simp] theorem setEv_links (f : Fld) (n : Nat) : (setEv s f n).links = s.links := by unfold setEv; (repeat split) <;> simp
@[simp] theorem setEv_root (f : Fld) (n : Nat) : (setEv s f n).root = s.root := by unfold setEv; (repeat split) <;> simp
@[simp] theorem setEv_chain (f : Fld) (n : Nat) : (setEv s f n).chain = s.chain := by unfold setEv; (repeat split) <;> simp
@[simp] theorem setEv_ctl (f : Fld) (n : Nat) : (setEv s f n).ctl = s.ctl := by unfold setEv; (repeat split) <;> simp
@[simp] theorem setEv_trl (f : Fld) (n : Nat) : (setEv s f n).trl = s.trl := by unfold setEv; (repeat split) <;> simp
@[simp] theorem setEv_hdg (f : Fld) (n : Nat) : (setEv s f n).hdg = s.hdg := by unfold setEv; (repeat split) <;> simp
@[simp] theorem setEv_rake (f : Fld) (n : Nat) : (setEv s f n).rake = s.rake := by unfold setEv; (repeat split) <;> simp
@[simp] theorem setEv_test (f : Fld) (n : Nat) : (setEv s f n).test = s.test := by unfold setEv; (repeat split) <;> simp
@[simp] theorem setEv_fw (f : Fld) (n : Nat) : (setEv s f n).fw = s.fw := by unfold setEv; (repeat split) <;> simp
@[simp] theorem setEv_chans (f : Fld) (n : Nat) : (setEv s f n).chans = s.chans := by unfold setEv; (repeat split) <;> simp
@[simp] theorem setEv_unit0 (f : Fld) (n : Nat) : (setEv s f n).unit0 = s.unit0 := by unfold setEv; (repeat split) <;> simp
@[simp] theorem setEv_mq (f : Fld) (n : Nat) : (setEv s f n).mq = s.mq := by unfold setEv; (repeat split) <;> simp
@[simp] theorem setEv_mem (f : Fld) (n : Nat) : (setEv s f n).mem = s.mem := by unfold setEv; (repeat split) <;> simp
@[simp] theorem setEv_ticks (f : Fld) (n : Nat) : (setEv s f n).ticks = s.ticks := by unfold setEv; (repeat split) <;> simp
@[simp] theorem setEv_now (f : Fld) (n : Nat) : (setEv s f n).now = s.now := by unfold setEv; (repeat split) <;> simp
@[simp] theorem setEv_started (f : Fld) (n : Nat) : (setEv s f n).started = s.started := by unfold setEv; (repeat split) <;> simp
@[simp] theorem setEv_free (f : Fld) (n : Nat) : (setEv s f n).free = s.free := by unfold setEv; (repeat split) <;> simp
@[simp] theorem setEv_out (f : Fld) (n : Nat) : (setEv s f n).out = s.out := by unfold setEv; (repeat split) <;> simp
@[simp] theorem setEv_pending (f : Fld) (n : Nat) : (setEv s f n).pending = s.pending := by unfold setEv; (repeat split) <;> simp

@[simp] theorem emit_out (e : Emit) : (emit s e).out = e :: s.out := rfl
@[simp] theorem setF_cells (f : Fld) (v : Nat) : (setF s f v).cells = mput s.cells f.key (v % 2 ^ f.w) := rfl
@[simp] theorem modQuad_quads (q : Nat) (g : Quad → Quad) : (modQuad s q g).quads = mset s.quads q (g (quadOf s q)) {} := rfl
@[simp] theorem modPlot_plots (p : Nat) (g : Plot → Plot) : (modPlot s p g).plots = mset s.plots p (g (plotOf s p)) {} := rfl

end Sys2Proof.Machine
end

