-- ==== Sys2Proof/Laws/Fields.lean ====
section
/-!
SUPPORT. Register fields: what a read gives after each of the updates of Ops, and that only the field written changes.
-/
namespace Sys2Proof.Machine

variable (s : State)

/-- A read after a write of the same field gives the value, cut to the field's width (R11). -/
theorem getF_setF_same (f : Fld) (v : Nat) : getF (setF s f v) f = v % 2 ^ f.w := by simp [getF, setF]

/-- A write of a field leaves every field at another place alone. -/
theorem getF_setF_ne {f g : Fld} (v : Nat) (h : g.key ≠ f.key) : getF (setF s f v) g = getF s g := by
  simp [getF, setF, mget_mput_ne _ _ _ h]

theorem getF_setF (f g : Fld) (v : Nat) : getF (setF s f v) g = if g.key = f.key then v % 2 ^ f.w else getF s g := by
  split_ifs with h
  · simp [getF, setF, h]
  · exact getF_setF_ne s v h

theorem getF_setB_same (f : Fld) (b : Bool) (h : f.w = 1) : getF (setB s f b) f = if b then 1 else 0 := by
  unfold setB
  rw [getF_setF_same, h]
  cases b <;> rfl

theorem getF_setB_ne {f g : Fld} (b : Bool) (h : g.key ≠ f.key) : getF (setB s f b) g = getF s g := getF_setF_ne s _ h

theorem getF_bump_same (f : Fld) : getF (bump s f) f = min (getF s f + 1) f.max % 2 ^ f.w := getF_setF_same s f _

/-- A counter stops at its maximum. -/
theorem getF_bump_min (f : Fld) : getF (bump s f) f = min (getF s f + 1) f.max := by
  rw [getF_bump_same]
  apply Nat.mod_eq_of_lt
  have : 0 < 2 ^ f.w := Nat.two_pow_pos _
  unfold Fld.max
  omega

theorem getF_bump_ne {f g : Fld} (h : g.key ≠ f.key) : getF (bump s f) g = getF s g := getF_setF_ne s _ h

theorem getF_bumpBy_ne {f g : Fld} (n : Nat) (h : g.key ≠ f.key) : getF (bumpBy s f n) g = getF s g := getF_setF_ne s _ h

theorem getF_resetF_same (f : Fld) : getF (resetF s f) f = f.rst % 2 ^ f.w := getF_setF_same s f _

theorem getF_resetF_ne {f g : Fld} (h : g.key ≠ f.key) : getF (resetF s f) g = getF s g := getF_setF_ne s _ h

/-- Two states with the same cells read alike. -/
theorem getF_congr {s t : State} (h : t.cells = s.cells) (f : Fld) : getF t f = getF s f := by simp [getF, h]

@[simp] theorem getF_setQuad (q : Nat) (x : Quad) (f : Fld) : getF (setQuad s q x) f = getF s f := rfl
@[simp] theorem getF_modQuad (q : Nat) (g : Quad → Quad) (f : Fld) : getF (modQuad s q g) f = getF s f := rfl
@[simp] theorem getF_setPlot (p : Nat) (x : Plot) (f : Fld) : getF (setPlot s p x) f = getF s f := rfl
@[simp] theorem getF_modPlot (p : Nat) (g : Plot → Plot) (f : Fld) : getF (modPlot s p g) f = getF s f := rfl
@[simp] theorem getF_emit (e : Emit) (f : Fld) : getF (emit s e) f = getF s f := rfl

/-! ### Bits -/

theorem bitOf_testBit (n i : Nat) : bitOf n i = n.testBit i := by
  simp [bitOf, Nat.testBit, Nat.shiftRight_eq_div_pow, Nat.one_and_eq_mod_two]

/-! ### Events -/

/-- Raising a source changes one word of the pending bits at most. -/
theorem getF_raise_ne {g : Fld} (n : Nat) (h : g.key ≠ (F.EVG_PEND_PEND (n / 64)).key) : getF (raise s n) g = getF s g := by
  unfold raise
  simp only
  split
  · rfl
  · exact getF_setF_ne s _ h

theorem getF_setEv_ne {f g : Fld} (n : Nat) (h : g.key ≠ f.key) (h' : g.key ≠ (F.EVG_PEND_PEND (n / 64)).key) :
    getF (setEv s f n) g = getF s g := by
  unfold setEv
  split
  · rfl
  · rw [getF_raise_ne _ _ h', getF_setF_ne _ _ h]

/-- After an event its bit is 1. -/
theorem bitF_setEv {f : Fld} (n : Nat) (hw : f.w = 1) (h : f.key ≠ (F.EVG_PEND_PEND (n / 64)).key) : bitF (setEv s f n) f = true := by
  unfold setEv
  split
  · assumption
  · rw [bitF, getF_raise_ne _ _ h, getF_setF_same, hw]; rfl

/-! ### Parts of the state -/

theorem quadOf_modQuad_same (h : mwf s.quads = true) (q : Nat) (g : Quad → Quad) : quadOf (modQuad s q g) q = g (quadOf s q) :=
  mget_mset_same _ _ _ h

theorem quadOf_modQuad_ne (h : mwf s.quads = true) {q r : Nat} (hr : r ≠ q) (g : Quad → Quad) : quadOf (modQuad s q g) r = quadOf s r :=
  mget_mset_ne _ _ hr h

theorem plotOf_modPlot_same (h : mwf s.plots = true) (p : Nat) (g : Plot → Plot) : plotOf (modPlot s p g) p = g (plotOf s p) :=
  mget_mset_same _ _ _ h

theorem plotOf_modPlot_ne (h : mwf s.plots = true) {p r : Nat} (hr : r ≠ p) (g : Plot → Plot) : plotOf (modPlot s p g) r = plotOf s r :=
  mget_mset_ne _ _ hr h

@[simp] theorem quadOf_setF (f : Fld) (v q : Nat) : quadOf (setF s f v) q = quadOf s q := rfl
@[simp] theorem plotOf_setF (f : Fld) (v p : Nat) : plotOf (setF s f v) p = plotOf s p := rfl
@[simp] theorem quadOf_modPlot (p : Nat) (g : Plot → Plot) (q : Nat) : quadOf (modPlot s p g) q = quadOf s q := rfl
@[simp] theorem plotOf_modQuad (q : Nat) (g : Quad → Quad) (p : Nat) : plotOf (modQuad s q g) p = plotOf s p := rfl

end Sys2Proof.Machine
end

