-- ==== Sys2Proof/Laws/Memory.lean ====
section
/-!
SUPPORT. Byte memory: what each operation leaves at each address, that it changes nothing but memory, and that it keeps the canonical
form.
-/
namespace Sys2Proof.Machine

/-! ### Only memory changes -/

theorem memPut_only (s : State) (a : Nat) (b : Byte) : memPut s a b = { s with mem := (memPut s a b).mem } := rfl

theorem memClear_only (s : State) (lo n : Nat) : memClear s lo n = { s with mem := (memClear s lo n).mem } := rfl

theorem memWrite_only (s : State) (a : Nat) (bs : List Byte) : memWrite s a bs = { s with mem := (memWrite s a bs).mem } := by
  induction bs generalizing s a with
  | nil => rfl
  | cons b bs ih => rw [memWrite, ih]; rfl

/-! ### The canonical form is kept -/

theorem memWf_iff {m : List Host.Cell} : memWf m = true ↔ mwf m = true ∧ ∀ e ∈ m, e.2 ≠ 0 := by simp [memWf]

theorem memWf_put {s : State} (a : Nat) (b : Byte) (h : memWf s.mem = true) : memWf (memPut s a b).mem = true := by
  obtain ⟨hm, hz⟩ := memWf_iff.1 h
  refine memWf_iff.2 ⟨mwf_mset a b 0 hm, fun e he => ?_⟩
  simp only [memPut, mset] at he
  split_ifs at he with hb
  · exact hz e ((mdel_sublist _ _).subset he)
  · rcases mem_mput he with rfl | he
    · exact hb
    · exact hz e he

theorem memWf_write {s : State} (a : Nat) (bs : List Byte) (h : memWf s.mem = true) : memWf (memWrite s a bs).mem = true := by
  induction bs generalizing s a with
  | nil => exact h
  | cons b bs ih => exact ih _ (memWf_put a b h)

theorem memWf_filter {m : List Host.Cell} (p : Host.Cell → Bool) (h : memWf m = true) : memWf (m.filter p) = true := by
  obtain ⟨hm, hz⟩ := memWf_iff.1 h
  exact memWf_iff.2 ⟨mwf_filter p hm, fun e he => hz e (List.mem_of_mem_filter he)⟩

theorem memWf_clear {s : State} (lo n : Nat) (h : memWf s.mem = true) : memWf (memClear s lo n).mem = true := memWf_filter _ h

theorem memWf_reset : memWf State.reset.mem = true := rfl

/-! ### What an address reads as -/

@[simp] theorem memByte_put_same {s : State} (a : Nat) (b : Byte) (h : mwf s.mem = true) : memByte (memPut s a b) a = b :=
  mget_mset_same a b 0 h

theorem memByte_put_ne {s : State} {a c : Nat} (b : Byte) (hc : c ≠ a) (h : mwf s.mem = true) :
    memByte (memPut s a b) c = memByte s c := mget_mset_ne b 0 hc h

/-- A byte outside the range written reads as before. -/
theorem memByte_write_out {s : State} {a c : Nat} (bs : List Byte) (hc : c < a ∨ a + bs.length ≤ c) (h : mwf s.mem = true) :
    memByte (memWrite s a bs) c = memByte s c := by
  induction bs generalizing s a with
  | nil => rfl
  | cons b bs ih =>
    rw [List.length_cons] at hc
    rw [memWrite, ih (by omega) (mwf_mset a b 0 h), memByte_put_ne b (by omega) h]

/-- A byte of the range written reads as the byte written there. -/
theorem memByte_write_in {s : State} (a : Nat) {bs : List Byte} {k : Nat} (hk : k < bs.length) (h : mwf s.mem = true) :
    memByte (memWrite s a bs) (a + k) = bs[k] := by
  induction bs generalizing s a k with
  | nil => simp at hk
  | cons b bs ih =>
    have hw : mwf (memPut s a b).mem = true := mwf_mset a b 0 h
    cases k with
    | zero => rw [memWrite, memByte_write_out bs (by omega) hw, Nat.add_zero, memByte_put_same a b h]; rfl
    | succ k =>
      rw [List.length_cons] at hk
      rw [memWrite, show a + (k + 1) = a + 1 + k by omega, ih (a + 1) (by omega) hw]
      rfl

theorem mfind_filter_key {α : Type} {m : SMap α} (p : Nat → Bool) (i : Nat) (h : mwf m = true) :
    mfind (m.filter fun x => p x.1) i = if p i then mfind m i else none := by
  induction m with
  | nil => simp
  | cons e m ih =>
    obtain ⟨k, v⟩ := e
    obtain ⟨hk, hm⟩ := mwf_cons.1 h
    have ih := ih hm
    by_cases hp : p k = true
    · rw [List.filter_cons_of_pos (by exact hp)]
      simp only [mfind, ih]
      by_cases h1 : i < k
      · simp [h1]
      · by_cases h2 : i = k
        · subst h2; simp [hp]
        · simp [h1, h2]
    · rw [List.filter_cons_of_neg (by exact hp), ih]
      by_cases h2 : i = k
      · subst h2; simp [hp]
      · by_cases h1 : i < k
        · have : mfind m i = none := mfind_above fun e he => lt_trans h1 (hk e he)
          simp [mfind, h1, this]
        · simp [mfind, h1, h2]

/-- A cleared byte reads 0 (R477). -/
theorem memByte_clear_in {s : State} {lo n c : Nat} (hc : lo ≤ c ∧ c < lo + n) (h : mwf s.mem = true) : memByte (memClear s lo n) c = 0 := by
  rw [memByte, memClear, mget_eq_mfind, mfind_filter_key (fun k => decide (k < lo) || decide (lo + n ≤ k)) c h]
  have : ¬(c < lo ∨ lo + n ≤ c) := by omega
  simp [this]

/-- A byte outside the range cleared reads as before. -/
theorem memByte_clear_out {s : State} {lo n c : Nat} (hc : c < lo ∨ lo + n ≤ c) (h : mwf s.mem = true) :
    memByte (memClear s lo n) c = memByte s c := by
  rw [memByte, memByte, memClear, mget_eq_mfind, mget_eq_mfind,
    mfind_filter_key (fun k => decide (k < lo) || decide (lo + n ≤ k)) c h]
  simp [hc]

/-- Reading bytes that lie outside the range written. -/
theorem memRead_write_out {s : State} {a c n : Nat} (bs : List Byte) (hc : c + n ≤ a ∨ a + bs.length ≤ c) (h : mwf s.mem = true) :
    memRead (memWrite s a bs) c n = memRead s c n := by
  refine List.map_congr_left fun k hk => ?_
  rw [List.mem_range] at hk
  exact memByte_write_out bs (by omega) h

end Sys2Proof.Machine
end

