-- ==== Sys2Proof/Laws/Ops.lean ====
section
/-!
SUPPORT. The shared operations: for each, the fields of the state it can change. A prover cites these in place of unfolding the operation.
-/
namespace Sys2Proof.Machine

variable (s : State)

/-! ### Registers -/

theorem setF_only (f : Fld) (v : Nat) : OnlyCells s (setF s f v) := rfl

theorem setB_only (f : Fld) (b : Bool) : OnlyCells s (setB s f b) := rfl

theorem bump_only (f : Fld) : OnlyCells s (bump s f) := rfl

theorem highWater_only (f : Fld) (v : Nat) : OnlyCells s (highWater s f v) := by
  unfold OnlyCells highWater; split_ifs <;> rfl

/-- An Event Gate source is raised in its pending bit alone (R416). -/
theorem raise_only (src : Nat) : OnlyCells s (raise s src) := by
  unfold OnlyCells raise; dsimp only; split_ifs <;> rfl

theorem setEv_only (f : Fld) (src : Nat) : OnlyCells s (setEv s f src) := by
  unfold OnlyCells setEv raise; dsimp only; split_ifs <;> rfl

/-- A reserved encoding is recorded in registers alone (R549). -/
theorem formatRecord_only (who : Party) (off : Nat) : OnlyCells s (formatRecord s who off) := by
  unfold OnlyCells formatRecord raise; dsimp only; split_ifs <;> rfl

/-! ### Host ports, functions and vectors -/

/-- A packet is queued in a host port alone. -/
theorem pushTlp_only (n : Nat) (t : TlpOut) : pushTlp s n t = { s with ports := (pushTlp s n t).ports } := rfl

/-- An AER error changes the function's log, is shown, and may queue an error message at the port (R276). -/
theorem aerLogAs_only (p : Nat) (e : AerErr) (adv : Bool) :
    aerLogAs s p e adv = { s with funcs := (aerLogAs s p e adv).funcs, ports := (aerLogAs s p e adv).ports, out := .aer p e :: s.out } := by
  unfold aerLogAs; dsimp only; split <;> first | rfl | (split_ifs <;> rfl)

theorem aerLog_only (p : Nat) (e : AerErr) :
    aerLog s p e = { s with funcs := (aerLog s p e).funcs, ports := (aerLog s p e).ports, out := .aer p e :: s.out } := aerLogAs_only s p e false

theorem commitMsix_only (p v : Nat) :
    commitMsix s p v = { s with msix := (commitMsix s p v).msix, ports := (commitMsix s p v).ports } := rfl

theorem commitMsi_only (p m : Nat) :
    commitMsi s p m = { s with funcs := (commitMsi s p m).funcs, ports := (commitMsi s p m).ports } := rfl

/-- An INTx message changes its port alone (R271). -/
theorem intaUpdate_only (n : Nat) : intaUpdate s n = { s with ports := (intaUpdate s n).ports } := by
  unfold intaUpdate; dsimp only; split_ifs <;> rfl

/-- A requested vector changes pending bits and the port's queue alone (R271, R273). -/
theorem reqVector_only (p v : Nat) :
    reqVector s p v = { s with msix := (reqVector s p v).msix, funcs := (reqVector s p v).funcs, ports := (reqVector s p v).ports } := by
  unfold reqVector
  by_cases h : dropByState s p v = true
  · simp only [h, if_true]
  · simp only [h]
    cases mechanism s p <;> dsimp only <;> split_ifs <;> first | rfl | (rw [intaUpdate_only]; rfl)

/-! ### The fault log -/

theorem markDirty_only (p : Nat) (high : Bool) : markDirty s p high = { s with plots := (markDirty s p high).plots } := rfl

theorem setHeld_only (p : Nat) (rs : List FaultRec) :
    setHeld s p rs = { s with cells := (setHeld s p rs).cells, plots := (setHeld s p rs).plots } := rfl

/-- A written record changes the ring's pointers, the plot, the port's queue and the vector's pending bits alone (R61, R64). -/
theorem faultWrite_only (p : Nat) (r : FaultRec) :
    faultWrite s p r = { s with cells := (faultWrite s p r).cells, plots := (faultWrite s p r).plots, funcs := (faultWrite s p r).funcs, msix := (faultWrite s p r).msix, ports := (faultWrite s p r).ports } := by
  unfold faultWrite
  dsimp only
  split_ifs <;> first | rfl | (rw [reqVector_only]; rfl)

theorem faultCreate_only (p : Nat) (r : FaultRec) :
    faultCreate s p r = { s with cells := (faultCreate s p r).cells, plots := (faultCreate s p r).plots, funcs := (faultCreate s p r).funcs, msix := (faultCreate s p r).msix, ports := (faultCreate s p r).ports } := by
  unfold faultCreate
  dsimp only
  split_ifs <;> first | rfl | (rw [faultWrite_only]; rfl)

/-! ### The plot table (R43, R47) -/

/-- Choosing a route counts in registers alone (R113). -/
theorem routeOf_only (d r : Nat) (p : Option Nat) : OnlyCells s (routeOf s d r p).1 := by
  unfold OnlyCells routeOf
  split_ifs
  · rfl
  · rfl
  · split
    · exact bump_only s _
    · dsimp only
      split_ifs
      · rfl
      · split
        · exact setEv_only _ _ _
        · rfl

theorem occUpdate_only (i : Nat) : OnlyCells s (occUpdate s i) := highWater_only _ _ _

/-- A transaction that enters Pergola changes its queues and the registers that show them (R21, R213). -/
theorem pgaPush_only (e c : Nat) (f : FlowId) (x : QTxn) :
    pgaPush s e c f x = { s with cells := (pgaPush s e c f x).cells, pga := (pgaPush s e c f x).pga } := by
  unfold pgaPush voqPut; dsimp only; split_ifs <;> first | rfl | rw [occUpdate_only]

/-- A corrected tenant tag is counted in registers alone. -/
theorem tagFix_only (p : Nat) : OnlyCells s (tagFix s p) := by
  unfold OnlyCells tagFix
  split
  · rfl
  · split_ifs
    · rfl
    · exact setEv_only _ _ _

/-- A fabric request for configuration memory changes the quadrant and Pergola (R24, R43). -/
theorem tableSend_only (q : Nat) (use : TabUse) (op : FabOp) (addr len : Nat) (data : List Byte) :
    (tableSend s q use op addr len data).1 = { s with cells := (tableSend s q use op addr len data).1.cells, quads := (tableSend s q use op addr len data).1.quads, pga := (tableSend s q use op addr len data).1.pga } := by
  have h := routeOf_only s (getF s (F.PLT_TABLE_NODE_NODE q)) (myNode s (1 + q)) (some (q * 1024))
  unfold OnlyCells at h
  unfold tableSend
  dsimp only
  split
  · rw [h]
  · rw [pgaPush_only, tagFix_only, h]; rfl

/-- A write to the plot table is a packet of the quadrant's port, or a fabric request. -/
theorem tableWrite_only (q : Nat) (use : TabUse) (addr : Nat) (data : List Byte) :
    (tableWrite s q use addr data).1 = { s with cells := (tableWrite s q use addr data).1.cells, quads := (tableWrite s q use addr data).1.quads, ports := (tableWrite s q use addr data).1.ports, pga := (tableWrite s q use addr data).1.pga } := by
  unfold tableWrite
  split_ifs
  · rfl
  · rw [tableSend_only]
  · rfl

theorem writebackFail_only (p : Nat) (high : Bool) :
    writebackFail s p high = { s with cells := (writebackFail s p high).cells, plots := (writebackFail s p high).plots } := by
  unfold writebackFail; dsimp only; split_ifs <;> rfl

theorem writebackLow_only (p : Nat) :
    (writebackLow s p).1 = { s with cells := (writebackLow s p).1.cells, plots := (writebackLow s p).1.plots, quads := (writebackLow s p).1.quads, ports := (writebackLow s p).1.ports, pga := (writebackLow s p).1.pga } := by
  unfold writebackLow
  dsimp only
  split_ifs
  · rw [tableWrite_only]; rfl
  · rw [writebackFail_only, tableWrite_only]; rfl

/-- A write-back that starts changes the plot, the failure count, and where it goes: the port's queue, or the quadrant and Pergola (R47). -/
theorem writebackStart_only (p : Nat) :
    writebackStart s p = { s with cells := (writebackStart s p).cells, plots := (writebackStart s p).plots, quads := (writebackStart s p).quads, ports := (writebackStart s p).ports, pga := (writebackStart s p).pga } := by
  unfold writebackStart
  dsimp only
  split_ifs
  · rfl
  · rw [writebackFail_only]
  · rw [tableWrite_only]; rfl
  · rw [writebackFail_only, tableWrite_only]; rfl
  · rw [writebackLow_only]; rfl

theorem enterState_only (p st : Nat) :
    enterState s p st = { s with cells := (enterState s p st).cells, plots := (enterState s p st).plots, quads := (enterState s p st).quads, ports := (enterState s p st).ports, pga := (enterState s p st).pga } := by
  unfold enterState; rw [writebackStart_only]; rfl

/-! ### The management queue (R345, R392) -/

/-- The queue's head is shown in registers and bytes of memory alone. -/
theorem mqShow_only : mqShow s = { s with cells := (mqShow s).cells, mem := (mqShow s).mem } := by
  unfold mqShow
  dsimp only
  split
  · rfl
  · rw [memWrite_only]; rfl

end Sys2Proof.Machine
end

