-- ==== Sys2Proof/Tests/Slice0.lean ====
section
/-!
SUPPORT. Tests of the model: for every statement a concrete state and operands that meet the hypotheses of each of its clauses, and terms that
the checks of well-formedness refuse.
-/
namespace Sys2Proof.Tests
open Sys2Proof Sys2Proof.Machine

-- One test after the other: each waits for the kernel, and a thread a waiting test would not fit the check's memory.
set_option Elab.async false

/-- The state after reset with some register fields set. -/
def st (fs : List (Fld × Nat)) : State := fs.foldl (fun s x => setF s x.1 x.2) {}

/-- A Trellis table of one entry of a class, at the exact level and for all ports. -/
def row (cls key res : Nat) : SMap Nat :=
  let i := 8 * trellisBucket cls 0 key
  [(2 * i, cls * 2 ^ 60 + key), (2 * i + 1, res)]

/-- The bytes of a PlotEntry with some of its fields. -/
def image (fs : List ((Fld × Nat) × Nat)) : List Byte :=
  (List.range 32).flatMap fun i => leBytes 8 ((fs.filter fun x => x.1.2 == 8 * i).map fun x => x.2 * 2 ^ x.1.1.lo).sum

/-! ### What the spec works out itself -/

/-- R251: the check values of the two seals over the bytes "123456789". -/
theorem test_seal_check_values :
    Nat.xor (sealBytes 0 (sealMask 0) [0x31, 0x32, 0x33, 0x34, 0x35, 0x36, 0x37, 0x38, 0x39]) (sealMask 0) = 0xE3069283 ∧
    Nat.xor (sealBytes 1 (sealMask 1) [0x31, 0x32, 0x33, 0x34, 0x35, 0x36, 0x37, 0x38, 0x39]) (sealMask 1) = 0xAE8B14860A799888 := by
  decide +kernel

/-- Chapter 4's example under R108: the bucket of the node key 0x1_9105_0000. -/
theorem test_trellis_bucket_of_the_example : trellisBucket 1 0 0x191050000 = 6220 := by decide +kernel

/-- Chapter 4's example under R111: the two sources spread over ports 2 and 3. -/
theorem test_spread_of_the_example :
    choosePort [2, 3] 1 0x12102 0x19105 = some 2 ∧ choosePort [2, 3] 1 0x12103 0x19105 = some 3 := by decide +kernel

/-- Chapter 21's example: where LDG_HOLD of Q2 and CFK_STATUS of F5 lie. -/
theorem test_register_addresses_of_the_example : A.LDG_HOLD 2 = 0x198108 ∧ A.CFK_STATUS 5 = 0x258008 := by decide +kernel

/-- Chapter 14's example: slot 3 of plot 1,037. -/
theorem test_mailbox_slot_of_the_example : slotAddr 1037 3 = 0x4040D300 := by decide +kernel

/-- Chapter 9's example under R249: the byte at offset 4,660 of four ways of 64 bytes. -/
theorem test_weave_place_of_the_example :
    wayReqs { elem := 64, ways := [⟨0x40100000, some 0x19105⟩, ⟨0x40100000, some 0x19106⟩, ⟨0x40100000, some 0x19107⟩, ⟨0x40100000, some 0x19108⟩] } 4660 1 =
      [{ node := some 0x19105, addr := 0x401004B4, len := 1 }] := by decide +kernel

/-- Chapter 9's example under R250: a burst of 4 KiB makes one run of 1,024 bytes in each way. -/
theorem test_weave_runs_of_the_example :
    (wayReqs { elem := 64, ways := [⟨0x40100000, some 0x19105⟩, ⟨0x40100000, some 0x19106⟩, ⟨0x40100000, some 0x19107⟩, ⟨0x40100000, some 0x19108⟩] }
      (9 * 4096) 4096).map (fun r => (r.addr, r.len)) = [(0x40102400, 1024), (0x40102400, 1024), (0x40102400, 1024), (0x40102400, 1024)] := by
  decide +kernel

/-- Chapter 6's example under R173: FetchAdd of 1 to 0x29. -/
theorem test_fetch_add_of_the_example : atomicNew 1 (leBytes 8 0x29) (leBytes 8 1) = leBytes 8 0x2A := by decide +kernel

/-- Chapter 24's configuration: the POSITION word of position 2. -/
theorem test_position_word_of_the_example : persistWord 2 = 0x42 := by decide +kernel

/-! ### Terms that well-formedness refuses -/

theorem test_ill_formed_misaligned_write : Instr.wf (.registerWrite .gardener (.device 4) true 0 {}) = false := by decide
theorem test_ill_formed_wide_value_of_a_4_byte_write : Instr.wf (.registerWrite .gardener (.device 4) false (2 ^ 32) {}) = false := by decide
theorem test_ill_formed_ecc_offset : Instr.wf (.sramEccUncorrectable .otherStaging 4) = false := by decide
theorem test_ill_formed_struck_tag : Instr.wf (.sramEccUncorrectable (.ledgerEntry 0 65536) 0) = false := by decide
theorem test_ill_formed_struck_prefetch : Instr.wf (.sramEccUncorrectable (.prefetchData 0 64) 0) = false := by decide
theorem test_ill_formed_tlp_bar : Instr.wf (.hostTlpReceive 0 { kind := .memRead, index := 0, bar := 1, len := 8 } {}) = false := by decide
theorem test_ill_formed_tlp_data : Instr.wf (.hostTlpReceive 0 { kind := .memWrite, index := 0, len := 8, data := [1] } {}) = false := by decide
theorem test_ill_formed_completion_data : Instr.wf (.hostCompletionArrival 0 0 .ur false [1]) = false := by decide
theorem test_ill_formed_frame : Instr.wf (.calfosFrameReceive 0 (.decoded 0 [] [] [])) = false := by decide
theorem test_ill_formed_queue_place : Instr.wf (.readBudgetExpire (.queued 0 32)) = false := by decide
theorem test_ill_formed_training_block : Instr.wf (.trainCapReceived 0 [1]) = false := by decide
theorem test_ill_formed_training_result : Instr.wf (.trainingStepComplete 0 { codes := [0, 1, 2, 3, 4, 5, 6, 7, 8] }) = false := by decide
theorem test_ill_formed_sideband_payload : Instr.wf (.rollReceive 0 0 0 (List.replicate 33 0)) = false := by decide
theorem test_ill_formed_image : Instr.wf (.recoveryImageVerified { magic := 0, version := 0, len := 0, load := 0, entry := 0, keyIndex := 0, keyHash := [], body := [] }) = false := by
  decide
theorem test_ill_formed_boot_image : Instr.wf (.bootImageLoaded none (some { magic := 0, version := 0, len := 0, load := 0, entry := 0, keyIndex := 0, keyHash := [], body := [] })) = false := by
  decide
theorem test_ill_formed_link_speed : Instr.wf (.hostLinkUp 0 0 0 false) = false := by decide
theorem test_ill_formed_slot_access : Instr.wf (.mailboxSlotAccess 0 false 4095 [1, 2]) = false := by decide
theorem test_ill_formed_i3c_packet : Instr.wf (.i3cPacketReceived (List.replicate 257 0)) = false := by decide +kernel
theorem test_ill_formed_doe_object : Instr.wf (.doeObjectReceived 0 [1]) = false := by decide
theorem test_ill_formed_fw_data : Instr.wf (.fwData 0 0 0 (List.replicate 225 0)) = false := by decide +kernel
theorem test_ill_formed_mailbox_answer : Instr.wf (.getHealth 0 0 (List.replicate 241 0)) = false := by decide +kernel
theorem test_ill_formed_key_hash : Instr.wf (.hedgeKeyExchange .gardener 1 true [] true []) = false := by decide
theorem test_ill_formed_fence_list : Instr.wf (.fenceSet .gardener 0 (List.replicate 257 0) []) = false := by decide +kernel
theorem test_well_formed_write : Instr.wf (.registerWrite .gardener (.device 8) true (2 ^ 63) {}) = true := by decide

/-- R292's example: four UI through the precoder, and back. -/
theorem test_precode_example : precode 0 [0, 3, 2, 1] = [0, 3, 3, 2] ∧ unprecode 0 [0, 3, 3, 2] = [0, 3, 2, 1] := by decide

/-- R298's example: symbol 285 of frame 3 is its lane's symbol 196, on lane 7, and bit 4 of it lane data bit 1,964. -/
theorem test_stripe_example :
    symbolLane 3 285 = 7 ∧ laneCount 3 7 + ((List.range 285).filter fun k => symbolLane 3 k == 7).length = 196 ∧ 10 * 196 + 4 = 1964 := by decide

/-- R501: IDCODE at stepping A0. -/
theorem test_idcode : tapIdcode State.reset = 0x0825653B := by decide +kernel

/-- R493: from all state bits 1, PRBS7 sends six zeros and then a one, worked by hand from its polynomial. -/
theorem test_prbs7_start : patternBits 0 8 = [false, false, false, false, false, false, true, false] := by decide

/-- R482, R483: before the rails are up RAIL_EN is low and an output of a main rail drives nothing. -/
theorem test_outputs_at_reset : railEnPin State.reset = .low ∧ alertPin State.reset = .unpowered := by decide
/-! ### Hypotheses that can be met -/

/-- Bed 2 without its check word. -/
def bed2Bare : State :=
  { st [(F.ROOT_STATUS_IN_EFFECT, 1)] with root := { words := [(3072, 0x5253424400000001), (3073, 1), (3076, 0x110000), (3078, 0x110000),
      (3080, 0x110000), (3082, 0x110000)] } }

/-- A device whose bed 1 is in effect and whose bed 2 is valid. -/
def bed2 : State := { bed2Bare with root := { bed2Bare.root with words := mput bed2Bare.root.words 3075 (bedCrc bed2Bare 2) } }

/-- A bed's check word is none of the words it covers: 0, 1 and 4 to 3071. -/
theorem bedCrc_congr (s t : State) (b : Nat) (h : ∀ w, w ≠ 3 → bedWord s b w = bedWord t b w) : bedCrc s b = bedCrc t b := by
  have hf : ∀ (ws : List Nat) (r : Nat), (∀ w ∈ ws, w ≠ 3) →
      ws.foldl (fun r w => sealBytes 1 r (leBytes 8 (bedWord s b w))) r = ws.foldl (fun r w => sealBytes 1 r (leBytes 8 (bedWord t b w))) r := by
    intro ws
    induction ws with
    | nil => intro r _; simp only [List.foldl_nil]
    | cons w ws ih =>
      intro r hw
      rw [List.foldl_cons, List.foldl_cons, h w (hw w List.mem_cons_self)]
      exact ih _ fun v hv => hw v (List.mem_cons_of_mem _ hv)
  have hr : ∀ w ∈ 0 :: 1 :: (List.range 3068).map (fun i => i + 4), w ≠ 3 := by
    intro w hw
    rw [List.mem_cons, List.mem_cons, List.mem_map] at hw
    rcases hw with rfl | rfl | ⟨i, -, rfl⟩ <;> omega
  unfold bedCrc
  dsimp only
  rw [hf _ _ hr]

theorem bed2_crc : bedCrc bed2 2 = bedCrc bed2Bare 2 :=
  bedCrc_congr _ _ _ fun w hw =>
    have hn : bedIndex 2 w ≠ 3075 := by unfold bedIndex; omega
    mget_mput_ne bed2Bare.root.words (bedCrc bed2Bare 2) 0 hn

/-- Bed 2 is valid. -/
theorem bed2_valid : bedValid bed2 2 = true := by
  unfold bedValid bedValidAs
  have hw : bedWord bed2 2 3 = bedCrc bed2Bare 2 := mget_mput_same bed2Bare.root.words 3075 (bedCrc bed2Bare 2) 0
  exact Bool.and_eq_true_iff.mpr ⟨by decide +kernel, beq_iff_eq.mpr (bed2_crc.trans hw.symm)⟩

/-- The hypotheses of EventGateClaims can be met. -/
theorem test_EventGateClaims_hypotheses :
    (∃ (s : State) (c : Fin 4) (n : Nat), bitF s (F.EVG_CORE_ACTIVE c) = false ∧ n < 1536 ∧ evgReady s c n = true ∧ (∀ m < n, evgReady s c m = false)) ∧
    (∃ (s : State) (c : Fin 4), bitF s (F.EVG_CORE_ACTIVE c) = false ∧ (∀ m < 1536, evgReady s c m = false)) ∧
    (∃ (s : State) (c : Fin 4), bitF s (F.EVG_CORE_ACTIVE c) = true) ∧
    (∃ (c : Fin 4) (k : Fin 4) (who : Party) (high : Bool), (isHost who = true ∨ k ≠ c ∨ high = true)) :=
    ⟨⟨(st [(F.EVG_PEND_PEND 1, 2 ^ 8), (F.EVG_ENABLE_ENABLE 1, 2 ^ 8)]), 0, 72, by decide +kernel⟩,
     ⟨{}, 0, by decide +kernel⟩,
     ⟨(st [(F.EVG_CORE_ACTIVE 0, 1)]), 0, by decide +kernel⟩,
     ⟨0, 1, .gardener, false, by decide +kernel⟩⟩

/-- The hypotheses of EoiEndsActive can be met. -/
theorem test_EoiEndsActive_hypotheses :
    (∃ (s : State) (c : Fin 4) (n : BitVec 11), partyOpen s .gardener = true ∧ bitF s (F.EVG_CORE_ACTIVE c) = true ∧ getF s (F.EVG_CORE_ACTIVE_SRC c)
      = n.toNat) ∧
    (∃ (s : State) (c : Fin 4) (k : Fin 4) (n : BitVec 11), partyOpen s .gardener = true ∧ (k ≠ c ∨ bitF s (F.EVG_CORE_ACTIVE c) = false ∨ getF s
      (F.EVG_CORE_ACTIVE_SRC c) ≠ n.toNat)) :=
    ⟨⟨(st [(F.EVG_CORE_ACTIVE 0, 1), (F.EVG_CORE_ACTIVE_SRC 0, 72)]), 0, 72, by decide +kernel⟩,
     ⟨{}, 0, 0, 72, by decide +kernel⟩⟩

/-- The hypotheses of EventGateWrites can be met. -/
theorem test_EventGateWrites_hypotheses :
    (∃ (s : State) (n : BitVec 11), partyOpen s .gardener = true ∧ evgSource n.toNat = true) ∧
    (∃ (s : State) (n : BitVec 11), partyOpen s .gardener = true ∧ evgSource n.toNat = false) ∧
    (∃ (s : State), partyOpen s .gardener = true) ∧
    (∃ (s : State), partyOpen s .gardener = true) ∧
    (∃ (s : State), partyOpen s .gardener = true) ∧
    (∃ (s : State), partyOpen s .gardener = true) :=
    ⟨⟨{}, 72, by decide +kernel⟩,
     ⟨{}, 12, by decide +kernel⟩,
     ⟨{}, by decide +kernel⟩,
     ⟨{}, by decide +kernel⟩,
     ⟨{}, by decide +kernel⟩,
     ⟨{}, by decide +kernel⟩⟩

/-- The hypotheses of RootWriteQueued can be met. -/
theorem test_RootWriteQueued_hypotheses :
    (∃ (s : State) (v : Word) (i : Nat), partyOpen s .gardener = true ∧ getF s F.ROOT_ADDR_INDEX = i ∧ classRefuses s i v.toNat true = none ∧
      rootComing s i ≠ v.toNat ∧ mget s.root.used i 0 < 64) :=
    ⟨(st [(F.ROOT_ADDR_INDEX, 6160), (F.ROOT_STATUS_PROVISION, 1)]), 5, 6160, by decide +kernel⟩

/-- The hypotheses of RootWriteEndsAtOnce can be met. -/
theorem test_RootWriteEndsAtOnce_hypotheses :
    (∃ (s : State) (v : Word) (i : Nat) (r : Nat), partyOpen s .gardener = true ∧ getF s F.ROOT_ADDR_INDEX = i ∧ classRefuses s i v.toNat true = some
      r) ∧
    (∃ (s : State) (v : Word) (i : Nat), partyOpen s .gardener = true ∧ getF s F.ROOT_ADDR_INDEX = i ∧ classRefuses s i v.toNat true = none ∧
      rootComing s i ≠ v.toNat ∧ 64 ≤ mget s.root.used i 0) ∧
    (∃ (s : State) (v : Word) (i : Nat), partyOpen s .gardener = true ∧ getF s F.ROOT_ADDR_INDEX = i ∧ classRefuses s i v.toNat true = none ∧
      rootComing s i = v.toNat) ∧
    (∃ (s : State), partyOpen s .gardener = true) ∧
    (∃ (s : State) (p : Fin 4), partyOpen s (.host p) = true) :=
    ⟨⟨(st [(F.ROOT_ADDR_INDEX, 6160)]), 5, 6160, 1, by decide +kernel⟩,
     ⟨{ st [(F.ROOT_ADDR_INDEX, 6208)] with root := { used := [(6208, 64)] } }, 5, 6208, by decide +kernel⟩,
     ⟨{ st [(F.ROOT_ADDR_INDEX, 6208)] with root := { words := [(6208, 5)] } }, 5, 6208, by decide +kernel⟩,
     ⟨{}, by decide +kernel⟩,
     ⟨{ st [(F.PWM_GATE_RUN, 15), (F.PWM_STATUS_MODE, 2), (F.HPT_LINK_DL_UP 0, 1), (F.HPT_LINK_READY 0, 1), (F.HPT_LINK_LTSSM 0, 3), (F.RST_SOFT_QUAD, 0), (F.PE_STATUS_STATE 0, 2), (F.PE_CAPS_MGMT_EN 0, 1)] with funcs := [(0, { mse := true, bme := true })], ports := [(0, { bar2Pf := 65536, bar0Big := true })] },
       0, by decide +kernel⟩⟩

/-- The hypotheses of RootReads can be met. -/
theorem test_RootReads_hypotheses :
    (∃ (s : State) (i : Nat), s.wf = true ∧ getF s F.ROOT_ADDR_INDEX = i) ∧
    (∃ (s : State) (i : Nat), s.wf = true ∧ getF s F.ROOT_ADDR_INDEX = i) ∧
    (∃ (s : State), bitF s F.ROOT_ADDR_INC = true) :=
    ⟨⟨{ st [(F.ROOT_ADDR_INDEX, 6208)] with root := { words := [(6208, 5)] } }, 6208, by decide +kernel⟩,
     ⟨{ st [(F.ROOT_ADDR_INDEX, 6208)] with root := { words := [(6208, 5)] } }, 6208, by decide +kernel⟩,
     ⟨(st [(F.ROOT_ADDR_INC, 1), (F.ROOT_ADDR_INDEX, 8191)]), by decide +kernel⟩⟩

/-- The hypotheses of RootPulses can be met. -/
theorem test_RootPulses_hypotheses :
    (∃ (s : State) (w : RootWrite) (ws : List RootWrite) (n : Fin 3), s.wf = true ∧ s.root.queue = w :: ws ∧ s.root.held = [] ∧ s.root.commit = none ∧
      n.val < 2) ∧
    (∃ (s : State) (w : RootWrite) (ws : List RootWrite), s.wf = true ∧ s.root.queue = w :: ws ∧ s.root.held = [] ∧ s.root.commit = none) :=
    ⟨⟨{ root := { queue := [{ index := 6208, value := 5, gardener := true }] } }, { index := 6208, value := 5, gardener := true }, [], 0,
       by decide +kernel⟩,
     ⟨{ root := { queue := [{ index := 6208, value := 5, gardener := true }] } }, { index := 6208, value := 5, gardener := true }, [],
       by decide +kernel⟩⟩

/-- The hypotheses of RootCommands can be met. -/
theorem test_RootCommands_hypotheses :
    (∃ (s : State) (b : Fin 4), (b.val = 1 ∨ b.val = 2) ∧ partyOpen s .gardener = true ∧ bitF s F.ROOT_RESULT_BUSY = false ∧ (s.root.queue.any fun w
      => w.index / 3072 == b.val - 1) = false) ∧
    (∃ (s : State) (b : Nat), partyOpen s .gardener = true ∧ bitF s F.ROOT_RESULT_BUSY = false ∧ bedNow s = b ∧ (b = 1 ∨ b = 2) ∧ bedValid s (otherBed
      b) = true ∧ mget s.root.used (bedIndex b 2) 0 < 64 ∧ rootComing s (bedIndex b 2) ≠ bedWord s b 2 % 16 + 2 * 16 + 2 ^ 7) ∧
    (∃ (s : State), partyOpen s .gardener = true ∧ bitF s F.ROOT_RESULT_BUSY = false ∧ (bedNow s = 0 ∨ bedValid s (otherBed (bedNow s)) = false)) ∧
    (∃ (s : State), partyOpen s .gardener = true ∧ bitF s F.ROOT_RESULT_BUSY = false) ∧
    (∃ (s : State), s.wf = true) :=
    ⟨⟨{}, 1, by decide +kernel⟩,
     ⟨bed2, 1, by decide +kernel, by decide +kernel, by decide +kernel, by decide +kernel, bed2_valid, by decide +kernel, by decide +kernel⟩,
     ⟨{}, by decide +kernel⟩,
     ⟨{}, by decide +kernel⟩,
     ⟨{}, by decide +kernel⟩⟩

/-- The hypotheses of RegisterWriteByType can be met. -/
theorem test_RegisterWriteByType_hypotheses :
    (∃ (s : State) (who : Party) (off : BitVec 24) (wide : Bool) (a : Nat), off.toNat / 8 * 8 = a ∧ a ∈ plainRegs ∧ aligned off.toNat wide = true ∧
      regOpen s who a = true ∧ clocksRun s a = true) ∧
    (∃ (s : State) (p : Fin 4096) (off : BitVec 16) (wide : Bool) (a : Nat), off.toNat / 8 * 8 ∈ plainPage ∧ a = 0x100000000 + p * 0x10000 + off.toNat
      / 8 * 8 ∧ aligned off.toNat wide = true ∧ funcMemory s p = true ∧ pageDead s p = false) ∧
    (∃ (x : BitVec 32) (wide : Bool) (a : Nat), x.toNat / 8 * 8 = a ∧ a ∈ plainPrivate ∧ aligned x.toNat wide = true ∧ (wide = true ∨ 0x30020000 ≤ a)) ∧
    (∃ (off : BitVec 24) (wide : Bool), aligned off.toNat wide = true) ∧
    (∃ (x : BitVec 32) (wide : Bool), 0x10000000 ≤ x.toNat ∧ x.toNat < 0x10400000 ∧ aligned x.toNat wide = true) :=
    ⟨⟨(st [(F.PWM_GATE_RUN, 15), (F.HDG_STATUS_SAFE, 0), (F.RST_SOFT_TRL, 0), (F.PWM_STATUS_MODE, 2)]), .gardener, 0x20020, true, 0x20020,
       by decide +kernel⟩,
     ⟨{ st [(F.PWM_GATE_RUN, 15), (F.PWM_STATUS_MODE, 2), (F.HPT_LINK_DL_UP 0, 1), (F.HPT_LINK_READY 0, 1), (F.HPT_LINK_LTSSM 0, 3), (F.RST_SOFT_QUAD, 0), (F.PE_STATUS_STATE 0, 2)] with funcs := [(0, { mse := true, bme := true })], ports := [(0, { bar2Pf := 65536, bar0Big := true })] },
       0, 0x410, true, (0x100000000 + 0x410), by decide +kernel⟩,
     ⟨0x30000040, true, 0x30000040, by decide +kernel⟩,
     ⟨0x20020, true, by decide +kernel⟩,
     ⟨0x10000010, true, by decide +kernel⟩⟩

/-- The hypotheses of RegisterAccessesApart can be met. -/
theorem test_RegisterAccessesApart_hypotheses :
    (∃ (s : State) (who : Party) (q : Fin 4), (partyOpen s who = false ∨ blockHeld s (A.LDG_LIMIT q) = true)) ∧
    (∃ (s : State), s.wf = true) ∧
    (∃ (s : State) (who : Party) (q : Fin 4), regOpen s who (A.LDG_LIMIT q) = true ∧ pwmMode s ≠ moDoze ∧ bitOf (getF s F.PWM_GATE_RUN) q = false) ∧
    (∃ (s : State) (q : Fin 4), pwmMode s ≠ moDoze ∧ bitOf (getF s F.PWM_GATE_RUN) q = false) :=
    ⟨⟨(st [(F.HDG_STATUS_SAFE, 1)]), .gardener, 0, by decide +kernel⟩,
     ⟨{}, by decide +kernel⟩,
     ⟨(st [(F.PWM_GATE_RUN, 0)]), .gardener, 0, by decide +kernel⟩,
     ⟨(st [(F.PWM_GATE_RUN, 0)]), 0, by decide +kernel⟩⟩

/-- The hypotheses of EccErrors can be met. -/
theorem test_EccErrors_hypotheses :
    (∃ (s : State) (p : Fin 4096) (w : Fin 64) (l : Line), s.wf = true ∧ lineOf s p w = some l ∧ bitF s F.GLB_ECC_ADDR_VALID = false) :=
    ⟨{ quads := [(0, { lines := [(192, { used := 1 })] })] }, 3, 0, { used := 1 }, by decide +kernel⟩

/-- The hypotheses of PergolaMoves can be met. -/
theorem test_PergolaMoves_hypotheses :
    (∃ (s : State) (u : State) (e : Fin 20) (c : Nat) (t : QTxn), coreRuns s = true ∧ t.host = none ∧ serveClasses s e (classesNow s e) = (u, some (c,
      t)) ∧ (e ≠ 16 ∨ (∃ r, t.txn = .resp r))) ∧
    (∃ (s : State) (e : Fin 20) (f : FlowId) (t : QTxn) (d : Nat), s.pga.active = [(e.val * 8, [({ flow := f, deficit := d, queue := [t] } :
      FlowSt)])] ∧ txnCharge t.txn ≤ d + 64 * flowWeight s f ∧ egressCredit s e 0 t = true ∧ coreRuns s = true ∧ t.host = none ∧ e ≠ 16) ∧
    (∃ (s : State), coreRuns s = true) ∧
    (∃ (s : State), coreRuns s = true) ∧
    (∃ (s : State) (e : Fin 20), egressStalled s e = true) :=
    ⟨⟨{ pga := { active := [(32, [{ flow := .gardener, queue := [{ ingress := 16, txn := .req { op := .read, dest := 0x4002, src := 0x0002, tenant := 0, tag := 7, addr := 4096, len := 64 }, own := false }] }])] } },
       (serveClasses
       ({ pga := { active := [(32, [{ flow := .gardener, queue := [{ ingress := 16, txn := .req { op := .read, dest := 0x4002, src := 0x0002, tenant := 0, tag := 7, addr := 4096, len := 64 }, own := false }] }])] } }
       : State) 4 (classesNow
       ({ pga := { active := [(32, [{ flow := .gardener, queue := [{ ingress := 16, txn := .req { op := .read, dest := 0x4002, src := 0x0002, tenant := 0, tag := 7, addr := 4096, len := 64 }, own := false }] }])] } }
       : State) 4)).1, 4, 0,
       { ingress := 16, txn := .req { op := .read, dest := 0x4002, src := 0x0002, tenant := 0, tag := 7, addr := 4096, len := 64 }, own := false },
       by decide +kernel, by decide +kernel, by decide +kernel, .inl (by decide +kernel)⟩,
     ⟨{ pga := { active := [(32, [{ flow := .gardener, queue := [{ ingress := 16, txn := .req { op := .read, dest := 0x4002, src := 0x0002, tenant := 0, tag := 7, addr := 4096, len := 64 }, own := false }] }])] } },
       4, .gardener,
       { ingress := 16, txn := .req { op := .read, dest := 0x4002, src := 0x0002, tenant := 0, tag := 7, addr := 4096, len := 64 }, own := false }, 0,
       by decide +kernel⟩,
     ⟨{}, by decide +kernel⟩,
     ⟨{}, by decide +kernel⟩,
     ⟨{ pga := { active := [(32, [{ flow := .gardener, queue := [{ ingress := 16, txn := .req { op := .read, dest := 0x4002, src := 0x0002, tenant := 0, tag := 7, addr := 4096, len := 64 }, own := false }] }])], inbox := [(32, List.replicate 64 { ingress := 16, txn := .req { op := .read, dest := 0x4002, src := 0x0002, tenant := 0, tag := 7, addr := 4096, len := 4096 }, own := false })] } },
       4, by decide +kernel⟩⟩

/-- The hypotheses of HostRequestsDecided can be met. -/
theorem test_HostRequestsDecided_hypotheses :
    (∃ (s : State) (n : Fin 4) (t : Tlp) (p : Nat), s.wf = true ∧ p = n * 1024 + t.index ∧ TlpTaken s n t ∧ funcMemory s p = true ∧ (t.kind = .memRead
      ∨ t.kind = .memWrite ∨ t.kind = .atomic ∧ bitF s (F.PE_CAPS_ATOMIC_EN p) = true) ∧ t.poisoned = false ∧ (t.bar = 2 ∨ t.bar = 4) ∧ t.off + max
      t.len 1 ≤ barSize s p (t.bar == 4) ∧ plotState s p = psServing ∧ plotQueueUsed s p < 32 ∧ (∀ x ∈ (quadOf s n).held, x.1 ≠ p)) ∧
    (∃ (s : State) (n : Fin 4) (t : Tlp) (p : Nat), s.wf = true ∧ p = n * 1024 + t.index ∧ TlpTaken s n t ∧ funcMemory s p = true ∧ t.kind = .memRead
      ∧ (t.bar = 2 ∨ t.bar = 4) ∧ t.off + max t.len 1 ≤ barSize s p (t.bar == 4) ∧ plotState s p = psDisabled) ∧
    (∃ (s : State) (n : Fin 4) (t : Tlp) (p : Nat), s.wf = true ∧ p = n * 1024 + t.index ∧ TlpTaken s n t ∧ funcMemory s p = true ∧ t.kind = .memWrite
      ∧ (t.bar = 2 ∨ t.bar = 4) ∧ t.off + max t.len 1 ≤ barSize s p (t.bar == 4) ∧ plotState s p = psDisabled) ∧
    (∃ (s : State) (n : Fin 4) (t : Tlp) (p : Nat), s.wf = true ∧ p = n * 1024 + t.index ∧ TlpTaken s n t ∧ t.poisoned = false ∧ (t.kind = .memRead ∧
      (funcMemory s p = false ∨ tlpBar s p t.bar < t.off + max t.len 1) ∨ t.kind = .lockedRead ∧ (t.bar = 0 ∨ t.bar = 2 ∨ t.bar = 4) ∨ t.kind =
      .ioRequest ∨ t.kind = .cfgType1 ∨ t.kind = .deferrableWrite)) ∧
    (∃ (s : State) (n : Fin 4) (t : Tlp) (p : Nat), s.wf = true ∧ p = n * 1024 + t.index ∧ TlpTaken s n t ∧ funcMemory s p = true ∧ t.kind = .memRead
      ∧ t.bar = 0 ∧ (t.len = 4 ∨ t.len = 8) ∧ t.off % t.len = 0 ∧ t.off < 0x10000) ∧
    (∃ (s : State) (n : Fin 4) (t : Tlp) (p : Fin 4096), p.val = n * 1024 + t.index ∧ TlpTaken s n t ∧ funcMemory s p = true ∧ t.kind = .memWrite ∧
      t.poisoned = false ∧ t.bar = 0 ∧ (t.len = 4 ∨ t.len = 8) ∧ t.off % t.len = 0 ∧ t.off < 0x10000 ∧ t.data.length ≤ 8) ∧
    (∃ (s : State) (n : Fin 4) (t : Tlp), t.index = 0 ∧ TlpTaken s n t ∧ funcMemory s (n * 1024) = true ∧ pageOpen s n = true ∧ (portOf s n).bar0Big =
      true ∧ t.kind = .memWrite ∧ t.poisoned = false ∧ t.bar = 0 ∧ (t.len = 4 ∨ t.len = 8) ∧ t.off % t.len = 0 ∧ 0x1000000 ≤ t.off ∧ t.off < 0x2000000
      ∧ t.data.length ≤ 8) ∧
    (∃ (s : State) (n : Fin 4) (t : Tlp) (p : Nat), s.wf = true ∧ p = n * 1024 + t.index ∧ TlpTaken s n t ∧ funcMemory s p = true ∧ t.kind = .memRead
      ∧ t.bar = 0 ∧ t.off + max t.len 1 ≤ 0x10000 ∧ ((t.len ≠ 4 ∧ t.len ≠ 8) ∨ t.off % t.len ≠ 0)) ∧
    (∃ (s : State) (n : Fin 4) (t : Tlp), s.wf = true ∧ linkActive s n = true ∧ coreRuns s = true ∧ heldQ s n 0 = false ∧ tlpCredit s n t = true ∧
      t.kind = .malformed) ∧
    (∃ (s : State) (n : Fin 4) (t : Tlp) (e : LinkErr), s.wf = true ∧ linkActive s n = true ∧ coreRuns s = true ∧ heldQ s n 0 = false ∧ t.kind =
      .linkError e) ∧
    (∃ (s : State) (n : Fin 4) (t : Tlp), s.wf = true ∧ linkActive s n = true ∧ coreRuns s = true ∧ heldQ s n 0 = false ∧ tlpCredit s n t = false ∧
      (t.kind = .memRead ∨ t.kind = .memWrite)) ∧
    (∃ (s : State) (n : Fin 4) (t : Tlp) (p : Nat) (i : Nat) (f : Nat) (r : Nat), p = n * 1024 + t.index ∧ TlpTaken s n t ∧ t.kind = .vendorMsg ∧
      funcEnabled s p = true ∧ plotState s p = psServing ∧ t.data.length ≤ 128 ∧ trellisLookup (linkWork s n) 4 (p * 2 ^ 24 + t.vendor * 2 ^ 8 + t.vdh
      % 256) = some i ∧ (routeOf (linkWork s n) (resId (entryResult s i)) (myNode s (1 + n)) (some p)).2 = .egress f r) ∧
    (∃ (s : State) (n : Fin 4) (t : Tlp) (p : Nat), p = n * 1024 + t.index ∧ TlpTaken s n t ∧ t.kind = .vendorMsg ∧ t.type0 = false ∧ trellisLookup
      (linkWork s n) 4 (p * 2 ^ 24 + t.vendor * 2 ^ 8 + t.vdh % 256) = none) ∧
    (∃ (s : State) (n : Fin 4) (t : Tlp), TlpTaken s n t ∧ t.kind = .slotPower) ∧
    (∃ (s : State) (n : Fin 4) (t : Tlp), TlpTaken s n t ∧ t.kind = .pmMsg ∧ t.msg = 0x19) ∧
    (∃ (t : Tlp), t.kind = .otherMsg) :=
    ⟨⟨{ st [(F.PWM_GATE_RUN, 15), (F.PWM_STATUS_MODE, 2), (F.HPT_LINK_DL_UP 0, 1), (F.HPT_LINK_READY 0, 1), (F.HPT_LINK_LTSSM 0, 3), (F.RST_SOFT_QUAD, 0), (F.PE_STATUS_STATE 0, 2)] with funcs := [(0, { mse := true, bme := true })], ports := [(0, { bar2Pf := 65536, bar0Big := true })] },
       0, { kind := .memRead, index := 0, tag := 3, bar := 2, off := 8, len := 8 }, 0, by decide +kernel, by decide +kernel,
       by unfold TlpTaken; decide +kernel, by decide +kernel, by decide +kernel, by decide +kernel, by decide +kernel, by decide +kernel,
       by decide +kernel, by decide +kernel, by decide +kernel⟩,
     ⟨{ st [(F.PWM_GATE_RUN, 15), (F.PWM_STATUS_MODE, 2), (F.HPT_LINK_DL_UP 0, 1), (F.HPT_LINK_READY 0, 1), (F.HPT_LINK_LTSSM 0, 3), (F.RST_SOFT_QUAD, 0), (F.PE_STATUS_STATE 0, 0)] with funcs := [(0, { mse := true, bme := true })], ports := [(0, { bar2Pf := 65536, bar0Big := true })] },
       0, { kind := .memRead, index := 0, tag := 3, bar := 2, off := 8, len := 8 }, 0, by decide +kernel, by decide +kernel,
       by unfold TlpTaken; decide +kernel, by decide +kernel, by decide +kernel, by decide +kernel, by decide +kernel, by decide +kernel⟩,
     ⟨{ st [(F.PWM_GATE_RUN, 15), (F.PWM_STATUS_MODE, 2), (F.HPT_LINK_DL_UP 0, 1), (F.HPT_LINK_READY 0, 1), (F.HPT_LINK_LTSSM 0, 3), (F.RST_SOFT_QUAD, 0), (F.PE_STATUS_STATE 0, 0)] with funcs := [(0, { mse := true, bme := true })], ports := [(0, { bar2Pf := 65536, bar0Big := true })] },
       0, { kind := .memWrite, index := 0, tag := 3, bar := 2, off := 8, len := 8, data := [1, 2, 3, 4, 5, 6, 7, 8] }, 0, by decide +kernel,
       by decide +kernel, by unfold TlpTaken; decide +kernel, by decide +kernel, by decide +kernel, by decide +kernel, by decide +kernel,
       by decide +kernel⟩,
     ⟨{ st [(F.PWM_GATE_RUN, 15), (F.PWM_STATUS_MODE, 2), (F.HPT_LINK_DL_UP 0, 1), (F.HPT_LINK_READY 0, 1), (F.HPT_LINK_LTSSM 0, 3), (F.RST_SOFT_QUAD, 0), (F.PE_STATUS_STATE 0, 2)] with funcs := [(0, { mse := true, bme := true })], ports := [(0, { bar2Pf := 65536, bar0Big := true })] },
       0, { kind := .ioRequest, index := 0, tag := 3 }, 0, by decide +kernel, by decide +kernel, by unfold TlpTaken; decide +kernel,
       by decide +kernel, by decide +kernel⟩,
     ⟨{ st [(F.PWM_GATE_RUN, 15), (F.PWM_STATUS_MODE, 2), (F.HPT_LINK_DL_UP 0, 1), (F.HPT_LINK_READY 0, 1), (F.HPT_LINK_LTSSM 0, 3), (F.RST_SOFT_QUAD, 0), (F.PE_STATUS_STATE 0, 2)] with funcs := [(0, { mse := true, bme := true })], ports := [(0, { bar2Pf := 65536, bar0Big := true })] },
       0, { kind := .memRead, index := 0, tag := 3, bar := 0, off := 0, len := 8 }, 0, by decide +kernel, by decide +kernel,
       by unfold TlpTaken; decide +kernel, by decide +kernel, by decide +kernel, by decide +kernel, by decide +kernel, by decide +kernel,
       by decide +kernel⟩,
     ⟨{ st [(F.PWM_GATE_RUN, 15), (F.PWM_STATUS_MODE, 2), (F.HPT_LINK_DL_UP 0, 1), (F.HPT_LINK_READY 0, 1), (F.HPT_LINK_LTSSM 0, 3), (F.RST_SOFT_QUAD, 0), (F.PE_STATUS_STATE 0, 2)] with funcs := [(0, { mse := true, bme := true })], ports := [(0, { bar2Pf := 65536, bar0Big := true })] },
       0, { kind := .memWrite, index := 0, tag := 3, bar := 0, off := 0x410, len := 8, data := [1, 2, 3, 4, 5, 6, 7, 8] }, 0, by decide +kernel,
       by unfold TlpTaken; decide +kernel, by decide +kernel, by decide +kernel, by decide +kernel, by decide +kernel, by decide +kernel,
       by decide +kernel, by decide +kernel, by decide +kernel⟩,
     ⟨{ st [(F.PWM_GATE_RUN, 15), (F.PWM_STATUS_MODE, 2), (F.HPT_LINK_DL_UP 0, 1), (F.HPT_LINK_READY 0, 1), (F.HPT_LINK_LTSSM 0, 3), (F.RST_SOFT_QUAD, 0), (F.PE_STATUS_STATE 0, 2), (F.PE_CAPS_MGMT_EN 0, 1)] with funcs := [(0, { mse := true, bme := true })], ports := [(0, { bar2Pf := 65536, bar0Big := true })] },
       0, { kind := .memWrite, index := 0, tag := 3, bar := 0, off := 0x1020020, len := 8, data := [1, 2, 3, 4, 5, 6, 7, 8] }, by decide +kernel,
       by unfold TlpTaken; decide +kernel, by decide +kernel, by decide +kernel, by decide +kernel, by decide +kernel, by decide +kernel,
       by decide +kernel, by decide +kernel, by decide +kernel, by decide +kernel, by decide +kernel, by decide +kernel⟩,
     ⟨{ st [(F.PWM_GATE_RUN, 15), (F.PWM_STATUS_MODE, 2), (F.HPT_LINK_DL_UP 0, 1), (F.HPT_LINK_READY 0, 1), (F.HPT_LINK_LTSSM 0, 3), (F.RST_SOFT_QUAD, 0), (F.PE_STATUS_STATE 0, 2)] with funcs := [(0, { mse := true, bme := true })], ports := [(0, { bar2Pf := 65536, bar0Big := true })] },
       0, { kind := .memRead, index := 0, tag := 3, bar := 0, off := 2, len := 4 }, 0, by decide +kernel, by decide +kernel,
       by unfold TlpTaken; decide +kernel, by decide +kernel, by decide +kernel, by decide +kernel, by decide +kernel, by decide +kernel⟩,
     ⟨{ st [(F.PWM_GATE_RUN, 15), (F.PWM_STATUS_MODE, 2), (F.HPT_LINK_DL_UP 0, 1), (F.HPT_LINK_READY 0, 1), (F.HPT_LINK_LTSSM 0, 3), (F.RST_SOFT_QUAD, 0), (F.PE_STATUS_STATE 0, 2)] with funcs := [(0, { mse := true, bme := true })], ports := [(0, { bar2Pf := 65536, bar0Big := true })] },
       0, { kind := .malformed, index := 0, tag := 3 }, by decide +kernel⟩,
     ⟨{ st [(F.PWM_GATE_RUN, 15), (F.PWM_STATUS_MODE, 2), (F.HPT_LINK_DL_UP 0, 1), (F.HPT_LINK_READY 0, 1), (F.HPT_LINK_LTSSM 0, 3), (F.RST_SOFT_QUAD, 0), (F.PE_STATUS_STATE 0, 2)] with funcs := [(0, { mse := true, bme := true })], ports := [(0, { bar2Pf := 65536, bar0Big := true })] },
       0, { kind := .linkError .flowControl, index := 0, tag := 3 }, .flowControl, by decide +kernel⟩,
     ⟨{ st [(F.PWM_GATE_RUN, 15), (F.PWM_STATUS_MODE, 2), (F.HPT_LINK_DL_UP 0, 1), (F.HPT_LINK_READY 0, 1), (F.HPT_LINK_LTSSM 0, 3), (F.RST_SOFT_QUAD, 0), (F.PE_STATUS_STATE 0, 2)] with funcs := [(0, { mse := true, bme := true })], ports := [(0, { bar2Pf := 65536, bar0Big := true })], quads := [(0, { held := List.replicate 128 (0, { kind := .read, bar4 := false, off := 0, len := 8, tag := 3 }) })] },
       0, { kind := .memRead, index := 0, tag := 3 }, by decide +kernel⟩,
     ⟨{ st [(F.PWM_GATE_RUN, 15), (F.PWM_STATUS_MODE, 2), (F.HPT_LINK_DL_UP 0, 1), (F.HPT_LINK_READY 0, 1), (F.HPT_LINK_LTSSM 0, 3), (F.RST_SOFT_QUAD, 0), (F.PE_STATUS_STATE 0, 2), (F.GLB_NODE_VALID, 1), (F.TRL_CTRL_EN, 1), (F.TRL_CTRL_READY, 1), (F.CFP_STATUS_STATE 0, 2), (F.CFK_STATUS_LINK 0, 2)] with funcs := [(0, { mse := true, bme := true })], ports := [(0, { bar2Pf := 65536, bar0Big := true })], trl := { table := row 1 (66 * 2 ^ 16) (2 ^ 20) ++ row 4 (0x1234 * 2 ^ 8) (66 * 2 ^ 44) } },
       0, { kind := .vendorMsg, index := 0, tag := 3, vendor := 0x1234, vdh := 0 }, 0, (8 * trellisBucket 4 0 (0x1234 * 2 ^ 8)), 0, (2 ^ 20),
       by decide +kernel, by unfold TlpTaken; decide +kernel, by decide +kernel, by decide +kernel, by decide +kernel, by decide +kernel,
       by decide +kernel, by decide +kernel⟩,
     ⟨{ st [(F.PWM_GATE_RUN, 15), (F.PWM_STATUS_MODE, 2), (F.HPT_LINK_DL_UP 0, 1), (F.HPT_LINK_READY 0, 1), (F.HPT_LINK_LTSSM 0, 3), (F.RST_SOFT_QUAD, 0), (F.PE_STATUS_STATE 0, 2), (F.GLB_NODE_VALID, 1), (F.TRL_CTRL_EN, 1), (F.TRL_CTRL_READY, 1), (F.CFP_STATUS_STATE 0, 2), (F.CFK_STATUS_LINK 0, 2)] with funcs := [(0, { mse := true, bme := true })], ports := [(0, { bar2Pf := 65536, bar0Big := true })] },
       0, { kind := .vendorMsg, index := 0, tag := 3, vendor := 0x1234, vdh := 0 }, 0, by decide +kernel, by unfold TlpTaken; decide +kernel,
       by decide +kernel, by decide +kernel, by decide +kernel⟩,
     ⟨{ st [(F.PWM_GATE_RUN, 15), (F.PWM_STATUS_MODE, 2), (F.HPT_LINK_DL_UP 0, 1), (F.HPT_LINK_READY 0, 1), (F.HPT_LINK_LTSSM 0, 3), (F.RST_SOFT_QUAD, 0), (F.PE_STATUS_STATE 0, 2)] with funcs := [(0, { mse := true, bme := true })], ports := [(0, { bar2Pf := 65536, bar0Big := true })] },
       0, { kind := .slotPower, index := 0, tag := 3, data := [5, 1, 0, 0] }, by unfold TlpTaken; decide +kernel, by decide +kernel⟩,
     ⟨{ st [(F.PWM_GATE_RUN, 15), (F.PWM_STATUS_MODE, 2), (F.HPT_LINK_DL_UP 0, 1), (F.HPT_LINK_READY 0, 1), (F.HPT_LINK_LTSSM 0, 3), (F.RST_SOFT_QUAD, 0), (F.PE_STATUS_STATE 0, 2)] with funcs := [(0, { mse := true, bme := true })], ports := [(0, { bar2Pf := 65536, bar0Big := true })] },
       0, { kind := .pmMsg, index := 0, tag := 3, msg := 0x19 }, by unfold TlpTaken; decide +kernel, by decide +kernel, by decide +kernel⟩,
     ⟨{ kind := .otherMsg, index := 0, tag := 3 }, by decide +kernel⟩⟩

/-- The hypotheses of HostPortTransmitsAndCompletes can be met. -/
theorem test_HostPortTransmitsAndCompletes_hypotheses :
    (∃ (s : State) (n : Fin 4) (t : TlpOut) (ts : List TlpOut), s.wf = true ∧ linkActive s n = true ∧ coreRuns s = true ∧ (portOf s n).txq = t :: ts ∧
      (isRequest t = false ∨ t.reqId = ridOf s t.plot)) ∧
    (∃ (s : State) (n : Fin 4) (t : TlpOut) (ts : List TlpOut), s.wf = true ∧ linkActive s n = true ∧ coreRuns s = true ∧ (portOf s n).txq = t :: ts ∧
      t.kind = .interrupt ∧ t.reqId ≠ ridOf s t.plot ∧ t.inb = none ∧ t.dma = none) ∧
    (∃ (s : State) (n : Fin 4) (tag : Nat) (id : Nat) (part : Nat) (h : HostTag) (x : InReq) (bs : List Byte), s.wf = true ∧ linkActive s n = true ∧
      coreRuns s = true ∧ outstanding s n tag = some h ∧ h.use = .inbound id part ∧ h.dead = false ∧ h.orphan = false ∧ h.data = [] ∧ h.poisoned =
      false ∧ bs.length = h.len ∧ mfind (quadOf s n).inbound id = some x ∧ x.parts = 1 ∧ x.worst = 6 ∧ x.data = []) ∧
    (∃ (s : State) (n : Fin 4) (tag : Nat) (id : Nat) (part : Nat) (h : HostTag) (x : InReq), s.wf = true ∧ linkActive s n = true ∧ coreRuns s = true
      ∧ outstanding s n tag = some h ∧ h.use = .inbound id part ∧ h.dead = false ∧ h.orphan = false ∧ mfind (quadOf s n).inbound id = some x ∧ x.parts
      = 1 ∧ x.worst = 6 ∧ x.data = []) ∧
    (∃ (s : State) (n : Fin 4) (tag : Nat), s.wf = true ∧ linkActive s n = true ∧ coreRuns s = true ∧ outstanding s n tag = none) ∧
    (∃ (s : State) (n : Fin 4) (tag : Nat) (h : HostTag), s.wf = true ∧ outstanding s n tag = some h ∧ h.dead = true) :=
    ⟨⟨{ st [(F.HPT_LINK_LTSSM 0, 3), (F.HPT_LINK_DL_UP 0, 1), (F.HPT_LINK_READY 0, 1)] with ports := [(0, { txq := [{ kind := .memRead, plot := 0, addr := 4096, len := 64, tag := 5 }] })] },
       0, { kind := .memRead, plot := 0, addr := 4096, len := 64, tag := 5 }, [], by decide +kernel⟩,
     ⟨{ st [(F.HPT_LINK_LTSSM 0, 3), (F.HPT_LINK_DL_UP 0, 1), (F.HPT_LINK_READY 0, 1)] with ports := [(0, { txq := [{ kind := .interrupt, plot := 0, reqId := 9, len := 4 }] })] },
       0, { kind := .interrupt, plot := 0, reqId := 9, len := 4 }, [], by decide +kernel⟩,
     ⟨{ st [(F.HPT_LINK_LTSSM 0, 3), (F.HPT_LINK_DL_UP 0, 1), (F.HPT_LINK_READY 0, 1)] with ports := [(0, { outTags := [(5, { use := .inbound 4 0, plot := 0, len := 8 })] })], quads := [(0, { inbound := [(4, { req := { op := .read, dest := 0x4002, src := 0x0002, tenant := 0, tag := 7, addr := 4096, len := 8 }, plot := 0, parts := 1, worst := 6 })] })] },
       0, 5, 4, 0, { use := .inbound 4 0, plot := 0, len := 8 },
       { req := { op := .read, dest := 0x4002, src := 0x0002, tenant := 0, tag := 7, addr := 4096, len := 8 }, plot := 0, parts := 1, worst := 6 },
       [1, 2, 3, 4, 5, 6, 7, 8], by decide +kernel⟩,
     ⟨{ st [(F.HPT_LINK_LTSSM 0, 3), (F.HPT_LINK_DL_UP 0, 1), (F.HPT_LINK_READY 0, 1)] with ports := [(0, { outTags := [(5, { use := .inbound 4 0, plot := 0, len := 8 })] })], quads := [(0, { inbound := [(4, { req := { op := .read, dest := 0x4002, src := 0x0002, tenant := 0, tag := 7, addr := 4096, len := 8 }, plot := 0, parts := 1, worst := 6 })] })] },
       0, 5, 4, 0, { use := .inbound 4 0, plot := 0, len := 8 },
       { req := { op := .read, dest := 0x4002, src := 0x0002, tenant := 0, tag := 7, addr := 4096, len := 8 }, plot := 0, parts := 1, worst := 6 },
       by decide +kernel⟩,
     ⟨(st [(F.HPT_LINK_LTSSM 0, 3), (F.HPT_LINK_DL_UP 0, 1), (F.HPT_LINK_READY 0, 1)]), 0, 0, by decide +kernel⟩,
     ⟨{ ports := [(0, { outTags := [(5, { use := .inbound 4 0, plot := 0, len := 8, dead := true })] })] }, 0, 5,
       { use := .inbound 4 0, plot := 0, len := 8, dead := true }, by decide +kernel⟩⟩

/-- The hypotheses of PlotQueueAdmission can be met. -/
theorem test_PlotQueueAdmission_hypotheses :
    (∃ (s : State) (p : Fin 4096) (r : OutReq) (rs : List OutReq) (w : Nat) (l : Line) (e : WinEntry), s.wf = true ∧ quadRuns s (quadrantOf p) = true
      ∧ (plotOf s p).matched = none ∧ (plotOf s p).queue = r :: rs ∧ plotState s p = psServing ∧ r.kind = .read ∧ txAdmits s p = true ∧ heldQ s
      (quadrantOf p) 2 = false ∧ heldQ s (quadrantOf p) 1 = false ∧ findLine s p false r.bar4 r.off r.len = some (w, l, e) ∧ l.marked = false ∧
      l.fenced = false ∧ e.rdEn = true ∧ (quadOf s (quadrantOf p)).pf = []) ∧
    (∃ (s : State) (p : Fin 4096) (r : OutReq) (rs : List OutReq) (w : Nat) (l : Line) (e : WinEntry), s.wf = true ∧ quadRuns s (quadrantOf p) = true
      ∧ (plotOf s p).matched = none ∧ (plotOf s p).queue = r :: rs ∧ plotState s p = psServing ∧ r.kind = .read ∧ txAdmits s p = true ∧ heldQ s
      (quadrantOf p) 2 = false ∧ heldQ s (quadrantOf p) 1 = false ∧ findLine s p false r.bar4 r.off r.len = some (w, l, e) ∧ l.marked = false ∧
      l.fenced = false ∧ e.rdEn = false) ∧
    (∃ (s : State) (p : Fin 4096) (r : OutReq) (rs : List OutReq) (w : Nat) (l : Line) (e : WinEntry), s.wf = true ∧ quadRuns s (quadrantOf p) = true
      ∧ (plotOf s p).matched = none ∧ (plotOf s p).queue = r :: rs ∧ plotState s p = psServing ∧ r.kind = .read ∧ txAdmits s p = true ∧ heldQ s
      (quadrantOf p) 2 = false ∧ heldQ s (quadrantOf p) 1 = false ∧ findLine s p false r.bar4 r.off r.len = some (w, l, e) ∧ l.marked = false ∧
      l.fenced = true) ∧
    (∃ (s : State) (p : Fin 4096) (r : OutReq) (rs : List OutReq), s.wf = true ∧ quadRuns s (quadrantOf p) = true ∧ (plotOf s p).matched = none ∧
      (plotOf s p).queue = r :: rs ∧ plotState s p = psServing ∧ r.kind = .atomic ∧ bitF s (F.PE_CAPS_ATOMIC_EN p) = false) :=
    ⟨⟨{ st [(F.PE_STATUS_STATE 0, 2), (F.PE_WINDOWS_OUT_COUNT 0, 1), (F.PE_WINDOWS_IN_COUNT 0, 1)] with plots := [(0, { queue := [{ kind := .read, bar4 := false, off := 0, len := 8, tag := 3 }] })], quads := [(0, { lines := [(0, { entry := some { valid := true, last := 15, target := 32, node := 66, gen := 1, rdEn := true }, curGen := 1 })] })] },
       0, { kind := .read, bar4 := false, off := 0, len := 8, tag := 3 }, [], 0,
       { entry := some { valid := true, last := 15, target := 32, node := 66, gen := 1, rdEn := true }, curGen := 1 },
       { valid := true, last := 15, target := 32, node := 66, gen := 1, rdEn := true }, by decide +kernel⟩,
     ⟨{ st [(F.PE_STATUS_STATE 0, 2), (F.PE_WINDOWS_OUT_COUNT 0, 1), (F.PE_WINDOWS_IN_COUNT 0, 1)] with plots := [(0, { queue := [{ kind := .read, bar4 := false, off := 0, len := 8, tag := 3 }] })], quads := [(0, { lines := [(0, { entry := some { valid := true, last := 15, target := 32, node := 66, gen := 1 }, curGen := 1 })] })] },
       0, { kind := .read, bar4 := false, off := 0, len := 8, tag := 3 }, [], 0,
       { entry := some { valid := true, last := 15, target := 32, node := 66, gen := 1 }, curGen := 1 },
       { valid := true, last := 15, target := 32, node := 66, gen := 1 }, by decide +kernel⟩,
     ⟨{ st [(F.PE_STATUS_STATE 0, 2), (F.PE_WINDOWS_OUT_COUNT 0, 1), (F.PE_WINDOWS_IN_COUNT 0, 1)] with plots := [(0, { queue := [{ kind := .read, bar4 := false, off := 0, len := 8, tag := 3 }] })], quads := [(0, { lines := [(0, { entry := some { valid := true, last := 15, target := 32, node := 66, gen := 1, rdEn := true }, curGen := 1, fenced := true })] })] },
       0, { kind := .read, bar4 := false, off := 0, len := 8, tag := 3 }, [], 0,
       { entry := some { valid := true, last := 15, target := 32, node := 66, gen := 1, rdEn := true }, curGen := 1, fenced := true },
       { valid := true, last := 15, target := 32, node := 66, gen := 1, rdEn := true }, by decide +kernel⟩,
     ⟨{ st [(F.PE_STATUS_STATE 0, 2)] with plots := [(0, { queue := [{ kind := .atomic, bar4 := false, off := 0, len := 8, tag := 3 }] })] }, 0,
       { kind := .atomic, bar4 := false, off := 0, len := 8, tag := 3 }, [], by decide +kernel⟩⟩

/-- The hypotheses of BucketsBudgetsAndLatches can be met. -/
theorem test_BucketsBudgetsAndLatches_hypotheses :
    (∃ (s : State), s.wf = true) ∧
    (∃ (s : State), s.wf = true) ∧
    (∃ (s : State) (p : Fin 4096) (c : Cap), mget s.hdg.plotCap p none = some c) ∧
    (∃ (s : State) (f : Fin 8) (c : Cap), mget s.hdg.portCap f none = some c) ∧
    (∃ (s : State) (p : Fin 4096) (n : Nat) (r : OutReq), s.wf = true ∧ (plotOf s p).queue[n]? = some r ∧ r.kind = .read ∧ plotState s p = psServing ∧
      (∀ x ∈ (quadOf s (quadrantOf p)).held, x.1 ≠ p.val)) ∧
    (∃ (s : State) (p : Fin 4096), plotState s p ≠ psDisabled ∧ plotState s p ≠ psResetting) ∧
    (∃ (s : State) (p : Fin 4096), (plotState s p = psDisabled ∨ plotState s p = psResetting)) :=
    ⟨⟨{ st [(F.PE_RATE_RATE 0 0, 5), (F.PE_RATE_BURST 0 0, 1)] with plots := [(0, { tx := -3 })] }, by decide +kernel⟩,
     ⟨{ st [(F.PE_RATE_RATE 0 1, 5), (F.PE_RATE_BURST 0 1, 1)] with plots := [(0, { rx := -3 })] }, by decide +kernel⟩,
     ⟨{ hdg := { plotCap := [(0, some { rate := 5, depth := 100, level := -3 })] } }, 0, { rate := 5, depth := 100, level := -3 }, by decide +kernel⟩,
     ⟨{ hdg := { portCap := [(0, some { rate := 5, depth := 100, level := -3 })] } }, 0, { rate := 5, depth := 100, level := -3 }, by decide +kernel⟩,
     ⟨{ st [(F.PE_STATUS_STATE 0, 2)] with plots := [(0, { queue := [{ kind := .read, bar4 := false, off := 0, len := 8, tag := 3 }] })] }, 0, 0,
       { kind := .read, bar4 := false, off := 0, len := 8, tag := 3 }, by decide +kernel⟩,
     ⟨(st [(F.PE_STATUS_STATE 0, 2), (F.PP_WFL_LATCH 0, 7)]), 0, by decide +kernel⟩,
     ⟨{}, 0, by decide +kernel⟩⟩

/-- The hypotheses of LedgerGrants can be met. -/
theorem test_LedgerGrants_hypotheses :
    (∃ (s : State) (q : Fin 4) (p : Nat) (f : Nat) (r : Nat) (ts : List Turn) (ps : List Turn) (m : Matched), s.wf = true ∧ heldQ s q 2 = false ∧
      quadRuns s q = true ∧ turnsOf s q = ts ++ .plot p :: ps ∧ (∀ x ∈ ts, turnServe s q [x] = none) ∧ quadrantOf p = q ∧ (plotOf s p).matched = some
      m ∧ mayGrant s q p m = true ∧ m.req.kind = .write ∧ m.req.zero = false ∧ (routeOf s m.node (myNode s (1 + q)) (some p)).2 = .egress f r) ∧
    (∃ (s : State) (q : Fin 4) (p : Nat) (f : Nat) (r : Nat) (ts : List Turn) (ps : List Turn) (m : Matched), s.wf = true ∧ heldQ s q 2 = false ∧
      quadRuns s q = true ∧ turnsOf s q = ts ++ .plot p :: ps ∧ (∀ x ∈ ts, turnServe s q [x] = none) ∧ quadrantOf p = q ∧ (plotOf s p).matched = some
      m ∧ mayGrant s q p m = true ∧ m.req.kind = .read ∧ m.req.zero = false ∧ m.entry.ordered = false ∧ m.entry.prefetch = false ∧ (quadOf s
      q).streams = [] ∧ latchSet s p m.win = false ∧ (routeOf s m.node (myNode s (1 + q)) (some p)).2 = .egress f r) ∧
    (∃ (s : State) (p : Fin 4096) (tag : Nat) (f : Nat) (r : Nat) (ts : List Nat) (e : LEntry), s.wf = true ∧ (plotOf s p).emu = tag :: ts ∧ entryOf s
      (quadrantOf p) tag = some e ∧ e.plot = p ∧ e.emu = some .turn ∧ (routeOf s e.node (myNode s (1 + quadrantOf p)) (some p)).2 = .egress f r) :=
    ⟨⟨{ st [(F.PWM_GATE_RUN, 15), (F.PWM_STATUS_MODE, 2), (F.GLB_NODE_VALID, 1), (F.TRL_CTRL_EN, 1), (F.TRL_CTRL_READY, 1), (F.CFP_STATUS_STATE 0, 2), (F.CFK_STATUS_LINK 0, 2), (F.PE_STATUS_STATE 0, 2)] with plots := [(0, { matched := some { req := { kind := .write, bar4 := false, off := 0, len := 8, data := [1, 2, 3, 4, 5, 6, 7, 8] }, win := 0, gen := 1, node := 66, addr := 0x20000, entry := { valid := true, last := 15, target := 32, node := 66, gen := 1, wrEn := true } } })], trl := { table := row 1 (66 * 2 ^ 16) (2 ^ 20) } },
       0, 0, 0, (2 ^ 20), [.dma], [],
       { req := { kind := .write, bar4 := false, off := 0, len := 8, data := [1, 2, 3, 4, 5, 6, 7, 8] }, win := 0, gen := 1, node := 66, addr := 0x20000, entry := { valid := true, last := 15, target := 32, node := 66, gen := 1, wrEn := true } },
       by decide +kernel⟩,
     ⟨{ st [(F.PWM_GATE_RUN, 15), (F.PWM_STATUS_MODE, 2), (F.GLB_NODE_VALID, 1), (F.TRL_CTRL_EN, 1), (F.TRL_CTRL_READY, 1), (F.CFP_STATUS_STATE 0, 2), (F.CFK_STATUS_LINK 0, 2), (F.PE_STATUS_STATE 0, 2)] with plots := [(0, { matched := some { req := { kind := .read, bar4 := false, off := 0, len := 8, tag := 3 }, win := 0, gen := 1, node := 66, addr := 0x20000, entry := { valid := true, last := 15, target := 32, node := 66, gen := 1, rdEn := true } } })], trl := { table := row 1 (66 * 2 ^ 16) (2 ^ 20) } },
       0, 0, 0, (2 ^ 20), [.dma], [],
       { req := { kind := .read, bar4 := false, off := 0, len := 8, tag := 3 }, win := 0, gen := 1, node := 66, addr := 0x20000, entry := { valid := true, last := 15, target := 32, node := 66, gen := 1, rdEn := true } },
       by decide +kernel⟩,
     ⟨{ st [(F.GLB_NODE_VALID, 1), (F.TRL_CTRL_EN, 1), (F.TRL_CTRL_READY, 1), (F.CFP_STATUS_STATE 0, 2), (F.CFK_STATUS_LINK 0, 2), (F.PE_STATUS_STATE 0, 2)] with plots := [(0, { emu := [7] })], quads := [(0, { ledger := [(7, { kind := .atomic, hostPath := true, plot := 0, win := 0, gen := 1, node := 66, addr := 0x20000, len := 8, req := { kind := .atomic, bar4 := false, off := 0, len := 8, tag := 3 }, emu := some .turn })] })], trl := { table := row 1 (66 * 2 ^ 16) (2 ^ 20) } },
       0, 7, 0, (2 ^ 20), [],
       { kind := .atomic, hostPath := true, plot := 0, win := 0, gen := 1, node := 66, addr := 0x20000, len := 8, req := { kind := .atomic, bar4 := false, off := 0, len := 8, tag := 3 }, emu := some .turn },
       by decide +kernel⟩⟩

/-- The hypotheses of LedgerAnswers can be met. -/
theorem test_LedgerAnswers_hypotheses :
    (∃ (s : State) (q : Fin 4) (i : Nat) (r : FabResp) (ts : List QTxn) (e : LEntry), s.wf = true ∧ quadRuns s q = true ∧ inboxOf s q 2 =
      { ingress := i, txn := .resp r } :: ts ∧ mfind (quadOf s q).table r.tag = none ∧ respMalformed s r = false ∧ nodeUnit r.dest = q + 1 ∧ entryOf s
      q r.tag = some e ∧ e.kind = .read ∧ e.hostPath = true ∧ e.emu = none ∧ e.ordered = false ∧ e.ext = 0 ∧ quadrantOf e.plot = q ∧ latchSet s e.plot
      e.win = false ∧ r.status = 0) ∧
    (∃ (s : State) (q : Fin 4) (i : Nat) (r : FabResp) (ts : List QTxn) (e : LEntry), s.wf = true ∧ quadRuns s q = true ∧ inboxOf s q 2 =
      { ingress := i, txn := .resp r } :: ts ∧ mfind (quadOf s q).table r.tag = none ∧ respMalformed s r = false ∧ nodeUnit r.dest = q + 1 ∧ entryOf s
      q r.tag = some e ∧ e.kind = .read ∧ e.hostPath = true ∧ e.emu = none ∧ r.status = 4 ∧ quadrantOf e.plot = q) ∧
    (∃ (s : State) (q : Fin 4) (i : Nat) (r : FabResp) (ts : List QTxn) (e : LEntry), s.wf = true ∧ quadRuns s q = true ∧ inboxOf s q 2 =
      { ingress := i, txn := .resp r } :: ts ∧ mfind (quadOf s q).table r.tag = none ∧ respMalformed s r = false ∧ nodeUnit r.dest = q + 1 ∧ entryOf s
      q r.tag = some e ∧ e.kind = .write ∧ e.hostPath = true ∧ quadrantOf e.plot = q ∧ e.win < 32 ∧ ((∀ x ∈ (quadOf s q).ledger, x.2.st ≠ .fenced ∧
      x.2.st ≠ .settling))) ∧
    (∃ (s : State) (q : Fin 4) (i : Nat) (r : FabResp) (ts : List QTxn), s.wf = true ∧ quadRuns s q = true ∧ inboxOf s q 2 =
      { ingress := i, txn := .resp r } :: ts ∧ mfind (quadOf s q).table r.tag = none ∧ respMalformed s r = false ∧ entryOf s q r.tag = none) ∧
    (∃ (s : State) (c : Fin 19), (clientRuns s c = false ∨ (4 ≤ c.val ∧ c.val < 12) ∨ (inboxOf s c 2 = [] ∧ inboxOf s c 3 = []))) ∧
    (∃ (s : State) (q : Fin 4) (tag : Nat) (e : LEntry), s.wf = true ∧ entryOf s q tag = some e ∧ e.kind = .write ∧ e.hostPath = true ∧ e.st = .issued
      ∧ quadrantOf e.plot = q ∧ e.win < 32 ∧ ((∀ x ∈ (quadOf s q).ledger, x.2.st ≠ .fenced ∧ x.2.st ≠ .settling))) ∧
    (∃ (s : State) (q : Fin 4) (tag : Nat) (e : LEntry), s.wf = true ∧ entryOf s q tag = some e ∧ e.kind = .release ∧ e.emu ≠ some .budgetGone ∧ e.st
      = .issued) ∧
    (∃ (s : State) (q : Fin 4) (tag : Nat), (entryOf s q tag).all (fun e => e.kind != .release && (if e.kind == .write then e.st != .issued else
      e.emu.isNone || e.st != .issued)) = true) ∧
    (∃ (s : State) (q : Fin 4) (tag : Nat) (f : Nat) (r : Nat) (e : LEntry), s.wf = true ∧ entryOf s q tag = some e ∧ e.kind = .read ∧ e.hostPath =
      true ∧ e.emu = none ∧ e.st = .backoff ∧ e.req.zero = false ∧ quadrantOf e.plot = q ∧ latchSet s e.plot e.win = false ∧ (quadOf s q).streams = []
      ∧ (routeOf s e.node (myNode s (1 + q)) (some e.plot)).2 = .egress f r) ∧
    (∃ (s : State) (q : Fin 4) (tag : Nat), (entryOf s q tag).all (fun e => e.st != .backoff) = true) :=
    ⟨⟨{ st [(F.PWM_GATE_RUN, 15), (F.PWM_STATUS_MODE, 2), (F.PE_STATUS_STATE 0, 2)] with pga := { inbox := [(2, [{ ingress := 4, txn := .resp { dest := 1, src := 66, tenant := 0, tag := 7, status := 0, data := [1, 2, 3, 4, 5, 6, 7, 8] } }])] }, quads := [(0, { ledger := [(7, { kind := .read, hostPath := true, plot := 0, win := 0, gen := 1, node := 66, addr := 0x20000, len := 8, req := { kind := .read, bar4 := false, off := 0, len := 8, tag := 3 }, st := .issued })] })] },
       0, 4, { dest := 1, src := 66, tenant := 0, tag := 7, status := 0, data := [1, 2, 3, 4, 5, 6, 7, 8] }, [],
       { kind := .read, hostPath := true, plot := 0, win := 0, gen := 1, node := 66, addr := 0x20000, len := 8, req := { kind := .read, bar4 := false, off := 0, len := 8, tag := 3 }, st := .issued },
       by decide +kernel⟩,
     ⟨{ st [(F.PWM_GATE_RUN, 15), (F.PWM_STATUS_MODE, 2), (F.PE_STATUS_STATE 0, 2)] with pga := { inbox := [(2, [{ ingress := 4, txn := .resp { dest := 1, src := 66, tenant := 0, tag := 7, status := 4, data := [] } }])] }, quads := [(0, { ledger := [(7, { kind := .read, hostPath := true, plot := 0, win := 0, gen := 1, node := 66, addr := 0x20000, len := 8, req := { kind := .read, bar4 := false, off := 0, len := 8, tag := 3 }, st := .issued })] })] },
       0, 4, { dest := 1, src := 66, tenant := 0, tag := 7, status := 4, data := [] }, [],
       { kind := .read, hostPath := true, plot := 0, win := 0, gen := 1, node := 66, addr := 0x20000, len := 8, req := { kind := .read, bar4 := false, off := 0, len := 8, tag := 3 }, st := .issued },
       by decide +kernel⟩,
     ⟨{ st [(F.PWM_GATE_RUN, 15), (F.PWM_STATUS_MODE, 2), (F.PE_STATUS_STATE 0, 2)] with pga := { inbox := [(2, [{ ingress := 4, txn := .resp { dest := 1, src := 66, tenant := 0, tag := 7, status := 2, data := [] } }])] }, quads := [(0, { ledger := [(7, { kind := .write, hostPath := true, plot := 0, win := 0, gen := 1, node := 66, addr := 0x20000, len := 8, req := { kind := .write, bar4 := false, off := 0, len := 8, data := [1, 2, 3, 4, 5, 6, 7, 8] }, st := .issued })] })] },
       0, 4, { dest := 1, src := 66, tenant := 0, tag := 7, status := 2, data := [] }, [],
       { kind := .write, hostPath := true, plot := 0, win := 0, gen := 1, node := 66, addr := 0x20000, len := 8, req := { kind := .write, bar4 := false, off := 0, len := 8, data := [1, 2, 3, 4, 5, 6, 7, 8] }, st := .issued },
       by decide +kernel⟩,
     ⟨{ st [(F.PWM_GATE_RUN, 15), (F.PWM_STATUS_MODE, 2), (F.PE_STATUS_STATE 0, 2)] with pga := { inbox := [(2, [{ ingress := 4, txn := .resp { dest := 1, src := 66, tenant := 0, tag := 7, status := 0, data := [] } }])] }, quads := [(0, { ledger := [(8, { kind := .write, hostPath := true, plot := 0, win := 0, gen := 1, node := 66, addr := 0x20000, len := 8, req := { kind := .write, bar4 := false, off := 0, len := 8, data := [1, 2, 3, 4, 5, 6, 7, 8] }, st := .issued })] })] },
       0, 4, { dest := 1, src := 66, tenant := 0, tag := 7, status := 0, data := [] }, [], by decide +kernel⟩,
     ⟨(st [(F.PWM_STATUS_MODE, 4)]), 0, by decide +kernel⟩,
     ⟨{ st [(F.PE_STATUS_STATE 0, 2)] with quads := [(0, { ledger := [(7, { kind := .write, hostPath := true, plot := 0, win := 0, gen := 1, node := 66, addr := 0x20000, len := 8, req := { kind := .write, bar4 := false, off := 0, len := 8, data := [1, 2, 3, 4, 5, 6, 7, 8] }, st := .issued })] })] },
       0, 7,
       { kind := .write, hostPath := true, plot := 0, win := 0, gen := 1, node := 66, addr := 0x20000, len := 8, req := { kind := .write, bar4 := false, off := 0, len := 8, data := [1, 2, 3, 4, 5, 6, 7, 8] }, st := .issued },
       by decide +kernel⟩,
     ⟨{ st [(F.PE_STATUS_STATE 0, 2)] with quads := [(0, { ledger := [(7, { kind := .release, hostPath := true, plot := 0, win := 0, gen := 1, node := 66, addr := 0x20000, len := 8, req := { kind := .write, bar4 := false, off := 0, len := 8, data := [1, 2, 3, 4, 5, 6, 7, 8] }, st := .issued })] })] },
       0, 7,
       { kind := .release, hostPath := true, plot := 0, win := 0, gen := 1, node := 66, addr := 0x20000, len := 8, req := { kind := .write, bar4 := false, off := 0, len := 8, data := [1, 2, 3, 4, 5, 6, 7, 8] }, st := .issued },
       by decide +kernel⟩,
     ⟨{ quads := [(0, {})] }, 0, 0, by decide +kernel⟩,
     ⟨{ st [(F.GLB_NODE_VALID, 1), (F.TRL_CTRL_EN, 1), (F.TRL_CTRL_READY, 1), (F.CFP_STATUS_STATE 0, 2), (F.CFK_STATUS_LINK 0, 2), (F.PE_STATUS_STATE 0, 2)] with quads := [(0, { ledger := [(7, { kind := .read, hostPath := true, plot := 0, win := 0, gen := 1, node := 66, addr := 0x20000, len := 8, req := { kind := .read, bar4 := false, off := 0, len := 8, tag := 3 }, st := .backoff })] })], trl := { table := row 1 (66 * 2 ^ 16) (2 ^ 20) } },
       0, 7, 0, (2 ^ 20),
       { kind := .read, hostPath := true, plot := 0, win := 0, gen := 1, node := 66, addr := 0x20000, len := 8, req := { kind := .read, bar4 := false, off := 0, len := 8, tag := 3 }, st := .backoff },
       by decide +kernel⟩,
     ⟨{ quads := [(0, {})] }, 0, 0, by decide +kernel⟩⟩

/-- The hypotheses of InboundRequests can be met. -/
theorem test_InboundRequests_hypotheses :
    (∃ (s : State) (q : Fin 4) (p : Nat) (w : Nat) (r : FabReq) (l : Line) (e : WinEntry) (cs : List (Nat × Nat)), s.wf = true ∧ InAdmitted s q p r w
      l e ∧ InGoes s q p r ∧ r.op = .write ∧ cs = chunks 64 (e.tbase + (r.addr - e.first)) r.len (128 * 2 ^ (funcOf s p).mps)) ∧
    (∃ (s : State) (q : Fin 4) (p : Nat) (w : Nat) (r : FabReq) (l : Line) (e : WinEntry) (cs : List (Nat × Nat)), s.wf = true ∧ InAdmitted s q p r w
      l e ∧ InGoes s q p r ∧ (r.op = .read ∨ r.op = .signalRead) ∧ cs = chunks 64 (e.tbase + (r.addr - e.first)) r.len (128 * 2 ^ (funcOf s p).mrrs)) ∧
    (∃ (s : State) (q : Fin 4) (p : Nat) (w : Nat) (r : FabReq) (l : Line) (e : WinEntry), s.wf = true ∧ InAdmitted s q p r w l e ∧ InGoes s q p r ∧
      r.op = .atomic ∧ bitF s (F.PE_CAPS_ATOMIC_EN p) = true ∧ (funcOf s p).atomicReq = true) ∧
    (∃ (s : State) (q : Fin 4) (p : Nat) (w : Nat) (r : FabReq) (l : Line) (e : WinEntry), s.wf = true ∧ InAdmitted s q p r w l e ∧ (r.op = .hold ∨
      r.op = .release)) ∧
    (∃ (s : State) (q : Fin 4) (p : Nat) (w : Nat) (r : FabReq) (l : Line) (e : WinEntry), s.wf = true ∧ InAdmitted s q p r w l e ∧ (r.op = .read ∨
      r.op = .signalRead ∨ r.op = .atomic) ∧ trackFull s q r = true) ∧
    (∃ (s : State) (q : Fin 4) (p : Nat) (w : Nat) (r : FabReq) (l : Line) (e : WinEntry), s.wf = true ∧ InAdmitted s q p r w l e ∧ (r.op = .write ∨
      r.op = .atomic ∧ trackFull s q r = false) ∧ rxAdmits s p = false) ∧
    (∃ (s : State) (q : Fin 4) (p : Nat) (w : Nat) (r : FabReq) (l : Line) (e : WinEntry), s.wf = true ∧ InAdmitted s q p r w l e ∧ r.ordered = false
      ∧ rxAdmits s p = true ∧ (r.op = .write ∨ r.op = .read ∧ trackFull s q r = false ∨ r.op = .atomic ∧ trackFull s q r = false)) ∧
    (∃ (s : State) (q : Fin 4) (p : Nat) (w : Nat) (r : FabReq) (l : Line) (e : WinEntry), s.wf = true ∧ InAdmitted s q p r w l e ∧ r.ordered = true ∧
      rxAdmits s p = true ∧ (r.op = .read ∨ r.op = .atomic) ∧ trackFull s q r = false ∧ (mfind (quadOf s q).inStreams (inKey p r)).any (fun i =>
      i.flag && !i.late) = true) ∧
    (∃ (s : State) (q : Fin 4) (p : Nat) (st : Nat) (r : FabReq), s.wf = true ∧ Inbound s q p r ∧ inStateRefusal s p = some st) ∧
    (∃ (s : State) (q : Fin 4) (p : Nat) (w : Nat) (r : FabReq) (l : Line) (e : WinEntry), s.wf = true ∧ Inbound s q p r ∧ inStateRefusal s p = none ∧
      (∀ x ∈ (quadOf s q).missQ, x.plot ≠ p) ∧ findLine s p true false r.addr r.len = some (w, l, e) ∧ (e.peerEn = true ∧ r.src ≠ e.node ∨ inEnabled e
      r.op = false)) ∧
    (∃ (s : State) (q : Fin 4) (p : Nat) (r : FabReq), s.wf = true ∧ Inbound s q p r ∧ inStateRefusal s p = none ∧ (∀ x ∈ (quadOf s q).missQ, x.plot ≠
      p) ∧ findLine s p true false r.addr r.len = none ∧ fillBusy s p true = false ∧ commitWriting s p true = false ∧ (quadOf s q).fills.length < 64 ∧
      (quadOf s q).missQ.length < 256) ∧
    (∃ (s : State) (q : Fin 4) (id : Nat) (x : InReq), s.wf = true ∧ mfind (quadOf s q).inbound id = some x ∧ x.req.op = .write ∧ x.toPlace = 0) ∧
    (∃ (s : State) (q : Fin 4) (c : Nat) (i : Nat) (r : FabReq), s.wf = true ∧ quadRuns s q = true ∧ txqRoom s q = true ∧ ([4, 5, 0, 1].find?
      (headIsMessage s q)) = some c ∧ (inboxOf s q c).head?.map (fun b => b.txn) = some (.req r) ∧ trellisLookup s 5 (r.src * 2 ^ 16 + r.code) = some
      i ∧ quadrantOf (resId (entryResult s i)) = q ∧ plotState s (resId (entryResult s i)) = psServing) ∧
    (∃ (s : State) (q : Fin 4) (c : Nat) (r : FabReq), quadRuns s q = true ∧ txqRoom s q = true ∧ ([4, 5, 0, 1].find? (headIsMessage s q)) = some c ∧
      (inboxOf s q c).head?.map (fun b => b.txn) = some (.req r) ∧ ((∀ i, trellisLookup s 5 (r.src * 2 ^ 16 + r.code) = some i → quadrantOf (resId
      (entryResult s i)) ≠ q ∨ plotState s (resId (entryResult s i)) ≠ psServing))) :=
    ⟨⟨{ st [(F.PWM_GATE_RUN, 15), (F.PWM_STATUS_MODE, 2), (F.GLB_NODE_VALID, 1), (F.TRL_CTRL_EN, 1), (F.TRL_CTRL_READY, 1), (F.CFP_STATUS_STATE 0, 2), (F.CFK_STATUS_LINK 0, 2), (F.PE_STATUS_STATE 0, 2), (F.PE_WINDOWS_IN_COUNT 0, 1), (F.PE_CAPS_INBOUND_EN 0, 1), (F.RST_SOFT_QUAD, 0)] with trl := { table := row 1 (66 * 2 ^ 16) (2 ^ 20) }, pga := { inbox := [(0, [{ ingress := 4, txn := .req { op := .write, dest := 1, src := 66, tenant := 0, tag := 7, addr := 0, len := 8, data := [1, 2, 3, 4, 5, 6, 7, 8] }, plot := 0, own := false }])] }, quads := [(0, { lines := [(32, { entry := some { valid := true, last := 15, target := 32, node := 66, gen := 1, dirIn := true, wrEn := true, rdEn := true, atEn := true }, curGen := 1 })] })], funcs := [(0, { mse := true, bme := true, atomicReq := true })] },
       0, 0, 32, { op := .write, dest := 1, src := 66, tenant := 0, tag := 7, addr := 0, len := 8, data := [1, 2, 3, 4, 5, 6, 7, 8] },
       { entry := some { valid := true, last := 15, target := 32, node := 66, gen := 1, dirIn := true, wrEn := true, rdEn := true, atEn := true }, curGen := 1 },
       { valid := true, last := 15, target := 32, node := 66, gen := 1, dirIn := true, wrEn := true, rdEn := true, atEn := true }, [(0x20000, 8)],
       by decide +kernel, by unfold InAdmitted Inbound; decide +kernel, by unfold InGoes; decide +kernel, by decide +kernel, by decide +kernel⟩,
     ⟨{ st [(F.PWM_GATE_RUN, 15), (F.PWM_STATUS_MODE, 2), (F.GLB_NODE_VALID, 1), (F.TRL_CTRL_EN, 1), (F.TRL_CTRL_READY, 1), (F.CFP_STATUS_STATE 0, 2), (F.CFK_STATUS_LINK 0, 2), (F.PE_STATUS_STATE 0, 2), (F.PE_WINDOWS_IN_COUNT 0, 1), (F.PE_CAPS_INBOUND_EN 0, 1), (F.RST_SOFT_QUAD, 0)] with trl := { table := row 1 (66 * 2 ^ 16) (2 ^ 20) }, pga := { inbox := [(0, [{ ingress := 4, txn := .req { op := .read, dest := 1, src := 66, tenant := 0, tag := 7, addr := 0, len := 8 }, plot := 0, own := false }])] }, quads := [(0, { lines := [(32, { entry := some { valid := true, last := 15, target := 32, node := 66, gen := 1, dirIn := true, wrEn := true, rdEn := true, atEn := true }, curGen := 1 })] })], funcs := [(0, { mse := true, bme := true, atomicReq := true })] },
       0, 0, 32, { op := .read, dest := 1, src := 66, tenant := 0, tag := 7, addr := 0, len := 8 },
       { entry := some { valid := true, last := 15, target := 32, node := 66, gen := 1, dirIn := true, wrEn := true, rdEn := true, atEn := true }, curGen := 1 },
       { valid := true, last := 15, target := 32, node := 66, gen := 1, dirIn := true, wrEn := true, rdEn := true, atEn := true }, [(0x20000, 8)],
       by decide +kernel, by unfold InAdmitted Inbound; decide +kernel, by unfold InGoes; decide +kernel, by decide +kernel, by decide +kernel⟩,
     ⟨{ st [(F.PWM_GATE_RUN, 15), (F.PWM_STATUS_MODE, 2), (F.GLB_NODE_VALID, 1), (F.TRL_CTRL_EN, 1), (F.TRL_CTRL_READY, 1), (F.CFP_STATUS_STATE 0, 2), (F.CFK_STATUS_LINK 0, 2), (F.PE_STATUS_STATE 0, 2), (F.PE_WINDOWS_IN_COUNT 0, 1), (F.PE_CAPS_INBOUND_EN 0, 1), (F.RST_SOFT_QUAD, 0), (F.PE_CAPS_ATOMIC_EN 0, 1)] with trl := { table := row 1 (66 * 2 ^ 16) (2 ^ 20) }, pga := { inbox := [(0, [{ ingress := 4, txn := .req { op := .atomic, dest := 1, src := 66, tenant := 0, tag := 7, addr := 0, len := 8, data := [1, 2, 3, 4, 5, 6, 7, 8], atop := 1 }, plot := 0, own := false }])] }, quads := [(0, { lines := [(32, { entry := some { valid := true, last := 15, target := 32, node := 66, gen := 1, dirIn := true, wrEn := true, rdEn := true, atEn := true }, curGen := 1 })] })], funcs := [(0, { mse := true, bme := true, atomicReq := true })] },
       0, 0, 32, { op := .atomic, dest := 1, src := 66, tenant := 0, tag := 7, addr := 0, len := 8, data := [1, 2, 3, 4, 5, 6, 7, 8], atop := 1 },
       { entry := some { valid := true, last := 15, target := 32, node := 66, gen := 1, dirIn := true, wrEn := true, rdEn := true, atEn := true }, curGen := 1 },
       { valid := true, last := 15, target := 32, node := 66, gen := 1, dirIn := true, wrEn := true, rdEn := true, atEn := true }, by decide +kernel,
       by unfold InAdmitted Inbound; decide +kernel, by unfold InGoes; decide +kernel, by decide +kernel, by decide +kernel, by decide +kernel⟩,
     ⟨{ st [(F.PWM_GATE_RUN, 15), (F.PWM_STATUS_MODE, 2), (F.GLB_NODE_VALID, 1), (F.TRL_CTRL_EN, 1), (F.TRL_CTRL_READY, 1), (F.CFP_STATUS_STATE 0, 2), (F.CFK_STATUS_LINK 0, 2), (F.PE_STATUS_STATE 0, 2), (F.PE_WINDOWS_IN_COUNT 0, 1), (F.PE_CAPS_INBOUND_EN 0, 1), (F.RST_SOFT_QUAD, 0)] with trl := { table := row 1 (66 * 2 ^ 16) (2 ^ 20) }, pga := { inbox := [(0, [{ ingress := 4, txn := .req { op := .hold, dest := 1, src := 66, tenant := 0, tag := 7, addr := 0, len := 8 }, plot := 0, own := false }])] }, quads := [(0, { lines := [(32, { entry := some { valid := true, last := 15, target := 32, node := 66, gen := 1, dirIn := true, wrEn := true, rdEn := true, atEn := true }, curGen := 1 })] })], funcs := [(0, { mse := true, bme := true, atomicReq := true })] },
       0, 0, 32, { op := .hold, dest := 1, src := 66, tenant := 0, tag := 7, addr := 0, len := 8 },
       { entry := some { valid := true, last := 15, target := 32, node := 66, gen := 1, dirIn := true, wrEn := true, rdEn := true, atEn := true }, curGen := 1 },
       { valid := true, last := 15, target := 32, node := 66, gen := 1, dirIn := true, wrEn := true, rdEn := true, atEn := true }, by decide +kernel,
       by unfold InAdmitted Inbound; decide +kernel, by decide +kernel⟩,
     ⟨{ st [(F.PWM_GATE_RUN, 15), (F.PWM_STATUS_MODE, 2), (F.GLB_NODE_VALID, 1), (F.TRL_CTRL_EN, 1), (F.TRL_CTRL_READY, 1), (F.CFP_STATUS_STATE 0, 2), (F.CFK_STATUS_LINK 0, 2), (F.PE_STATUS_STATE 0, 2), (F.PE_WINDOWS_IN_COUNT 0, 1), (F.PE_CAPS_INBOUND_EN 0, 1), (F.RST_SOFT_QUAD, 0)] with trl := { table := row 1 (66 * 2 ^ 16) (2 ^ 20) }, pga := { inbox := [(0, [{ ingress := 4, txn := .req { op := .read, dest := 1, src := 66, tenant := 0, tag := 7, addr := 0, len := 8 }, plot := 0, own := false }])] }, quads := [(0, { lines := [(32, { entry := some { valid := true, last := 15, target := 32, node := 66, gen := 1, dirIn := true, wrEn := true, rdEn := true, atEn := true }, curGen := 1 })], inbound := [(0, { req := { op := .read, dest := 1, src := 66, tenant := 0, tag := 7, addr := 0, len := 8 }, plot := 0, space := 4096 })] })], funcs := [(0, { mse := true, bme := true, atomicReq := true })] },
       0, 0, 32, { op := .read, dest := 1, src := 66, tenant := 0, tag := 7, addr := 0, len := 8 },
       { entry := some { valid := true, last := 15, target := 32, node := 66, gen := 1, dirIn := true, wrEn := true, rdEn := true, atEn := true }, curGen := 1 },
       { valid := true, last := 15, target := 32, node := 66, gen := 1, dirIn := true, wrEn := true, rdEn := true, atEn := true }, by decide +kernel,
       by unfold InAdmitted Inbound; decide +kernel, by decide +kernel, by decide +kernel⟩,
     ⟨{ st [(F.PWM_GATE_RUN, 15), (F.PWM_STATUS_MODE, 2), (F.GLB_NODE_VALID, 1), (F.TRL_CTRL_EN, 1), (F.TRL_CTRL_READY, 1), (F.CFP_STATUS_STATE 0, 2), (F.CFK_STATUS_LINK 0, 2), (F.PE_STATUS_STATE 0, 2), (F.PE_WINDOWS_IN_COUNT 0, 1), (F.PE_CAPS_INBOUND_EN 0, 1), (F.RST_SOFT_QUAD, 0), (F.PE_RATE_RATE 0 1, 5)] with trl := { table := row 1 (66 * 2 ^ 16) (2 ^ 20) }, pga := { inbox := [(0, [{ ingress := 4, txn := .req { op := .write, dest := 1, src := 66, tenant := 0, tag := 7, addr := 0, len := 8, data := [1, 2, 3, 4, 5, 6, 7, 8] }, plot := 0, own := false }])] }, quads := [(0, { lines := [(32, { entry := some { valid := true, last := 15, target := 32, node := 66, gen := 1, dirIn := true, wrEn := true, rdEn := true, atEn := true }, curGen := 1 })] })], plots := [(0, { rx := -3 })], funcs := [(0, { mse := true, bme := true, atomicReq := true })] },
       0, 0, 32, { op := .write, dest := 1, src := 66, tenant := 0, tag := 7, addr := 0, len := 8, data := [1, 2, 3, 4, 5, 6, 7, 8] },
       { entry := some { valid := true, last := 15, target := 32, node := 66, gen := 1, dirIn := true, wrEn := true, rdEn := true, atEn := true }, curGen := 1 },
       { valid := true, last := 15, target := 32, node := 66, gen := 1, dirIn := true, wrEn := true, rdEn := true, atEn := true }, by decide +kernel,
       by unfold InAdmitted Inbound; decide +kernel, by decide +kernel, by decide +kernel⟩,
     ⟨{ st [(F.PWM_GATE_RUN, 15), (F.PWM_STATUS_MODE, 2), (F.GLB_NODE_VALID, 1), (F.TRL_CTRL_EN, 1), (F.TRL_CTRL_READY, 1), (F.CFP_STATUS_STATE 0, 2), (F.CFK_STATUS_LINK 0, 2), (F.PE_STATUS_STATE 0, 2), (F.PE_WINDOWS_IN_COUNT 0, 1), (F.PE_CAPS_INBOUND_EN 0, 1), (F.RST_SOFT_QUAD, 0)] with trl := { table := row 1 (66 * 2 ^ 16) (2 ^ 20) }, pga := { inbox := [(0, [{ ingress := 4, txn := .req { op := .write, dest := 1, src := 66, tenant := 0, tag := 7, addr := 0, len := 8, data := [1, 2, 3, 4, 5, 6, 7, 8] }, plot := 0, own := false }])] }, quads := [(0, { lines := [(32, { entry := some { valid := true, last := 15, target := 32, node := 66, gen := 1, dirIn := true, wrEn := true, rdEn := true, atEn := true }, curGen := 1 })] })], funcs := [(0, { mse := true })] },
       0, 0, 32, { op := .write, dest := 1, src := 66, tenant := 0, tag := 7, addr := 0, len := 8, data := [1, 2, 3, 4, 5, 6, 7, 8] },
       { entry := some { valid := true, last := 15, target := 32, node := 66, gen := 1, dirIn := true, wrEn := true, rdEn := true, atEn := true }, curGen := 1 },
       { valid := true, last := 15, target := 32, node := 66, gen := 1, dirIn := true, wrEn := true, rdEn := true, atEn := true }, by decide +kernel,
       by unfold InAdmitted Inbound; decide +kernel, by decide +kernel, by decide +kernel, by decide +kernel⟩,
     ⟨{ st [(F.PWM_GATE_RUN, 15), (F.PWM_STATUS_MODE, 2), (F.GLB_NODE_VALID, 1), (F.TRL_CTRL_EN, 1), (F.TRL_CTRL_READY, 1), (F.CFP_STATUS_STATE 0, 2), (F.CFK_STATUS_LINK 0, 2), (F.PE_STATUS_STATE 0, 2), (F.PE_WINDOWS_IN_COUNT 0, 1), (F.PE_CAPS_INBOUND_EN 0, 1), (F.RST_SOFT_QUAD, 0)] with trl := { table := row 1 (66 * 2 ^ 16) (2 ^ 20) }, pga := { inbox := [(0, [{ ingress := 4, txn := .req { op := .read, dest := 1, src := 66, tenant := 0, tag := 7, addr := 0, len := 8, ordered := true }, plot := 0, own := false }])] }, quads := [(0, { lines := [(32, { entry := some { valid := true, last := 15, target := 32, node := 66, gen := 1, dirIn := true, wrEn := true, rdEn := true, atEn := true }, curGen := 1 })], inStreams := [(66 * 2 ^ 16, { flag := true, usedAt := 0 })] })], funcs := [(0, { mse := true, bme := true, atomicReq := true })] },
       0, 0, 32, { op := .read, dest := 1, src := 66, tenant := 0, tag := 7, addr := 0, len := 8, ordered := true },
       { entry := some { valid := true, last := 15, target := 32, node := 66, gen := 1, dirIn := true, wrEn := true, rdEn := true, atEn := true }, curGen := 1 },
       { valid := true, last := 15, target := 32, node := 66, gen := 1, dirIn := true, wrEn := true, rdEn := true, atEn := true }, by decide +kernel,
       by unfold InAdmitted Inbound; decide +kernel, by decide +kernel, by decide +kernel, by decide +kernel, by decide +kernel, by decide +kernel⟩,
     ⟨{ st [(F.PWM_GATE_RUN, 15), (F.PWM_STATUS_MODE, 2), (F.GLB_NODE_VALID, 1), (F.TRL_CTRL_EN, 1), (F.TRL_CTRL_READY, 1), (F.CFP_STATUS_STATE 0, 2), (F.CFK_STATUS_LINK 0, 2), (F.PE_STATUS_STATE 0, 2), (F.PE_WINDOWS_IN_COUNT 0, 1), (F.PE_CAPS_INBOUND_EN 0, 1), (F.RST_SOFT_QUAD, 0), (F.PE_STATUS_STATE 0, 4)] with trl := { table := row 1 (66 * 2 ^ 16) (2 ^ 20) }, pga := { inbox := [(0, [{ ingress := 4, txn := .req { op := .read, dest := 1, src := 66, tenant := 0, tag := 7, addr := 0, len := 8 }, plot := 0, own := false }])] }, quads := [(0, { lines := [(32, { entry := some { valid := true, last := 15, target := 32, node := 66, gen := 1, dirIn := true, wrEn := true, rdEn := true, atEn := true }, curGen := 1 })] })], funcs := [(0, { mse := true, bme := true, atomicReq := true })] },
       0, 0, 3, { op := .read, dest := 1, src := 66, tenant := 0, tag := 7, addr := 0, len := 8 }, by decide +kernel,
       by unfold Inbound; decide +kernel, by decide +kernel⟩,
     ⟨{ st [(F.PWM_GATE_RUN, 15), (F.PWM_STATUS_MODE, 2), (F.GLB_NODE_VALID, 1), (F.TRL_CTRL_EN, 1), (F.TRL_CTRL_READY, 1), (F.CFP_STATUS_STATE 0, 2), (F.CFK_STATUS_LINK 0, 2), (F.PE_STATUS_STATE 0, 2), (F.PE_WINDOWS_IN_COUNT 0, 1), (F.PE_CAPS_INBOUND_EN 0, 1), (F.RST_SOFT_QUAD, 0)] with trl := { table := row 1 (66 * 2 ^ 16) (2 ^ 20) }, pga := { inbox := [(0, [{ ingress := 4, txn := .req { op := .read, dest := 1, src := 66, tenant := 0, tag := 7, addr := 0, len := 8 }, plot := 0, own := false }])] }, quads := [(0, { lines := [(32, { entry := some { valid := true, last := 15, target := 32, node := 66, gen := 1, dirIn := true, peerEn := true }, curGen := 1 })] })], funcs := [(0, { mse := true, bme := true, atomicReq := true })] },
       0, 0, 32, { op := .read, dest := 1, src := 66, tenant := 0, tag := 7, addr := 0, len := 8 },
       { entry := some { valid := true, last := 15, target := 32, node := 66, gen := 1, dirIn := true, peerEn := true }, curGen := 1 },
       { valid := true, last := 15, target := 32, node := 66, gen := 1, dirIn := true, peerEn := true }, by decide +kernel,
       by unfold Inbound; decide +kernel, by decide +kernel, by decide +kernel, by decide +kernel, by decide +kernel⟩,
     ⟨{ st [(F.PWM_GATE_RUN, 15), (F.PWM_STATUS_MODE, 2), (F.GLB_NODE_VALID, 1), (F.TRL_CTRL_EN, 1), (F.TRL_CTRL_READY, 1), (F.CFP_STATUS_STATE 0, 2), (F.CFK_STATUS_LINK 0, 2), (F.PE_STATUS_STATE 0, 2), (F.PE_WINDOWS_IN_COUNT 0, 1), (F.PE_CAPS_INBOUND_EN 0, 1), (F.RST_SOFT_QUAD, 0), (F.PLT_TABLE_BASE_VALID 0, 1)] with trl := { table := row 1 (66 * 2 ^ 16) (2 ^ 20) }, pga := { inbox := [(0, [{ ingress := 4, txn := .req { op := .read, dest := 1, src := 66, tenant := 0, tag := 7, addr := 0, len := 8 }, plot := 0, own := false }])] }, quads := [(0, { lines := [] })], funcs := [(0, { mse := true, bme := true, atomicReq := true })] },
       0, 0, { op := .read, dest := 1, src := 66, tenant := 0, tag := 7, addr := 0, len := 8 }, by decide +kernel, by unfold Inbound; decide +kernel,
       by decide +kernel, by decide +kernel, by decide +kernel, by decide +kernel, by decide +kernel, by decide +kernel, by decide +kernel⟩,
     ⟨{ st [(F.GLB_NODE_VALID, 1), (F.TRL_CTRL_EN, 1), (F.TRL_CTRL_READY, 1), (F.CFP_STATUS_STATE 0, 2), (F.CFK_STATUS_LINK 0, 2), (F.PE_STATUS_STATE 0, 2)] with trl := { table := row 1 (66 * 2 ^ 16) (2 ^ 20) }, quads := [(0, { inbound := [(4, { req := { op := .write, dest := 1, src := 66, tenant := 0, tag := 7, addr := 0, len := 8, data := [1, 2, 3, 4, 5, 6, 7, 8] }, plot := 0, worst := 6 })] })] },
       0, 4,
       { req := { op := .write, dest := 1, src := 66, tenant := 0, tag := 7, addr := 0, len := 8, data := [1, 2, 3, 4, 5, 6, 7, 8] }, plot := 0, worst := 6 },
       by decide +kernel⟩,
     ⟨{ st [(F.PWM_GATE_RUN, 15), (F.PWM_STATUS_MODE, 2), (F.GLB_NODE_VALID, 1), (F.TRL_CTRL_EN, 1), (F.TRL_CTRL_READY, 1), (F.CFP_STATUS_STATE 0, 2), (F.CFK_STATUS_LINK 0, 2), (F.PE_STATUS_STATE 0, 2)] with pga := { inbox := [(4, [{ ingress := 4, txn := .req { op := .message, dest := 1, src := 66, tenant := 0, tag := 7, addr := 0, len := 0, code := 9 } }])] }, trl := { table := row 5 (66 * 2 ^ 16 + 9) 0 } },
       0, 4, (8 * trellisBucket 5 0 (66 * 2 ^ 16 + 9)),
       { op := .message, dest := 1, src := 66, tenant := 0, tag := 7, addr := 0, len := 0, code := 9 }, by decide +kernel⟩,
     ⟨{ st [(F.PWM_GATE_RUN, 15), (F.PWM_STATUS_MODE, 2), (F.GLB_NODE_VALID, 1), (F.TRL_CTRL_EN, 1), (F.TRL_CTRL_READY, 1), (F.CFP_STATUS_STATE 0, 2), (F.CFK_STATUS_LINK 0, 2), (F.PE_STATUS_STATE 0, 2)] with pga := { inbox := [(4, [{ ingress := 4, txn := .req { op := .message, dest := 1, src := 66, tenant := 0, tag := 7, addr := 0, len := 0, code := 9 } }])] } },
       0, 4, { op := .message, dest := 1, src := 66, tenant := 0, tag := 7, addr := 0, len := 0, code := 9 }, by decide +kernel⟩⟩

/-- The hypotheses of WindowCommandsStart can be met. -/
theorem test_WindowCommandsStart_hypotheses :
    (∃ (s : State) (q : Fin 4) (who : Party) (w : Fin 64) (i : Fin 1024), s.wf = true ∧ regOpen s who (A.GRF_WIN_CMD q) = true ∧ bitF s (bankF (isHost
      who) (F.GRF_WIN_STATUS_BUSY q)) = false ∧ (quadOf s q).commit = none ∧ (quadOf s q).commitQ = [] ∧ (plotState s (q * 1024 + i) = psServing ∨
      plotState s (q * 1024 + i) = psHeld ∨ plotState s (q * 1024 + i) = psFaulted) ∧ windowInUse s (q * 1024 + i) w = true ∧ tableOpen s q = true ∧
      bitF s (F.PLT_TABLE_BASE_TARGET q) = false) ∧
    (∃ (s : State) (q : Fin 4) (who : Party), regOpen s who (A.GRF_WIN_CMD q) = true ∧ bitF s (bankF (isHost who) (F.GRF_WIN_STATUS_BUSY q)) = true) ∧
    (∃ (s : State) (q : Fin 4) (who : Party), s.wf = true ∧ regOpen s who (A.GRF_WIN_CMD q) = true ∧ bitF s (bankF (isHost who) (F.GRF_WIN_STATUS_BUSY
      q)) = false ∧ (quadOf s q).commit = none ∧ (quadOf s q).commitQ = []) ∧
    (∃ (s : State) (q : Fin 4) (who : Party) (w : Fin 64) (i : Fin 1024), s.wf = true ∧ regOpen s who (A.GRF_WIN_CMD q) = true ∧ bitF s (bankF (isHost
      who) (F.GRF_WIN_STATUS_BUSY q)) = false ∧ (quadOf s q).commit = none ∧ (quadOf s q).commitQ = [] ∧ (plotState s (q * 1024 + i) = psServing ∨
      plotState s (q * 1024 + i) = psHeld ∨ plotState s (q * 1024 + i) = psFaulted) ∧ windowInUse s (q * 1024 + i) w = true ∧ tableOpen s q = true ∧
      bitF s (F.PLT_TABLE_BASE_TARGET q) = true ∧ (routeOf s (getF s (F.PLT_TABLE_NODE_NODE q)) (myNode s (1 + q)) (some (q * 1024))).2.pga ≠ 20) ∧
    (∃ (s : State) (q : Fin 4) (who : Party) (c : WinCommit), s.wf = true ∧ regOpen s who (A.GRF_WIN_CMD q) = true ∧ bitF s (bankF (isHost who)
      (F.GRF_WIN_STATUS_BUSY q)) = false ∧ (quadOf s q).commit = some c) ∧
    (∃ (s : State) (q : Fin 4) (who : Party), regOpen s who (A.GRF_WIN_CMD q) = false) :=
    ⟨⟨{ st [(F.PE_STATUS_STATE 0, 2), (F.PLT_TABLE_BASE_VALID 0, 1), (F.PE_WINDOWS_OUT_COUNT 0, 1)] with funcs := [(0, { bme := true })] }, 0,
       .gardener, 0, 0, by decide +kernel⟩,
     ⟨(st [(F.GRF_WIN_STATUS_BUSY 0, 1)]), 0, .gardener, by decide +kernel⟩,
     ⟨(st [(F.PE_STATUS_STATE 0, 2)]), 0, .gardener, by decide +kernel⟩,
     ⟨{ st [(F.PWM_GATE_RUN, 15), (F.PWM_STATUS_MODE, 2), (F.GLB_NODE_VALID, 1), (F.TRL_CTRL_EN, 1), (F.TRL_CTRL_READY, 1), (F.CFP_STATUS_STATE 0, 2), (F.CFK_STATUS_LINK 0, 2), (F.PE_STATUS_STATE 0, 2), (F.PLT_TABLE_BASE_VALID 0, 1), (F.PE_WINDOWS_OUT_COUNT 0, 1), (F.PLT_TABLE_BASE_TARGET 0, 1), (F.PLT_TABLE_NODE_NODE 0, 66)] with trl := { table := row 1 (66 * 2 ^ 16) (2 ^ 20) }, funcs := [(0, { bme := true })] },
       0, .gardener, 0, 0, by decide +kernel⟩,
     ⟨{ st [(F.PE_STATUS_STATE 0, 2), (F.PLT_TABLE_BASE_VALID 0, 1), (F.PE_WINDOWS_OUT_COUNT 0, 1)] with quads := [(0, { commit := some { hostBank := false, index := 0, win := 0, drain := false } })], funcs := [(0, { bme := true })] },
       0, .gardener, { hostBank := false, index := 0, win := 0, drain := false }, by decide +kernel⟩,
     ⟨(st [(F.HDG_STATUS_SAFE, 1)]), 0, .gardener, by decide +kernel⟩⟩

/-- The hypotheses of WindowCommitChecked can be met. -/
theorem test_WindowCommitChecked_hypotheses :
    (∃ (s : State) (q : Fin 4) (c : WinCommit) (bs : List Byte) (half : List WinEntry) (e : WinEntry), s.wf = true ∧ (quadOf s q).commit = some c ∧
      c.stage = .reading ∧ tableAsked s q .commitRead = false ∧ half = parseWindows (windowCount s (q * 1024 + c.index) (decide (32 ≤ c.win))) bs ∧
      commitCheck s q c c.staged half = none ∧ tableOpen s q = true ∧ e = { c.staged with gen := ((half[c.win % 32]?.getD {}).gen + 1) % 65536 }) ∧
    (∃ (s : State) (q : Fin 4) (c : WinCommit) (bs : List Byte) (r : Nat), s.wf = true ∧ (quadOf s q).commit = some c ∧ (quadOf s q).commitQ = [] ∧
      c.stage = .reading ∧ tableAsked s q .commitRead = false ∧ commitCheck s q c c.staged (parseWindows (windowCount s (q * 1024 + c.index) (decide
      (32 ≤ c.win))) bs) = some r) ∧
    (∃ (s : State) (q : Fin 4) (c : WinCommit), s.wf = true ∧ (quadOf s q).commit = some c ∧ (quadOf s q).commitQ = [] ∧ c.stage = .reading) :=
    ⟨⟨{ st [(F.PE_STATUS_STATE 0, 2), (F.PLT_TABLE_BASE_VALID 0, 1), (F.PE_WINDOWS_OUT_COUNT 0, 1)] with hdg := { fence := [(0, [{ node := 66, base := 0, last := 2 ^ 56, rd := true, wr := true, at_ := true }])] }, quads := [(0, { commit := some { hostBank := false, index := 0, win := 0, drain := false, staged := { valid := true, base := 0, last := 15, target := 0x20000, node := 66 } } })], ports := [(0, { bar2Pf := 65536 })], funcs := [(0, { bme := true })] },
       0,
       { hostBank := false, index := 0, win := 0, drain := false, staged := { valid := true, base := 0, last := 15, target := 0x20000, node := 66 } },
       (List.replicate 64 0), (parseWindows 1 (List.replicate 64 0)),
       { valid := true, base := 0, last := 15, target := 0x20000, node := 66, gen := 1 }, by decide +kernel⟩,
     ⟨{ st [(F.PE_STATUS_STATE 0, 2), (F.PLT_TABLE_BASE_VALID 0, 1), (F.PE_WINDOWS_OUT_COUNT 0, 1)] with quads := [(0, { commit := some { hostBank := false, index := 0, win := 0, drain := false, staged := { valid := true, format := 0 } } })] },
       0, { hostBank := false, index := 0, win := 0, drain := false, staged := { valid := true, format := 0 } }, (List.replicate 64 0), 1,
       by decide +kernel⟩,
     ⟨{ st [(F.PE_STATUS_STATE 0, 2), (F.PLT_TABLE_BASE_VALID 0, 1), (F.PE_WINDOWS_OUT_COUNT 0, 1)] with hdg := { fence := [(0, [{ node := 66, base := 0, last := 2 ^ 56, rd := true, wr := true, at_ := true }])] }, quads := [(0, { commit := some { hostBank := false, index := 0, win := 0, drain := false, staged := { valid := true, base := 0, last := 15, target := 0x20000, node := 66 } } })], ports := [(0, { bar2Pf := 65536 })], funcs := [(0, { bme := true })] },
       0,
       { hostBank := false, index := 0, win := 0, drain := false, staged := { valid := true, base := 0, last := 15, target := 0x20000, node := 66 } },
       by decide +kernel⟩⟩

/-- The hypotheses of WindowCommitTakesEffect can be met. -/
theorem test_WindowCommitTakesEffect_hypotheses :
    (∃ (s : State) (q : Fin 4) (c : WinCommit) (e : WinEntry) (l : Line), s.wf = true ∧ (quadOf s q).commit = some c ∧ (quadOf s q).commitQ = [] ∧
      c.stage = .writing e ∧ tableAsked s q .commitWrite = false ∧ c.index < 1024 ∧ c.win < 64 ∧ s.rake.slots = [] ∧ (quadOf s q).pf = [] ∧ (quadOf s
      q).missQ = [] ∧ armPlots s q = [] ∧ lineOf s (q * 1024 + c.index) c.win = some l ∧ c.drain = false) ∧
    (∃ (s : State) (q : Fin 4) (c : WinCommit) (e : WinEntry) (l : Line) (i : Nat), s.wf = true ∧ (quadOf s q).commit = some c ∧ (quadOf s q).commitQ
      = [] ∧ c.stage = .writing e ∧ tableAsked s q .commitWrite = false ∧ c.index < 1024 ∧ c.win < 64 ∧ s.rake.slots = [] ∧ (quadOf s q).pf = [] ∧
      (quadOf s q).missQ = [] ∧ armPlots s q = [] ∧ lineOf s (q * 1024 + c.index) c.win = some l ∧ l.cur < 2 ^ 24 ∧ c.drain = true ∧ freeSlot s q =
      some i) ∧
    (∃ (s : State) (q : Fin 4) (c : WinCommit) (e : WinEntry), s.wf = true ∧ (quadOf s q).commit = some c ∧ (quadOf s q).commitQ = [] ∧ c.stage =
      .writing e ∧ (quadOf s q).missQ = [] ∧ armPlots s q = []) ∧
    (∃ (s : State) (q : Fin 4) (who : Party) (i : Fin 16), regOpen s who (A.GRF_DRAIN q i) = true) ∧
    (∃ (s : State) (q : Fin 4) (who : Party) (i : Fin 16), regOpen s who (A.GRF_DRAIN q i) = false) :=
    ⟨⟨{ st [(F.PE_STATUS_STATE 0, 2), (F.PLT_TABLE_BASE_VALID 0, 1)] with quads := [(0, { commit := some { hostBank := false, index := 0, win := 0, drain := false, stage := .writing { valid := true, last := 15, target := 32, node := 66, gen := 1, rdEn := true } }, lines := [(0, { entry := some { valid := true, last := 15, target := 32, node := 66, gen := 1, rdEn := true }, curGen := 1 })] })] },
       0,
       { hostBank := false, index := 0, win := 0, drain := false, stage := .writing { valid := true, last := 15, target := 32, node := 66, gen := 1, rdEn := true } },
       { valid := true, last := 15, target := 32, node := 66, gen := 1, rdEn := true },
       { entry := some { valid := true, last := 15, target := 32, node := 66, gen := 1, rdEn := true }, curGen := 1 }, by decide +kernel⟩,
     ⟨{ st [(F.PE_STATUS_STATE 0, 2), (F.PLT_TABLE_BASE_VALID 0, 1)] with quads := [(0, { commit := some { hostBank := false, index := 0, win := 32, drain := true, stage := .writing { valid := true, last := 15, target := 32, node := 66, gen := 1, dirIn := true, wrEn := true } }, lines := [(32, { entry := some { valid := true, last := 15, target := 32, node := 66, gen := 1, dirIn := true, wrEn := true }, curGen := 1, cur := 2 })] })] },
       0,
       { hostBank := false, index := 0, win := 32, drain := true, stage := .writing { valid := true, last := 15, target := 32, node := 66, gen := 1, dirIn := true, wrEn := true } },
       { valid := true, last := 15, target := 32, node := 66, gen := 1, dirIn := true, wrEn := true },
       { entry := some { valid := true, last := 15, target := 32, node := 66, gen := 1, dirIn := true, wrEn := true }, curGen := 1, cur := 2 }, 0,
       by decide +kernel⟩,
     ⟨{ st [(F.PE_STATUS_STATE 0, 2), (F.PLT_TABLE_BASE_VALID 0, 1)] with quads := [(0, { commit := some { hostBank := false, index := 0, win := 0, drain := false, stage := .writing { valid := true, last := 15, target := 32, node := 66, gen := 1, rdEn := true } }, lines := [(0, { entry := some { valid := true, last := 15, target := 32, node := 66, gen := 1, rdEn := true }, curGen := 1 })] })] },
       0,
       { hostBank := false, index := 0, win := 0, drain := false, stage := .writing { valid := true, last := 15, target := 32, node := 66, gen := 1, rdEn := true } },
       { valid := true, last := 15, target := 32, node := 66, gen := 1, rdEn := true }, by decide +kernel⟩,
     ⟨(st [(F.GRF_DRAIN_VALID 0 0, 1), (F.GRF_DRAIN_DONE 0 0, 1)]), 0, .gardener, 0, by decide +kernel⟩,
     ⟨(st [(F.HDG_STATUS_SAFE, 1)]), 0, .gardener, 0, by decide +kernel⟩⟩

/-- The hypotheses of PrefetchEntriesEnd can be met. -/
theorem test_PrefetchEntriesEnd_hypotheses :
    (∃ (s : State) (q : Fin 4) (k : Fin 64) (e : Prefetch), s.wf = true ∧ quadRuns s q = true ∧ (quadOf s q).pf[k.val]? = some e ∧ pfMissing e = []) ∧
    (∃ (s : State) (q : Fin 4) (k : Fin 64) (e : Prefetch), s.wf = true ∧ quadRuns s q = true ∧ (quadOf s q).pf[k.val]? = some e ∧ pfMissing e ≠ [] ∧
      plotState s e.plot = psServing ∧ (mget (plotOf s e.plot).rates (rateKey 5 e.win) {}).isOpen = false) ∧
    (∃ (s : State) (q : Fin 4) (who : Party) (v : Word), s.wf = true ∧ regOpen s who (A.GRF_PF_CTRL q) = true ∧ 1 ≤ bits v.toNat 8 8 ∧ bits v.toNat 8
      8 ≤ 64 ∧ (quadOf s q).pf.length ≤ 64) ∧
    (∃ (s : State) (q : Fin 4) (who : Party) (v : Word), regOpen s who (A.GRF_PF_CTRL q) = true ∧ (bits v.toNat 8 8 = 0 ∨ 64 < bits v.toNat 8 8)) :=
    ⟨⟨{ st [(F.PE_STATUS_STATE 0, 2)] with quads := [(0, { pf := [{ plot := 0, win := 0, gen := 1, node := 66, addr := 0, len := 2, data := [1, 2], deliv := 3, born := 0, used := 0, life := 100 }] })] },
       0, 0, { plot := 0, win := 0, gen := 1, node := 66, addr := 0, len := 2, data := [1, 2], deliv := 3, born := 0, used := 0, life := 100 },
       by decide +kernel⟩,
     ⟨{ st [(F.PE_STATUS_STATE 0, 2)] with quads := [(0, { pf := [{ plot := 0, win := 0, gen := 1, node := 66, addr := 0, len := 2, data := [1, 2], deliv := 1, born := 0, used := 0, life := 100 }] })] },
       0, 0, { plot := 0, win := 0, gen := 1, node := 66, addr := 0, len := 2, data := [1, 2], deliv := 1, born := 0, used := 0, life := 100 },
       by decide +kernel⟩,
     ⟨{ quads := [(0, { pf := [{ plot := 0, win := 0, gen := 1, node := 66, addr := 0, len := 2, data := [1, 2], deliv := 3, born := 0, used := 0, life := 100 }] })] },
       0, .gardener, (4 * 256), by decide +kernel⟩,
     ⟨{}, 0, .gardener, 0, by decide +kernel⟩⟩

/-- The hypotheses of WindowFillsEnd can be met. -/
theorem test_WindowFillsEnd_hypotheses :
    (∃ (s : State) (p : Fin 4096) (bs : List Byte) (r : OutReq) (rs : List OutReq) (w : Nat) (e : WinEntry), s.wf = true ∧ fillReading s p false =
      true ∧ tableAsked s (quadrantOf p) (.fill p false) = false ∧ (plotOf s p).queue = r :: rs ∧ armPlots s (quadrantOf p) = [] ∧ (quadOf s
      (quadrantOf p)).missQ = [] ∧ (quadOf s (quadrantOf p)).commit = none ∧ fillFind s p false r.bar4 r.off r.len 0 (parseWindows (windowCount s p
      false) bs) = (some (w, e), false) ∧ lineOf s p w = none) ∧
    (∃ (s : State) (p : Fin 4096) (w : Nat) (e : WinEntry) (b : Bool), s.wf = true ∧ mfind (quadOf s (quadrantOf p)).fills (fillKey p b) = some
      (.stalled w e) ∧ armPlots s (quadrantOf p) = [] ∧ (quadOf s (quadrantOf p)).missQ = [] ∧ (quadOf s (quadrantOf p)).commit = none ∧ lineOf s p w
      = none ∧ (quadOf s (quadrantOf p)).lines.length < 4096 ∧ (b = true ∨ windowFenceOk s p e = true)) ∧
    (∃ (s : State) (p : Fin 4096) (x : InReq), s.wf = true ∧ fillReading s p true = true ∧ tableAsked s (quadrantOf p) (.fill p true) = false ∧
      armPlots s (quadrantOf p) = [] ∧ (quadOf s (quadrantOf p)).missQ = [x] ∧ x.plot = p ∧ (quadOf s (quadrantOf p)).commit = none ∧ inStateRefusal s
      p = none) ∧
    (∃ (s : State) (p : Fin 4096) (bs : List Byte) (r : OutReq), s.wf = true ∧ fillReading s p false = true ∧ tableAsked s (quadrantOf p) (.fill p
      false) = false ∧ (plotOf s p).queue = [r] ∧ r.kind = .read ∧ armPlots s (quadrantOf p) = [] ∧ (quadOf s (quadrantOf p)).held = [] ∧ (quadOf s
      (quadrantOf p)).missQ = [] ∧ (quadOf s (quadrantOf p)).commit = none ∧ fillFind s p false r.bar4 r.off r.len 0 (parseWindows (windowCount s p
      false) bs) = (none, false)) ∧
    (∃ (s : State) (p : Fin 4096) (r : OutReq), s.wf = true ∧ fillReading s p false = true ∧ (plotOf s p).queue = [r] ∧ r.kind = .read ∧ armPlots s
      (quadrantOf p) = [] ∧ (quadOf s (quadrantOf p)).held = [] ∧ (quadOf s (quadrantOf p)).missQ = [] ∧ (quadOf s (quadrantOf p)).commit = none) ∧
    (∃ (s : State) (p : Fin 4096) (x : InReq), s.wf = true ∧ fillReading s p true = true ∧ armPlots s (quadrantOf p) = [] ∧ (quadOf s (quadrantOf
      p)).held = [] ∧ (quadOf s (quadrantOf p)).missQ = [x] ∧ x.plot = p ∧ (quadOf s (quadrantOf p)).commit = none ∧ bitF s (F.PLT_TABLE_BASE_TARGET
      (quadrantOf p)) = true) :=
    ⟨⟨{ st [(F.PE_STATUS_STATE 0, 2), (F.PE_WINDOWS_OUT_COUNT 0, 1)] with quads := [(0, { fills := [(0, .reading)] })], plots := [(0, { queue := [{ kind := .read, bar4 := false, off := 0, len := 8, tag := 3 }] })], ports := [(0, { bar2Pf := 65536 })], hdg := { fence := [(0, [{ node := 66, base := 0, last := 4095, rd := true, wr := true, at_ := true }])] } },
       0, (windowBytes { valid := true, last := 15, target := 32, node := 66, rdEn := true }),
       { kind := .read, bar4 := false, off := 0, len := 8, tag := 3 }, [], 0, { valid := true, last := 15, target := 32, node := 66, rdEn := true },
       by decide +kernel⟩,
     ⟨{ st [(F.PE_STATUS_STATE 0, 2), (F.PE_WINDOWS_OUT_COUNT 0, 1)] with quads := [(0, { fills := [(0, .stalled 0 { valid := true, last := 15, target := 32, node := 66, rdEn := true })] })], plots := [(0, { queue := [{ kind := .read, bar4 := false, off := 0, len := 8, tag := 3 }] })], ports := [(0, { bar2Pf := 65536 })], hdg := { fence := [(0, [{ node := 66, base := 0, last := 4095, rd := true, wr := true, at_ := true }])] } },
       0, 0, { valid := true, last := 15, target := 32, node := 66, rdEn := true }, false, by decide +kernel⟩,
     ⟨{ st [(F.PWM_GATE_RUN, 15), (F.PWM_STATUS_MODE, 2), (F.GLB_NODE_VALID, 1), (F.TRL_CTRL_EN, 1), (F.TRL_CTRL_READY, 1), (F.CFP_STATUS_STATE 0, 2), (F.CFK_STATUS_LINK 0, 2), (F.PE_STATUS_STATE 0, 2), (F.PLT_TABLE_BASE_VALID 0, 1), (F.PE_WINDOWS_IN_COUNT 0, 1), (F.PE_CAPS_INBOUND_EN 0, 1), (F.RST_SOFT_QUAD, 0)] with trl := { table := row 1 (66 * 2 ^ 16) (2 ^ 20) }, quads := [(0, { fills := [(1, .reading)], missQ := [{ req := { op := .read, dest := 1, src := 66, tenant := 0, tag := 7, addr := 0, len := 8 }, plot := 0 }] })], funcs := [(0, { mse := true, bme := true })] },
       0, { req := { op := .read, dest := 1, src := 66, tenant := 0, tag := 7, addr := 0, len := 8 }, plot := 0 }, by decide +kernel⟩,
     ⟨{ st [(F.PE_STATUS_STATE 0, 2), (F.PE_WINDOWS_OUT_COUNT 0, 1)] with quads := [(0, { fills := [(0, .reading)] })], plots := [(0, { queue := [{ kind := .read, bar4 := false, off := 0, len := 8, tag := 3 }] })], ports := [(0, { bar2Pf := 65536 })], hdg := { fence := [(0, [{ node := 66, base := 0, last := 4095, rd := true, wr := true, at_ := true }])] } },
       0, (List.replicate 64 0), { kind := .read, bar4 := false, off := 0, len := 8, tag := 3 }, by decide +kernel⟩,
     ⟨{ st [(F.PE_STATUS_STATE 0, 2), (F.PE_WINDOWS_OUT_COUNT 0, 1)] with quads := [(0, { fills := [(0, .reading)] })], plots := [(0, { queue := [{ kind := .read, bar4 := false, off := 0, len := 8, tag := 3 }] })], ports := [(0, { bar2Pf := 65536 })], hdg := { fence := [(0, [{ node := 66, base := 0, last := 4095, rd := true, wr := true, at_ := true }])] } },
       0, { kind := .read, bar4 := false, off := 0, len := 8, tag := 3 }, by decide +kernel⟩,
     ⟨{ st [(F.PWM_GATE_RUN, 15), (F.PWM_STATUS_MODE, 2), (F.GLB_NODE_VALID, 1), (F.TRL_CTRL_EN, 1), (F.TRL_CTRL_READY, 1), (F.CFP_STATUS_STATE 0, 2), (F.CFK_STATUS_LINK 0, 2), (F.PE_STATUS_STATE 0, 2), (F.PLT_TABLE_BASE_VALID 0, 1), (F.PE_WINDOWS_IN_COUNT 0, 1), (F.PE_CAPS_INBOUND_EN 0, 1), (F.RST_SOFT_QUAD, 0), (F.PLT_TABLE_BASE_TARGET 0, 1)] with trl := { table := row 1 (66 * 2 ^ 16) (2 ^ 20) }, quads := [(0, { fills := [(1, .reading)], missQ := [{ req := { op := .read, dest := 1, src := 66, tenant := 0, tag := 7, addr := 0, len := 8 }, plot := 0 }] })], funcs := [(0, { mse := true, bme := true })] },
       0, { req := { op := .read, dest := 1, src := 66, tenant := 0, tag := 7, addr := 0, len := 8 }, plot := 0 }, by decide +kernel⟩⟩

/-- The hypotheses of TrellisControlAndWrites can be met. -/
theorem test_TrellisControlAndWrites_hypotheses :
    (∃ (s : State) (who : Party), regOpen s who A.TRL_CTRL = true) ∧
    (∃ (s : State), s.wf = true ∧ mwf s.trl.struck = true ∧ s.trl.scan = true) ∧
    (∃ (s : State) (who : Party) (i : Fin 65536), s.wf = true ∧ mwf s.trl.struck = true ∧ regOpen s who A.TRL_CMD = true ∧ bitF s F.TRL_STATUS_BUSY =
      false ∧ trlCheck s i = 0) ∧
    (∃ (s : State) (who : Party) (i : Fin 65536), regOpen s who A.TRL_CMD = true ∧ bitF s F.TRL_STATUS_BUSY = false ∧ trlCheck s i ≠ 0) ∧
    (∃ (s : State) (who : Party), s.wf = true ∧ regOpen s who A.TRL_CMD = true ∧ bitF s F.TRL_STATUS_BUSY = false) ∧
    (∃ (s : State) (who : Party), regOpen s who A.TRL_CMD = true ∧ bitF s F.TRL_STATUS_BUSY = true) :=
    ⟨⟨{}, .gardener, by decide +kernel⟩,
     ⟨{ trl := { table := row 1 (66 * 2 ^ 16) (2 ^ 20), scan := true } }, by decide +kernel⟩,
     ⟨(st [(F.TRL_CTRL_READY, 1)]), .gardener, 0, by decide +kernel⟩,
     ⟨{}, .gardener, 0, by decide +kernel⟩,
     ⟨(st [(F.TRL_CTRL_READY, 1)]), .gardener, by decide +kernel⟩,
     ⟨(st [(F.TRL_STATUS_BUSY, 1)]), .gardener, by decide +kernel⟩⟩

/-- The hypotheses of TrellisFindAndTable can be met. -/
theorem test_TrellisFindAndTable_hypotheses :
    (∃ (s : State) (who : Party) (j : Nat), regOpen s who A.TRL_CMD = true ∧ bitF s F.TRL_STATUS_BUSY = false ∧ bitF s F.TRL_CTRL_READY = true ∧
      trlFound s = some j ∧ entryResult s j < 2 ^ 64) ∧
    (∃ (s : State) (who : Party), regOpen s who A.TRL_CMD = true ∧ bitF s F.TRL_STATUS_BUSY = false ∧ bitF s F.TRL_CTRL_READY = true ∧ trlFound s =
      none) ∧
    (∃ (s : State) (who : Party), regOpen s who A.TRL_CMD = true ∧ bitF s F.TRL_STATUS_BUSY = false ∧ bitF s F.TRL_CTRL_READY = false) ∧
    (∃ (s : State) (who : Party), s.wf = true ∧ mwf s.trl.struck = true ∧ partyOpen s who = true ∧ bitF s F.TRL_CTRL_EN = false ∧ bitF s
      F.TRL_CTRL_READY = false) ∧
    (∃ (s : State) (who : Party), partyOpen s who = true ∧ (bitF s F.TRL_CTRL_EN = true ∨ bitF s F.TRL_CTRL_READY = true)) :=
    ⟨⟨{ st [(F.TRL_CTRL_READY, 1), (F.TRL_STAGE0_V, 2 ^ 60 + 66 * 2 ^ 16)] with trl := { table := row 1 (66 * 2 ^ 16) (2 ^ 20) } }, .gardener, (8 *
       trellisBucket 1 0 (66 * 2 ^ 16)), by decide +kernel⟩,
     ⟨{ st [(F.TRL_CTRL_READY, 1), (F.TRL_STAGE0_V, 2 ^ 60 + 67 * 2 ^ 16)] with trl := { table := row 1 (66 * 2 ^ 16) (2 ^ 20) } }, .gardener,
       by decide +kernel⟩,
     ⟨{}, .gardener, by decide +kernel⟩,
     ⟨{}, .gardener, by decide +kernel⟩,
     ⟨(st [(F.TRL_CTRL_READY, 1)]), .gardener, by decide +kernel⟩⟩

/-- The hypotheses of PlotLoads can be met. -/
theorem test_PlotLoads_hypotheses :
    (∃ (s : State) (q : Fin 4) (who : Party) (i : Fin 1024), s.wf = true ∧ PltTaken s q who i ∧ plotState s (q * 1024 + i) = psDisabled ∧ pwmMode s ≠
      moBoot) ∧
    (∃ (s : State) (p : Fin 4096) (bs : List Byte), s.wf = true ∧ loading s p = true ∧ tableAsked s (quadrantOf p) (.load p) = false ∧ loadBad s p
      (.ok bs) = none) ∧
    (∃ (s : State) (p : Fin 4096) (r : MemResult) (res : Nat), s.wf = true ∧ loading s p = true ∧ (r.isFailed = true ∨ tableAsked s (quadrantOf p)
      (.load p) = false) ∧ loadBad s p r = some res) ∧
    (∃ (s : State) (p : Fin 4096), loading s p = false) ∧
    (∃ (s : State) (p : Fin 4096), s.wf = true ∧ loading s p = true) ∧
    (∃ (s : State) (p : Fin 4096), s.wf = true ∧ loading s p = false) :=
    ⟨⟨{ st [(F.PLT_TABLE_BASE_VALID 0, 1), (F.PWM_STATUS_MODE, 3)] with funcs := [(0, { bme := true })] }, 0, .gardener, 0, by decide +kernel,
       by unfold PltTaken; decide +kernel, by decide +kernel, by decide +kernel⟩,
     ⟨{ st [(F.PLT_TABLE_BASE_VALID 0, 1), (F.PE_STATUS_STATE 0, 1)] with plots := [(0, { load := some .command })], quads := [(0, { plt := some ⟨1, 0⟩ })] },
       0, (image [((F.PE_CONTROL_VALID 0, 0x10), 1), ((F.PE_CONTROL_FORMAT 0, 0x10), 1), ((F.PE_SHARE_WEIGHT_DMA 0, 0x18), 1), ((F.PE_SHARE_WEIGHT 0,
       0x18), 1), ((F.PE_MSIX_VEC_COUNT 0, 0x40), 1)]), by decide +kernel⟩,
     ⟨{ st [(F.PLT_TABLE_BASE_VALID 0, 1), (F.PE_STATUS_STATE 0, 1)] with plots := [(0, { load := some .command })], quads := [(0, { plt := some ⟨1, 0⟩ })] },
       0, (.failed .timeout), 2, by decide +kernel⟩,
     ⟨{}, 0, by decide +kernel⟩,
     ⟨{ st [(F.PLT_TABLE_BASE_VALID 0, 1), (F.PE_STATUS_STATE 0, 1)] with plots := [(0, { load := some .command })], quads := [(0, { plt := some ⟨1, 0⟩ })] },
       0, by decide +kernel⟩,
     ⟨(st [(F.PLT_CMD_STATUS_BUSY 0, 1)]), 0, by decide +kernel⟩⟩

/-- The hypotheses of PlotCommits can be met. -/
theorem test_PlotCommits_hypotheses :
    (∃ (s : State) (q : Fin 4) (who : Party) (i : Fin 1024) (p : Nat), s.wf = true ∧ PltTaken s q who i ∧ p = q * 1024 + i ∧ (plotState s p =
      psServing ∨ plotState s p = psHeld) ∧ tableOpen s q = true ∧ bitF s (F.PLT_TABLE_BASE_TARGET q) = false ∧ tableAsked s q (.commit p) = false) ∧
    (∃ (s : State) (q : Fin 4) (who : Party) (i : Fin 1024) (r : MemResult), s.wf = true ∧ PltTaken s q who i ∧ (plotState s (q * 1024 + i) =
      psServing ∨ plotState s (q * 1024 + i) = psHeld) ∧ (tableReached s q = false ∨ (bitF s (F.PLT_TABLE_BASE_TARGET q) = false ∧ tableAsked s q
      (.commit (q * 1024 + i)) = false ∧ r.isFailed = true))) ∧
    (∃ (s : State) (q : Fin 4) (who : Party) (i : Fin 1024), s.wf = true ∧ PltTaken s q who i ∧ (plotState s (q * 1024 + i) = psServing ∨ plotState s
      (q * 1024 + i) = psHeld) ∧ tableReached s q = true ∧ bitF s (F.PLT_TABLE_BASE_TARGET q) = true) ∧
    (∃ (s : State) (p : Fin 4096), s.wf = true ∧ (plotState s p = psServing ∨ plotState s p = psHeld ∨ plotState s p = psFaulted) ∧ pageMalformed s p
      = false ∧ pageInUse s p = false ∧ pageDead s p = false) ∧
    (∃ (s : State) (q : Fin 4) (who : Party), s.wf = true ∧ regOpen s who (A.PLT_TABLE_BASE q) = true ∧ portIdle s q = true) :=
    ⟨⟨{ st [(F.PE_STATUS_STATE 0, 2), (F.PLT_TABLE_BASE_VALID 0, 1)] with funcs := [(0, { bme := true })] }, 0, .gardener, 0, 0, by decide +kernel,
       by unfold PltTaken; decide +kernel, by decide +kernel, by decide +kernel, by decide +kernel, by decide +kernel, by decide +kernel⟩,
     ⟨{ st [(F.PE_STATUS_STATE 0, 2), (F.PLT_TABLE_BASE_VALID 0, 1)] with funcs := [(0, { bme := true })] }, 0, .gardener, 0, (.failed .timeout),
       by decide +kernel, by unfold PltTaken; decide +kernel, by decide +kernel, by decide +kernel⟩,
     ⟨{ st [(F.PE_STATUS_STATE 0, 2), (F.PLT_TABLE_BASE_VALID 0, 1), (F.GLB_NODE_VALID, 1), (F.TRL_CTRL_EN, 1), (F.TRL_CTRL_READY, 1), (F.CFP_STATUS_STATE 0, 2), (F.CFK_STATUS_LINK 0, 2), (F.PLT_TABLE_BASE_TARGET 0, 1), (F.PLT_TABLE_NODE_NODE 0, 66)] with trl := { table := row 1 (66 * 2 ^ 16) (2 ^ 20) }, funcs := [(0, { bme := true })] },
       0, .gardener, 0, by decide +kernel, by unfold PltTaken; decide +kernel, by decide +kernel, by decide +kernel, by decide +kernel⟩,
     ⟨(st [(F.PE_STATUS_STATE 0, 2), (F.PE_MSIX_VEC_COUNT 0, 1)]), 0, by decide +kernel⟩,
     ⟨{}, 0, .gardener, by decide +kernel⟩⟩

/-- The hypotheses of PlotResets can be met. -/
theorem test_PlotResets_hypotheses :
    (∃ (s : State) (q : Fin 4) (who : Party) (i : Fin 1024), s.wf = true ∧ PltTaken s q who i ∧ (plotState s (q * 1024 + i) = psServing ∨ plotState s
      (q * 1024 + i) = psHeld ∨ plotState s (q * 1024 + i) = psFaulted)) ∧
    (∃ (s : State) (q : Fin 4) (who : Party) (i : Fin 1024), s.wf = true ∧ PltTaken s q who i ∧ plotState s (q * 1024 + i) = psLoading) ∧
    (∃ (s : State) (p : Fin 4096) (c : Cloche), s.wf = true ∧ (plotOf s p).cloche = some c ∧ plotState s p = psResetting ∧ (plotWrites s p = [] ∨
      c.start + min (ackMicros s p) 8000 ≤ s.now) ∧ c.refetch = false) ∧
    (∃ (s : State) (p : Fin 4096), (plotOf s p).cloche = none) ∧
    (∃ (s : State) (p : Fin 4096) (c : Cloche), (plotOf s p).cloche = some c ∧ plotState s p = psResetting ∧ plotWrites s p ≠ [] ∧ s.now < c.start +
      min (ackMicros s p) 8000) :=
    ⟨⟨(st [(F.PE_STATUS_STATE 0, 2)]), 0, .gardener, 0, by decide +kernel, by unfold PltTaken; decide +kernel, by decide +kernel⟩,
     ⟨{ st [(F.PE_STATUS_STATE 0, 1)] with plots := [(0, { load := some .command })], ticks := 0 }, 0, .gardener, 0, by decide +kernel,
       by unfold PltTaken; decide +kernel, by decide +kernel⟩,
     ⟨{ st [(F.PE_STATUS_STATE 0, 4)] with plots := [(0, { cloche := some {} })] }, 0, {}, by decide +kernel⟩,
     ⟨{}, 0, by decide +kernel⟩,
     ⟨{ st [(F.PE_STATUS_STATE 0, 4)] with plots := [(0, { cloche := some {} })], quads := [(0, { ledger := [(7, { kind := .write, hostPath := true, plot := 0, win := 0, gen := 1, node := 66, addr := 0x20000, len := 8, req := { kind := .write, bar4 := false, off := 0, len := 8, data := [1, 2, 3, 4, 5, 6, 7, 8] }, st := .issued })] })] },
       0, {}, by decide +kernel⟩⟩

/-- The hypotheses of PlotRecordsWritten can be met. -/
theorem test_PlotRecordsWritten_hypotheses :
    (∃ (s : State) (p : Fin 4096) (who : Party) (periodic : Bool), s.wf = true ∧ (plotOf s p).wbBusy = none ∧ tableOpen s (quadrantOf p) = true ∧ bitF
      s (F.PLT_TABLE_BASE_TARGET (quadrantOf p)) = false ∧ (plotState s p = psServing ∨ plotState s p = psHeld ∨ plotState s p = psFaulted) ∧ ((if
      periodic then (plotOf s p).dirty = true ∧ getF s (F.PLT_WB_PERIOD (quadrantOf p)) ≠ 0 else PltTaken s (quadrantOf p) who (indexOf p)))) ∧
    (∃ (s : State) (p : Fin 4096), ((plotOf s p).dirty = false ∨ getF s (F.PLT_WB_PERIOD (quadrantOf p)) = 0)) ∧
    (∃ (s : State) (p : Fin 4096), s.wf = true ∧ (plotOf s p).wbBusy = some 1 ∧ tableOpen s (quadrantOf p) = true ∧ bitF s (F.PLT_TABLE_BASE_TARGET
      (quadrantOf p)) = false ∧ tableAsked s (quadrantOf p) (.writeback p) = false) ∧
    (∃ (s : State) (p : Fin 4096), s.wf = true ∧ (plotOf s p).wbBusy = some 2 ∧ (plotOf s p).wbAgain = false ∧ tableAsked s (quadrantOf p) (.writeback
      p) = false) ∧
    (∃ (s : State) (p : Fin 4096), s.wf = true ∧ ((plotOf s p).wbBusy = some 1 ∨ (plotOf s p).wbBusy = some 2) ∧ (plotOf s p).wbAgain = false) ∧
    (∃ (s : State) (p : Fin 4096) (bs : List Byte), s.wf = true ∧ (plotOf s p).refetch = true ∧ (plotOf s p).refetchBare = false ∧ tableAsked s
      (quadrantOf p) (.refetch p) = false ∧ (plotState s p = psServing ∨ plotState s p = psHeld) ∧ plotMalformed bs p = false ∧ bits (wordAt bs 0) 0 4
      ≤ 5) ∧
    (∃ (s : State) (p : Fin 4096) (r : MemResult), s.wf = true ∧ (plotOf s p).refetch = true ∧ (plotState s p = psServing ∨ plotState s p = psHeld) ∧
      (r.isFailed = true ∨ tableAsked s (quadrantOf p) (.refetch p) = false) ∧ (match r with | .ok bs => plotMalformed bs p | .failed _ => true) =
      true) ∧
    (∃ (s : State) (p : Fin 4096), (plotOf s p).refetch = false) ∧
    (∃ (s : State) (p : Fin 4096) (v : Word) (r : FaultRec), s.wf = true ∧ pageDead s p = false ∧ (plotOf s p).held = [r] ∧ bmeOf s p = true ∧ getF s
      (F.PE_FAULT_LOG_EN p) = 1 ∧ getF s (F.PE_FAULT_PTR_PROD p) ≠ bits v.toNat 0 12 ∧ getF s (F.PE_FAULT_PTR_PROD p) + 1 < 16 * 2 ^ getF s
      (F.PE_FAULT_LOG_SIZE p) ∧ getF s (F.PE_FAULT_PTR_PROD p) + 1 < 4096) ∧
    (∃ (s : State) (p : Fin 4096) (code : BitVec 8) (scope : Fin 64) (w : RateWin) (r : FaultRec), s.wf = true ∧ mget (plotOf s p).rates (rateKey
      code.toNat scope) {} = w ∧ w.isOpen = true ∧ w.first = some r ∧ r.code < 256) ∧
    (∃ (s : State) (p : Fin 4096) (code : BitVec 8) (scope : Fin 64) (w : RateWin), s.wf = true ∧ mwf (plotOf s p).rates = true ∧ mget (plotOf s
      p).rates (rateKey code.toNat scope) {} = w ∧ w.isOpen = true ∧ w.first = none) :=
    ⟨⟨{ st [(F.PE_STATUS_STATE 0, 2), (F.PLT_TABLE_BASE_VALID 0, 1)] with funcs := [(0, { bme := true })] }, 0, .gardener, false, by decide +kernel,
       by decide +kernel, by decide +kernel, by decide +kernel, by decide +kernel, by unfold PltTaken; decide +kernel⟩,
     ⟨{}, 0, by decide +kernel⟩,
     ⟨{ st [(F.PE_STATUS_STATE 0, 2), (F.PLT_TABLE_BASE_VALID 0, 1)] with plots := [(0, { wbBusy := some 1, wbLow := List.replicate 16 0 })], funcs := [(0, { bme := true })] },
       0, by decide +kernel⟩,
     ⟨{ st [(F.PE_STATUS_STATE 0, 2), (F.PLT_TABLE_BASE_VALID 0, 1)] with plots := [(0, { wbBusy := some 2 })], quads := [(0, { plt := some ⟨5, 0⟩ })], funcs := [(0, { bme := true })] },
       0, by decide +kernel⟩,
     ⟨{ st [(F.PE_STATUS_STATE 0, 2), (F.PLT_TABLE_BASE_VALID 0, 1)] with plots := [(0, { wbBusy := some 2 })], quads := [(0, { plt := some ⟨5, 0⟩ })], funcs := [(0, { bme := true })] },
       0, by decide +kernel⟩,
     ⟨{ st [(F.PE_STATUS_STATE 0, 2)] with plots := [(0, { refetch := true })] }, 0, (image [((F.PE_CONTROL_VALID 0, 0x10), 1), ((F.PE_CONTROL_FORMAT
       0, 0x10), 1), ((F.PE_SHARE_WEIGHT_DMA 0, 0x18), 1), ((F.PE_SHARE_WEIGHT 0, 0x18), 1), ((F.PE_MSIX_VEC_COUNT 0, 0x40), 1)]), by decide +kernel⟩,
     ⟨{ st [(F.PE_STATUS_STATE 0, 2)] with plots := [(0, { refetch := true })] }, 0, (.failed .timeout), by decide +kernel⟩,
     ⟨{}, 0, by decide +kernel⟩,
     ⟨{ st [(F.PE_STATUS_STATE 0, 2), (F.PE_FAULT_LOG_EN 0, 1)] with plots := [(0, { held := [{ code := 4, block := 1 }] })], funcs := [(0, { bme := true })] },
       0, 5, { code := 4, block := 1 }, by decide +kernel⟩,
     ⟨{ st [(F.PE_STATUS_STATE 0, 2)] with plots := [(0, { rates := [(256, { isOpen := true, first := some { code := 4, block := 1 }, count := 1, bytes := 8 })] })] },
       0, 4, 0, { isOpen := true, first := some { code := 4, block := 1 }, count := 1, bytes := 8 }, { code := 4, block := 1 }, by decide +kernel⟩,
     ⟨{ st [(F.PE_STATUS_STATE 0, 2)] with plots := [(0, { rates := [(256, { isOpen := true })] })] }, 0, 4, 0, { isOpen := true }, by decide +kernel⟩⟩

/-- The hypotheses of RakeSlots can be met. -/
theorem test_RakeSlots_hypotheses :
    (∃ (s : State) (p : Fin 4096) (i : Fin 64) (w : Nat) (l : Line) (e : WinEntry), s.wf = true ∧ (plotState s p = psServing ∨ plotState s p = psHeld)
      ∧ bitF s (F.PP_RAKE_STATUS_BUSY p) = false ∧ i.val < getF s (F.PE_CAPS_RAKE_LIMIT p) ∧ getF s (F.PP_RAKE_CTRL_MODE p i) < 3 ∧ getF s
      (F.PP_RAKE_CTRL_VEC p i) < getF s (F.PE_MSIX_VEC_COUNT p) ∧ heldQ s (quadrantOf p) 1 = false ∧ findLine s p false (bitF s (F.PP_RAKE_WATCH_BAR p
      i)) (watchOff s p i) 8 = some (w, l, e) ∧ (recheck s p w l e).2.fenced = false ∧ e.rdEn = true ∧ e.sideEffect = false ∧ meetsSide s e.node
      (e.tbase + (watchOff s p i - e.first)) (e.tbase + (watchOff s p i - e.first) + 7) = false) ∧
    (∃ (s : State) (p : Fin 4096), plotState s p ≠ psDisabled ∧ plotState s p ≠ psResetting ∧ bitF s (F.PP_RAKE_STATUS_BUSY p) = false) ∧
    (∃ (s : State) (p : Fin 4096) (i : Fin 64) (w : Nat) (l : Line) (e : WinEntry), (plotState s p = psServing ∨ plotState s p = psHeld) ∧ bitF s
      (F.PP_RAKE_STATUS_BUSY p) = false ∧ i.val < getF s (F.PE_CAPS_RAKE_LIMIT p) ∧ getF s (F.PP_RAKE_CTRL_MODE p i) < 3 ∧ getF s (F.PP_RAKE_CTRL_VEC
      p i) < getF s (F.PE_MSIX_VEC_COUNT p) ∧ heldQ s (quadrantOf p) 1 = false ∧ findLine s p false (bitF s (F.PP_RAKE_WATCH_BAR p i)) (watchOff s p
      i) 8 = some (w, l, e)) ∧
    (∃ (s : State) (p : Fin 4096) (i : Fin 64), s.wf = true ∧ (plotState s p = psServing ∨ plotState s p = psHeld) ∧ bitF s (F.PP_RAKE_STATUS_BUSY p)
      = false ∧ i.val < getF s (F.PE_CAPS_RAKE_LIMIT p) ∧ getF s (F.PP_RAKE_CTRL_MODE p i) < 3 ∧ getF s (F.PP_RAKE_CTRL_VEC p i) < getF s
      (F.PE_MSIX_VEC_COUNT p) ∧ findLine s p false (bitF s (F.PP_RAKE_WATCH_BAR p i)) (watchOff s p i) 8 = none) ∧
    (∃ (s : State) (p : Fin 4096), plotState s p ≠ psDisabled ∧ plotState s p ≠ psResetting ∧ bitF s (F.PP_RAKE_STATUS_BUSY p) = false ∧ mwf
      s.rake.slots = true) ∧
    (∃ (s : State) (p : Fin 4096), plotState s p ≠ psDisabled ∧ plotState s p ≠ psResetting ∧ bitF s (F.PP_RAKE_STATUS_BUSY p) = false ∧ mwf
      s.rake.slots = true) :=
    ⟨⟨{ st [(F.PE_STATUS_STATE 0, 2), (F.PE_WINDOWS_OUT_COUNT 0, 1), (F.PE_WINDOWS_IN_COUNT 0, 1), (F.PE_CAPS_RAKE_LIMIT 0, 1), (F.PE_MSIX_VEC_COUNT 0, 1)] with plots := [(0, { queue := [{ kind := .read, bar4 := false, off := 0, len := 8, tag := 3 }] })], quads := [(0, { lines := [(0, { entry := some { valid := true, last := 15, target := 32, node := 66, gen := 1, rdEn := true }, curGen := 1 })] })] },
       0, 0, 0, { entry := some { valid := true, last := 15, target := 32, node := 66, gen := 1, rdEn := true }, curGen := 1 },
       { valid := true, last := 15, target := 32, node := 66, gen := 1, rdEn := true }, by decide +kernel⟩,
     ⟨(st [(F.PE_STATUS_STATE 0, 2)]), 0, by decide +kernel⟩,
     ⟨{ st [(F.PE_STATUS_STATE 0, 2), (F.PE_WINDOWS_OUT_COUNT 0, 1), (F.PE_WINDOWS_IN_COUNT 0, 1), (F.PE_CAPS_RAKE_LIMIT 0, 1), (F.PE_MSIX_VEC_COUNT 0, 1)] with plots := [(0, { queue := [{ kind := .read, bar4 := false, off := 0, len := 8, tag := 3 }] })], quads := [(0, { lines := [(0, { entry := some { valid := true, last := 15, target := 32, node := 66, gen := 1, sideEffect := true, rdEn := true }, curGen := 1 })] })] },
       0, 0, 0, { entry := some { valid := true, last := 15, target := 32, node := 66, gen := 1, sideEffect := true, rdEn := true }, curGen := 1 },
       { valid := true, last := 15, target := 32, node := 66, gen := 1, sideEffect := true, rdEn := true }, by decide +kernel⟩,
     ⟨{ st [(F.PE_STATUS_STATE 0, 2), (F.PLT_TABLE_BASE_VALID 0, 1), (F.PE_CAPS_RAKE_LIMIT 0, 1), (F.PE_MSIX_VEC_COUNT 0, 1)] with funcs := [(0, { bme := true })] },
       0, 0, by decide +kernel⟩,
     ⟨(st [(F.PE_STATUS_STATE 0, 2)]), 0, by decide +kernel⟩,
     ⟨(st [(F.PE_STATUS_STATE 0, 2)]), 0, by decide +kernel⟩⟩

/-- The hypotheses of RakeSweeps can be met. -/
theorem test_RakeSweeps_hypotheses :
    (∃ (s : State) (b : Batch), s.wf = true ∧ rakHeld s = false ∧ rakeRate s = true ∧ b ∈ batchesDue s) ∧
    (∃ (s : State) (b : Batch), s.wf = true ∧ rakHeld s = false ∧ rakeRate s = true ∧ b ∈ batchesDue s) ∧
    (∃ (s : State), (rakHeld s = true ∨ rakeRate s = false ∨ batchesDue s = [])) ∧
    (∃ (s : State) (tag : Nat) (p : Nat) (node : Nat) (block : Nat), s.wf = true ∧ mfind s.unit0 tag = some (.rake p node block)) ∧
    (∃ (s : State) (tag : Nat), mfind s.unit0 tag = none) :=
    ⟨⟨{ st [(F.GLB_NODE_VALID, 1), (F.TRL_CTRL_EN, 1), (F.TRL_CTRL_READY, 1), (F.CFP_STATUS_STATE 0, 2), (F.CFK_STATUS_LINK 0, 2), (F.PE_STATUS_STATE 0, 2)] with trl := { table := row 1 (66 * 2 ^ 16) (2 ^ 20) }, rake := { batches := [{ plot := 0, node := 66, block := 0, due := 0 }] } },
       { plot := 0, node := 66, block := 0, due := 0 }, by decide +kernel⟩,
     ⟨{ st [(F.PE_STATUS_STATE 0, 2)] with rake := { batches := [{ plot := 0, node := 66, block := 0, due := 0 }] } },
       { plot := 0, node := 66, block := 0, due := 0 }, by decide +kernel⟩,
     ⟨{}, by decide +kernel⟩,
     ⟨{ st [(F.PE_STATUS_STATE 0, 2)] with rake := { batches := [{ plot := 0, node := 66, block := 0, due := 0, outstanding := true }] }, unit0 := [(3, .rake 0 66 0)] },
       3, 0, 66, 0, by decide +kernel⟩,
     ⟨{}, 0, by decide +kernel⟩⟩

/-- The hypotheses of DmaDoorbells can be met. -/
theorem test_DmaDoorbells_hypotheses :
    (∃ (s : State) (p : Fin 4096), pageDead s p = true) ∧
    (∃ (s : State) (p : Fin 4096), pageDead s p = false) ∧
    (∃ (s : State) (p : Fin 4096) (c : Fin 256) (h : BitVec 58), s.wf = true ∧ dbRefused s p c = false ∧ h ≠ 0 ∧ ((chanOf s p c).st = csIdle ∨ (chanOf
      s p c).st = csHalted) ∧ (chanOf s p c).held = false ∧ (chanOf s p c).pending = false) ∧
    (∃ (s : State) (p : Fin 4096) (c : Fin 256), s.wf = true ∧ dbRefused s p c = false ∧ (chanOf s p c).going = true) ∧
    (∃ (s : State) (p : Fin 4096) (c : Fin 256), s.wf = true ∧ dbRefused s p c = false ∧ (chanOf s p c).st = csIdle) ∧
    (∃ (s : State) (p : Fin 4096) (c : Fin 256), s.wf = true ∧ dbRefused s p c = false ∧ (chanOf s p c).st = csRunning) ∧
    (∃ (s : State) (p : Fin 4096) (c : Fin 256), s.wf = true ∧ dbRefused s p c = false ∧ (chanOf s p c).st = csStalled) ∧
    (∃ (s : State) (p : Fin 4096) (c : Fin 256), s.wf = true ∧ dbRefused s p c = false ∧ (chanOf s p c).st = csHalted ∧ (chanOf s p c).cause = ccHost
      ∧ (chanOf s p c).held = false) :=
    ⟨⟨{}, 0, by decide +kernel⟩,
     ⟨(st [(F.PE_STATUS_STATE 0, 2)]), 0, by decide +kernel⟩,
     ⟨{ st [(F.PE_STATUS_STATE 0, 2), (F.PWM_GATE_RUN, 15), (F.PWM_STATUS_MODE, 2), (F.PE_CAPS_DMA_EN 0, 1), (F.PE_CHAN_TABLE_EN 0, 1), (F.PE_CHAN_TABLE_CHAN_HIGH 0, 3), (F.PE_CQ_EN 0 0, 1)] with chans := [(0, { st := 5, cause := 4 })], funcs := [(0, { bme := true })] },
       0, 0, 1, by decide +kernel⟩,
     ⟨{ st [(F.PE_STATUS_STATE 0, 2), (F.PWM_GATE_RUN, 15), (F.PWM_STATUS_MODE, 2), (F.PE_CAPS_DMA_EN 0, 1), (F.PE_CHAN_TABLE_EN 0, 1), (F.PE_CHAN_TABLE_CHAN_HIGH 0, 3), (F.PE_CQ_EN 0 0, 1)] with chans := [(0, { st := 1, resident := true })], funcs := [(0, { bme := true })] },
       0, 0, by decide +kernel⟩,
     ⟨(st [(F.PE_STATUS_STATE 0, 2), (F.PWM_GATE_RUN, 15), (F.PWM_STATUS_MODE, 2), (F.PE_CAPS_DMA_EN 0, 1), (F.PE_CHAN_TABLE_EN 0, 1),
       (F.PE_CHAN_TABLE_CHAN_HIGH 0, 3), (F.PE_CQ_EN 0 0, 1)]), 0, 0, by decide +kernel⟩,
     ⟨{ st [(F.PE_STATUS_STATE 0, 2), (F.PWM_GATE_RUN, 15), (F.PWM_STATUS_MODE, 2), (F.PE_CAPS_DMA_EN 0, 1), (F.PE_CHAN_TABLE_EN 0, 1), (F.PE_CHAN_TABLE_CHAN_HIGH 0, 3), (F.PE_CQ_EN 0 0, 1)] with chans := [(0, { st := 1, resident := true })], funcs := [(0, { bme := true })] },
       0, 0, by decide +kernel⟩,
     ⟨{ st [(F.PE_STATUS_STATE 0, 2), (F.PWM_GATE_RUN, 15), (F.PWM_STATUS_MODE, 2), (F.PE_CAPS_DMA_EN 0, 1), (F.PE_CHAN_TABLE_EN 0, 1), (F.PE_CHAN_TABLE_CHAN_HIGH 0, 3), (F.PE_CQ_EN 0 0, 1)] with chans := [(0, { st := 2, resident := true })], funcs := [(0, { bme := true })] },
       0, 0, by decide +kernel⟩,
     ⟨{ st [(F.PE_STATUS_STATE 0, 2), (F.PWM_GATE_RUN, 15), (F.PWM_STATUS_MODE, 2), (F.PE_CAPS_DMA_EN 0, 1), (F.PE_CHAN_TABLE_EN 0, 1), (F.PE_CHAN_TABLE_CHAN_HIGH 0, 3), (F.PE_CQ_EN 0 0, 1)] with chans := [(0, { st := 5, cause := 4 })], funcs := [(0, { bme := true })] },
       0, 0, by decide +kernel⟩⟩

/-- The hypotheses of DmaFetches can be met. -/
theorem test_DmaFetches_hypotheses :
    (∃ (s : State) (p : Fin 4096) (c : Fin 256) (bs : List Byte) (a : Nat), s.wf = true ∧ (chanOf s p c).loading = true ∧ (chanOf s p c).st =
      csRunning ∧ (((chanOf s p c).kind = .start ∧ a = (chanOf s p c).cur) ∨ ((chanOf s p c).kind = .waited ∧ a = wordAt bs 0x10 / 64 * 64)) ∧
      entryUnusable s p (wordAt bs 0) = false) ∧
    (∃ (s : State) (p : Fin 4096) (c : Fin 256), s.wf = true ∧ (chanOf s p c).loading = true ∧ (chanOf s p c).st = csRunning ∧ ((chanOf s p c).kind =
      .kick ∨ (chanOf s p c).kind = .resume ∨ (chanOf s p c).kind = .evicted)) ∧
    (∃ (s : State) (p : Fin 4096) (c : Fin 256) (r : MemResult), s.wf = true ∧ (chanOf s p c).loading = true ∧ (chanOf s p c).st = csRunning ∧ (match
      r with | .failed _ => true | .ok bs => ((chanOf s p c).kind == .start || (chanOf s p c).kind == .waited) && entryUnusable s p (wordAt bs 0)) =
      true) ∧
    (∃ (s : State) (q : Fin 4) (k : Nat), s.wf = true ∧ ctxFree s q = true ∧ heldQ s q 3 = false ∧ nextPending s q = some k) ∧
    (∃ (s : State) (q : Fin 4), (ctxFree s q = false ∨ heldQ s q 3 = true ∨ nextPending s q = none)) ∧
    (∃ (s : State) (p : Fin 4096) (c : Fin 256) (d : Desc), s.wf = true ∧ getF s (F.DMA_CTRL_SLICE (quadrantOf p)) ≠ 0 ∧ atBoundary (chanOf s p c) =
      true ∧ (chanOf s p c).since + getF s (F.DMA_CTRL_SLICE (quadrantOf p)) * 10 ≤ s.now ∧ (nextPending s (quadrantOf p)).isSome = true ∧ memOpen s p
      = true ∧ heldQ s (quadrantOf p) 3 = false ∧ (chanOf s p c).ds = [d]) ∧
    (∃ (s : State) (p : Fin 4096) (c : Fin 256), (getF s (F.DMA_CTRL_SLICE (quadrantOf p)) = 0 ∨ atBoundary (chanOf s p c) = false ∨ s.now < (chanOf s
      p c).since + getF s (F.DMA_CTRL_SLICE (quadrantOf p)) * 10 ∨ nextPending s (quadrantOf p) = none)) ∧
    (∃ (s : State) (p : Fin 4096) (c : Fin 256) (a : Nat) (d : Desc) (bs : List Byte), s.wf = true ∧ (chanOf s p c).fetch = some a ∧ (chanOf s p c).st
      = csRunning ∧ headBusy (chanOf s p c) = true ∧ (chanOf s p c).after = .none ∧ (chanOf s p c).span = none ∧ (chanOf s p c).resumeAt = none ∧ d =
      parseDesc (chanOf s p c).nextNo a bs ∧ d.next % 64 = 0 ∧ d.xform = 0 ∧ 0 < d.length) ∧
    (∃ (s : State) (p : Fin 4096) (c : Fin 256) (a : Nat) (d : Desc) (bs : List Byte), s.wf = true ∧ (chanOf s p c).fetch = some a ∧ (chanOf s p c).st
      = csRunning ∧ (chanOf s p c).ds = [] ∧ (chanOf s p c).after = .none ∧ (chanOf s p c).recs = [] ∧ (chanOf s p c).span = none ∧ (chanOf s p
      c).resumeAt = none ∧ d = parseDesc (chanOf s p c).nextNo a bs ∧ d.next % 64 = 0 ∧ d.xform = 0 ∧ d.length = 0 ∧ descMalformed d (chanOf s p
      c).burstMax = false ∧ d.statusWb = false ∧ d.cr = false) ∧
    (∃ (s : State) (p : Fin 4096) (c : Fin 256) (a : Nat) (d : Desc) (bs : List Byte), s.wf = true ∧ (chanOf s p c).fetch = some a ∧ (chanOf s p c).st
      = csRunning ∧ headBusy (chanOf s p c) = true ∧ (chanOf s p c).after = .none ∧ (chanOf s p c).resumeAt = none ∧ d = parseDesc (chanOf s p
      c).nextNo a bs ∧ d.next % 64 = 0 ∧ descMalformed d (chanOf s p c).burstMax = false ∧ d.extNeeded = true ∧ d.extAddr ≠ 0 ∧ (d.weave = true → bitF
      s (F.PE_CAPS_WEAVE_EN p) = true) ∧ (bits d.xform 2 3 ≠ 0 → bitF s (F.PE_CAPS_SEAL_EN p) = true)) ∧
    (∃ (s : State) (p : Fin 4096) (c : Fin 256) (a : Nat) (r : MemResult), s.wf = true ∧ (chanOf s p c).fetch = some a ∧ (chanOf s p c).st = csRunning
      ∧ (match r with | .failed _ => true | .ok bs => (parseDesc 0 a bs).next % 64 != 0) = true) ∧
    (∃ (s : State) (p : Fin 4096) (c : Fin 256) (d : Desc) (es : List Desc), s.wf = true ∧ (chanOf s p c).ds = es ++ [d] ∧ d.extWait = true ∧ ((∀ e ∈
      es, e.extWait = false ∧ e.pos ≠ e.length)) ∧ d.bad = none ∧ (chanOf s p c).st = csRunning ∧ (chanOf s p c).after = .none ∧ (chanOf s p c).span =
      none ∧ (chanOf s p c).resumeAt = none ∧ d.seal = false ∧ d.cut = false ∧ d.pos = 0 ∧ 0 < d.length) ∧
    (∃ (s : State) (p : Fin 4096) (c : Fin 256) (d : Desc) (es : List Desc), s.wf = true ∧ (chanOf s p c).ds = es ++ [d] ∧ d.extWait = true ∧ ((∀ e ∈
      es, e.extWait = false ∧ e.pos ≠ e.length)) ∧ d.cut = false ∧ (chanOf s p c).st = csRunning ∧ (chanOf s p c).after = .none ∧ (chanOf s p c).span
      = none) ∧
    (∃ (s : State) (p : Fin 4096) (c : Fin 256), s.wf = true ∧ (chanOf s p c).going = false ∧ ((chanOf s p c).ds.any fun d => d.extWait) = true) :=
    ⟨⟨{ st [(F.PE_STATUS_STATE 0, 2), (F.PWM_GATE_RUN, 15), (F.PWM_STATUS_MODE, 2), (F.PE_CAPS_DMA_EN 0, 1), (F.PE_CHAN_TABLE_EN 0, 1), (F.PE_CHAN_TABLE_CHAN_HIGH 0, 3), (F.PE_CQ_EN 0 0, 1)] with chans := [(0, { st := 1, loading := true, resident := true })], funcs := [(0, { bme := true })] },
       0, 0, (leBytes 8 (2 ^ 63 + 1) ++ List.replicate 56 0), 0, by decide +kernel⟩,
     ⟨{ st [(F.PE_STATUS_STATE 0, 2), (F.PWM_GATE_RUN, 15), (F.PWM_STATUS_MODE, 2), (F.PE_CAPS_DMA_EN 0, 1), (F.PE_CHAN_TABLE_EN 0, 1), (F.PE_CHAN_TABLE_CHAN_HIGH 0, 3), (F.PE_CQ_EN 0 0, 1)] with chans := [(0, { st := 1, loading := true, resident := true, kind := .evicted })], funcs := [(0, { bme := true })] },
       0, 0, by decide +kernel⟩,
     ⟨{ st [(F.PE_STATUS_STATE 0, 2), (F.PWM_GATE_RUN, 15), (F.PWM_STATUS_MODE, 2), (F.PE_CAPS_DMA_EN 0, 1), (F.PE_CHAN_TABLE_EN 0, 1), (F.PE_CHAN_TABLE_CHAN_HIGH 0, 3), (F.PE_CQ_EN 0 0, 1)] with chans := [(0, { st := 1, loading := true, resident := true })], funcs := [(0, { bme := true })] },
       0, 0, (.failed .timeout), by decide +kernel⟩,
     ⟨{ st [(F.PE_STATUS_STATE 0, 2), (F.PWM_GATE_RUN, 15), (F.PWM_STATUS_MODE, 2), (F.PE_CAPS_DMA_EN 0, 1), (F.PE_CHAN_TABLE_EN 0, 1), (F.PE_CHAN_TABLE_CHAN_HIGH 0, 3), (F.PE_CQ_EN 0 0, 1)] with chans := [(2, { pending := true })], funcs := [(0, { bme := true })] },
       0, 2, by decide +kernel⟩,
     ⟨{}, 0, by decide +kernel⟩,
     ⟨{ st [(F.PE_STATUS_STATE 0, 2), (F.PWM_GATE_RUN, 15), (F.PWM_STATUS_MODE, 2), (F.PE_CAPS_DMA_EN 0, 1), (F.PE_CHAN_TABLE_EN 0, 1), (F.PE_CHAN_TABLE_CHAN_HIGH 0, 3), (F.PE_CQ_EN 0 0, 1), (F.DMA_CTRL_SLICE 0, 1)] with chans := [(0, { st := 1, resident := true, ds := [{ no := 0, addr := 0x1000, ctrl := 64 * 2 ^ 32 + 1, src := 0x2000, dst := 0x3000, nodes := 0, next := 0, xform := 0, user := 5 }] }), (1, { pending := true })], funcs := [(0, { bme := true })], now := 20 },
       0, 0, { no := 0, addr := 0x1000, ctrl := 64 * 2 ^ 32 + 1, src := 0x2000, dst := 0x3000, nodes := 0, next := 0, xform := 0, user := 5 },
       by decide +kernel⟩,
     ⟨{}, 0, 0, by decide +kernel⟩,
     ⟨{ st [(F.PE_STATUS_STATE 0, 2), (F.PWM_GATE_RUN, 15), (F.PWM_STATUS_MODE, 2), (F.PE_CAPS_DMA_EN 0, 1), (F.PE_CHAN_TABLE_EN 0, 1), (F.PE_CHAN_TABLE_CHAN_HIGH 0, 3), (F.PE_CQ_EN 0 0, 1)] with chans := [(0, { st := 1, resident := true, fetch := some 0x1000 })], funcs := [(0, { bme := true })] },
       0, 0, 0x1000, (parseDesc 0 0x1000 (leBytes 8 (64 * 2 ^ 32 + 1) ++ List.replicate 56 0)), (leBytes 8 (64 * 2 ^ 32 + 1) ++ List.replicate 56 0),
       by decide +kernel⟩,
     ⟨{ st [(F.PE_STATUS_STATE 0, 2), (F.PWM_GATE_RUN, 15), (F.PWM_STATUS_MODE, 2), (F.PE_CAPS_DMA_EN 0, 1), (F.PE_CHAN_TABLE_EN 0, 1), (F.PE_CHAN_TABLE_CHAN_HIGH 0, 3), (F.PE_CQ_EN 0 0, 1)] with chans := [(0, { st := 1, resident := true, fetch := some 0x1000 })], funcs := [(0, { bme := true })] },
       0, 0, 0x1000, (parseDesc 0 0x1000 (leBytes 8 1 ++ List.replicate 56 0)), (leBytes 8 1 ++ List.replicate 56 0), by decide +kernel⟩,
     ⟨{ st [(F.PE_STATUS_STATE 0, 2), (F.PWM_GATE_RUN, 15), (F.PWM_STATUS_MODE, 2), (F.PE_CAPS_DMA_EN 0, 1), (F.PE_CHAN_TABLE_EN 0, 1), (F.PE_CHAN_TABLE_CHAN_HIGH 0, 3), (F.PE_CQ_EN 0 0, 1), (F.PE_CAPS_WEAVE_EN 0, 1)] with chans := [(0, { st := 1, resident := true, fetch := some 0x1000 })], funcs := [(0, { bme := true })] },
       0, 0, 0x1000, (parseDesc 0 0x1000 (leBytes 8 (64 * 2 ^ 32 + 1) ++ List.replicate 32 0 ++ leBytes 8 0x5001 ++ List.replicate 16 0)), (leBytes 8
       (64 * 2 ^ 32 + 1) ++ List.replicate 32 0 ++ leBytes 8 0x5001 ++ List.replicate 16 0), by decide +kernel⟩,
     ⟨{ st [(F.PE_STATUS_STATE 0, 2), (F.PWM_GATE_RUN, 15), (F.PWM_STATUS_MODE, 2), (F.PE_CAPS_DMA_EN 0, 1), (F.PE_CHAN_TABLE_EN 0, 1), (F.PE_CHAN_TABLE_CHAN_HIGH 0, 3), (F.PE_CQ_EN 0 0, 1)] with chans := [(0, { st := 1, resident := true, fetch := some 0x1000 })], funcs := [(0, { bme := true })] },
       0, 0, 0x1000, (.failed .timeout), by decide +kernel⟩,
     ⟨{ st [(F.PE_STATUS_STATE 0, 2), (F.PWM_GATE_RUN, 15), (F.PWM_STATUS_MODE, 2), (F.PE_CAPS_DMA_EN 0, 1), (F.PE_CHAN_TABLE_EN 0, 1), (F.PE_CHAN_TABLE_CHAN_HIGH 0, 3), (F.PE_CQ_EN 0 0, 1)] with chans := [(0, { st := 1, resident := true, ds := [{ no := 0, addr := 0x1000, ctrl := 64 * 2 ^ 32 + 1, src := 0, dst := 0x3000, nodes := 0, next := 0, xform := 0x5001, user := 5, extWait := true, extLen := 192 }], nextNo := 1 })], funcs := [(0, { bme := true })] },
       0, 0,
       { no := 0, addr := 0x1000, ctrl := 64 * 2 ^ 32 + 1, src := 0, dst := 0x3000, nodes := 0, next := 0, xform := 0x5001, user := 5, extWait := true, extLen := 192 },
       [], by decide +kernel⟩,
     ⟨{ st [(F.PE_STATUS_STATE 0, 2), (F.PWM_GATE_RUN, 15), (F.PWM_STATUS_MODE, 2), (F.PE_CAPS_DMA_EN 0, 1), (F.PE_CHAN_TABLE_EN 0, 1), (F.PE_CHAN_TABLE_CHAN_HIGH 0, 3), (F.PE_CQ_EN 0 0, 1)] with chans := [(0, { st := 1, resident := true, ds := [{ no := 0, addr := 0x1000, ctrl := 64 * 2 ^ 32 + 1, src := 0, dst := 0x3000, nodes := 0, next := 0, xform := 0x5001, user := 5, extWait := true, extLen := 192 }], nextNo := 1 })], funcs := [(0, { bme := true })] },
       0, 0,
       { no := 0, addr := 0x1000, ctrl := 64 * 2 ^ 32 + 1, src := 0, dst := 0x3000, nodes := 0, next := 0, xform := 0x5001, user := 5, extWait := true, extLen := 192 },
       [], by decide +kernel⟩,
     ⟨{ st [(F.PE_STATUS_STATE 0, 2), (F.PWM_GATE_RUN, 15), (F.PWM_STATUS_MODE, 2), (F.PE_CAPS_DMA_EN 0, 1), (F.PE_CHAN_TABLE_EN 0, 1), (F.PE_CHAN_TABLE_CHAN_HIGH 0, 3), (F.PE_CQ_EN 0 0, 1)] with chans := [(0, { st := 5, ds := [{ no := 0, addr := 0x1000, ctrl := 64 * 2 ^ 32 + 1, src := 0, dst := 0x3000, nodes := 0, next := 0, xform := 0x5001, user := 5, extWait := true, extLen := 192 }], nextNo := 1 })], funcs := [(0, { bme := true })] },
       0, 0, by decide +kernel⟩⟩

/-- The hypotheses of DmaBursts can be met. -/
theorem test_DmaBursts_hypotheses :
    (∃ (s : State) (q : Fin 4) (lvl : Nat) (k : Nat) (d : Desc) (x : Chan), s.wf = true ∧ heldQ s q 3 = false ∧ quadRuns s q = true ∧ schedule s q
      (fun p r => reqMay s p false false r) = some (lvl, k) ∧ x = chanOf s (k / 256) (k % 256) ∧ issuing x = some d ∧ (∀ b ∈ x.bursts, b.id <
      x.nextNo) ∧ burstRefused s (k / 256) (readReqs d d.pos (burstLen d x.burstMax)) (writeReqs d d.pos (burstLen d x.burstMax)) = none) ∧
    (∃ (s : State) (q : Fin 4) (lvl : Nat) (k : Nat) (d : Desc) (x : Chan) (r : DReq), s.wf = true ∧ heldQ s q 3 = false ∧ quadRuns s q = true ∧
      schedule s q (fun p r => reqMay s p false false r) = some (lvl, k) ∧ x = chanOf s (k / 256) (k % 256) ∧ issuing x = some d ∧ x.ds = [d] ∧
      burstRefused s (k / 256) (readReqs d d.pos (burstLen d x.burstMax)) (writeReqs d d.pos (burstLen d x.burstMax)) = some r) ∧
    (∃ (s : State) (q : Fin 4), (heldQ s q 3 = true ∨ quadRuns s q = false)) ∧
    (∃ (s : State) (p : Fin 4096) (c : Fin 256) (b : Burst) (d : Desc) (a : Nat) (n : Nat) (dt : List Byte), s.wf = true ∧ ((chanOf s p
      c).bursts.find? fun b => !b.written && !b.readFailed) = some b ∧ ((chanOf s p c).ds.find? fun d => d.no == b.desc) = some d ∧ b.whole = true ∧
      memOpen s p = true ∧ dmaHeld s p = false ∧ quadRuns s (quadrantOf p) = true ∧ (chanOf s p c).nextWrite = none ∧ b.writes =
      [{ node := none, addr := a, len := n }] ∧ d.weaveDst = false ∧ voqOpen s (12 + quadrantOf p) (quadrantOf p) 0 = true ∧ hostCuts s p
      { node := none, addr := a, len := n } true = [(a, n)] ∧ dt = (burstBytes d b).take n ∧ dt ≠ []) ∧
    (∃ (s : State) (p : Fin 4096) (c : Fin 256) (b : Burst) (d : Desc) (nd : Nat) (a : Nat) (n : Nat) (f : Nat) (g : Nat), s.wf = true ∧ ((chanOf s p
      c).bursts.find? fun b => !b.written && !b.readFailed) = some b ∧ ((chanOf s p c).ds.find? fun d => d.no == b.desc) = some d ∧ b.whole = true ∧
      memOpen s p = true ∧ dmaHeld s p = false ∧ quadRuns s (quadrantOf p) = true ∧ (chanOf s p c).nextWrite = none ∧ b.writes =
      [{ node := some nd, addr := a, len := n }] ∧ d.weaveDst = false ∧ reqMay s p true false { node := some nd, addr := a, len := n } = true ∧
      (routeOf s nd (myNode s (1 + quadrantOf p)) (some p)).2 = .egress f g) ∧
    (∃ (s : State) (p : Fin 4096) (c : Fin 256), ((∀ b ∈ (chanOf s p c).bursts, b.written = true ∨ b.readFailed = true) ∨ memOpen s p = false ∨
      dmaHeld s p = true ∨ quadRuns s (quadrantOf p) = false)) ∧
    (∃ (s : State) (p : Fin 4096) (c : Fin 256) (b : Burst), s.wf = true ∧ (chanOf s p c).bursts.find? Burst.retired = some b ∧ b.written = true ∧ (∀
      w ∈ b.writes, w.bad = none)) ∧
    (∃ (s : State) (p : Fin 4096) (c : Fin 256) (b : Burst) (d : Desc), s.wf = true ∧ (chanOf s p c).bursts = [b] ∧ b.retired = true ∧ b.written =
      true ∧ (∀ w ∈ b.writes, w.bad = none) ∧ (chanOf s p c).st = csRunning ∧ (chanOf s p c).recs = [] ∧ (chanOf s p c).fetch = none ∧ (chanOf s p
      c).ds = [d] ∧ d.pos = d.length ∧ d.bad = none ∧ d.cut = false ∧ d.extWait = false ∧ d.sealEnd = false ∧ d.statusWb = false ∧ d.cr = false ∧
      d.next ≠ 0) ∧
    (∃ (s : State) (p : Fin 4096) (c : Fin 256), (chanOf s p c).bursts.find? Burst.retired = none) ∧
    (∃ (s : State) (p : Fin 4096) (c : Fin 256) (a : Nat) (u : Nat), s.wf = true ∧ (chanOf s p c).reread = some (a, u) ∧ (chanOf s p c).st =
      csRunning) ∧
    (∃ (s : State) (p : Fin 4096) (c : Fin 256), (chanOf s p c).reread = none) :=
    ⟨⟨{ st [(F.PE_STATUS_STATE 0, 2), (F.PWM_GATE_RUN, 15), (F.PWM_STATUS_MODE, 2), (F.PE_CAPS_DMA_EN 0, 1), (F.PE_CHAN_TABLE_EN 0, 1), (F.PE_CHAN_TABLE_CHAN_HIGH 0, 3), (F.PE_CQ_EN 0 0, 1)] with chans := [(0, { st := 1, resident := true, ds := [{ no := 0, addr := 0x1000, ctrl := 64 * 2 ^ 32 + 1, src := 0x2000, dst := 0x3000, nodes := 0, next := 0, xform := 0, user := 5 }], nextNo := 1 })], funcs := [(0, { bme := true })] },
       0, ((schedule
       ({ st [(F.PE_STATUS_STATE 0, 2), (F.PWM_GATE_RUN, 15), (F.PWM_STATUS_MODE, 2), (F.PE_CAPS_DMA_EN 0, 1), (F.PE_CHAN_TABLE_EN 0, 1), (F.PE_CHAN_TABLE_CHAN_HIGH 0, 3), (F.PE_CQ_EN 0 0, 1)] with chans := [(0, { st := 1, resident := true, ds := [{ no := 0, addr := 0x1000, ctrl := 64 * 2 ^ 32 + 1, src := 0x2000, dst := 0x3000, nodes := 0, next := 0, xform := 0, user := 5 }], nextNo := 1 })], funcs := [(0, { bme := true })] }
       : State) 0 fun p r => reqMay
       ({ st [(F.PE_STATUS_STATE 0, 2), (F.PWM_GATE_RUN, 15), (F.PWM_STATUS_MODE, 2), (F.PE_CAPS_DMA_EN 0, 1), (F.PE_CHAN_TABLE_EN 0, 1), (F.PE_CHAN_TABLE_CHAN_HIGH 0, 3), (F.PE_CQ_EN 0 0, 1)] with chans := [(0, { st := 1, resident := true, ds := [{ no := 0, addr := 0x1000, ctrl := 64 * 2 ^ 32 + 1, src := 0x2000, dst := 0x3000, nodes := 0, next := 0, xform := 0, user := 5 }], nextNo := 1 })], funcs := [(0, { bme := true })] }
       : State) p false false r).getD (0, 0)).1, 0,
       { no := 0, addr := 0x1000, ctrl := 64 * 2 ^ 32 + 1, src := 0x2000, dst := 0x3000, nodes := 0, next := 0, xform := 0, user := 5 },
       { st := 1, resident := true, ds := [{ no := 0, addr := 0x1000, ctrl := 64 * 2 ^ 32 + 1, src := 0x2000, dst := 0x3000, nodes := 0, next := 0, xform := 0, user := 5 }], nextNo := 1 },
       by decide +kernel⟩,
     ⟨{ st [(F.PE_STATUS_STATE 0, 2), (F.PWM_GATE_RUN, 15), (F.PWM_STATUS_MODE, 2), (F.PE_CAPS_DMA_EN 0, 1), (F.PE_CHAN_TABLE_EN 0, 1), (F.PE_CHAN_TABLE_CHAN_HIGH 0, 3), (F.PE_CQ_EN 0 0, 1), (F.GLB_NODE_VALID, 1), (F.TRL_CTRL_EN, 1), (F.TRL_CTRL_READY, 1), (F.CFP_STATUS_STATE 0, 2), (F.CFK_STATUS_LINK 0, 2)] with chans := [(0, { st := 1, resident := true, ds := [{ no := 0, addr := 0x1000, ctrl := 64 * 2 ^ 32 + 2 ^ 14 + 1, src := 0x2000, dst := 0x3000, nodes := 66, next := 0, xform := 0, user := 5 }], nextNo := 1 })], funcs := [(0, { bme := true })], trl := { table := row 1 (66 * 2 ^ 16) (2 ^ 20) } },
       0, ((schedule
       ({ st [(F.PE_STATUS_STATE 0, 2), (F.PWM_GATE_RUN, 15), (F.PWM_STATUS_MODE, 2), (F.PE_CAPS_DMA_EN 0, 1), (F.PE_CHAN_TABLE_EN 0, 1), (F.PE_CHAN_TABLE_CHAN_HIGH 0, 3), (F.PE_CQ_EN 0 0, 1), (F.GLB_NODE_VALID, 1), (F.TRL_CTRL_EN, 1), (F.TRL_CTRL_READY, 1), (F.CFP_STATUS_STATE 0, 2), (F.CFK_STATUS_LINK 0, 2)] with chans := [(0, { st := 1, resident := true, ds := [{ no := 0, addr := 0x1000, ctrl := 64 * 2 ^ 32 + 2 ^ 14 + 1, src := 0x2000, dst := 0x3000, nodes := 66, next := 0, xform := 0, user := 5 }], nextNo := 1 })], funcs := [(0, { bme := true })], trl := { table := row 1 (66 * 2 ^ 16) (2 ^ 20) } }
       : State) 0 fun p r => reqMay
       ({ st [(F.PE_STATUS_STATE 0, 2), (F.PWM_GATE_RUN, 15), (F.PWM_STATUS_MODE, 2), (F.PE_CAPS_DMA_EN 0, 1), (F.PE_CHAN_TABLE_EN 0, 1), (F.PE_CHAN_TABLE_CHAN_HIGH 0, 3), (F.PE_CQ_EN 0 0, 1), (F.GLB_NODE_VALID, 1), (F.TRL_CTRL_EN, 1), (F.TRL_CTRL_READY, 1), (F.CFP_STATUS_STATE 0, 2), (F.CFK_STATUS_LINK 0, 2)] with chans := [(0, { st := 1, resident := true, ds := [{ no := 0, addr := 0x1000, ctrl := 64 * 2 ^ 32 + 2 ^ 14 + 1, src := 0x2000, dst := 0x3000, nodes := 66, next := 0, xform := 0, user := 5 }], nextNo := 1 })], funcs := [(0, { bme := true })], trl := { table := row 1 (66 * 2 ^ 16) (2 ^ 20) } }
       : State) p false false r).getD (0, 0)).1, 0,
       { no := 0, addr := 0x1000, ctrl := 64 * 2 ^ 32 + 2 ^ 14 + 1, src := 0x2000, dst := 0x3000, nodes := 66, next := 0, xform := 0, user := 5 },
       { st := 1, resident := true, ds := [{ no := 0, addr := 0x1000, ctrl := 64 * 2 ^ 32 + 2 ^ 14 + 1, src := 0x2000, dst := 0x3000, nodes := 66, next := 0, xform := 0, user := 5 }], nextNo := 1 },
       { node := some 66, addr := 0x2000, len := 64 }, by decide +kernel⟩,
     ⟨(st [(F.PWM_GATE_RUN, 0)]), 0, by decide +kernel⟩,
     ⟨{ st [(F.PE_STATUS_STATE 0, 2), (F.PWM_GATE_RUN, 15), (F.PWM_STATUS_MODE, 2), (F.PE_CAPS_DMA_EN 0, 1), (F.PE_CHAN_TABLE_EN 0, 1), (F.PE_CHAN_TABLE_CHAN_HIGH 0, 3), (F.PE_CQ_EN 0 0, 1)] with chans := [(0, { st := 1, resident := true, ds := [{ no := 0, addr := 0x1000, ctrl := 64 * 2 ^ 32 + 1, src := 0x2000, dst := 0x3000, nodes := 0, next := 0, xform := 0, user := 5, pos := 64 }], nextNo := 2, bursts := [{ id := 1, desc := 0, off := 0, len := 64, reads := [{ node := none, addr := 0x2000, len := 64, left := 0, data := [(0, List.replicate 64 7)] }], writes := [{ node := none, addr := 0x3000, len := 64 }] }] })], funcs := [(0, { bme := true })] },
       0, 0,
       { id := 1, desc := 0, off := 0, len := 64, reads := [{ node := none, addr := 0x2000, len := 64, left := 0, data := [(0, List.replicate 64 7)] }], writes := [{ node := none, addr := 0x3000, len := 64 }] },
       { no := 0, addr := 0x1000, ctrl := 64 * 2 ^ 32 + 1, src := 0x2000, dst := 0x3000, nodes := 0, next := 0, xform := 0, user := 5, pos := 64 },
       0x3000, 64, (List.replicate 64 7), by decide +kernel⟩,
     ⟨{ st [(F.PE_STATUS_STATE 0, 2), (F.PWM_GATE_RUN, 15), (F.PWM_STATUS_MODE, 2), (F.PE_CAPS_DMA_EN 0, 1), (F.PE_CHAN_TABLE_EN 0, 1), (F.PE_CHAN_TABLE_CHAN_HIGH 0, 3), (F.PE_CQ_EN 0 0, 1), (F.GLB_NODE_VALID, 1), (F.TRL_CTRL_EN, 1), (F.TRL_CTRL_READY, 1), (F.CFP_STATUS_STATE 0, 2), (F.CFK_STATUS_LINK 0, 2)] with chans := [(0, { st := 1, resident := true, ds := [{ no := 0, addr := 0x1000, ctrl := 64 * 2 ^ 32 + 2 ^ 15 + 1, src := 0x2000, dst := 0x3000, nodes := 66 * 2 ^ 32, next := 0, xform := 0, user := 5, pos := 64 }], nextNo := 2, bursts := [{ id := 1, desc := 0, off := 0, len := 64, reads := [{ node := none, addr := 0x2000, len := 64, left := 0, data := [(0, List.replicate 64 7)] }], writes := [{ node := some 66, addr := 0x3000, len := 64 }] }] })], funcs := [(0, { bme := true })], trl := { table := row 1 (66 * 2 ^ 16) (2 ^ 20) } },
       0, 0,
       { id := 1, desc := 0, off := 0, len := 64, reads := [{ node := none, addr := 0x2000, len := 64, left := 0, data := [(0, List.replicate 64 7)] }], writes := [{ node := some 66, addr := 0x3000, len := 64 }] },
       { no := 0, addr := 0x1000, ctrl := 64 * 2 ^ 32 + 2 ^ 15 + 1, src := 0x2000, dst := 0x3000, nodes := 66 * 2 ^ 32, next := 0, xform := 0, user := 5, pos := 64 },
       66, 0x3000, 64, 0, (2 ^ 20), by decide +kernel⟩,
     ⟨{}, 0, 0, by decide +kernel⟩,
     ⟨{ st [(F.PE_STATUS_STATE 0, 2), (F.PWM_GATE_RUN, 15), (F.PWM_STATUS_MODE, 2), (F.PE_CAPS_DMA_EN 0, 1), (F.PE_CHAN_TABLE_EN 0, 1), (F.PE_CHAN_TABLE_CHAN_HIGH 0, 3), (F.PE_CQ_EN 0 0, 1)] with chans := [(0, { st := 1, resident := true, ds := [{ no := 0, addr := 0x1000, ctrl := 64 * 2 ^ 32 + 1, src := 0x2000, dst := 0x3000, nodes := 0, next := 0, xform := 0, user := 5, pos := 64 }], nextNo := 2, bursts := [{ id := 1, desc := 0, off := 0, len := 64, reads := [], writes := [{ node := none, addr := 0x3000, len := 64, left := 0, handed := true }], written := true }] })], funcs := [(0, { bme := true })] },
       0, 0,
       { id := 1, desc := 0, off := 0, len := 64, reads := [], writes := [{ node := none, addr := 0x3000, len := 64, left := 0, handed := true }], written := true },
       by decide +kernel⟩,
     ⟨{ st [(F.PE_STATUS_STATE 0, 2), (F.PWM_GATE_RUN, 15), (F.PWM_STATUS_MODE, 2), (F.PE_CAPS_DMA_EN 0, 1), (F.PE_CHAN_TABLE_EN 0, 1), (F.PE_CHAN_TABLE_CHAN_HIGH 0, 3), (F.PE_CQ_EN 0 0, 1)] with chans := [(0, { st := 1, resident := true, ds := [{ no := 0, addr := 0x1000, ctrl := 64 * 2 ^ 32 + 1, src := 0x2000, dst := 0x3000, nodes := 0, next := 0x40, xform := 0, user := 5, pos := 64 }], nextNo := 2, bursts := [{ id := 1, desc := 0, off := 0, len := 64, reads := [], writes := [{ node := none, addr := 0x3000, len := 64, left := 0, handed := true }], written := true }] })], funcs := [(0, { bme := true })] },
       0, 0,
       { id := 1, desc := 0, off := 0, len := 64, reads := [], writes := [{ node := none, addr := 0x3000, len := 64, left := 0, handed := true }], written := true },
       { no := 0, addr := 0x1000, ctrl := 64 * 2 ^ 32 + 1, src := 0x2000, dst := 0x3000, nodes := 0, next := 0x40, xform := 0, user := 5, pos := 64 },
       by decide +kernel⟩,
     ⟨{}, 0, 0, by decide +kernel⟩,
     ⟨{ st [(F.PE_STATUS_STATE 0, 2), (F.PWM_GATE_RUN, 15), (F.PWM_STATUS_MODE, 2), (F.PE_CAPS_DMA_EN 0, 1), (F.PE_CHAN_TABLE_EN 0, 1), (F.PE_CHAN_TABLE_CHAN_HIGH 0, 3), (F.PE_CQ_EN 0 0, 1)] with chans := [(0, { st := 1, resident := true, reread := some (0x1000, 5) })], funcs := [(0, { bme := true })] },
       0, 0, 0x1000, 5, by decide +kernel⟩,
     ⟨{}, 0, 0, by decide +kernel⟩⟩

/-- The hypotheses of DmaEnds can be met. -/
theorem test_DmaEnds_hypotheses :
    (∃ (s : State) (p : Fin 4096) (c : Fin 256) (d : Desc) (f : DFail), s.wf = true ∧ (chanOf s p c).ds.head? = some d ∧ d.bad = some f ∧ d.cut =
      false ∧ d.extWait = false ∧ (chanOf s p c).live d = false ∧ (chanOf s p c).st = csRunning ∧ (chanOf s p c).recs = [] ∧ dmaHeld s p = false) ∧
    (∃ (s : State) (p : Fin 4096) (c : Fin 256), (((chanOf s p c).ds.head?.bind fun d => d.bad) = none ∨ (chanOf s p c).st = csStalled ∨ dmaHeld s p =
      true)) ∧
    (∃ (s : State) (p : Fin 4096) (k : Fin 16) (c : Nat) (r : CRec) (v : Word) (head : Bool), s.wf = true ∧ mwf (plotOf s p).cqs = true ∧ c < 256 ∧
      dmaHeld s p = false ∧ pageDead s p = false ∧ (cqOf s p k).order = [c] ∧ (chanOf s p c).st = csStalled ∧ (chanOf s p c).back = csRunning ∧
      (chanOf s p c).recs = [r] ∧ (chanOf s p c).cq = k.val ∧ (chanOf s p c).stWords = [] ∧ (chanOf s p c).held = false ∧ (chanOf s p c).abortPend =
      false ∧ (chanOf s p c).after = .none ∧ (chanOf s p c).ds = [] ∧ memOpen s p = true ∧ getF s (F.PP_CQ_PROD_PROD p k) ≠ (if head then bits v.toNat
      0 16 else getF s (F.PP_CQ_HEAD_CONS p k)) ∧ getF s (F.PP_CQ_PROD_PROD p k) + 1 < 64 * 2 ^ getF s (F.PE_CQ_SIZE p k) ∧ getF s (F.PP_CQ_PROD_PROD
      p k) + 1 < 65536) ∧
    (∃ (s : State) (p : Fin 4096) (k : Fin 16), s.wf = true ∧ mwf (plotOf s p).cqs = true ∧ pageDead s p = false ∧ (cqOf s p k).order = []) ∧
    (∃ (s : State) (p : Fin 4096) (c : Fin 256), s.wf = true ∧ (chanOf s p c).st = csHalting ∧ endReady s p (chanOf s p c) = true ∧ (chanOf s p c).ds
      = [] ∧ (chanOf s p c).recs = [] ∧ (chanOf s p c).last = none) ∧
    (∃ (s : State) (p : Fin 4096) (c : Fin 256), s.wf = true ∧ (chanOf s p c).st = csAborting ∧ endReady s p (chanOf s p c) = true ∧ (chanOf s p c).ds
      = [] ∧ (chanOf s p c).recs = []) ∧
    (∃ (s : State) (p : Fin 4096) (c : Fin 256) (d : Desc), s.wf = true ∧ (chanOf s p c).st = csAborting ∧ endReady s p (chanOf s p c) = true ∧
      (chanOf s p c).ds = [d] ∧ (chanOf s p c).recs = []) :=
    ⟨⟨{ st [(F.PE_STATUS_STATE 0, 2), (F.PWM_GATE_RUN, 15), (F.PWM_STATUS_MODE, 2), (F.PE_CAPS_DMA_EN 0, 1), (F.PE_CHAN_TABLE_EN 0, 1), (F.PE_CHAN_TABLE_CHAN_HIGH 0, 3), (F.PE_CQ_EN 0 0, 1)] with chans := [(0, { st := 1, resident := true, ds := [{ no := 0, addr := 0x1000, ctrl := 64 * 2 ^ 32 + 1, src := 0x2000, dst := 0x3000, nodes := 0, next := 0, xform := 0, user := 5, bad := some { reason := 1, fst := 0x20 } }], nextNo := 2 })], funcs := [(0, { bme := true })] },
       0, 0,
       { no := 0, addr := 0x1000, ctrl := 64 * 2 ^ 32 + 1, src := 0x2000, dst := 0x3000, nodes := 0, next := 0, xform := 0, user := 5, bad := some { reason := 1, fst := 0x20 } },
       { reason := 1, fst := 0x20 }, by decide +kernel⟩,
     ⟨{}, 0, 0, by decide +kernel⟩,
     ⟨{ st [(F.PE_STATUS_STATE 0, 2), (F.PWM_GATE_RUN, 15), (F.PWM_STATUS_MODE, 2), (F.PE_CAPS_DMA_EN 0, 1), (F.PE_CHAN_TABLE_EN 0, 1), (F.PE_CHAN_TABLE_CHAN_HIGH 0, 3), (F.PE_CQ_EN 0 0, 1)] with chans := [(0, { st := 2, back := 1, resident := true, recs := [{ desc := 0x1000, user := 5, status := 1, reason := 0, fst := 0, residue := 0, irq := false }], nextNo := 2 })], funcs := [(0, { bme := true })], plots := [(0, { cqs := [(0, { order := [0] })] })] },
       0, 0, 0, { desc := 0x1000, user := 5, status := 1, reason := 0, fst := 0, residue := 0, irq := false }, 5, true, by decide +kernel⟩,
     ⟨{ st [(F.PE_STATUS_STATE 0, 2), (F.PWM_GATE_RUN, 15), (F.PWM_STATUS_MODE, 2), (F.PE_CAPS_DMA_EN 0, 1), (F.PE_CHAN_TABLE_EN 0, 1), (F.PE_CHAN_TABLE_CHAN_HIGH 0, 3), (F.PE_CQ_EN 0 0, 1)] with chans := [(0, { st := 1, resident := true })], funcs := [(0, { bme := true })] },
       0, 0, by decide +kernel⟩,
     ⟨{ st [(F.PE_STATUS_STATE 0, 2), (F.PWM_GATE_RUN, 15), (F.PWM_STATUS_MODE, 2), (F.PE_CAPS_DMA_EN 0, 1), (F.PE_CHAN_TABLE_EN 0, 1), (F.PE_CHAN_TABLE_CHAN_HIGH 0, 3), (F.PE_CQ_EN 0 0, 1)] with chans := [(0, { st := 4, resident := true })], funcs := [(0, { bme := true })] },
       0, 0, by decide +kernel⟩,
     ⟨{ st [(F.PE_STATUS_STATE 0, 2), (F.PWM_GATE_RUN, 15), (F.PWM_STATUS_MODE, 2), (F.PE_CAPS_DMA_EN 0, 1), (F.PE_CHAN_TABLE_EN 0, 1), (F.PE_CHAN_TABLE_CHAN_HIGH 0, 3), (F.PE_CQ_EN 0 0, 1)] with chans := [(0, { st := 3, resident := true })], funcs := [(0, { bme := true })] },
       0, 0, by decide +kernel⟩,
     ⟨{ st [(F.PE_STATUS_STATE 0, 2), (F.PWM_GATE_RUN, 15), (F.PWM_STATUS_MODE, 2), (F.PE_CAPS_DMA_EN 0, 1), (F.PE_CHAN_TABLE_EN 0, 1), (F.PE_CHAN_TABLE_CHAN_HIGH 0, 3), (F.PE_CQ_EN 0 0, 1)] with chans := [(0, { st := 3, resident := true, ds := [{ no := 0, addr := 0x1000, ctrl := 64 * 2 ^ 32 + 1, src := 0x2000, dst := 0x3000, nodes := 0, next := 0, xform := 0, user := 5, cut := true }] })], funcs := [(0, { bme := true })] },
       0, 0,
       { no := 0, addr := 0x1000, ctrl := 64 * 2 ^ 32 + 1, src := 0x2000, dst := 0x3000, nodes := 0, next := 0, xform := 0, user := 5, cut := true },
       by decide +kernel⟩⟩

/-- The hypotheses of HostConfiguration can be met. -/
theorem test_HostConfiguration_hypotheses :
    (∃ (s : State) (p : Fin 4096), s.wf = true ∧ hostUp s (quadrantOf p) = true ∧ configRetry s p = false ∧ funcEnabled s p = true ∧ plotState s p =
      psHeld ∧ (funcOf s p).d3hot = false ∧ (funcOf s (pf0Of p)).d3hot = false) ∧
    (∃ (s : State) (p : Fin 4096), s.wf = true ∧ hostUp s (quadrantOf p) = true ∧ configRetry s p = false ∧ funcEnabled s p = true ∧ plotState s p =
      psServing ∧ (plotOf s p).refetch = false) ∧
    (∃ (s : State) (p : Fin 4096), s.wf = true ∧ hostUp s (quadrantOf p) = true ∧ configRetry s p = false ∧ funcEnabled s p = true) ∧
    (∃ (s : State) (p : Fin 4096), s.wf = true ∧ hostUp s (quadrantOf p) = true ∧ configRetry s p = false ∧ funcEnabled s p = true) ∧
    (∃ (s : State) (n : Fin 4), s.wf = true ∧ hostUp s n = true ∧ configRetry s (n * 1024) = false ∧ (portOf s n).vfEnable = false ∧ min (portOf s
      n).numVfs (portOf s n).totalVfs < 1024) ∧
    (∃ (s : State) (n : Fin 4), s.wf = true ∧ hostUp s n = true ∧ configRetry s (n * 1024) = false ∧ (portOf s n).vfEnable = true) ∧
    (∃ (s : State) (p : Fin 4096), s.wf = true ∧ hostUp s (quadrantOf p) = true ∧ configRetry s p = false ∧ funcEnabled s p = true) ∧
    (∃ (s : State) (p : Fin 4096), s.wf = true ∧ hostUp s (quadrantOf p) = true ∧ configRetry s p = false ∧ funcEnabled s p = true) ∧
    (∃ (s : State) (p : Fin 4096), hostUp s (quadrantOf p) = true ∧ configRetry s p = true) :=
    ⟨⟨(st [(F.HPT_LINK_LTSSM 0, 3), (F.HPT_LINK_DL_UP 0, 1), (F.HPT_LINK_READY 0, 1), (F.PE_STATUS_STATE 0, 3)]), 0, by decide +kernel⟩,
     ⟨{ st [(F.HPT_LINK_LTSSM 0, 3), (F.HPT_LINK_DL_UP 0, 1), (F.HPT_LINK_READY 0, 1), (F.PE_STATUS_STATE 0, 2), (F.PE_STATUS_STATE 1, 2)] with ports := [(0, { vfEnable := true, vfsOn := 2, bar2Pf := 65536, bar2Vf := 65536, totalVfs := 8, numVfs := 4 })], funcs := [(0, { mse := true, bme := true }), (1, { mse := true })] },
       1, by decide +kernel⟩,
     ⟨{ st [(F.HPT_LINK_LTSSM 0, 3), (F.HPT_LINK_DL_UP 0, 1), (F.HPT_LINK_READY 0, 1), (F.PE_STATUS_STATE 0, 2), (F.PE_STATUS_STATE 1, 2)] with ports := [(0, { vfEnable := true, vfsOn := 2, bar2Pf := 65536, bar2Vf := 65536, totalVfs := 8, numVfs := 4 })], funcs := [(0, { mse := true, bme := true }), (1, { mse := true })] },
       1, by decide +kernel⟩,
     ⟨{ st [(F.HPT_LINK_LTSSM 0, 3), (F.HPT_LINK_DL_UP 0, 1), (F.HPT_LINK_READY 0, 1), (F.PE_STATUS_STATE 0, 2), (F.PE_STATUS_STATE 1, 2)] with ports := [(0, { vfEnable := true, vfsOn := 2, bar2Pf := 65536, bar2Vf := 65536, totalVfs := 8, numVfs := 4 })], funcs := [(0, { mse := true, bme := true }), (1, { mse := true })] },
       1, by decide +kernel⟩,
     ⟨{ st [(F.HPT_LINK_LTSSM 0, 3), (F.HPT_LINK_DL_UP 0, 1), (F.HPT_LINK_READY 0, 1)] with ports := [(0, { bar2Pf := 65536, bar2Vf := 65536, totalVfs := 8, numVfs := 4 })] },
       0, by decide +kernel⟩,
     ⟨{ st [(F.HPT_LINK_LTSSM 0, 3), (F.HPT_LINK_DL_UP 0, 1), (F.HPT_LINK_READY 0, 1), (F.PE_STATUS_STATE 0, 2), (F.PE_STATUS_STATE 1, 2)] with ports := [(0, { vfEnable := true, vfsOn := 2, bar2Pf := 65536, bar2Vf := 65536, totalVfs := 8, numVfs := 4 })], funcs := [(0, { mse := true, bme := true }), (1, { mse := true })] },
       0, by decide +kernel⟩,
     ⟨{ st [(F.HPT_LINK_LTSSM 0, 3), (F.HPT_LINK_DL_UP 0, 1), (F.HPT_LINK_READY 0, 1), (F.PE_STATUS_STATE 0, 2), (F.PE_STATUS_STATE 1, 2)] with ports := [(0, { vfEnable := true, vfsOn := 2, bar2Pf := 65536, bar2Vf := 65536, totalVfs := 8, numVfs := 4 })], funcs := [(0, { mse := true, bme := true }), (1, { mse := true })] },
       1, by decide +kernel⟩,
     ⟨{ st [(F.HPT_LINK_LTSSM 0, 3), (F.HPT_LINK_DL_UP 0, 1), (F.HPT_LINK_READY 0, 1), (F.PE_STATUS_STATE 0, 2), (F.PE_STATUS_STATE 1, 2)] with ports := [(0, { vfEnable := true, vfsOn := 2, bar2Pf := 65536, bar2Vf := 65536, totalVfs := 8, numVfs := 4 })], funcs := [(0, { mse := true, bme := true }), (1, { mse := true })] },
       1, by decide +kernel⟩,
     ⟨(st [(F.HPT_LINK_LTSSM 0, 3), (F.HPT_LINK_DL_UP 0, 1), (F.HPT_LINK_READY 0, 0)]), 0, by decide +kernel⟩⟩

/-- The hypotheses of HostInterrupts can be met. -/
theorem test_HostInterrupts_hypotheses :
    (∃ (s : State) (p : Fin 4096), s.wf = true ∧ hostUp s (quadrantOf p) = true ∧ configRetry s p = false ∧ funcEnabled s p = true) ∧
    (∃ (s : State) (p : Fin 4096), s.wf = true ∧ hostUp s (quadrantOf p) = true ∧ configRetry s p = false ∧ funcEnabled s p = true) ∧
    (∃ (s : State) (p : Fin 4096) (v : Nat), s.wf = true ∧ hostUp s (quadrantOf p) = true ∧ configRetry s p = false ∧ funcEnabled s p = true ∧
      plotState s p = psServing ∧ (funcOf s p).d3hot = false ∧ (funcOf s p).msixEn = true ∧ v < 2048 ∧ (msixOf s p v).pend = true ∧ (msixOf s p
      v).mask = false) ∧
    (∃ (s : State) (p : Fin 4096) (v : Fin 2048), s.wf = true ∧ funcMemory s p = true ∧ v.val < vectorCount s p ∧ plotState s p = psServing ∧ (funcOf
      s p).msixEn = true ∧ (funcOf s p).fmask = false ∧ (msixOf s p v).pend = true) ∧
    (∃ (s : State) (p : Fin 4096) (v : Fin 2048), s.wf = true ∧ funcMemory s p = true ∧ v.val < vectorCount s p) ∧
    (∃ (s : State) (n : Fin 4), s.wf = true ∧ hostUp s n = true ∧ configRetry s (n * 1024) = false) ∧
    (∃ (s : State) (n : Fin 4), s.wf = true ∧ funcMemory s (n * 1024) = true ∧ pageDead s (n * 1024) = false) :=
    ⟨⟨(st [(F.HPT_LINK_LTSSM 0, 3), (F.HPT_LINK_DL_UP 0, 1), (F.HPT_LINK_READY 0, 1)]), 0, by decide +kernel⟩,
     ⟨(st [(F.HPT_LINK_LTSSM 0, 3), (F.HPT_LINK_DL_UP 0, 1), (F.HPT_LINK_READY 0, 1)]), 0, by decide +kernel⟩,
     ⟨{ st [(F.HPT_LINK_LTSSM 0, 3), (F.HPT_LINK_DL_UP 0, 1), (F.HPT_LINK_READY 0, 1), (F.PE_STATUS_STATE 0, 2)] with msix := [(0, { addr := 0x100, data := 5, mask := false, pend := true })], funcs := [(0, { mse := true, bme := true, msixEn := true })] },
       0, 0, by decide +kernel⟩,
     ⟨{ st [(F.HPT_LINK_LTSSM 0, 3), (F.HPT_LINK_DL_UP 0, 1), (F.HPT_LINK_READY 0, 1), (F.PE_STATUS_STATE 0, 2)] with msix := [(0, { addr := 0x100, data := 5, mask := true, pend := true })], funcs := [(0, { mse := true, bme := true, msixEn := true })] },
       0, 0, by decide +kernel⟩,
     ⟨{ st [(F.HPT_LINK_LTSSM 0, 3), (F.HPT_LINK_DL_UP 0, 1), (F.HPT_LINK_READY 0, 1), (F.PE_STATUS_STATE 0, 2)] with funcs := [(0, { mse := true, bme := true, msixEn := true })] },
       0, 0, by decide +kernel⟩,
     ⟨(st [(F.HPT_LINK_LTSSM 0, 3), (F.HPT_LINK_DL_UP 0, 1), (F.HPT_LINK_READY 0, 1)]), 0, by decide +kernel⟩,
     ⟨{ st [(F.HPT_LINK_LTSSM 0, 3), (F.HPT_LINK_DL_UP 0, 1), (F.HPT_LINK_READY 0, 1), (F.PE_STATUS_STATE 0, 2)] with funcs := [(0, { mse := true, bme := true, msixEn := true })] },
       0, by decide +kernel⟩⟩

/-- The hypotheses of HostLinks can be met. -/
theorem test_HostLinks_hypotheses :
    (∃ (s : State) (n : Fin 4), s.wf = true ∧ (portOf s n).perst = false ∧ pwmMode s ≠ moDormant ∧ pwmMode s ≠ moDoze ∧ dozing s = false) ∧
    (∃ (s : State) (n : Fin 4), s.wf = true ∧ (portOf s n).perst = false ∧ pwmMode s = moDormant ∧ s.ctl.railEn = false) ∧
    (∃ (s : State) (n : Fin 4), s.wf = true ∧ (portOf s n).perst = true ∧ 10 ≤ s.ctl.step ∧ s.ctl.step < 21 ∧ bitF s (F.HPT_LINK_READY n) = false ∧
      heldQ s n 0 = false) ∧
    (∃ (s : State) (n : Fin 4) (speed : Fin 8) (width : Fin 5) (flit : Bool), s.wf = true ∧ hostReady s n = true ∧ speed.val ≠ 0 ∧ (speed.val < 6 ∨
      flit = true) ∧ ((if getF s (F.HPT_LINK_LTSSM n) ∈ [1, 2, 4] then speed.val ≤ (portOf s n).offSpeed ∧ width.val ≤ (portOf s n).offWidth else
      speed.val ≤ getF s (F.HPT_CTRL_MAX_SPEED n) ∧ width.val ≤ getF s (F.HPT_CTRL_MAX_WIDTH n)))) ∧
    (∃ (s : State) (n : Fin 4) (speed : Fin 8) (flit : Bool), (hostReady s n = false ∨ speed.val = 0 ∨ (6 ≤ speed.val ∧ flit = false))) ∧
    (∃ (s : State) (n : Fin 4) (who : Party), s.wf = true ∧ regOpen s who (A.HPT_CTRL n) = true ∧ hostUp s n = true) ∧
    (∃ (s : State) (n : Fin 4) (who : Party), regOpen s who (A.HPT_CTRL n) = true) ∧
    (∃ (s : State), s.wf = true ∧ s.root.queue = []) ∧
    (∃ (s : State) (n : Fin 4), s.root.queue ≠ [] ∧ hostUp s n = true) ∧
    (∃ (s : State) (n : Fin 4), s.wf = true ∧ bitF s (F.HPT_LINK_IDE_SECURE n) = true) ∧
    (∃ (s : State) (n : Fin 4), s.wf = true ∧ getF s (F.HPT_LINK_LTSSM n) = 3 ∧ hostUp s n = true ∧ (portOf s n).txq = []) ∧
    (∃ (s : State) (n : Fin 4), s.wf = true ∧ (portOf s n).l1 = true ∧ pwmMode s = moServe ∧ dozing s = false) ∧
    (∃ (s : State) (n : Fin 4), s.wf = true ∧ (portOf s n).l1 = true ∧ pwmMode s = moDoze ∧ s.ctl.waking = false) :=
    ⟨⟨(st [(F.PWM_STATUS_MODE, 3)]), 0, by decide +kernel⟩,
     ⟨(st [(F.PWM_STATUS_MODE, 1)]), 0, by decide +kernel⟩,
     ⟨{ ports := [(0, { perst := true })], ctl := { step := 10 } }, 0, by decide +kernel⟩,
     ⟨{ st [(F.HPT_CTRL_LINK_EN 0, 1), (F.HPT_CTRL_MAX_SPEED 0, 6), (F.HPT_CTRL_MAX_WIDTH 0, 4)] with ports := [(0, { perst := true })], ctl := { step := 11 } },
       0, 6, 4, true, by decide +kernel⟩,
     ⟨{}, 0, 0, false, by decide +kernel⟩,
     ⟨(st [(F.HPT_LINK_LTSSM 0, 3), (F.HPT_LINK_DL_UP 0, 1), (F.HPT_LINK_READY 0, 1), (F.PE_STATUS_STATE 0, 2)]), 0, .gardener, by decide +kernel⟩,
     ⟨(st [(F.HPT_LINK_LTSSM 0, 3), (F.HPT_LINK_DL_UP 0, 1), (F.HPT_LINK_READY 0, 1), (F.PE_STATUS_STATE 0, 2)]), 0, .gardener, by decide +kernel⟩,
     ⟨(st [(F.HPT_LINK_LTSSM 0, 3), (F.HPT_LINK_DL_UP 0, 1), (F.HPT_LINK_READY 0, 1), (F.PE_STATUS_STATE 0, 2)]), by decide +kernel⟩,
     ⟨{ st [(F.HPT_LINK_LTSSM 0, 3), (F.HPT_LINK_DL_UP 0, 1), (F.HPT_LINK_READY 0, 1), (F.PE_STATUS_STATE 0, 2)] with root := { queue := [{ index := 6208, value := 5, gardener := true }] } },
       0, by decide +kernel⟩,
     ⟨(st [(F.HPT_LINK_IDE_SECURE 0, 1)]), 0, by decide +kernel⟩,
     ⟨(st [(F.HPT_LINK_LTSSM 0, 3), (F.HPT_LINK_DL_UP 0, 1), (F.HPT_LINK_READY 0, 1)]), 0, by decide +kernel⟩,
     ⟨{ st [(F.PWM_STATUS_MODE, 3)] with ports := [(0, { l1 := true })] }, 0, by decide +kernel⟩,
     ⟨{ st [(F.PWM_STATUS_MODE, 4)] with ports := [(0, { l1 := true })] }, 0, by decide +kernel⟩⟩

/-- The hypotheses of DoeObjects can be met. -/
theorem test_DoeObjects_hypotheses :
    (∃ (s : State) (n : Fin 4) (bs : List Byte), s.wf = true ∧ hostUp s n = true ∧ bitF s (F.HPT_LINK_READY n) = true ∧ bs.length ≤ 4096 ∧ bitF s
      (F.DOE_STATUS_OBJECT_READY n) = false ∧ firmwareRuns s = true) ∧
    (∃ (s : State) (n : Fin 4) (bs : List Byte), s.wf = true ∧ hostUp s n = true ∧ bitF s (F.HPT_LINK_READY n) = true ∧ (4096 < bs.length ∨ bitF s
      (F.DOE_STATUS_OBJECT_READY n) = true ∨ (firmwareRuns s = false ∧ doeDiscovery bs = false))) ∧
    (∃ (s : State) (n : Fin 4) (bs : List Byte), s.wf = true ∧ hostUp s n = true ∧ bitF s (F.HPT_LINK_READY n) = true ∧ bs.length ≤ 4096 ∧ bitF s
      (F.DOE_STATUS_OBJECT_READY n) = false ∧ firmwareRuns s = false ∧ doeDiscovery bs = true) ∧
    (∃ (s : State) (n : Fin 4), s.wf = true ∧ hostUp s n = true ∧ bitF s (F.HPT_LINK_READY n) = true) ∧
    (∃ (s : State) (n : Fin 4), s.wf = true ∧ bitF s (F.DOE_STATUS_OBJECT_READY n) = true) ∧
    (∃ (s : State) (n : Fin 4), bitF s (F.DOE_STATUS_OBJECT_READY n) = false) ∧
    (∃ (s : State) (n : Fin 4), (hostUp s n = false ∨ bitF s (F.HPT_LINK_READY n) = false)) :=
    ⟨⟨(st [(F.HPT_LINK_LTSSM 0, 3), (F.HPT_LINK_DL_UP 0, 1), (F.HPT_LINK_READY 0, 1), (F.GDN_BOOT_RESULT, 1)]), 0, [1, 2, 3, 4, 5, 6, 7, 8],
       by decide +kernel⟩,
     ⟨(st [(F.HPT_LINK_LTSSM 0, 3), (F.HPT_LINK_DL_UP 0, 1), (F.HPT_LINK_READY 0, 1), (F.DOE_STATUS_OBJECT_READY 0, 1)]), 0, [1, 2, 3, 4, 5, 6, 7, 8],
       by decide +kernel⟩,
     ⟨(st [(F.HPT_LINK_LTSSM 0, 3), (F.HPT_LINK_DL_UP 0, 1), (F.HPT_LINK_READY 0, 1)]), 0, [1, 0, 0, 0, 3, 0, 0, 0, 0, 0, 0, 0], by decide +kernel⟩,
     ⟨(st [(F.HPT_LINK_LTSSM 0, 3), (F.HPT_LINK_DL_UP 0, 1), (F.HPT_LINK_READY 0, 1)]), 0, by decide +kernel⟩,
     ⟨(st [(F.DOE_STATUS_OBJECT_READY 0, 1)]), 0, by decide +kernel⟩,
     ⟨{}, 0, by decide +kernel⟩,
     ⟨{}, 0, by decide +kernel⟩⟩

/-- The hypotheses of CalfosTraining can be met. -/
theorem test_CalfosTraining_hypotheses :
    (∃ (s : State) (f : Fin 8) (who : Party), s.wf = true ∧ regOpen s who (A.CFP_CTRL f) = true) ∧
    (∃ (s : State) (f : Fin 8) (who : Party), s.wf = true ∧ regOpen s who (A.CFP_CTRL f) = true) ∧
    (∃ (s : State) (f : Fin 8) (who : Party), s.wf = true ∧ regOpen s who (A.CFP_CTRL f) = true) ∧
    (∃ (s : State) (f : Fin 8), cfpState s f = cfpTraining ∧ (linkOf s f).step = 1) ∧
    (∃ (s : State) (f : Fin 8) (b : List Byte) (v : Nat), s.wf = true ∧ cfpState s f = cfpTraining ∧ (linkOf s f).step = 1 ∧ (linkOf s f).maxRate ≤ 2
      ∧ (linkOf s f).fallback ≤ 2 ∧ blockOf b = some v ∧ bits v 0 4 = 1) ∧
    (∃ (s : State) (f : Fin 8), s.wf = true ∧ inTraining s f = true) ∧
    (∃ (s : State) (f : Fin 8), s.wf = true ∧ cfpState s f = cfpTraining ∧ 2 ≤ (linkOf s f).step ∧ (linkOf s f).step ≤ 6) ∧
    (∃ (s : State) (f : Fin 8), s.wf = true ∧ (linkOf s f).retry = true ∧ getF s (F.CFP_TRAIN_RETRY f) ≠ 0) ∧
    (∃ (s : State) (f : Fin 8), s.wf = true ∧ inTraining s f = true ∧ (linkOf s f).step = 6 ∧ bitF s (F.CFP_STATUS_ALIGNED f) = true ∧ getF s
      (F.CFK_STATUS_LINK f) = 0) ∧
    (∃ (s : State) (f : Fin 8), s.wf = true ∧ inTraining s f = true ∧ (linkOf s f).step = 6 ∧ bitF s (F.CFP_STATUS_ALIGNED f) = true ∧ getF s
      (F.CFK_STATUS_LINK f) = 0) :=
    ⟨⟨{}, 0, .gardener, by decide +kernel⟩,
     ⟨{}, 0, .gardener, by decide +kernel⟩,
     ⟨(st [(F.CFP_CTRL_EN 0, 1), (F.CFP_STATUS_STATE 0, 2)]), 0, .gardener, by decide +kernel⟩,
     ⟨{ st [(F.CFP_STATUS_STATE 0, 1)] with links := [(0, { step := 1, maxRate := 2, fallback := 2, attempt := 1 })] }, 0, by decide +kernel⟩,
     ⟨{ st [(F.CFP_STATUS_STATE 0, 1)] with links := [(0, { step := 1, maxRate := 2, fallback := 2, attempt := 1 })] }, 0, (leBytes 12 (1 + 2 ^ 4 + 2
       ^ 8) ++ leBytes 4 (crc32c (leBytes 12 (1 + 2 ^ 4 + 2 ^ 8)))), (leNat (leBytes 12 (1 + 2 ^ 4 + 2 ^ 8) ++ leBytes 4 (crc32c (leBytes 12 (1 + 2 ^
       4 + 2 ^ 8))))), by decide +kernel⟩,
     ⟨{ st [(F.CFP_STATUS_STATE 0, 1)] with links := [(0, { step := 4, attempt := 1 })] }, 0, by decide +kernel⟩,
     ⟨{ st [(F.CFP_STATUS_STATE 0, 1)] with links := [(0, { step := 4, attempt := 1 })] }, 0, by decide +kernel⟩,
     ⟨{ st [(F.CFP_CTRL_EN 0, 1), (F.CFP_TRAIN_RETRY 0, 5)] with links := [(0, { retry := true })] }, 0, by decide +kernel⟩,
     ⟨{ st [(F.CFP_STATUS_STATE 0, 1), (F.CFP_STATUS_ALIGNED 0, 1)] with links := [(0, { step := 6, good := 5 })] }, 0, by decide +kernel⟩,
     ⟨{ st [(F.CFP_STATUS_STATE 0, 1), (F.CFP_STATUS_ALIGNED 0, 1)] with links := [(0, { step := 6, good := 5 })] }, 0, by decide +kernel⟩⟩

/-- The hypotheses of CalfosLanes can be met. -/
theorem test_CalfosLanes_hypotheses :
    (∃ (s : State) (f : Fin 8) (b : List Byte) (v : Nat), s.wf = true ∧ mwf (linkOf s f).txLanes = true ∧ inTraining s f = true ∧ blockOf b = some v ∧
      bits v 0 4 = 2) ∧
    (∃ (s : State) (f : Fin 8) (m : BitVec 256), s.wf = true ∧ markersExpected s f = true ∧ (linkOf s f).rxLanes = [] ∧ markerExact m.toNat = true ∧
      bits m.toNat 64 8 ≤ 7) ∧
    (∃ (s : State) (f : Fin 8) (l : Fin 8) (m : BitVec 256) (x : RxLane), s.wf = true ∧ markersExpected s f = true ∧ mfind (linkOf s f).rxLanes l =
      some x ∧ m.toNat = markerValue x.lane (getF s (F.CFP_STATUS_RATE f)) x.seq (bitF s (F.CFP_STATUS_PRECODE_RX f)) false) ∧
    (∃ (s : State) (f : Fin 8) (l : Fin 8) (m : BitVec 256) (x : RxLane), s.wf = true ∧ cfpState s f = cfpActive ∧ bitF s (F.CFP_STATUS_RX_DRIFT f) =
      false ∧ mfind (linkOf s f).rxLanes l = some x ∧ x.misses = 2 ∧ 16 < onesIn 256 (Nat.xor m.toNat (markerValue x.lane (getF s (F.CFP_STATUS_RATE
      f)) x.seq (bitF s (F.CFP_STATUS_PRECODE_RX f)) false))) :=
    ⟨⟨{ st [(F.CFP_STATUS_STATE 0, 1)] with links := [(0, { step := 4, attempt := 1 })] }, 0, (leBytes 12 (2 + 2 ^ 4) ++ leBytes 4 (crc32c (leBytes 12
       (2 + 2 ^ 4)))), (leNat (leBytes 12 (2 + 2 ^ 4) ++ leBytes 4 (crc32c (leBytes 12 (2 + 2 ^ 4))))), by decide +kernel⟩,
     ⟨{ st [(F.CFP_STATUS_STATE 0, 1)] with links := [(0, { step := 5, attempt := 1 })] }, 0, (BitVec.ofNat 256 (markerValue 0 0 0 false true)),
       by decide +kernel⟩,
     ⟨{ st [(F.CFP_STATUS_STATE 0, 1)] with links := [(0, { step := 5, attempt := 1, rxLanes := [(0, { lane := 0, seq := 1 })] })] }, 0, 0,
       (BitVec.ofNat 256 (markerValue 0 0 1 false false)), { lane := 0, seq := 1 }, by decide +kernel⟩,
     ⟨{ st [(F.CFP_STATUS_STATE 0, 2)] with links := [(0, { rxLanes := [(0, { lane := 0, seq := 1, misses := 2 })] })] }, 0, 0, 0,
       { lane := 0, seq := 1, misses := 2 }, by decide +kernel⟩⟩

/-- The hypotheses of CalfosDriftAndHush can be met. -/
theorem test_CalfosDriftAndHush_hypotheses :
    (∃ (s : State) (f : Fin 8), s.wf = true ∧ cfpState s f = cfpActive ∧ bitF s (F.CFP_PM_DRIFT_EN f) = true ∧ bitF s (F.CFP_STATUS_TX_DRIFT f) =
      false ∧ linkUp s f = true ∧ linkHasWork s f = false ∧ (linkOf s f).hush = 0 ∧ (linkOf s f).pctlLeft = 0) ∧
    (∃ (s : State) (f : Fin 8), s.wf = true ∧ cfpState s f = cfpActive ∧ bitF s (F.CFP_STATUS_TX_DRIFT f) = false ∧ (linkOf s f).pctl = 1 ∧ (linkOf s
      f).pctlLeft ≠ 0) ∧
    (∃ (s : State) (f : Fin 8), s.wf = true ∧ cfpState s f = cfpActive ∧ bitF s (F.CFP_STATUS_TX_DRIFT f) = true ∧ linkHasWork s f = true) ∧
    (∃ (s : State) (f : Fin 8), cfpState s f = cfpActive ∧ bitF s (F.CFP_STATUS_TX_DRIFT f) = true) ∧
    (∃ (s : State) (f : Fin 8), s.wf = true ∧ cfpState s f = cfpActive ∧ (linkOf s f).driftSeen = true) ∧
    (∃ (s : State) (f : Fin 8), cfpState s f = cfpActive) ∧
    (∃ (s : State) (f : Fin 8), s.wf = true ∧ cfpState s f = cfpActive ∧ linkUp s f = true ∧ linkQuiet s f = true ∧ (dozing s = true ∨ bitF s
      (F.CFP_PM_HUSH_EN f) = true) ∧ (linkOf s f).hush = 0 ∧ bitF s (F.CFP_STATUS_TX_DRIFT f) = false) ∧
    (∃ (s : State) (f : Fin 8), s.wf = true ∧ cfpState s f = cfpActive ∧ (linkOf s f).hush = 1 ∧ (linkOf s f).doze = false) ∧
    (∃ (s : State) (f : Fin 8), s.wf = true ∧ cfpState s f = cfpActive ∧ (linkOf s f).hush = 1 ∧ (linkOf s f).doze = true ∧ dozing s = true) ∧
    (∃ (s : State) (f : Fin 8), s.wf = true ∧ cfpState s f = cfpActive ∧ (linkOf s f).hush = 2) ∧
    (∃ (s : State) (f : Fin 8), s.wf = true ∧ (linkHasWork s f = true ∨ s.ctl.waking = true) ∧ cfpState s f = cfpHush ∧ (linkOf s f).exiting = false) ∧
    (∃ (s : State) (f : Fin 8), s.wf = true ∧ cfpState s f = cfpHush ∧ (linkOf s f).exiting = true) ∧
    (∃ (s : State) (f : Fin 8), s.wf = true ∧ cfpState s f = cfpHush ∧ (linkOf s f).exiting = true) :=
    ⟨⟨{ st [(F.CFP_STATUS_STATE 0, 2), (F.CFK_STATUS_LINK 0, 2), (F.CFP_PM_DRIFT_EN 0, 1)] with links := [(0, { acked := true })] }, 0,
       by decide +kernel⟩,
     ⟨{ st [(F.CFP_STATUS_STATE 0, 2), (F.CFK_STATUS_LINK 0, 2)] with links := [(0, { pctl := 1, pctlLeft := 1 })] }, 0, by decide +kernel⟩,
     ⟨{ st [(F.CFP_STATUS_STATE 0, 2), (F.CFK_STATUS_LINK 0, 2), (F.CFP_STATUS_TX_DRIFT 0, 1)] with links := [(0, { ackDue := true })] }, 0,
       by decide +kernel⟩,
     ⟨{ st [(F.CFP_STATUS_STATE 0, 2), (F.CFK_STATUS_LINK 0, 2), (F.CFP_STATUS_TX_DRIFT 0, 1)] with links := [(0, { acked := true })] }, 0,
       by decide +kernel⟩,
     ⟨{ st [(F.CFP_STATUS_STATE 0, 2), (F.CFK_STATUS_LINK 0, 2)] with links := [(0, { driftSeen := true })] }, 0, by decide +kernel⟩,
     ⟨{ st [(F.CFP_STATUS_STATE 0, 2), (F.CFK_STATUS_LINK 0, 2)] with links := [(0, { acked := true })] }, 0, by decide +kernel⟩,
     ⟨{ st [(F.CFP_STATUS_STATE 0, 2), (F.CFK_STATUS_LINK 0, 2), (F.CFP_PM_HUSH_EN 0, 1)] with links := [(0, { acked := true })] }, 0,
       by decide +kernel⟩,
     ⟨{ st [(F.CFP_STATUS_STATE 0, 2), (F.CFK_STATUS_LINK 0, 2)] with links := [(0, { hush := 1 })] }, 0, by decide +kernel⟩,
     ⟨{ st [(F.CFP_STATUS_STATE 0, 2), (F.CFK_STATUS_LINK 0, 2), (F.PWM_CMD_STATUS_BUSY, 1), (F.PWM_CMD_STATUS_OP, 2)] with links := [(0, { hush := 1, doze := true })] },
       0, by decide +kernel⟩,
     ⟨{ st [(F.CFP_STATUS_STATE 0, 2), (F.CFK_STATUS_LINK 0, 2)] with links := [(0, { hush := 2 })] }, 0, by decide +kernel⟩,
     ⟨{ st [(F.CFP_STATUS_STATE 0, 3), (F.CFK_STATUS_LINK 0, 2)] with links := [(0, { ackDue := true })] }, 0, by decide +kernel⟩,
     ⟨{ st [(F.CFP_STATUS_STATE 0, 3), (F.CFK_STATUS_LINK 0, 2)] with links := [(0, { exiting := true })] }, 0, by decide +kernel⟩,
     ⟨{ st [(F.CFP_STATUS_STATE 0, 3), (F.CFK_STATUS_LINK 0, 2)] with links := [(0, { exiting := true, step := 4 })] }, 0, by decide +kernel⟩⟩

set_option maxRecDepth 100000 in
/-- The hypotheses of CalfosFramesAndLosses can be met. -/
theorem test_CalfosFramesAndLosses_hypotheses :
    (∃ (s : State) (f : Fin 8), s.wf = true ∧ cfpState s f = cfpActive ∧ bitF s (F.CFP_STATUS_TX_DRIFT f) = false) ∧
    (∃ (s : State) (f : Fin 8), s.wf = true ∧ inTraining s f = true ∧ (linkOf s f).lineUp = false) ∧
    (∃ (s : State) (f : Fin 8), s.wf = true ∧ cfpState s f = cfpActive ∧ (linkOf s f).ackDue = true) ∧
    (∃ (s : State) (f : Fin 8), s.wf = true ∧ cfpState s f = cfpActive ∧ linkUp s f = true ∧ (linkOf s f).replay ≠ []) ∧
    (∃ (s : State) (f : Fin 8) (k : Fin 16) (a : List Byte) (b : List Byte) (seq : Nat) (c : Nat), s.wf = true ∧ mwf (linkOf s f).classes = true ∧
      cfpState s f = cfpActive ∧ bitF s (F.CFP_STATUS_RX_DRIFT f) = false ∧ linkUp s f = true ∧ k.val = 0 ∧ flitOk a = true ∧ flitOk b = false ∧ bits
      (wordAt a 0) 62 2 = 1 ∧ bits (wordAt a 0) 59 3 = c ∧ c ≤ 5 ∧ bits (wordAt a 0) 47 12 = seq ∧ seq = (linkOf s f).expect ∧ tb (wordAt a 0) 34 =
      false ∧ tb (wordAt a 0) 33 = false ∧ bits (wordAt a 0) 30 3 = 6 ∧ (heldFlits s f c).length < getF s (F.CFK_CREDIT_ALLOT_RX f c) ∧ ((linkOf s
      f).cls c).part = none ∧ bits ((flitSlots a)[0]?.getD 0) 0 8 = 0) ∧
    (∃ (s : State) (f : Fin 8), s.wf = true ∧ cfpState s f = cfpActive ∧ bitF s (F.CFP_STATUS_RX_DRIFT f) = false ∧ linkUp s f = true ∧ (linkOf s
      f).badAt = []) ∧
    (∃ (s : State) (f : Fin 8), s.wf = true ∧ cfpState s f = cfpActive ∧ bitF s (F.CFP_STATUS_RX_DRIFT f) = false) ∧
    (∃ (s : State) (f : Fin 8), cfpState s f ≠ cfpActive ∧ (inTraining s f = false ∨ (linkOf s f).step ≠ 6 ∨ bitF s (F.CFP_STATUS_ALIGNED f) = false)) ∧
    (∃ (s : State) (f : Fin 8), s.wf = true ∧ cfpState s f = cfpRetraining ∧ getF s (F.CFP_STATUS_RATE f) < 2) ∧
    (∃ (s : State) (f : Fin 8), s.wf = true ∧ (cfpState s f = cfpActive ∨ cfpState s f = cfpRetraining ∨ (cfpState s f = cfpTraining ∧ 3 < (linkOf s
      f).step))) ∧
    (∃ (s : State) (f : Fin 8), getF s (F.CFK_STATUS_LINK f) = 1) :=
    ⟨⟨{ st [(F.CFP_STATUS_STATE 0, 2), (F.CFK_STATUS_LINK 0, 2)] with links := [(0, { acked := true })] }, 0, by decide +kernel⟩,
     ⟨{ st [(F.CFP_STATUS_STATE 0, 1)] with links := [(0, { step := 5, count := 0 })] }, 0, by decide +kernel⟩,
     ⟨{ st [(F.CFP_STATUS_STATE 0, 2), (F.CFK_STATUS_LINK 0, 2)] with links := [(0, { ackDue := true })] }, 0, by decide +kernel⟩,
     ⟨{ st [(F.CFP_STATUS_STATE 0, 2), (F.CFK_STATUS_LINK 0, 2)] with links := [(0, { acked := true, replay := [{ seq := 0, cls := 0, body := List.replicate 15 0 }], next := 1 })] },
       0, by decide +kernel⟩,
     ⟨{ st [(F.CFP_STATUS_STATE 0, 2), (F.CFK_STATUS_LINK 0, 2), (F.CFK_CREDIT_ALLOT_RX 0 0, 8)] with links := [(0, { acked := true })] }, 0, 0,
       (flitBytes (2 ^ 62 + 6 * 2 ^ 30) (List.replicate 15 0)), [], 0, 0, by decide +kernel⟩,
     ⟨{ st [(F.CFP_STATUS_STATE 0, 2), (F.CFK_STATUS_LINK 0, 2)] with links := [(0, { acked := true })] }, 0, by decide +kernel⟩,
     ⟨{ st [(F.CFP_STATUS_STATE 0, 2), (F.CFK_STATUS_LINK 0, 2)] with links := [(0, { acked := true })] }, 0, by decide +kernel⟩,
     ⟨{}, 0, by decide +kernel⟩,
     ⟨{ st [(F.CFP_STATUS_STATE 0, 4), (F.CFK_STATUS_LINK 0, 2), (F.CFP_STATUS_RATE 0, 1)] with links := [(0, { acked := true })] }, 0,
       by decide +kernel⟩,
     ⟨{ st [(F.CFP_STATUS_STATE 0, 2), (F.CFK_STATUS_LINK 0, 2)] with links := [(0, { acked := true })] }, 0, by decide +kernel⟩,
     ⟨(st [(F.CFK_STATUS_LINK 0, 1), (F.CFP_STATUS_STATE 0, 2)]), 0, by decide +kernel⟩⟩

/-- The hypotheses of ChainRollCalls can be met. -/
theorem test_ChainRollCalls_hypotheses :
    (∃ (s : State) (who : Party), s.wf = true ∧ regOpen s who A.CHN_CMD = true ∧ isHead s = true ∧ bitF s F.CHN_STATUS_BUSY = false) ∧
    (∃ (s : State) (who : Party), regOpen s who A.CHN_CMD = true ∧ isHead s = false) ∧
    (∃ (s : State) (who : Party), regOpen s who A.CHN_CMD = true ∧ bitF s F.CHN_STATUS_BUSY = true) ∧
    (∃ (s : State) (who : Party), regOpen s who A.CHN_CMD = false) ∧
    (∃ (s : State) (f : Fin 8) (flags : Byte) (pl : List Byte), isWest s f = true ∧ rollShape pl = true ∧ flags.toNat ≤ 1 ∧ isHead s = true) ∧
    (∃ (s : State) (f : Fin 8) (flags : Byte) (pl : List Byte), isWest s f = true ∧ rollShape pl = true ∧ flags.toNat ≤ 1 ∧ isHead s = false ∧ (bits
      (leNat pl) 12 4 ≠ rootDomain s ∨ bits (leNat pl) 8 4 ≠ rootSegment s)) ∧
    (∃ (s : State) (f : Fin 8) (flags : Byte) (pl : List Byte), isWest s f = true ∧ rollShape pl = true ∧ flags.toNat ≤ 1 ∧ isHead s = false ∧ bits
      (leNat pl) 12 4 = rootDomain s ∧ bits (leNat pl) 8 4 = rootSegment s ∧ bits (leNat pl) 0 6 = 63) ∧
    (∃ (s : State) (f : Fin 8) (id : Byte) (flags : Byte) (pl : List Byte), isWest s f = true ∧ rollShape pl = true ∧ flags.toNat ≤ 1 ∧ isHead s =
      false ∧ bits (leNat pl) 12 4 = rootDomain s ∧ bits (leNat pl) 8 4 = rootSegment s ∧ bits (leNat pl) 0 6 < 63 ∧ s.chain.taken = some id.toNat) ∧
    (∃ (s : State) (f : Fin 8) (id : Byte) (flags : Byte) (pl : List Byte), s.wf = true ∧ isWest s f = true ∧ eastPort s ≠ f ∧ inBand s f = false ∧
      rollShape pl = true ∧ flags.toNat ≤ 1 ∧ isHead s = false ∧ bits (leNat pl) 12 4 = rootDomain s ∧ bits (leNat pl) 8 4 = rootSegment s ∧ bits
      (leNat pl) 0 6 < 63 ∧ s.chain.taken ≠ some id.toNat) ∧
    (∃ (s : State) (f : Fin 8) (id : Byte) (flags : Byte), s.wf = true ∧ (∀ n < 8, (linkOf s n).waitRx = []) ∧ isEast s f = true ∧ rollShape
      (rollPayload s) = true ∧ s.chain.wait ≠ 0 ∧ id.toNat = getF s F.CHN_STATUS_ROLL_ID ∧ flags.toNat ≤ 15) ∧
    (∃ (s : State) (f : Fin 8) (id : Byte) (flags : Byte) (pl : List Byte), isEast s f = true ∧ rollShape pl = true ∧ flags.toNat ≤ 15 ∧ (s.chain.wait
      = 0 ∨ id.toNat ≠ getF s F.CHN_STATUS_ROLL_ID ∨ pl ≠ rollPayload s)) ∧
    (∃ (s : State), s.chain.wait ≠ 0 ∧ s.chain.wait < 4 ∧ bitF s F.CHN_CTRL_EAST_EN = true) ∧
    (∃ (s : State), s.wf = true ∧ (∀ n < 8, (linkOf s n).waitRx = []) ∧ 4 ≤ s.chain.wait) ∧
    (∃ (s : State), s.chain.wait = 0) ∧
    (∃ (s : State) (f : Fin 8) (id : Byte) (flags : Byte) (pl : List Byte), s.wf = true ∧ (∀ n < 8, (linkOf s n).waitRx = []) ∧ westPort s < 8 ∧
      isEast s f = true ∧ pl.length = 8 ∧ bits (leNat pl) 7 25 = 0 ∧ flags.toNat ≤ 3 ∧ s.chain.taken = some id.toNat ∧ (isHead s = true ∧
      s.chain.again = false ∨ isHead s = false)) ∧
    (∃ (s : State) (f : Fin 8) (id : Byte) (flags : Byte) (pl : List Byte), chainPort s f = true ∧ pl.length = 8 ∧ bits (leNat pl) 7 25 = 0 ∧
      flags.toNat ≤ 3 ∧ (isEast s f = false ∨ s.chain.taken ≠ some id.toNat)) ∧
    (∃ (s : State) (f : Fin 8) (id : Byte), isEast s f = true ∧ isHead s = true ∧ s.chain.taken = some id.toNat ∧ s.chain.reroll = false) ∧
    (∃ (s : State) (f : Fin 8), isEast s f = true ∧ isHead s = false ∧ bitF s F.CHN_CTRL_WEST_EN = true) ∧
    (∃ (s : State) (f : Fin 8) (id : Byte), chainPort s f = true ∧ (isEast s f = false ∨ (isHead s = true ∧ (s.chain.taken ≠ some id.toNat ∨
      s.chain.reroll = true)) ∨ (isHead s = false ∧ bitF s F.CHN_CTRL_WEST_EN = false))) ∧
    (∃ (s : State), s.wf = true ∧ isHead s = true ∧ getF s F.CHN_STATUS_ROLL_STATE = rsRolling) ∧
    (∃ (s : State), (isHead s = false ∨ getF s F.CHN_STATUS_ROLL_STATE ≠ rsRolling)) :=
    ⟨⟨(st [(F.PWM_GATE_RUN, 15), (F.PWM_STATUS_MODE, 3), (F.CHN_CTRL_HEAD, 1), (F.CHN_CTRL_EAST_EN, 1), (F.CHN_CTRL_EAST_PORT, 7)]), .gardener,
       by decide +kernel⟩,
     ⟨(st [(F.PWM_GATE_RUN, 15), (F.PWM_STATUS_MODE, 3), (F.CHN_CTRL_EAST_EN, 1), (F.CHN_CTRL_EAST_PORT, 7)]), .gardener, by decide +kernel⟩,
     ⟨(st [(F.PWM_GATE_RUN, 15), (F.PWM_STATUS_MODE, 3), (F.CHN_STATUS_BUSY, 1)]), .gardener, by decide +kernel⟩,
     ⟨(st [(F.HDG_STATUS_SAFE, 1)]), (.host 0), by decide +kernel⟩,
     ⟨(st [(F.CHN_CTRL_WEST_EN, 1), (F.CHN_CTRL_WEST_PORT, 0), (F.CHN_CTRL_HEAD, 1)]), 0, 0, (leBytes 8 (3 + 7 * 2 ^ 32)), by decide +kernel⟩,
     ⟨(st [(F.CHN_CTRL_WEST_EN, 1), (F.CHN_CTRL_WEST_PORT, 0), (F.CHN_CTRL_EAST_EN, 1), (F.CHN_CTRL_EAST_PORT, 7)]), 0, 0, (leBytes 8 (3 + 2 ^ 12)),
       by decide +kernel⟩,
     ⟨(st [(F.CHN_CTRL_WEST_EN, 1), (F.CHN_CTRL_WEST_PORT, 0), (F.CHN_CTRL_EAST_EN, 1), (F.CHN_CTRL_EAST_PORT, 7)]), 0, 0, (leBytes 8 63),
       by decide +kernel⟩,
     ⟨{ st [(F.CHN_CTRL_WEST_EN, 1), (F.CHN_CTRL_WEST_PORT, 0), (F.CHN_CTRL_EAST_EN, 1), (F.CHN_CTRL_EAST_PORT, 7)] with chain := { taken := some 9 } },
       0, 9, 0, (leBytes 8 3), by decide +kernel⟩,
     ⟨(st [(F.CHN_CTRL_WEST_EN, 1), (F.CHN_CTRL_WEST_PORT, 0), (F.CHN_CTRL_EAST_EN, 1), (F.CHN_CTRL_EAST_PORT, 7)]), 0, 9, 0, (leBytes 8 3),
       by decide +kernel⟩,
     ⟨{ st [(F.CHN_CTRL_EAST_EN, 1), (F.CHN_CTRL_EAST_PORT, 7), (F.CHN_CTRL_WEST_EN, 1), (F.CHN_CTRL_WEST_PORT, 0), (F.CHN_STATUS_ROLL_ID, 9), (F.CHN_STATUS_POSITION, 3)] with chain := { wait := 1 } },
       7, 9, 1, by decide +kernel⟩,
     ⟨(st [(F.CHN_CTRL_EAST_EN, 1), (F.CHN_CTRL_EAST_PORT, 7)]), 7, 0, 0, (leBytes 8 3), by decide +kernel⟩,
     ⟨{ st [(F.CHN_CTRL_EAST_EN, 1), (F.CHN_CTRL_EAST_PORT, 7), (F.CHN_STATUS_ROLL_ID, 9)] with chain := { wait := 1 } }, by decide +kernel⟩,
     ⟨{ st [(F.CHN_CTRL_EAST_EN, 1), (F.CHN_CTRL_EAST_PORT, 7), (F.CHN_CTRL_WEST_EN, 1), (F.CHN_CTRL_WEST_PORT, 0), (F.CHN_STATUS_ROLL_ID, 9)] with chain := { wait := 4 } },
       by decide +kernel⟩,
     ⟨{}, by decide +kernel⟩,
     ⟨{ st [(F.CHN_CTRL_EAST_EN, 1), (F.CHN_CTRL_EAST_PORT, 7), (F.CHN_CTRL_WEST_EN, 1), (F.CHN_CTRL_WEST_PORT, 0), (F.CHN_CTRL_HEAD, 1), (F.CHN_STATUS_ROLL_ID, 9), (F.CHN_STATUS_ROLL_STATE, 1)] with chain := { taken := some 9 } },
       7, 9, 1, (leBytes 8 3), by decide +kernel⟩,
     ⟨(st [(F.CHN_CTRL_WEST_EN, 1), (F.CHN_CTRL_WEST_PORT, 0)]), 0, 0, 0, (leBytes 8 3), by decide +kernel⟩,
     ⟨{ st [(F.CHN_CTRL_EAST_EN, 1), (F.CHN_CTRL_EAST_PORT, 7), (F.CHN_CTRL_HEAD, 1), (F.CHN_STATUS_ROLL_ID, 9), (F.CHN_STATUS_ROLL_STATE, 1)] with chain := { taken := some 9 } },
       7, 9, by decide +kernel⟩,
     ⟨(st [(F.CHN_CTRL_EAST_EN, 1), (F.CHN_CTRL_EAST_PORT, 7), (F.CHN_CTRL_WEST_EN, 1), (F.CHN_CTRL_WEST_PORT, 0)]), 7, by decide +kernel⟩,
     ⟨(st [(F.CHN_CTRL_WEST_EN, 1), (F.CHN_CTRL_WEST_PORT, 0)]), 0, 9, by decide +kernel⟩,
     ⟨(st [(F.CHN_CTRL_EAST_EN, 1), (F.CHN_CTRL_EAST_PORT, 7), (F.CHN_CTRL_HEAD, 1), (F.CHN_STATUS_ROLL_STATE, 1)]), by decide +kernel⟩,
     ⟨{}, by decide +kernel⟩⟩

/-- The hypotheses of ChainSegmentCommands can be met. -/
theorem test_ChainSegmentCommands_hypotheses :
    (∃ (s : State) (f : Fin 8), pwmMode s = moServe ∧ dozing s = false ∧ cfpState s f ≠ cfpHush) ∧
    (∃ (s : State) (f : Fin 8), cfpState s f ≠ cfpHush) ∧
    (∃ (s : State) (f : Fin 8), s.wf = true ∧ cfpState s f = cfpHush ∧ (linkOf s f).exiting = false ∧ pwmMode s = moServe ∧ dozing s = false) ∧
    (∃ (s : State) (f : Fin 8), pwmMode s = moDoze ∧ s.ctl.waking = false ∧ cfpState s f ≠ cfpHush ∧ otherChain s f = none) ∧
    (∃ (s : State) (who : Party), regOpen s who A.CHN_CMD = true ∧ bitF s F.CHN_STATUS_BUSY = false ∧ ((∀ o ∈ chainPorts s, inBand s o = false ∧
      cfpState s o ≠ cfpHush))) ∧
    (∃ (s : State) (f : Fin 8), chainPort s f = true ∧ bitF s F.CHN_CTRL_SEG_RESET_EN = false) ∧
    (∃ (s : State) (f : Fin 8) (id : Byte), chainPort s f = true ∧ bitF s F.CHN_CTRL_SEG_RESET_EN = true ∧ idSeen s s.chain.resets id.toNat = true) ∧
    (∃ (s : State) (f : Fin 8) (id : Byte), s.wf = true ∧ chainPort s f = true ∧ bitF s F.CHN_CTRL_SEG_RESET_EN = true ∧ idSeen s s.chain.resets
      id.toNat = false ∧ (∀ o ∈ otherChain s f, inBand s o = false)) ∧
    (∃ (s : State) (who : Party), s.wf = true ∧ regOpen s who A.CHN_CMD = true ∧ bitF s F.CHN_STATUS_BUSY = false ∧ (∀ o ∈ chainPorts s, inBand s o =
      false)) :=
    ⟨⟨(st [(F.PWM_STATUS_MODE, 3), (F.CHN_CTRL_WEST_EN, 1), (F.CHN_CTRL_WEST_PORT, 0), (F.CHN_CTRL_EAST_EN, 1), (F.CHN_CTRL_EAST_PORT, 7)]), 0,
       by decide +kernel⟩,
     ⟨{}, 0, by decide +kernel⟩,
     ⟨(st [(F.PWM_STATUS_MODE, 3), (F.CFP_STATUS_STATE 0, 3)]), 0, by decide +kernel⟩,
     ⟨(st [(F.PWM_STATUS_MODE, 4)]), 0, by decide +kernel⟩,
     ⟨(st [(F.PWM_GATE_RUN, 15), (F.PWM_STATUS_MODE, 3), (F.CHN_CTRL_WEST_EN, 1), (F.CHN_CTRL_WEST_PORT, 0), (F.CHN_CTRL_EAST_EN, 1),
       (F.CHN_CTRL_EAST_PORT, 7)]), .gardener, by decide +kernel⟩,
     ⟨(st [(F.CHN_CTRL_WEST_EN, 1), (F.CHN_CTRL_WEST_PORT, 0), (F.CHN_CTRL_SEG_RESET_EN, 0)]), 0, by decide +kernel⟩,
     ⟨{ st [(F.CHN_CTRL_WEST_EN, 1), (F.CHN_CTRL_WEST_PORT, 0), (F.CHN_CTRL_SEG_RESET_EN, 1)] with chain := { resets := [(9, 0)] } }, 0, 9,
       by decide +kernel⟩,
     ⟨{ st [(F.CHN_CTRL_WEST_EN, 1), (F.CHN_CTRL_WEST_PORT, 0), (F.CHN_CTRL_EAST_EN, 1), (F.CHN_CTRL_EAST_PORT, 7), (F.CHN_CTRL_SEG_RESET_EN, 1), (F.PWM_STATUS_MODE, 3)] with ctl := { step := 11 } },
       0, 9, by decide +kernel⟩,
     ⟨{ st [(F.PWM_GATE_RUN, 15), (F.PWM_STATUS_MODE, 3), (F.CHN_CTRL_WEST_EN, 1), (F.CHN_CTRL_WEST_PORT, 0), (F.CHN_CTRL_EAST_EN, 1), (F.CHN_CTRL_EAST_PORT, 7)] with ctl := { step := 11 } },
       .gardener, by decide +kernel⟩⟩

/-- The hypotheses of MailboxSlotsAndQueue can be met. -/
theorem test_MailboxSlotsAndQueue_hypotheses :
    (∃ (s : State) (p : Fin 4096), pageDead s p = false) ∧
    (∃ (s : State) (p : Fin 4096) (i : Fin 16), pageDead s p = false ∧ bitOf (mbxOwn s p) i = true) ∧
    (∃ (s : State), s.wf = true) ∧
    (∃ (s : State) (p : Fin 4096) (gdn : Bool) (off : Fin 4096) (data : List Byte), s.wf = true ∧ (if gdn then coreShape off data.length = true else
      pageDead s p = false) ∧ off.val + data.length ≤ 4096) ∧
    (∃ (s : State) (p : Fin 4096), s.wf = true ∧ pageDead s p = false) ∧
    (∃ (s : State) (p : Fin 4096), pageDead s p = true) ∧
    (∃ (off : Fin 4096) (data : List Byte), coreShape off data.length = false) ∧
    (∃ (s : State) (v : Word) (x : MqEntry) (xs : List MqEntry), s.mq = x :: xs ∧ bitOf v.toNat 16 = true) ∧
    (∃ (s : State) (v : Word) (x : MqEntry) (xs : List MqEntry), s.mq = x :: xs ∧ bitOf v.toNat 16 = false ∧ x.req.op = .message) ∧
    (∃ (s : State), s.mq = []) ∧
    (∃ (s : State) (v : Word) (x : MqEntry) (xs : List MqEntry), s.mq = x :: xs ∧ bitOf v.toNat 16 = false ∧ x.req.op = .mgmtRead ∧ x.req.len = 8 ∧
      x.half = none ∧ bits v.toNat 8 8 = 0xFF) ∧
    (∃ (s : State) (v : Word) (x : MqEntry) (xs : List MqEntry), s.mq = x :: xs ∧ bitOf v.toNat 16 = false ∧ x.req.op = .mgmtRead ∧ (x.req.len = 4 ∨
      bits v.toNat 8 8 ≠ 0xFF)) ∧
    (∃ (s : State) (v : Word) (x : MqEntry) (xs : List MqEntry), s.mq = x :: xs ∧ bitOf v.toNat 16 = false ∧ x.req.op ∈ [FabOp.mgmtWrite, .write,
      .hold, .release]) ∧
    (∃ (s : State) (x : MqEntry) (xs : List MqEntry), s.mq = x :: xs ∧ x.arrived + 900 ≤ s.ticks) ∧
    (∃ (s : State) (x : MqEntry) (xs : List MqEntry), s.mq = x :: xs ∧ s.ticks < x.arrived + 900) :=
    ⟨⟨(st [(F.PE_STATUS_STATE 0, 2)]), 0, by decide +kernel⟩,
     ⟨(st [(F.PE_STATUS_STATE 0, 2), (F.MBX_PEND_OWN 0, 1)]), 0, 0, by decide +kernel⟩,
     ⟨(st [(F.PE_STATUS_STATE 0, 2), (F.MBX_PEND_OWN 0, 1)]), by decide +kernel⟩,
     ⟨(st [(F.PE_STATUS_STATE 0, 2)]), 0, false, 0, [1, 2, 3, 4, 5, 6, 7, 8], by decide +kernel⟩,
     ⟨(st [(F.PE_STATUS_STATE 0, 2)]), 0, by decide +kernel⟩,
     ⟨(st [(F.PE_STATUS_STATE 0, 0)]), 0, by decide +kernel⟩,
     ⟨0, [], by decide +kernel⟩,
     ⟨{ mq := [{ req := { op := .mgmtRead, dest := 0, src := 66, tenant := 0, tag := 7, addr := 0, len := 8, mgmt := true }, arrived := 0 }] }, (2 ^
       16), { req := { op := .mgmtRead, dest := 0, src := 66, tenant := 0, tag := 7, addr := 0, len := 8, mgmt := true }, arrived := 0 }, [],
       by decide +kernel⟩,
     ⟨{ mq := [{ req := { op := .message, dest := 0, src := 66, tenant := 0, tag := 7, addr := 0, len := 8, mgmt := true }, arrived := 0 }] }, 0,
       { req := { op := .message, dest := 0, src := 66, tenant := 0, tag := 7, addr := 0, len := 8, mgmt := true }, arrived := 0 }, [],
       by decide +kernel⟩,
     ⟨{ mq := [] }, by decide +kernel⟩,
     ⟨{ mq := [{ req := { op := .mgmtRead, dest := 0, src := 66, tenant := 0, tag := 7, addr := 0, len := 8, mgmt := true }, arrived := 0 }] },
       0xFF00, { req := { op := .mgmtRead, dest := 0, src := 66, tenant := 0, tag := 7, addr := 0, len := 8, mgmt := true }, arrived := 0 }, [],
       by decide +kernel⟩,
     ⟨{ st [(F.GLB_NODE_VALID, 1), (F.TRL_CTRL_EN, 1), (F.TRL_CTRL_READY, 1), (F.CFP_STATUS_STATE 0, 2), (F.CFK_STATUS_LINK 0, 2), (F.PE_STATUS_STATE 0, 2)] with mq := [{ req := { op := .mgmtRead, dest := 0, src := 66, tenant := 0, tag := 7, addr := 0, len := 8, mgmt := true }, arrived := 0 }], trl := { table := row 1 (66 * 2 ^ 16) (2 ^ 20) } },
       (2 ^ 33), { req := { op := .mgmtRead, dest := 0, src := 66, tenant := 0, tag := 7, addr := 0, len := 8, mgmt := true }, arrived := 0 }, [],
       by decide +kernel⟩,
     ⟨{ st [(F.GLB_NODE_VALID, 1), (F.TRL_CTRL_EN, 1), (F.TRL_CTRL_READY, 1), (F.CFP_STATUS_STATE 0, 2), (F.CFK_STATUS_LINK 0, 2), (F.PE_STATUS_STATE 0, 2)] with mq := [{ req := { op := .mgmtWrite, dest := 0, src := 66, tenant := 0, tag := 7, addr := 0, len := 8, mgmt := true }, arrived := 0 }], trl := { table := row 1 (66 * 2 ^ 16) (2 ^ 20) } },
       0, { req := { op := .mgmtWrite, dest := 0, src := 66, tenant := 0, tag := 7, addr := 0, len := 8, mgmt := true }, arrived := 0 }, [],
       by decide +kernel⟩,
     ⟨{ st [(F.GLB_NODE_VALID, 1), (F.TRL_CTRL_EN, 1), (F.TRL_CTRL_READY, 1), (F.CFP_STATUS_STATE 0, 2), (F.CFK_STATUS_LINK 0, 2), (F.PE_STATUS_STATE 0, 2)] with mq := [{ req := { op := .mgmtRead, dest := 0, src := 66, tenant := 0, tag := 7, addr := 0, len := 8, mgmt := true }, arrived := 0 }], ticks := 900, trl := { table := row 1 (66 * 2 ^ 16) (2 ^ 20) } },
       { req := { op := .mgmtRead, dest := 0, src := 66, tenant := 0, tag := 7, addr := 0, len := 8, mgmt := true }, arrived := 0 }, [],
       by decide +kernel⟩,
     ⟨{ mq := [{ req := { op := .mgmtRead, dest := 0, src := 66, tenant := 0, tag := 7, addr := 0, len := 8, mgmt := true }, arrived := 0 }], ticks := 899 },
       { req := { op := .mgmtRead, dest := 0, src := 66, tenant := 0, tag := 7, addr := 0, len := 8, mgmt := true }, arrived := 0 }, [],
       by decide +kernel⟩⟩

/-- The hypotheses of GardenerBootAndEngines can be met. -/
theorem test_GardenerBootAndEngines_hypotheses :
    (∃ (s : State) (im : Image), s.wf = true ∧ s.ctl.step = 11 ∧ getF s F.GDN_BOOT_RESULT = 0 ∧ imageOk s im = true) ∧
    (∃ (s : State) (x : Image) (y : Image) (p : Nat) (q : Nat), p = (if x.version.toNat < y.version.toNat then 1 else 0) ∧ q = (if tryPasses s p then
      1 - p else p) ∧ s.wf = true ∧ s.ctl.step = 11 ∧ getF s F.GDN_BOOT_RESULT = 0 ∧ imageOk s x = true ∧ imageOk s y = true) ∧
    (∃ (s : State) (x : Option Image) (y : Option Image), s.ctl.step = 11 ∧ getF s F.GDN_BOOT_RESULT = 0 ∧ x.all (fun i => !headerOk s i) = true ∧
      y.all (fun i => !headerOk s i) = true) ∧
    (∃ (s : State), (s.ctl.step ≠ 11 ∨ getF s F.GDN_BOOT_RESULT ≠ 0)) ∧
    (∃ (s : State), getF s F.GDN_BOOT_RESULT = 1) ∧
    (∃ (s : State), getF s F.GDN_BOOT_RESULT ≠ 1) ∧
    (∃ (s : State) (im : Image), bitF s F.HDG_STATUS_SAFE = true ∧ getF s F.GDN_BOOT_RESULT = 3 ∧ imageOk s im = true) ∧
    (∃ (s : State) (im : Image), bitF s F.HDG_STATUS_SAFE = true ∧ getF s F.GDN_BOOT_RESULT = 2 ∧ getF s F.HDG_STATUS_CAUSE = 0 ∧ imageOk s im = true
      ∧ s.root.queue = []) ∧
    (∃ (s : State) (im : Image), (bitF s F.HDG_STATUS_SAFE = false ∨ getF s F.GDN_BOOT_RESULT < 2 ∨ imageOk s im = false)) ∧
    (∃ (s : State) (c : Fin 4) (k : Fin 8) (off : BitVec 28) (n : Fin 9) (d : Option Word), apertureLive s c = none ∧ bitF s (F.GDN_FAP_EN k) = true ∧
      getF s (F.GDN_FAP_KIND k) ≤ 1 ∧ apertureShape (getF s (F.GDN_FAP_KIND k)) off.toNat n = true ∧ getF s (F.GDN_FAP_NODE k) ≠ myNode s 0 ∧ ((getF s
      (F.GDN_FAP_KIND k) = 1 → apertureFence s (getF s (F.GDN_FAP_NODE k)) (getF s (F.GDN_FAP_BASE k) * 2 ^ 28 + off.toNat) n d.isSome = true ∧
      apertureCap s = true)) ∧ (routeOf s (getF s (F.GDN_FAP_NODE k)) (myNode s 0) none).2.pga ≠ 20) ∧
    (∃ (s : State) (c : Fin 4), (apertureLive s c).isSome = true) ∧
    (∃ (s : State) (c : Fin 4) (k : Fin 8) (off : BitVec 28) (n : Fin 9) (why : Nat) (st : Nat), apertureLive s c = none ∧ ((if bitF s (F.GDN_FAP_EN
      k) = false ∨ 1 < getF s (F.GDN_FAP_KIND k) then (why, st) = (faDisabled, 0) else if apertureShape (getF s (F.GDN_FAP_KIND k)) off.toNat n =
      false then (why, st) = (faAlign, 0) else if getF s (F.GDN_FAP_NODE k) = myNode s 0 then (why, st) = (faSelf, 0) else getF s (F.GDN_FAP_KIND k) =
      0 ∧ why = faStatus ∧ (routeOf s (getF s (F.GDN_FAP_NODE k)) (myNode s 0) none).2 = .fail st))) ∧
    (∃ (s : State) (c : Fin 4) (k : Fin 8) (off : BitVec 28) (n : Fin 9) (d : Option Word), apertureLive s c = none ∧ bitF s (F.GDN_FAP_EN k) = true ∧
      getF s (F.GDN_FAP_KIND k) = 1 ∧ apertureShape 1 off.toNat n = true ∧ getF s (F.GDN_FAP_NODE k) ≠ myNode s 0 ∧ apertureFence s (getF s
      (F.GDN_FAP_NODE k)) (getF s (F.GDN_FAP_BASE k) * 2 ^ 28 + off.toNat) n d.isSome = false) ∧
    (∃ (s : State) (c : Fin 4) (tag : Nat) (k : Nat) (off : Nat) (op : FabOp) (n : Nat), apertureLive s c = some (tag, .aperture c k off false op n)) ∧
    (∃ (s : State) (c : Fin 4), apertureLive s c = none) ∧
    (∃ (s : State), bitF s F.XSP_STATUS_BUSY = false) ∧
    (∃ (s : State), bitF s F.XSP_STATUS_BUSY = true) ∧
    (∃ (s : State), s.wf = true ∧ bitF s F.XSP_STATUS_BUSY = true) ∧
    (∃ (s : State), bitF s F.XSP_STATUS_BUSY = false) ∧
    (∃ (s : State) (d : List Byte), s.wf = true ∧ getF s F.I3C_STATUS_DYN_ADDR ≠ 0 ∧ bitF s F.I3C_STATUS_RX_READY = false ∧ 1 ≤ d.length ∧ d.length ≤
      256) ∧
    (∃ (s : State) (d : List Byte), (getF s F.I3C_STATUS_DYN_ADDR = 0 ∨ bitF s F.I3C_STATUS_RX_READY = true ∨ d = [] ∨ 256 < d.length)) ∧
    (∃ (s : State), bitF s F.I3C_STATUS_IBI = true ∧ getF s F.I3C_STATUS_DYN_ADDR ≠ 0) ∧
    (∃ (s : State), (bitF s F.I3C_STATUS_IBI = false ∨ getF s F.I3C_STATUS_DYN_ADDR = 0)) :=
    ⟨⟨{ st [(F.GDN_BOOT_RESULT, 0)] with root := { words := [(6160, 1), (6161, 2), (6162, 3), (6163, 4), (6164, 5), (6165, 6)] }, ctl := { step := 11 } },
       { magic := 0x147444E31, version := 1, len := 8, load := 0x10000000, entry := 0x10000000, keyIndex := 0, keyHash := [1, 2, 3, 4, 5, 6], body := [1, 2, 3, 4, 5, 6, 7, 8] },
       by decide +kernel⟩,
     ⟨{ st [(F.GDN_BOOT_RESULT, 0)] with root := { words := [(6160, 1), (6161, 2), (6162, 3), (6163, 4), (6164, 5), (6165, 6)] }, ctl := { step := 11 } },
       { magic := 0x147444E31, version := 1, len := 8, load := 0x10000000, entry := 0x10000000, keyIndex := 0, keyHash := [1, 2, 3, 4, 5, 6], body := [1, 2, 3, 4, 5, 6, 7, 8] },
       { magic := 0x147444E31, version := 2, len := 8, load := 0x10000000, entry := 0x10000000, keyIndex := 0, keyHash := [1, 2, 3, 4, 5, 6], body := [9, 2, 3, 4, 5, 6, 7, 8] },
       1, 1, by decide +kernel⟩,
     ⟨{ st [(F.GDN_BOOT_RESULT, 0)] with ctl := { step := 11 } }, (some
       { magic := 0x147444E31, version := 1, len := 8, load := 0x10000000, entry := 0x10000000, keyIndex := 0, keyHash := [1, 2, 3, 4, 5, 6], body := [1, 2, 3, 4, 5, 6, 7, 8] }),
       none, by decide +kernel⟩,
     ⟨(st [(F.GDN_BOOT_RESULT, 1)]), by decide +kernel⟩,
     ⟨(st [(F.GDN_BOOT_RESULT, 1)]), by decide +kernel⟩,
     ⟨(st [(F.GDN_BOOT_RESULT, 2)]), by decide +kernel⟩,
     ⟨{ st [(F.HDG_STATUS_SAFE, 1), (F.GDN_BOOT_RESULT, 3), (F.PWM_STATUS_MODE, 5)] with root := { words := [(6160, 1), (6161, 2), (6162, 3), (6163, 4), (6164, 5), (6165, 6)] } },
       { magic := 0x147444E31, version := 1, len := 8, load := 0x10000000, entry := 0x10000000, keyIndex := 0, keyHash := [1, 2, 3, 4, 5, 6], body := [1, 2, 3, 4, 5, 6, 7, 8] },
       by decide +kernel⟩,
     ⟨{ st [(F.HDG_STATUS_SAFE, 1), (F.GDN_BOOT_RESULT, 2), (F.HDG_STATUS_CAUSE, 0), (F.PWM_STATUS_MODE, 5)] with root := { words := [(6160, 1), (6161, 2), (6162, 3), (6163, 4), (6164, 5), (6165, 6)] } },
       { magic := 0x147444E31, version := 1, len := 8, load := 0x10000000, entry := 0x10000000, keyIndex := 0, keyHash := [1, 2, 3, 4, 5, 6], body := [1, 2, 3, 4, 5, 6, 7, 8] },
       by decide +kernel⟩,
     ⟨{},
       { magic := 0x147444E31, version := 1, len := 8, load := 0x10000000, entry := 0x10000000, keyIndex := 0, keyHash := [1, 2, 3, 4, 5, 6], body := [1, 2, 3, 4, 5, 6, 7, 8] },
       by decide +kernel⟩,
     ⟨{ st [(F.GLB_NODE_VALID, 1), (F.TRL_CTRL_EN, 1), (F.TRL_CTRL_READY, 1), (F.CFP_STATUS_STATE 0, 2), (F.CFK_STATUS_LINK 0, 2), (F.GDN_FAP_EN 0, 1), (F.GDN_FAP_NODE 0, 66), (F.PE_STATUS_STATE 0, 2)] with trl := { table := row 1 (66 * 2 ^ 16) (2 ^ 20) } },
       0, 0, 16, 8, none, by decide +kernel⟩,
     ⟨{ st [(F.GDN_FAP_EN 0, 1), (F.GDN_FAP_NODE 0, 66)] with unit0 := [(3, .aperture 0 0 16 false .read 8)] }, 0, by decide +kernel⟩,
     ⟨(st [(F.GDN_FAP_EN 0, 0)]), 0, 0, 0, 0, faDisabled, 0, by decide +kernel⟩,
     ⟨(st [(F.GDN_FAP_EN 0, 1), (F.GDN_FAP_NODE 0, 66), (F.GDN_FAP_KIND 0, 1)]), 0, 0, 16, 8, none, by decide +kernel⟩,
     ⟨{ st [(F.GDN_FAP_EN 0, 1), (F.GDN_FAP_NODE 0, 66)] with unit0 := [(3, .aperture 0 0 16 false .read 8)] }, 0, 3, 0, 16, .read, 8,
       by decide +kernel⟩,
     ⟨{ unit0 := [(3, .aperture 0 0 16 true .read 8)] }, 0, by decide +kernel⟩,
     ⟨{}, by decide +kernel⟩,
     ⟨(st [(F.XSP_STATUS_BUSY, 1)]), by decide +kernel⟩,
     ⟨(st [(F.XSP_STATUS_BUSY, 1)]), by decide +kernel⟩,
     ⟨{}, by decide +kernel⟩,
     ⟨(st [(F.I3C_STATUS_DYN_ADDR, 9)]), [1, 2, 3, 4, 5, 6, 7, 8], by decide +kernel⟩,
     ⟨{}, [], by decide +kernel⟩,
     ⟨(st [(F.I3C_STATUS_DYN_ADDR, 9), (F.I3C_STATUS_IBI, 1)]), by decide +kernel⟩,
     ⟨{}, by decide +kernel⟩⟩

/-- The hypotheses of FirmwareAnswers can be met. -/
theorem test_FirmwareAnswers_hypotheses :
    (∃ (s : State), s.wf = true) ∧
    (∃ (s : State) (p : Fin 4096) (i : Fin 16), s.wf = true ∧ FwTakes s p i 2 .any) ∧
    (∃ (s : State) (p : Fin 4096) (i : Fin 16), s.wf = true ∧ FwTakes s p i 0x11 .any) ∧
    (∃ (s : State) (p : Fin 4096) (i : Fin 16), FwTakes s p i 3 .any) ∧
    (∃ (s : State) (p : Fin 4096) (i : Fin 16), s.wf = true ∧ FwTakes s p i 0x10 .any) ∧
    (∃ (s : State) (p : Fin 4096) (i : Fin 16), s.wf = true ∧ FwTakes s p i 0x10 .any ∧ 64 ≤ slotLen s p i ∧ fwJob s p i = false ∧ fwOther s
      (quadrantOf p) 0x10 = false ∧ bitF s (F.GRF_WIN_STATUS_BUSY (quadrantOf p)) = false) ∧
    (∃ (s : State) (p : Fin 4096) (i : Fin 16) (op : Fin 16), s.wf = true ∧ FwTakes s p i 0x20 .pf0 ∧ fwJob s p i = false ∧ fwOther s (quadrantOf p)
      0x20 = false ∧ bitF s (F.PLT_CMD_STATUS_BUSY (quadrantOf p)) = false ∧ (op.val = 1 ∨ op.val = 3 ∨ op.val = 4)) ∧
    (∃ (s : State) (p : Fin 4096) (i : Fin 16) (op : Fin 16), s.wf = true ∧ FwTakes s p i 0x20 .pf0 ∧ op.val ≠ 1 ∧ op.val ≠ 3 ∧ op.val ≠ 4) ∧
    (∃ (s : State) (p : Fin 4096) (i : Fin 16), FwTakes s p i 0x41 .manager ∧ fwJob s p i = false ∧ bitF s F.ROOT_RESULT_BUSY = false) ∧
    (∃ (s : State) (p : Fin 4096) (i : Fin 16), FwTakes s p i 0x42 .manager ∧ fwJob s p i = false ∧ bitF s F.ROOT_RESULT_BUSY = false) ∧
    (∃ (s : State) (p : Fin 4096) (i : Fin 16), s.wf = true ∧ fwJob s p i = true) ∧
    (∃ (s : State) (p : Fin 4096) (i : Fin 16), s.wf = true ∧ FwTakes s p i 0x30 .manager) ∧
    (∃ (s : State) (p : Fin 4096) (i : Fin 16), s.wf = true ∧ FwTakes s p i 0x31 .manager) ∧
    (∃ (s : State) (p : Fin 4096) (i : Fin 16), s.wf = true ∧ FwTakes s p i 0x32 .manager) ∧
    (∃ (s : State) (p : Fin 4096) (i : Fin 16), s.wf = true ∧ FwTakes s p i 0x33 .manager) ∧
    (∃ (s : State) (p : Fin 4096) (i : Fin 16), s.wf = true ∧ FwTakes s p i 0x40 .manager ∧ fwJob s p i = false) ∧
    (∃ (s : State) (p : Fin 4096) (i : Fin 16), s.wf = true ∧ FwTakes s p i 0x40 .manager ∧ fwJob s p i = true) :=
    ⟨⟨(memWrite (st [(F.GDN_BOOT_RESULT, 1), (F.MBX_PEND_OWN 0, 1), (F.PE_STATUS_STATE 0, 2)] : State) (slotAddr 0 0) [1, 0, 0, 0, 0]),
       by decide +kernel⟩,
     ⟨(memWrite (st [(F.GDN_BOOT_RESULT, 1), (F.MBX_PEND_OWN 0, 1), (F.PE_STATUS_STATE 0, 2)] : State) (slotAddr 0 0) [2, 0, 0, 0, 0]), 0, 0,
       by decide +kernel, by unfold FwTakes; decide +kernel⟩,
     ⟨(memWrite (st [(F.GDN_BOOT_RESULT, 1), (F.MBX_PEND_OWN 0, 1), (F.PE_STATUS_STATE 0, 2)] : State) (slotAddr 0 0) [17, 0, 0, 0, 0]), 0, 0,
       by decide +kernel, by unfold FwTakes; decide +kernel⟩,
     ⟨(memWrite (st [(F.GDN_BOOT_RESULT, 1), (F.MBX_PEND_OWN 0, 1), (F.PE_STATUS_STATE 0, 2)] : State) (slotAddr 0 0) [3, 0, 0, 0, 0]), 0, 0,
       by unfold FwTakes; decide +kernel⟩,
     ⟨(memWrite (st [(F.GDN_BOOT_RESULT, 1), (F.MBX_PEND_OWN 0, 1), (F.PE_STATUS_STATE 0, 2)] : State) (slotAddr 0 0) [16, 0, 0, 0, 64]), 0, 0,
       by decide +kernel, by unfold FwTakes; decide +kernel⟩,
     ⟨(memWrite (st [(F.GDN_BOOT_RESULT, 1), (F.MBX_PEND_OWN 0, 1), (F.PE_STATUS_STATE 0, 2)] : State) (slotAddr 0 0) [16, 0, 0, 0, 64]), 0, 0,
       by decide +kernel, by unfold FwTakes; decide +kernel, by decide +kernel, by decide +kernel, by decide +kernel, by decide +kernel⟩,
     ⟨(memWrite (st [(F.GDN_BOOT_RESULT, 1), (F.MBX_PEND_OWN 0, 1), (F.PE_STATUS_STATE 0, 2)] : State) (slotAddr 0 0) [32, 0, 0, 0, 0]), 0, 0, 1,
       by decide +kernel, by unfold FwTakes; decide +kernel, by decide +kernel, by decide +kernel, by decide +kernel, by decide +kernel⟩,
     ⟨(memWrite (st [(F.GDN_BOOT_RESULT, 1), (F.MBX_PEND_OWN 0, 1), (F.PE_STATUS_STATE 0, 2)] : State) (slotAddr 0 0) [32, 0, 0, 0, 0]), 0, 0, 2,
       by decide +kernel, by unfold FwTakes; decide +kernel, by decide +kernel, by decide +kernel, by decide +kernel⟩,
     ⟨(memWrite (st [(F.GDN_BOOT_RESULT, 1), (F.MBX_PEND_OWN 0, 1), (F.PE_STATUS_STATE 0, 2), (F.PE_CAPS_MGMT_EN 0, 1)] : State) (slotAddr 0 0) [65,
       0, 0, 0, 0]), 0, 0, by unfold FwTakes; decide +kernel, by decide +kernel, by decide +kernel⟩,
     ⟨(memWrite (st [(F.GDN_BOOT_RESULT, 1), (F.MBX_PEND_OWN 0, 1), (F.PE_STATUS_STATE 0, 2), (F.PE_CAPS_MGMT_EN 0, 1)] : State) (slotAddr 0 0) [66,
       0, 0, 0, 0]), 0, 0, by unfold FwTakes; decide +kernel, by decide +kernel, by decide +kernel⟩,
     ⟨(memWrite ({ st [(F.GDN_BOOT_RESULT, 1), (F.MBX_PEND_OWN 0, 1), (F.PE_STATUS_STATE 0, 2)] with fw := { jobs := [(0, 0x20)] } } : State)
       (slotAddr 0 0) [32, 0, 0, 0, 0]), 0, 0, by decide +kernel⟩,
     ⟨(memWrite (st [(F.GDN_BOOT_RESULT, 1), (F.MBX_PEND_OWN 0, 1), (F.PE_STATUS_STATE 0, 2), (F.PE_CAPS_MGMT_EN 0, 1)] : State) (slotAddr 0 0) [48,
       0, 0, 0, 0]), 0, 0, by decide +kernel, by unfold FwTakes; decide +kernel⟩,
     ⟨(memWrite
       ({ st [(F.GDN_BOOT_RESULT, 1), (F.MBX_PEND_OWN 0, 1), (F.PE_STATUS_STATE 0, 2), (F.PE_CAPS_MGMT_EN 0, 1)] with fw := { writing := some 1 } } :
       State) (slotAddr 0 0) [49, 0, 0, 0, 0]), 0, 0, by decide +kernel, by unfold FwTakes; decide +kernel⟩,
     ⟨(memWrite
       ({ st [(F.GDN_BOOT_RESULT, 1), (F.MBX_PEND_OWN 0, 1), (F.PE_STATUS_STATE 0, 2), (F.PE_CAPS_MGMT_EN 0, 1)] with fw := { writing := some 1 }, root := { words := [(6160, 1), (6161, 2), (6162, 3), (6163, 4), (6164, 5), (6165, 6)] } }
       : State) (slotAddr 0 0) [50, 0, 0, 0, 0]), 0, 0, by decide +kernel, by unfold FwTakes; decide +kernel⟩,
     ⟨(memWrite (st [(F.GDN_BOOT_RESULT, 1), (F.MBX_PEND_OWN 0, 1), (F.PE_STATUS_STATE 0, 2), (F.PE_CAPS_MGMT_EN 0, 1)] : State) (slotAddr 0 0) [51,
       0, 0, 0, 0]), 0, 0, by decide +kernel, by unfold FwTakes; decide +kernel⟩,
     ⟨(memWrite (st [(F.GDN_BOOT_RESULT, 1), (F.MBX_PEND_OWN 0, 1), (F.PE_STATUS_STATE 0, 2), (F.PE_CAPS_MGMT_EN 0, 1)] : State) (slotAddr 0 0) [64,
       0, 0, 0, 0]), 0, 0, by decide +kernel, by unfold FwTakes; decide +kernel, by decide +kernel⟩,
     ⟨(memWrite
       ({ st [(F.GDN_BOOT_RESULT, 1), (F.MBX_PEND_OWN 0, 1), (F.PE_STATUS_STATE 0, 2), (F.PE_CAPS_MGMT_EN 0, 1)] with fw := { jobs := [(0, 0x40)] } }
       : State) (slotAddr 0 0) [64, 0, 0, 0, 0]), 0, 0, by decide +kernel, by unfold FwTakes; decide +kernel, by decide +kernel⟩⟩

/-- The hypotheses of HedgeSessionCommands can be met. -/
theorem test_HedgeSessionCommands_hypotheses :
    (∃ (s : State) (who : Party) (hash : List Word), s.wf = true ∧ spdmOpen s who = true ∧ (keyMatches s 6184 hash = true ∨ keyMatches s 6190 hash =
      true)) ∧
    (∃ (s : State) (who : Party) (slot : Byte) (both : Bool) (ver : Bool) (hash : List Word), s.wf = true ∧ spdmOpen s who = true ∧ (slot ≠ 1 ∨ both =
      false ∨ ver = false ∨ (keyMatches s 6184 hash = false ∧ keyMatches s 6190 hash = false))) ∧
    (∃ (s : State) (who : Party), s.wf = true ∧ SessionOpen s who) ∧
    (∃ (s : State) (who : Party) (sec : Bool), s.wf = true ∧ spdmOpen s who = true ∧ (sec = false ∨ bitF s F.HDG_STATUS_SESSION = false)) ∧
    (∃ (s : State) (who : Party), (spdmOpen s who = false ∨ bitF s F.HDG_STATUS_SESSION = false)) ∧
    (∃ (s : State) (who : Party), spdmOpen s who = false) ∧
    (∃ (s : State), bitF s F.HDG_STATUS_SESSION = true ∧ s.hdg.sess + 60000000 ≤ s.ticks) ∧
    (∃ (s : State), (bitF s F.HDG_STATUS_SESSION = false ∨ s.ticks < s.hdg.sess + 60000000)) ∧
    (∃ (s : State) (who : Party) (p : Fin 4096) (es : List Slot), s.wf = true ∧ mwf s.hdg.fence = true ∧ SessionOpen s who ∧ es.length ≤ 256 ∧ (∀ e ∈
      es, fenceMalformed e false = false) ∧ poolUsed s.hdg.fence - (mget s.hdg.fence p []).length + es.length ≤ 8192) ∧
    (∃ (s : State) (who : Party) (es : List Slot), s.wf = true ∧ SessionOpen s who ∧ (256 < es.length ∨ (∃ e ∈ es, fenceMalformed e false = true))) ∧
    (∃ (s : State) (who : Party) (p : Fin 4096) (es : List Slot), s.wf = true ∧ SessionOpen s who ∧ es.length ≤ 256 ∧ (∀ e ∈ es, fenceMalformed e
      false = false) ∧ 8192 < poolUsed s.hdg.fence - (mget s.hdg.fence p []).length + es.length) ∧
    (∃ (s : State) (who : Party) (n : BitVec 20) (es : List Slot), s.wf = true ∧ mwf s.hdg.side = true ∧ SessionOpen s who ∧ es.length ≤ 64 ∧ ((∀ e ∈
      es, fenceMalformed e true = false ∧ (parseFence e).node = n.toNat)) ∧ poolUsed s.hdg.side - (mget s.hdg.side n.toNat []).length + es.length ≤
      1024) ∧
    (∃ (s : State) (who : Party) (n : BitVec 20) (es : List Slot), s.wf = true ∧ SessionOpen s who ∧ (64 < es.length ∨ (∃ e ∈ es, fenceMalformed e
      true = true ∨ (parseFence e).node ≠ n.toNat))) ∧
    (∃ (s : State) (who : Party) (n : BitVec 20) (es : List Slot), s.wf = true ∧ SessionOpen s who ∧ es.length ≤ 64 ∧ ((∀ e ∈ es, fenceMalformed e
      true = false ∧ (parseFence e).node = n.toNat)) ∧ 1024 < poolUsed s.hdg.side - (mget s.hdg.side n.toNat []).length + es.length) ∧
    (∃ (s : State) (who : Party) (f : Option (Fin 8)) (e : Slot), s.wf = true ∧ mwf s.hdg.plotCap = true ∧ mwf s.hdg.portCap = true ∧ SessionOpen s
      who ∧ capMalformed e.toNat = false ∧ (f.isSome = true → capMalformed (e.toNat / 2 ^ 64) = false)) ∧
    (∃ (s : State) (who : Party) (f : Option (Fin 8)) (e : Slot), s.wf = true ∧ SessionOpen s who ∧ (capMalformed e.toNat = true ∨ (f.isSome = true ∧
      capMalformed (e.toNat / 2 ^ 64) = true))) ∧
    (∃ (s : State) (who : Party), s.wf = true ∧ mwf s.hdg.tags = true ∧ SessionOpen s who) ∧
    (∃ (s : State) (who : Party), s.wf = true ∧ SessionOpen s who) ∧
    (∃ (s : State) (who : Party), s.wf = true ∧ SessionOpen s who) ∧
    (∃ (s : State) (who : Party), s.wf = true ∧ SessionOpen s who) ∧
    (∃ (s : State) (who : Party), s.wf = true ∧ SessionOpen s who) ∧
    (∃ (s : State) (who : Party), s.wf = true ∧ SessionOpen s who) :=
    ⟨⟨{ st [(F.HDG_STATUS_SESSION, 1), (F.HDG_SPDM_CTRL_BUSY, 0), (F.HDG_STATUS_SAFE, 0)] with root := { words := [(6184, 1), (6185, 2), (6186, 3), (6187, 4), (6188, 5), (6189, 6)] } },
       .gardener, [1, 2, 3, 4, 5, 6], by decide +kernel⟩,
     ⟨{ st [(F.HDG_STATUS_SESSION, 1), (F.HDG_SPDM_CTRL_BUSY, 0), (F.HDG_STATUS_SAFE, 0)] with root := { words := [(6184, 1), (6185, 2), (6186, 3), (6187, 4), (6188, 5), (6189, 6)] } },
       .gardener, 2, false, false, [1, 2, 3, 4, 5, 6], by decide +kernel⟩,
     ⟨(st [(F.HDG_STATUS_SESSION, 1), (F.HDG_SPDM_CTRL_BUSY, 0), (F.HDG_STATUS_SAFE, 0)]), .gardener, by decide +kernel,
       by unfold SessionOpen; decide +kernel⟩,
     ⟨(st [(F.HDG_STATUS_SESSION, 1), (F.HDG_SPDM_CTRL_BUSY, 0), (F.HDG_STATUS_SAFE, 0)]), .gardener, false, by decide +kernel⟩,
     ⟨(st [(F.HDG_SPDM_CTRL_BUSY, 1)]), .gardener, by decide +kernel⟩,
     ⟨(st [(F.HDG_SPDM_CTRL_BUSY, 1)]), .gardener, by decide +kernel⟩,
     ⟨{ st [(F.HDG_STATUS_SESSION, 1), (F.HDG_SPDM_CTRL_BUSY, 0), (F.HDG_STATUS_SAFE, 0)] with ticks := 60000000 }, by decide +kernel⟩,
     ⟨(st [(F.HDG_STATUS_SESSION, 0)]), by decide +kernel⟩,
     ⟨(st [(F.HDG_STATUS_SESSION, 1), (F.HDG_SPDM_CTRL_BUSY, 0), (F.HDG_STATUS_SAFE, 0)]), .gardener, 0, [BitVec.ofNat 128 (66 + 7 * 2 ^ 20 + 4095 * 2
       ^ 84)], by decide +kernel, by decide +kernel, by unfold SessionOpen; decide +kernel, by decide +kernel,
       fun e h => by obtain rfl := List.mem_singleton.mp h; decide +kernel, by decide +kernel⟩,
     ⟨(st [(F.HDG_STATUS_SESSION, 1), (F.HDG_SPDM_CTRL_BUSY, 0), (F.HDG_STATUS_SAFE, 0)]), .gardener, [BitVec.ofNat 128 (2 ^ 40)], by decide +kernel,
       by unfold SessionOpen; decide +kernel, .inr ⟨_, List.mem_singleton.mpr rfl, by decide +kernel⟩⟩,
     ⟨{ st [(F.HDG_STATUS_SESSION, 1), (F.HDG_SPDM_CTRL_BUSY, 0), (F.HDG_STATUS_SAFE, 0)] with hdg := { fence := (List.range 32).map fun i => (i + 100, List.replicate 256 { node := 66, base := 0, last := 4095 }) } },
       .gardener, 0, [BitVec.ofNat 128 (66 + 7 * 2 ^ 20 + 4095 * 2 ^ 84)], by decide +kernel, by unfold SessionOpen; decide +kernel,
       by decide +kernel, fun e h => by obtain rfl := List.mem_singleton.mp h; decide +kernel, by decide +kernel⟩,
     ⟨(st [(F.HDG_STATUS_SESSION, 1), (F.HDG_SPDM_CTRL_BUSY, 0), (F.HDG_STATUS_SAFE, 0)]), .gardener, 66, [BitVec.ofNat 128 (66 + 4095 * 2 ^ 84)],
       by decide +kernel, by decide +kernel, by unfold SessionOpen; decide +kernel, by decide +kernel,
       fun e h => by obtain rfl := List.mem_singleton.mp h; decide +kernel, by decide +kernel⟩,
     ⟨(st [(F.HDG_STATUS_SESSION, 1), (F.HDG_SPDM_CTRL_BUSY, 0), (F.HDG_STATUS_SAFE, 0)]), .gardener, 66, [BitVec.ofNat 128 (67 + 4095 * 2 ^ 84)],
       by decide +kernel, by unfold SessionOpen; decide +kernel, .inr ⟨_, List.mem_singleton.mpr rfl, by decide +kernel⟩⟩,
     ⟨{ st [(F.HDG_STATUS_SESSION, 1), (F.HDG_SPDM_CTRL_BUSY, 0), (F.HDG_STATUS_SAFE, 0)] with hdg := { side := (List.range 16).map fun i => (i + 100, List.replicate 64 { node := i + 100, base := 0, last := 4095 }) } },
       .gardener, 66, [BitVec.ofNat 128 (66 + 4095 * 2 ^ 84)], by decide +kernel, by unfold SessionOpen; decide +kernel, by decide +kernel,
       fun e h => by obtain rfl := List.mem_singleton.mp h; decide +kernel, by decide +kernel⟩,
     ⟨(st [(F.HDG_STATUS_SESSION, 1), (F.HDG_SPDM_CTRL_BUSY, 0), (F.HDG_STATUS_SAFE, 0)]), .gardener, (some 3), (BitVec.ofNat 128 (5 + 100 * 2 ^ 20 +
       5 * 2 ^ 64 + 100 * 2 ^ 84)), by decide +kernel, by decide +kernel, by decide +kernel, by unfold SessionOpen; decide +kernel, by decide +kernel,
       by decide +kernel⟩,
     ⟨(st [(F.HDG_STATUS_SESSION, 1), (F.HDG_SPDM_CTRL_BUSY, 0), (F.HDG_STATUS_SAFE, 0)]), .gardener, none, (BitVec.ofNat 128 5), by decide +kernel,
       by unfold SessionOpen; decide +kernel, by decide +kernel⟩,
     ⟨(st [(F.HDG_STATUS_SESSION, 1), (F.HDG_SPDM_CTRL_BUSY, 0), (F.HDG_STATUS_SAFE, 0)]), .gardener, by decide +kernel, by decide +kernel,
       by unfold SessionOpen; decide +kernel⟩,
     ⟨(st [(F.HDG_STATUS_SESSION, 1), (F.HDG_SPDM_CTRL_BUSY, 0), (F.HDG_STATUS_SAFE, 0)]), .gardener, by decide +kernel,
       by unfold SessionOpen; decide +kernel⟩,
     ⟨(st [(F.HDG_STATUS_SESSION, 1), (F.HDG_SPDM_CTRL_BUSY, 0), (F.HDG_STATUS_SAFE, 0)]), .gardener, by decide +kernel,
       by unfold SessionOpen; decide +kernel⟩,
     ⟨(st [(F.HDG_STATUS_SESSION, 1), (F.HDG_SPDM_CTRL_BUSY, 0), (F.HDG_STATUS_SAFE, 0)]), .gardener, by decide +kernel,
       by unfold SessionOpen; decide +kernel⟩,
     ⟨(st [(F.HDG_STATUS_SESSION, 1), (F.HDG_SPDM_CTRL_BUSY, 0), (F.HDG_STATUS_SAFE, 0)]), .gardener, by decide +kernel,
       by unfold SessionOpen; decide +kernel⟩,
     ⟨(st [(F.HDG_STATUS_SESSION, 1), (F.HDG_SPDM_CTRL_BUSY, 0), (F.HDG_STATUS_SAFE, 0)]), .gardener, by decide +kernel,
       by unfold SessionOpen; decide +kernel⟩⟩

/-- The hypotheses of HedgeGuardsAndTrips can be met. -/
theorem test_HedgeGuardsAndTrips_hypotheses :
    (∃ (s : State) (who : Party), s.wf = true ∧ SessionOpen s who ∧ s.ctl.step = 11 ∧ pwmMode s ≠ moDoze) ∧
    (∃ (s : State) (who : Party), s.wf = true ∧ SessionOpen s who ∧ s.ctl.step ≠ 11) ∧
    (∃ (s : State) (who : Party), s.wf = true ∧ SessionOpen s who ∧ pwmMode s = moSafe ∧ bitF s F.HDG_STATUS_RELOADED = true ∧ (s.ctl.hotTrip = false
      ∨ getF s F.PWM_STATUS_TJ_MAX < 135 + 64)) ∧
    (∃ (s : State) (who : Party), s.wf = true ∧ SessionOpen s who ∧ pwmMode s = moSafe ∧ bitF s F.HDG_STATUS_RELOADED = true ∧ s.ctl.hotTrip = true ∧
      135 + 64 ≤ getF s F.PWM_STATUS_TJ_MAX) ∧
    (∃ (s : State) (who : Party), s.wf = true ∧ SessionOpen s who ∧ (pwmMode s ≠ moSafe ∨ bitF s F.HDG_STATUS_RELOADED = false)) ∧
    (∃ (s : State) (eff : Nat), eff = (if getF s F.HDG_POWER_SOFT_CAP = 0 then getF s F.HDG_POWER_CAP else min (getF s F.HDG_POWER_CAP) (getF s
      F.HDG_POWER_SOFT_CAP))) ∧
    (∃ (s : State), 100 ≤ s.hdg.capOver ∧ s.ctl.step = 11 ∧ pwmMode s ≠ moDoze) ∧
    (∃ (s : State), s.hdg.capOver < 100) ∧
    (∃ (s : State) (who : Party), partyOpen s who = true) ∧
    (∃ (s : State) (who : Party), partyOpen s who = false) ∧
    (∃ (s : State), bitF s F.HDG_STATUS_WDOG_RUN = true ∧ s.hdg.warned = false ∧ s.hdg.kickAt + 500 * s.hdg.period ≤ s.ticks) ∧
    (∃ (s : State), (bitF s F.HDG_STATUS_WDOG_RUN = false ∨ s.hdg.warned = true ∨ s.ticks < s.hdg.kickAt + 500 * s.hdg.period)) ∧
    (∃ (s : State), bitF s F.HDG_STATUS_WDOG_RUN = true ∧ s.hdg.kickAt + 1000 * s.hdg.period ≤ s.ticks ∧ s.ctl.step = 11 ∧ pwmMode s ≠ moDoze) ∧
    (∃ (s : State), (bitF s F.HDG_STATUS_WDOG_RUN = false ∨ s.ticks < s.hdg.kickAt + 1000 * s.hdg.period)) ∧
    (∃ (s : State) (k : BitVec 20) (i : Fin 256) (es : List FenceEnt), s.wf = true ∧ mwf s.hdg.side = true ∧ mfind s.hdg.side k.toNat = some es ∧
      i.val < es.length) ∧
    (∃ (s : State) (k : BitVec 20) (i : Fin 256) (es : List FenceEnt), s.wf = true ∧ mfind s.hdg.fence k.toNat = some es ∧ i.val < es.length ∧
      (s.hdg.strikes.filter fun a => decide (s.ticks < a + 1000000)).length < 15) ∧
    (∃ (s : State) (k : BitVec 20) (i : Fin 256) (es : List FenceEnt), s.wf = true ∧ mfind s.hdg.fence k.toNat = some es ∧ i.val < es.length ∧ 15 ≤
      (s.hdg.strikes.filter fun a => decide (s.ticks < a + 1000000)).length ∧ s.ctl.step = 11 ∧ pwmMode s ≠ moDoze) ∧
    (∃ (s : State) (side : Bool) (k : BitVec 20) (i : Fin 256), (if side then mfind s.hdg.side k.toNat = none else (mfind s.hdg.fence k.toNat).all
      (fun es => decide (es.length ≤ i.val)) = true)) ∧
    (∃ (s : State) (who : Party), s.wf = true ∧ SessionOpen s who ∧ s.ctl.step = 11 ∧ pwmMode s = moDoze ∧ s.ctl.waking = false) :=
    ⟨⟨{ st [(F.HDG_STATUS_SESSION, 1), (F.HDG_SPDM_CTRL_BUSY, 0), (F.HDG_STATUS_SAFE, 0), (F.PWM_STATUS_MODE, 3)] with ctl := { step := 11 } },
       .gardener, by decide +kernel, by unfold SessionOpen; decide +kernel, by decide +kernel, by decide +kernel⟩,
     ⟨{ st [(F.HDG_STATUS_SESSION, 1), (F.HDG_SPDM_CTRL_BUSY, 0), (F.HDG_STATUS_SAFE, 0), (F.PWM_STATUS_MODE, 3)] with ctl := { step := 9 } },
       .gardener, by decide +kernel, by unfold SessionOpen; decide +kernel, by decide +kernel⟩,
     ⟨{ st [(F.HDG_STATUS_SESSION, 1), (F.HDG_SPDM_CTRL_BUSY, 0), (F.HDG_STATUS_SAFE, 0), (F.PWM_STATUS_MODE, 5), (F.HDG_STATUS_RELOADED, 1), (F.HDG_STATUS_CAUSE, 3)] with ctl := { step := 11 } },
       .gardener, by decide +kernel, by unfold SessionOpen; decide +kernel, by decide +kernel, by decide +kernel, by decide +kernel⟩,
     ⟨{ st [(F.HDG_STATUS_SESSION, 1), (F.HDG_SPDM_CTRL_BUSY, 0), (F.HDG_STATUS_SAFE, 0), (F.PWM_STATUS_MODE, 5), (F.HDG_STATUS_RELOADED, 1), (F.HDG_STATUS_CAUSE, 3), (F.PWM_STATUS_TJ_MAX, 230)] with ctl := { step := 11, hotTrip := true } },
       .gardener, by decide +kernel, by unfold SessionOpen; decide +kernel, by decide +kernel, by decide +kernel, by decide +kernel,
       by decide +kernel⟩,
     ⟨(st [(F.HDG_STATUS_SESSION, 1), (F.HDG_SPDM_CTRL_BUSY, 0), (F.HDG_STATUS_SAFE, 0), (F.PWM_STATUS_MODE, 3)]), .gardener, by decide +kernel,
       by unfold SessionOpen; decide +kernel, by decide +kernel⟩,
     ⟨(st [(F.HDG_POWER_CAP, 400), (F.HDG_POWER_SOFT_CAP, 0), (F.HDG_POWER_THROTTLE, 3)]), 400, by decide +kernel⟩,
     ⟨{ st [(F.PWM_STATUS_MODE, 3)] with hdg := { capOver := 100 }, ctl := { step := 11 } }, by decide +kernel⟩,
     ⟨{ hdg := { capOver := 0 } }, by decide +kernel⟩,
     ⟨(st [(F.HDG_STATUS_SAFE, 0), (F.HDG_WDOG_TOKEN, 5)]), .gardener, by decide +kernel⟩,
     ⟨(st [(F.HDG_STATUS_SAFE, 1)]), .gardener, by decide +kernel⟩,
     ⟨{ st [(F.PWM_STATUS_MODE, 3), (F.HDG_STATUS_WDOG_RUN, 1)] with hdg := {}, ticks := 500000 }, by decide +kernel⟩,
     ⟨(st [(F.HDG_STATUS_WDOG_RUN, 0)]), by decide +kernel⟩,
     ⟨{ st [(F.PWM_STATUS_MODE, 3), (F.HDG_STATUS_WDOG_RUN, 1)] with hdg := {}, ticks := 1000000, ctl := { step := 11 } }, by decide +kernel⟩,
     ⟨(st [(F.HDG_STATUS_WDOG_RUN, 0)]), by decide +kernel⟩,
     ⟨{ hdg := { side := [(66, [{ node := 66, base := 0, last := 4095, rd := true, wr := true, at_ := true }])] } }, 66, 0,
       [{ node := 66, base := 0, last := 4095, rd := true, wr := true, at_ := true }], by decide +kernel⟩,
     ⟨{ hdg := { fence := [(0, [{ node := 66, base := 0, last := 4095, rd := true, wr := true, at_ := true }])] } }, 0, 0,
       [{ node := 66, base := 0, last := 4095, rd := true, wr := true, at_ := true }], by decide +kernel⟩,
     ⟨{ st [(F.PWM_STATUS_MODE, 3)] with hdg := { fence := [(0, [{ node := 66, base := 0, last := 4095, rd := true, wr := true, at_ := true }])], strikes := List.replicate 15 0 }, ctl := { step := 11 }, ticks := 9 },
       0, 0, [{ node := 66, base := 0, last := 4095, rd := true, wr := true, at_ := true }], by decide +kernel⟩,
     ⟨{ hdg := {} }, false, 0, 0, by decide +kernel⟩,
     ⟨{ st [(F.HDG_STATUS_SESSION, 1), (F.HDG_SPDM_CTRL_BUSY, 0), (F.HDG_STATUS_SAFE, 0), (F.PWM_STATUS_MODE, 4)] with ctl := { step := 11 } },
       .gardener, by decide +kernel, by unfold SessionOpen; decide +kernel, by decide +kernel, by decide +kernel, by decide +kernel⟩⟩

/-- The hypotheses of ModesAndWakes can be met. -/
theorem test_ModesAndWakes_hypotheses :
    (∃ (s : State) (who : Party), partyOpen s who = true ∧ bitF s F.PWM_CMD_STATUS_BUSY = false ∧ pwmMode s = moBoot ∧ bitF s F.ROOT_STATUS_PROVISION
      = false ∧ bitF s F.ROOT_STATUS_READY = true) ∧
    (∃ (s : State) (who : Party), partyOpen s who = true ∧ bitF s F.PWM_CMD_STATUS_BUSY = true) ∧
    (∃ (s : State) (who : Party), partyOpen s who = false) ∧
    (∃ (s : State) (who : Party), partyOpen s who = true ∧ bitF s F.PWM_CMD_STATUS_BUSY = false ∧ pwmMode s ≠ moDoze ∧ ((pwmMode s = moBoot → bitF s
      F.ROOT_STATUS_PROVISION = true ∨ bitF s F.ROOT_STATUS_READY = false))) ∧
    (∃ (s : State) (who : Party), s.wf = true ∧ partyOpen s who = true ∧ bitF s F.PWM_CMD_STATUS_BUSY = false ∧ pwmMode s = moDoze ∧ s.ctl.waking =
      false) ∧
    (∃ (s : State) (who : Party), s.wf = true ∧ partyOpen s who = true ∧ bitF s F.PWM_CMD_STATUS_BUSY = false ∧ pwmMode s = moServe ∧ dozeReady s =
      true) ∧
    (∃ (s : State) (who : Party), partyOpen s who = true ∧ bitF s F.PWM_CMD_STATUS_BUSY = false ∧ (pwmMode s ≠ moServe ∨ dozeReady s = false)) ∧
    (∃ (s : State), dozing s = true ∧ pwmMode s = moServe ∧ ((∀ f < 8, cfpState s f = cfpHush ∨ cfpState s f = cfpOff)) ∧ dozeReady s = true ∧ wakePin
      s = false) ∧
    (∃ (s : State), (dozing s = false ∨ (∃ f < 8, cfpState s f ≠ cfpHush ∧ cfpState s f ≠ cfpOff))) ∧
    (∃ (s : State), dozing s = true ∧ ((∀ f < 8, cfpState s f = cfpHush ∨ cfpState s f = cfpOff)) ∧ dozeReady s = false) ∧
    (∃ (s : State), s.wf = true ∧ dozing s = true) ∧
    (∃ (s : State), dozing s = false) ∧
    (∃ (s : State), pwmMode s = moDoze ∧ s.ctl.waking = true ∧ s.ctl.trip = none) ∧
    (∃ (s : State) (c : Nat), pwmMode s = moDoze ∧ s.ctl.waking = true ∧ s.ctl.trip = some c ∧ dozing s = false) ∧
    (∃ (s : State), (pwmMode s ≠ moDoze ∨ s.ctl.waking = false)) ∧
    (∃ (s : State), getF s F.PWM_WAKE_TIMER ≠ 0 ∧ pwmMode s = moDormant ∧ s.ctl.railEn = false) ∧
    (∃ (s : State), getF s F.PWM_WAKE_TIMER ≠ 0 ∧ pwmMode s = moDoze ∧ s.ctl.waking = false) ∧
    (∃ (s : State), getF s F.PWM_WAKE_TIMER ≠ 0 ∧ pwmMode s ≠ moDoze ∧ dozing s = false ∧ (pwmMode s = moDormant → s.ctl.railEn = true)) ∧
    (∃ (s : State), getF s F.PWM_WAKE_TIMER = 0) ∧
    (∃ (s : State), s.ctl.railEn = true ∧ s.ctl.railGood = false) ∧
    (∃ (s : State), (s.ctl.railEn = false ∨ s.ctl.railGood = true)) ∧
    (∃ (s : State) (n : Fin 32) (goal : Nat), bitF s F.PWM_AVS_EN = true ∧ goal = min (getF s F.PWM_AVS_MAX_CODE) (max n.val (getF s
      F.PWM_AVS_MIN_CODE))) ∧
    (∃ (s : State), bitF s F.PWM_AVS_EN = false) ∧
    (∃ (s : State) (q : Fin 4), (pwmMode s = moServe ∨ pwmMode s = moBoot) ∧ bitOf (getF s F.PWM_GATE_Q_EN) q = true ∧ quadBusy s q = false) ∧
    (∃ (s : State) (q : Fin 4), (pwmMode s ≠ moServe ∧ pwmMode s ≠ moBoot ∨ bitOf (getF s F.PWM_GATE_Q_EN) q = false ∨ quadBusy s q = true)) ∧
    (∃ (s : State) (q : Fin 4), s.pending = [] ∧ pwmMode s ≠ moDoze ∧ quadBusy s q = true) ∧
    (∃ (s : State) (a : Byte) (b : Byte) (c : Byte) (d : Byte) (e : Byte) (tj : Nat), pwmMode s ≠ moDormant ∧ tj = max (max (max a.toNat b.toNat) (max
      c.toNat d.toNat)) e.toNat ∧ (tj < 150 + 64 ∨ 150 + 64 ≤ getF s F.PWM_STATUS_TJ_MAX) ∧ s.ctl.cooling = false) ∧
    (∃ (s : State) (a : Byte) (b : Byte) (c : Byte) (d : Byte) (e : Byte), pwmMode s = moSafe ∧ s.ctl.cooling = true ∧ s.ctl.step = 11 ∧ max (max (max
      a.toNat b.toNat) (max c.toNat d.toNat)) e.toNat < 135 + 64 ∧ s.root.queue = []) ∧
    (∃ (s : State), pwmMode s = moDormant) ∧
    (∃ (s : State) (e : Byte), s.wf = true ∧ pwmMode s ≠ moDormant ∧ pwmMode s ≠ moDoze ∧ s.ctl.step = 11 ∧ getF s F.PWM_STATUS_TJ_MAX < 150 + 64 ∧
      150 + 64 ≤ e.toNat) ∧
    (∃ (s : State) (who : Party), s.wf = true ∧ partyOpen s who = true ∧ bitF s F.PWM_CMD_STATUS_BUSY = false ∧ pwmMode s = moServe ∧ (∀ n < 4,
      portIdle s n = true) ∧ (∀ f < 8, cfpState s f = cfpOff)) ∧
    (∃ (s : State) (who : Party), partyOpen s who = true ∧ bitF s F.PWM_CMD_STATUS_BUSY = false ∧ (pwmMode s ≠ moServe ∨ (∃ n < 4, portIdle s n =
      false) ∨ (∃ f < 8, cfpState s f ≠ cfpOff))) :=
    ⟨⟨(st [(F.PWM_CMD_STATUS_BUSY, 0), (F.HDG_STATUS_SAFE, 0), (F.PWM_STATUS_MODE, 2), (F.ROOT_STATUS_READY, 1), (F.ROOT_STATUS_PROVISION, 0)]),
       .gardener, by decide +kernel⟩,
     ⟨(st [(F.PWM_CMD_STATUS_BUSY, 1), (F.HDG_STATUS_SAFE, 0)]), .gardener, by decide +kernel⟩,
     ⟨(st [(F.HDG_STATUS_SAFE, 1)]), .gardener, by decide +kernel⟩,
     ⟨(st [(F.PWM_CMD_STATUS_BUSY, 0), (F.HDG_STATUS_SAFE, 0), (F.PWM_STATUS_MODE, 2), (F.ROOT_STATUS_PROVISION, 1)]), .gardener, by decide +kernel⟩,
     ⟨(st [(F.PWM_CMD_STATUS_BUSY, 0), (F.HDG_STATUS_SAFE, 0), (F.PWM_STATUS_MODE, 4)]), .gardener, by decide +kernel⟩,
     ⟨{ st [(F.PWM_CMD_STATUS_BUSY, 0), (F.HDG_STATUS_SAFE, 0), (F.PWM_STATUS_MODE, 3), (F.RAK_STATUS_WORDS, 0), (F.CFP_STATUS_STATE 0, 2)] with quads := [], chans := [], mq := [] },
       .gardener, by decide +kernel⟩,
     ⟨(st [(F.PWM_CMD_STATUS_BUSY, 0), (F.HDG_STATUS_SAFE, 0), (F.PWM_STATUS_MODE, 2)]), .gardener, by decide +kernel⟩,
     ⟨{ st [(F.PWM_CMD_STATUS_BUSY, 1), (F.PWM_CMD_STATUS_OP, 2), (F.HDG_STATUS_SAFE, 0), (F.PWM_STATUS_MODE, 3), (F.CFP_STATUS_STATE 0, 0), (F.CFP_STATUS_STATE 1, 0), (F.CFP_STATUS_STATE 2, 0), (F.CFP_STATUS_STATE 3, 0), (F.CFP_STATUS_STATE 4, 0), (F.CFP_STATUS_STATE 5, 0), (F.CFP_STATUS_STATE 6, 0), (F.CFP_STATUS_STATE 7, 0), (F.RAK_STATUS_WORDS, 0)] with quads := [], chans := [], mq := [] },
       by decide +kernel⟩,
     ⟨(st [(F.PWM_CMD_STATUS_BUSY, 0)]), by decide +kernel⟩,
     ⟨(st [(F.PWM_CMD_STATUS_BUSY, 1), (F.PWM_CMD_STATUS_OP, 2), (F.HDG_STATUS_SAFE, 0), (F.PWM_STATUS_MODE, 3), (F.CFP_STATUS_STATE 0, 0),
       (F.CFP_STATUS_STATE 1, 0), (F.CFP_STATUS_STATE 2, 0), (F.CFP_STATUS_STATE 3, 0), (F.CFP_STATUS_STATE 4, 0), (F.CFP_STATUS_STATE 5, 0),
       (F.CFP_STATUS_STATE 6, 0), (F.CFP_STATUS_STATE 7, 0), (F.RAK_STATUS_WORDS, 0), (F.RAK_STATUS_WORDS, 1)]), by decide +kernel⟩,
     ⟨(st [(F.PWM_CMD_STATUS_BUSY, 1), (F.PWM_CMD_STATUS_OP, 2), (F.HDG_STATUS_SAFE, 0), (F.PWM_STATUS_MODE, 3)]), by decide +kernel⟩,
     ⟨(st [(F.PWM_CMD_STATUS_BUSY, 0)]), by decide +kernel⟩,
     ⟨{ st [(F.PWM_STATUS_MODE, 4)] with ctl := { waking := true } }, by decide +kernel⟩,
     ⟨{ st [(F.PWM_CMD_STATUS_BUSY, 0), (F.HDG_STATUS_SAFE, 0), (F.PWM_STATUS_MODE, 4)] with ctl := { waking := true, trip := some 3 } }, 3,
       by decide +kernel⟩,
     ⟨(st [(F.PWM_STATUS_MODE, 3)]), by decide +kernel⟩,
     ⟨(st [(F.PWM_STATUS_MODE, 1), (F.PWM_WAKE_TIMER, 5)]), by decide +kernel⟩,
     ⟨(st [(F.PWM_STATUS_MODE, 4), (F.PWM_WAKE_TIMER, 5)]), by decide +kernel⟩,
     ⟨(st [(F.PWM_STATUS_MODE, 3), (F.PWM_CMD_STATUS_BUSY, 0), (F.HDG_STATUS_SAFE, 0), (F.PWM_WAKE_TIMER, 5)]), by decide +kernel⟩,
     ⟨(st [(F.PWM_WAKE_TIMER, 0)]), by decide +kernel⟩,
     ⟨{ ctl := { railEn := true } }, by decide +kernel⟩,
     ⟨{ ctl := {} }, by decide +kernel⟩,
     ⟨(st [(F.PWM_AVS_EN, 1), (F.PWM_AVS_MAX_CODE, 12), (F.PWM_AVS_MIN_CODE, 2), (F.PWM_AVS_CODE, 3)]), 15, 12, by decide +kernel⟩,
     ⟨(st [(F.PWM_AVS_EN, 0)]), by decide +kernel⟩,
     ⟨{ st [(F.PWM_STATUS_MODE, 3), (F.PWM_GATE_Q_EN, 1), (F.PLT_WB_PERIOD 0, 0)] with quads := [], plots := [], chans := [], pga := {}, ports := [] },
       0, by decide +kernel⟩,
     ⟨(st [(F.PWM_STATUS_MODE, 5)]), 0, by decide +kernel⟩,
     ⟨{ st [(F.PWM_STATUS_MODE, 3), (F.PWM_GATE_RUN, 0)] with chans := [(0, { resident := true })] }, 0, by decide +kernel⟩,
     ⟨(st [(F.PWM_STATUS_MODE, 3), (F.PWM_STATUS_TJ_MAX, 90)]), 100, 90, 0, 0, 0, 100, by decide +kernel⟩,
     ⟨{ st [(F.PWM_STATUS_MODE, 5), (F.HDG_STATUS_SAFE, 1), (F.PWM_STATUS_TJ_MAX, 220)] with ctl := { step := 11, cooling := true } }, 100, 90, 0, 0,
       0, by decide +kernel⟩,
     ⟨(st [(F.PWM_STATUS_MODE, 1)]), by decide +kernel⟩,
     ⟨{ st [(F.PWM_STATUS_MODE, 3), (F.PWM_STATUS_TJ_MAX, 90)] with ctl := { step := 11 } }, 220, by decide +kernel⟩,
     ⟨{ st [(F.PWM_CMD_STATUS_BUSY, 0), (F.HDG_STATUS_SAFE, 0), (F.PWM_STATUS_MODE, 3), (F.CFP_STATUS_STATE 0, 0), (F.CFP_STATUS_STATE 1, 0), (F.CFP_STATUS_STATE 2, 0), (F.CFP_STATUS_STATE 3, 0), (F.CFP_STATUS_STATE 4, 0), (F.CFP_STATUS_STATE 5, 0), (F.CFP_STATUS_STATE 6, 0), (F.CFP_STATUS_STATE 7, 0), (F.RAK_STATUS_WORDS, 0)] with plots := [] },
       .gardener, by decide +kernel⟩,
     ⟨(st [(F.PWM_CMD_STATUS_BUSY, 0), (F.HDG_STATUS_SAFE, 0), (F.PWM_STATUS_MODE, 2)]), .gardener, by decide +kernel⟩⟩

/-- The hypotheses of ResetsAndHolds can be met. -/
theorem test_ResetsAndHolds_hypotheses :
    (∃ (s : State) (fall : Bool), s.wf = true ∧ (fall = true ∨ s.root.queue = [])) ∧
    (∃ (s : State), s.root.queue ≠ []) ∧
    (∃ (s : State), s.ctl.step = 1) ∧
    (∃ (s : State), s.ctl.step = 2) ∧
    (∃ (s : State), s.ctl.step = 3) ∧
    (∃ (s : State), s.ctl.step = 4 ∧ pwmMode s = moDormant ∧ isHead s = false ∧ s.ctl.railEn = false) ∧
    (∃ (s : State), s.wf = true ∧ s.ctl.step = 4 ∧ pwmMode s = moDormant ∧ isHead s = true ∧ bitF s F.CHN_CTRL_EAST_EN = true ∧ s.ctl.railEn = false) ∧
    (∃ (s : State), s.ctl.step = 5 ∧ railsReady s = true) ∧
    (∃ (s : State), s.ctl.step = 5 ∧ railsReady s = false) ∧
    (∃ (s : State), s.ctl.step = 6) ∧
    (∃ (s : State), s.ctl.step = 7) ∧
    (∃ (s : State), s.ctl.step = 8 ∧ (s.ctl.hotTrip = false ∨ getF s F.PWM_STATUS_TJ_MAX < 135 + 64)) ∧
    (∃ (s : State), s.ctl.step = 8 ∧ s.ctl.hotTrip = true ∧ 135 + 64 ≤ getF s F.PWM_STATUS_TJ_MAX) ∧
    (∃ (s : State), s.ctl.step = 9) ∧
    (∃ (s : State), s.ctl.step = 10 ∧ s.ctl.trip = none ∧ (isHead s = false ∨ s.ctl.rollDue = false)) ∧
    (∃ (s : State), s.wf = true ∧ s.ctl.step = 10 ∧ s.ctl.trip = none ∧ isHead s = true ∧ s.ctl.rollDue = true ∧ bitF s F.CHN_CTRL_EAST_EN = true) ∧
    (∃ (s : State) (c : Nat), s.ctl.step = 10 ∧ s.ctl.trip = some c ∧ c < 16 ∧ s.ctl.rollDue = false ∧ dozing s = false) ∧
    (∃ (s : State), s.ctl.step = 21) ∧
    (∃ (s : State), s.ctl.step = 22) ∧
    (∃ (s : State), s.ctl.step = 23) ∧
    (∃ (s : State), (s.ctl.step = 0 ∨ (10 < s.ctl.step ∧ s.ctl.step < 21) ∨ 23 < s.ctl.step)) ∧
    (∃ (s : State), s.ctl.step ≠ 5) ∧
    (∃ (s : State), s.ctl.step = 5 ∧ s.ctl.railEn = true ∧ s.ctl.refClk = true) ∧
    (∃ (s : State), s.wf = true ∧ pwmMode s ≠ moDormant ∧ 4 ≤ s.ctl.step ∧ s.root.queue = []) ∧
    (∃ (s : State), (pwmMode s = moDormant ∨ s.ctl.step < 4)) ∧
    (∃ (s : State), s.ctl.refClk = true ∧ railsUp s = false) ∧
    (∃ (s : State), s.ctl.refClk = false) ∧
    (∃ (s : State), s.wf = true ∧ s.ctl.refClk = true ∧ railsUp s = true ∧ s.ctl.step = 11 ∧ s.root.queue = []) ∧
    (∃ (s : State) (who : Party), s.wf = true ∧ regOpen s who A.RST_CMD = true ∧ s.root.queue = []) ∧
    (∃ (s : State) (who : Party), regOpen s who A.RST_CMD = true ∧ s.root.queue ≠ []) ∧
    (∃ (s : State) (who : Party), regOpen s who A.RST_CMD = false) ∧
    (∃ (s : State) (who : Party) (i : Fin 44), s.wf = true ∧ i.val ≠ 42 ∧ regOpen s who A.RST_SOFT = true ∧ s.root.queue = [] ∧ softHeld s i = false) ∧
    (∃ (s : State) (who : Party) (i : Fin 64), regOpen s who A.RST_SOFT = true ∧ s.root.queue = [] ∧ (i.val = 46 ∨ i.val = 47 ∨ 52 ≤ i.val ∨ (i.val <
      44 ∧ i.val ≠ 42 ∧ softHeld s i = true))) ∧
    (∃ (s : State) (who : Party), regOpen s who A.RST_SOFT = false) ∧
    (∃ (s : State) (who : Party), regOpen s who A.RST_SOFT = true ∧ s.root.queue ≠ []) ∧
    (∃ (s : State) (i : Fin 44), s.wf = true ∧ softHeld s i = true ∧ softDone s i = false ∧ bitOf s.ctl.clrWait i = false) ∧
    (∃ (s : State) (i : Fin 44), s.wf = true ∧ i.val < 40 ∧ softHeld s i = true ∧ softDone s i = false ∧ bitOf s.ctl.clrWait i = true) ∧
    (∃ (s : State) (i : Fin 64), (softHeld s i = false ∨ softDone s i = true)) ∧
    (∃ (s : State) (who : Party) (i : Fin 44), s.wf = true ∧ regOpen s who A.RST_SOFT = true ∧ softHeld s i = true) ∧
    (∃ (s : State) (who : Party) (i : Fin 64), regOpen s who A.RST_SOFT = true ∧ (i.val ≥ 44 ∨ i.val = 42 ∨ softHeld s i = false)) ∧
    (∃ (s : State) (who : Party) (i : Instr), i ∈ [Instr.gardenerReset who, .coreReset who 0] ∧ regOpen s who A.RST_SOFT = true ∧ s.root.queue = []) ∧
    (∃ (s : State) (who : Party) (c : Fin 4), c.val ≠ 0 ∧ regOpen s who A.RST_SOFT = true ∧ s.root.queue = []) ∧
    (∃ (s : State) (who : Party), regOpen s who A.RST_SOFT = true ∧ s.root.queue = []) ∧
    (∃ (s : State) (who : Party), s.wf = true ∧ regOpen s who A.RST_SOFT = true ∧ s.root.queue = []) :=
    ⟨⟨{ root := { queue := [{ index := 6208, value := 5, gardener := true }] } }, true, by decide +kernel⟩,
     ⟨{ root := { queue := [{ index := 6208, value := 5, gardener := true }] } }, by decide +kernel⟩,
     ⟨{ st [(F.PWM_GATE_RUN, 15), (F.PWM_STATUS_MODE, 3)] with ctl := { step := 1, refClk := true } }, by decide +kernel⟩,
     ⟨{ st [(F.PWM_GATE_RUN, 15), (F.PWM_STATUS_MODE, 3)] with ctl := { step := 2, refClk := true } }, by decide +kernel⟩,
     ⟨{ st [(F.PWM_GATE_RUN, 15), (F.PWM_STATUS_MODE, 3)] with ctl := { step := 3, refClk := true } }, by decide +kernel⟩,
     ⟨{ st [(F.PWM_STATUS_MODE, 1), (F.CHN_CTRL_HEAD, 0)] with ctl := { step := 4 } }, by decide +kernel⟩,
     ⟨{ st [(F.PWM_STATUS_MODE, 1), (F.CHN_CTRL_EAST_EN, 1), (F.CHN_CTRL_EAST_PORT, 7), (F.CHN_CTRL_HEAD, 1)] with ctl := { step := 4 } },
       by decide +kernel⟩,
     ⟨{ ctl := { step := 5, railEn := true, railGood := true, refClk := true } }, by decide +kernel⟩,
     ⟨{ ctl := { step := 5 } }, by decide +kernel⟩,
     ⟨{ st [(F.PWM_GATE_RUN, 15), (F.PWM_STATUS_MODE, 3)] with ctl := { step := 6, refClk := true } }, by decide +kernel⟩,
     ⟨{ st [(F.PWM_GATE_RUN, 15), (F.PWM_STATUS_MODE, 3)] with ctl := { step := 7, refClk := true } }, by decide +kernel⟩,
     ⟨{ st [(F.PWM_GATE_RUN, 15), (F.PWM_STATUS_MODE, 3)] with ctl := { step := 8, refClk := true } }, by decide +kernel⟩,
     ⟨{ st [(F.PWM_STATUS_TJ_MAX, 220)] with ctl := { step := 8, hotTrip := true } }, by decide +kernel⟩,
     ⟨{ st [(F.PWM_GATE_RUN, 15), (F.PWM_STATUS_MODE, 3)] with ctl := { step := 9, refClk := true } }, by decide +kernel⟩,
     ⟨{ st [(F.PWM_GATE_RUN, 15), (F.PWM_STATUS_MODE, 3)] with ctl := { step := 10, refClk := true } }, by decide +kernel⟩,
     ⟨{ st [(F.CHN_CTRL_EAST_EN, 1), (F.CHN_CTRL_EAST_PORT, 7), (F.CHN_CTRL_HEAD, 1)] with ctl := { step := 10, rollDue := true } },
       by decide +kernel⟩,
     ⟨{ st [(F.PWM_CMD_STATUS_BUSY, 0), (F.HDG_STATUS_SAFE, 0), (F.PWM_STATUS_MODE, 2)] with ctl := { step := 10, trip := some 3 } }, 3,
       by decide +kernel⟩,
     ⟨{ st [(F.PWM_GATE_RUN, 15), (F.PWM_STATUS_MODE, 3)] with ctl := { step := 21, refClk := true } }, by decide +kernel⟩,
     ⟨{ st [(F.PWM_GATE_RUN, 15), (F.PWM_STATUS_MODE, 3)] with ctl := { step := 22, refClk := true } }, by decide +kernel⟩,
     ⟨{ st [(F.PWM_GATE_RUN, 15), (F.PWM_STATUS_MODE, 3)] with ctl := { step := 23, refClk := true } }, by decide +kernel⟩,
     ⟨{ ctl := { step := 11 } }, by decide +kernel⟩,
     ⟨{ ctl := { step := 11 } }, by decide +kernel⟩,
     ⟨{ ctl := { step := 5, railEn := true, refClk := true } }, by decide +kernel⟩,
     ⟨{ st [(F.PWM_STATUS_MODE, 3)] with ctl := { step := 11 } }, by decide +kernel⟩,
     ⟨(st [(F.PWM_STATUS_MODE, 1)]), by decide +kernel⟩,
     ⟨{ ctl := { step := 5, refClk := true } }, by decide +kernel⟩,
     ⟨{ ctl := { refClk := false } }, by decide +kernel⟩,
     ⟨{ st [(F.PWM_STATUS_MODE, 3)] with ctl := { step := 11, refClk := true } }, by decide +kernel⟩,
     ⟨{ st [(F.PWM_GATE_RUN, 15), (F.PWM_STATUS_MODE, 3)] with ctl := { step := 11 } }, .gardener, by decide +kernel⟩,
     ⟨{ st [(F.PWM_GATE_RUN, 15), (F.PWM_STATUS_MODE, 3)] with root := { queue := [{ index := 6208, value := 5, gardener := true }] } }, .gardener,
       by decide +kernel⟩,
     ⟨(st [(F.HDG_STATUS_SAFE, 1)]), .gardener, by decide +kernel⟩,
     ⟨(st [(F.PWM_GATE_RUN, 15), (F.PWM_STATUS_MODE, 3), (F.RST_SOFT_QUAD, 0)]), .gardener, 5, by decide +kernel⟩,
     ⟨(st [(F.PWM_GATE_RUN, 15), (F.PWM_STATUS_MODE, 3)]), .gardener, 46, by decide +kernel⟩,
     ⟨(st [(F.HDG_STATUS_SAFE, 1)]), .gardener, by decide +kernel⟩,
     ⟨{ st [(F.PWM_GATE_RUN, 15), (F.PWM_STATUS_MODE, 3)] with root := { queue := [{ index := 6208, value := 5, gardener := true }] } }, .gardener,
       by decide +kernel⟩,
     ⟨(st [(F.RST_SOFT_QUAD, 32), (F.RST_SOFT_DONE_PORTS, 0)]), 5, by decide +kernel⟩,
     ⟨{ st [(F.RST_SOFT_QUAD, 1), (F.RST_SOFT_DONE_PORTS, 0)] with ctl := { clrWait := 1 } }, 0, by decide +kernel⟩,
     ⟨(st [(F.RST_SOFT_QUAD, 0)]), 0, by decide +kernel⟩,
     ⟨(st [(F.PWM_GATE_RUN, 15), (F.PWM_STATUS_MODE, 3), (F.RST_SOFT_QUAD, 1), (F.RST_SOFT_DONE_PORTS, 1)]), .gardener, 0, by decide +kernel⟩,
     ⟨(st [(F.PWM_GATE_RUN, 15), (F.PWM_STATUS_MODE, 3)]), .gardener, 44, by decide +kernel⟩,
     ⟨(st [(F.PWM_GATE_RUN, 15), (F.PWM_STATUS_MODE, 3)]), .gardener, (.coreReset .gardener 0), by decide +kernel⟩,
     ⟨(st [(F.PWM_GATE_RUN, 15), (F.PWM_STATUS_MODE, 3)]), .gardener, 2, by decide +kernel⟩,
     ⟨(st [(F.PWM_GATE_RUN, 15), (F.PWM_STATUS_MODE, 3)]), .gardener, by decide +kernel⟩,
     ⟨(st [(F.PWM_GATE_RUN, 15), (F.PWM_STATUS_MODE, 3)]), .gardener, by decide +kernel⟩⟩

/-- The hypotheses of TestBlock can be met. -/
theorem test_TestBlock_hypotheses :
    (∃ (s : State) (p : Fin 12) (who : Party) (m : Fin 4) (r : Fin 16), regOpen s who (A.TST_PORT p) = true ∧ tstStopped s p = true ∧ tstRateOk p r =
      true ∧ m.val ≠ 0 ∧ (m.val = 3 → 4 ≤ p.val)) ∧
    (∃ (s : State) (p : Fin 12) (who : Party) (r : Fin 16), regOpen s who (A.TST_PORT p) = true ∧ tstRateOk p r = true) ∧
    (∃ (s : State) (p : Fin 12) (who : Party) (m : Fin 4) (r : Fin 16), regOpen s who (A.TST_PORT p) = true ∧ tstStopped s p = false ∧ tstRateOk p r =
      true ∧ m.val ≠ 0 ∧ (m.val = 3 → 4 ≤ p.val)) ∧
    (∃ (s : State) (p : Fin 12) (who : Party) (m : Fin 4) (r : Fin 16), regOpen s who (A.TST_PORT p) = true ∧ tstRateOk p r = false ∧ ((m.val = 3 ∧
      p.val < 4) ∨ getF s (F.TST_PORT_MODE p) = m) ∧ tstStopped s p = true) ∧
    (∃ (s : State) (l : Fin 128) (who : Party) (m : Fin 16), regOpen s who (A.TST_LANE_INJ l) = true ∧ 1 ≤ m.val ∧ m.val ≤ 3 ∧ laneInjects s l = true) ∧
    (∃ (s : State) (l : Fin 128) (who : Party) (x : Fin 64), regOpen s who (A.TST_LANE_INJ l) = true ∧ 10 ≤ x.val ∧ x.val ≤ 40) ∧
    (∃ (s : State) (l : Fin 128) (who : Party) (x : Fin 64), regOpen s who (A.TST_LANE_INJ l) = true ∧ (x.val < 10 ∨ 40 < x.val)) ∧
    (∃ (s : State) (l : Fin 128) (who : Party) (m : Fin 16) (go : Bool), regOpen s who (A.TST_LANE_INJ l) = true ∧ m.val ≤ 3 ∧ (m.val = 0 ∨ go = false
      ∨ laneInjects s l = false)) ∧
    (∃ (s : State) (l : Fin 128), laneChecks s l = true) ∧
    (∃ (s : State) (l : Fin 128), laneChecks s l = false) ∧
    (∃ (s : State) (l : Fin 128), laneChecks s l = true ∧ bitF s (F.TST_LANE_ERR_LOCK l) = true) ∧
    (∃ (s : State) (l : Fin 128), (laneChecks s l = false ∨ bitF s (F.TST_LANE_ERR_LOCK l) = false)) ∧
    (∃ (s : State) (who : Party) (f : Fin 8) (ax : Bool) (eye : Fin 4) (off : BitVec 8) (dw : Fin 64), regOpen s who A.TST_MARGIN_CMD = true ∧ bitF s
      F.TST_MARGIN_RESULT_BUSY = false ∧ marginOk ax eye off.toNat dw = true ∧ marginClock s f = true) ∧
    (∃ (s : State) (who : Party) (ax : Bool) (eye : Fin 4) (off : BitVec 8) (dw : Fin 64), regOpen s who A.TST_MARGIN_CMD = true ∧ bitF s
      F.TST_MARGIN_RESULT_BUSY = true ∧ marginOk ax eye off.toNat dw = true) ∧
    (∃ (s : State) (who : Party) (ax : Bool) (eye : Fin 4) (off : BitVec 8) (dw : Fin 64), regOpen s who A.TST_MARGIN_CMD = true ∧ bitF s
      F.TST_MARGIN_RESULT_BUSY = false ∧ (eye = 3 ∨ dw.val < 20 ∨ 40 < dw.val ∨ (ax = true ∧ (off.toInt < -63 ∨ 63 < off.toInt)))) ∧
    (∃ (s : State) (f : Fin 8) (ax : Bool) (eye : Fin 4) (off : BitVec 8) (dw : Fin 64), bitF s F.TST_MARGIN_RESULT_BUSY = false ∧ marginOk ax eye
      off.toNat dw = true ∧ marginClock s f = false) ∧
    (∃ (s : State) (who : Party) (f : Nat), regOpen s who A.TST_MARGIN_CMD = true ∧ s.test.margin = some f) ∧
    (∃ (s : State) (f : Nat), s.test.margin = some f) ∧
    (∃ (s : State), s.test.margin = none) ∧
    (∃ (s : State) (c : Byte), tapDrives s = false ∧ jtagTest c.toNat = false) ∧
    (∃ (s : State), bits (regWord s A.GLB_ID) 4 4 = 0) ∧
    (∃ (s : State) (c : Byte), s.wf = true ∧ jtagTest c.toNat = true ∧ s.root.queue ≠ []) ∧
    (∃ (s : State) (p : Fin 12) (l : Fin 128) (who : Party), regOpen s who (A.TST_PORT p) = false ∧ regOpen s who (A.TST_LANE_INJ l) = false) ∧
    (∃ (s : State) (who : Party), regOpen s who A.TST_MARGIN_CMD = false) ∧
    (∃ (s : State) (who : Party), regOpen s who A.TST_GEN_CTRL = true ∧ bitF s F.TST_GEN_CTRL_EN = false) ∧
    (∃ (s : State) (who : Party), regOpen s who A.TST_GEN_CTRL = true ∧ bitF s F.TST_GEN_CTRL_EN = true ∧ s.test.reqs = []) ∧
    (∃ (s : State) (who : Party), regOpen s who A.TST_GEN_CTRL = true ∧ bitF s F.TST_GEN_CTRL_EN = true ∧ s.test.reqs ≠ [] ∧ (∀ x ∈ s.test.reqs,
      x.2.left ≠ 0)) ∧
    (∃ (s : State) (who : Party) (en : Bool), (regOpen s who A.TST_GEN_CTRL = false ∨ bitF s F.TST_GEN_CTRL_EN = en)) ∧
    (∃ (s : State), blockHeld s A.TST_GEN_CTRL = false ∧ apertureCap s = true ∧ genHalf s = none ∧ genMore s = true ∧ s.test.reqs.length < getF s
      F.TST_GEN_CTRL_OUTSTANDING ∧ genFence s (genRequest s) = true ∧ (genRequest s).addr % 4096 + (genRequest s).len ≤ 4096 ∧ (routeOf s (getF s
      F.TST_GEN_TARGET_NODE) (myNode s 0) none).2.pga ≠ 20) ∧
    (∃ (s : State), blockHeld s A.TST_GEN_CTRL = false ∧ apertureCap s = true ∧ genHalf s = none ∧ genMore s = true ∧ s.test.reqs.length < getF s
      F.TST_GEN_CTRL_OUTSTANDING ∧ s.wf = true ∧ genFence s (genRequest s) = false ∧ mfind s.test.reqs s.test.serial = none ∧ (∀ x ∈ s.test.reqs,
      x.2.left ≠ 0)) ∧
    (∃ (s : State), (blockHeld s A.TST_GEN_CTRL = true ∨ apertureCap s = false ∨ (genHalf s = none ∧ (genMore s = false ∨ getF s
      F.TST_GEN_CTRL_OUTSTANDING ≤ s.test.reqs.length)))) ∧
    (∃ (s : State) (i : Nat) (r : FabResp) (ts : List QTxn) (k : Nat) (x : GenReq), s.wf = true ∧ coreRuns s = true ∧ inboxOf s 18 2 =
      { ingress := i, txn := .resp r } :: ts ∧ respMalformed s r = false ∧ mfind s.unit0 r.tag = some (.gen k false) ∧ mfind s.test.reqs k = some x ∧
      x.left = 1 ∧ x.bad = none ∧ x.differs = false ∧ r.status = 0 ∧ (getF s F.TST_GEN_CTRL_OP ≠ 2 ∨ x.reading = true) ∧ x.addr % 4096 + x.len ≤ 4096) ∧
    (∃ (s : State) (i : Nat) (r : FabResp) (ts : List QTxn) (k : Nat) (x : GenReq), s.wf = true ∧ coreRuns s = true ∧ inboxOf s 18 2 =
      { ingress := i, txn := .resp r } :: ts ∧ respMalformed s r = false ∧ mfind s.unit0 r.tag = some (.gen k false) ∧ mfind s.test.reqs k = some x ∧
      x.left = 1 ∧ x.bad = none ∧ r.status = 0 ∧ getF s F.TST_GEN_CTRL_OP = 2 ∧ bitF s F.TST_GEN_CTRL_EN = true ∧ x.reading = false) ∧
    (∃ (s : State) (i : Nat) (r : FabResp) (ts : List QTxn) (k : Nat) (x : GenReq), s.wf = true ∧ coreRuns s = true ∧ inboxOf s 18 2 =
      { ingress := i, txn := .resp r } :: ts ∧ respMalformed s r = false ∧ mfind s.unit0 r.tag = some (.gen k false) ∧ mfind s.test.reqs k = some x ∧
      x.left = 1 ∧ x.bad = none ∧ r.status ≠ 0) ∧
    (∃ (s : State) (i : Nat) (r : FabResp) (ts : List QTxn) (k : Nat) (b : Bool), s.wf = true ∧ coreRuns s = true ∧ inboxOf s 18 2 =
      { ingress := i, txn := .resp r } :: ts ∧ respMalformed s r = false ∧ mfind s.unit0 r.tag = some (.gen k b) ∧ mfind s.test.reqs k = none) ∧
    (∃ (s : State) (k : Nat) (r : GenReq), mwf s.test.reqs = true ∧ mfind s.test.reqs k = some r ∧ r.left ≠ 0) ∧
    (∃ (s : State) (k : Nat), mfind s.test.reqs k = none) :=
    ⟨⟨(st [(F.HPT_CTRL_LINK_EN 0, 0)]), 0, .gardener, 1, 1, by decide +kernel⟩,
     ⟨{}, 0, .gardener, 1, by decide +kernel⟩,
     ⟨(st [(F.HPT_CTRL_LINK_EN 0, 1)]), 0, .gardener, 1, 1, by decide +kernel⟩,
     ⟨(st [(F.HPT_CTRL_LINK_EN 0, 0)]), 0, .gardener, 3, 9, by decide +kernel⟩,
     ⟨(st [(F.CFP_STATUS_STATE 0, 2)]), 64, .gardener, 1, by decide +kernel⟩,
     ⟨{}, 0, .gardener, 10, by decide +kernel⟩,
     ⟨{}, 0, .gardener, 41, by decide +kernel⟩,
     ⟨{}, 0, .gardener, 1, false, by decide +kernel⟩,
     ⟨(st [(F.TST_PORT_MODE 4, 1), (F.TST_LANE_CTRL_CHK_EN 64, 1)]), 64, by decide +kernel⟩,
     ⟨{}, 64, by decide +kernel⟩,
     ⟨(st [(F.TST_PORT_MODE 4, 1), (F.TST_LANE_CTRL_CHK_EN 64, 1), (F.TST_LANE_ERR_LOCK 64, 1)]), 64, by decide +kernel⟩,
     ⟨{}, 64, by decide +kernel⟩,
     ⟨(st [(F.CFP_STATUS_STATE 0, 2), (F.CFP_STATUS_CLK_RX 0, 1)]), .gardener, 0, false, 0, 0, 20, by decide +kernel⟩,
     ⟨(st [(F.TST_MARGIN_RESULT_BUSY, 1)]), .gardener, false, 0, 0, 20, by decide +kernel⟩,
     ⟨{}, .gardener, false, 0, 0, 41, by decide +kernel⟩,
     ⟨(st [(F.CFP_STATUS_CLK_RX 0, 0)]), 0, false, 0, 0, 20, by decide +kernel⟩,
     ⟨{ st [(F.TST_MARGIN_RESULT_BUSY, 1)] with test := { margin := some 3 } }, .gardener, 3, by decide +kernel⟩,
     ⟨{ st [(F.TST_MARGIN_RESULT_BUSY, 1)] with test := { margin := some 3 } }, 3, by decide +kernel⟩,
     ⟨{}, by decide +kernel⟩,
     ⟨{}, 1, by decide +kernel⟩,
     ⟨{}, by decide +kernel⟩,
     ⟨{ root := { queue := [{ index := 6208, value := 5, gardener := true }] } }, 0, by decide +kernel⟩,
     ⟨(st [(F.RST_SOFT_TST, 1)]), 0, 0, .gardener, by decide +kernel⟩,
     ⟨(st [(F.RST_SOFT_TST, 1)]), .gardener, by decide +kernel⟩,
     ⟨{}, .gardener, by decide +kernel⟩,
     ⟨(st [(F.TST_GEN_CTRL_EN, 1), (F.TST_GEN_CTRL_OUTSTANDING, 4), (F.TST_GEN_TARGET_NODE, 66), (F.TST_GEN_CTRL_LENM1, 63)]), .gardener,
       by decide +kernel⟩,
     ⟨{ st [(F.TST_GEN_CTRL_EN, 1), (F.TST_GEN_CTRL_OUTSTANDING, 4), (F.TST_GEN_TARGET_NODE, 66), (F.TST_GEN_CTRL_LENM1, 63)] with test := { reqs := [(0, { addr := 0, len := 64, reading := true, left := 1 })], serial := 1 } },
       .gardener, by decide +kernel⟩,
     ⟨{}, .gardener, false, by decide +kernel⟩,
     ⟨{ st [(F.GLB_NODE_VALID, 1), (F.TRL_CTRL_EN, 1), (F.TRL_CTRL_READY, 1), (F.CFP_STATUS_STATE 0, 2), (F.CFK_STATUS_LINK 0, 2), (F.TST_GEN_CTRL_EN, 1), (F.TST_GEN_CTRL_OUTSTANDING, 4), (F.TST_GEN_TARGET_NODE, 66), (F.TST_GEN_CTRL_LENM1, 63)] with trl := { table := row 1 (66 * 2 ^ 16) (2 ^ 20) }, hdg := { mgmtPlot := some 0, fence := [(0, [{ node := 66, base := 0, last := 4095, rd := true, wr := true, at_ := true }])] } },
       by decide +kernel⟩,
     ⟨{ st [(F.GLB_NODE_VALID, 1), (F.TRL_CTRL_EN, 1), (F.TRL_CTRL_READY, 1), (F.CFP_STATUS_STATE 0, 2), (F.CFK_STATUS_LINK 0, 2), (F.TST_GEN_CTRL_EN, 1), (F.TST_GEN_CTRL_OUTSTANDING, 4), (F.TST_GEN_TARGET_NODE, 66), (F.TST_GEN_CTRL_LENM1, 63)] with hdg := { mgmtPlot := some 0 } },
       by decide +kernel⟩,
     ⟨{}, by decide +kernel⟩,
     ⟨{ st [(F.PE_STATUS_STATE 0, 2), (F.TST_GEN_CTRL_CHECK, 1)] with pga := { inbox := [(146, [{ ingress := 4, txn := .resp { dest := 64, src := 66, tenant := 0xFFFF, tag := 7, status := 0, data := List.replicate 64 1 } }])] }, unit0 := [(7, .gen 0 false)], test := { reqs := [(0, { addr := 0, len := 64, reading := true, left := 1 })], serial := 1 } },
       4, { dest := 64, src := 66, tenant := 0xFFFF, tag := 7, status := 0, data := List.replicate 64 1 }, [], 0,
       { addr := 0, len := 64, reading := true, left := 1 }, by decide +kernel⟩,
     ⟨{ st [(F.PE_STATUS_STATE 0, 2), (F.TST_GEN_CTRL_OP, 2), (F.TST_GEN_CTRL_EN, 1)] with pga := { inbox := [(146, [{ ingress := 4, txn := .resp { dest := 64, src := 66, tenant := 0xFFFF, tag := 7, status := 0, data := List.replicate 64 1 } }])] }, unit0 := [(7, .gen 0 false)], test := { reqs := [(0, { addr := 0, len := 64, reading := false, left := 1 })], serial := 1 } },
       4, { dest := 64, src := 66, tenant := 0xFFFF, tag := 7, status := 0, data := List.replicate 64 1 }, [], 0,
       { addr := 0, len := 64, reading := false, left := 1 }, by decide +kernel⟩,
     ⟨{ st [(F.PE_STATUS_STATE 0, 2)] with pga := { inbox := [(146, [{ ingress := 4, txn := .resp { dest := 64, src := 66, tenant := 0xFFFF, tag := 7, status := 3, data := List.replicate 64 1 } }])] }, unit0 := [(7, .gen 0 false)], test := { reqs := [(0, { addr := 0, len := 64, reading := true, left := 1 })], serial := 1 } },
       4, { dest := 64, src := 66, tenant := 0xFFFF, tag := 7, status := 3, data := List.replicate 64 1 }, [], 0,
       { addr := 0, len := 64, reading := true, left := 1 }, by decide +kernel⟩,
     ⟨{ st [(F.PE_STATUS_STATE 0, 2)] with pga := { inbox := [(146, [{ ingress := 4, txn := .resp { dest := 64, src := 66, tenant := 0xFFFF, tag := 7, status := 0, data := List.replicate 64 1 } }])] }, unit0 := [(7, .gen 0 false)], test := {} },
       4, { dest := 64, src := 66, tenant := 0xFFFF, tag := 7, status := 0, data := List.replicate 64 1 }, [], 0, false, by decide +kernel⟩,
     ⟨{ st [(F.TST_GEN_CTRL_EN, 1), (F.TST_GEN_CTRL_OUTSTANDING, 4), (F.TST_GEN_TARGET_NODE, 66), (F.TST_GEN_CTRL_LENM1, 63)] with test := { reqs := [(0, { addr := 0, len := 64, reading := true, left := 1 })], serial := 1 } },
       0, { addr := 0, len := 64, reading := true, left := 1 }, by decide +kernel⟩,
     ⟨{}, 0, by decide +kernel⟩⟩

/-- The hypotheses of TendrilPins can be met. -/
theorem test_TendrilPins_hypotheses :
    (∃ (s : State) (n : Fin 24) (v : Word), bits v.toNat 0 3 ≠ 7 ∧ bits v.toNat 8 2 ≠ 3 ∧ tndSelOk (bits v.toNat 0 3) (bits v.toNat 16 8) = true ∧
      roleNeeds (bits v.toNat 0 3) ≤ tndAllow s n) ∧
    (∃ (s : State) (n : Fin 24) (v : Word), bits v.toNat 8 2 ≠ 3 ∧ tapDrives s = false ∧ roleNeeds (bits v.toNat 0 3) ≤ tndAllow s n ∧ (bits v.toNat 0
      3 = 3 ∨ bits v.toNat 0 3 = 5)) ∧
    (∃ (s : State) (n : Fin 24) (v : Word), bits v.toNat 8 2 ≠ 3 ∧ tapDrives s = false ∧ tndSelOk (bits v.toNat 0 3) (bits v.toNat 16 8) = true ∧
      roleNeeds (bits v.toNat 0 3) ≤ tndAllow s n ∧ (bits v.toNat 0 3 = 4 ∨ bits v.toNat 0 3 = 6)) ∧
    (∃ (v : Word), bits v.toNat 8 2 ≠ 3 ∧ bits v.toNat 0 3 < 3) ∧
    (∃ (s : State) (n : Fin 24) (v : Word), bits v.toNat 0 3 ≠ 7 ∧ bits v.toNat 8 2 ≠ 3 ∧ tndSelOk (bits v.toNat 0 3) (bits v.toNat 16 8) = true ∧
      tndAllow s n < roleNeeds (bits v.toNat 0 3)) ∧
    (∃ (v : Word), (bits v.toNat 0 3 = 7 ∨ bits v.toNat 8 2 = 3 ∨ tndSelOk (bits v.toNat 0 3) (bits v.toNat 16 8) = false)) ∧
    (∃ (s : State) (n : Fin 24) (l : Bool), bitOf (getF s F.GDN_TND_IN_LEVEL) n ≠ l) ∧
    (∃ (s : State) (n : Fin 24) (l : Bool), bitOf (getF s F.GDN_TND_IN_LEVEL) n = l) :=
    ⟨⟨{}, 0, 1, by decide +kernel⟩,
     ⟨{ hdg := { allow := 2 ^ 48 - 1 } }, 0, 0x85, by decide +kernel⟩,
     ⟨{ hdg := { allow := 2 ^ 48 - 1 } }, 0, 0x00004, by decide +kernel⟩,
     ⟨1, by decide +kernel⟩,
     ⟨{}, 0, 3, by decide +kernel⟩,
     ⟨7, by decide +kernel⟩,
     ⟨{}, 0, true, by decide +kernel⟩,
     ⟨{}, 0, false, by decide +kernel⟩⟩

/-- The hypotheses of StepRunsFront can be met. -/
theorem test_StepRunsFront_hypotheses :
    (∃ (s : State), s.pending = []) :=
    ⟨{ st [(F.TRL_STATUS_BUSY, 1), (F.PWM_WAKE_TIMER, 5)] with ticks := 999 }, by decide +kernel⟩

/-- The hypotheses of CommandsLeaveTheQueue can be met. -/
theorem test_CommandsLeaveTheQueue_hypotheses :
    (∃ (c : Instr) (s : State) (t : State), exec c s = .next t) :=
    ⟨(.functionLevelReset 0), {}, {}, rfl⟩

/-- The hypotheses of StepKeepsForm can be met. -/
theorem test_StepKeepsForm_hypotheses :
    (∃ (s : State) (t : State), s.wf = true ∧ step s = .next t) :=
    ⟨{}, (tick {}), by decide +kernel, rfl⟩
end Sys2Proof.Tests
end

section
/-!
SUPPORT. Field updates: what they leave of the other fields, and the pending bit of a source that is raised.
-/
namespace Sys2Proof.Proofs.Fields
open Sys2Proof.Machine

variable {s t u : State} {fs gs : List Fld}

/-! ### Every field but some -/

theorem fieldsBut_refl (s : State) (fs : List Fld) : FieldsBut s s fs := fun _ _ => rfl

theorem fieldsBut_trans (h : FieldsBut s t fs) (h' : FieldsBut t u fs) : FieldsBut s u fs :=
  fun g hg => (h' g hg).trans (h g hg)

theorem fieldsBut_mono (hs : fs ⊆ gs) (h : FieldsBut s t fs) : FieldsBut s t gs := fun g hg => h g fun f hf => hg f (hs hf)

theorem fieldsBut_setF {f : Fld} (v : Nat) (hf : f ∈ fs) (h : FieldsBut s t fs) : FieldsBut s (setF t f v) fs :=
  fun g hg => (getF_setF_ne t v (hg f hf)).trans (h g hg)

theorem fieldsBut_raise (n : Nat) (hf : F.EVG_PEND_PEND (n / 64) ∈ fs) (h : FieldsBut s t fs) : FieldsBut s (raise t n) fs :=
  fun g hg => (getF_raise_ne t n (hg _ hf)).trans (h g hg)

/-- Fields are read from the cells alone. -/
theorem fieldsBut_congr (hc : u.cells = t.cells) (h : FieldsBut s t fs) : FieldsBut s u fs :=
  fun g hg => (getF_congr hc g).trans (h g hg)

/-! ### Bits of fields -/

theorem bitF_congr {f : Fld} (h : getF t f = getF s f) : bitF t f = bitF s f := by simp [bitF, h]

theorem bitF_setF_ne {f g : Fld} (s : State) (v : Nat) (h : g.key ≠ f.key) : bitF (setF s f v) g = bitF s g :=
  bitF_congr (getF_setF_ne s v h)

theorem bitF_setF_one {f : Fld} (s : State) (hw : f.w = 1) : bitF (setF s f 1) f = true := by simp [bitF, getF_setF_same, hw]

theorem bitF_setF_zero {f : Fld} (s : State) : bitF (setF s f 0) f = false := by simp [bitF, getF_setF_same]

theorem testBit_setBit_same (n i : Nat) : (setBit n i).testBit i = true := by
  unfold setBit
  rw [bitOf_testBit]
  split_ifs with h
  · exact h
  · rw [Nat.add_comm, Nat.testBit_two_pow_add_eq, Bool.not_eq_true _ |>.mp h]; rfl

/-- A source that is not a Level source is pending once it is raised (R416). -/
theorem pending_raise {n : Nat} (s : State) (h : evgLevel s n = false) : Pending (raise s n) n := by
  have hr : raise s n = setF s (F.EVG_PEND_PEND (n / 64)) (setBit (getF s (F.EVG_PEND_PEND (n / 64))) (n % 64)) := by
    simp [raise, h]
  have hw : (F.EVG_PEND_PEND (n / 64)).w = 64 := rfl
  unfold Pending
  rw [hr, getF_setF_same, bitOf_testBit, hw, Nat.testBit_mod_two_pow, testBit_setBit_same]
  simp [Nat.mod_lt n]

end Sys2Proof.Proofs.Fields
end

section
/-!
SUPPORT. Trellis: the rules of a table write, of the checks of WRITE, of the scan and of TRL_CTRL and TRL_CMD (R121 to R126).
-/
namespace Sys2Proof.Proofs.Trellis
open Sys2Proof.Machine Sys2Proof.Proofs.Fields

variable {s t : State}

/-! ### Writing an entry (R123) -/

theorem mwf_table_of_wf (h : s.wf = true) : mwf s.trl.table = true := by
  simp only [State.wf, Bool.and_eq_true] at h
  obtain ⟨⟨-, htable⟩, -⟩ := h
  exact htable

theorem writeEntry_only (s : State) (i k r : Nat) : writeEntry s i k r = { s with trl := (writeEntry s i k r).trl } := rfl

theorem mwf_table_writeEntry (i k r : Nat) (h : mwf s.trl.table = true) : mwf (writeEntry s i k r).trl.table = true :=
  mwf_mset _ _ _ (mwf_mset _ _ _ h)

theorem mwf_struck_writeEntry (i k r : Nat) (h : mwf s.trl.struck = true) : mwf (writeEntry s i k r).trl.struck = true :=
  mwf_mdel i h

theorem entryKey_writeEntry_same (i k r : Nat) (h : mwf s.trl.table = true) : entryKey (writeEntry s i k r) i = k := by
  have hne : 2 * i ≠ 2 * i + 1 := by omega
  exact (mget_mset_ne r 0 hne (mwf_mset _ _ _ h)).trans (mget_mset_same _ k 0 h)

theorem entryResult_writeEntry_same (i k r : Nat) (h : mwf s.trl.table = true) : entryResult (writeEntry s i k r) i = r :=
  mget_mset_same _ r 0 (mwf_mset _ _ _ h)

theorem entryKey_writeEntry_ne {i j : Nat} (k r : Nat) (hj : j ≠ i) (h : mwf s.trl.table = true) :
    entryKey (writeEntry s i k r) j = entryKey s j := by
  have h0 : 2 * j ≠ 2 * i := by omega
  have h1 : 2 * j ≠ 2 * i + 1 := by omega
  exact (mget_mset_ne r 0 h1 (mwf_mset _ _ _ h)).trans (mget_mset_ne k 0 h0 h)

theorem entryResult_writeEntry_ne {i j : Nat} (k r : Nat) (hj : j ≠ i) (h : mwf s.trl.table = true) :
    entryResult (writeEntry s i k r) j = entryResult s j := by
  have h0 : 2 * j + 1 ≠ 2 * i := by omega
  have h1 : 2 * j + 1 ≠ 2 * i + 1 := by omega
  exact (mget_mset_ne r 0 h1 (mwf_mset _ _ _ h)).trans (mget_mset_ne k 0 h0 h)

theorem entryStruck_writeEntry_same (i k r : Nat) (h : mwf s.trl.struck = true) : entryStruck (writeEntry s i k r) i = false := by
  simp [entryStruck, writeEntry, mget_eq_mfind, mfind_mdel_same i h]

theorem entryStruck_writeEntry_ne {i j : Nat} (k r : Nat) (hj : j ≠ i) (h : mwf s.trl.struck = true) :
    entryStruck (writeEntry s i k r) j = entryStruck s j := by
  simp [entryStruck, writeEntry, mget_eq_mfind, mfind_mdel_ne hj h]

/-- An empty key word is well formed, whatever stands beside it (R106). -/
theorem trellisMalformed_zero (r : Nat) : trellisMalformed 0 r = false := rfl

/-! ### Emptying entries, as the scan does (R122) -/

/-- `t` holds every entry of `s` as it is there, or empty, and the same uncorrectable marks. -/
def Thinned (s t : State) : Prop :=
  ∀ i, entryStruck t i = entryStruck s i ∧
    (entryKey t i = entryKey s i ∧ entryResult t i = entryResult s i ∨ entryKey t i = 0 ∧ entryResult t i = 0)

theorem thinned_refl (s : State) : Thinned s s := fun _ => ⟨rfl, .inl ⟨rfl, rfl⟩⟩

theorem thinned_trans {u : State} (h : Thinned s t) (h' : Thinned t u) : Thinned s u := by
  intro i
  obtain ⟨hm, he⟩ := h i
  obtain ⟨hm', he'⟩ := h' i
  refine ⟨hm'.trans hm, ?_⟩
  rcases he' with ⟨hk, hr⟩ | he'
  · rw [hk, hr]; exact he
  · exact .inr he'

/-- An entry with a key of some class is none that was emptied. -/
theorem Thinned.entryKey_eq {i : Nat} (h : Thinned s t) (hc : keyClass (entryKey t i) ≠ 0) :
    entryKey t i = entryKey s i ∧ entryResult t i = entryResult s i := by
  rcases (h i).2 with he | ⟨hk, -⟩
  · exact he
  · rw [hk] at hc; exact absurd rfl hc

theorem Thinned.entryKey_zero {i : Nat} (h : Thinned s t) (hz : entryKey s i = 0) : entryKey t i = 0 := by
  rcases (h i).2 with ⟨hk, -⟩ | ⟨hk, -⟩
  · rw [hk, hz]
  · exact hk

theorem keyClass_ne_zero_of_scanBad {i : Nat} (h : scanBad s i = true) : keyClass (entryKey s i) ≠ 0 := by
  intro hc
  simp [scanBad, hc] at h

theorem entryStruck_of_scanBad {i : Nat} (h : scanBad s i = true) : entryStruck s i = false := by
  by_contra hs
  simp [scanBad, hs] at h

/-- A malformed entry is bad unless it is struck (R122). -/
theorem not_malformed_of_not_scanBad {i : Nat} (h : scanBad s i = false) (hs : entryStruck s i = false) :
    trellisMalformed (entryKey s i) (entryResult s i) = false := by
  by_contra hm
  rw [Bool.not_eq_false] at hm
  have hc : (keyClass (entryKey s i) != 0) = true := by
    unfold trellisMalformed at hm
    exact (Bool.and_eq_true_iff.1 hm).1
  simp [scanBad, hs, hm, hc] at h

/-- Emptying entries takes twins away and makes none. -/
theorem Thinned.twin_of_twin {i j : Nat} (h : Thinned s t) (hi : entryKey t i = entryKey s i) (ht : twin t i j = true) : twin s i j = true := by
  have hc : keyClass (entryKey t j) ≠ 0 := by
    intro hc
    simp [twin, hc] at ht
  unfold twin at ht ⊢
  rwa [← hi, ← (h.entryKey_eq hc).1, ← (h j).1]

/-- Emptying entries makes none bad. -/
theorem Thinned.scanBad_of_scanBad {i : Nat} (h : Thinned s t) (hb : scanBad t i = true) : scanBad s i = true := by
  obtain ⟨hk, hr⟩ := h.entryKey_eq (keyClass_ne_zero_of_scanBad hb)
  simp only [scanBad, Bool.and_eq_true, Bool.or_eq_true, List.any_eq_true] at hb ⊢
  obtain ⟨hlive, hbad⟩ := hb
  rw [hk, (h i).1] at hlive
  rw [hk, hr] at hbad
  exact ⟨hlive, hbad.imp_right fun ⟨d, hd, ht⟩ => ⟨d, hd, h.twin_of_twin hk ht⟩⟩

theorem thinned_writeEntry {i : Nat} (ht : mwf s.trl.table = true) (hs : mwf s.trl.struck = true) (hb : scanBad s i = true) :
    Thinned s (writeEntry s i 0 0) := by
  intro j
  by_cases hj : j = i
  · subst hj
    exact ⟨(entryStruck_writeEntry_same j 0 0 hs).trans (entryStruck_of_scanBad hb).symm,
      .inr ⟨entryKey_writeEntry_same j 0 0 ht, entryResult_writeEntry_same j 0 0 ht⟩⟩
  · exact ⟨entryStruck_writeEntry_ne 0 0 hj hs, .inl ⟨entryKey_writeEntry_ne 0 0 hj ht, entryResult_writeEntry_ne 0 0 hj ht⟩⟩

/-! ### The scan (R122) -/

theorem scanAll_only (s : State) (n : Nat) (is : List Nat) : (scanAll s n is).1 = { s with trl := (scanAll s n is).1.trl } := by
  induction is generalizing s n with
  | nil => rfl
  | cons i is ih =>
    unfold scanAll
    split_ifs
    · rw [ih]; rfl
    · exact ih s n

theorem thinned_scanAll (n : Nat) (is : List Nat) (ht : mwf s.trl.table = true) (hs : mwf s.trl.struck = true) :
    Thinned s (scanAll s n is).1 := by
  induction is generalizing s n with
  | nil => exact thinned_refl s
  | cons i is ih =>
    unfold scanAll
    split_ifs with hb
    · exact thinned_trans (thinned_writeEntry ht hs hb) (ih _ (mwf_table_writeEntry i 0 0 ht) (mwf_struck_writeEntry i 0 0 hs))
    · exact ih n ht hs

/-- The scan leaves an entry that it does not find bad: the entries it empties before it reach that one make it no worse. -/
theorem scanAll_keeps {i : Nat} (n : Nat) (is : List Nat) (ht : mwf s.trl.table = true) (hs : mwf s.trl.struck = true)
    (hi : scanBad s i = false) :
    entryKey (scanAll s n is).1 i = entryKey s i ∧ entryResult (scanAll s n is).1 i = entryResult s i := by
  induction is generalizing s n with
  | nil => exact ⟨rfl, rfl⟩
  | cons j is ih =>
    unfold scanAll
    split_ifs with hb
    · have hij : i ≠ j := by rintro rfl; simp [hb] at hi
      have hi' : scanBad (writeEntry s j 0 0) i = false := by
        by_contra h
        rw [(thinned_writeEntry ht hs hb).scanBad_of_scanBad (Bool.not_eq_false _ |>.mp h)] at hi
        exact absurd hi (by decide)
      obtain ⟨hk, hr⟩ := ih (n + 1) (mwf_table_writeEntry j 0 0 ht) (mwf_struck_writeEntry j 0 0 hs) hi'
      exact ⟨hk.trans (entryKey_writeEntry_ne 0 0 hij ht), hr.trans (entryResult_writeEntry_ne 0 0 hij ht)⟩
    · exact ih n ht hs hi

/-- No entry that the scan has passed is malformed, but for struck ones. -/
theorem scanAll_not_malformed {i : Nat} (n : Nat) (is : List Nat) (ht : mwf s.trl.table = true) (hs : mwf s.trl.struck = true)
    (hi : i ∈ is) (hst : entryStruck s i = false) :
    trellisMalformed (entryKey (scanAll s n is).1 i) (entryResult (scanAll s n is).1 i) = false := by
  induction is generalizing s n with
  | nil => cases hi
  | cons j is ih =>
    unfold scanAll
    split_ifs with hb
    · have ht' := mwf_table_writeEntry j 0 0 ht
      have hs' := mwf_struck_writeEntry j 0 0 hs
      rcases List.mem_cons.1 hi with rfl | hi
      · rw [(thinned_scanAll (n + 1) is ht' hs').entryKey_zero (entryKey_writeEntry_same i 0 0 ht)]
        exact trellisMalformed_zero _
      · exact ih _ ht' hs' hi (((thinned_writeEntry ht hs hb) i).1.trans hst)
    · rcases List.mem_cons.1 hi with rfl | hi
      · obtain ⟨hk, hr⟩ := scanAll_keeps n is ht hs (Bool.not_eq_true _ |>.mp hb)
        rw [hk, hr]
        exact not_malformed_of_not_scanBad (Bool.not_eq_true _ |>.mp hb) hst
      · exact ih n ht hs hi hst

theorem mget_of_not_listed {α : Type} {m : SMap α} {i : Nat} (d : α) (h : ∀ e ∈ m, e.1 ≠ i) : mget m i d = d := by
  induction m with
  | nil => rfl
  | cons e m ih =>
    obtain ⟨k, v⟩ := e
    have hk : i ≠ k := fun hk => h _ List.mem_cons_self hk.symm
    simp [mget, hk, ih fun e he => h e (List.mem_cons_of_mem _ he)]

/-- An index the scan does not visit holds an empty key word. -/
theorem entryKey_of_not_tableIndex {i : Nat} (h : i ∉ tableIndexes s) : entryKey s i = 0 := by
  refine mget_of_not_listed 0 fun e he hk => h ?_
  rw [tableIndexes, List.mem_eraseDups, List.mem_map]
  exact ⟨e, he, by omega⟩

/-! ### TRL_CTRL (R122) -/

/-- With EN 0 no lookup hits (R122). -/
theorem trellisLookup_of_disabled (h : bitF s F.TRL_CTRL_EN = false) (cls key : Nat) : trellisLookup s cls key = none := by
  simp [trellisLookup, trellisReady, h]

/-- A write of TRL_CTRL that reaches it sets EPOCH, and starts the scan, stops Trellis, or does no more. -/
theorem trlCtrl_cases {who : Party} (v : Nat) (h : regOpen s who A.TRL_CTRL = true) :
    let u := setF s F.TRL_CTRL_EPOCH (bits v 2 1)
    (bitOf v 0 = true ∧ bitF s F.TRL_CTRL_EN = false ∧
      trlCtrl s who v = { setF u F.TRL_CTRL_EN 1 with trl := { s.trl with scan := true } }) ∨
    (bitOf v 0 = false ∧ bitF s F.TRL_CTRL_EN = true ∧
      trlCtrl s who v = { setF (setF u F.TRL_CTRL_EN 0) F.TRL_CTRL_READY 0 with trl := { s.trl with scan := false } }) ∨
    (bitF s F.TRL_CTRL_EN = bitOf v 0 ∧ trlCtrl s who v = u) := by
  have he : bitF (setF s F.TRL_CTRL_EPOCH (bits v 2 1)) F.TRL_CTRL_EN = bitF s F.TRL_CTRL_EN := bitF_setF_ne s _ (by decide)
  cases hv : bitOf v 0 <;> cases hb : bitF s F.TRL_CTRL_EN <;> simp [trlCtrl, h, he, hv, hb]

theorem trlCtrl_closed {who : Party} (v : Nat) (h : regOpen s who A.TRL_CTRL = false) : trlCtrl s who v = s := by simp [trlCtrl, h]

/-! ### TRL_CMD (R123, R125, R126) -/

/-- The state in which a command runs: INDEX is recorded and BUSY stands. -/
def cmdStart (s : State) (i : Nat) : State := setF (setF s F.TRL_STATUS_BUSY 1) F.TRL_STATUS_INDEX i

theorem trlCmd_idle {who : Party} (i : Nat) (act : State → State) (h : regOpen s who A.TRL_CMD = true)
    (hb : bitF s F.TRL_STATUS_BUSY = false) : trlCmd s who i act = act (cmdStart s i) := by
  simp [trlCmd, cmdStart, h, hb]

theorem trlCmd_busy {who : Party} (i : Nat) (act : State → State) (h : regOpen s who A.TRL_CMD = true)
    (hb : bitF s F.TRL_STATUS_BUSY = true) : trlCmd s who i act = trlOverrun s := by
  simp [trlCmd, h, hb]

theorem trlCmd_closed {who : Party} (i : Nat) (act : State → State) (h : regOpen s who A.TRL_CMD = false) : trlCmd s who i act = s := by
  simp [trlCmd, h]

theorem trlOverrun_only (s : State) : OnlyCells s (trlOverrun s) := by
  have h := raise_only (setF s F.TRL_STATUS_OVERRUN 1) 1240
  unfold OnlyCells at h ⊢
  rw [trlOverrun, h]
  rfl

/-- The state in which a command runs differs in INDEX and BUSY alone. -/
theorem getF_cmdStart_ne {f : Fld} (i : Nat) (hi : f.key ≠ F.TRL_STATUS_INDEX.key) (hb : f.key ≠ F.TRL_STATUS_BUSY.key) :
    getF (cmdStart s i) f = getF s f := (getF_setF_ne _ _ hi).trans (getF_setF_ne _ _ hb)

/-- The checks of WRITE read the staged words, READY and the table alone, so the command's start changes none of them. -/
theorem trlCheck_cmdStart (s : State) (i j : Nat) : trlCheck (cmdStart s i) j = trlCheck s j := by
  have h0 : getF (cmdStart s i) F.TRL_STAGE0_V = getF s F.TRL_STAGE0_V := getF_cmdStart_ne i (by decide) (by decide)
  have h1 : getF (cmdStart s i) F.TRL_STAGE1_V = getF s F.TRL_STAGE1_V := getF_cmdStart_ne i (by decide) (by decide)
  have hr : bitF (cmdStart s i) F.TRL_CTRL_READY = bitF s F.TRL_CTRL_READY := bitF_congr (getF_cmdStart_ne i (by decide) (by decide))
  unfold trlCheck
  rw [h0, h1, hr]
  rfl

theorem trlCheck_lt (s : State) (i : Nat) : trlCheck s i < 16 := by
  unfold trlCheck
  dsimp only
  split_ifs <;> decide

theorem trlCheck_scanning {i : Nat} (h : bitF s F.TRL_CTRL_READY = false) : trlCheck s i = 5 := by simp [trlCheck, h]

/-- WRITE, once taken: a passing entry is written, and RESULT tells (R123). -/
theorem trlWrite_cmdStart (s : State) (i : Nat) :
    trlWrite (cmdStart s i) i =
      if trlCheck s i = 0 then trlResult (writeEntry (cmdStart s i) i (getF s F.TRL_STAGE0_V) (getF s F.TRL_STAGE1_V)) 0
      else trlResult (cmdStart s i) (trlCheck s i) := by
  unfold trlWrite
  rw [trlCheck_cmdStart, getF_cmdStart_ne (f := F.TRL_STAGE0_V) i (by decide) (by decide),
    getF_cmdStart_ne (f := F.TRL_STAGE1_V) i (by decide) (by decide)]
  split_ifs with h <;> simp_all

/-- The status that a command leaves: its RESULT, its INDEX and BUSY; no other field has changed. -/
theorem trlResult_status {r i : Nat} (hc : t.cells = (cmdStart s i).cells) (hr : r < 16) (hi : i < 65536) :
    getF (trlResult t r) F.TRL_STATUS_RESULT = r ∧ getF (trlResult t r) F.TRL_STATUS_INDEX = i ∧
      bitF (trlResult t r) F.TRL_STATUS_BUSY = true ∧
      FieldsBut s (trlResult t r) [F.TRL_STATUS_RESULT, F.TRL_STATUS_INDEX, F.TRL_STATUS_BUSY] := by
  refine ⟨(getF_setF_same t _ r).trans (Nat.mod_eq_of_lt hr), ?_, ?_, ?_⟩
  · calc getF (trlResult t r) F.TRL_STATUS_INDEX = getF t F.TRL_STATUS_INDEX := getF_setF_ne t r (by decide)
      _ = getF (cmdStart s i) F.TRL_STATUS_INDEX := getF_congr hc _
      _ = i := (getF_setF_same _ _ i).trans (Nat.mod_eq_of_lt hi)
  · calc bitF (trlResult t r) F.TRL_STATUS_BUSY = bitF t F.TRL_STATUS_BUSY := bitF_setF_ne t r (by decide)
      _ = bitF (cmdStart s i) F.TRL_STATUS_BUSY := bitF_congr (getF_congr hc _)
      _ = bitF (setF s F.TRL_STATUS_BUSY 1) F.TRL_STATUS_BUSY := bitF_setF_ne _ _ (by decide)
      _ = true := bitF_setF_one s rfl
  · have hs : FieldsBut s (cmdStart s i) [F.TRL_STATUS_RESULT, F.TRL_STATUS_INDEX, F.TRL_STATUS_BUSY] :=
      fieldsBut_setF _ (by simp) (fieldsBut_setF _ (by simp) (fieldsBut_refl s _))
    exact fieldsBut_setF r (by simp) (fieldsBut_congr hc hs)

/-! ### The commands -/

/-- R122: a write of TRL_CTRL. -/
theorem trellisCtrlWrite_runs (s : State) (who : Party) (v : Word) (h : regOpen s who A.TRL_CTRL = true) :
    Runs (.trellisCtrlWrite who v) s fun t =>
      getF t F.TRL_CTRL_EPOCH = bits v.toNat 2 1 ∧ bitF t F.TRL_CTRL_EN = bitOf v.toNat 0 ∧ t.trl.table = s.trl.table ∧ t.trl.struck = s.trl.struck ∧
      t = { s with cells := t.cells, trl := t.trl } ∧ FieldsBut s t [F.TRL_CTRL_EPOCH, F.TRL_CTRL_EN, F.TRL_CTRL_READY] ∧
      (bitOf v.toNat 0 = true → bitF s F.TRL_CTRL_EN = false → t.trl.scan = true) ∧
      (bitOf v.toNat 0 = true → bitF s F.TRL_CTRL_EN = true → t.trl = s.trl ∧ getF t F.TRL_CTRL_READY = getF s F.TRL_CTRL_READY) ∧
      (bitOf v.toNat 0 = false → ∀ cls key, trellisLookup t cls key = none) := by
  refine ⟨trlCtrl s who v.toNat, rfl, ?_⟩
  have hu : FieldsBut s (setF s F.TRL_CTRL_EPOCH (bits v.toNat 2 1)) [F.TRL_CTRL_EPOCH, F.TRL_CTRL_EN, F.TRL_CTRL_READY] :=
    fieldsBut_setF _ (by simp) (fieldsBut_refl s _)
  have hepoch : getF (setF s F.TRL_CTRL_EPOCH (bits v.toNat 2 1)) F.TRL_CTRL_EPOCH = bits v.toNat 2 1 :=
    (getF_setF_same s _ _).trans (Nat.mod_mod _ _)
  rcases trlCtrl_cases v.toNat h with ⟨hv, he, ht⟩ | ⟨hv, he, ht⟩ | ⟨hv, ht⟩
  · have hen : bitF (trlCtrl s who v.toNat) F.TRL_CTRL_EN = true := ht ▸ bitF_setF_one _ rfl
    refine ⟨?_, hen.trans hv.symm, by rw [ht], by rw [ht], by rw [ht]; rfl, ?_, fun _ _ => by rw [ht], ?_, ?_⟩
    · rw [ht]; exact (getF_setF_ne _ _ (by decide)).trans hepoch
    · rw [ht]; exact fieldsBut_setF _ (by simp) hu
    · simp [he]
    · simp [hv]
  · have hen : bitF (trlCtrl s who v.toNat) F.TRL_CTRL_EN = false :=
      ht ▸ (bitF_setF_ne _ _ (by decide)).trans (bitF_setF_zero _)
    refine ⟨?_, hen.trans hv.symm, by rw [ht], by rw [ht], by rw [ht]; rfl, ?_, ?_, ?_, fun _ => trellisLookup_of_disabled hen⟩
    · rw [ht]; exact (getF_setF_ne _ _ (by decide)).trans ((getF_setF_ne _ _ (by decide)).trans hepoch)
    · rw [ht]; exact fieldsBut_setF _ (by simp) (fieldsBut_setF _ (by simp) hu)
    · simp [hv]
    · simp [hv]
  · have hen : bitF (trlCtrl s who v.toNat) F.TRL_CTRL_EN = bitOf v.toNat 0 :=
      ht ▸ (bitF_setF_ne s _ (by decide)).trans hv
    refine ⟨ht ▸ hepoch, hen, by rw [ht]; rfl, by rw [ht]; rfl, by rw [ht]; rfl, ht ▸ hu, ?_, ?_, fun h0 => trellisLookup_of_disabled (hen.trans h0)⟩
    · intro h1 h0; rw [hv, h1] at h0; cases h0
    · intro _ _; rw [ht]; exact ⟨rfl, getF_setF_ne s _ (by decide)⟩

/-- R122: the end of the scan. -/
theorem trellisScanDone_runs (s : State) (hwf : mwf s.trl.table = true) (hst : mwf s.trl.struck = true) (hscan : s.trl.scan = true) :
    Runs .trellisScanDone s fun t =>
      bitF t F.TRL_CTRL_READY = true ∧ t.trl.scan = false ∧ t = { s with cells := t.cells, trl := t.trl } ∧
      FieldsBut s t [F.TRL_STATUS_BAD_COUNT, F.TRL_CTRL_READY] ∧
      (∀ i, scanBad s i = false → entryKey t i = entryKey s i ∧ entryResult t i = entryResult s i) ∧
      (∀ i, entryStruck s i = false → trellisMalformed (entryKey t i) (entryResult t i) = false) := by
  let u := scanAll s 0 (tableIndexes s)
  let t := { setF (setF u.1 F.TRL_STATUS_BAD_COUNT (min u.2 0xFFFF)) F.TRL_CTRL_READY 1 with trl := { u.1.trl with scan := false } }
  have hexec : exec .trellisScanDone s = .next t := by
    change execTrellisScanDone s = _
    simp [execTrellisScanDone, hscan, t, u]
  have honly : u.1 = { s with trl := u.1.trl } := scanAll_only s 0 (tableIndexes s)
  refine ⟨t, hexec, bitF_setF_one _ rfl, rfl, ?_, ?_, fun i hi => scanAll_keeps 0 (tableIndexes s) hwf hst hi, fun i hi => ?_⟩
  · simp only [t]; rw [honly]; rfl
  · have hu : FieldsBut s u.1 [F.TRL_STATUS_BAD_COUNT, F.TRL_CTRL_READY] := fieldsBut_congr (by rw [honly]) (fieldsBut_refl s _)
    exact fieldsBut_setF _ (by simp) (fieldsBut_setF _ (by simp) hu)
  · by_cases hm : i ∈ tableIndexes s
    · exact scanAll_not_malformed 0 (tableIndexes s) hwf hst hm hi
    · have hz : entryKey t i = 0 :=
        (thinned_scanAll 0 (tableIndexes s) hwf hst).entryKey_zero (entryKey_of_not_tableIndex hm)
      rw [hz]
      exact trellisMalformed_zero _

/-- R123, R126: WRITE of an entry that passes every check. -/
theorem trellisWrite_passes_runs (s : State) (who : Party) (i : Fin 65536) (ht : mwf s.trl.table = true) (hs : mwf s.trl.struck = true)
    (ho : regOpen s who A.TRL_CMD = true) (hb : bitF s F.TRL_STATUS_BUSY = false) (hc : trlCheck s i = 0) :
    Runs (.trellisWrite who i) s fun t =>
      entryKey t i = getF s F.TRL_STAGE0_V ∧ entryResult t i = getF s F.TRL_STAGE1_V ∧ entryStruck t i = false ∧
      (∀ j, j ≠ i.val → entryKey t j = entryKey s j ∧ entryResult t j = entryResult s j) ∧
      getF t F.TRL_STATUS_RESULT = 0 ∧ getF t F.TRL_STATUS_INDEX = i.val ∧ bitF t F.TRL_STATUS_BUSY = true ∧ t = { s with cells := t.cells, trl := t.trl } ∧
      FieldsBut s t [F.TRL_STATUS_RESULT, F.TRL_STATUS_INDEX, F.TRL_STATUS_BUSY] := by
  let t := trlResult (writeEntry (cmdStart s i) i (getF s F.TRL_STAGE0_V) (getF s F.TRL_STAGE1_V)) 0
  have hexec : exec (.trellisWrite who i) s = .next t := by
    change Host.Outcome.next (trlCmd s who i fun s => trlWrite s i) = _
    rw [trlCmd_idle i.val _ ho hb, trlWrite_cmdStart, if_pos hc]
  obtain ⟨hres, hidx, hbusy, hframe⟩ :=
    trlResult_status (t := writeEntry (cmdStart s i) i (getF s F.TRL_STAGE0_V) (getF s F.TRL_STAGE1_V)) rfl (by decide : 0 < 16) i.isLt
  exact ⟨t, hexec, entryKey_writeEntry_same i _ _ ht, entryResult_writeEntry_same i _ _ ht, entryStruck_writeEntry_same i _ _ hs,
    fun j hj => ⟨entryKey_writeEntry_ne _ _ hj ht, entryResult_writeEntry_ne _ _ hj ht⟩, hres, hidx, hbusy, rfl, hframe⟩

/-- R123: WRITE of an entry that fails a check ends with the RESULT of that check. -/
theorem trellisWrite_fails_runs (s : State) (who : Party) (i : Fin 65536) (ho : regOpen s who A.TRL_CMD = true)
    (hb : bitF s F.TRL_STATUS_BUSY = false) (hc : trlCheck s i ≠ 0) :
    Runs (.trellisWrite who i) s fun t =>
      getF t F.TRL_STATUS_RESULT = trlCheck s i ∧ t.trl = s.trl ∧ OnlyCells s t ∧ FieldsBut s t [F.TRL_STATUS_RESULT, F.TRL_STATUS_INDEX, F.TRL_STATUS_BUSY] ∧
      (bitF s F.TRL_CTRL_READY = false → getF t F.TRL_STATUS_RESULT = 5) := by
  have hexec : exec (.trellisWrite who i) s = .next (trlResult (cmdStart s i) (trlCheck s i)) := by
    change Host.Outcome.next (trlCmd s who i fun s => trlWrite s i) = _
    rw [trlCmd_idle i.val _ ho hb, trlWrite_cmdStart, if_neg hc]
  obtain ⟨hres, -, -, hframe⟩ := trlResult_status (s := s) rfl (trlCheck_lt s i) i.isLt
  exact ⟨_, hexec, hres, rfl, rfl, hframe, fun hr => hres.trans (trlCheck_scanning hr)⟩

/-- R125: INVALIDATE. -/
theorem trellisInvalidate_runs (s : State) (who : Party) (i : Fin 65536) (ht : mwf s.trl.table = true) (ho : regOpen s who A.TRL_CMD = true)
    (hb : bitF s F.TRL_STATUS_BUSY = false) :
    Runs (.trellisInvalidate who i) s fun t =>
      entryKey t i = 0 ∧ entryResult t i = 0 ∧ (∀ j, j ≠ i.val → entryKey t j = entryKey s j ∧ entryResult t j = entryResult s j) ∧
      getF t F.TRL_STATUS_RESULT = 0 ∧ getF t F.TRL_STATUS_INDEX = i.val ∧ t = { s with cells := t.cells, trl := t.trl } ∧
      FieldsBut s t [F.TRL_STATUS_RESULT, F.TRL_STATUS_INDEX, F.TRL_STATUS_BUSY] := by
  have hexec : exec (.trellisInvalidate who i) s = .next (trlResult (writeEntry (cmdStart s i) i 0 0) 0) :=
    congrArg Host.Outcome.next (trlCmd_idle i.val (fun s => trlResult (writeEntry s i 0 0) 0) ho hb)
  obtain ⟨hres, hidx, -, hframe⟩ := trlResult_status (t := writeEntry (cmdStart s i) i 0 0) rfl (by decide : 0 < 16) i.isLt
  exact ⟨_, hexec, entryKey_writeEntry_same i _ _ ht, entryResult_writeEntry_same i _ _ ht,
    fun j hj => ⟨entryKey_writeEntry_ne _ _ hj ht, entryResult_writeEntry_ne _ _ hj ht⟩, hres, hidx, rfl, hframe⟩

/-- R125, R126: what a command written while BUSY is 1 does. -/
theorem trlOverrun_effect (s : State) :
    bitF (trlOverrun s) F.TRL_STATUS_OVERRUN = true ∧ Pending (trlOverrun s) 1240 ∧ OnlyCells s (trlOverrun s) ∧
      FieldsBut s (trlOverrun s) [F.TRL_STATUS_OVERRUN, F.EVG_PEND_PEND 19] := by
  refine ⟨?_, pending_raise _ rfl, trlOverrun_only s, ?_⟩
  · exact (bitF_congr (getF_raise_ne _ 1240 (by decide))).trans (bitF_setF_one s rfl)
  · exact fieldsBut_raise 1240 (by simp) (fieldsBut_setF 1 (by simp) (fieldsBut_refl s _))

/-- Each of the three commands is one write of TRL_CMD. -/
theorem exec_trlCmd {c : Instr} {who : Party} {i : Fin 65536}
    (hc : c ∈ [Instr.trellisWrite who i, .trellisInvalidate who i, .trellisFind who i]) (s : State) :
    ∃ act, exec c s = .next (trlCmd s who i act) := by
  simp only [List.mem_cons, List.not_mem_nil, or_false] at hc
  rcases hc with rfl | rfl | rfl <;> exact ⟨_, rfl⟩

/-- Settles O25: each clause is the rule of its command above; the scan's clauses hold because emptying an entry makes no other one bad. -/
theorem trellisControlAndWrites : Obligations.TrellisControlAndWrites := by
  refine ⟨trellisCtrlWrite_runs, fun s hwf hst hscan => trellisScanDone_runs s (mwf_table_of_wf hwf) hst hscan,
    fun s who i hwf hst ho hb hc => trellisWrite_passes_runs s who i (mwf_table_of_wf hwf) hst ho hb hc, trellisWrite_fails_runs,
    fun s who i hwf ho hb => trellisInvalidate_runs s who i (mwf_table_of_wf hwf) ho hb, ?_, ?_⟩
  · intro s who i ho hb c hc
    obtain ⟨act, hexec⟩ := exec_trlCmd hc s
    rw [trlCmd_busy i act ho hb] at hexec
    exact ⟨_, hexec, trlOverrun_effect s⟩
  · intro s who i v high
    refine ⟨fun ho => ?_, fun ho c hc => ?_, fun ho => ?_⟩
    · exact congrArg Host.Outcome.next (trlCtrl_closed v.toNat ho)
    · obtain ⟨act, hexec⟩ := exec_trlCmd hc s
      rwa [trlCmd_closed i act ho] at hexec
    · change Host.Outcome.next (tableWordWrite s who i high v.toNat) = _
      simp [tableWordWrite, ho]

end Sys2Proof.Proofs.Trellis
end

section
/-!
SUPPORT. Register writes: what a write leaves in each bit of each field by its access type (R11 to R13), and that the plain registers
take nothing else.
-/
namespace Sys2Proof.Proofs.Registers
open Sys2Proof.Machine Sys2Proof.Proofs.Fields

variable {s t : State} {w : RegWr} {a : Nat}

/-! ### Bits of numbers -/

theorem clrBits_eq_ldiff (n m : Nat) : clrBits n m = Nat.ldiff n m := by
  change n - (n &&& m) = Nat.ldiff n m
  induction n using Nat.binaryRec generalizing m with
  | zero => exact (Nat.zero_sub _).trans (Nat.zero_of_testBit_eq_false fun i => by simp [Nat.testBit_ldiff]).symm
  | bit b n ih =>
    obtain ⟨c, m, rfl⟩ : ∃ c m', m = Nat.bit c m' := ⟨m.bodd, m.div2, (Nat.bit_bodd_div2 m).symm⟩
    have hle : n &&& m ≤ n := Nat.and_le_left
    rw [Nat.land_bit, Nat.ldiff_bit, ← ih m]
    cases b <;> cases c <;> simp [Nat.bit_val] <;> omega

theorem testBit_clrBits (n m i : Nat) : (clrBits n m).testBit i = (n.testBit i && !m.testBit i) := by
  rw [clrBits_eq_ldiff, Nat.testBit_ldiff]

theorem testBit_bits (v lo n i : Nat) : (bits v lo n).testBit i = (decide (i < n) && v.testBit (lo + i)) := by
  simp [bits, Nat.testBit_mod_two_pow, Nat.testBit_div_two_pow, Nat.add_comm]

/-! ### The write an access makes (R13) -/

/-- A write brings no bit that it does not write. -/
def Masked (w : RegWr) : Prop := ∀ k, w.mask.testBit k = false → w.val.testBit k = false

theorem masked_regWr (addr : Nat) (wide : Bool) (v : Word) : Masked (regWr addr wide v.toNat) := by
  intro k hk
  unfold regWr at hk ⊢
  split_ifs at hk ⊢
  · have hm : lowHalf + highHalf = 2 ^ 64 - 1 := by decide
    rw [hm, Nat.testBit_two_pow_sub_one, decide_eq_false_iff_not, not_lt] at hk
    exact Nat.testBit_lt_two_pow (lt_of_lt_of_le v.isLt (Nat.pow_le_pow_right (by decide) hk))
  · unfold lowHalf at hk
    rw [Nat.testBit_two_pow_sub_one] at hk
    rw [Nat.testBit_mod_two_pow, hk, Bool.false_and]
  · unfold highHalf lowHalf at hk
    rw [Nat.testBit_mul_two_pow, Nat.testBit_two_pow_sub_one] at hk
    rw [Nat.testBit_mul_two_pow, Nat.testBit_mod_two_pow, ← Bool.and_assoc, hk, Bool.false_and]

/-! ### One field (R11, R12) -/

theorem testBit_merged (s : State) (w : RegWr) (f : Fld) {i : Nat} (hi : i < f.w) :
    (merged s w f).testBit i = ((getF s f).testBit i && !w.mask.testBit (f.lo + i) || w.val.testBit (f.lo + i)) := by
  change (clrBits (getF s f) (bits w.mask f.lo f.w) ||| w.brings f).testBit i = _
  simp [RegWr.brings, testBit_clrBits, testBit_bits, hi]

theorem not_written_of_not_touches {f : Fld} (h : w.touches f = false) {i : Nat} (hi : i < f.w) : w.mask.testBit (f.lo + i) = false := by
  have hz : bits w.mask f.lo f.w = 0 := by simpa [RegWr.touches] using h
  simpa [testBit_bits, hi] using congrArg (fun n => n.testBit i) hz

theorem fieldWrite_not_touched {g : RegFld} {f : Fld} (h : w.touches f = false) : fieldWrite s w g f = s := by simp [fieldWrite, h]

/-- A write of a field does nothing, or sets that field. -/
theorem fieldWrite_cases (s : State) (w : RegWr) (g : RegFld) (f : Fld) :
    fieldWrite s w g f = s ∨ ∃ v, fieldWrite s w g f = setF s f v := by
  cases ht : w.touches f with
  | false => exact .inl (fieldWrite_not_touched ht)
  | true =>
    cases hg : g.acc with
    | rw | rwl =>
      cases hr : g.reserved (merged s w f) with
      | true => exact .inl (by simp [fieldWrite, ht, hg, hr])
      | false => exact .inr ⟨merged s w f, by simp [fieldWrite, ht, hg, hr]⟩
    | rws | w1c | w1s => exact .inr ⟨_, by simp only [fieldWrite, ht, hg]; rfl⟩
    | ro | rwp | wo | setclr => exact .inl (by simp [fieldWrite, hg])

theorem fieldWrite_frame (s : State) (w : RegWr) (g : RegFld) (f : Fld) : FieldsBut s (fieldWrite s w g f) [f] := by
  rcases fieldWrite_cases s w g f with h | ⟨v, h⟩ <;> rw [h]
  · exact fieldsBut_refl s _
  · exact fieldsBut_setF v List.mem_cons_self (fieldsBut_refl s _)

theorem fieldWrite_only (s : State) (w : RegWr) (g : RegFld) (f : Fld) : OnlyCells s (fieldWrite s w g f) := by
  rcases fieldWrite_cases s w g f with h | ⟨v, h⟩ <;> rw [h] <;> rfl

theorem bitOf_setF {f : Fld} (v : Nat) {i : Nat} (hi : i < f.w) : bitOf (getF (setF s f v) f) i = v.testBit i := by
  rw [getF_setF_same, bitOf_testBit, Nat.testBit_mod_two_pow]
  simp [hi]

/-- Each bit of a field after a write is as its access type has it (R11, R12). -/
theorem bitOf_fieldWrite (hw : Masked w) (g : RegFld) (a : Nat) {i : Nat} (hi : i < g.w) :
    bitOf (getF (fieldWrite s w g (g.at a)) (g.at a)) i = bitAfter s w g (g.at a) i := by
  have hi' : i < (g.at a).w := hi
  have hmerged := testBit_merged s w (g.at a) hi'
  have hval : w.mask.testBit (g.lo + i) = false → w.val.testBit (g.lo + i) = false := hw _
  change _ = (_ && !w.mask.testBit (g.lo + i) || w.val.testBit (g.lo + i)) at hmerged
  cases ht : w.touches (g.at a) with
  | false =>
    have hm : w.mask.testBit (g.lo + i) = false := not_written_of_not_touches ht hi'
    simp [fieldWrite_not_touched ht, bitAfter, bitOf_testBit, hm]
  | true =>
    have hbrings : (w.brings (g.at a)).testBit i = w.val.testBit (g.lo + i) := by
      rw [RegWr.brings, testBit_bits, decide_eq_true hi', Bool.true_and]; rfl
    have hor (m n : Nat) : (Nat.lor m n).testBit i = (m.testBit i || n.testBit i) := Nat.testBit_or m n i
    cases hg : g.acc with
    | rw | rwl =>
      cases hr : g.reserved (merged s w (g.at a)) with
      | true => simp [fieldWrite, bitAfter, ht, hg, hr]
      | false =>
        simp only [fieldWrite, bitAfter, ht, hg, hr, Bool.not_true, Bool.false_eq_true, if_false, bitOf_setF _ hi', hmerged, bitOf_testBit]
        cases hm : w.mask.testBit (g.lo + i) <;> simp [hval, hm]
    | rws | w1c | w1s =>
      simp only [fieldWrite, bitAfter, ht, hg, Bool.not_true, Bool.false_eq_true, if_false, bitOf_setF _ hi', hmerged, testBit_clrBits, hor, hbrings,
        bitOf_testBit]
      cases hm : w.mask.testBit (g.lo + i) <;> simp [hval, hm]
    | ro | rwp | wo | setclr => simp [fieldWrite, bitAfter, hg]

/-- What a write makes of a field depends on the field's value alone. -/
theorem bitAfter_congr {g : RegFld} {f : Fld} (h : getF t f = getF s f) (i : Nat) : bitAfter t w g f i = bitAfter s w g f i := by
  have hm : merged t w f = merged s w f := by simp [merged, h]
  simp [bitAfter, h, hm]

/-! ### The fields of a register -/

/-- In every register the fields stand at different bits of the word. -/
theorem families_fields : ∀ r ∈ devRegs ++ privRegs ++ plotRegs, (r.flds.map RegFld.lo).Nodup ∧ ∀ g ∈ r.flds, g.lo < 64 := by decide +kernel

theorem famAt_cases (a : Nat) (rs : List RegFam) : famAt a rs = [] ∨ ∃ r ∈ rs, famAt a rs = r.flds := by
  induction rs with
  | nil => exact .inl rfl
  | cons r rs ih =>
    unfold famAt
    split_ifs
    · exact .inr ⟨r, List.mem_cons_self, rfl⟩
    · exact ih.imp_right fun ⟨r', hr', h⟩ => ⟨r', List.mem_cons_of_mem _ hr', h⟩

theorem regFlds_cases (a : Nat) : regFlds a = [] ∨ ∃ r ∈ devRegs ++ privRegs ++ plotRegs, regFlds a = r.flds := by
  unfold regFlds
  split_ifs
  · exact (famAt_cases _ _).imp_right fun ⟨r, hr, h⟩ => ⟨r, List.mem_append_right _ hr, h⟩
  · exact (famAt_cases _ _).imp_right fun ⟨r, hr, h⟩ => ⟨r, List.mem_append_left _ (List.mem_append_right _ hr), h⟩
  · exact (famAt_cases _ _).imp_right fun ⟨r, hr, h⟩ => ⟨r, List.mem_append_left _ (List.mem_append_left _ hr), h⟩

theorem regFlds_nodup (a : Nat) : ((regFlds a).map RegFld.lo).Nodup := by
  rcases regFlds_cases a with h | ⟨r, hr, h⟩ <;> rw [h]
  · exact List.nodup_nil
  · exact (families_fields r hr).1

theorem regFlds_lo_lt {g : RegFld} (hg : g ∈ regFlds a) : g.lo < 64 := by
  rcases regFlds_cases a with h | ⟨r, hr, h⟩ <;> rw [h] at hg
  · cases hg
  · exact (families_fields r hr).2 g hg

theorem at_key (g : RegFld) (a : Nat) : (g.at a).key = a * 64 + g.lo := rfl

/-- A field at another word is none of a register's. -/
theorem key_ne_fieldsAt {f g : Fld} (hg : g ∈ fieldsAt a) (ha : f.addr ≠ a) (hlo : f.lo < 64) : g.key ≠ f.key := by
  obtain ⟨r, hr, rfl⟩ := List.mem_map.1 hg
  have hr64 := regFlds_lo_lt hr
  rw [at_key]
  unfold Fld.key
  omega

theorem regCells_eq (a : Nat) : regCells a 0 = (regFlds a).map fun g => (g, g.at a) := rfl

theorem cellsWrite_cons (w : RegWr) (ok : Fld → Bool) (x : RegFld × Fld) (cs : List (RegFld × Fld)) :
    cellsWrite s w ok (x :: cs) = cellsWrite (if ok x.2 then fieldWrite s w x.1 x.2 else s) w ok cs := rfl

theorem cellsWrite_only (s : State) (w : RegWr) (ok : Fld → Bool) (cs : List (RegFld × Fld)) : OnlyCells s (cellsWrite s w ok cs) := by
  induction cs generalizing s with
  | nil => rfl
  | cons x cs ih =>
    have h := ih (if ok x.2 then fieldWrite s w x.1 x.2 else s)
    unfold OnlyCells at h ⊢
    rw [cellsWrite_cons, h]
    split_ifs
    · rw [fieldWrite_only s w x.1 x.2]
    · rfl

theorem cellsWrite_frame (s : State) (w : RegWr) (ok : Fld → Bool) (gs : List RegFld) (a : Nat) :
    FieldsBut s (cellsWrite s w ok (gs.map fun g => (g, g.at a))) (gs.map fun g => g.at a) := by
  induction gs generalizing s with
  | nil => exact fieldsBut_refl s _
  | cons g gs ih =>
    rw [List.map_cons, cellsWrite_cons]
    refine fieldsBut_trans ?_ (fieldsBut_mono (List.subset_cons_self _ _) (ih _))
    split_ifs
    · exact fieldsBut_mono (by simp) (fieldWrite_frame s w g (g.at a))
    · exact fieldsBut_refl s _

/-- Where each field may be written, each takes the write: none of the fields of a register touches another. -/
theorem bitOf_cellsWrite (hw : Masked w) {ok : Fld → Bool} {gs : List RegFld} (hok : ∀ g ∈ gs, ok (g.at a) = true)
    (hnd : (gs.map RegFld.lo).Nodup) {g : RegFld} (hg : g ∈ gs) {i : Nat} (hi : i < g.w) :
    bitOf (getF (cellsWrite s w ok (gs.map fun g => (g, g.at a))) (g.at a)) i = bitAfter s w g (g.at a) i := by
  induction gs generalizing s with
  | nil => cases hg
  | cons h gs ih =>
    obtain ⟨hfresh, hnd⟩ := List.nodup_cons.1 hnd
    rw [List.map_cons, cellsWrite_cons, if_pos (hok h List.mem_cons_self)]
    have hapart {g' : RegFld} (hg' : g' ∈ gs) : (g'.at a).key ≠ (h.at a).key := by
      have hlo : g'.lo ≠ h.lo := fun he => hfresh (he ▸ List.mem_map_of_mem hg')
      rw [at_key, at_key]
      omega
    rcases List.mem_cons.1 hg with rfl | hg
    · have hrest : getF (cellsWrite (fieldWrite s w g (g.at a)) w ok (gs.map fun g => (g, g.at a))) (g.at a) =
          getF (fieldWrite s w g (g.at a)) (g.at a) := by
        refine cellsWrite_frame _ w ok gs a _ fun f hf => ?_
        obtain ⟨g', hg', rfl⟩ := List.mem_map.1 hf
        exact (hapart hg').symm
      rw [hrest]
      exact bitOf_fieldWrite hw g a hi
    · have hsame : getF (fieldWrite s w h (h.at a)) (g.at a) = getF s (g.at a) :=
        fieldWrite_frame s w h (h.at a) _ (by simpa using hapart hg)
      exact (ih (fun g' hg' => hok g' (List.mem_cons_of_mem _ hg')) hnd hg).trans (bitAfter_congr hsame i)

theorem cellsWrite_congr {ok ok' : Fld → Bool} {cs : List (RegFld × Fld)} (h : ∀ x ∈ cs, ok x.2 = ok' x.2) :
    cellsWrite s w ok cs = cellsWrite s w ok' cs := by
  induction cs generalizing s with
  | nil => rfl
  | cons x cs ih =>
    rw [cellsWrite_cons, cellsWrite_cons, h x List.mem_cons_self]
    exact ih fun y hy => h y (List.mem_cons_of_mem _ hy)

/-- The fields of the register at an address written, and nothing else. -/
theorem cellsWrite_written (hw : Masked w) (s : State) (a : Nat) :
    Written s (cellsWrite s w anyField (regCells a 0)) a w ∧ OnlyCells s (cellsWrite s w anyField (regCells a 0)) ∧
      FieldsBut s (cellsWrite s w anyField (regCells a 0)) (fieldsAt a) :=
  ⟨fun _ hg _ hi => bitOf_cellsWrite hw (fun _ _ => rfl) (regFlds_nodup a) hg hi, cellsWrite_only s w _ _,
    cellsWrite_frame s w anyField (regFlds a) a⟩

/-! ### The record of a reserved encoding (R549) -/

/-- The fields that the record of a reserved encoding may change. -/
def recordFields : List Fld := [F.GLB_FORMAT_VALID, F.GLB_FORMAT_COUNT, F.GLB_FORMAT_WRITER, F.GLB_FORMAT_OFFSET, F.EVG_PEND_PEND 0]

theorem formatRecord_frame (s : State) (who : Party) (off : Nat) : FieldsBut s (formatRecord s who off) recordFields := by
  have hb : FieldsBut s (bump s F.GLB_FORMAT_COUNT) recordFields := fieldsBut_setF _ (by simp [recordFields]) (fieldsBut_refl s _)
  unfold formatRecord
  dsimp only
  split_ifs
  · exact hb
  · exact fieldsBut_raise 10 (by simp [recordFields]) (fieldsBut_setF _ (by simp [recordFields])
      (fieldsBut_setF _ (by simp [recordFields]) (fieldsBut_setF _ (by simp [recordFields]) hb)))

theorem formatRecord_valid (s : State) (who : Party) (off : Nat) : bitF (formatRecord s who off) F.GLB_FORMAT_VALID = true := by
  unfold formatRecord
  dsimp only
  split_ifs with h
  · exact h
  · exact (bitF_congr (getF_raise_ne _ 10 (by decide))).trans ((bitF_setF_ne _ _ (by decide)).trans
      ((bitF_setF_ne _ _ (by decide)).trans (bitF_setF_one _ rfl)))

theorem formatRecord_count (s : State) (who : Party) (off : Nat) :
    getF (formatRecord s who off) F.GLB_FORMAT_COUNT = min (getF s F.GLB_FORMAT_COUNT + 1) F.GLB_FORMAT_COUNT.max := by
  have hb := getF_bump_min s F.GLB_FORMAT_COUNT
  unfold formatRecord
  dsimp only
  split_ifs with h
  · exact hb
  · exact (getF_raise_ne _ 10 (by decide)).trans ((getF_setF_ne _ _ (by decide)).trans
      ((getF_setF_ne _ _ (by decide)).trans ((getF_setF_ne _ _ (by decide)).trans hb)))

/-- A register that lies apart from what the record of a reserved encoding changes. -/
def Apart (a : Nat) : Prop := ∀ f ∈ recordFields, f.addr ≠ a

theorem Apart.key_ne {f g : Fld} (h : Apart a) (hf : f ∈ recordFields) (hg : g ∈ fieldsAt a) : g.key ≠ f.key := by
  have hlo : ∀ f ∈ recordFields, f.lo < 64 := by decide
  exact key_ne_fieldsAt hg (h f hf) (hlo f hf)

/-- A plain write of a register with no staged word (R11, R12, R549). -/
theorem plainWrite_written (hw : Masked w) (s : State) (who : Party) (ha : Apart a) (hst : stagedReserved s a 0 w = false) :
    Written s (plainWrite s who a 0 w anyField) a w ∧
      (writesReserved s a w = true →
        bitF (plainWrite s who a 0 w anyField) F.GLB_FORMAT_VALID = true ∧
          getF (plainWrite s who a 0 w anyField) F.GLB_FORMAT_COUNT = min (getF s F.GLB_FORMAT_COUNT + 1) F.GLB_FORMAT_COUNT.max) ∧
      (writesReserved s a w = false → FieldsBut s (plainWrite s who a 0 w anyField) (fieldsAt a)) ∧
      OnlyCells s (plainWrite s who a 0 w anyField) ∧ FieldsBut s (plainWrite s who a 0 w anyField) (fieldsAt a ++ recordFields) := by
  obtain ⟨hwritten, honly, hframe⟩ := cellsWrite_written hw s a
  have hbad : ((regCells a 0).any fun x => fieldBad s w x.1 x.2) = writesReserved s a w := by
    rw [regCells_eq, List.any_map]; rfl
  have hplain : plainWrite s who a 0 w anyField =
      if writesReserved s a w then formatRecord (cellsWrite s w anyField (regCells a 0)) who a
      else cellsWrite s w anyField (regCells a 0) := by
    simp only [plainWrite, plainWriteIf, hst, hbad, Bool.or_self, Bool.false_or]
  have hleft : FieldsBut s (cellsWrite s w anyField (regCells a 0)) (fieldsAt a ++ recordFields) :=
    fieldsBut_mono (List.subset_append_left _ _) hframe
  rw [hplain]
  cases hr : writesReserved s a w with
  | false => exact ⟨hwritten, by simp, fun _ => hframe, honly, hleft⟩
  | true =>
    simp only [if_true]
    have hrec := formatRecord_frame (cellsWrite s w anyField (regCells a 0)) who a
    refine ⟨fun g hg i hi => ?_, fun _ => ⟨formatRecord_valid _ who a, ?_⟩, by simp, ?_, ?_⟩
    · have hkept : getF (formatRecord (cellsWrite s w anyField (regCells a 0)) who a) (g.at a) =
          getF (cellsWrite s w anyField (regCells a 0)) (g.at a) :=
        hrec _ fun f hf => ha.key_ne hf (List.mem_map_of_mem hg)
      rw [hkept]
      exact hwritten g hg i hi
    · rw [formatRecord_count, hframe F.GLB_FORMAT_COUNT fun f hf => (ha.key_ne (by simp [recordFields]) hf).symm]
    · have h := formatRecord_only (cellsWrite s w anyField (regCells a 0)) who a
      unfold OnlyCells at h honly ⊢
      rw [h, honly]
    · exact fieldsBut_trans hleft (fieldsBut_mono (List.subset_append_right _ _) hrec)

end Sys2Proof.Proofs.Registers
end
section
/-!
SUPPORT. Which registers are plain: the blocks' writes of them come down to the write of their fields (R511 to R513).
-/
namespace Sys2Proof.Proofs.PlainWrites
open Sys2Proof.Machine Sys2Proof.Proofs.Fields Sys2Proof.Proofs.Registers

variable {s : State} {who : Party} {w : RegWr} {a o : Nat}

/-! ### Device register space (R511) -/

/-- The plain registers of a quadrant, by offset. -/
def quadOffs : List Nat :=
  [0x10, 0x18, 0x20, 0x10050, 0x10068, 0x10070, 0x18000, 0x18018, 0x18020, 0x18028, 0x18100, 0x18108, 0x20000, 0x20010, 0x20018, 0x20028, 0x30020]

/-- The plain registers of a Calfos port, by offset. -/
def portOffs : List Nat := [0x10, 0x18, 0x20, 0x28, 0x8000, 0x8010, 0x8018]

/-- The plain registers outside the quadrants, the Calfos ports and the Rake. -/
def deviceAddrs : List Nat :=
  [0x10, 0x18, 0x20, 0x20020, 0x20028, 0x20038, 0x40040, 0x40048, 0x50030, 0x50038, 0x60018, 0x60020, 0x70028, 0x70030, 0x70038, 0x80000, 0x80008,
    0x80010, 0x80018, 0xA0000, 0xA0108, 0xA0110, 0xA0120]

theorem plainRegs_cases (h : a ∈ plainRegs) :
    a ∈ deviceAddrs ∨ (∃ o ∈ [0x10, 0x18], a = 0x90000 + o) ∨ (∃ q < 4, ∃ o ∈ quadOffs, a = 0x100000 + q * 0x40000 + o) ∨
      ∃ f < 8, ∃ o ∈ portOffs, a = 0x200000 + f * 0x10000 + o := by
  have hall : ∀ a ∈ plainRegs, a ∈ deviceAddrs ∨ (∃ o ∈ [0x10, 0x18], a = 0x90000 + o) ∨
      (∃ q < 4, ∃ o ∈ quadOffs, a = 0x100000 + q * 0x40000 + o) ∨ ∃ f < 8, ∃ o ∈ portOffs, a = 0x200000 + f * 0x10000 + o := by
    decide +kernel
  exact hall a h

theorem apart_of_plainRegs : ∀ a ∈ plainRegs, Apart a := by
  have h : ∀ a ∈ plainRegs, ∀ f ∈ recordFields, f.addr ≠ a := by decide +kernel
  exact h

/-- No plain register is a staging register. -/
theorem stagedReserved_of_plainRegs (h : a ∈ plainRegs) : stagedReserved s a 0 w = false := by
  have hall : ∀ a ∈ plainRegs, (a / 0x100000 == 1 && a % 0x40000 == 0x10000) = false ∧ (a == 0x70008) = false ∧ (a == 0x70010) = false := by
    decide +kernel
  obtain ⟨hgrf, hkey, hres⟩ := hall a h
  simp [stagedReserved, hgrf, hkey, hres]

/-- Where the clocks run an access waits for none (R32). -/
theorem blockAccess_of_clocksRun (h : clocksRun s a = true) : blockAccess s who a = s := by
  simp only [clocksRun, Bool.and_eq_true, bne_iff_ne, Bool.or_eq_true] at h
  obtain ⟨hdoze, hquad⟩ := h
  unfold blockAccess
  rw [if_neg (by simpa using hdoze)]
  split_ifs with hq
  · have hrun : bitOf (getF s F.PWM_GATE_RUN) (a / 0x40000 % 4) = true := hquad.resolve_left (by simpa using hq)
    simp [hrun, quadRestart]
  · rfl

theorem quadWrite_plain (q : Fin 4) (out : Outside) (ho : o ∈ quadOffs) :
    quadWrite s q o who w out = plainWrite s who (0x100000 + q.val * 0x40000 + o) 0 w anyField := by
  have hall : ∀ o ∈ quadOffs, o ≠ 0 ∧ ¬(0x10000 ≤ o ∧ o ≤ 0x10038) ∧ o ≠ 0x10048 ∧ o ≠ 0x10040 ∧ o ≠ 0x10060 ∧ ¬(0x10100 ≤ o ∧ o < 0x10180) ∧
      o ≠ 0x18008 ∧ o ≠ 0x18010 ∧ o ≠ 0x20008 ∧ o ≠ 0x20020 ∧ o ≠ 0x30000 ∧ o ≠ 0x30008 ∧ o ≠ 0x30010 := by decide +kernel
  obtain ⟨hctrl, hbank, hbank', hcmd, hpf, hdrain, hretry, hocc, hctx, hbuf, hbase, hnode, hplt⟩ := hall o ho
  have hocc' : 0x100000 + q.val * 0x40000 + o ≠ A.LDG_OCC q := by unfold A.LDG_OCC; omega
  have hctx' : 0x100000 + q.val * 0x40000 + o ≠ A.DMA_CTX q := by unfold A.DMA_CTX; omega
  have hbuf' : 0x100000 + q.val * 0x40000 + o ≠ A.DMA_BUF q := by unfold A.DMA_BUF; omega
  simp [quadWrite, hctrl, hbank, hbank', hcmd, hpf, hdrain, hretry, hocc', hctx', hbuf', hbase, hnode, hplt]

theorem calfosWrite_plain (f : Nat) (ho : o ∈ portOffs) :
    calfosWrite s f o who w = plainWrite s who (0x200000 + f * 0x10000 + o) 0 w anyField := by
  have hne : o ≠ 0 := by rintro rfl; revert ho; decide
  have hothers : ∀ x ∈ regCells (0x200000 + f * 0x10000 + o) 0, allBut [F.CFP_CTRL_EN f] x.2 = anyField x.2 := by
    intro x hx
    obtain ⟨g, hg, rfl⟩ := List.mem_map.1 hx
    have haddr : (F.CFP_CTRL_EN f).addr ≠ 0x200000 + f * 0x10000 + o := by
      change 0x200000 + f * 0x10000 ≠ 0x200000 + f * 0x10000 + o
      omega
    have hkey := key_ne_fieldsAt (List.mem_map_of_mem hg) haddr (Nat.zero_lt_succ 63)
    simpa [allBut, anyField] using hkey
  simp only [calfosWrite, plainWrite, plainWriteIf, cellsWrite_congr hothers]
  simp [hne]

/-- The Rake's plain registers lower no BUDGET, so they set no OVERRUN (R191). -/
theorem rakWrite_plain (ha : 0x90000 + o ∈ plainRegs) (hne : o ≠ 0) (hw : Masked w) :
    rakWrite s o who w = plainWrite s who (0x90000 + o) 0 w anyField := by
  obtain ⟨-, -, -, -, hframe⟩ := plainWrite_written hw s who (apart_of_plainRegs _ ha) (stagedReserved_of_plainRegs ha)
  have hbudget : getF (plainWrite s who (0x90000 + o) 0 w anyField) F.RAK_CTRL_BUDGET = getF s F.RAK_CTRL_BUDGET := by
    refine hframe _ fun f hf => ?_
    rcases List.mem_append.1 hf with hf | hf
    · exact (key_ne_fieldsAt hf (fun h => hne (by change 0x90000 = 0x90000 + o at h; omega)) (by decide)).symm
    · have hall : ∀ f ∈ recordFields, F.RAK_CTRL_BUDGET.key ≠ f.key := by decide
      exact hall f hf
  simp only [rakWrite, hbudget]
  rw [if_neg]
  simp only [Bool.and_eq_true, decide_eq_true_eq]
  omega

/-- A write of a plain register that reaches it, in a block whose clocks run, is the write of its fields (R511). -/
theorem deviceWrite_plain {off : Nat} (wide : Bool) (v : Word) (out : Outside) (ha : off / 8 * 8 = a) (hp : a ∈ plainRegs)
    (ho : regOpen s who a = true) (hc : clocksRun s a = true) :
    deviceWrite s who off wide v.toNat out = plainWrite s who a 0 (regWr off wide v.toNat) anyField := by
  have hall : ∀ a ∈ plainRegs, (a / 0x100000 == 4) = false ∧ (decide (0x21000 ≤ a) && decide (a < 0x22000)) = false ∧
      (regFlds a).isEmpty = false := by decide +kernel
  obtain ⟨htable, hspdm, hfields⟩ := hall a hp
  simp only [deviceWrite, ha, htable, ho, hspdm, hfields, blockAccess_of_clocksRun hc, Bool.false_and, Bool.not_true, Bool.false_eq_true, if_false]
  rcases plainRegs_cases hp with hdev | ⟨o, hro, rfl⟩ | ⟨q, hq, o, hqo, rfl⟩ | ⟨f, hf, o, hfo, rfl⟩
  · fin_cases hdev <;> rfl
  · have hrak (hne : o ≠ 0) := rakWrite_plain (s := s) (who := who) hp hne (masked_regWr off wide v)
    fin_cases hro <;> exact hrak (by decide)
  · have hlt : ∀ o ∈ quadOffs, o < 0x40000 := by decide
    have hlt := hlt o hqo
    have hmod : (0x100000 + q * 0x40000 + o) % 0x40000 = o := by omega
    have hquad : ((0x100000 + q * 0x40000 + o) / 0x10000 - 16) / 4 = q := by omega
    have hblock : 16 ≤ (0x100000 + q * 0x40000 + o) / 0x10000 ∧ (0x100000 + q * 0x40000 + o) / 0x10000 < 32 := by omega
    split
    case h_11 =>
      rw [if_pos (by simpa using hblock), hmod, hquad, quadWrite_plain _ out hqo, Fin.val_ofNat, Nat.mod_eq_of_lt hq]
    all_goals omega
  · have hlt : ∀ o ∈ portOffs, o < 0x10000 := by decide
    have hlt := hlt o hfo
    have hmod : (0x200000 + f * 0x10000 + o) % 0x10000 = o := by omega
    have hblock : (0x200000 + f * 0x10000 + o) / 0x10000 = 32 + f := by omega
    have hport : 32 + f < 40 := by omega
    rw [hblock, hmod]
    split
    case h_11 =>
      rw [if_neg (by simp), if_pos (by simpa using hport), Nat.add_sub_cancel_left, calfosWrite_plain f hfo]
    all_goals omega

/-! ### Plot pages (R51, R512) -/

/-- A write of a plain register of a plot page whose plot is neither Disabled nor Resetting is the write of its fields (R512). -/
theorem pageWrite_plain {off : Nat} (p : Fin 4096) (wide : Bool) (v : Nat) (ho : off / 8 * 8 ∈ plainPage) (hd : pageDead s p = false) :
    pageWrite s p off wide v =
      cellsWrite s (regWr off wide v) anyField (regCells (0x100000000 + p.val * 0x10000 + off / 8 * 8) 0) := by
  have hall : ∀ o ∈ plainPage, ¬ 0x8000 ≤ o ∧ ¬(0x1000 ≤ o ∧ o < 0x2000) ∧ o ≠ 0x30 ∧ o ≠ 0x400 ∧ o ≠ 0x418 ∧ o ≠ 0x488 ∧ o ≠ 0x490 ∧
      ¬(0x2000 ≤ o ∧ o < 0x2800) ∧ ¬(0x3000 ≤ o ∧ o < 0x3080) ∧ o ≠ 0x3808 ∧ o ≠ 0x3C00 := by decide +kernel
  obtain ⟨hmsix, hmbx, hcommit, hwfl, hintx, hbell, hdone, hdma, hcq, hcons, hrake⟩ := hall _ ho
  simp only [pageWrite, pageWord, hmsix, hd, Bool.and_eq_true, decide_eq_true_eq, beq_iff_eq, hmbx, hcommit, hwfl, hintx, hbell, hdone, hdma, hcq,
    hcons, hrake, if_false, Bool.false_eq_true]

/-! ### The Gardener's own space (R375, R513) -/

theorem gdnWrite_plain (hp : a ∈ plainPrivate) (ha : a < 0x30020000) : gdnWrite s a w = privatePlain s a w := by
  have hall : ∀ a ∈ plainPrivate, a < 0x30020000 → a - 0x30000000 ≠ 0 ∧ ¬(0x800 ≤ a - 0x30000000 ∧ a - 0x30000000 < 0x8C0) ∧
      ¬(0x11000 ≤ a - 0x30000000 ∧ a - 0x30000000 < 0x19000) ∧ a - 0x30000000 ≠ 0x1A000 ∧ a - 0x30000000 ≠ 0x1B020 := by decide +kernel
  obtain ⟨hboot, htnd, hpend, hret, hmq⟩ := hall a hp ha
  simp only [gdnWrite, Bool.and_eq_true, decide_eq_true_eq, beq_iff_eq, hboot, htnd, hpend, hret, hmq, if_false]

theorem engineWrite_plain (hp : a ∈ plainPrivate) : engineWrite s a w = privatePlain s a w := by
  have hall : ∀ a ∈ plainPrivate, a ≠ 0x30020000 ∧ a ≠ 0x30030008 ∧ a ≠ 0x30030010 ∧ ¬(0x30040000 ≤ a ∧ a % 0x2000 = 8) := by decide +kernel
  obtain ⟨hxsp, hrx, htx, hdoe⟩ := hall a hp
  simp only [engineWrite, Bool.and_eq_true, decide_eq_true_eq, beq_iff_eq, hxsp, hrx, htx, hdoe, if_false]

/-- A write of a plain register of the Gardener's own space, of a width that its block takes, is the write of its fields (R375). -/
theorem privateWrite_plain {x : Nat} (wide : Bool) (v : Nat) (out : Outside) (ha : x / 8 * 8 = a) (hp : a ∈ plainPrivate)
    (hwide : wide = true ∨ 0x30020000 ≤ a) :
    privateWrite s x wide v out = cellsWrite s (regWr x wide v) anyField (regCells a 0) := by
  have hall : ∀ a ∈ plainPrivate, 0x30000040 ≤ a ∧ a < 0x30020018 ∧ (regFlds a).isEmpty = false := by decide +kernel
  obtain ⟨hlow, hhigh, hfields⟩ := hall a hp
  have hdevice : ¬ x / 0x1000000 = 0x20 := by omega
  have hmailbox : ¬ x / 0x1000000 = 0x40 := by omega
  have hbuffer : (privateBuffers.any fun b => decide (b.1 ≤ x) && decide (x < b.1 + b.2)) = false := by
    simp only [privateBuffers, xspData, i3cTx, doeBuf, List.any_cons, List.any_nil, Bool.or_false, Bool.or_eq_false_iff, Bool.and_eq_false_iff,
      decide_eq_false_iff_not]
    omega
  have hwidth : (wideOnly a && !wide) = false := by
    rcases hwide with rfl | h
    · simp
    · simp [wideOnly, h]
  simp only [privateWrite, ha, beq_iff_eq, hdevice, hmailbox, hbuffer, hfields, hwidth, Bool.or_self, Bool.false_eq_true, if_false]
  split_ifs with hgdn
  · exact gdnWrite_plain hp hgdn
  · exact engineWrite_plain hp

/-- The Gardener's own address of device register space reaches the same register (R375). -/
theorem privateWrite_device (s : State) {off : Nat} (h : off < 0x1000000) (wide : Bool) (v : Nat) (out : Outside) :
    privateWrite s (0x20000000 + off) wide v out = deviceWrite s .gardener off wide v out := by
  have hspace : (0x20000000 + off) / 0x1000000 = 0x20 := by omega
  have hoff : (0x20000000 + off) % 0x1000000 = off := by omega
  simp only [privateWrite, hspace, hoff, beq_self_eq_true, if_true]

/-- A write of Gardener SRAM stores its bytes (R375). -/
theorem privateWrite_sram (s : State) {x : Nat} (hlo : 0x10000000 ≤ x) (hhi : x < 0x10400000) (wide : Bool) (v : Nat) (out : Outside) :
    privateWrite s x wide v out = memWrite s x (leBytes (if wide then 8 else 4) v) := by
  have hspace : ¬ x / 0x1000000 = 0x20 := by omega
  have hbuffer : (privateBuffers.any fun b => decide (b.1 ≤ x) && decide (x < b.1 + b.2)) = true := by
    simp [privateBuffers, hlo, hhi]
  simp only [privateWrite, beq_iff_eq, hspace, hbuffer, if_false, if_true]
  rfl

theorem length_leBytes (n v : Nat) : (leBytes n v).length = n := by
  induction n generalizing v with
  | zero => rfl
  | succ n ih => rw [leBytes, List.length_cons, ih]

theorem leBytes_toNat {n k : Nat} (v : Nat) (hk : k < (leBytes n v).length) : ((leBytes n v)[k]).toNat = v / 2 ^ (8 * k) % 256 := by
  induction n generalizing v k with
  | zero => simp [leBytes] at hk
  | succ n ih =>
    cases k with
    | zero => simp [leBytes]
    | succ k =>
      have hdiv : v / 256 / 2 ^ (8 * k) = v / 2 ^ (8 * (k + 1)) := by
        rw [Nat.div_div_eq_div_mul, show 8 * (k + 1) = 8 + 8 * k by ring, Nat.pow_add]
      simp only [leBytes, List.getElem_cons_succ, ih, hdiv]

end Sys2Proof.Proofs.PlainWrites
end

section
/-!
CLAIM. Register writes follow the type of each field (R11 to R13): the rules of the five kinds of access, and the obligation, whose clause on
Gardener SRAM asks for more than a memory out of canonical form gives.
-/
namespace Sys2Proof.Proofs.RegisterWrites
open Sys2Proof.Machine Sys2Proof.Proofs.Fields Sys2Proof.Proofs.Registers Sys2Proof.Proofs.PlainWrites

/-- R11, R12, R549: a write of a plain register of device register space. -/
theorem deviceRegisterWrite_runs (s : State) (who : Party) (off : BitVec 24) (wide : Bool) (v : Word) (out : Outside) (a : Nat)
    (ha : off.toNat / 8 * 8 = a) (hp : a ∈ plainRegs) (hal : aligned off.toNat wide = true) (ho : regOpen s who a = true)
    (hc : clocksRun s a = true) :
    Runs (.registerWrite who (.device off) wide v out) s fun t =>
      Written s t a (regWr off.toNat wide v.toNat) ∧
      (writesReserved s a (regWr off.toNat wide v.toNat) = true →
        bitF t F.GLB_FORMAT_VALID = true ∧ getF t F.GLB_FORMAT_COUNT = min (getF s F.GLB_FORMAT_COUNT + 1) F.GLB_FORMAT_COUNT.max) ∧
      (writesReserved s a (regWr off.toNat wide v.toNat) = false → FieldsBut s t (fieldsAt a)) ∧ OnlyCells s t ∧
      FieldsBut s t (fieldsAt a ++ [F.GLB_FORMAT_VALID, F.GLB_FORMAT_COUNT, F.GLB_FORMAT_WRITER, F.GLB_FORMAT_OFFSET, F.EVG_PEND_PEND 0]) := by
  refine ⟨plainWrite s who a 0 (regWr off.toNat wide v.toNat) anyField, ?_,
    plainWrite_written (masked_regWr off.toNat wide v) s who (apart_of_plainRegs a hp) (stagedReserved_of_plainRegs hp)⟩
  change execRegisterWrite who (.device off) wide v out s = _
  simp only [execRegisterWrite, hal, if_true, deviceWrite_plain wide v out ha hp ho hc]

/-- R51, R512: a write of a plain register of a plot page. -/
theorem pageRegisterWrite_runs (s : State) (who : Party) (p : Fin 4096) (off : BitVec 16) (wide : Bool) (v : Word) (out : Outside) (a : Nat)
    (hp : off.toNat / 8 * 8 ∈ plainPage) (ha : a = 0x100000000 + p * 0x10000 + off.toNat / 8 * 8) (hal : aligned off.toNat wide = true)
    (hm : funcMemory s p = true) (hd : pageDead s p = false) :
    Runs (.registerWrite who (.page p off) wide v out) s fun t =>
      Written s t a (regWr off.toNat wide v.toNat) ∧ OnlyCells s t ∧ FieldsBut s t (fieldsAt a) := by
  refine ⟨cellsWrite s (regWr off.toNat wide v.toNat) anyField (regCells a 0), ?_, cellsWrite_written (masked_regWr off.toNat wide v) s a⟩
  change execRegisterWrite who (.page p off) wide v out s = _
  simp only [execRegisterWrite, hm, hal, Bool.and_self, if_true, pageWrite_plain p wide v.toNat hp hd, ha]

/-- R375, R513: a write of a plain register of the Gardener's own space. -/
theorem privateRegisterWrite_runs (s : State) (x : BitVec 32) (wide : Bool) (v : Word) (out : Outside) (a : Nat) (ha : x.toNat / 8 * 8 = a)
    (hp : a ∈ plainPrivate) (hal : aligned x.toNat wide = true) (hwide : wide = true ∨ 0x30020000 ≤ a) :
    Runs (.registerWrite .gardener (.gardener x) wide v out) s fun t =>
      Written s t a (regWr x.toNat wide v.toNat) ∧ OnlyCells s t ∧ FieldsBut s t (fieldsAt a) := by
  refine ⟨cellsWrite s (regWr x.toNat wide v.toNat) anyField (regCells a 0), ?_, cellsWrite_written (masked_regWr x.toNat wide v) s a⟩
  change execRegisterWrite .gardener (.gardener x) wide v out s = _
  simp only [execRegisterWrite, isHost, hal, Bool.not_false, Bool.and_self, if_true, privateWrite_plain wide v.toNat out ha hp hwide]

/-- R375: device register space by the Gardener's own address. -/
theorem gardenerAddress_reaches_device (s : State) (off : BitVec 24) (wide : Bool) (v : Word) (out : Outside) (hal : aligned off.toNat wide = true) :
    exec (.registerWrite .gardener (.gardener (BitVec.ofNat 32 (0x20000000 + off.toNat))) wide v out) s =
      exec (.registerWrite .gardener (.device off) wide v out) s := by
  have hoff : off.toNat < 0x1000000 := off.isLt
  have haddr : (BitVec.ofNat 32 (0x20000000 + off.toNat)).toNat = 0x20000000 + off.toNat := by
    rw [BitVec.toNat_ofNat]
    omega
  have hal' : aligned (0x20000000 + off.toNat) wide = true := by
    cases wide <;> simp [aligned] at hal ⊢ <;> omega
  change execRegisterWrite .gardener (.gardener _) wide v out s = execRegisterWrite .gardener (.device off) wide v out s
  simp only [execRegisterWrite, isHost, haddr, hal, hal', Bool.not_false, Bool.and_self, if_true, privateWrite_device s hoff]

/-- R375: a write of Gardener SRAM stores its bytes and no other, in a memory whose addresses rise. -/
theorem sramWrite_runs (s : State) (x : BitVec 32) (wide : Bool) (v : Word) (out : Outside) (hwf : mwf s.mem = true) (hlo : 0x10000000 ≤ x.toNat)
    (hhi : x.toNat < 0x10400000) (hal : aligned x.toNat wide = true) :
    Runs (.registerWrite .gardener (.gardener x) wide v out) s fun t =>
      (∀ k < (if wide then 8 else 4), (memByte t (x.toNat + k)).toNat = v.toNat / 2 ^ (8 * k) % 256) ∧
      (∀ y, y < x.toNat ∨ x.toNat + (if wide then 8 else 4) ≤ y → memByte t y = memByte s y) ∧ t = { s with mem := t.mem } := by
  have hlen := length_leBytes (if wide then 8 else 4) v.toNat
  refine ⟨memWrite s x.toNat (leBytes (if wide then 8 else 4) v.toNat), ?_, fun k hk => ?_, fun y hy => ?_, memWrite_only s _ _⟩
  · change execRegisterWrite .gardener (.gardener x) wide v out s = _
    simp only [execRegisterWrite, isHost, hal, Bool.not_false, Bool.and_self, if_true, privateWrite_sram s hlo hhi]
  · have hk' : k < (leBytes (if wide then 8 else 4) v.toNat).length := hlen.symm ▸ hk
    rw [memByte_write_in x.toNat hk' hwf, leBytes_toNat]
  · exact memByte_write_out _ (hlen.symm ▸ hy) hwf

/-- A memory that lists the first byte of Gardener SRAM twice. -/
def twiceListed : State := { mem := [(0x10000000, 1), (0x10000000, 2)] }

/-- A write of zeros takes the first listing out and leaves the second. -/
theorem exec_twiceListed : exec (.registerWrite .gardener (.gardener 0x10000000) true 0 {}) twiceListed = .next { mem := [(0x10000000, 2)] } := rfl

/-- Refutes O9: its clause on Gardener SRAM speaks of every state, also of one whose memory lists an address twice, as no state in canonical form does:
there a byte written as 0 still reads 2. For a memory whose addresses rise the clause is `sramWrite_runs`; the four other clauses hold as stated, each a
theorem above. -/
theorem not_registerWriteByType : ¬ Obligations.RegisterWriteByType := by
  intro h
  obtain ⟨-, -, -, -, hsram⟩ := h
  obtain ⟨t, ht, hbytes, -⟩ := hsram twiceListed 0x10000000 true 0 {} (by decide) (by decide) (by decide)
  rw [exec_twiceListed, Host.Outcome.next.injEq] at ht
  subst ht
  exact absurd (hbytes 0 (by decide)) (by decide)

end Sys2Proof.Proofs.RegisterWrites
end

section
/-!
SUPPORT. Tables that a state in canonical form keeps in canonical form.
-/
namespace Sys2Proof.Proofs.CanonicalForm
open Sys2Proof.Machine

variable {s : State}

/-- The tables of the plots, functions, quadrants and host ports. -/
theorem mwf_tables_of_wf (h : s.wf = true) : mwf s.plots = true ∧ mwf s.funcs = true ∧ mwf s.quads = true ∧ mwf s.ports = true := by
  simp only [State.wf, Bool.and_eq_true] at h
  obtain ⟨⟨⟨⟨⟨⟨⟨⟨⟨⟨⟨⟨⟨-, hplots⟩, hfuncs⟩, -⟩, hquads⟩, hports⟩, -⟩, -⟩, -⟩, -⟩, -⟩, -⟩, -⟩, -⟩ := h
  exact ⟨hplots, hfuncs, hquads, hports⟩

theorem mwf_plots_of_wf (h : s.wf = true) : mwf s.plots = true := by
  obtain ⟨hplots, -, -, -⟩ := mwf_tables_of_wf h
  exact hplots

theorem mwf_funcs_of_wf (h : s.wf = true) : mwf s.funcs = true := by
  obtain ⟨-, hfuncs, -, -⟩ := mwf_tables_of_wf h
  exact hfuncs

theorem mwf_quads_of_wf (h : s.wf = true) : mwf s.quads = true := by
  obtain ⟨-, -, hquads, -⟩ := mwf_tables_of_wf h
  exact hquads

theorem mwf_ports_of_wf (h : s.wf = true) : mwf s.ports = true := by
  obtain ⟨-, -, -, hports⟩ := mwf_tables_of_wf h
  exact hports

end Sys2Proof.Proofs.CanonicalForm
end

section
/-!
CLAIM. SRAM errors (R31, R38, R416): the counters of corrected errors, the flag and the capture of uncorrectable ones, and what one does to the
structure struck.
-/
namespace Sys2Proof.Proofs.EccErrors
open Sys2Proof.Machine Sys2Proof.Proofs.Fields Sys2Proof.Proofs.Registers Sys2Proof.Proofs.CanonicalForm

variable {s t : State}

/-! ### A counter of eight bits in a word of several (R38) -/

theorem bits_mod_two_pow {lo w n : Nat} (v : Nat) (h : lo + w ≤ n) : bits (v % 2 ^ n) lo w = bits v lo w := by
  refine Nat.eq_of_testBit_eq fun i => ?_
  rw [testBit_bits, testBit_bits, Nat.testBit_mod_two_pow]
  by_cases hi : i < w
  · simp [show lo + i < n by omega]
  · simp [hi]

/-- One more in a counter that is not full. -/
theorem bits_add_same {v lo : Nat} (hv : bits v lo 8 ≠ 255) : bits (v + 2 ^ lo) lo 8 = bits v lo 8 + 1 := by
  unfold bits at hv ⊢
  rw [Nat.add_div_right v (Nat.two_pow_pos lo)]
  omega

/-- It leaves the counters below. -/
theorem bits_add_below {lo hi : Nat} (v : Nat) (h : lo + 8 ≤ hi) : bits (v + 2 ^ hi) lo 8 = bits v lo 8 := by
  obtain ⟨d, rfl⟩ := Nat.exists_eq_add_of_le h
  have hpow : 2 ^ (lo + 8 + d) = 2 ^ lo * (2 ^ d * 2 ^ 8) := by ring
  unfold bits
  rw [hpow, Nat.add_mul_div_left v _ (Nat.two_pow_pos lo), Nat.add_mul_mod_self_right]

/-- It carries into no counter above, as it was not full. -/
theorem bits_add_above {v lo hi : Nat} (h : lo + 8 ≤ hi) (hv : bits v lo 8 ≠ 255) : bits (v + 2 ^ lo) hi 8 = bits v hi 8 := by
  obtain ⟨d, rfl⟩ := Nat.exists_eq_add_of_le h
  have hdiv (x : Nat) : x / 2 ^ (lo + 8 + d) = x / 2 ^ lo / 2 ^ 8 / 2 ^ d := by
    rw [Nat.div_div_eq_div_mul, Nat.div_div_eq_div_mul, ← pow_add, ← pow_add, Nat.add_assoc]
  have hcarry : (v / 2 ^ lo + 1) / 2 ^ 8 = v / 2 ^ lo / 2 ^ 8 := by
    unfold bits at hv
    omega
  unfold bits
  rw [hdiv, hdiv, Nat.add_div_right v (Nat.two_pow_pos lo), hcarry]

/-! ### Corrected errors (R31, R38) -/

/-- The counters once one more corrected error of region k has been counted. -/
def countCorrected (s : State) (k : Nat) : State :=
  if bits (getF s F.GLB_ECC_CORR_CORR) (8 * k) 8 = 255 then s
  else setF s F.GLB_ECC_CORR_CORR (getF s F.GLB_ECC_CORR_CORR + 2 ^ (8 * k))

theorem exec_sramEccCorrected (s : State) (r : Region) (n : Fin 4) :
    exec (.sramEccCorrected r n) s =
      .next (if Region.code r = 2 then aerLog (countCorrected s (Region.code r)) (n * 1024) .correctedInternal else countCorrected s (Region.code r)) := by
  change execSramEccCorrected r n s = _
  simp [execSramEccCorrected, countCorrected]

theorem countCorrected_only (s : State) (k : Nat) : OnlyCells s (countCorrected s k) := by
  unfold OnlyCells countCorrected
  split_ifs <;> rfl

theorem fieldsBut_countCorrected (s : State) (k : Nat) : FieldsBut s (countCorrected s k) [F.GLB_ECC_CORR_CORR] := by
  unfold countCorrected
  split_ifs
  · exact fieldsBut_refl s _
  · exact fieldsBut_setF _ (by simp) (fieldsBut_refl s _)

/-- A counter other than region k's keeps its value, and so do all of them where region k's is full. -/
theorem counter_countCorrected {j k : Nat} (hj : j < 6) (hk : k < 6) :
    bits (getF (countCorrected s k) F.GLB_ECC_CORR_CORR) (8 * j) 8 =
      if j = k then min (bits (getF s F.GLB_ECC_CORR_CORR) (8 * j) 8 + 1) 255 else bits (getF s F.GLB_ECC_CORR_CORR) (8 * j) 8 := by
  have hwidth (v : Nat) : bits (v % 2 ^ F.GLB_ECC_CORR_CORR.w) (8 * j) 8 = bits v (8 * j) 8 :=
    bits_mod_two_pow v (show 8 * j + 8 ≤ 48 by omega)
  have hle (v : Nat) : bits v (8 * j) 8 ≤ 255 := Nat.lt_succ_iff.1 (Nat.mod_lt _ (Nat.two_pow_pos 8))
  have hle := hle (getF s F.GLB_ECC_CORR_CORR)
  unfold countCorrected
  split_ifs with hfull hjk hjk
  · subst hjk; omega
  · rfl
  · subst hjk
    rw [getF_setF_same, hwidth, bits_add_same hfull]
    omega
  · rw [getF_setF_same, hwidth]
    rcases Nat.lt_or_gt_of_ne hjk with hlt | hgt
    · exact bits_add_below _ (by omega)
    · exact bits_add_above (by omega) hfull

theorem regionCode_lt (r : Region) : Region.code r < 6 := by
  cases r <;> decide

/-- R31, R38: a corrected error. -/
theorem sramEccCorrected_runs (s : State) (r : Region) (n : Fin 4) :
    Runs (.sramEccCorrected r n) s fun t =>
      bits (getF t F.GLB_ECC_CORR_CORR) (8 * Region.code r) 8 = min (bits (getF s F.GLB_ECC_CORR_CORR) (8 * Region.code r) 8 + 1) 255 ∧
      (∀ k, k < 6 → k ≠ Region.code r → bits (getF t F.GLB_ECC_CORR_CORR) (8 * k) 8 = bits (getF s F.GLB_ECC_CORR_CORR) (8 * k) 8) ∧
      FieldsBut s t [F.GLB_ECC_CORR_CORR] ∧ t = { s with cells := t.cells, funcs := t.funcs, ports := t.ports, out := t.out } := by
  let u := countCorrected s (Region.code r)
  let t := if Region.code r = 2 then aerLog u (n * 1024) .correctedInternal else u
  have hu : u = { s with cells := u.cells } := countCorrected_only s _
  have htu : t = { u with funcs := t.funcs, ports := t.ports, out := t.out } := by
    simp only [t]
    split_ifs
    · rw [aerLog_only]
    · rfl
  have hcells : t.cells = u.cells := by rw [htu]
  have hcount := getF_congr hcells F.GLB_ECC_CORR_CORR
  refine ⟨t, exec_sramEccCorrected s r n, ?_, fun k hk hne => ?_, fieldsBut_congr hcells (fieldsBut_countCorrected s (Region.code r)), ?_⟩
  · rw [hcount, counter_countCorrected (regionCode_lt r) (regionCode_lt r), if_pos rfl]
  · rw [hcount, counter_countCorrected hk (regionCode_lt r), if_neg hne]
  · rw [htu, hu]

/-! ### Uncorrectable errors: the flag, the capture and the source (R31, R38, R416) -/

theorem exec_sramEccUncorrectable (s : State) (x : Struck) (off : BitVec 25) :
    exec (.sramEccUncorrectable x off) s = .next (struckEffect (eccFlag s (Struck.region x) off.toNat) x) := rfl

theorem eccFlag_only (s : State) (k off : Nat) : OnlyCells s (eccFlag s k off) := by
  unfold OnlyCells eccFlag
  dsimp only
  rw [raise_only]
  split_ifs <;> rfl

/-- A field of the capture register is no word of pending bits. -/
theorem eccAddr_key_ne {f : Fld} (w : Nat) (hf : f ∈ [F.GLB_ECC_STATUS_UNCORR, F.GLB_ECC_ADDR_VALID, F.GLB_ECC_ADDR_REGION, F.GLB_ECC_ADDR_OFFSET]) :
    f.key ≠ (F.EVG_PEND_PEND w).key := by
  have hlow : ∀ f ∈ [F.GLB_ECC_STATUS_UNCORR, F.GLB_ECC_ADDR_VALID, F.GLB_ECC_ADDR_REGION, F.GLB_ECC_ADDR_OFFSET], f.key < 0x10500 * 64 := by decide
  have hf := hlow f hf
  have hw : (F.EVG_PEND_PEND w).key = (0x10500 + w * 8) * 64 + 0 := rfl
  omega

/-- The region's bit of GLB_ECC_STATUS is set. -/
theorem status_eccFlag {k : Nat} (s : State) (off : Nat) (hk : k < 6) :
    bitOf (getF (eccFlag s k off) F.GLB_ECC_STATUS_UNCORR) k = true := by
  have hset : bitOf (getF (setF s F.GLB_ECC_STATUS_UNCORR (setBit (getF s F.GLB_ECC_STATUS_UNCORR) k)) F.GLB_ECC_STATUS_UNCORR) k = true := by
    rw [bitOf_setF _ hk, testBit_setBit_same]
  unfold eccFlag
  dsimp only
  rw [getF_raise_ne _ _ (eccAddr_key_ne _ (by simp))]
  split_ifs
  · exact hset
  · rwa [getF_setF_ne _ _ (by decide), getF_setF_ne _ _ (by decide), getF_setF_ne _ _ (by decide)]

/-- Where nothing is captured, the error is. -/
theorem capture_eccFlag {k : Nat} (off : Nat) (hk : k < 16) (hv : bitF s F.GLB_ECC_ADDR_VALID = false) :
    bitF (eccFlag s k off) F.GLB_ECC_ADDR_VALID = true ∧ getF (eccFlag s k off) F.GLB_ECC_ADDR_REGION = k := by
  have hv' (v : Nat) : ¬ bitF (setF s F.GLB_ECC_STATUS_UNCORR v) F.GLB_ECC_ADDR_VALID = true := by
    rw [bitF_setF_ne _ _ (by decide), hv]
    decide
  unfold eccFlag
  dsimp only
  rw [if_neg (hv' _)]
  constructor
  · rw [bitF_congr (getF_raise_ne _ _ (eccAddr_key_ne _ (by simp))), bitF_setF_ne _ _ (by decide), bitF_setF_ne _ _ (by decide)]
    exact bitF_setF_one _ rfl
  · rw [getF_raise_ne _ _ (eccAddr_key_ne _ (by simp)), getF_setF_ne _ _ (by decide), getF_setF_same]
    exact Nat.mod_eq_of_lt hk

/-- The region's source is pending: the sources of SRAM errors are not Level sources. -/
theorem pending_eccFlag {k : Nat} (s : State) (off : Nat) (hk : k < 6) : Pending (eccFlag s k off) k := by
  refine pending_raise _ ?_
  unfold evgLevel
  rw [if_neg (by omega)]
  simp
  omega

/-! ### The structures struck (R31) -/

theorem lineOf_congr (h : t.quads = s.quads) (p w : Nat) : lineOf t p w = lineOf s p w := by simp [lineOf, quadOf, h]

theorem lineOf_putLine_same (p w : Nat) (l : Line) (h : mwf s.quads = true) : lineOf (putLine s p w l) p w = some l := by
  unfold lineOf putLine
  rw [quadOf_modQuad_same s h]
  exact mfind_mput_same _ _ _

theorem struckEffect_windowLine {p : Fin 4096} {w : Fin 64} {l : Line} (h : lineOf s p w = some l) :
    struckEffect s (.windowLine p w) = putLine s p w { l with entry := none } := by
  simp [struckEffect, h]

/-- R31: a window line is discarded; its counters stand. -/
theorem windowLine_struck_runs (s : State) (p : Fin 4096) (w : Fin 64) (l : Line) (off : BitVec 25) (hwf : s.wf = true)
    (hl : lineOf s p w = some l) (hv : bitF s F.GLB_ECC_ADDR_VALID = false) :
    Runs (.sramEccUncorrectable (.windowLine p w) off) s fun t =>
      lineOf t p w = some { l with entry := none } ∧ bitOf (getF t F.GLB_ECC_STATUS_UNCORR) 0 = true ∧ bitF t F.GLB_ECC_ADDR_VALID = true ∧
      getF t F.GLB_ECC_ADDR_REGION = 0 ∧ Pending t 0 ∧ t = { s with cells := t.cells, quads := t.quads } := by
  let u := eccFlag s 0 off.toNat
  have hu : u = { s with cells := u.cells } := eccFlag_only s 0 off.toNat
  have hquads : u.quads = s.quads := by rw [hu]
  have hexec : exec (.sramEccUncorrectable (.windowLine p w) off) s = .next (putLine u p w { l with entry := none }) := by
    have hlu : lineOf u p w = some l := (lineOf_congr hquads p w).trans hl
    rw [exec_sramEccUncorrectable]
    exact congrArg Host.Outcome.next (struckEffect_windowLine hlu)
  obtain ⟨hvalid, hregion⟩ := capture_eccFlag off.toNat (by decide : 0 < 16) hv
  refine ⟨_, hexec, lineOf_putLine_same _ _ _ (hquads ▸ mwf_quads_of_wf hwf), status_eccFlag s _ (by decide), hvalid, hregion,
    pending_eccFlag s _ (by decide), ?_⟩
  change ({ u with quads := _ } : State) = _
  rw [hu]
  rfl

theorem entryLive_of_struck {i : Nat} (h : entryStruck s i = true) : entryLive s i = false := by simp [entryLive, h]

/-- R31, R125: a struck Trellis entry counts as empty. -/
theorem trellisEntry_struck_runs (s : State) (i : Fin 65536) (off : BitVec 25) :
    Runs (.sramEccUncorrectable (.trellisEntry i) off) s fun t =>
      entryLive t i = false ∧ bitF t F.TRL_EVENT_ECC = true ∧ t.trl.table = s.trl.table ∧ t = { s with cells := t.cells, trl := t.trl } := by
  let u := eccFlag s 0 off.toNat
  have hu : u = { s with cells := u.cells } := eccFlag_only s 0 off.toNat
  have honly : trellisStruck u i = { u with cells := (trellisStruck u i).cells, trl := { u.trl with struck := mput u.trl.struck i true } } := by
    unfold trellisStruck
    rw [setEv_only]
    split_ifs <;> rfl
  have htrl : (trellisStruck u i).trl = { s.trl with struck := mput s.trl.struck i true } := by rw [honly, hu]
  refine ⟨trellisStruck u i, rfl, entryLive_of_struck ?_, bitF_setEv _ 1240 rfl (by decide), by rw [htrl], ?_⟩
  · rw [entryStruck, htrl]
    exact mget_mput_same _ _ _ _
  · rw [honly, hu]

/-- A value of a map whose entries at a key have all been changed is a changed one. -/
theorem mfind_map_at {α : Type} {m : SMap α} {k : Nat} {f : α → α} {x : α}
    (h : mfind (m.map fun e => if e.1 == k then (e.1, f e.2) else e) k = some x) : ∃ y, x = f y := by
  induction m with
  | nil => simp at h
  | cons e m ih =>
    obtain ⟨j, v⟩ := e
    by_cases hj : j = k
    · subst hj
      simp only [List.map_cons, beq_self_eq_true, if_true, mfind, lt_irrefl, if_false, Option.some.injEq] at h
      exact ⟨v, h.symm⟩
    · have hj' : k ≠ j := fun he => hj he.symm
      simp only [List.map_cons, beq_iff_eq, hj, hj', if_false, mfind] at h
      split_ifs at h
      exact ih (by simpa using h)

/-- R31: a struck slot takes its next value as new, and quietly. -/
theorem rakeSlot_struck_runs (s : State) (p : Fin 4096) (i : Fin 64) (off : BitVec 25) :
    Runs (.sramEccUncorrectable (.rakeSlot p i) off) s fun t =>
      (∀ x, mfind t.rake.slots (p * 64 + i) = some x → x.fresh = true ∧ x.quiet = true) ∧ t = { s with cells := t.cells, rake := t.rake } := by
  have hu : eccFlag s 0 off.toNat = { s with cells := (eccFlag s 0 off.toNat).cells } := eccFlag_only s 0 off.toNat
  refine ⟨struckEffect (eccFlag s 0 off.toNat) (.rakeSlot p i), rfl, fun x hx => ?_, ?_⟩
  · obtain ⟨y, rfl⟩ := mfind_map_at (f := fun y : RakeSlot => { y with fresh := true, quiet := true }) hx
    exact ⟨rfl, rfl⟩
  · unfold struckEffect
    rw [hu]

/-- R31: the bus of a core returns an error. -/
theorem gardenerSram_struck_runs (s : State) (c : Fin 4) (off : BitVec 25) :
    Runs (.sramEccUncorrectable (.gardenerSram c) off) s fun t =>
      bitOf (getF t F.GLB_ECC_STATUS_UNCORR) 5 = true ∧ t.out = .bus c none :: s.out ∧ OnlyShown s t := by
  have hu : eccFlag s 5 off.toNat = { s with cells := (eccFlag s 5 off.toNat).cells } := eccFlag_only s 5 off.toNat
  have hout : (emit (eccFlag s 5 off.toNat) (.bus c none)).out = .bus c none :: s.out := by rw [hu]; rfl
  refine ⟨emit (eccFlag s 5 off.toNat) (.bus c none), rfl, status_eccFlag s _ (by decide), hout, ?_, [.bus c none], hout⟩
  unfold emit
  rw [hu]

/-- Settles O11: each clause is the rule of its error above; a counter that is not full carries into no other, and the sources of SRAM errors are no
Level sources, so raising one makes it pending. -/
theorem eccErrors : Obligations.EccErrors :=
  ⟨sramEccCorrected_runs, windowLine_struck_runs, trellisEntry_struck_runs, rakeSlot_struck_runs, gardenerSram_struck_runs⟩

end Sys2Proof.Proofs.EccErrors
end

section
/-!
SUPPORT. The plot queue (R49, R57, R58): what showing RATE_HELD and taking the head off the queue leave.
-/
namespace Sys2Proof.Proofs.PlotQueue
open Sys2Proof.Machine Sys2Proof.Proofs.Fields Sys2Proof.Proofs.CanonicalForm

variable {s t : State} {p : Nat}

/-! ### Fields of a PlotEntry and of the quadrants -/

/-- Fields of two blocks are at different places. -/
theorem key_ne_of_addr_lt {f g : Fld} (hg : g.lo < 64) (h : g.addr < f.addr) : f.key ≠ g.key := by
  unfold Fld.key
  omega

/-- The registers of a plot's quadrant lie below its PlotEntry. -/
theorem quadrant_addr_lt {a : Nat} (p : Nat) (ha : a < 0x200000000) : a + quadrantOf p * 0x40000 < A.PE_STATUS p := by
  unfold quadrantOf A.PE_STATUS
  omega

/-! ### STATUS.RATE_HELD (R49) -/

theorem rateShow_only (s : State) (p : Nat) : rateShow s p = { s with cells := (rateShow s p).cells, plots := (rateShow s p).plots } := by
  unfold rateShow
  split_ifs <;> rfl

theorem fieldsBut_rateShow (s : State) (p : Nat) : FieldsBut s (rateShow s p) [F.PE_STATUS_RATE_HELD p] := by
  unfold rateShow
  split_ifs
  · exact fieldsBut_refl s _
  · exact fieldsBut_setF _ (by simp) (fieldsBut_refl s _)

/-- Showing the field notes at most that the plot has something to write back. -/
theorem plotOf_rateShow (h : mwf s.plots = true) : ∃ b, plotOf (rateShow s p) p = { plotOf s p with dirty := b } := by
  unfold rateShow
  split_ifs
  · exact ⟨_, rfl⟩
  · refine ⟨true, (plotOf_modPlot_same (setB s _ _) h p _).trans ?_⟩
    rw [Bool.or_false]
    rfl

theorem mwf_plots_rateShow (h : mwf s.plots = true) : mwf (rateShow s p).plots = true := by
  unfold rateShow
  split_ifs
  · exact h
  · exact mwf_mset _ _ _ h

/-- The field shows whether the bucket holds requests. -/
theorem bitF_rateShow (s : State) (p : Nat) : bitF (rateShow s p) (F.PE_STATUS_RATE_HELD p) = rateHeld s p := by
  unfold rateShow
  split_ifs with h
  · exact eq_of_beq h
  · change bitF (setB s (F.PE_STATUS_RATE_HELD p) (rateHeld s p)) (F.PE_STATUS_RATE_HELD p) = _
    rw [bitF, getF_setB_same s _ _ rfl]
    cases rateHeld s p <;> rfl

/-- A bucket that admits holds no request (R57). -/
theorem rateHeld_of_txAdmits (h : txAdmits s p = true) (hrate : getF t (F.PE_RATE_RATE p 0) = getF s (F.PE_RATE_RATE p 0))
    (htx : (plotOf t p).tx = (plotOf s p).tx) : rateHeld t p = false := by
  simp only [txAdmits, Bool.and_eq_true, Bool.or_eq_true, beq_iff_eq, decide_eq_true_eq] at h
  obtain ⟨hbucket, -⟩ := h
  simp only [rateHeld, hrate, htx]
  rcases hbucket with hzero | hlevel
  · simp [hzero]
  · simp [Int.not_lt.2 hlevel]

/-! ### The queue's head (R58) -/

/-- What moving a request into the queue of a plot, or taking its head off, leaves: the plot but for its queue, the quadrant but for the port's receive
buffer, and every field but RATE_HELD. -/
structure Requeued (s t : State) (p : Nat) (queue : List OutReq) : Prop where
  only : t = { s with cells := t.cells, plots := t.plots, quads := t.quads }
  fields : FieldsBut s t [F.PE_STATUS_RATE_HELD p]
  plot : ∃ b, plotOf t p = { plotOf s p with queue := queue, dirty := b }
  quad : ∃ l, quadOf t (quadrantOf p) = { quadOf s (quadrantOf p) with held := l }
  plots_wf : mwf t.plots = true
  quads_wf : mwf t.quads = true

theorem Requeued.funcs_eq {queue : List OutReq} (h : Requeued s t p queue) : t.funcs = s.funcs := by rw [h.only]

theorem Requeued.ports_eq {queue : List OutReq} (h : Requeued s t p queue) : t.ports = s.ports := by rw [h.only]

/-- The change of a queue, shown in RATE_HELD. -/
theorem Requeued.rateShow {queue : List OutReq} (h : Requeued s t p queue) : Requeued s (rateShow t p) p queue := by
  obtain ⟨b, hplot⟩ := h.plot
  obtain ⟨b', hshow⟩ := plotOf_rateShow (p := p) h.plots_wf
  have honly := rateShow_only t p
  have hquads : (Machine.rateShow t p).quads = t.quads := by rw [honly]
  refine ⟨?_, fieldsBut_trans h.fields (fieldsBut_rateShow t p), ⟨b', by rw [hshow, hplot]⟩, ?_, mwf_plots_rateShow h.plots_wf, hquads ▸ h.quads_wf⟩
  · rw [honly, h.only]
  · simpa only [quadOf, hquads] using h.quad

theorem requeued_drop (hp : mwf s.plots = true) (hq : mwf s.quads = true) :
    Requeued s (modPlot s p fun y => { y with queue := y.queue.drop 1 }) p ((plotOf s p).queue.drop 1) :=
  ⟨rfl, fieldsBut_refl s _, ⟨_, plotOf_modPlot_same s hp p _⟩, ⟨_, rfl⟩, mwf_mset _ _ _ hp, hq⟩

/-- A request of the receive buffer takes a place behind the rest, or none does. -/
theorem pullHeld_cases (s : State) (p : Nat) :
    pullHeld s p = rateShow s p ∨ ∃ x : Nat × OutReq, pullHeld s p =
      rateShow (modPlot (modQuad s (quadrantOf p) fun u => { u with held := u.held.erase x }) p fun y => { y with queue := y.queue ++ [x.2] }) p := by
  unfold pullHeld
  dsimp only
  split_ifs
  · split
    · exact .inl rfl
    · exact .inr ⟨_, rfl⟩
  · exact .inl rfl

/-- A bucket that admitted holds no request after the change of the queue either. -/
theorem Requeued.rateHeld_eq_false {queue : List OutReq} (h : Requeued s t p queue) (ha : txAdmits s p = true) : rateHeld t p = false := by
  obtain ⟨b, hplot⟩ := h.plot
  refine rateHeld_of_txAdmits ha (h.fields _ ?_) (by rw [hplot])
  simp only [List.mem_singleton, forall_eq]
  change (0x200000000 + p * 0x100 + 0x20 + 8 * 0) * 64 + 0 ≠ (0x200000000 + p * 0x100 + 0) * 64 + 9
  omega

theorem Requeued.pullHeld {queue : List OutReq} (h : Requeued s t p queue) :
    ∃ more, Requeued s (pullHeld t p) p (queue ++ more) ∧
      (txAdmits s p = true → bitF (pullHeld t p) (F.PE_STATUS_RATE_HELD p) = false) := by
  rcases pullHeld_cases t p with heq | ⟨x, heq⟩ <;> rw [heq]
  · exact ⟨[], by rw [List.append_nil]; exact h.rateShow, fun ha => (bitF_rateShow t p).trans (h.rateHeld_eq_false ha)⟩
  · obtain ⟨b, hplot⟩ := h.plot
    obtain ⟨l, hquad⟩ := h.quad
    have hpull : Requeued s (modPlot (modQuad t (quadrantOf p) fun u => { u with held := u.held.erase x }) p fun y =>
        { y with queue := y.queue ++ [x.2] }) p (queue ++ [x.2]) := by
      refine ⟨?_, h.fields, ⟨b, ?_⟩, ⟨l.erase x, ?_⟩, mwf_mset _ _ _ h.plots_wf, mwf_mset _ _ _ h.quads_wf⟩
      · change ({ t with plots := _, quads := _ } : State) = _
        rw [h.only]
        rfl
      · rw [plotOf_modPlot_same (modQuad t _ _) h.plots_wf, plotOf_modQuad, hplot]
      · rw [quadOf_modPlot, quadOf_modQuad_same t h.quads_wf, hquad]
    exact ⟨[x.2], hpull.rateShow, fun ha => (bitF_rateShow _ p).trans (hpull.rateHeld_eq_false ha)⟩

/-- The head leaves the queue; a request of the receive buffer may take a place behind the rest. -/
theorem plotPop_requeued (hp : mwf s.plots = true) (hq : mwf s.quads = true) :
    ∃ more, Requeued s (plotPop s p) p ((plotOf s p).queue.drop 1 ++ more) ∧
      (txAdmits s p = true → bitF (plotPop s p) (F.PE_STATUS_RATE_HELD p) = false) := (requeued_drop hp hq).pullHeld

end Sys2Proof.Proofs.PlotQueue
end

section
/-!
SUPPORT. How a host request that is refused ends: the error in its function, the error message and the completion (R276), and its FaultRecord (R61).
-/
namespace Sys2Proof.Proofs.Refusals
open Sys2Proof.Machine Sys2Proof.Proofs.Fields Sys2Proof.Proofs.PlotQueue

variable {s t : State} {p : Nat} {e : AerErr}

/-! ### Host ports and functions -/

theorem funcOf_congr (h : t.funcs = s.funcs) (p : Nat) : funcOf t p = funcOf s p := by simp [funcOf, h]

theorem portOf_congr (h : t.ports = s.ports) (n : Nat) : portOf t n = portOf s n := by simp [portOf, h]

theorem funcOf_setFunc_same (f : Func) (h : mwf s.funcs = true) : funcOf (setFunc s p f) p = f := mget_mset_same _ _ _ h

theorem txq_pushTlp (n : Nat) (x : TlpOut) (h : mwf s.ports = true) : (portOf (pushTlp s n x) n).txq = (portOf s n).txq ++ [x] :=
  congrArg HostPort.txq (mget_mset_same n ({ portOf s n with txq := (portOf s n).txq ++ [x] } : HostPort) ({} : HostPort) h)

theorem mwf_ports_pushTlp (n : Nat) (x : TlpOut) (h : mwf s.ports = true) : mwf (pushTlp s n x).ports = true := mwf_mset _ _ _ h

/-- The error message depends on the functions, the ports and the data link alone. -/
theorem errorTlp_congr (hf : t.funcs = s.funcs) (hp : t.ports = s.ports)
    (hup : getF t (F.HPT_LINK_DL_UP (quadrantOf p)) = getF s (F.HPT_LINK_DL_UP (quadrantOf p))) (e : AerErr) (adv : Bool) :
    errorTlp t p e adv = errorTlp s p e adv := by
  have hmsg : errMessage t p e adv = errMessage s p e adv := by simp only [errMessage, funcOf_congr hf]
  have hrid : ridOf t p = ridOf s p := by simp only [ridOf, portOf_congr hp]
  simp only [errorTlp, hmsg, hrid, bitF_congr hup]

/-! ### AER (R276) -/

/-- A logged error stands in the function's log; the port sends its message, if it has one. -/
theorem aerLogAs_cases (s : State) (p : Nat) (e : AerErr) (adv : Bool) :
    ∃ f : Func,
      (errorTlp s p e adv = [] ∧ aerLogAs s p e adv = emit (setFunc s p f) (.aer p e) ∨
        ∃ x, errorTlp s p e adv = [x] ∧ aerLogAs s p e adv = pushTlp (emit (setFunc s p f) (.aer p e)) (quadrantOf p) x) ∧ e ∈ f.aer := by
  have hmem (l : List AerErr) : e ∈ if l.contains e then l else l ++ [e] := by
    split_ifs with h
    · exact List.contains_iff_mem.1 h
    · simp
  unfold errorTlp aerLogAs
  dsimp only
  cases errMessage s p e adv with
  | none => exact ⟨_, .inl ⟨rfl, rfl⟩, hmem _⟩
  | some k =>
    cases hup : bitF s (F.HPT_LINK_DL_UP (quadrantOf p)) with
    | false => exact ⟨_, .inl ⟨rfl, if_neg (ne_true_of_eq_false hup)⟩, hmem _⟩
    | true => exact ⟨_, .inr ⟨_, rfl, if_pos hup⟩, hmem _⟩

/-! ### The completion (R152, R276) -/

/-- The request ends with a completion that brings no data, behind the message of the error logged; its counter goes up. -/
structure CompletedWith (s t : State) (p : Nat) (r : OutReq) (e : AerErr) (st : CplStatus) (count : Fld) : Prop where
  txq : (portOf t (quadrantOf p)).txq = (portOf s (quadrantOf p)).txq ++ errorTlp s p e true ++
    [{ kind := .completion, plot := p, reqId := r.reqId, tag := r.tag, status := st }]
  aer : e ∈ (funcOf t p).aer
  fields : FieldsBut s t [count]
  plots : t.plots = s.plots
  funcs_wf : mwf t.funcs = true

theorem completedWith (hf : mwf s.funcs = true) (hp : mwf s.ports = true) (r : OutReq) (e : AerErr) (st : CplStatus) (count : Fld) :
    CompletedWith s (completeNoData (bump (aerLogAs s p e true) count) p r st) p r e st count := by
  obtain ⟨f, hlog, haer⟩ := aerLogAs_cases s p e true
  have hfunc : e ∈ (funcOf (setFunc s p f) p).aer := by rwa [funcOf_setFunc_same f hf]
  have hcells : (aerLogAs s p e true).cells = s.cells := by rw [aerLogAs_only]
  have hports : mwf (aerLogAs s p e true).ports = true ∧
      (portOf (aerLogAs s p e true) (quadrantOf p)).txq = (portOf s (quadrantOf p)).txq ++ errorTlp s p e true := by
    rcases hlog with ⟨hmsg, hlog⟩ | ⟨x, hmsg, hlog⟩ <;> rw [hmsg, hlog]
    · exact ⟨hp, (List.append_nil _).symm⟩
    · exact ⟨mwf_ports_pushTlp _ _ hp, txq_pushTlp _ _ hp⟩
  have hfuncs : (aerLogAs s p e true).funcs = (setFunc s p f).funcs := by
    rcases hlog with ⟨-, hlog⟩ | ⟨x, -, hlog⟩ <;> rw [hlog] <;> rfl
  obtain ⟨hports_wf, htxq⟩ := hports
  refine ⟨?_, ?_, ?_, ?_, ?_⟩
  · rw [← htxq]
    exact txq_pushTlp (s := bump (aerLogAs s p e true) count) _ _ hports_wf
  · change e ∈ (funcOf (aerLogAs s p e true) p).aer
    rwa [funcOf_congr hfuncs]
  · exact fieldsBut_setF _ (by simp) (fieldsBut_congr hcells (fieldsBut_refl s _))
  · change (aerLogAs s p e true).plots = _
    rw [aerLogAs_only]
  · change mwf (aerLogAs s p e true).funcs = true
    rw [hfuncs]
    exact mwf_mset _ _ _ hf

theorem completeAbort_completedWith (hf : mwf s.funcs = true) (hp : mwf s.ports = true) {r : OutReq} (hr : r.kind ≠ .write) :
    CompletedWith s (completeAbort s p r) p r .completerAbort .ca (F.HPT_COUNT_CA_SENT (quadrantOf p)) := by
  have heq : completeAbort s p r =
      completeNoData (bump (aerLogAs s p .completerAbort true) (F.HPT_COUNT_CA_SENT (quadrantOf p))) p r .ca := by
    simp [completeAbort, bne, beq_false_of_ne hr]
  exact heq ▸ completedWith hf hp r _ _ _

theorem completeUr_completedWith (hf : mwf s.funcs = true) (hp : mwf s.ports = true) {r : OutReq} (hr : r.kind ≠ .write) :
    CompletedWith s (completeUr s p r) p r .unsupportedRequest .ur (F.HPT_COUNT_UR_SENT (quadrantOf p)) := by
  have heq : completeUr s p r =
      completeNoData (bump (aerLogAs s p .unsupportedRequest true) (F.HPT_COUNT_UR_SENT (quadrantOf p))) p r .ur := by
    simp [completeUr, bne, beq_false_of_ne hr]
  exact heq ▸ completedWith hf hp r _ _ _

theorem refuseAbort_of_not_write {r : OutReq} (hr : r.kind ≠ .write) (counted : Bool) : refuseAbort s p r counted = completeAbort s p r := by
  simp [refuseAbort, hr]

/-! ### FaultRecords (R61 to R64) -/

/-- Requesting a vector leaves the errors that the function has logged. -/
theorem aer_reqVector (p v : Nat) (h : mwf s.funcs = true) : (funcOf (reqVector s p v) p).aer = (funcOf s p).aer := by
  have hmsi (n : Nat) : (funcOf (setFunc s p { funcOf s p with msiPend := n }) p).aer = (funcOf s p).aer := by rw [funcOf_setFunc_same _ h]
  unfold reqVector
  cases hdrop : dropByState s p v with
  | true => rfl
  | false =>
    cases mechanism s p with
    | none => rfl
    | intx =>
      simp only [Bool.false_eq_true, if_false]
      rw [intaUpdate_only]
      rfl
    | msix =>
      simp only [Bool.false_eq_true, if_false]
      split_ifs <;> rfl
    | msi =>
      simp only [Bool.false_eq_true, if_false]
      split_ifs
      · exact hmsi _
      · exact hmsi _

/-- The fields that a written record advances. -/
def ringFields (p : Nat) : List Fld := [F.PE_FAULT_PTR_PROD p, F.PE_FAULT_PTR_PHASE p]

/-- A record is written, the ring's pointers advance, and the plot's vector is requested or not (R61, R64). -/
theorem faultWrite_cases (s : State) (p : Nat) (r : FaultRec) :
    ∃ u, (faultWrite s p r = u ∨ ∃ v, faultWrite s p r = reqVector u p v) ∧ u.funcs = s.funcs ∧ FieldsBut s u (ringFields p) := by
  have hnext (v : Nat) : FieldsBut s (setF s (F.PE_FAULT_PTR_PROD p) v) (ringFields p) :=
    fieldsBut_setF v (by simp [ringFields]) (fieldsBut_refl s _)
  have hwrap (v : Nat) : FieldsBut s (setF (setF s (F.PE_FAULT_PTR_PROD p) 0) (F.PE_FAULT_PTR_PHASE p) v) (ringFields p) :=
    fieldsBut_setF v (by simp [ringFields]) (hnext 0)
  unfold faultWrite
  dsimp only
  split_ifs
  · exact ⟨_, .inl rfl, rfl, fieldsBut_congr rfl (hwrap _)⟩
  · exact ⟨_, .inr ⟨_, rfl⟩, rfl, fieldsBut_congr rfl (hwrap _)⟩
  · exact ⟨_, .inl rfl, rfl, fieldsBut_congr rfl (hnext _)⟩
  · exact ⟨_, .inr ⟨_, rfl⟩, rfl, fieldsBut_congr rfl (hnext _)⟩

theorem fieldsBut_reqVector (p v : Nat) (fs : List Fld) : FieldsBut s (reqVector s p v) fs :=
  fieldsBut_congr (by rw [reqVector_only]) (fieldsBut_refl s fs)

theorem fieldsBut_faultWrite (s : State) (p : Nat) (r : FaultRec) : FieldsBut s (faultWrite s p r) (ringFields p) := by
  obtain ⟨u, heq | ⟨v, heq⟩, -, hfields⟩ := faultWrite_cases s p r <;> rw [heq]
  · exact hfields
  · exact fieldsBut_trans hfields (fieldsBut_reqVector p v _)

theorem aer_faultWrite (p : Nat) (r : FaultRec) (h : mwf s.funcs = true) : (funcOf (faultWrite s p r) p).aer = (funcOf s p).aer := by
  obtain ⟨u, heq | ⟨v, heq⟩, hfuncs, -⟩ := faultWrite_cases s p r <;> rw [heq]
  · rw [funcOf_congr hfuncs]
  · rw [aer_reqVector p v (hfuncs ▸ h), funcOf_congr hfuncs]

/-- LAST_FAULT is no pointer and no counter of the log. -/
theorem lastFault_key_ne {f : Fld}
    (hf : f ∈ ringFields p ++ [F.PE_FAULT_PTR_HELD p, F.PE_FAULT_PTR_OVERFLOW p, F.PE_COUNTERS_FAULTS_LOST p]) :
    (F.PE_STATUS_LAST_FAULT p).key ≠ f.key := by
  simp only [ringFields, List.cons_append, List.nil_append, List.mem_cons, List.not_mem_nil, or_false] at hf
  have haddr : (F.PE_STATUS_LAST_FAULT p).addr < f.addr := by
    rcases hf with rfl | rfl | rfl | rfl | rfl <;> exact Nat.add_lt_add_left (by decide) _
  exact (key_ne_of_addr_lt (show 40 < 64 by decide) haddr).symm

/-- A record of a loaded plot is noted in LAST_FAULT (R61), and leaves the errors that the function has logged. -/
theorem faultCreate_noted {r : FaultRec} (hf : mwf s.funcs = true) (hd : plotState s p ≠ psDisabled) (hl : plotState s p ≠ psLoading)
    (hc : r.code < 2 ^ 8) : getF (faultCreate s p r) (F.PE_STATUS_LAST_FAULT p) = r.code ∧ (funcOf (faultCreate s p r) p).aer = (funcOf s p).aer := by
  have hnoted : getF (setF s (F.PE_STATUS_LAST_FAULT p) r.code) (F.PE_STATUS_LAST_FAULT p) = r.code :=
    (getF_setF_same s _ _).trans (Nat.mod_eq_of_lt hc)
  unfold faultCreate
  dsimp only
  rw [if_neg (by simp [hd, hl])]
  split_ifs
  · refine ⟨?_, rfl⟩
    refine (getF_congr (s := setF (setF s (F.PE_STATUS_LAST_FAULT p) r.code) (F.PE_FAULT_PTR_HELD p) _) rfl _).trans ?_
    rw [getF_setF_ne _ _ (lastFault_key_ne (by simp)), hnoted]
  · refine ⟨?_, rfl⟩
    refine (getF_congr (s := bump (setF (setF s (F.PE_STATUS_LAST_FAULT p) r.code) (F.PE_FAULT_PTR_OVERFLOW p) 1)
      (F.PE_COUNTERS_FAULTS_LOST p)) rfl _).trans ?_
    rw [getF_bump_ne _ (lastFault_key_ne (by simp)), getF_setF_ne _ _ (lastFault_key_ne (by simp)), hnoted]
  · refine ⟨?_, aer_faultWrite p _ hf⟩
    rw [fieldsBut_faultWrite _ p _ _ fun f h => lastFault_key_ne (List.mem_append_left _ h)]
    exact (getF_congr (s := setF s (F.PE_STATUS_LAST_FAULT p) r.code) rfl _).trans hnoted

end Sys2Proof.Proofs.Refusals
end

section
/-!
CLAIM. Admission of a plot queue's head (R27, R58, R81, R276): the rules of the four outcomes, and the obligation, whose frame for a translated read
leaves out the event of a wait on an empty pool (R132).
-/
namespace Sys2Proof.Proofs.Admission
open Sys2Proof.Machine Sys2Proof.Proofs.Fields Sys2Proof.Proofs.CanonicalForm Sys2Proof.Proofs.PlotQueue Sys2Proof.Proofs.Refusals

variable {s t u : State} {r : OutReq} {rs queue : List OutReq} {w : Nat} {l : Line} {e : WinEntry}

/-! ### The head of the queue and the line it matches (R58, R81) -/

/-- In Serving, with nothing matched before it, the head is completed for its kind, goes to Graft, or waits. -/
theorem plotAdmit_head {p : Nat} (hfree : (plotOf s p).matched = none) (hqueue : (plotOf s p).queue = r :: rs)
    (hserving : plotState s p = psServing) :
    plotAdmit s p =
      if r.kind == .atomic && !bitF s (F.PE_CAPS_ATOMIC_EN p) then completeUr (plotPop s p) p r
      else if txAdmits s p && !heldQ s (quadrantOf p) 2 then admitOut s p r else s := by
  simp [plotAdmit, hfree, hqueue, hserving, stateOutcome]

/-- The head of a Serving plot's queue is a read that its buckets let pass and that a line matches. -/
structure HeadHits (s : State) (p : Fin 4096) (r : OutReq) (rs : List OutReq) (w : Nat) (l : Line) (e : WinEntry) : Prop where
  wf : s.wf = true
  runs : quadRuns s (quadrantOf p) = true
  free : (plotOf s p).matched = none
  queue : (plotOf s p).queue = r :: rs
  serving : plotState s p = psServing
  read : r.kind = .read
  admits : txAdmits s p = true
  ledger : heldQ s (quadrantOf p) 2 = false
  graft : heldQ s (quadrantOf p) 1 = false
  hit : findLine s p false r.bar4 r.off r.len = some (w, l, e)
  unmarked : l.marked = false

theorem HeadHits.exec_eq {p : Fin 4096} (h : HeadHits s p r rs w l e) :
    exec (.plotQueueAdmit p) s = .next (decideOut (plotPop s p) p r w l e) := by
  have hadmit : admitOut s p r = decideOut (plotPop s p) p r w l e := by simp [admitOut, h.graft, h.hit, recheck, h.unmarked]
  change execPlotQueueAdmit p s = _
  simp only [execPlotQueueAdmit, h.runs, if_true, plotAdmit_head h.free h.queue h.serving, h.read, h.admits, h.ledger, hadmit]
  rfl

/-! ### Refused (R81, R276) -/

/-- The head has left its queue and ends with a completion: the outcome in the words of the state before. -/
theorem completedWith_of_requeued {p : Fin 4096} {er : AerErr} {st : CplStatus} {count : Fld} (h : Requeued s u p queue)
    (hc : CompletedWith u t p r er st count) :
    (portOf t (quadrantOf p)).txq = (portOf s (quadrantOf p)).txq ++ errorTlp s p er true ++
        [{ kind := .completion, plot := p, reqId := r.reqId, tag := r.tag, status := st }] ∧
      er ∈ (funcOf t p).aer ∧ (plotOf t p).queue = queue := by
  have hup : getF u (F.HPT_LINK_DL_UP (quadrantOf p)) = getF s (F.HPT_LINK_DL_UP (quadrantOf p)) :=
    h.fields _ (by simpa using (key_ne_of_addr_lt (show 17 < 64 by decide) (quadrant_addr_lt p (by decide : 0x100008 < 0x200000000))).symm)
  obtain ⟨b, hplot⟩ := h.plot
  refine ⟨?_, hc.aer, ?_⟩
  · rw [hc.txq, portOf_congr h.ports_eq, errorTlp_congr h.funcs_eq h.ports_eq hup]
  · have hplots : plotOf t p = plotOf u p := by simp only [plotOf, hc.plots]
    rw [hplots, hplot]

theorem decideOut_not_enabled {p : Nat} (hfence : l.fenced = false) (hen : kindEnabled e r.kind = false) :
    decideOut s p r w l e = refuseAbort s p r true := by simp [decideOut, hfence, hen]

theorem decideOut_fenced {p : Nat} (hfence : l.fenced = true) :
    decideOut s p r w l e =
      faultCreate (refuseAbort s p r true) p (hedgeRecord s 1 (e.tbase + (r.off - e.first)) r.len (some e.node) (some w) none) := by
  simp [decideOut, hfence]

/-- R81, R276: a read whose window has RD_EN 0. -/
theorem plotQueueAdmit_not_enabled_runs {p : Fin 4096} (h : HeadHits s p r rs w l e) (hfence : l.fenced = false) (hrd : e.rdEn = false) :
    Runs (.plotQueueAdmit p) s fun t =>
      (portOf t (quadrantOf p)).txq = (portOf s (quadrantOf p)).txq ++ errorTlp s p .completerAbort true ++
        [{ kind := .completion, plot := p, reqId := r.reqId, tag := r.tag, status := .ca }] ∧
      AerErr.completerAbort ∈ (funcOf t p).aer ∧ (∃ more, (plotOf t p).queue = rs ++ more) := by
  obtain ⟨more, hpop, -⟩ := plotPop_requeued (p := p) (mwf_plots_of_wf h.wf) (mwf_quads_of_wf h.wf)
  have hread : r.kind ≠ .write := by simp [h.read]
  have hexec : exec (.plotQueueAdmit p) s = .next (completeAbort (plotPop s p) p r) := by
    rw [h.exec_eq, decideOut_not_enabled hfence (by rw [h.read]; exact hrd), refuseAbort_of_not_write hread]
  obtain ⟨htxq, haer, hqueue⟩ := completedWith_of_requeued hpop
    (completeAbort_completedWith (hpop.funcs_eq ▸ mwf_funcs_of_wf h.wf) (hpop.ports_eq ▸ mwf_ports_of_wf h.wf) hread)
  exact ⟨_, hexec, htxq, haer, more, by rw [hqueue, h.queue]; rfl⟩

/-- R81, R407: a read that a fenced line matches. -/
theorem plotQueueAdmit_fenced_runs {p : Fin 4096} (h : HeadHits s p r rs w l e) (hfence : l.fenced = true) :
    Runs (.plotQueueAdmit p) s fun t => getF t (F.PE_STATUS_LAST_FAULT p) = 0x28 ∧ AerErr.completerAbort ∈ (funcOf t p).aer := by
  obtain ⟨more, hpop, -⟩ := plotPop_requeued (p := p) (mwf_plots_of_wf h.wf) (mwf_quads_of_wf h.wf)
  have hread : r.kind ≠ .write := by simp [h.read]
  have hc := completeAbort_completedWith (p := p) (hpop.funcs_eq ▸ mwf_funcs_of_wf h.wf) (hpop.ports_eq ▸ mwf_ports_of_wf h.wf) hread
  have hserving : plotState (completeAbort (plotPop s p) p r) p = psServing := by
    have hcount : (F.PE_STATUS_STATE p).key ≠ (F.HPT_COUNT_CA_SENT (quadrantOf p)).key :=
      key_ne_of_addr_lt (show 32 < 64 by decide) (quadrant_addr_lt p (by decide : 0x100010 < 0x200000000))
    have hheld : (F.PE_STATUS_STATE p).key ≠ (F.PE_STATUS_RATE_HELD p).key := by
      change A.PE_STATUS p * 64 + 0 ≠ A.PE_STATUS p * 64 + 9
      omega
    calc getF (completeAbort (plotPop s p) p r) (F.PE_STATUS_STATE p) = getF (plotPop s p) (F.PE_STATUS_STATE p) :=
          hc.fields _ (by simpa using hcount)
      _ = getF s (F.PE_STATUS_STATE p) := hpop.fields _ (by simpa using hheld)
      _ = psServing := h.serving
  obtain ⟨hlast, haer⟩ := faultCreate_noted (r := hedgeRecord (plotPop s p) 1 (e.tbase + (r.off - e.first)) r.len (some e.node) (some w) none)
    hc.funcs_wf (by rw [hserving]; decide) (by rw [hserving]; decide) (by decide : 0x28 < 2 ^ 8)
  refine ⟨_, h.exec_eq, ?_⟩
  dsimp only
  rw [decideOut_fenced hfence, refuseAbort_of_not_write hread, haer]
  exact ⟨hlast, hc.aer⟩

/-- R276: an AtomicOp of a plot without ATOMIC_EN. -/
theorem plotQueueAdmit_atomic_runs {p : Fin 4096} (hwf : s.wf = true) (hruns : quadRuns s (quadrantOf p) = true)
    (hfree : (plotOf s p).matched = none) (hqueue : (plotOf s p).queue = r :: rs) (hserving : plotState s p = psServing)
    (hatomic : r.kind = .atomic) (hen : bitF s (F.PE_CAPS_ATOMIC_EN p) = false) :
    Runs (.plotQueueAdmit p) s fun t =>
      (portOf t (quadrantOf p)).txq = (portOf s (quadrantOf p)).txq ++ errorTlp s p .unsupportedRequest true ++
        [{ kind := .completion, plot := p, reqId := r.reqId, tag := r.tag, status := .ur }] ∧
      AerErr.unsupportedRequest ∈ (funcOf t p).aer ∧ (∃ more, (plotOf t p).queue = rs ++ more) := by
  obtain ⟨more, hpop, -⟩ := plotPop_requeued (p := p) (mwf_plots_of_wf hwf) (mwf_quads_of_wf hwf)
  have hexec : exec (.plotQueueAdmit p) s = .next (completeUr (plotPop s p) p r) := by
    change execPlotQueueAdmit p s = _
    simp [execPlotQueueAdmit, hruns, plotAdmit_head hfree hqueue hserving, hatomic, hen]
  have hwrite : r.kind ≠ .write := by simp [hatomic]
  obtain ⟨htxq, haer, hrest⟩ := completedWith_of_requeued hpop
    (completeUr_completedWith (hpop.funcs_eq ▸ mwf_funcs_of_wf hwf) (hpop.ports_eq ▸ mwf_ports_of_wf hwf) hwrite)
  exact ⟨_, hexec, htxq, haer, more, by rw [hrest, hqueue]; rfl⟩

/-! ### Taken (R81, R86, R132) -/

/-- What touching a line, or counting a request in flight there, leaves: all but the lines of the plot's quadrant, and its stamp. -/
structure LinesOnly (s t : State) (q : Nat) : Prop where
  only : t = { s with quads := t.quads }
  quad : ∃ ls n, quadOf t q = { quadOf s q with lines := ls, stamp := n }
  quads_wf : mwf t.quads = true

theorem linesOnly_modQuad {q : Nat} {g : Quad → Quad} (h : mwf s.quads = true)
    (hg : ∃ ls n, g (quadOf s q) = { quadOf s q with lines := ls, stamp := n }) : LinesOnly s (modQuad s q g) q := by
  obtain ⟨ls, n, hg⟩ := hg
  exact ⟨rfl, ⟨ls, n, (quadOf_modQuad_same s h q g).trans hg⟩, mwf_mset _ _ _ h⟩

theorem LinesOnly.trans {q : Nat} (h : LinesOnly s t q) (h' : LinesOnly t u q) : LinesOnly s u q := by
  obtain ⟨ls, n, hquad⟩ := h.quad
  obtain ⟨ls', n', hquad'⟩ := h'.quad
  exact ⟨by rw [h'.only, h.only], ⟨ls', n', by rw [hquad', hquad]⟩, h'.quads_wf⟩

theorem LinesOnly.ledger {q : Nat} (h : LinesOnly s t q) : (quadOf t q).ledger = (quadOf s q).ledger := by
  obtain ⟨ls, n, hquad⟩ := h.quad
  rw [hquad]

theorem linesOnly_touchLine {p : Nat} (w : Nat) (h : mwf s.quads = true) : LinesOnly s (touchLine s p w) (quadrantOf p) := by
  unfold touchLine
  dsimp only
  split
  · exact ⟨rfl, ⟨_, _, rfl⟩, h⟩
  · have hstamp : LinesOnly s (modQuad s (quadrantOf p) fun x => { x with stamp := x.stamp + 1 }) (quadrantOf p) :=
      linesOnly_modQuad h ⟨_, _, rfl⟩
    exact hstamp.trans (linesOnly_modQuad hstamp.quads_wf ⟨_, _, rfl⟩)

theorem linesOnly_graftUp {p : Nat} (w : Nat) (h : mwf s.quads = true) : LinesOnly s (graftUp s p w) (quadrantOf p) :=
  linesOnly_modQuad h ⟨_, _, rfl⟩

/-- Whether a pool is empty is read from the quadrant's Ledger. -/
theorem poolEmpty_congr {q : Nat} (h : (quadOf t q).ledger = (quadOf s q).ledger) (wr : Bool) : poolEmpty t q wr = poolEmpty s q wr := by
  unfold poolEmpty usedEntries
  rw [h]

/-- The fields that a wait on an empty pool changes. -/
def fullFields (q : Nat) : List Fld := [F.LDG_EVENT_FULL q, F.EVG_PEND_PEND ((1224 + q) / 64)]

theorem rateHeld_key_ne_full {p : Nat} {f : Fld} (hf : f ∈ fullFields (quadrantOf p)) : (F.PE_STATUS_RATE_HELD p).key ≠ f.key := by
  simp only [fullFields, List.mem_cons, List.not_mem_nil, or_false] at hf
  rcases hf with rfl | rfl
  · exact key_ne_of_addr_lt (show 4 < 64 by decide) (quadrant_addr_lt p (by decide : 0x118028 < 0x200000000))
  · refine key_ne_of_addr_lt (show 0 < 64 by decide) ?_
    change 0x10500 + (1224 + p / 1024) / 64 * 8 < 0x200000000 + p * 0x100
    omega

theorem poolShort_only (s : State) (q : Nat) : poolShort s q = { s with cells := (poolShort s q).cells, quads := (poolShort s q).quads } := by
  unfold poolShort
  rw [setEv_only]
  rfl

theorem fieldsBut_poolShort (s : State) (q : Nat) : FieldsBut s (poolShort s q) (fullFields q) := by
  intro g hg
  exact getF_setEv_ne _ _ (hg _ (by simp [fullFields])) (hg _ (by simp [fullFields]))

/-- Each wait on an empty pool sets LDG_EVENT.FULL (R132). -/
theorem bitF_poolShort (s : State) (q : Nat) : bitF (poolShort s q) (F.LDG_EVENT_FULL q) = true := by
  refine bitF_setEv _ _ rfl (key_ne_of_addr_lt (show 0 < 64 by decide) ?_)
  change 0x10500 + (1224 + q) / 64 * 8 < 0x118028 + q * 0x40000
  omega

/-- A matched request is in flight in its window's generation and waits for a Ledger entry (R86, R132). -/
def waiting (s : State) (p : Nat) (m : Matched) : State :=
  modPlot (graftUp (touchLine s p m.win) p m.win) p fun x =>
    if x.matched.isNone then { x with matched := some m } else { x with passing := some m }

theorem waiting_of_free {p : Nat} (m : Matched) (hplots : mwf s.plots = true) (hquads : mwf s.quads = true)
    (hfree : (plotOf s p).matched = none) :
    waiting s p m = { s with plots := (waiting s p m).plots, quads := (waiting s p m).quads } ∧
      plotOf (waiting s p m) p = { plotOf s p with matched := some m } ∧
      poolEmpty (waiting s p m) (quadrantOf p) false = poolEmpty s (quadrantOf p) false := by
  have htouch := linesOnly_touchLine (p := p) m.win hquads
  have hlines := htouch.trans (linesOnly_graftUp m.win htouch.quads_wf)
  have hplots' : (graftUp (touchLine s p m.win) p m.win).plots = s.plots := by rw [hlines.only]
  refine ⟨?_, ?_, poolEmpty_congr hlines.ledger false⟩
  · unfold waiting modPlot setPlot
    rw [hlines.only]
  · have hsame : plotOf (graftUp (touchLine s p m.win) p m.win) p = plotOf s p := by simp only [plotOf, hplots']
    rw [waiting, plotOf_modPlot_same _ (hplots' ▸ hplots), hsame]
    simp [hfree]

theorem matchTaken_read {p : Nat} {m : Matched} (h : m.req.kind = .read) :
    matchTaken s p m =
      if !m.req.zero && poolEmpty (waiting s p m) (quadrantOf p) false then poolShort (waiting s p m) (quadrantOf p) else waiting s p m := by
  unfold matchTaken
  simp only [h]
  rfl

/-- What a matched read leaves: it waits for a Ledger entry, and a wait on an empty pool is noted. -/
structure Taken (s t : State) (p : Nat) (m : Matched) : Prop where
  only : t = { s with cells := t.cells, plots := t.plots, quads := t.quads }
  plot : plotOf t p = { plotOf s p with matched := some m }
  fields : FieldsBut s t (fullFields (quadrantOf p))
  full : m.req.zero = false → poolEmpty s (quadrantOf p) false = true → bitF t (F.LDG_EVENT_FULL (quadrantOf p)) = true
  room : poolEmpty s (quadrantOf p) false = false → t.cells = s.cells

theorem matchTaken_taken {p : Nat} {m : Matched} (hplots : mwf s.plots = true) (hquads : mwf s.quads = true)
    (hfree : (plotOf s p).matched = none) (hread : m.req.kind = .read) : Taken s (matchTaken s p m) p m := by
  obtain ⟨hv, hplot, hempty⟩ := waiting_of_free m hplots hquads hfree
  have hcells : (waiting s p m).cells = s.cells := by rw [hv]
  have hsame : FieldsBut s (waiting s p m) (fullFields (quadrantOf p)) := fieldsBut_congr hcells (fieldsBut_refl s _)
  rw [matchTaken_read hread, hempty]
  split_ifs with hwait
  · obtain ⟨-, hfull⟩ := Bool.and_eq_true_iff.1 hwait
    have honly := poolShort_only (waiting s p m) (quadrantOf p)
    have hplots' : (poolShort (waiting s p m) (quadrantOf p)).plots = (waiting s p m).plots := by rw [honly]
    refine ⟨by rw [honly, hv], ?_, fieldsBut_trans hsame (fieldsBut_poolShort _ _), fun _ _ => bitF_poolShort _ _, fun hroom => ?_⟩
    · simpa only [plotOf, hplots'] using hplot
    · rw [hroom] at hfull
      cases hfull
  · refine ⟨by rw [hv], hplot, hsame, fun hzero hfull => ?_, fun _ => hcells⟩
    simp [hzero, hfull] at hwait

/-- No prefetch entry, none that satisfies the read (R98). -/
theorem decideOut_taken {p : Nat} (hfence : l.fenced = false) (hen : kindEnabled e r.kind = true) (hpf : (quadOf s (quadrantOf p)).pf = []) :
    decideOut s p r w l e = matchTaken s p { req := r, win := w, gen := l.curGen, node := e.node, addr := e.tbase + (r.off - e.first), entry := e } := by
  simp [decideOut, hfence, hen, pfFind, hpf]

/-- R27, R49, R58, R81: a read that its window translates. A wait on an empty pool sets LDG_EVENT.FULL and raises its source (R132, R167). -/
theorem plotQueueAdmit_taken_runs {p : Fin 4096} (h : HeadHits s p r rs w l e) (hfence : l.fenced = false) (hrd : e.rdEn = true)
    (hpf : (quadOf s (quadrantOf p)).pf = []) :
    Runs (.plotQueueAdmit p) s fun t =>
      (plotOf t p).matched = some { req := r, win := w, gen := l.curGen, node := e.node, addr := e.tbase + (r.off - e.first), entry := e } ∧
      (∃ more, (plotOf t p).queue = rs ++ more) ∧ bitF t (F.PE_STATUS_RATE_HELD p) = false ∧
      FieldsBut s t (F.PE_STATUS_RATE_HELD p :: fullFields (quadrantOf p)) ∧
      (poolEmpty s (quadrantOf p) false = false → FieldsBut s t [F.PE_STATUS_RATE_HELD p]) ∧
      (r.zero = false → poolEmpty s (quadrantOf p) false = true → bitF t (F.LDG_EVENT_FULL (quadrantOf p)) = true) ∧
      t = { s with cells := t.cells, plots := t.plots, quads := t.quads } := by
  obtain ⟨more, hpop, hheld⟩ := plotPop_requeued (p := p) (mwf_plots_of_wf h.wf) (mwf_quads_of_wf h.wf)
  obtain ⟨b, hplot⟩ := hpop.plot
  obtain ⟨held, hquad⟩ := hpop.quad
  have hempty : poolEmpty (plotPop s p) (quadrantOf p) false = poolEmpty s (quadrantOf p) false := poolEmpty_congr (by rw [hquad]) false
  have htaken := matchTaken_taken (m := { req := r, win := w, gen := l.curGen, node := e.node, addr := e.tbase + (r.off - e.first), entry := e })
    hpop.plots_wf hpop.quads_wf (by rw [hplot]; exact h.free) h.read
  have hexec := h.exec_eq
  rw [decideOut_taken hfence (by rw [h.read]; exact hrd) (by rw [hquad]; exact hpf)] at hexec
  refine ⟨_, hexec, ?_, ⟨more, ?_⟩, ?_, ?_, fun hroom => ?_, fun hzero hfull => htaken.full hzero (hempty.trans hfull), ?_⟩
  · rw [htaken.plot]
  · rw [htaken.plot, hplot, h.queue]
    rfl
  · exact (bitF_congr (htaken.fields _ fun f => rateHeld_key_ne_full)).trans (hheld h.admits)
  · exact fieldsBut_trans (fieldsBut_mono (by simp) hpop.fields) (fieldsBut_mono (by simp) htaken.fields)
  · exact fieldsBut_congr (htaken.room (hempty.trans hroom)) hpop.fields
  · rw [htaken.only, hpop.only]

/-! ### The obligation -/

/-- The window of the counterexample: 64 KiB of BAR2 from offset 0, which reads of plot 0 may use. -/
def readWindow : WinEntry := { valid := true, last := 15, target := 32, node := 66, gen := 1, rdEn := true }

/-- The read at the head of the queue. -/
def headRead : OutReq := { kind := .read, bar4 := false, off := 0, len := 8 }

/-- As many reads in quadrant 0's Ledger as it has read entries (R131). -/
def fullLedger : SMap LEntry := (List.range 16384).map fun i =>
  (i, { kind := .read, hostPath := true, plot := 1, node := 66, addr := 64 * i, len := 8, req := headRead })

/-- Plot 0 is Serving, a read that a line matches is at the head of its queue, and no read entry is left. -/
def noReadEntry : State :=
  { setF (setF {} (F.PE_STATUS_STATE 0) psServing) (F.PE_WINDOWS_OUT_COUNT 0) 1 with
    plots := [(0, { queue := [headRead] })]
    quads := [(0, { lines := [(0, { entry := some readWindow, curGen := 1 })], ledger := fullLedger })] }

theorem poolEmpty_noReadEntry : poolEmpty noReadEntry 0 false = true := by
  have hledger : (quadOf noReadEntry 0).ledger = fullLedger := by simp [quadOf, noReadEntry, mget]
  have hall : ∀ x ∈ fullLedger, (x.2.kind != .release && !x.2.req.zero && (x.2.kind == .write) == false && true) = true := by
    intro x hx
    obtain ⟨i, -, rfl⟩ := List.mem_map.1 hx
    rfl
  have hused : usedEntries noReadEntry 0 false (fun _ => true) = 16384 := by
    rw [usedEntries, hledger, List.filter_eq_self.2 hall, fullLedger, List.length_map, List.length_range]
  simp [poolEmpty, hused]

theorem headHits_noReadEntry : HeadHits noReadEntry 0 headRead [] 0 { entry := some readWindow, curGen := 1 } readWindow where
  wf := by decide +kernel
  runs := by decide +kernel
  free := rfl
  queue := rfl
  serving := by decide +kernel
  read := rfl
  admits := by decide +kernel
  ledger := by decide +kernel
  graft := by decide +kernel
  hit := by decide +kernel
  unmarked := rfl

/-- Refutes O15: the frame of its clause on a translated read is RATE_HELD alone, but where no read entry is left the read waits on an empty pool, and
each such wait sets LDG_EVENT.FULL (R132). With that event and its source in the frame the clause is `plotQueueAdmit_taken_runs`, where nothing else of
it changes; the three other clauses hold as stated, each a theorem above. -/
theorem not_plotQueueAdmission : ¬ Obligations.PlotQueueAdmission := by
  intro h
  obtain ⟨htaken, -⟩ := h
  have hhit := headHits_noReadEntry
  obtain ⟨t, hexec, -, -, -, hframe, -⟩ := htaken noReadEntry 0 headRead [] 0 _ readWindow hhit.wf hhit.runs hhit.free hhit.queue hhit.serving
    hhit.read hhit.admits hhit.ledger hhit.graft hhit.hit hhit.unmarked rfl rfl rfl
  obtain ⟨t', hexec', -, -, -, -, -, hfull, -⟩ := plotQueueAdmit_taken_runs hhit rfl rfl rfl
  obtain rfl : t = t' := Host.Outcome.next.inj (hexec.symm.trans hexec')
  have hset : bitF t (F.LDG_EVENT_FULL 0) = true := hfull rfl poolEmpty_noReadEntry
  have hclear : bitF t (F.LDG_EVENT_FULL 0) = false := (bitF_congr (hframe _ (by decide))).trans (by decide +kernel)
  rw [hset] at hclear
  cases hclear

end Sys2Proof.Proofs.Admission
end

section
/-!
SUPPORT. The fault log (R61 to R64): what a FaultRecord leaves of its plot and of the port that it goes out by.
-/
namespace Sys2Proof.Proofs.FaultLog
open Sys2Proof.Machine Sys2Proof.Proofs.Refusals

variable {s t u : State} {p : Nat}

theorem portOf_modPort_same (n : Nat) (g : HostPort → HostPort) (h : mwf s.ports = true) : portOf (modPort s n g) n = g (portOf s n) :=
  mget_mset_same _ _ _ h

/-- A plot but for its fault log: the records held, SEQ, whether FAULT_VEC has been sent, and what is to be written back. -/
def logless (x : Plot) : Plot := { x with held := [], seq := 0, vecSent := false, dirty := false, pdirty := false }

/-- Of a plot its fault log alone has changed, and its port has only got more to transmit. -/
def Logged (s t : State) (p : Nat) : Prop :=
  mwf s.plots = true → mwf s.ports = true →
    mwf t.plots = true ∧ mwf t.ports = true ∧ logless (plotOf t p) = logless (plotOf s p) ∧
      ∃ l, (portOf t (quadrantOf p)).txq = (portOf s (quadrantOf p)).txq ++ l

theorem Logged.trans (h : Logged s t p) (h' : Logged t u p) : Logged s u p := by
  intro hplots hports
  obtain ⟨hplots, hports, hplot, l, htxq⟩ := h hplots hports
  obtain ⟨hplots, hports, hplot', l', htxq'⟩ := h' hplots hports
  exact ⟨hplots, hports, hplot'.trans hplot, l ++ l', by rw [htxq', htxq, List.append_assoc]⟩

theorem logged_of_eq (hplots : t.plots = s.plots) (hports : t.ports = s.ports) : Logged s t p := by
  intro hp hn
  refine ⟨hplots ▸ hp, hports ▸ hn, ?_, [], ?_⟩
  · simp only [plotOf, hplots]
  · rw [portOf_congr hports, List.append_nil]

theorem logged_modPlot {g : Plot → Plot} (hg : ∀ x, logless (g x) = logless x) : Logged s (modPlot s p g) p := by
  intro hp hn
  refine ⟨mwf_mset _ _ _ hp, hn, ?_, [], (List.append_nil _).symm⟩
  rw [plotOf_modPlot_same s hp, hg]

theorem logged_markDirty (high : Bool) : Logged s (markDirty s p high) p := logged_modPlot fun _ => rfl

theorem logged_setHeld (rs : List FaultRec) : Logged s (setHeld s p rs) p :=
  (logged_modPlot (g := fun x => { x with held := rs }) fun _ => rfl).trans (logged_of_eq rfl rfl)

theorem logged_pushTlp (x : TlpOut) : Logged s (pushTlp s (quadrantOf p) x) p := by
  intro hp hn
  exact ⟨hp, mwf_ports_pushTlp _ _ hn, rfl, [x], txq_pushTlp _ _ hn⟩

theorem logged_intaUpdate : Logged s (intaUpdate s (quadrantOf p)) p := by
  have hshow : Logged s (modPort s (quadrantOf p) fun h => { h with intaOn := inta s (quadrantOf p) }) p := by
    intro hp hn
    refine ⟨hp, mwf_mset _ _ _ hn, rfl, [], ?_⟩
    rw [List.append_nil, portOf_modPort_same _ _ hn]
  unfold intaUpdate
  dsimp only
  split_ifs
  · exact logged_of_eq rfl rfl
  · exact hshow.trans (logged_pushTlp _)
  · exact hshow.trans (logged_pushTlp _)

/-- A requested vector is dropped, pends or is sent (R271, R273). -/
theorem logged_reqVector (v : Nat) : Logged s (reqVector s p v) p := by
  have hmsix (e : MsixEnt) : Logged s (setMsix s p v e) p := logged_of_eq rfl rfl
  unfold reqVector
  cases dropByState s p v with
  | true => exact logged_of_eq rfl rfl
  | false =>
    cases mechanism s p with
    | none => exact logged_of_eq rfl rfl
    | intx => exact (hmsix _).trans logged_intaUpdate
    | msix =>
      simp only [Bool.false_eq_true, if_false]
      split_ifs
      · exact hmsix _
      · exact (hmsix _).trans (logged_pushTlp _)
    | msi =>
      simp only [Bool.false_eq_true, if_false]
      split_ifs
      · exact logged_of_eq rfl rfl
      · exact (logged_of_eq (t := setFunc s p _) rfl rfl).trans (logged_pushTlp _)

/-- A record is written to the ring (R61, R64). -/
theorem logged_faultWrite (r : FaultRec) : Logged s (faultWrite s p r) p := by
  have hcells (s : State) (c : SMap Nat) : Logged s { s with cells := c } p := logged_of_eq rfl rfl
  have hsent (s : State) : Logged s (modPlot s p fun x => { x with vecSent := true }) p := logged_modPlot fun _ => rfl
  have hput (x : TlpOut) (c : SMap Nat) : Logged s (markDirty { pushTlp s (quadrantOf p) x with cells := c } p true) p :=
    ((logged_pushTlp x).trans (hcells _ _)).trans (logged_markDirty true)
  unfold faultWrite
  dsimp only
  split_ifs
  · exact hput _ _
  · exact ((hput _ _).trans (hsent _)).trans (logged_reqVector _)
  · exact hput _ _
  · exact ((hput _ _).trans (hsent _)).trans (logged_reqVector _)

/-- A record takes its SEQ and is written, held or lost (R61 to R63). -/
theorem logged_faultCreate (r : FaultRec) : Logged s (faultCreate s p r) p := by
  have hcells (s : State) (c : SMap Nat) : Logged s { s with cells := c } p := logged_of_eq rfl rfl
  have hseq : Logged s (setPlot s p { plotOf s p with seq := ((plotOf s p).seq + 1) % 65536 }) p :=
    logged_modPlot (g := fun x => { x with seq := (x.seq + 1) % 65536 }) fun _ => rfl
  have hnoted (v : Nat) : Logged s (markDirty (setF (setPlot s p { plotOf s p with seq := ((plotOf s p).seq + 1) % 65536 })
      (F.PE_STATUS_LAST_FAULT p) v) p false) p := (hseq.trans (hcells _ _)).trans (logged_markDirty false)
  unfold faultCreate
  dsimp only
  split_ifs
  · exact logged_of_eq rfl rfl
  · exact ((hnoted _).trans (logged_setHeld _)).trans (logged_markDirty true)
  · exact (((hnoted _).trans (hcells _ _)).trans (logged_markDirty true)).trans (hcells _ _)
  · exact (hnoted _).trans (logged_faultWrite _)

end Sys2Proof.Proofs.FaultLog
end

section
/-!
CLAIM. Rate buckets and caps (R57, R59, R408), the completion budget of a request in its plot queue (R149, R160) and the latches of PP_WFL (R142).
-/
namespace Sys2Proof.Proofs.Buckets
open Sys2Proof.Machine Sys2Proof.Proofs.Fields Sys2Proof.Proofs.CanonicalForm Sys2Proof.Proofs.Registers Sys2Proof.Proofs.PlotQueue
  Sys2Proof.Proofs.Refusals Sys2Proof.Proofs.FaultLog

variable {s t : State} {p : Nat}

/-! ### Plot buckets (R49, R57, R59) -/

/-- Showing RATE_HELD leaves every other plot. -/
theorem plotOf_rateShow_ne {r : Nat} (h : mwf s.plots = true) (hr : r ≠ p) : plotOf (rateShow s p) r = plotOf s r := by
  unfold rateShow
  split_ifs
  · rfl
  · exact plotOf_modPlot_ne (setB s (F.PE_STATUS_RATE_HELD p) (rateHeld s p)) h hr _

/-- The level of a plot bucket after a time: full where it has no limit (R57). -/
def refilled (s : State) (p r micros : Nat) (level : Int) : Int :=
  if getF s (F.PE_RATE_RATE p r) == 0 then rateDepth s p r else refill level (getF s (F.PE_RATE_RATE p r)) micros (rateDepth s p r)

theorem refilled_eq (s : State) (p r micros : Nat) (level : Int) :
    refilled s p r micros level = (if getF s (F.PE_RATE_RATE p r) = 0 then getF s (F.PE_RATE_BURST p r) * 1024 else
      max level (min (level + getF s (F.PE_RATE_RATE p r) * micros) (getF s (F.PE_RATE_BURST p r) * 1024)) : Int) := by
  simp [refilled, refill, rateDepth]

/-- R49, R57: the bucket of RATE_TX. -/
theorem txRefill_runs (s : State) (p : Fin 4096) (us : Nat) (hwf : s.wf = true) :
    Runs (.rateBucketRefill (.tx p) us) s fun t =>
      (plotOf t p).tx = (if getF s (F.PE_RATE_RATE p 0) = 0 then getF s (F.PE_RATE_BURST p 0) * 1024 else
        max (plotOf s p).tx (min ((plotOf s p).tx + getF s (F.PE_RATE_RATE p 0) * us) (getF s (F.PE_RATE_BURST p 0) * 1024)) : Int) ∧
      (plotOf t p).rx = (plotOf s p).rx ∧ (∀ r, r ≠ p.val → plotOf t r = plotOf s r) ∧
      bitF t (F.PE_STATUS_RATE_HELD p) = (getF s (F.PE_RATE_RATE p 0) != 0 && decide ((plotOf t p).tx < 0) && !(plotOf s p).queue.isEmpty) ∧
      (plotOf t p).queue = (plotOf s p).queue ∧
      FieldsBut s t [F.PE_STATUS_RATE_HELD p] ∧ t = { s with cells := t.cells, plots := t.plots } := by
  let u := modPlot s p fun x => { x with tx := refilled s p 0 us x.tx }
  have hplots := mwf_plots_of_wf hwf
  have hu : mwf u.plots = true := mwf_mset _ _ _ hplots
  obtain ⟨b, hshow⟩ := plotOf_rateShow (p := p) hu
  have hplot : plotOf (rateShow u p) p = { plotOf s p with tx := refilled s p 0 us (plotOf s p).tx, dirty := b } := by
    rw [hshow, plotOf_modPlot_same s hplots]
  refine ⟨rateShow u p, rfl, ?_, ?_, fun r hr => ?_, ?_, ?_, fieldsBut_rateShow u p, ?_⟩
  · rw [hplot, ← refilled_eq]
  · rw [hplot]
  · rw [plotOf_rateShow_ne hu hr, plotOf_modPlot_ne s hplots hr]
  · rw [bitF_rateShow, hplot]
    simp only [rateHeld, u, plotOf_modPlot_same s hplots, getF_modPlot]
  · rw [hplot]
  · rw [rateShow_only]; rfl

/-- R59: the bucket of RATE_RX. -/
theorem rxRefill_runs (s : State) (p : Fin 4096) (us : Nat) (hwf : s.wf = true) :
    Runs (.rateBucketRefill (.rx p) us) s fun t =>
      (plotOf t p).rx = (if getF s (F.PE_RATE_RATE p 1) = 0 then getF s (F.PE_RATE_BURST p 1) * 1024 else
        max (plotOf s p).rx (min ((plotOf s p).rx + getF s (F.PE_RATE_RATE p 1) * us) (getF s (F.PE_RATE_BURST p 1) * 1024)) : Int) ∧
      (plotOf t p).tx = (plotOf s p).tx ∧ t = { s with plots := t.plots } := by
  have hplot := plotOf_modPlot_same s (mwf_plots_of_wf hwf) p fun x => { x with rx := refilled s p 1 us x.rx }
  exact ⟨modPlot s p fun x => { x with rx := refilled s p 1 us x.rx }, rfl, by rw [hplot, ← refilled_eq], by rw [hplot], rfl⟩

/-! ### Caps (R408) -/

/-- R408: the cap of a plot. -/
theorem plotCapRefill_runs (s : State) (p : Fin 4096) (us : Nat) (c : Cap) (hc : mget s.hdg.plotCap p none = some c) :
    Runs (.rateBucketRefill (.plotCap p) us) s fun t =>
      mget t.hdg.plotCap p none = some { c with level := max c.level (min (c.level + c.rate * us) c.depth) } ∧
      t = { s with hdg := { s.hdg with plotCap := t.hdg.plotCap } } := by
  refine ⟨_, rfl, ?_, rfl⟩
  simp only [hc, refillCap, Option.map_some, mset, reduceCtorEq, if_false, mget_mput_same, refill]

/-- R408: the cap of a port. -/
theorem portCapRefill_runs (s : State) (f : Fin 8) (us : Nat) (c : Cap) (hc : mget s.hdg.portCap f none = some c) :
    Runs (.rateBucketRefill (.portCap f) us) s fun t =>
      mget t.hdg.portCap f none = some { c with level := max c.level (min (c.level + c.rate * us) c.depth) } ∧
      t = { s with hdg := { s.hdg with portCap := t.hdg.portCap } } := by
  refine ⟨_, rfl, ?_, rfl⟩
  simp only [hc, refillCap, Option.map_some, mset, reduceCtorEq, if_false, mget_mput_same, refill]

/-! ### The completion budget in the plot queue (R149, R160) -/

/-- With nothing in the port's receive buffer no request takes a place of the queue. -/
theorem pullHeld_of_none (h : ∀ x ∈ (quadOf s (quadrantOf p)).held, x.1 ≠ p) : pullHeld s p = rateShow s p := by
  have hnone : (quadOf s (quadrantOf p)).held.find? (fun x => x.1 == p) = none := List.find?_eq_none.2 fun x hx => by simpa using h x hx
  simp [pullHeld, hnone]

theorem requeued_modPlot {g : List OutReq → List OutReq} (hp : mwf s.plots = true) (hq : mwf s.quads = true) :
    Requeued s (modPlot s p fun y => { y with queue := g y.queue }) p (g (plotOf s p).queue) :=
  ⟨rfl, fieldsBut_refl s _, ⟨_, plotOf_modPlot_same s hp p _⟩, ⟨_, rfl⟩, mwf_mset _ _ _ hp, hq⟩

theorem mwf_ports_completeAbort {r : OutReq} (h : mwf s.ports = true) : mwf (completeAbort s p r).ports = true := by
  have hlog (adv : Bool) : mwf (aerLogAs s p .completerAbort adv).ports = true := by
    obtain ⟨f, ⟨-, heq⟩ | ⟨x, -, heq⟩, -⟩ := aerLogAs_cases s p .completerAbort adv <;> rw [heq]
    · exact h
    · exact mwf_ports_pushTlp _ _ h
  unfold completeAbort
  dsimp only
  split_ifs
  · exact hlog _
  · exact mwf_ports_pushTlp _ _ (hlog _)

/-- A request leaves its place in the plot queue. -/
def unqueued (s : State) (p n : Nat) : State := pullHeld (modPlot s p fun x => { x with queue := x.queue.eraseIdx n }) p

theorem exec_readBudgetExpire_queued {n : Nat} {p : Fin 4096} {r : OutReq} (hr : (plotOf s p).queue[n]? = some r) (hkind : r.kind ≠ .write) :
    ∃ d, d.code = 3 ∧ exec (.readBudgetExpire (.queued p n)) s = .next (faultCreate (completeAbort (unqueued s p n) p r) p d) := by
  refine ⟨queueBudgetRecord (unqueued s p n) r (n == 0 && fillBusy (unqueued s p n) p false), rfl, ?_⟩
  change execReadBudgetExpire (.queued p n) s = _
  simp [execReadBudgetExpire, hr, beq_false_of_ne hkind, unqueued]

/-- R149, R160: the budget of a read ends in the plot queue. -/
theorem queuedBudget_runs (s : State) (p : Fin 4096) (n : Nat) (r : OutReq) (hwf : s.wf = true) (hr : (plotOf s p).queue[n]? = some r)
    (hread : r.kind = .read) (hserving : plotState s p = psServing) (hheld : ∀ x ∈ (quadOf s (quadrantOf p)).held, x.1 ≠ p.val) :
    Runs (.readBudgetExpire (.queued p n)) s fun t =>
      (plotOf t p).queue = (plotOf s p).queue.eraseIdx n ∧ getF t (F.PE_STATUS_LAST_FAULT p) = 3 ∧ AerErr.completerAbort ∈ (funcOf t p).aer ∧
      ({ kind := .completion, plot := p, reqId := r.reqId, tag := r.tag, status := .ca } : TlpOut) ∈ (portOf t (quadrantOf p)).txq := by
  have hwrite : r.kind ≠ .write := by simp [hread]
  obtain ⟨d, hcode, hexec⟩ := exec_readBudgetExpire_queued hr hwrite
  let u := unqueued s p n
  have hpull : Requeued s u p ((plotOf s p).queue.eraseIdx n) := by
    have hu : u = rateShow (modPlot s p fun x => { x with queue := x.queue.eraseIdx n }) p := pullHeld_of_none hheld
    rw [hu]
    exact (requeued_modPlot (g := fun q => q.eraseIdx n) (mwf_plots_of_wf hwf) (mwf_quads_of_wf hwf)).rateShow
  have hports : mwf u.ports = true := hpull.ports_eq ▸ mwf_ports_of_wf hwf
  have hc := completeAbort_completedWith (p := p) (hpull.funcs_eq ▸ mwf_funcs_of_wf hwf) hports hwrite
  have hst : plotState (completeAbort u p r) p = psServing := by
    have hcount : (F.PE_STATUS_STATE p).key ≠ (F.HPT_COUNT_CA_SENT (quadrantOf p)).key :=
      key_ne_of_addr_lt (show 32 < 64 by decide) (quadrant_addr_lt p (by decide : 0x100010 < 0x200000000))
    have hheld : (F.PE_STATUS_STATE p).key ≠ (F.PE_STATUS_RATE_HELD p).key := by
      change A.PE_STATUS p * 64 + 0 ≠ A.PE_STATUS p * 64 + 9
      omega
    calc getF (completeAbort u p r) (F.PE_STATUS_STATE p) = getF u (F.PE_STATUS_STATE p) := hc.fields _ (by simpa using hcount)
      _ = getF s (F.PE_STATUS_STATE p) := hpull.fields _ (by simpa using hheld)
      _ = psServing := hserving
  obtain ⟨hlast, haer⟩ := faultCreate_noted (r := d) hc.funcs_wf (by rw [hst]; decide) (by rw [hst]; decide) (by rw [hcode]; decide)
  obtain ⟨-, -, hplot, l, htxq⟩ := logged_faultCreate d (hc.plots ▸ hpull.plots_wf) (mwf_ports_completeAbort (p := p) (r := r) hports)
  refine ⟨_, hexec, ?_, hlast.trans hcode, haer ▸ hc.aer, ?_⟩
  · obtain ⟨b, hqueue⟩ := hpull.plot
    have hsame : plotOf (completeAbort u p r) p = plotOf u p := by simp only [plotOf, hc.plots]
    exact (congrArg Plot.queue hplot).trans (by rw [hsame, hqueue]; rfl)
  · rw [htxq, hc.txq]
    simp

/-! ### The latches (R142) -/

theorem latchAny_key_ne (p : Fin 4096) : (F.PP_WFL_LATCH p).key ≠ (F.PE_STATUS_LATCH_ANY p).key := by
  have := p.isLt
  simp only [Fld.key, F.PP_WFL_LATCH, F.PE_STATUS_LATCH_ANY, A.PP_WFL, A.PE_STATUS]
  omega

/-- LATCH_ANY shows whether a latch is set. -/
theorem bitF_latchAny (p : Nat) : bitF (latchAny s p) (F.PE_STATUS_LATCH_ANY p) = (getF s (F.PP_WFL_LATCH p) != 0) := by
  change bitF (setB s (F.PE_STATUS_LATCH_ANY p) _) _ = _
  rw [bitF, getF_setB_same s _ _ rfl]
  cases getF s (F.PP_WFL_LATCH p) != 0 <;> rfl

theorem getF_clearLatches_latch (p : Fin 4096) (m : Nat) :
    getF (clearLatches s p m) (F.PP_WFL_LATCH p) = getF (setF s (F.PP_WFL_LATCH p) (clrBits (getF s (F.PP_WFL_LATCH p)) m)) (F.PP_WFL_LATCH p) :=
  getF_setB_ne _ _ (latchAny_key_ne p)

/-- R142: ones written to PP_WFL clear those latches. -/
theorem wflClear_runs (s : State) (p : Fin 4096) (m : BitVec 32) (hd : plotState s p ≠ psDisabled) (hr : plotState s p ≠ psResetting) :
    Runs (.wflClear p m) s fun t =>
      (∀ w < 32, latchSet t p w = (latchSet s p w && !m.getLsbD w)) ∧
      bitF t (F.PE_STATUS_LATCH_ANY p) = (getF t (F.PP_WFL_LATCH p) != 0) ∧ FieldsBut s t [F.PP_WFL_LATCH p, F.PE_STATUS_LATCH_ANY p] ∧
      t = { s with cells := t.cells, plots := t.plots } := by
  have hexec : exec (.wflClear p m) s = .next (clearLatches s p m.toNat) := by
    change execWflClear p m s = _
    simp [execWflClear, hd, hr]
  refine ⟨_, hexec, fun w hw => ?_, ?_, ?_, rfl⟩
  · rw [latchSet, getF_clearLatches_latch, bitOf_setF _ hw, testBit_clrBits, latchSet, bitOf_testBit]
    rfl
  · rw [getF_clearLatches_latch]
    exact bitF_latchAny p.val
  · exact fieldsBut_congr (s := s) (t := setB _ (F.PE_STATUS_LATCH_ANY p) _) rfl
      (fieldsBut_setF _ (by simp) (fieldsBut_setF _ (by simp) (fieldsBut_refl s _)))

/-- R51: while the plot is Disabled or Resetting they clear none. -/
theorem wflClear_leaves (s : State) (p : Fin 4096) (m : BitVec 32) (h : plotState s p = psDisabled ∨ plotState s p = psResetting) :
    Leaves (.wflClear p m) s := by
  change execWflClear p m s = _
  rcases h with h | h <;> simp [execWflClear, h]

/-- Settles O16: each clause is the rule of its bucket, of the budget or of the latches above. -/
theorem bucketsBudgetsAndLatches : Obligations.BucketsBudgetsAndLatches :=
  ⟨txRefill_runs, rxRefill_runs, plotCapRefill_runs, portCapRefill_runs, queuedBudget_runs, wflClear_runs, wflClear_leaves⟩

end Sys2Proof.Proofs.Buckets
end

section
/-!
SUPPORT. The fields of a PlotEntry (R49): where they lie, loads and resets of lists of them, and the registers of the device, which lie below all
that belongs to plots.
-/
namespace Sys2Proof.Proofs.EntryFields
open Sys2Proof.Machine Sys2Proof.Proofs.Fields Sys2Proof.Proofs.PlotQueue

variable {s t u : State} {fs gs : List Fld} {f g : Fld} {p : Nat}

/-! ### Lists of fields -/

/-- Putting fields back to their reset values leaves every other field. -/
theorem fieldsBut_resetFields (s : State) (fs : List Fld) : FieldsBut s (resetFields s fs) fs := by
  suffices h : ∀ fs' ⊆ fs, ∀ t, FieldsBut s t fs → FieldsBut s (resetFields t fs') fs from h fs (List.Subset.refl _) s (fieldsBut_refl s fs)
  intro fs' hsub
  induction fs' with
  | nil => exact fun t ht => ht
  | cons f fs' ih =>
    obtain ⟨hf, hsub⟩ := List.cons_subset.1 hsub
    exact fun t ht => ih hsub _ (fieldsBut_setF _ hf ht)

theorem resetFields_only (s : State) (fs : List Fld) : OnlyCells s (resetFields s fs) := by
  induction fs generalizing s with
  | nil => rfl
  | cons f fs ih => exact (ih (resetF s f)).trans rfl

/-- A load of fields leaves every other field. -/
theorem fieldsBut_loadFields (s : State) (bs : List Byte) (xs : List (Fld × Nat)) : FieldsBut s (loadFields s bs xs) (xs.map Prod.fst) := by
  suffices h : ∀ ys ⊆ xs, ∀ t, FieldsBut s t (xs.map Prod.fst) → FieldsBut s (loadFields t bs ys) (xs.map Prod.fst) from
    h xs (List.Subset.refl _) s (fieldsBut_refl s _)
  intro ys hsub
  induction ys with
  | nil => exact fun t ht => ht
  | cons y ys ih =>
    obtain ⟨hy, hsub⟩ := List.cons_subset.1 hsub
    exact fun t ht => ih hsub _ (fieldsBut_setF _ (List.mem_map_of_mem hy) ht)

theorem loadFields_only (s : State) (bs : List Byte) (xs : List (Fld × Nat)) : OnlyCells s (loadFields s bs xs) := by
  induction xs generalizing s with
  | nil => rfl
  | cons x xs ih => exact (ih (setF s x.1 (fieldIn bs x))).trans rfl

/-- Fields at different places each take their value from the bytes. -/
theorem getF_loadFields {xs : List (Fld × Nat)} (bs : List Byte) (hkeys : (xs.map fun x => x.1.key).Nodup) {x : Fld × Nat} (hx : x ∈ xs) :
    getF (loadFields s bs xs) x.1 = fieldIn bs x := by
  induction xs generalizing s with
  | nil => cases hx
  | cons y ys ih =>
    obtain ⟨hy, hkeys⟩ := List.nodup_cons.1 hkeys
    rcases List.mem_cons.1 hx with rfl | hx
    · have hkept : getF (loadFields (setF s x.1 (fieldIn bs x)) bs ys) x.1 = getF (setF s x.1 (fieldIn bs x)) x.1 := by
        refine fieldsBut_loadFields _ bs ys x.1 fun f hf heq => hy ?_
        obtain ⟨z, hz, rfl⟩ := List.mem_map.1 hf
        exact List.mem_map.2 ⟨z, hz, heq.symm⟩
      refine hkept.trans ((getF_setF_same s _ _).trans (Nat.mod_eq_of_lt ?_))
      exact Nat.mod_lt _ (by positivity)
    · exact ih hkeys hx

/-! ### Places in a PlotEntry -/

/-- The field of plot p at the place that a field of plot 0 has in its entry. -/
def entryField (p : Nat) (f : Fld) : Fld := { f with addr := f.addr + p * 0x100 }

theorem key_entryField (p : Nat) (f : Fld) : (entryField p f).key = f.key + p * 0x4000 := by
  simp only [entryField, Fld.key]
  omega

/-- The fields of a PlotEntry but those of STATUS and COUNTERS. -/
def entryFields (p : Nat) : List Fld := (plotMemFields p ++ plotSetFields p ++ plotPtrFields p).map Prod.fst

theorem plotMemFields_eq (p : Nat) : plotMemFields p = (plotMemFields 0).map fun x => (entryField p x.1, x.2) := by
  simp [plotMemFields, entryField, F.PE_CONTROL_VALID, F.PE_CONTROL_FORMAT, F.PE_SHARE_DMA_PRIO_CEIL, F.PE_SHARE_WEIGHT_DMA, F.PE_SHARE_WEIGHT,
    F.PE_RATE_BURST, F.PE_RATE_RATE, F.PE_TIMERS_ACK_TIMEOUT, F.PE_TIMERS_COMP_BUDGET, F.PE_WINDOWS_BASE, F.PE_WINDOWS_OUT_COUNT,
    F.PE_WINDOWS_IN_COUNT, F.PE_MSIX_VEC_COUNT, F.PE_MSIX_VEC_BASE, F.PE_CAPS_CHAN_LIMIT, F.PE_CAPS_CQ_LIMIT, F.PE_CAPS_RAKE_LIMIT,
    F.PE_CAPS_MGMT_EN, F.PE_CAPS_INBOUND_EN, F.PE_CAPS_ORDERED_EN, F.PE_CAPS_HOLD_EN, F.PE_CAPS_ATOMIC_EN, F.PE_CAPS_SEAL_EN,
    F.PE_CAPS_WEAVE_EN, F.PE_CAPS_DMA_EN, A.PE_CONTROL, A.PE_SHARE, A.PE_RATE, A.PE_TIMERS, A.PE_WINDOWS, A.PE_MSIX, A.PE_CAPS]
  omega

theorem plotSetFields_eq (p : Nat) : plotSetFields p = (plotSetFields 0).map fun x => (entryField p x.1, x.2) := by
  have hqueue (k : Nat) : A.PE_CQ p k = A.PE_CQ 0 k + p * 0x100 := by
    unfold A.PE_CQ
    omega
  simp [plotSetFields, List.map_flatMap, entryField, F.PE_CHAN_TABLE_BASE, F.PE_CHAN_TABLE_EN, F.PE_CHAN_TABLE_CHAN_HIGH, F.PE_FAULT_LOG_BASE,
    F.PE_FAULT_LOG_SIZE, F.PE_FAULT_LOG_EN, F.PE_EVENT_VEC_MBX_VEC, F.PE_EVENT_VEC_FAULT_VEC, F.PE_CQ_BASE, F.PE_CQ_SIZE, F.PE_CQ_EN,
    F.PE_CQ_VEC, A.PE_CHAN_TABLE, A.PE_FAULT_LOG, A.PE_EVENT_VEC, hqueue]
  omega

theorem plotPtrFields_eq (p : Nat) : plotPtrFields p = (plotPtrFields 0).map fun x => (entryField p x.1, x.2) := by
  simp [plotPtrFields, entryField, F.PE_FAULT_PTR_OVERFLOW, F.PE_FAULT_PTR_HELD, F.PE_FAULT_PTR_PHASE, F.PE_FAULT_PTR_PROD, A.PE_FAULT_PTR]
  omega

theorem entryFields_eq (p : Nat) : entryFields p = (entryFields 0).map (entryField p) := by
  rw [entryFields, entryFields, plotMemFields_eq p, plotSetFields_eq p, plotPtrFields_eq p]
  simp only [List.map_append, List.map_map, Function.comp_def]

theorem entryFields_bounds : ∀ f ∈ entryFields 0, 0x200000010 ≤ f.addr ∧ f.addr < 0x200000100 ∧ f.lo < 64 := by decide +kernel

/-- They lie behind STATUS and COUNTERS. -/
theorem addr_of_entryFields (hf : f ∈ entryFields p) : A.PE_STATUS p + 0x10 ≤ f.addr ∧ f.addr < A.PE_STATUS p + 0x100 ∧ f.lo < 64 := by
  rw [entryFields_eq] at hf
  obtain ⟨g, hg, rfl⟩ := List.mem_map.1 hf
  obtain ⟨hlow, hhigh, hlo⟩ := entryFields_bounds g hg
  simp only [entryField, A.PE_STATUS]
  omega

/-- Each at a place of its own. -/
theorem entryFields_keys_nodup (p : Nat) : ((entryFields p).map Fld.key).Nodup := by
  have hkeys : (entryFields p).map Fld.key = ((entryFields 0).map Fld.key).map (· + p * 0x4000) := by
    rw [entryFields_eq, List.map_map, List.map_map]
    exact List.map_congr_left fun f _ => key_entryField p f
  have hzero : ((entryFields 0).map Fld.key).Nodup := by decide +kernel
  rw [hkeys]
  exact hzero.map fun a b h => Nat.add_right_cancel h

theorem mem_entryFields_of_mem {x : Fld × Nat} (hx : x ∈ plotMemFields p) : x.1 ∈ entryFields p :=
  List.mem_map_of_mem (List.mem_append_left _ (List.mem_append_left _ hx))

theorem set_entryFields_of_mem {x : Fld × Nat} (hx : x ∈ plotSetFields p) : x.1 ∈ entryFields p :=
  List.mem_map_of_mem (List.mem_append_left _ (List.mem_append_right _ hx))

theorem ptr_entryFields_of_mem {x : Fld × Nat} (hx : x ∈ plotPtrFields p) : x.1 ∈ entryFields p :=
  List.mem_map_of_mem (List.mem_append_right _ hx)

theorem plotMemFields_keys_nodup (p : Nat) : ((plotMemFields p).map fun x => x.1.key).Nodup := by
  have h := (entryFields_keys_nodup p).sublist
    (((List.sublist_append_left _ _).trans (List.sublist_append_left (plotMemFields p ++ plotSetFields p) (plotPtrFields p))).map Prod.fst |>.map Fld.key)
  rwa [List.map_map] at h

theorem plotStagedFields_sublist (p : Nat) : (plotStagedFields p).Sublist (plotMemFields p) := by
  have htaken : plotStagedFields p = (((plotMemFields p).take 20).drop 2).take 9 ++ (plotMemFields p).drop 20 := rfl
  have h := ((List.take_sublist 9 _).trans (List.drop_sublist 2 ((plotMemFields p).take 20))).append (List.Sublist.refl ((plotMemFields p).drop 20))
  rwa [← htaken, List.take_append_drop] at h

theorem plotStagedFields_keys_nodup (p : Nat) : ((plotStagedFields p).map fun x => x.1.key).Nodup :=
  (plotMemFields_keys_nodup p).sublist ((plotStagedFields_sublist p).map _)

/-- STATUS lies before the fields behind it. -/
theorem key_ne_status (hf : f ∈ entryFields p) (hg : g.addr = A.PE_STATUS p) (hlo : g.lo < 64) : f.key ≠ g.key := by
  obtain ⟨haddr, -, -⟩ := addr_of_entryFields hf
  exact key_ne_of_addr_lt hlo (by omega)

/-! ### The registers of the device -/

/-- A register of the device itself: no plot page and no PlotEntry holds it. -/
def OfDevice (g : Fld) : Prop := g.addr < 0x100000000 ∧ g.lo < 64

theorem ofDevice_key_ne (hg : OfDevice g) (hf : 0x100000000 ≤ f.addr) : g.key ≠ f.key :=
  (key_ne_of_addr_lt hg.2 (hg.1.trans_le hf)).symm

/-- Where only registers of the device have changed, the fields of plots stand. -/
theorem getF_of_device (h : FieldsBut s t fs) (hfs : ∀ f ∈ fs, OfDevice f) (hg : 0x100000000 ≤ g.addr) : getF t g = getF s g :=
  h g fun f hf => (ofDevice_key_ne (hfs f hf) hg).symm

/-- Only plots and their fields have changed. -/
structure PageChange (s t : State) : Prop where
  only : t = { s with cells := t.cells, plots := t.plots }
  plots_wf : mwf s.plots = true → mwf t.plots = true
  device : mwf s.cells = true → mwf t.cells = true ∧ ∀ g, OfDevice g → getF t g = getF s g

theorem PageChange.trans (h : PageChange s t) (h' : PageChange t u) : PageChange s u := by
  refine ⟨?_, fun hwf => h'.plots_wf (h.plots_wf hwf), fun hwf => ?_⟩
  · have honly := h'.only
    rw [h.only] at honly
    exact honly
  · obtain ⟨hwf, hsame⟩ := h.device hwf
    obtain ⟨hwf, hsame'⟩ := h'.device hwf
    exact ⟨hwf, fun g hg => (hsame' g hg).trans (hsame g hg)⟩

theorem pageChange_modPlot (s : State) (p : Nat) (g : Plot → Plot) : PageChange s (modPlot s p g) :=
  ⟨rfl, fun h => mwf_mset _ _ _ h, fun h => ⟨h, fun _ _ => rfl⟩⟩

theorem pageChange_setF (v : Nat) (hf : 0x100000000 ≤ f.addr) : PageChange s (setF s f v) :=
  ⟨rfl, id, fun h => ⟨mwf_mput _ _ h, fun _ hg => getF_setF_ne s v (ofDevice_key_ne hg hf)⟩⟩

theorem pageChange_resetFields (hfs : ∀ f ∈ fs, 0x100000000 ≤ f.addr) : PageChange s (resetFields s fs) := by
  induction fs generalizing s with
  | nil => exact ⟨rfl, id, fun h => ⟨h, fun _ _ => rfl⟩⟩
  | cons f fs ih =>
    exact (pageChange_setF _ (hfs f List.mem_cons_self)).trans (ih fun g hg => hfs g (List.mem_cons_of_mem _ hg))

theorem pageChange_cellsClear {lo : Nat} (n : Nat) (hlo : 0x100000000 ≤ lo) : PageChange s (cellsClear s lo n) := by
  refine ⟨rfl, id, fun hwf => ⟨mwf_filter _ hwf, fun g hg => ?_⟩⟩
  obtain ⟨haddr, hglo⟩ := hg
  have hkey : g.key < lo * 64 := by
    unfold Fld.key
    omega
  have hfind := mfind_filter_key (fun k => decide (k < lo * 64) || decide ((lo + n) * 64 ≤ k)) g.key hwf
  simp only [hkey, decide_true, Bool.true_or, if_true] at hfind
  simp only [getF, mget_eq_mfind, cellsClear, hfind]

/-! ### The Plot fields and the page of a plot -/

theorem pageChange_faultRingReset (s : State) (p : Nat) : PageChange s (faultRingReset s p) := by
  unfold faultRingReset
  refine (pageChange_resetFields fun f hf => ?_).trans (pageChange_modPlot _ p _)
  simp only [List.mem_cons, List.not_mem_nil, or_false] at hf
  rcases hf with rfl | rfl | rfl | rfl | rfl <;>
    simp only [F.PE_FAULT_PTR_PROD, F.PE_FAULT_PTR_PHASE, F.PE_FAULT_PTR_OVERFLOW, F.PP_FAULT_CONS_CONS, F.PP_FAULT_CONS_PHASE, A.PE_FAULT_PTR,
      A.PP_FAULT_CONS] <;> omega

theorem pageChange_setHeld (s : State) (p : Nat) (rs : List FaultRec) : PageChange s (setHeld s p rs) := by
  have haddr : 0x100000000 ≤ (F.PE_FAULT_PTR_HELD p).addr := by
    simp only [F.PE_FAULT_PTR_HELD, A.PE_FAULT_PTR]
    omega
  exact (pageChange_modPlot s p _).trans (pageChange_setF _ haddr)

/-- The staging of the Plot fields lies in the plot's page. -/
theorem addr_of_plotStagePairs {x : Fld × Fld} (hx : x ∈ plotStagePairs p) :
    0x100000000 ≤ x.1.addr ∧ x.1.addr < 0x100010000 + p * 0x10000 ∧ x.1.lo < 64 := by
  simp only [plotStagePairs, List.mem_append, List.mem_cons, List.not_mem_nil, or_false, List.mem_flatMap, List.mem_range] at hx
  rcases hx with (rfl | rfl | rfl | rfl | rfl | rfl | rfl | rfl) | ⟨k, hk, rfl | rfl | rfl | rfl⟩ <;>
    simp only [F.PP_CHAN_TABLE_BASE, F.PP_CHAN_TABLE_EN, F.PP_CHAN_TABLE_CHAN_HIGH, F.PP_FAULT_LOG_BASE, F.PP_FAULT_LOG_SIZE, F.PP_FAULT_LOG_EN,
      F.PP_EVENT_VEC_MBX_VEC, F.PP_EVENT_VEC_FAULT_VEC, F.PP_CQ_BASE, F.PP_CQ_SIZE, F.PP_CQ_EN, F.PP_CQ_VEC] <;> omega

/-- What the staging is for are the Plot fields. -/
theorem plotStagePairs_snd (p : Nat) : (plotStagePairs p).map Prod.snd = (plotSetFields p).map Prod.fst := rfl

theorem pageChange_plotSetReset (s : State) (p : Nat) : PageChange s (plotSetReset s p) := by
  have hfields : ∀ f ∈ (plotSetFields p).map (fun x => x.1) ++ (plotStagePairs p).map fun x => x.1, 0x100000000 ≤ f.addr := by
    intro f hf
    rcases List.mem_append.1 hf with hf | hf <;> obtain ⟨x, hx, rfl⟩ := List.mem_map.1 hf
    · have := (addr_of_entryFields (set_entryFields_of_mem hx)).1
      unfold A.PE_STATUS at this
      omega
    · exact (addr_of_plotStagePairs hx).1
  have hclear : 0x100000000 ≤ A.PP_CQ_HEAD p 0 := by
    unfold A.PP_CQ_HEAD
    omega
  have hpages (u : State) : PageChange u (cellsClear u (A.PP_CQ_HEAD p 0) 256) := pageChange_cellsClear 256 hclear
  unfold plotSetReset
  exact ((((pageChange_resetFields hfields).trans (pageChange_faultRingReset _ p)).trans (pageChange_setHeld _ p [])).trans (hpages _)).trans
    (pageChange_modPlot _ p _)

/-- STATUS and COUNTERS are in the plot's entry. -/
theorem status_addr {f : Fld} (hf : f ∈ (plotStatusFields p).map fun x => x.1) : 0x100000000 ≤ f.addr := by
  obtain ⟨x, hx, rfl⟩ := List.mem_map.1 hf
  have hentry : ∀ x ∈ plotStatusFields p, x.1.addr = A.PE_STATUS p ∨ x.1.addr = A.PE_COUNTERS p := by
    simp [plotStatusFields, F.PE_STATUS_RESET_COUNT, F.PE_STATUS_LAST_FAULT, F.PE_STATUS_WB_SEQ, F.PE_STATUS_PSET_VALID, F.PE_STATUS_LATCH_ANY,
      F.PE_STATUS_CQ_STALL, F.PE_STATUS_RATE_HELD, F.PE_STATUS_BME, F.PE_STATUS_STATE, F.PE_COUNTERS_DROPPED_WRITES, F.PE_COUNTERS_FAULTS_LOST,
      F.PE_COUNTERS_RX_REFUSED]
  rcases hentry x hx with h | h <;> rw [h]
  · unfold A.PE_STATUS
    omega
  · unfold A.PE_COUNTERS
    omega

theorem pageChange_bmeCopy (s : State) (p : Nat) : PageChange s (bmeCopy s p) :=
  pageChange_setF _ (by simp only [F.PE_STATUS_BME, A.PE_STATUS]; omega)

end Sys2Proof.Proofs.EntryFields
end

section
/-!
SUPPORT. Configuration memory (R43): what decides whether it is reached, and what its requests and the write-backs of a plot leave.
-/
namespace Sys2Proof.Proofs.ConfigTable
open Sys2Proof.Machine Sys2Proof.Proofs.Fields

variable {s t u : State} {p q : Nat}

/-! ### What a route depends on -/

/-- The registers that choosing a route reads (R37, R110, R111). -/
def routeReads : List Fld :=
  [F.GLB_NODE_VALID, F.GLB_NODE_DOMAIN, F.GLB_NODE_SEGMENT, F.GLB_NODE_POSITION, F.TRL_CTRL_EN, F.TRL_CTRL_READY, F.TRL_CTRL_EPOCH] ++
    (List.range 8).flatMap fun f => [F.CFP_STATUS_STATE f, F.CFK_STATUS_LINK f]

theorem portReads_mem {f : Nat} (hf : f < 8) : F.CFP_STATUS_STATE f ∈ routeReads ∧ F.CFK_STATUS_LINK f ∈ routeReads := by
  simp only [routeReads, List.mem_append, List.mem_flatMap, List.mem_range, List.mem_cons]
  exact ⟨.inr ⟨f, hf, .inl rfl⟩, .inr ⟨f, hf, .inr (.inl rfl)⟩⟩

section Routes
variable (htrl : t.trl = s.trl) (h : ∀ f ∈ routeReads, getF t f = getF s f)
include h

theorem myPlace_congr : myPlace t = myPlace s := by
  rw [myPlace, myPlace, h F.GLB_NODE_DOMAIN (by simp [routeReads]), h F.GLB_NODE_SEGMENT (by simp [routeReads]),
    h F.GLB_NODE_POSITION (by simp [routeReads])]

theorem trellisReady_congr : trellisReady t = trellisReady s := by
  rw [trellisReady, trellisReady, bitF_congr (h F.TRL_CTRL_EN (by simp [routeReads])), bitF_congr (h F.TRL_CTRL_READY (by simp [routeReads]))]

theorem usablePorts_congr (set : Nat) : usablePorts t set = usablePorts s set := by
  refine List.filter_congr fun f hf => ?_
  obtain ⟨hstate, hlink⟩ := portReads_mem (List.mem_range.1 hf)
  rw [portUsable, portUsable, h _ hstate, h _ hlink]

include htrl

theorem trellisLookup_congr (cls key : Nat) : trellisLookup t cls key = trellisLookup s cls key := by
  have hkey (i : Nat) : entryKey t i = entryKey s i := by rw [entryKey, entryKey, htrl]
  have hlive (i : Nat) : entryLive t i = entryLive s i := by
    rw [entryLive, entryLive, hkey, h F.TRL_CTRL_EPOCH (by simp [routeReads]), entryStruck, entryStruck, htrl]
  have hlevel (l k : Nat) : findLevel t cls l k = findLevel s cls l k := by simp only [findLevel, hlive, hkey]
  simp only [trellisLookup, trellisReady_congr h, hlevel]

/-- A route is the same where the Trellis table and the registers it reads are. -/
theorem routeOf_congr (d r : Nat) (plot : Option Nat) : (routeOf t d r plot).2 = (routeOf s d r plot).2 := by
  have hresult (i : Nat) : entryResult t i = entryResult s i := by rw [entryResult, entryResult, htrl]
  have hports (set : Nat) : plotPorts t set plot = plotPorts s set plot := by
    cases plot with
    | none => rfl
    | some k => simp only [plotPorts, trellisLookup_congr htrl h, hresult]
  unfold routeOf
  rw [bitF_congr (h F.GLB_NODE_VALID (by simp [routeReads])), trellisReady_congr h, myPlace_congr h, trellisLookup_congr htrl h]
  split_ifs
  · rfl
  · rfl
  · cases trellisLookup s 1 (d * 2 ^ 16) with
    | none => rfl
    | some i =>
      dsimp only
      rw [hresult, hports, usablePorts_congr h]
      split_ifs
      · rfl
      · cases choosePort (usablePorts s (plotPorts s (resPorts (entryResult s i)) plot)) (resSelect (entryResult s i)) r d <;> rfl

end Routes

/-- The registers that decide whether configuration memory is reached (R43). -/
def tableReads (q : Nat) : List Fld :=
  [F.PLT_TABLE_BASE_VALID q, F.PLT_TABLE_BASE_TARGET q, F.PLT_TABLE_BASE_BASE q, F.PLT_TABLE_NODE_NODE q] ++ routeReads

/-- Configuration memory is where it was, and reached in the same way. -/
structure SameTable (s t : State) (q : Nat) : Prop where
  fields : ∀ f ∈ tableReads q, getF t f = getF s f
  trl : t.trl = s.trl
  funcs : t.funcs = s.funcs

theorem SameTable.trans (h : SameTable s t q) (h' : SameTable t u q) : SameTable s u q :=
  ⟨fun f hf => (h'.fields f hf).trans (h.fields f hf), h'.trl.trans h.trl, h'.funcs.trans h.funcs⟩

theorem SameTable.routes (h : SameTable s t q) (f : Fld) (hf : f ∈ routeReads) : getF t f = getF s f := h.fields f (List.mem_append_right _ hf)

theorem SameTable.target (h : SameTable s t q) : bitF t (F.PLT_TABLE_BASE_TARGET q) = bitF s (F.PLT_TABLE_BASE_TARGET q) :=
  bitF_congr (h.fields _ (by simp [tableReads]))

theorem SameTable.base (h : SameTable s t q) : getF t (F.PLT_TABLE_BASE_BASE q) = getF s (F.PLT_TABLE_BASE_BASE q) := h.fields _ (by simp [tableReads])

theorem SameTable.bme (h : SameTable s t q) (p : Nat) : bmeOf t p = bmeOf s p := by simp only [bmeOf, funcOf, h.funcs]

theorem SameTable.opened (h : SameTable s t q) : tableOpen t q = tableOpen s q := by
  rw [tableOpen, tableOpen, bitF_congr (h.fields (F.PLT_TABLE_BASE_VALID q) (by simp [tableReads])), h.target, h.bme]

theorem SameTable.route (h : SameTable s t q) : (routeOf t (getF t (F.PLT_TABLE_NODE_NODE q)) (myNode t (1 + q)) (some (q * 1024))).2 =
    (routeOf s (getF s (F.PLT_TABLE_NODE_NODE q)) (myNode s (1 + q)) (some (q * 1024))).2 := by
  rw [routeOf_congr h.trl h.routes, h.fields (F.PLT_TABLE_NODE_NODE q) (by simp [tableReads]), myNode, myNode, myPlace_congr h.routes]

theorem SameTable.reached (h : SameTable s t q) : tableReached t q = tableReached s q := by
  rw [tableReached, tableReached, h.opened, h.target, h.route]

/-- Trellis leads to the node, so configuration memory is reached there. -/
theorem tableReached_of_route (ht : tableOpen s q = true) (htarget : bitF s (F.PLT_TABLE_BASE_TARGET q) = true)
    (hroute : (routeOf s (getF s (F.PLT_TABLE_NODE_NODE q)) (myNode s (1 + q)) (some (q * 1024))).2.pga ≠ 20) : tableReached s q = true := by
  rw [tableReached, ht, Bool.true_and, htarget]
  cases hr : (routeOf s (getF s (F.PLT_TABLE_NODE_NODE q)) (myNode s (1 + q)) (some (q * 1024))).2 with
  | fail n => exact absurd (congrArg Route.pga hr) hroute
  | egress f r => rfl
  | reflect => rfl

/-! ### Reads -/

section Reads
variable (use : TabUse) (addr len : Nat)

theorem tableRead_of_closed (h : tableOpen s q = false) : tableRead s q use addr len = (s, false) := by simp [tableRead, h]

theorem tableRead_of_host (h : tableOpen s q = true) (ht : bitF s (F.PLT_TABLE_BASE_TARGET q) = false) :
    tableRead s q use addr len = (emit s (.tableRead q addr len), true) := by simp [tableRead, h, ht]

theorem tableRead_of_fabric (h : tableOpen s q = true) (ht : bitF s (F.PLT_TABLE_BASE_TARGET q) = true) :
    tableRead s q use addr len = tableSend s q use .read addr len [] := by simp [tableRead, h, ht]

/-- A fabric request is sent where Trellis leads to the node (R113, R114). -/
theorem tableSend_snd (op : FabOp) (data : List Byte) : (tableSend s q use op addr len data).2 =
    match (routeOf s (getF s (F.PLT_TABLE_NODE_NODE q)) (myNode s (1 + q)) (some (q * 1024))).2 with
    | .fail _ => false
    | _ => true := by
  unfold tableSend
  dsimp only
  cases (routeOf s (getF s (F.PLT_TABLE_NODE_NODE q)) (myNode s (1 + q)) (some (q * 1024))).2 <;> rfl

/-- A read goes out where configuration memory is reached. -/
theorem tableRead_snd : (tableRead s q use addr len).2 = tableReached s q := by
  unfold tableReached
  cases hopen : tableOpen s q with
  | false => rw [tableRead_of_closed use addr len hopen]; rfl
  | true =>
    cases htarget : bitF s (F.PLT_TABLE_BASE_TARGET q) with
    | false => rw [tableRead_of_host use addr len hopen htarget]; rfl
    | true => rw [tableRead_of_fabric use addr len hopen htarget, tableSend_snd]; rfl

end Reads

/-! ### Requests that nothing waits for any more -/

theorem quadOf_tableDrop (use : TabUse) (q : Nat) (h : mwf s.quads = true) : mwf (tableDrop s q use).quads = true ∧
    quadOf (tableDrop s q use) q = { quadOf s q with table := (quadOf s q).table.filter fun y => y.2.use != use } :=
  ⟨mwf_mset _ _ _ h, quadOf_modQuad_same s h q _⟩

/-- No other request is asked for then. -/
theorem tableAsked_tableDrop (use drop : TabUse) (h : mwf s.quads = true) :
    tableAsked (tableDrop s q drop) q use = (tableAsked s q use && use != drop) := by
  obtain ⟨-, hquad⟩ := quadOf_tableDrop drop q h
  rw [tableAsked, tableAsked, hquad, List.any_filter, Bool.eq_iff_iff]
  simp only [List.any_eq_true, Bool.and_eq_true, bne_iff_ne, beq_iff_eq]
  constructor
  · rintro ⟨x, hx, hne, rfl⟩
    exact ⟨⟨x, hx, rfl⟩, hne⟩
  · rintro ⟨⟨x, hx, rfl⟩, hne⟩
    exact ⟨x, hx, hne, rfl⟩

/-! ### What the traffic leaves -/

/-- The registers that requests for configuration memory and failed write-backs of quadrant q change. -/
def trafficFields (q : Nat) : List Fld :=
  [F.TRL_MISS_DEST, F.TRL_MISS_NOPORT, F.TRL_EVENT_NOPORT, F.HDG_COUNT_TAG_FIX, F.HDG_EVENT_TAG_FIX, F.EVG_PEND_PEND 19, F.PGA_OCC_USED q,
    F.PGA_OCC_HIGH q, F.PLT_WB_WB_FAIL q]

theorem fieldsBut_setEv {fs : List Fld} {f : Fld} (n : Nat) (hf : f ∈ fs) (hpend : F.EVG_PEND_PEND (n / 64) ∈ fs) (h : FieldsBut s t fs) :
    FieldsBut s (setEv t f n) fs := by
  unfold setEv
  split_ifs
  · exact h
  · exact fieldsBut_raise n hpend (fieldsBut_setF _ hf h)

theorem fieldsBut_routeOf (d r : Nat) (plot : Option Nat) : FieldsBut s (routeOf s d r plot).1 (trafficFields q) := by
  have hrefl := fieldsBut_refl s (trafficFields q)
  unfold routeOf
  split_ifs
  · exact hrefl
  · exact hrefl
  · cases trellisLookup s 1 (d * 2 ^ 16) with
    | none => exact fieldsBut_setF _ (by simp [trafficFields]) hrefl
    | some i =>
      dsimp only
      split_ifs
      · exact hrefl
      · cases choosePort (usablePorts s (plotPorts s (resPorts (entryResult s i)) plot)) (resSelect (entryResult s i)) r d with
        | none =>
          exact fieldsBut_setEv _ (by simp [trafficFields]) (by simp [trafficFields]) (fieldsBut_setF _ (by simp [trafficFields]) hrefl)
        | some f => exact hrefl

theorem fieldsBut_tagFix (p : Nat) : FieldsBut s (tagFix s p) (trafficFields q) := by
  have hrefl := fieldsBut_refl s (trafficFields q)
  unfold tagFix
  cases trellisLookup s 2 p with
  | none => exact hrefl
  | some i =>
    dsimp only
    split_ifs
    · exact hrefl
    · exact fieldsBut_setEv _ (by simp [trafficFields]) (by simp [trafficFields]) (fieldsBut_setF _ (by simp [trafficFields]) hrefl)

/-- Pergola shows what it holds of a quadrant (R213). -/
theorem fieldsBut_occUpdate {fs : List Fld} (hu : F.PGA_OCC_USED q ∈ fs) (hh : F.PGA_OCC_HIGH q ∈ fs) (h : FieldsBut s t fs) :
    FieldsBut s (occUpdate t q) fs := by
  unfold occUpdate highWater
  dsimp only
  split_ifs
  · exact fieldsBut_setF _ hh (fieldsBut_setF _ hu h)
  · exact fieldsBut_setF _ hu h

theorem fieldsBut_pgaPush {x : QTxn} (e c : Nat) (f : FlowId) (hx : x.ingress = q) : FieldsBut s (pgaPush s e c f x) (trafficFields q) := by
  have hshown (g : Pergola) : FieldsBut s (occUpdate { s with pga := g } q) (trafficFields q) :=
    fieldsBut_occUpdate (by simp [trafficFields]) (by simp [trafficFields]) (fieldsBut_congr rfl (fieldsBut_refl s _))
  subst hx
  unfold pgaPush
  dsimp only
  split_ifs with hopen hdiag
  · exact hshown _
  · rw [← eq_of_beq hdiag]
    exact hshown _
  · exact fieldsBut_congr rfl (fieldsBut_refl s _)

/-- A request waits in the quadrant for its answer. -/
def tableWaits (s : State) (q tag : Nat) (r : TabReq) : State := modQuad s q fun x => { x with table := mput x.table tag r }

/-- The request that a quadrant sends for configuration memory. -/
def sentRequest (use : TabUse) (op : FabOp) (len : Nat) : TabReq := { use := use, write := op == .write, len := if op == .write then 0 else len }

/-- A request ends where its route does, or waits for its answer and is handed to Pergola. -/
theorem tableSend_cases (s : State) (q : Nat) (use : TabUse) (op : FabOp) (addr len : Nat) (data : List Byte) :
    ∃ u, OnlyCells s u ∧ FieldsBut s u (trafficFields q) ∧
      (tableSend s q use op addr len data = (u, false) ∨
        ∃ e x, x.ingress = q ∧
          tableSend s q use op addr len data =
            (pgaPush (tableWaits (tagFix u (q * 1024)) q (freeTag s q) (sentRequest use op len)) e 0 (.host (q * 1024)) x, true)) := by
  refine ⟨_, routeOf_only s (getF s (F.PLT_TABLE_NODE_NODE q)) (myNode s (1 + q)) (some (q * 1024)), fieldsBut_routeOf _ _ _, ?_⟩
  unfold tableSend
  dsimp only
  cases (routeOf s (getF s (F.PLT_TABLE_NODE_NODE q)) (myNode s (1 + q)) (some (q * 1024))).2 with
  | fail n => exact .inl rfl
  | egress f r => exact .inr ⟨_, _, rfl, rfl⟩
  | reflect => exact .inr ⟨_, _, rfl, rfl⟩

theorem fieldsBut_tableSend (use : TabUse) (op : FabOp) (addr len : Nat) (data : List Byte) :
    FieldsBut s (tableSend s q use op addr len data).1 (trafficFields q) := by
  obtain ⟨u, -, hfields, heq | ⟨e, x, hx, heq⟩⟩ := tableSend_cases s q use op addr len data <;> rw [heq]
  · exact hfields
  · exact fieldsBut_trans hfields (fieldsBut_trans (fieldsBut_tagFix _)
      (fieldsBut_trans (fieldsBut_congr rfl (fieldsBut_refl _ _)) (fieldsBut_pgaPush e 0 _ hx)))

/-- Where it was sent, its answer is waited for; else the quadrants are as before. -/
theorem quads_tableSend (use : TabUse) (op : FabOp) (addr len : Nat) (data : List Byte) :
    (tableSend s q use op addr len data).1.quads =
      if (tableSend s q use op addr len data).2 then (tableWaits s q (freeTag s q) (sentRequest use op len)).quads else s.quads := by
  obtain ⟨u, honly, -, heq | ⟨e, x, -, heq⟩⟩ := tableSend_cases s q use op addr len data <;> rw [heq]
  · rw [honly]
    rfl
  · have htag := tagFix_only u (q * 1024)
    unfold OnlyCells at htag honly
    rw [pgaPush_only, htag, honly]
    rfl

/-- A request that was sent waits in its quadrant. -/
theorem quadOf_tableSend {use : TabUse} {op : FabOp} {addr len : Nat} {data : List Byte} (h : mwf s.quads = true)
    (hsent : (tableSend s q use op addr len data).2 = true) : mwf (tableSend s q use op addr len data).1.quads = true ∧
      quadOf (tableSend s q use op addr len data).1 q =
        { quadOf s q with table := mput (quadOf s q).table (freeTag s q) (sentRequest use op len) } := by
  rw [quadOf, quads_tableSend, hsent, if_pos rfl]
  exact ⟨mwf_mset _ _ _ h, quadOf_modQuad_same s h q _⟩

theorem mwf_quads_tableRead (use : TabUse) (addr len : Nat) (h : mwf s.quads = true) : mwf (tableRead s q use addr len).1.quads = true := by
  unfold tableRead
  split_ifs
  · exact h
  · rw [quads_tableSend]
    split_ifs
    · exact mwf_mset _ _ _ h
    · exact h
  · exact h

theorem mem_of_mfind {α : Type} {m : SMap α} {k : Nat} {x : α} (h : mfind m k = some x) : (k, x) ∈ m := by
  induction m with
  | nil => cases h
  | cons e m ih =>
    obtain ⟨i, y⟩ := e
    unfold mfind at h
    split_ifs at h with hlt heq
    · rw [heq, Option.some.inj h]
      exact List.mem_cons_self
    · exact List.mem_cons_of_mem _ (ih h)

theorem tableOpen_of_reached (h : tableReached s q = true) : tableOpen s q = true := by
  rw [tableReached, Bool.and_eq_true] at h
  exact h.1

/-- A fabric Read that has gone out is asked for. -/
theorem tableAsked_tableRead {use : TabUse} {addr len : Nat} (hwf : mwf s.quads = true) (ht : bitF s (F.PLT_TABLE_BASE_TARGET q) = true)
    (h : tableReached s q = true) : tableAsked (tableRead s q use addr len).1 q use = true := by
  have hread := tableRead_of_fabric use addr len (tableOpen_of_reached h) ht
  have hsent := (tableRead_snd use addr len).trans h
  rw [hread] at hsent ⊢
  obtain ⟨-, hquad⟩ := quadOf_tableSend hwf hsent
  rw [tableAsked, hquad]
  exact List.any_eq_true.2 ⟨_, mem_of_mfind (mfind_mput_same _ _ _), by simp [sentRequest]⟩

end Sys2Proof.Proofs.ConfigTable
end

section
/-!
SUPPORT. The traffic of a plot with configuration memory (R43, R47): its quadrant but for the requests that wait, and the plot but for its write-backs,
stand.
-/
namespace Sys2Proof.Proofs.Writebacks
open Sys2Proof.Machine Sys2Proof.Proofs.Fields Sys2Proof.Proofs.ConfigTable

variable {s t u : State} {p : Nat}

/-- A plot but for its write-backs. -/
def wbless (x : Plot) : Plot := { x with wbBusy := none, wbAgain := false, wbLow := [], dirty := false, pdirty := false }

/-- A quadrant but for its requests for configuration memory. -/
def tableless (x : Quad) : Quad := { x with table := [] }

/-- Configuration memory has been read or written for plot p. -/
structure Traffic (s t : State) (p : Nat) : Prop where
  fields : FieldsBut s t (trafficFields (quadrantOf p))
  plot : mwf s.plots = true → mwf t.plots = true ∧ wbless (plotOf t p) = wbless (plotOf s p)
  quad : mwf s.quads = true → mwf t.quads = true ∧ tableless (quadOf t (quadrantOf p)) = tableless (quadOf s (quadrantOf p))

theorem Traffic.trans (h : Traffic s t p) (h' : Traffic t u p) : Traffic s u p := by
  refine ⟨fieldsBut_trans h.fields h'.fields, fun hplots => ?_, fun hquads => ?_⟩
  · obtain ⟨hplots, heq⟩ := h.plot hplots
    obtain ⟨hplots, heq'⟩ := h'.plot hplots
    exact ⟨hplots, heq'.trans heq⟩
  · obtain ⟨hquads, heq⟩ := h.quad hquads
    obtain ⟨hquads, heq'⟩ := h'.quad hquads
    exact ⟨hquads, heq'.trans heq⟩

theorem traffic_of_fields (hfields : FieldsBut s t (trafficFields (quadrantOf p))) (hplots : t.plots = s.plots) (hquads : t.quads = s.quads) :
    Traffic s t p := by
  refine ⟨hfields, fun h => ⟨hplots ▸ h, ?_⟩, fun h => ⟨hquads ▸ h, ?_⟩⟩
  · rw [plotOf, plotOf, hplots]
  · rw [quadOf, quadOf, hquads]

theorem traffic_refl (s : State) (p : Nat) : Traffic s s p := traffic_of_fields (fieldsBut_refl s _) rfl rfl

theorem traffic_modPlot {g : Plot → Plot} (hg : ∀ x, wbless (g x) = wbless x) : Traffic s (modPlot s p g) p :=
  ⟨fieldsBut_congr rfl (fieldsBut_refl s _), fun h => ⟨mwf_mset _ _ _ h, by rw [plotOf_modPlot_same s h, hg]⟩, fun h => ⟨h, rfl⟩⟩

/-! ### Requests -/

theorem traffic_tableSend (use : TabUse) (op : FabOp) (addr len : Nat) (data : List Byte) :
    Traffic s (tableSend s (quadrantOf p) use op addr len data).1 p := by
  have hplots : (tableSend s (quadrantOf p) use op addr len data).1.plots = s.plots := by rw [tableSend_only]
  refine ⟨fieldsBut_tableSend _ _ _ _ _, fun h => ⟨hplots ▸ h, ?_⟩, fun h => ?_⟩
  · rw [plotOf, plotOf, hplots]
  · rw [quadOf, quads_tableSend]
    split_ifs
    · refine ⟨mwf_mset _ _ _ h, ?_⟩
      have hwaits := quadOf_modQuad_same s h (quadrantOf p) fun x =>
        { x with table := mput x.table (freeTag s (quadrantOf p)) (sentRequest use op len) }
      exact (congrArg tableless hwaits).trans rfl
    · exact ⟨h, rfl⟩

theorem traffic_tableRead (use : TabUse) (addr len : Nat) : Traffic s (tableRead s (quadrantOf p) use addr len).1 p := by
  unfold tableRead
  split_ifs
  · exact traffic_refl s p
  · exact traffic_tableSend _ _ _ _ _
  · exact traffic_of_fields (fieldsBut_congr rfl (fieldsBut_refl s _)) rfl rfl

theorem traffic_tableWrite (use : TabUse) (addr : Nat) (data : List Byte) : Traffic s (tableWrite s (quadrantOf p) use addr data).1 p := by
  unfold tableWrite
  split_ifs
  · exact traffic_refl s p
  · exact traffic_tableSend _ _ _ _ _
  · exact traffic_of_fields (fieldsBut_congr rfl (fieldsBut_refl s _)) rfl rfl

/-! ### Write-backs -/

theorem traffic_writebackFail (high : Bool) : Traffic s (writebackFail s p high) p := by
  have hbump (u : State) : Traffic u (bump u (F.PLT_WB_WB_FAIL (quadrantOf p))) p :=
    traffic_of_fields (fieldsBut_setF _ (by simp [trafficFields]) (fieldsBut_refl u _)) rfl rfl
  unfold writebackFail
  dsimp only
  refine Traffic.trans ?_ (hbump _)
  split_ifs
  · exact traffic_modPlot fun _ => rfl
  · exact traffic_modPlot fun _ => rfl

theorem traffic_writebackLow : Traffic s (writebackLow s p).1 p := by
  have hsent := (traffic_modPlot (s := s) (p := p) (g := fun x => { x with wbBusy := x.wbBusy.map fun k => k + 1 }) fun _ => rfl).trans
    (traffic_tableWrite (.writeback p) (entryAddr s p) (plotOf s p).wbLow)
  unfold writebackLow
  dsimp only
  split_ifs
  · exact hsent
  · exact hsent.trans (traffic_writebackFail false)

theorem traffic_writebackStart (s : State) (p : Nat) : Traffic s (writebackStart s p) p := by
  unfold writebackStart
  dsimp only
  split_ifs
  · exact traffic_modPlot (g := fun x => { x with wbAgain := true }) fun _ => rfl
  · exact traffic_writebackFail false
  · exact (traffic_modPlot (g := fun x => { x with wbBusy := some 1, wbLow := _, dirty := false, pdirty := false }) fun _ => rfl).trans
      (traffic_tableWrite _ _ _)
  · exact ((traffic_modPlot (g := fun x => { x with wbBusy := some 1, wbLow := _, dirty := false, pdirty := false }) fun _ => rfl).trans
      (traffic_tableWrite _ _ _)).trans (traffic_writebackFail true)
  · exact (traffic_modPlot (g := fun x => { x with wbBusy := some 1, wbLow := _, dirty := false }) fun _ => rfl).trans traffic_writebackLow

/-! ### States that are written back -/

/-- A plot has a new state; its change is written back. -/
theorem traffic_enterState (s : State) (p st : Nat) : Traffic (setF s (F.PE_STATUS_STATE p) st) (enterState s p st) p := traffic_writebackStart _ _

end Sys2Proof.Proofs.Writebacks
end

section
/-!
SUPPORT. PLT_CMD (R65, R66): the command that is taken, refused or lost, and how one ends.
-/
namespace Sys2Proof.Proofs.PlotCommands
open Sys2Proof.Machine Sys2Proof.Proofs.Fields Sys2Proof.Proofs.EntryFields Sys2Proof.Proofs.ConfigTable Sys2Proof.Proofs.Writebacks

variable {s t u : State} {p q op i r : Nat} {who : Party} {act : State → Nat → State}

/-! ### Its registers -/

/-- The fields of PLT_CMD_STATUS that a command writes. -/
def cmdFields (q : Nat) : List Fld := [F.PLT_CMD_STATUS_RESULT q, F.PLT_CMD_STATUS_INDEX q, F.PLT_CMD_STATUS_OP q, F.PLT_CMD_STATUS_BUSY q]

theorem cmdFields_ofDevice : ∀ q < 4, ∀ f ∈ F.PLT_CMD_STATUS_LOCKED_IGNORED q :: F.EVG_PEND_PEND 19 :: cmdFields q, OfDevice f := by
  unfold OfDevice
  decide +kernel

theorem cmdFields_tableReads : ∀ q < 4, ∀ g ∈ tableReads q, ∀ f ∈ cmdFields q, g.key ≠ f.key := by decide +kernel

theorem cmdFields_traffic : ∀ q < 4, ∀ g ∈ cmdFields q, ∀ f ∈ trafficFields q, g.key ≠ f.key := by decide +kernel

theorem tableReads_ofDevice : ∀ q < 4, ∀ f ∈ tableReads q, OfDevice f := by
  unfold OfDevice
  decide +kernel

theorem tableReads_traffic : ∀ q < 4, ∀ g ∈ tableReads q, ∀ f ∈ trafficFields q, g.key ≠ f.key := by decide +kernel

theorem trafficFields_ofDevice : ∀ q < 4, ∀ f ∈ trafficFields q, OfDevice f := by
  unfold OfDevice
  decide +kernel

theorem plotPort_lt (p : Fin 4096) : quadrantOf p < 4 := by
  unfold quadrantOf
  omega

theorem quadrantOf_index (q : Nat) (i : Fin 1024) : quadrantOf (q * 1024 + i) = q := by
  unfold quadrantOf
  omega

theorem indexOf_index (q : Nat) (i : Fin 1024) : indexOf (q * 1024 + i) = i := by
  unfold indexOf
  omega

theorem mwf_cells_of_wf (h : s.wf = true) : mwf s.cells = true := by
  simp only [State.wf, Bool.and_eq_true] at h
  tauto

/-- Fields of one register are at different bits. -/
theorem key_ne_of_lo {f g : Fld} (ha : f.addr = g.addr) (h : f.lo ≠ g.lo) : f.key ≠ g.key := by
  unfold Fld.key
  omega

/-! ### The command is written -/

/-- The state with the command named. -/
def cmdNamed (s : State) (q op i : Nat) : State := setF (setF s (F.PLT_CMD_STATUS_OP q) op) (F.PLT_CMD_STATUS_INDEX q) i

/-- The state in which the command acts on its plot. -/
def cmdStarted (s : State) (q op i : Nat) : State :=
  modQuad (setF (cmdNamed s q op i) (F.PLT_CMD_STATUS_BUSY q) 1) q fun x => { x with plt := some ⟨op, i⟩ }

theorem fieldsBut_cmdNamed : FieldsBut s (cmdNamed s q op i) (cmdFields q) :=
  fieldsBut_setF _ (by simp [cmdFields]) (fieldsBut_setF _ (by simp [cmdFields]) (fieldsBut_refl s _))

theorem fieldsBut_cmdStarted : FieldsBut s (cmdStarted s q op i) (cmdFields q) :=
  fieldsBut_congr (t := setF (cmdNamed s q op i) (F.PLT_CMD_STATUS_BUSY q) 1) rfl (fieldsBut_setF _ (by simp [cmdFields]) fieldsBut_cmdNamed)

theorem plotState_of_device {fs : List Fld} (h : FieldsBut s t fs) (hfs : ∀ f ∈ fs, OfDevice f) (p : Nat) : plotState t p = plotState s p :=
  getF_of_device h hfs (by simp only [F.PE_STATUS_STATE, A.PE_STATUS]; omega)

theorem cmdFields_device (hq : q < 4) (f : Fld) (hf : f ∈ cmdFields q) : OfDevice f :=
  cmdFields_ofDevice q hq f (List.mem_cons_of_mem _ (List.mem_cons_of_mem _ hf))

theorem pltCmd_closed (h : regOpen s who (A.PLT_CMD q) = false) : pltCmd s q who op i act = s := by simp [pltCmd, h]

theorem pltCmd_busy (h : regOpen s who (A.PLT_CMD q) = true) (hb : bitF s (F.PLT_CMD_STATUS_BUSY q) = true) :
    pltCmd s q who op i act = setF s (F.PLT_CMD_STATUS_OVERRUN q) 1 := by simp [pltCmd, h, hb]

theorem pwmMode_cmdNamed (hq : q < 4) : pwmMode (cmdNamed s q op i) = pwmMode s := by
  have hkeys : ∀ q < 4, ∀ f ∈ cmdFields q, F.PWM_STATUS_MODE.key ≠ f.key := by decide +kernel
  exact fieldsBut_cmdNamed _ (hkeys q hq)

/-- A command for a function that is not enabled ends INDEX, one in a state that does not accept it STATE. -/
theorem pltCmd_refused (hq : q < 4) (h : regOpen s who (A.PLT_CMD q) = true) (hb : bitF s (F.PLT_CMD_STATUS_BUSY q) = false)
    (href : funcEnabled s (q * 1024 + i) = false ∨ pltAccepts (pwmMode s == moBoot) op (plotState s (q * 1024 + i)) = false) :
    pltCmd s q who op i act = pltResult (cmdNamed s q op i) q (if funcEnabled s (q * 1024 + i) then 3 else 6) := by
  have hst := plotState_of_device (fieldsBut_cmdNamed (s := s) (op := op) (i := i)) (cmdFields_device hq) (q * 1024 + i)
  have hen : funcEnabled (cmdNamed s q op i) (q * 1024 + i) = funcEnabled s (q * 1024 + i) := rfl
  have hmode := pwmMode_cmdNamed (s := s) (op := op) (i := i) hq
  unfold cmdNamed at hst hen hmode ⊢
  cases hf : funcEnabled s (q * 1024 + i) with
  | false => simp [pltCmd, h, hb, hen, hf]
  | true => simp [pltCmd, h, hb, hen, hf, hst, hmode, href.resolve_left (by simp [hf])]

/-- A command that is accepted acts on its plot. -/
theorem pltCmd_taken (hq : q < 4) (h : PltTaken s q who i) (hacc : pltAccepts (pwmMode s == moBoot) op (plotState s (q * 1024 + i)) = true) :
    pltCmd s q who op i act = act (cmdStarted s q op i) (q * 1024 + i) := by
  obtain ⟨hopen, hb, hf⟩ := h
  have hst := plotState_of_device (fieldsBut_cmdNamed (s := s) (op := op) (i := i)) (cmdFields_device hq) (q * 1024 + i)
  have hen : funcEnabled (cmdNamed s q op i) (q * 1024 + i) = funcEnabled s (q * 1024 + i) := rfl
  have hmode := pwmMode_cmdNamed (s := s) (op := op) (i := i) hq
  unfold cmdStarted
  unfold cmdNamed at hst hen hmode ⊢
  simp [pltCmd, hopen, hb, hen, hf, hst, hmode, hacc]

theorem quadOf_cmdStarted (h : mwf s.quads = true) : quadOf (cmdStarted s q op i) q = { quadOf s q with plt := some ⟨op, i⟩ } :=
  quadOf_modQuad_same (setF (cmdNamed s q op i) (F.PLT_CMD_STATUS_BUSY q) 1) h q _

theorem mwf_quads_cmdStarted (h : mwf s.quads = true) : mwf (cmdStarted s q op i).quads = true := mwf_mset _ _ _ h

theorem busy_cmdStarted : bitF (cmdStarted s q op i) (F.PLT_CMD_STATUS_BUSY q) = true := bitF_setF_one (cmdNamed s q op i) rfl

theorem sameTable_cmdStarted (hq : q < 4) : SameTable s (cmdStarted s q op i) q :=
  ⟨fun g hg => fieldsBut_cmdStarted g (cmdFields_tableReads q hq g hg), rfl, rfl⟩

/-! ### The command ends -/

theorem fieldsBut_pltResult : FieldsBut s (pltResult s q r) [F.PLT_CMD_STATUS_RESULT q, F.PLT_CMD_STATUS_BUSY q] :=
  fieldsBut_congr (t := setF (setF s (F.PLT_CMD_STATUS_RESULT q) r) (F.PLT_CMD_STATUS_BUSY q) 0) rfl
    (fieldsBut_setF _ (by simp) (fieldsBut_setF _ (by simp) (fieldsBut_refl s _)))

theorem result_pltResult (hr : r < 16) : getF (pltResult s q r) (F.PLT_CMD_STATUS_RESULT q) = r := by
  have hkey : (F.PLT_CMD_STATUS_RESULT q).key ≠ (F.PLT_CMD_STATUS_BUSY q).key := key_ne_of_lo rfl (show 32 ≠ 63 by decide)
  change getF (setF (setF s _ r) _ 0) _ = r
  rw [getF_setF_ne _ _ hkey, getF_setF_same]
  exact Nat.mod_eq_of_lt hr

theorem busy_pltResult : bitF (pltResult s q r) (F.PLT_CMD_STATUS_BUSY q) = false := bitF_setF_zero (setF s (F.PLT_CMD_STATUS_RESULT q) r)

theorem quadOf_pltResult (h : mwf s.quads = true) : quadOf (pltResult s q r) q = { quadOf s q with plt := none } :=
  quadOf_modQuad_same (setF (setF s (F.PLT_CMD_STATUS_RESULT q) r) (F.PLT_CMD_STATUS_BUSY q) 0) h q _

/-- The command in progress is the one that ends. -/
theorem pltEnd_hit (h : (quadOf s (quadrantOf p)).plt = some ⟨op, indexOf p⟩) : pltEnd s p [op] r = pltResult s (quadrantOf p) r := by
  simp [pltEnd, h]

/-- It is another, or none. -/
theorem pltEnd_miss (h : (quadOf s (quadrantOf p)).plt ≠ some ⟨op, indexOf p⟩) : pltEnd s p [op] r = s := by
  unfold pltEnd
  cases hc : (quadOf s (quadrantOf p)).plt with
  | none => rfl
  | some c =>
    have hne : ¬(c.index = indexOf p ∧ c.op = op) := fun ⟨hi, ho⟩ => h (by rw [hc, ← hi, ← ho])
    refine if_neg fun hboth => hne ?_
    simpa using hboth

/-- In either case fields other than RESULT and BUSY stand. -/
theorem fieldsBut_pltEnd : FieldsBut s (pltEnd s p [op] r) [F.PLT_CMD_STATUS_RESULT (quadrantOf p), F.PLT_CMD_STATUS_BUSY (quadrantOf p)] := by
  by_cases h : (quadOf s (quadrantOf p)).plt = some ⟨op, indexOf p⟩
  · rw [pltEnd_hit h]
    exact fieldsBut_pltResult
  · rw [pltEnd_miss h]
    exact fieldsBut_refl s _

theorem pltEnd_only (s : State) (p : Nat) (ops : List Nat) (r : Nat) :
    pltEnd s p ops r = { s with cells := (pltEnd s p ops r).cells, quads := (pltEnd s p ops r).quads } := by
  unfold pltEnd
  split
  · split_ifs <;> rfl
  · rfl

theorem quads_pltEnd (hwf : mwf s.quads = true) {ops : List Nat} :
    mwf (pltEnd s p ops r).quads = true ∧ (quadOf (pltEnd s p ops r) (quadrantOf p)).table = (quadOf s (quadrantOf p)).table := by
  unfold pltEnd
  split
  · split_ifs
    · exact ⟨mwf_mset _ _ _ hwf, (congrArg Quad.table (quadOf_pltResult hwf)).trans rfl⟩
    · exact ⟨hwf, rfl⟩
  · exact ⟨hwf, rfl⟩

/-- A command ends as its state before and the steps up to its end tell. -/
theorem cmdEnds_pltEnd (hr : r < 16) (hquads : mwf t.quads = true) (hplt : (quadOf t (quadrantOf p)).plt = (quadOf s (quadrantOf p)).plt)
    (hstatus : ∀ f ∈ cmdFields (quadrantOf p), getF t f = getF s f) : CmdEnds s (pltEnd t p [op] r) p op r := by
  refine ⟨fun h => ?_, fun h => ?_⟩
  · rw [pltEnd_hit (hplt.trans h)]
    exact ⟨result_pltResult hr, busy_pltResult, congrArg Quad.plt (quadOf_pltResult hquads)⟩
  · rw [pltEnd_miss (by rw [hplt]; exact h)]
    exact ⟨hstatus _ (by simp [cmdFields]), bitF_congr (hstatus _ (by simp [cmdFields]))⟩

end Sys2Proof.Proofs.PlotCommands
end

section
/-!
SUPPORT. Loads (R54): what they leave of the command in progress and of the device, and the state of the plot when one begins, fails or is done.
-/
namespace Sys2Proof.Proofs.Loads
open Sys2Proof.Machine Sys2Proof.Proofs.Fields Sys2Proof.Proofs.EntryFields Sys2Proof.Proofs.ConfigTable Sys2Proof.Proofs.Writebacks
open Sys2Proof.Proofs.PlotCommands Sys2Proof.Proofs.PlotQueue

variable {s t u : State} {p q : Nat}

/-! ### The command in progress -/

/-- The command in progress in a quadrant, and the register that shows it, stand. -/
def CmdKept (s t : State) (q : Nat) : Prop :=
  mwf s.quads = true → mwf t.quads = true ∧ (quadOf t q).plt = (quadOf s q).plt ∧ ∀ f ∈ cmdFields q, getF t f = getF s f

theorem CmdKept.trans (h : CmdKept s t q) (h' : CmdKept t u q) : CmdKept s u q := by
  intro hwf
  obtain ⟨hwf, hplt, hfields⟩ := h hwf
  obtain ⟨hwf, hplt', hfields'⟩ := h' hwf
  exact ⟨hwf, hplt'.trans hplt, fun f hf => (hfields' f hf).trans (hfields f hf)⟩

theorem cmdKept_of_fields (hquads : t.quads = s.quads) (hfields : ∀ f ∈ cmdFields q, getF t f = getF s f) : CmdKept s t q :=
  fun hwf => ⟨hquads ▸ hwf, by rw [quadOf, quadOf, hquads], hfields⟩

theorem cmdKept_of_cells (hquads : t.quads = s.quads) (hcells : t.cells = s.cells) : CmdKept s t q :=
  cmdKept_of_fields hquads fun f _ => getF_congr hcells f

theorem cmdKept_modQuad {g : Quad → Quad} (hg : ∀ x, (g x).plt = x.plt) : CmdKept s (modQuad s q g) q :=
  fun hwf => ⟨mwf_mset _ _ _ hwf, by rw [quadOf_modQuad_same s hwf, hg], fun _ _ => rfl⟩

theorem cmdKept_of_plotFields {fs : List Fld} (hq : q < 4) (hquads : t.quads = s.quads) (hfields : FieldsBut s t fs)
    (hfs : ∀ f ∈ fs, 0x100000000 ≤ f.addr) : CmdKept s t q :=
  cmdKept_of_fields hquads fun g hg => hfields g fun f hf => ofDevice_key_ne (cmdFields_device hq g hg) (hfs f hf)

theorem cmdKept_of_traffic (hp : quadrantOf p < 4) (h : Traffic s t p) : CmdKept s t (quadrantOf p) := by
  intro hwf
  obtain ⟨hwf, hquad⟩ := h.quad hwf
  exact ⟨hwf, (congrArg Quad.plt hquad : _), fun f hf => h.fields f (cmdFields_traffic _ hp f hf)⟩

theorem cmdKept_tableDrop (s : State) (q : Nat) (use : TabUse) : CmdKept s (tableDrop s q use) q := cmdKept_modQuad fun _ => rfl

theorem cmdKept_tableQuit (s : State) (p : Nat) : CmdKept s (tableQuit s p) (quadrantOf p) := by
  unfold tableQuit
  exact ((cmdKept_tableDrop _ _ _).trans (cmdKept_tableDrop _ _ _)).trans (cmdKept_tableDrop _ _ _)

theorem getF_tableQuit (s : State) (p : Nat) (f : Fld) : getF (tableQuit s p) f = getF s f := rfl

theorem plots_tableQuit (s : State) (p : Nat) : (tableQuit s p).plots = s.plots := rfl

theorem plotState_modPlot (s : State) (p r : Nat) (g : Plot → Plot) : plotState (modPlot s p g) r = plotState s r := rfl

theorem cmdKept_modPlot (s : State) (p q : Nat) (g : Plot → Plot) : CmdKept s (modPlot s p g) q := cmdKept_of_cells rfl rfl

/-! ### A plot that keeps no entry -/

/-- STATUS stands behind nothing that a load takes from memory. -/
theorem plotState_of_entry {fs : List Fld} (h : FieldsBut s t fs) (hfs : ∀ f ∈ fs, f ∈ entryFields p) : plotState t p = plotState s p :=
  h _ fun f hf => (key_ne_status (hfs f hf) rfl (show 0 < 64 by decide)).symm

theorem plotState_of_traffic (hp : quadrantOf p < 4) (h : Traffic s t p) : plotState t p = plotState s p :=
  plotState_of_device h.fields (trafficFields_ofDevice _ hp) p

theorem plotState_setF (v : Nat) (hv : v < 16) : plotState (setF s (F.PE_STATUS_STATE p) v) p = v := (getF_setF_same s _ v).trans (Nat.mod_eq_of_lt hv)

theorem cmdKept_setState (hp : q < 4) (v : Nat) : CmdKept s (setF s (F.PE_STATUS_STATE p) v) q :=
  cmdKept_of_plotFields hp rfl (fieldsBut_setF (fs := [F.PE_STATUS_STATE p]) v (by simp) (fieldsBut_refl s _)) fun f hf => by
    rw [List.mem_singleton.1 hf]
    simp only [F.PE_STATUS_STATE, A.PE_STATUS]
    omega

/-- A plot has entered a state. -/
theorem enterState_facts (hp : quadrantOf p < 4) {v : Nat} (hv : v < 16) (hplots : mwf s.plots = true) :
    plotState (enterState s p v) p = v ∧ mwf (enterState s p v).plots = true ∧ wbless (plotOf (enterState s p v) p) = wbless (plotOf s p) ∧
      CmdKept s (enterState s p v) (quadrantOf p) := by
  have htraffic := traffic_enterState s p v
  obtain ⟨hwf, hplot⟩ := htraffic.plot hplots
  exact ⟨(plotState_of_traffic hp htraffic).trans (plotState_setF v hv), hwf, hplot, (cmdKept_setState hp v).trans (cmdKept_of_traffic hp htraffic)⟩

theorem memFields_addr {f : Fld} (hf : f ∈ (plotMemFields p).map fun x => x.1) : f ∈ entryFields p ∧ 0x100000000 ≤ f.addr := by
  obtain ⟨x, hx, rfl⟩ := List.mem_map.1 hf
  have hmem := mem_entryFields_of_mem hx
  obtain ⟨haddr, -, -⟩ := addr_of_entryFields hmem
  unfold A.PE_STATUS at haddr
  exact ⟨hmem, by omega⟩

/-- The state with the plot Disabled. -/
def plotLeft (s : State) (p : Nat) : State := if plotState s p == psDisabled then s else enterState s p psDisabled

/-- The fields that a load takes from memory at their reset values. -/
def memReset (s : State) (p : Nat) : State := resetFields s ((plotMemFields p).map fun x => x.1)

/-- A plot into which nothing is loaded. -/
def unloaded (x : Plot) : Plot := { x with load := none, refetch := false, refetchBare := false, held := [], emu := [], arm := none }

theorem plotDisable_eq (s : State) (p : Nat) : plotDisable s p = modPlot (memReset (tableQuit (plotLeft s p) p) p) p unloaded := rfl

theorem plotLeft_facts (hp : quadrantOf p < 4) (hplots : mwf s.plots = true) :
    plotState (plotLeft s p) p = psDisabled ∧ mwf (plotLeft s p).plots = true ∧ CmdKept s (plotLeft s p) (quadrantOf p) := by
  unfold plotLeft
  split_ifs with h
  · exact ⟨eq_of_beq h, hplots, cmdKept_of_cells rfl rfl⟩
  · obtain ⟨hst, hwf, -, hkept⟩ := enterState_facts hp (v := psDisabled) (by decide) hplots
    exact ⟨hst, hwf, hkept⟩

theorem memReset_facts (hp : quadrantOf p < 4) (s : State) :
    plotState (memReset s p) p = plotState s p ∧ (memReset s p).plots = s.plots ∧ CmdKept s (memReset s p) (quadrantOf p) := by
  have hfields := fieldsBut_resetFields s ((plotMemFields p).map fun x => x.1)
  have honly := resetFields_only s ((plotMemFields p).map fun x => x.1)
  unfold OnlyCells at honly
  refine ⟨plotState_of_entry hfields fun f hf => (memFields_addr hf).1, by rw [memReset, honly], ?_⟩
  exact cmdKept_of_plotFields hp (by rw [memReset, honly]) hfields fun f hf => (memFields_addr hf).2

/-- The plot is Disabled, and nothing is loaded into it. -/
theorem plotDisable_facts (hp : quadrantOf p < 4) (hplots : mwf s.plots = true) :
    plotState (plotDisable s p) p = psDisabled ∧ (plotOf (plotDisable s p) p).load = none ∧ CmdKept s (plotDisable s p) (quadrantOf p) := by
  obtain ⟨hst, hwf, hleft⟩ := plotLeft_facts hp hplots
  obtain ⟨hst', hplots', hreset⟩ := memReset_facts hp (tableQuit (plotLeft s p) p)
  have hwf' : mwf (memReset (tableQuit (plotLeft s p) p) p).plots = true := by
    rw [hplots', plots_tableQuit]
    exact hwf
  rw [plotDisable_eq]
  refine ⟨?_, congrArg Plot.load (plotOf_modPlot_same _ hwf' p unloaded), ?_⟩
  · rw [plotState_modPlot, hst', plotState, getF_tableQuit]
    exact hst
  · exact ((hleft.trans (cmdKept_tableQuit _ p)).trans hreset).trans (cmdKept_modPlot _ p _ _)

/-! ### A load that ends -/

theorem plotOf_loadEnded (s : State) (p r : Nat) : plotOf (loadEnded s p) r = plotOf s r := rfl

theorem cmdKept_loadEnded (s : State) (p q : Nat) : CmdKept s (loadEnded s p) q := cmdKept_of_cells rfl rfl

theorem cmdEnd_device (hp : quadrantOf p < 4) : ∀ f ∈ [F.PLT_CMD_STATUS_RESULT (quadrantOf p), F.PLT_CMD_STATUS_BUSY (quadrantOf p)], OfDevice f := by
  intro f hf
  refine cmdFields_device hp f ?_
  simp only [cmdFields, List.mem_cons, List.not_mem_nil, or_false] at hf ⊢
  tauto

/-- The end of a load, whose RESULT a LOAD command takes. -/
def loadOver (s : State) (p r : Nat) : State := pltEnd (loadEnded s p) p [1] r

theorem loadOver_facts {r : Nat} (hp : quadrantOf p < 4) (hr : r < 16) (hquads : mwf s.quads = true) (hkept : CmdKept s t (quadrantOf p)) :
    FieldsBut t (loadOver t p r) [F.PLT_CMD_STATUS_RESULT (quadrantOf p), F.PLT_CMD_STATUS_BUSY (quadrantOf p)] ∧
      plotState (loadOver t p r) p = plotState t p ∧ plotOf (loadOver t p r) p = plotOf t p ∧ CmdEnds s (loadOver t p r) p 1 r := by
  obtain ⟨hwf, hplt, hfields⟩ := (hkept.trans (cmdKept_loadEnded t p _)) hquads
  have hbut : FieldsBut t (loadOver t p r) [F.PLT_CMD_STATUS_RESULT (quadrantOf p), F.PLT_CMD_STATUS_BUSY (quadrantOf p)] :=
    fieldsBut_trans (fieldsBut_congr rfl (fieldsBut_refl t _)) fieldsBut_pltEnd
  have honly := pltEnd_only (loadEnded t p) p [1] r
  refine ⟨hbut, plotState_of_device hbut (cmdEnd_device hp) p, ?_, cmdEnds_pltEnd hr hwf hplt hfields⟩
  rw [loadOver, honly]
  exact plotOf_loadEnded t p p

theorem loadFail_eq (s : State) (p r : Nat) : loadFail s p r = loadOver (plotDisable s p) p r := rfl

/-- A load has failed: the plot is Disabled, and a LOAD command ends with the RESULT. -/
theorem loadFail_facts {r : Nat} (hp : quadrantOf p < 4) (hr : r < 16) (hplots : mwf t.plots = true) (hquads : mwf s.quads = true)
    (hbefore : CmdKept s t (quadrantOf p)) :
    plotState (loadFail t p r) p = psDisabled ∧ (plotOf (loadFail t p r) p).load = none ∧ CmdEnds s (loadFail t p r) p 1 r := by
  obtain ⟨hst, hload, hkept⟩ := plotDisable_facts hp hplots
  obtain ⟨-, hst', hplot, hends⟩ := loadOver_facts hp hr hquads (hbefore.trans hkept)
  rw [loadFail_eq]
  exact ⟨hst'.trans hst, (congrArg Plot.load hplot).trans hload, hends⟩

/-! ### The entry read (R54) -/

/-- The report of a failed read changes functions, ports and outputs alone (R276). -/
theorem tableAer_only (s : State) (q : Nat) (why : HostFail) : tableAer s q why =
    { s with funcs := (tableAer s q why).funcs, ports := (tableAer s q why).ports, out := (tableAer s q why).out } := by
  unfold tableAer
  split_ifs
  · rfl
  · split
    · rw [aerLog_only]
    · rw [aerLog_only]
    · rfl

/-- An entry read that cannot be used fails the load. -/
theorem loadRead_of_bad {r : MemResult} {res : Nat} (h : loadBad s p r = some res) :
    res < 16 ∧ ∃ u, loadRead s p r = loadFail u p res ∧ u.plots = s.plots ∧ CmdKept s u (quadrantOf p) := by
  have hdrop : CmdKept s (tableDrop s (quadrantOf p) (.load p)) (quadrantOf p) := cmdKept_tableDrop _ _ _
  cases r with
  | failed why =>
    have honly := tableAer_only (tableDrop s (quadrantOf p) (.load p)) (quadrantOf p) why
    cases h
    refine ⟨by decide, _, rfl, by rw [honly]; rfl, hdrop.trans (cmdKept_of_cells ?_ ?_)⟩ <;> rw [honly]
  | ok bs =>
    have hfit (b c : Nat) : vectorsFit (tableDrop s (quadrantOf p) (.load p)) p b c = vectorsFit s p b c := rfl
    suffices hr : res < 16 ∧ loadRead s p (.ok bs) = loadFail (tableDrop s (quadrantOf p) (.load p)) p res from ⟨hr.1, _, hr.2, rfl, hdrop⟩
    simp only [loadBad] at h
    simp only [loadRead, beq_iff_eq, hfit]
    split_ifs at h ⊢ <;> cases h <;> exact ⟨by decide, rfl⟩

theorem loadRead_of_good {bs : List Byte} (h : loadBad s p (.ok bs) = none) :
    loadRead s p (.ok bs) = loadDone (tableDrop s (quadrantOf p) (.load p)) p bs := by
  have hfit (b c : Nat) : vectorsFit (tableDrop s (quadrantOf p) (.load p)) p b c = vectorsFit s p b c := rfl
  simp only [loadBad] at h
  simp only [loadRead, beq_iff_eq, hfit]
  split_ifs at h ⊢
  rfl

/-! ### A load that is done (R54) -/

/-- A plot with full buckets, and no load under way. -/
def filled (tx rx : Nat) (x : Plot) : Plot := { x with tx := tx, rx := rx, load := none }

/-- The plot fills its buckets by the fields that it holds. -/
def entryTaken (s : State) (p : Nat) : State := modPlot s p (filled (rateDepth s p 0) (rateDepth s p 1))

theorem loadDone_eq (s : State) (p : Nat) (bs : List Byte) :
    loadDone s p bs = loadOver (enterState (pfForget (linesDiscard (entryTaken (loadFields s bs (plotMemFields p)) p) p) p) p
      (stateByBme (pfForget (linesDiscard (entryTaken (loadFields s bs (plotMemFields p)) p) p) p) p)) p 0 := by
  unfold loadDone
  generalize loadFields s bs (plotMemFields p) = u
  rfl

theorem rateBurst_mem (p : Nat) : F.PE_RATE_BURST p 0 ∈ entryFields p ∧ F.PE_RATE_BURST p 1 ∈ entryFields p :=
  ⟨mem_entryFields_of_mem (x := (F.PE_RATE_BURST p 0, 0x20)) (by simp [plotMemFields]),
    mem_entryFields_of_mem (x := (F.PE_RATE_BURST p 1, 0x28)) (by simp [plotMemFields])⟩

/-- The change of state leaves the fields behind STATUS. -/
theorem getF_enterState {f : Fld} (hp : quadrantOf p < 4) (v : Nat) (hf : f ∈ entryFields p) : getF (enterState s p v) f = getF s f := by
  have haddr : 0x100000000 ≤ f.addr := by
    obtain ⟨haddr, -, -⟩ := addr_of_entryFields hf
    unfold A.PE_STATUS at haddr
    omega
  refine (getF_of_device (traffic_enterState s p v).fields (trafficFields_ofDevice _ hp) haddr).trans ?_
  exact getF_setF_ne s v (key_ne_status hf rfl (show 0 < 64 by decide))

/-- The entry's fields take their values, and nothing else changes. -/
theorem loadFields_facts (hp : quadrantOf p < 4) (s : State) (bs : List Byte) :
    (∀ x ∈ plotMemFields p, getF (loadFields s bs (plotMemFields p)) x.1 = fieldIn bs x) ∧ OnlyCells s (loadFields s bs (plotMemFields p)) ∧
      CmdKept s (loadFields s bs (plotMemFields p)) (quadrantOf p) := by
  have hfields := fieldsBut_loadFields s bs (plotMemFields p)
  have honly := loadFields_only s bs (plotMemFields p)
  refine ⟨fun x hx => getF_loadFields bs (plotMemFields_keys_nodup p) hx, honly, ?_⟩
  unfold OnlyCells at honly
  exact cmdKept_of_plotFields hp (by rw [honly]) hfields fun f hf => (memFields_addr hf).2

theorem cmdKept_linesForgotten (s : State) (p : Nat) : CmdKept s (pfForget (linesDiscard s p) p) (quadrantOf p) := by
  have hlines : CmdKept s (linesDiscard s p) (quadrantOf p) := cmdKept_modQuad fun _ => rfl
  have hpf (u : State) : CmdKept u (pfForget u p) (quadrantOf p) := cmdKept_modQuad fun _ => rfl
  exact hlines.trans (hpf _)

/-- The plot with the entry in effect, but for its state. -/
def inEffect (s : State) (p : Nat) : State := pfForget (linesDiscard (entryTaken s p) p) p

theorem inEffect_facts (hplots : mwf s.plots = true) : mwf (inEffect s p).plots = true ∧
    plotOf (inEffect s p) p = filled (rateDepth s p 0) (rateDepth s p 1) (plotOf s p) ∧ (inEffect s p).cells = s.cells ∧
      (inEffect s p).funcs = s.funcs ∧ CmdKept s (inEffect s p) (quadrantOf p) :=
  ⟨mwf_mset _ _ _ hplots, plotOf_modPlot_same s hplots p _, rfl, rfl, (cmdKept_modPlot s p _ _).trans (cmdKept_linesForgotten _ p)⟩

theorem stateByBme_congr (h : t.funcs = s.funcs) (p : Nat) : stateByBme t p = stateByBme s p := by
  have hbme : bmeOf t p = bmeOf s p := by simp only [bmeOf, funcOf, h]
  rw [stateByBme, stateByBme, hbme]

theorem stateByBme_lt (s : State) (p : Nat) : stateByBme s p < 16 := by
  unfold stateByBme
  split_ifs <;> decide

/-- The entry is in effect, both buckets are full, and a LOAD command ends OK. -/
theorem loadDone_facts {bs : List Byte} (hp : quadrantOf p < 4) (hplots : mwf t.plots = true) (hquads : mwf s.quads = true)
    (hbefore : CmdKept s t (quadrantOf p)) :
    plotState (loadDone t p bs) p = stateByBme t p ∧ (∀ x ∈ plotMemFields p, getF (loadDone t p bs) x.1 = fieldIn bs x) ∧
      (plotOf (loadDone t p bs) p).tx = rateDepth (loadDone t p bs) p 0 ∧ (plotOf (loadDone t p bs) p).rx = rateDepth (loadDone t p bs) p 1 ∧
      (plotOf (loadDone t p bs) p).load = none ∧ CmdEnds s (loadDone t p bs) p 1 0 := by
  obtain ⟨htaken, honly, hload⟩ := loadFields_facts hp t bs
  have hdone := loadDone_eq t p bs
  generalize loadFields t bs (plotMemFields p) = u at htaken honly hload hdone
  have hwf : mwf u.plots = true := by
    rw [honly]
    exact hplots
  obtain ⟨hwf, hplot, hcells, hfuncs, heffect⟩ := inEffect_facts (p := p) hwf
  have hbme : stateByBme (inEffect u p) p = stateByBme t p := stateByBme_congr (by rw [hfuncs, honly]) p
  have hdone : loadDone t p bs = loadOver (enterState (inEffect u p) p (stateByBme (inEffect u p) p)) p 0 := hdone
  rw [hdone]
  generalize inEffect u p = v at *
  obtain ⟨hst, -, hwbless, hentered⟩ := enterState_facts hp (stateByBme_lt v p) hwf
  obtain ⟨hbut, hst', hover, hends⟩ := loadOver_facts (r := 0) hp (by decide) hquads ((hbefore.trans (hload.trans heffect)).trans hentered)
  rw [hplot, ← hover] at hwbless
  have hfields {f : Fld} (hf : f ∈ entryFields p) : getF (loadOver (enterState v p (stateByBme v p)) p 0) f = getF u f := by
    have haddr : 0x100000000 ≤ f.addr := by
      obtain ⟨haddr, -, -⟩ := addr_of_entryFields hf
      unfold A.PE_STATUS at haddr
      omega
    exact (getF_of_device hbut (cmdEnd_device hp) haddr).trans ((getF_enterState hp _ hf).trans (getF_congr hcells f))
  obtain ⟨hburst0, hburst1⟩ := rateBurst_mem p
  refine ⟨hst'.trans (hst.trans hbme), fun x hx => ?_, ?_, ?_, ?_, hends⟩
  · rw [hfields (mem_entryFields_of_mem hx)]
    exact htaken x hx
  · rw [rateDepth, hfields hburst0]
    exact congrArg Plot.tx hwbless
  · rw [rateDepth, hfields hburst1]
    exact congrArg Plot.rx hwbless
  · exact congrArg Plot.load hwbless

end Sys2Proof.Proofs.Loads
end

section
/-!
SUPPORT. A load begins (R44, R49, R54): the resident fields take their reset values, the plot is Loading, and its entry is read.
-/
namespace Sys2Proof.Proofs.LoadStarts
open Sys2Proof.Machine Sys2Proof.Proofs.Fields Sys2Proof.Proofs.EntryFields Sys2Proof.Proofs.ConfigTable Sys2Proof.Proofs.Writebacks
open Sys2Proof.Proofs.PlotCommands Sys2Proof.Proofs.Loads

variable {s t u : State} {p q : Nat} {o : LoadOrigin}

/-! ### Frames -/

/-- Registers, plots, quadrants, ports and Pergola alone have changed. -/
def LoadFrame (s t : State) : Prop := t = { s with cells := t.cells, plots := t.plots, quads := t.quads, ports := t.ports, pga := t.pga }

theorem LoadFrame.trans (h : LoadFrame s t) (h' : LoadFrame t u) : LoadFrame s u := by
  unfold LoadFrame at h h' ⊢
  rw [h] at h'
  exact h'

theorem loadFrame_page (h : PageChange s t) : LoadFrame s t := by
  have honly := h.only
  unfold LoadFrame
  rw [honly]

theorem loadFrame_cells (h : OnlyCells s t) : LoadFrame s t := by
  unfold LoadFrame
  unfold OnlyCells at h
  rw [h]

theorem loadFrame_modPlot (s : State) (p : Nat) (g : Plot → Plot) : LoadFrame s (modPlot s p g) := rfl

theorem loadFrame_enterState (s : State) (p v : Nat) : LoadFrame s (enterState s p v) := by
  unfold LoadFrame
  rw [enterState_only]

theorem loadFrame_plotLeft (s : State) (p : Nat) : LoadFrame s (plotLeft s p) := by
  unfold plotLeft
  split_ifs
  · rfl
  · exact loadFrame_enterState _ _ _

theorem loadFrame_loadOver (s : State) (p r : Nat) : LoadFrame s (loadOver s p r) := by
  unfold LoadFrame loadOver
  rw [pltEnd_only]
  rfl

theorem loadFrame_loadFail (s : State) (p r : Nat) : LoadFrame s (loadFail s p r) := by
  have hquit (u : State) : LoadFrame u (tableQuit u p) := rfl
  have hreset (u : State) : LoadFrame u (memReset u p) := loadFrame_cells (resetFields_only _ _)
  rw [loadFail_eq, plotDisable_eq]
  exact ((((loadFrame_plotLeft s p).trans (hquit _)).trans (hreset _)).trans (loadFrame_modPlot _ p unloaded)).trans (loadFrame_loadOver _ p r)

/-- These, and outputs. -/
def ReadFrame (s t : State) : Prop :=
  t = { s with cells := t.cells, plots := t.plots, quads := t.quads, ports := t.ports, pga := t.pga, out := t.out }

theorem ReadFrame.trans (h : ReadFrame s t) (h' : ReadFrame t u) : ReadFrame s u := by
  unfold ReadFrame at h h' ⊢
  rw [h] at h'
  exact h'

theorem LoadFrame.read (h : LoadFrame s t) : ReadFrame s t := by
  unfold LoadFrame at h
  unfold ReadFrame
  rw [h]

theorem readFrame_tableRead (s : State) (q : Nat) (use : TabUse) (addr len : Nat) : ReadFrame s (tableRead s q use addr len).1 := by
  unfold ReadFrame tableRead
  split_ifs
  · rfl
  · rw [tableSend_only]
  · rfl

/-! ### The plot is Loading -/

/-- The page and the Status fields of the plot at their reset values. -/
def pageCleared (s : State) (p : Nat) : State := bmeCopy (resetFields (plotSetReset s p) ((plotStatusFields p).map fun x => x.1)) p

theorem pageChange_pageCleared (s : State) (p : Nat) : PageChange s (pageCleared s p) := by
  have hstatus : PageChange (plotSetReset s p) (resetFields (plotSetReset s p) ((plotStatusFields p).map fun x => x.1)) :=
    pageChange_resetFields fun _ hf => status_addr hf
  exact ((pageChange_plotSetReset s p).trans hstatus).trans (pageChange_bmeCopy _ p)

/-- A plot into which an entry is to be loaded: its queue and its write-backs alone are kept. -/
def fresh (o : LoadOrigin) (x : Plot) : Plot :=
  { queue := x.queue, wbBusy := x.wbBusy.map fun k => if k < 3 then k + 2 else k, wbLow := x.wbLow, mbxSent := x.mbxSent, cloche := x.cloche, load := some o }

/-- The plot is ready for an entry. -/
def emptied (s : State) (p : Nat) (o : LoadOrigin) : State := modPlot (pageCleared s p) p (fresh o)

/-- The plot is Loading, and its entry is still to be read. -/
def loadBegun (s : State) (p : Nat) (o : LoadOrigin) : State := enterState (emptied s p o) p psLoading

theorem pageChange_emptied (s : State) (p : Nat) (o : LoadOrigin) : PageChange s (emptied s p o) :=
  (pageChange_pageCleared s p).trans (pageChange_modPlot (pageCleared s p) p (fresh o))

theorem loadStart_eq (s : State) (p : Nat) (o : LoadOrigin) : loadStart s p o =
    if (tableRead (loadBegun s p o) (quadrantOf p) (.load p) (entryAddr (emptied s p o) p) 256).2
    then (tableRead (loadBegun s p o) (quadrantOf p) (.load p) (entryAddr (emptied s p o) p) 256).1
    else loadFail (tableRead (loadBegun s p o) (quadrantOf p) (.load p) (entryAddr (emptied s p o) p) 256).1 p 2 := by
  have hbegun : loadStart s p o = match tableRead (loadBegun s p o) (quadrantOf p) (.load p) (entryAddr (emptied s p o) p) 256 with
    | (s, true) => s
    | (s, false) => loadFail s p 2 := by
    unfold loadStart loadBegun emptied pageCleared
    generalize bmeCopy _ p = w
    rfl
  rw [hbegun]
  generalize tableRead (loadBegun s p o) (quadrantOf p) (.load p) (entryAddr (emptied s p o) p) 256 = r
  obtain ⟨u, ok⟩ := r
  cases ok <;> rfl

/-! ### What stands meanwhile -/

theorem cmdKept_page (hq : q < 4) (h : PageChange s t) (hcells : mwf s.cells = true) : CmdKept s t q := by
  have honly := h.only
  exact cmdKept_of_fields (by rw [honly]) fun f hf => (h.device hcells).2 f (cmdFields_device hq f hf)

theorem sameTable_page (hq : q < 4) (h : PageChange s t) (hcells : mwf s.cells = true) : SameTable s t q := by
  have honly := h.only
  exact ⟨fun f hf => (h.device hcells).2 f (tableReads_ofDevice q hq f hf), by rw [honly], by rw [honly]⟩

theorem sameTable_enterState (hp : quadrantOf p < 4) (v : Nat) : SameTable s (enterState s p v) (quadrantOf p) := by
  refine ⟨fun f hf => ?_, by rw [enterState_only], by rw [enterState_only]⟩
  have hstate : f.key ≠ (F.PE_STATUS_STATE p).key :=
    ofDevice_key_ne (tableReads_ofDevice _ hp f hf) (by simp only [F.PE_STATUS_STATE, A.PE_STATUS]; omega)
  exact ((traffic_enterState s p v).fields f (tableReads_traffic _ hp f hf)).trans (getF_setF_ne s v hstate)

/-- The plot is Loading; the command in progress and configuration memory stand. -/
theorem loadBegun_facts (hp : quadrantOf p < 4) (hcells : mwf s.cells = true) (hplots : mwf s.plots = true) :
    plotState (loadBegun s p o) p = psLoading ∧ (plotOf (loadBegun s p o) p).load = some o ∧ mwf (loadBegun s p o).plots = true ∧
      CmdKept s (loadBegun s p o) (quadrantOf p) ∧ SameTable s (loadBegun s p o) (quadrantOf p) ∧ LoadFrame s (loadBegun s p o) := by
  have hpage := pageChange_emptied s p o
  have hplot : plotOf (emptied s p o) p = fresh o (plotOf (pageCleared s p) p) :=
    plotOf_modPlot_same (pageCleared s p) ((pageChange_pageCleared s p).plots_wf hplots) p (fresh o)
  unfold loadBegun
  generalize emptied s p o = v at hpage hplot
  obtain ⟨hst, hwf, hwbless, hkept⟩ := enterState_facts hp (v := psLoading) (by decide) (hpage.plots_wf hplots)
  rw [hplot] at hwbless
  exact ⟨hst, congrArg Plot.load hwbless, hwf, (cmdKept_page hp hpage hcells).trans hkept,
    (sameTable_page hp hpage hcells).trans (sameTable_enterState hp _), (loadFrame_page hpage).trans (loadFrame_enterState _ _ _)⟩

/-- The entry is where it was. -/
theorem entryAddr_emptied (hp : quadrantOf p < 4) (hcells : mwf s.cells = true) : entryAddr (emptied s p o) p = entryAddr s p := by
  have htable := sameTable_page hp (pageChange_emptied s p o) hcells
  rw [entryAddr, entryAddr, htable.base]

/-- The entry's read. -/
def entryRead (s : State) (p : Nat) (o : LoadOrigin) : State × Bool := tableRead (loadBegun s p o) (quadrantOf p) (.load p) (entryAddr s p) 256

/-- With configuration memory reached the load waits for its entry. -/
theorem loadStart_of_reached (hp : quadrantOf p < 4) (hcells : mwf s.cells = true) (hplots : mwf s.plots = true)
    (h : tableReached s (quadrantOf p) = true) : loadStart s p o = (entryRead s p o).1 := by
  obtain ⟨-, -, -, -, htable, -⟩ := loadBegun_facts (o := o) hp hcells hplots
  rw [loadStart_eq, tableRead_snd, htable.reached, h, if_pos rfl, entryAddr_emptied hp hcells]
  rfl

/-- Else it fails. -/
theorem loadStart_of_unreached (hp : quadrantOf p < 4) (hcells : mwf s.cells = true) (hplots : mwf s.plots = true)
    (h : tableReached s (quadrantOf p) = false) : loadStart s p o = loadFail (entryRead s p o).1 p 2 := by
  obtain ⟨-, -, -, -, htable, -⟩ := loadBegun_facts (o := o) hp hcells hplots
  rw [loadStart_eq, tableRead_snd, htable.reached, h, if_neg (by decide), entryAddr_emptied hp hcells]
  rfl

/-- A read leaves the plot Loading, and the command in progress. -/
theorem entryRead_facts (hp : quadrantOf p < 4) (hcells : mwf s.cells = true) (hplots : mwf s.plots = true) :
    plotState (entryRead s p o).1 p = psLoading ∧ (plotOf (entryRead s p o).1 p).load = some o ∧ mwf (entryRead s p o).1.plots = true ∧
      CmdKept s (entryRead s p o).1 (quadrantOf p) := by
  obtain ⟨hst, hload, hwf, hkept, -, -⟩ := loadBegun_facts (o := o) hp hcells hplots
  have htraffic : Traffic (loadBegun s p o) (entryRead s p o).1 p := traffic_tableRead _ _ _
  generalize loadBegun s p o = v at hst hload hwf hkept htraffic
  generalize (entryRead s p o).1 = w at htraffic
  obtain ⟨hwf, hplot⟩ := htraffic.plot hwf
  exact ⟨(plotState_of_traffic hp htraffic).trans hst, (congrArg Plot.load hplot).trans hload, hwf, hkept.trans (cmdKept_of_traffic hp htraffic)⟩

theorem readFrame_loadStart (hp : quadrantOf p < 4) (hcells : mwf s.cells = true) (hplots : mwf s.plots = true) :
    ReadFrame s (loadStart s p o) := by
  obtain ⟨-, -, -, -, -, hframe⟩ := loadBegun_facts (o := o) hp hcells hplots
  have hread : ReadFrame s (entryRead s p o).1 := hframe.read.trans (readFrame_tableRead _ _ _ _ _)
  cases h : tableReached s (quadrantOf p) with
  | true =>
    rw [loadStart_of_reached hp hcells hplots h]
    exact hread
  | false =>
    rw [loadStart_of_unreached hp hcells hplots h]
    exact hread.trans (loadFrame_loadFail _ p 2).read

/-- With configuration memory reached the plot is Loading, for an end that the outside or the fabric brings. -/
theorem loadStart_facts (hp : quadrantOf p < 4) (hcells : mwf s.cells = true) (hplots : mwf s.plots = true)
    (h : tableReached s (quadrantOf p) = true) : plotState (loadStart s p o) p = psLoading ∧ (plotOf (loadStart s p o) p).load = some o ∧
      CmdKept s (loadStart s p o) (quadrantOf p) := by
  obtain ⟨hst, hload, -, hkept⟩ := entryRead_facts (o := o) hp hcells hplots
  rw [loadStart_of_reached hp hcells hplots h]
  exact ⟨hst, hload, hkept⟩

/-- Else the plot is Disabled again, and a LOAD command ends NO_ACCESS. -/
theorem loadStart_fails (hp : quadrantOf p < 4) (hcells : mwf s.cells = true) (hplots : mwf s.plots = true) (hquads : mwf s.quads = true)
    (h : tableReached s (quadrantOf p) = false) : plotState (loadStart s p o) p = psDisabled ∧ CmdEnds s (loadStart s p o) p 1 2 := by
  obtain ⟨-, -, hwf, hkept⟩ := entryRead_facts (o := o) hp hcells hplots
  obtain ⟨hst, -, hends⟩ := loadFail_facts (r := 2) hp (by decide) hwf hquads hkept
  rw [loadStart_of_unreached hp hcells hplots h]
  exact ⟨hst, hends⟩

/-! ### The registers of the device -/

/-- The registers of the device stand, but for those that show the traffic of quadrant q and the end of its command. -/
def DeviceKept (s t : State) (q : Nat) : Prop :=
  ∀ g, OfDevice g → (∀ f ∈ F.PLT_CMD_STATUS_RESULT q :: F.PLT_CMD_STATUS_BUSY q :: trafficFields q, g.key ≠ f.key) → getF t g = getF s g

theorem DeviceKept.trans (h : DeviceKept s t q) (h' : DeviceKept t u q) : DeviceKept s u q :=
  fun g hg hkeys => (h' g hg hkeys).trans (h g hg hkeys)

theorem deviceKept_of_cells (h : t.cells = s.cells) : DeviceKept s t q := fun g _ _ => getF_congr h g

theorem deviceKept_page (h : PageChange s t) (hcells : mwf s.cells = true) : DeviceKept s t q := fun g hg _ => (h.device hcells).2 g hg

theorem deviceKept_traffic (h : Traffic s t p) : DeviceKept s t (quadrantOf p) :=
  fun g _ hkeys => h.fields g fun f hf => hkeys f (List.mem_cons_of_mem _ (List.mem_cons_of_mem _ hf))

theorem deviceKept_enterState (s : State) (p v : Nat) : DeviceKept s (enterState s p v) (quadrantOf p) := by
  have hstate : DeviceKept s (setF s (F.PE_STATUS_STATE p) v) (quadrantOf p) := fun g hg _ =>
    getF_setF_ne s v (ofDevice_key_ne hg (by simp only [F.PE_STATUS_STATE, A.PE_STATUS]; omega))
  exact hstate.trans (deviceKept_traffic (traffic_enterState s p v))

theorem deviceKept_loadFail (s : State) (p r : Nat) : DeviceKept s (loadFail s p r) (quadrantOf p) := by
  have hleft : DeviceKept s (plotLeft s p) (quadrantOf p) := by
    unfold plotLeft
    split_ifs
    · exact deviceKept_of_cells rfl
    · exact deviceKept_enterState s p _
  have hquit (u : State) : DeviceKept u (tableQuit u p) (quadrantOf p) := deviceKept_of_cells rfl
  have hreset (u : State) : DeviceKept u (memReset u p) (quadrantOf p) := fun g hg _ =>
    fieldsBut_resetFields u _ g fun f hf => ofDevice_key_ne hg (memFields_addr hf).2
  have hunload (u : State) : DeviceKept u (modPlot u p unloaded) (quadrantOf p) := deviceKept_of_cells rfl
  have hover (u : State) : DeviceKept u (loadOver u p r) (quadrantOf p) := fun g _ hkeys =>
    fieldsBut_trans (fieldsBut_congr rfl (fieldsBut_refl u _)) (fieldsBut_pltEnd (s := loadEnded u p) (op := 1)) g fun f hf => hkeys f (by
      simp only [List.mem_cons, List.not_mem_nil, or_false] at hf ⊢
      tauto)
  rw [loadFail_eq, plotDisable_eq]
  exact (((hleft.trans (hquit _)).trans (hreset _)).trans (hunload _)).trans (hover _)

theorem deviceKept_loadStart (hp : quadrantOf p < 4) (hcells : mwf s.cells = true) (hplots : mwf s.plots = true) :
    DeviceKept s (loadStart s p o) (quadrantOf p) := by
  have hbegun : DeviceKept s (loadBegun s p o) (quadrantOf p) :=
    (deviceKept_page (pageChange_emptied s p o) hcells).trans (deviceKept_enterState (emptied s p o) p psLoading)
  have hread : DeviceKept s (entryRead s p o).1 (quadrantOf p) := hbegun.trans (deviceKept_traffic (traffic_tableRead _ _ _))
  cases h : tableReached s (quadrantOf p) with
  | true =>
    rw [loadStart_of_reached hp hcells hplots h]
    exact hread
  | false =>
    rw [loadStart_of_unreached hp hcells hplots h]
    exact hread.trans (deviceKept_loadFail _ p 2)

/-! ### Where the entry is read -/

/-- In host memory. -/
theorem out_loadStart (hp : quadrantOf p < 4) (hcells : mwf s.cells = true) (hplots : mwf s.plots = true)
    (h : tableReached s (quadrantOf p) = true) (ht : bitF s (F.PLT_TABLE_BASE_TARGET (quadrantOf p)) = false) :
    (loadStart s p o).out = .tableRead (quadrantOf p) (entryAddr s p) 256 :: s.out := by
  obtain ⟨-, -, -, -, htable, hframe⟩ := loadBegun_facts (o := o) hp hcells hplots
  rw [loadStart_of_reached hp hcells hplots h, entryRead, tableRead_of_host _ _ _ (htable.opened.trans (tableOpen_of_reached h)) (htable.target.trans ht)]
  unfold LoadFrame at hframe
  rw [hframe]
  rfl

/-- At the fabric node. -/
theorem tableAsked_loadStart (hp : quadrantOf p < 4) (hcells : mwf s.cells = true) (hplots : mwf s.plots = true) (hquads : mwf s.quads = true)
    (h : tableReached s (quadrantOf p) = true) (ht : bitF s (F.PLT_TABLE_BASE_TARGET (quadrantOf p)) = true) :
    tableAsked (loadStart s p o) (quadrantOf p) (.load p) = true := by
  obtain ⟨-, -, -, hkept, htable, -⟩ := loadBegun_facts (o := o) hp hcells hplots
  obtain ⟨hwf, -, -⟩ := hkept hquads
  rw [loadStart_of_reached hp hcells hplots h]
  exact tableAsked_tableRead hwf (htable.target.trans ht) (htable.reached.trans h)

end Sys2Proof.Proofs.LoadStarts
end

section
/-!
SUPPORT. A write of GRF_WIN_CMD (R90, R91): the registers that show it, the quadrant's queue of commits, and the first checks.
-/
namespace Sys2Proof.Proofs.WindowCommands
open Sys2Proof.Machine Sys2Proof.Proofs.Fields Sys2Proof.Proofs.EntryFields Sys2Proof.Proofs.ConfigTable

variable {s t v : State} {q : Nat} {who : Party} {w i : Nat} {drain b : Bool} {c : WinCommit}

/-! ### The registers -/

/-- What a command writes into GRF_WIN_STATUS of its bank. -/
def winShown (b : Bool) (q : Nat) : List Fld :=
  [bankF b (F.GRF_WIN_STATUS_BUSY q), bankF b (F.GRF_WIN_STATUS_WINDOW q), bankF b (F.GRF_WIN_STATUS_INDEX q)]

theorem winShown_ofDevice : ∀ (q : Fin 4) (b : Bool), ∀ f ∈ winShown b q, OfDevice f := by
  unfold OfDevice
  decide +kernel

theorem winShown_tableReads : ∀ (q : Fin 4) (b : Bool), ∀ g ∈ tableReads q, ∀ f ∈ winShown b q, g.key ≠ f.key := by decide +kernel

theorem winShown_stage : ∀ (q : Fin 4) (b : Bool), ∀ k < 8, ∀ f ∈ winShown b q, (bankF b (F.GRF_STAGE_V q k)).key ≠ f.key := by decide +kernel

theorem winShown_traffic : ∀ (q : Fin 4) (b : Bool), ∀ g ∈ winShown b q, ∀ f ∈ trafficFields q, g.key ≠ f.key := by decide +kernel

theorem bankF_key_ne {f g : Fld} (h : f.lo ≠ g.lo) (ha : f.addr = g.addr) : (bankF b f).key ≠ (bankF b g).key := by
  cases b <;> simp only [bankF, Fld.key, ha, Bool.false_eq_true, if_false, if_true] <;> omega

/-- The state with the command shown. -/
def winNamed (s : State) (q : Nat) (b : Bool) (w i : Nat) : State :=
  setF (setF (setF s (bankF b (F.GRF_WIN_STATUS_WINDOW q)) w) (bankF b (F.GRF_WIN_STATUS_INDEX q)) i) (bankF b (F.GRF_WIN_STATUS_BUSY q)) 1

theorem fieldsBut_winNamed : FieldsBut s (winNamed s q b w i) (winShown b q) :=
  fieldsBut_setF _ (by simp [winShown]) (fieldsBut_setF _ (by simp [winShown]) (fieldsBut_setF _ (by simp [winShown]) (fieldsBut_refl s _)))

theorem bankF_w (f : Fld) : (bankF b f).w = f.w := by cases b <;> rfl

theorem winNamed_shows (hw : w < 64) (hi : i < 1024) :
    bitF (winNamed s q b w i) (bankF b (F.GRF_WIN_STATUS_BUSY q)) = true ∧ getF (winNamed s q b w i) (bankF b (F.GRF_WIN_STATUS_WINDOW q)) = w ∧
      getF (winNamed s q b w i) (bankF b (F.GRF_WIN_STATUS_INDEX q)) = i := by
  have hwidx : (bankF b (F.GRF_WIN_STATUS_WINDOW q)).key ≠ (bankF b (F.GRF_WIN_STATUS_INDEX q)).key := bankF_key_ne (show 10 ≠ 0 by decide) rfl
  have hwbusy : (bankF b (F.GRF_WIN_STATUS_WINDOW q)).key ≠ (bankF b (F.GRF_WIN_STATUS_BUSY q)).key := bankF_key_ne (show 10 ≠ 63 by decide) rfl
  have hibusy : (bankF b (F.GRF_WIN_STATUS_INDEX q)).key ≠ (bankF b (F.GRF_WIN_STATUS_BUSY q)).key := bankF_key_ne (show 0 ≠ 63 by decide) rfl
  unfold winNamed
  refine ⟨bitF_setF_one _ (bankF_w _), ?_, ?_⟩
  · rw [getF_setF_ne _ _ hwbusy, getF_setF_ne _ _ hwidx, getF_setF_same, bankF_w]
    exact Nat.mod_eq_of_lt hw
  · rw [getF_setF_ne _ _ hibusy, getF_setF_same, bankF_w]
    exact Nat.mod_eq_of_lt hi

/-- The command that a bank's staged entry makes. -/
def commandOf (s : State) (q : Nat) (b : Bool) (w i : Nat) (drain : Bool) : WinCommit :=
  { hostBank := b, index := i, win := w, drain := drain, staged := stagedWindow s q b }

theorem stagedWindow_winNamed (q : Fin 4) : stagedWindow (winNamed s q b w i) q b = stagedWindow s q b := by
  have hstage : ((List.range 8).flatMap fun k => leBytes 8 (getF (winNamed s q b w i) (bankF b (F.GRF_STAGE_V q k)))) =
      (List.range 8).flatMap fun k => leBytes 8 (getF s (bankF b (F.GRF_STAGE_V q k))) := by
    refine List.flatMap_congr fun k hk => ?_
    rw [fieldsBut_winNamed _ (winShown_stage q b k (List.mem_range.1 hk))]
  rw [stagedWindow, stagedWindow, hstage]

/-! ### The queue of commits -/

theorem commitNext_of_running (h : (quadOf s q).commit = some c) (n : Nat) : commitNext s q n = s := by
  cases n with
  | zero => rfl
  | succ n => simp [commitNext, h]

theorem commitNext_of_empty (h : (quadOf s q).commitQ = []) (n : Nat) : commitNext s q n = s := by
  cases n with
  | zero => rfl
  | succ n => cases hc : (quadOf s q).commit <;> simp [commitNext, h, hc]

theorem commitNext_of_idle {cs : List WinCommit} (h : (quadOf s q).commit = none) (hq : (quadOf s q).commitQ = c :: cs) (n : Nat) :
    commitNext s q (n + 1) = commitNext (commitBegin (modQuad s q fun x => { x with commitQ := cs }) q c) q n := by simp [commitNext, h, hq]

/-- The state with the command shown and in its quadrant's queue. -/
def winQueued (s : State) (q : Nat) (b : Bool) (w i : Nat) (drain : Bool) : State :=
  modQuad (winNamed s q b w i) q fun x => { x with commitQ := x.commitQ ++ [commandOf s q b w i drain] }

theorem winCmd_closed (h : regOpen s who (A.GRF_WIN_CMD q) = false) : winCmd s q who drain w i = s := by simp [winCmd, h]

theorem winCmd_busy (h : regOpen s who (A.GRF_WIN_CMD q) = true) (hb : bitF s (bankF (isHost who) (F.GRF_WIN_STATUS_BUSY q)) = true) :
    winCmd s q who drain w i = raise (setF s (bankF (isHost who) (F.GRF_WIN_STATUS_OVERRUN q)) 1) (1220 + q) := by simp [winCmd, h, hb]

theorem winCmd_taken (q : Fin 4) (h : regOpen s who (A.GRF_WIN_CMD q) = true) (hb : bitF s (bankF (isHost who) (F.GRF_WIN_STATUS_BUSY q)) = false) :
    winCmd s q who drain w i = commitNext (winQueued s q (isHost who) w i drain) q 3 := by
  rw [winQueued, commandOf, ← stagedWindow_winNamed (w := w) (i := i) q]
  simp [winCmd, h, hb, winNamed]

/-- The command is shown, and its quadrant is as it was. -/
structure Begun (s v : State) (q : Nat) (b : Bool) (w i : Nat) : Prop where
  only : v = { s with cells := v.cells, quads := v.quads }
  cells : v.cells = (winNamed s q b w i).cells
  quad : quadOf v q = quadOf s q
  quads_wf : mwf v.quads = true

/-- With no commit in the quadrant the command begins at once. -/
theorem winCmd_begins (q : Fin 4) (hwf : mwf s.quads = true) (h : regOpen s who (A.GRF_WIN_CMD q) = true)
    (hb : bitF s (bankF (isHost who) (F.GRF_WIN_STATUS_BUSY q)) = false) (hcommit : (quadOf s q).commit = none) (hqueue : (quadOf s q).commitQ = []) :
    ∃ v, Begun s v q (isHost who) w i ∧
      winCmd s q who drain w i = commitNext (commitBegin v q (commandOf s q (isHost who) w i drain)) q 2 := by
  have hqueued : quadOf (winQueued s q (isHost who) w i drain) q = { quadOf s q with commitQ := [commandOf s q (isHost who) w i drain] } := by
    refine (quadOf_modQuad_same (winNamed s q (isHost who) w i) hwf _ _).trans ?_
    simp [winNamed, hqueue]
  have hwf' : mwf (winQueued s q (isHost who) w i drain).quads = true := mwf_mset _ _ _ hwf
  refine ⟨modQuad (winQueued s q (isHost who) w i drain) q fun x => { x with commitQ := [] }, ⟨rfl, rfl, ?_, mwf_mset _ _ _ hwf'⟩, ?_⟩
  · rw [quadOf_modQuad_same (h := hwf'), hqueued, ← hqueue]
  · rw [winCmd_taken q h hb]
    exact commitNext_of_idle (by rw [hqueued]; exact hcommit) (by rw [hqueued]) 2

section Begun
variable {q : Fin 4} (h : Begun s v q b w i)
include h

theorem Begun.fields : FieldsBut s v (winShown b q) := fieldsBut_congr h.cells fieldsBut_winNamed

theorem Begun.entry {g : Fld} (hg : 0x100000000 ≤ g.addr) : getF v g = getF s g := getF_of_device h.fields (winShown_ofDevice q b) hg

theorem Begun.sameTable : SameTable s v q :=
  ⟨fun g hg => h.fields g (winShown_tableReads q b g hg), by rw [h.only], by rw [h.only]⟩

theorem Begun.shows (hw : w < 64) (hi : i < 1024) :
    bitF v (bankF b (F.GRF_WIN_STATUS_BUSY q)) = true ∧ getF v (bankF b (F.GRF_WIN_STATUS_WINDOW q)) = w ∧
      getF v (bankF b (F.GRF_WIN_STATUS_INDEX q)) = i := by
  have hsame (f : Fld) : getF v f = getF (winNamed s q b w i) f := getF_congr h.cells f
  rw [bitF_congr (hsame _), hsame, hsame]
  exact winNamed_shows hw hi

theorem Begun.plotState (p : Nat) : plotState v p = plotState s p := h.entry (by simp only [F.PE_STATUS_STATE, A.PE_STATUS]; omega)

theorem Begun.windowInUse (p k : Nat) : windowInUse v p k = windowInUse s p k := by
  have hout : getF v (F.PE_WINDOWS_OUT_COUNT p) = getF s (F.PE_WINDOWS_OUT_COUNT p) := h.entry (by simp only [F.PE_WINDOWS_OUT_COUNT, A.PE_WINDOWS]; omega)
  have hin : getF v (F.PE_WINDOWS_IN_COUNT p) = getF s (F.PE_WINDOWS_IN_COUNT p) := h.entry (by simp only [F.PE_WINDOWS_IN_COUNT, A.PE_WINDOWS]; omega)
  rw [Machine.windowInUse, Machine.windowInUse, hout, hin]

theorem Begun.windowCount (p : Nat) (d : Bool) : windowCount v p d = windowCount s p d := by
  have hout : getF v (F.PE_WINDOWS_OUT_COUNT p) = getF s (F.PE_WINDOWS_OUT_COUNT p) := h.entry (by simp only [F.PE_WINDOWS_OUT_COUNT, A.PE_WINDOWS]; omega)
  have hin : getF v (F.PE_WINDOWS_IN_COUNT p) = getF s (F.PE_WINDOWS_IN_COUNT p) := h.entry (by simp only [F.PE_WINDOWS_IN_COUNT, A.PE_WINDOWS]; omega)
  rw [Machine.windowCount, Machine.windowCount, hout, hin]

theorem Begun.windowAddr (p k : Nat) : windowAddr v p k = windowAddr s p k := by
  rw [Machine.windowAddr, Machine.windowAddr, h.entry (g := F.PE_WINDOWS_BASE p) (by simp only [F.PE_WINDOWS_BASE, A.PE_WINDOWS]; omega)]

end Begun

/-! ### The first checks (R91) -/

/-- Commands are accepted in these states. -/
def acceptsCommit (st : Nat) : Bool := st == psServing || st == psHeld || st == psFaulted

theorem commitBegin_state (h : acceptsCommit (plotState s (q * 1024 + c.index)) = false) : commitBegin s q c = commitEnd s q c 2 := by
  unfold acceptsCommit at h
  simp [commitBegin, h]

theorem commitBegin_count (h : acceptsCommit (plotState s (q * 1024 + c.index)) = true) (hw : windowInUse s (q * 1024 + c.index) c.win = false) :
    commitBegin s q c = commitEnd s q c 3 := by
  unfold acceptsCommit at h
  simp [commitBegin, h, hw]

theorem commitBegin_closed (h : acceptsCommit (plotState s (q * 1024 + c.index)) = true) (hw : windowInUse s (q * 1024 + c.index) c.win = true)
    (ht : tableOpen s q = false) : commitBegin s q c = commitEnd s q c 10 := by
  unfold acceptsCommit at h
  simp [commitBegin, h, hw, tableRead_of_closed _ _ _ ht]

/-- The read of the half of a plot's windows that a command's window is in. -/
def halfRead (s : State) (q : Nat) (c : WinCommit) : State × Bool :=
  tableRead s q .commitRead (windowAddr s (q * 1024 + c.index) (dirBase c.dirIn)) (64 * windowCount s (q * 1024 + c.index) c.dirIn)

/-- A commit of the quadrant runs. -/
def commitStarted (s : State) (q : Nat) (c : WinCommit) : State := modQuad s q fun x => { x with commit := some c }

theorem commitBegin_reads (h : acceptsCommit (plotState s (q * 1024 + c.index)) = true) (hw : windowInUse s (q * 1024 + c.index) c.win = true)
    (ht : tableReached s q = true) : commitBegin s q c = commitStarted (halfRead s q c).1 q { c with stage := .reading } := by
  have hread : (halfRead s q c).2 = true := (tableRead_snd _ _ _).trans ht
  unfold acceptsCommit at h
  unfold halfRead at hread ⊢
  simp only [commitBegin, h, hw, Bool.not_true, Bool.false_eq_true, if_false]
  split
  · next heq =>
    rw [heq]
    rfl
  · next heq =>
    rw [heq] at hread
    cases hread

theorem mwf_quads_halfRead (h : mwf s.quads = true) : mwf (halfRead s q c).1.quads = true := mwf_quads_tableRead _ _ _ h

theorem quadOf_commitStarted (h : mwf s.quads = true) : quadOf (commitStarted s q c) q = { quadOf s q with commit := some c } :=
  quadOf_modQuad_same s h q _

/-- A command that is refused leaves the quadrant without a commit, and its bank with the RESULT. -/
theorem commitEnd_facts {r : Nat} (hwf : mwf s.quads = true) (hr : r < 16) :
    getF (commitEnd s q c r) (bankF c.hostBank (F.GRF_WIN_STATUS_RESULT q)) = r ∧
      bitF (commitEnd s q c r) (bankF c.hostBank (F.GRF_WIN_STATUS_BUSY q)) = false ∧
      ((quadOf (commitEnd s q c r) q).commit = none ∧ (quadOf (commitEnd s q c r) q).commitQ = (quadOf s q).commitQ ∧
        (quadOf (commitEnd s q c r) q).lines = (quadOf s q).lines) ∧
      commitEnd s q c r = { s with cells := (commitEnd s q c r).cells, quads := (commitEnd s q c r).quads } := by
  have hkey : (bankF c.hostBank (F.GRF_WIN_STATUS_RESULT q)).key ≠ (bankF c.hostBank (F.GRF_WIN_STATUS_BUSY q)).key :=
    bankF_key_ne (show 28 ≠ 63 by decide) rfl
  refine ⟨?_, ?_, ?_, rfl⟩
  · change getF (setF (setF s _ r) _ 0) _ = r
    rw [getF_setF_ne _ _ hkey, getF_setF_same, bankF_w]
    exact Nat.mod_eq_of_lt hr
  · exact bitF_setF_zero (setF s _ r)
  · have hshown : mwf (setF (setF s (bankF c.hostBank (F.GRF_WIN_STATUS_RESULT q)) r) (bankF c.hostBank (F.GRF_WIN_STATUS_BUSY q)) 0).quads = true := hwf
    obtain ⟨hread, hquad⟩ := quadOf_tableDrop .commitRead q hshown
    obtain ⟨hwritten, hquad'⟩ := quadOf_tableDrop .commitWrite q hread
    have hend := quadOf_modQuad_same _ hwritten q fun x => { x with commit := none }
    rw [hquad', hquad] at hend
    exact ⟨(congrArg Quad.commit hend).trans rfl, (congrArg Quad.commitQ hend).trans rfl, (congrArg Quad.lines hend).trans rfl⟩

end Sys2Proof.Proofs.WindowCommands
end

section
/-!
CLAIM. GRF_WIN_CMD starts a window command, waits for one that runs, or is refused (R90, R91, R101).
-/
namespace Sys2Proof.Proofs.WindowCommandStarts
open Sys2Proof.Machine Sys2Proof.Proofs.Fields Sys2Proof.Proofs.CanonicalForm Sys2Proof.Proofs.EntryFields Sys2Proof.Proofs.ConfigTable
open Sys2Proof.Proofs.WindowCommands

variable {s t v : State} {q : Fin 4} {who : Party} {w : Fin 64} {i : Fin 1024} {drain : Bool}

theorem exec_windowCommand (s : State) (q : Fin 4) (who : Party) (w : Fin 64) (i : Fin 1024) (drain : Bool) :
    exec (if drain then .windowDrainCommit q who w i else .windowCommit q who w i) s = .next (winCmd s q who drain w i) := by
  cases drain <;> rfl

/-- No commit of the quadrant runs or waits, and a bank that is not BUSY takes the command. -/
structure Idle (s : State) (q : Fin 4) (who : Party) : Prop where
  wf : s.wf = true
  taken : regOpen s who (A.GRF_WIN_CMD q) = true
  bank : bitF s (bankF (isHost who) (F.GRF_WIN_STATUS_BUSY q)) = false
  commit : (quadOf s q).commit = none
  queue : (quadOf s q).commitQ = []

/-! ### Commands that read the table -/

theorem acceptsCommit_of (h : plotState s (q * 1024 + i) = psServing ∨ plotState s (q * 1024 + i) = psHeld ∨ plotState s (q * 1024 + i) = psFaulted) :
    acceptsCommit (plotState s (q * 1024 + i)) = true := by
  rcases h with h | h | h <;> rw [h] <;> rfl

/-- The command of an idle quadrant reads the table, and runs. -/
theorem winCmd_reads (hidle : Idle s q who) (hst : acceptsCommit (plotState s (q * 1024 + i)) = true) (hw : windowInUse s (q * 1024 + i) w = true)
    (ht : tableReached s q = true) : ∃ v, Begun s v q (isHost who) w i ∧
      winCmd s q who drain w i =
        commitStarted (halfRead v q (commandOf s q (isHost who) w i drain)).1 q (commandOf s q (isHost who) w i drain) := by
  obtain ⟨v, hv, heq⟩ := winCmd_begins (w := w) (i := i) (drain := drain) q (mwf_quads_of_wf hidle.wf) hidle.taken hidle.bank hidle.commit hidle.queue
  have hreads : commitBegin v q (commandOf s q (isHost who) w i drain) =
      commitStarted (halfRead v q (commandOf s q (isHost who) w i drain)).1 q (commandOf s q (isHost who) w i drain) :=
    commitBegin_reads ((congrArg _ (hv.plotState _)).trans hst) ((hv.windowInUse _ _).trans hw) (hv.sameTable.reached.trans ht)
  refine ⟨v, hv, heq.trans ?_⟩
  rw [hreads]
  exact commitNext_of_running (congrArg Quad.commit (quadOf_commitStarted (mwf_quads_halfRead hv.quads_wf))) 2

/-- R91: a host read of the window's half starts. -/
theorem hostRead_runs (hidle : Idle s q who) (hst : acceptsCommit (plotState s (q * 1024 + i)) = true)
    (hw : windowInUse s (q * 1024 + i) w = true) (ht : tableOpen s q = true) (htarget : bitF s (F.PLT_TABLE_BASE_TARGET q) = false) :
    Runs (if drain then .windowDrainCommit q who w i else .windowCommit q who w i) s fun t =>
      (quadOf t q).commit = some (commandOf s q (isHost who) w i drain) ∧
      t.out = .tableRead q (windowAddr s (q * 1024 + i) (dirBase (decide (32 ≤ w.val)))) (64 * windowCount s (q * 1024 + i) (decide (32 ≤ w.val))) :: s.out ∧
      bitF t (bankF (isHost who) (F.GRF_WIN_STATUS_BUSY q)) = true ∧ getF t (bankF (isHost who) (F.GRF_WIN_STATUS_WINDOW q)) = w.val ∧
      getF t (bankF (isHost who) (F.GRF_WIN_STATUS_INDEX q)) = i.val ∧ t = { s with cells := t.cells, quads := t.quads, out := t.out } ∧
      FieldsBut s t (winShown (isHost who) q) := by
  have hreached : tableReached s q = true := by simp [tableReached, ht, htarget]
  obtain ⟨v, hv, heq⟩ := winCmd_reads (drain := drain) hidle hst hw hreached
  have hread : halfRead v q (commandOf s q (isHost who) w i drain) = (emit v (.tableRead q (windowAddr s (q * 1024 + i) (dirBase (decide (32 ≤ w.val))))
      (64 * windowCount s (q * 1024 + i) (decide (32 ≤ w.val)))), true) := by
    rw [halfRead, hv.windowAddr, hv.windowCount]
    exact tableRead_of_host _ _ _ (hv.sameTable.opened.trans ht) (hv.sameTable.target.trans htarget)
  rw [hread] at heq
  obtain ⟨hbusy, hwindow, hindex⟩ := hv.shows w.isLt i.isLt
  have honly := hv.only
  refine ⟨_, (exec_windowCommand s q who w i drain).trans (congrArg _ heq), ?_, ?_, hbusy, hwindow, hindex, ?_, fieldsBut_congr rfl hv.fields⟩
  · exact congrArg Quad.commit (quadOf_commitStarted (s := emit v _) hv.quads_wf)
  · rw [honly]
    rfl
  · rw [honly]
    rfl

/-- R43, R91: a fabric Read of the window's half goes to PLT_TABLE_NODE. -/
theorem fabricRead_runs (hidle : Idle s q who) (hst : acceptsCommit (plotState s (q * 1024 + i)) = true)
    (hw : windowInUse s (q * 1024 + i) w = true) (ht : tableOpen s q = true) (htarget : bitF s (F.PLT_TABLE_BASE_TARGET q) = true)
    (hroute : (routeOf s (getF s (F.PLT_TABLE_NODE_NODE q)) (myNode s (1 + q)) (some (q * 1024))).2.pga ≠ 20) :
    Runs (if drain then .windowDrainCommit q who w i else .windowCommit q who w i) s fun t =>
      (quadOf t q).commit = some (commandOf s q (isHost who) w i drain) ∧
      mfind (quadOf t q).table (freeTag s q) = some { use := .commitRead, write := false, len := 64 * windowCount s (q * 1024 + i) (decide (32 ≤ w.val)) } ∧
      bitF t (bankF (isHost who) (F.GRF_WIN_STATUS_BUSY q)) = true ∧ t = { s with cells := t.cells, quads := t.quads, pga := t.pga } := by
  have hreached : tableReached s q = true := tableReached_of_route ht htarget hroute
  obtain ⟨v, hv, heq⟩ := winCmd_reads (drain := drain) hidle hst hw hreached
  have hread : halfRead v q (commandOf s q (isHost who) w i drain) = tableSend v q .commitRead .read
      (windowAddr s (q * 1024 + i) (dirBase (decide (32 ≤ w.val)))) (64 * windowCount s (q * 1024 + i) (decide (32 ≤ w.val))) [] := by
    rw [halfRead, hv.windowAddr, hv.windowCount]
    exact tableRead_of_fabric _ _ _ (hv.sameTable.opened.trans ht) (hv.sameTable.target.trans htarget)
  have hsent : (halfRead v q (commandOf s q (isHost who) w i drain)).2 = true := (tableRead_snd _ _ _).trans (hv.sameTable.reached.trans hreached)
  rw [hread] at heq hsent
  obtain ⟨hwf, hquad⟩ := quadOf_tableSend hv.quads_wf hsent
  have hstarted := quadOf_commitStarted (q := q.val) (c := commandOf s q (isHost who) w i drain) hwf
  rw [hquad] at hstarted
  have hbusy : bitF (tableSend v q .commitRead .read (windowAddr s (q * 1024 + i) (dirBase (decide (32 ≤ w.val))))
      (64 * windowCount s (q * 1024 + i) (decide (32 ≤ w.val))) []).1 (bankF (isHost who) (F.GRF_WIN_STATUS_BUSY q)) = true :=
    (bitF_congr (fieldsBut_tableSend _ _ _ _ _ _ (winShown_traffic q (isHost who) _ List.mem_cons_self))).trans (hv.shows w.isLt i.isLt).1
  have honly := hv.only
  refine ⟨_, (exec_windowCommand s q who w i drain).trans (congrArg _ heq), (congrArg Quad.commit hstarted).trans rfl, ?_, hbusy, ?_⟩
  · rw [hstarted]
    simp only [mfind_mput_same, freeTag, hv.quad, sentRequest]
    rfl
  · rw [commitStarted, tableSend_only, honly]
    rfl

/-! ### Commands that are refused (R91) -/

/-- A refused command leaves its RESULT, and the quadrant without a commit. -/
theorem winCmd_ends (hidle : Idle s q who) {r : Nat} (hr : r < 16)
    (hend : ∀ v, Begun s v q (isHost who) w i →
      commitBegin v q (commandOf s q (isHost who) w i drain) = commitEnd v q (commandOf s q (isHost who) w i drain) r) :
    let t := winCmd s q who drain w i
    getF t (bankF (isHost who) (F.GRF_WIN_STATUS_RESULT q)) = r ∧ bitF t (bankF (isHost who) (F.GRF_WIN_STATUS_BUSY q)) = false ∧
      (quadOf t q).commit = none ∧ (quadOf t q).lines = (quadOf s q).lines ∧ t = { s with cells := t.cells, quads := t.quads } := by
  obtain ⟨v, hv, heq⟩ := winCmd_begins (w := w) (i := i) (drain := drain) q (mwf_quads_of_wf hidle.wf) hidle.taken hidle.bank hidle.commit hidle.queue
  obtain ⟨hresult, hbusy, ⟨hcommit, hqueue, hlines⟩, honly⟩ := commitEnd_facts (q := q.val) (c := commandOf s q (isHost who) w i drain) hv.quads_wf hr
  rw [hv.quad] at hqueue hlines
  have hended : winCmd s q who drain w i = commitEnd v q (commandOf s q (isHost who) w i drain) r := by
    rw [heq, hend v hv]
    exact commitNext_of_empty (hqueue.trans hidle.queue) 2
  dsimp only
  rw [hended]
  refine ⟨hresult, hbusy, hcommit, hlines, ?_⟩
  rw [honly, hv.only]

/-- R91: the state of the plot, the use of the window and the reach of configuration memory are checked in this order. -/
theorem refused_runs (s : State) (q : Fin 4) (who : Party) (w : Fin 64) (i : Fin 1024) (drain : Bool) (hidle : Idle s q who) :
    Runs (if drain then .windowDrainCommit q who w i else .windowCommit q who w i) s fun t =>
      (plotState s (q * 1024 + i) = psDisabled ∨ plotState s (q * 1024 + i) = psLoading ∨ plotState s (q * 1024 + i) = psResetting →
        getF t (bankF (isHost who) (F.GRF_WIN_STATUS_RESULT q)) = 2 ∧ bitF t (bankF (isHost who) (F.GRF_WIN_STATUS_BUSY q)) = false) ∧
      (plotState s (q * 1024 + i) = psServing → windowInUse s (q * 1024 + i) w = false →
        getF t (bankF (isHost who) (F.GRF_WIN_STATUS_RESULT q)) = 3 ∧ bitF t (bankF (isHost who) (F.GRF_WIN_STATUS_BUSY q)) = false) ∧
      (plotState s (q * 1024 + i) = psServing → windowInUse s (q * 1024 + i) w = true → tableOpen s q = false →
        getF t (bankF (isHost who) (F.GRF_WIN_STATUS_RESULT q)) = 10 ∧ bitF t (bankF (isHost who) (F.GRF_WIN_STATUS_BUSY q)) = false) ∧
      (windowInUse s (q * 1024 + i) w = false ∨ tableOpen s q = false →
        (quadOf t q).commit = none ∧ (quadOf t q).lines = (quadOf s q).lines ∧ t = { s with cells := t.cells, quads := t.quads }) := by
  have hstate (h : acceptsCommit (plotState s (q * 1024 + i)) = false) := winCmd_ends (w := w) (i := i) (drain := drain) hidle (r := 2) (by decide)
    fun v hv => commitBegin_state ((congrArg _ (hv.plotState _)).trans h)
  have hcount (h : acceptsCommit (plotState s (q * 1024 + i)) = true) (hw : windowInUse s (q * 1024 + i) w = false) :=
    winCmd_ends (w := w) (i := i) (drain := drain) hidle (r := 3) (by decide)
      fun v hv => commitBegin_count ((congrArg _ (hv.plotState _)).trans h) ((hv.windowInUse _ _).trans hw)
  have hclosed (h : acceptsCommit (plotState s (q * 1024 + i)) = true) (hw : windowInUse s (q * 1024 + i) w = true) (ht : tableOpen s q = false) :=
    winCmd_ends (w := w) (i := i) (drain := drain) hidle (r := 10) (by decide)
      fun v hv => commitBegin_closed ((congrArg _ (hv.plotState _)).trans h) ((hv.windowInUse _ _).trans hw) (hv.sameTable.opened.trans ht)
  refine ⟨_, exec_windowCommand s q who w i drain, fun h => ?_, fun h hw => ?_, fun h hw ht => ?_, fun h => ?_⟩
  · obtain ⟨hresult, hbusy, -⟩ := hstate (by rcases h with h | h | h <;> rw [h] <;> rfl)
    exact ⟨hresult, hbusy⟩
  · obtain ⟨hresult, hbusy, -⟩ := hcount (acceptsCommit_of (.inl h)) hw
    exact ⟨hresult, hbusy⟩
  · obtain ⟨hresult, hbusy, -⟩ := hclosed (acceptsCommit_of (.inl h)) hw ht
    exact ⟨hresult, hbusy⟩
  · cases hst : acceptsCommit (plotState s (q * 1024 + i)) with
    | false =>
      obtain ⟨-, -, hends⟩ := hstate hst
      exact hends
    | true =>
      cases hw : windowInUse s (q * 1024 + i) w with
      | false =>
        obtain ⟨-, -, hends⟩ := hcount hst hw
        exact hends
      | true =>
        obtain ⟨-, -, hends⟩ := hclosed hst hw (h.resolve_left (by simp [hw]))
        exact hends

/-! ### Commands that wait, and those that are not taken (R90) -/

theorem overrun_key_ne : ∀ (q : Fin 4) (b : Bool), (bankF b (F.GRF_WIN_STATUS_OVERRUN q)).key ≠ (F.EVG_PEND_PEND 19).key := by decide +kernel

/-- R90: while the bank is BUSY a command only sets OVERRUN. -/
theorem overrun_runs (s : State) (q : Fin 4) (who : Party) (w : Fin 64) (i : Fin 1024) (drain : Bool) (hopen : regOpen s who (A.GRF_WIN_CMD q) = true)
    (hbusy : bitF s (bankF (isHost who) (F.GRF_WIN_STATUS_BUSY q)) = true) :
    Runs (if drain then .windowDrainCommit q who w i else .windowCommit q who w i) s fun t =>
      bitF t (bankF (isHost who) (F.GRF_WIN_STATUS_OVERRUN q)) = true ∧ Pending t (1220 + q) ∧ OnlyCells s t ∧
      FieldsBut s t [bankF (isHost who) (F.GRF_WIN_STATUS_OVERRUN q), F.EVG_PEND_PEND 19] := by
  have hsource : (1220 + q.val) / 64 = 19 := by omega
  refine ⟨_, (exec_windowCommand s q who w i drain).trans (congrArg _ (winCmd_busy hopen hbusy)), ?_, ?_, ?_, ?_⟩
  · rw [bitF_congr (getF_raise_ne _ _ (by rw [hsource]; exact overrun_key_ne q _))]
    exact bitF_setF_one s (bankF_w _)
  · refine pending_raise _ ?_
    have := q.isLt
    unfold evgLevel
    rw [if_neg (by omega)]
    simp
    omega
  · exact (raise_only _ _).trans rfl
  · exact fieldsBut_raise _ (by rw [hsource]; simp) (fieldsBut_setF _ (by simp) (fieldsBut_refl s _))

/-- R91: while another commit runs the command waits for it. -/
theorem waits_runs (s : State) (q : Fin 4) (who : Party) (w : Fin 64) (i : Fin 1024) (drain : Bool) (c : WinCommit) (hwf : s.wf = true)
    (hopen : regOpen s who (A.GRF_WIN_CMD q) = true) (hbusy : bitF s (bankF (isHost who) (F.GRF_WIN_STATUS_BUSY q)) = false)
    (hcommit : (quadOf s q).commit = some c) :
    Runs (if drain then .windowDrainCommit q who w i else .windowCommit q who w i) s fun t =>
      (quadOf t q).commit = some c ∧ bitF t (bankF (isHost who) (F.GRF_WIN_STATUS_BUSY q)) = true ∧ t = { s with cells := t.cells, quads := t.quads } ∧
      (quadOf t q).commitQ =
        (quadOf s q).commitQ ++ [{ hostBank := isHost who, index := i, win := w, drain := drain, staged := stagedWindow s q (isHost who) }] := by
  have hquads : mwf s.quads = true := mwf_quads_of_wf hwf
  have hqueued : quadOf (winQueued s q (isHost who) w i drain) q =
      { quadOf s q with commitQ := (quadOf s q).commitQ ++ [commandOf s q (isHost who) w i drain] } :=
    quadOf_modQuad_same (winNamed s q (isHost who) w i) hquads q _
  have hcommit' : (quadOf (winQueued s q (isHost who) w i drain) q).commit = some c := by rw [hqueued]; exact hcommit
  have heq : winCmd s q who drain w i = winQueued s q (isHost who) w i drain :=
    (winCmd_taken q hopen hbusy).trans (commitNext_of_running hcommit' 3)
  refine ⟨_, (exec_windowCommand s q who w i drain).trans (congrArg _ heq), hcommit', ?_, rfl, congrArg Quad.commitQ hqueued⟩
  exact (winNamed_shows w.isLt i.isLt).1

/-- R43: a command from behind a closed register page changes nothing. -/
theorem closed_leaves (s : State) (q : Fin 4) (who : Party) (w : Fin 64) (i : Fin 1024) (drain : Bool)
    (hclosed : regOpen s who (A.GRF_WIN_CMD q) = false) : Leaves (if drain then .windowDrainCommit q who w i else .windowCommit q who w i) s :=
  (exec_windowCommand s q who w i drain).trans (congrArg _ (winCmd_closed hclosed))

/-- Settles O20: the clauses are the rules of a command's start, of its wait and of its refusals above. -/
theorem windowCommandsStart : Obligations.WindowCommandsStart :=
  ⟨fun _ _ _ _ _ _ hwf hopen hbusy hcommit hqueue hst hw ht htarget =>
      hostRead_runs ⟨hwf, hopen, hbusy, hcommit, hqueue⟩ (acceptsCommit_of hst) hw ht htarget,
    overrun_runs,
    fun s q who w i drain hwf hopen hbusy hcommit hqueue => refused_runs s q who w i drain ⟨hwf, hopen, hbusy, hcommit, hqueue⟩,
    fun _ _ _ _ _ _ hwf hopen hbusy hcommit hqueue hst hw ht htarget hroute =>
      fabricRead_runs ⟨hwf, hopen, hbusy, hcommit, hqueue⟩ (acceptsCommit_of hst) hw ht htarget hroute,
    waits_runs, closed_leaves⟩

end Sys2Proof.Proofs.WindowCommandStarts
end

section
/-!
CLAIM. A plot LOAD takes a usable PlotEntry and otherwise leaves the plot Disabled (R54, R65, R66).
-/
namespace Sys2Proof.Proofs.PlotLoading
open Sys2Proof.Machine Sys2Proof.Proofs.Fields Sys2Proof.Proofs.CanonicalForm Sys2Proof.Proofs.EntryFields Sys2Proof.Proofs.ConfigTable
open Sys2Proof.Proofs.Writebacks Sys2Proof.Proofs.PlotCommands Sys2Proof.Proofs.Loads Sys2Proof.Proofs.LoadStarts

variable {s t : State}

/-! ### LOAD starts -/

theorem exec_plotLoad {q : Fin 4} {who : Party} {i : Fin 1024} (h : PltTaken s q who i) (hst : plotState s (q * 1024 + i) = psDisabled)
    (hmode : pwmMode s ≠ moBoot) : exec (.plotLoad q who i) s = .next (loadStart (cmdStarted s q 1 i) (q * 1024 + i) .command) := by
  have hacc : pltAccepts (pwmMode s == moBoot) 1 (plotState s (q * 1024 + i)) = true := by simp [pltAccepts, hst, hmode]
  exact congrArg Host.Outcome.next (pltCmd_taken q.isLt h hacc)

/-- R54, R66: a LOAD that is taken makes the plot Loading and reads its entry, or ends NO_ACCESS. -/
theorem load_runs (s : State) (q : Fin 4) (who : Party) (i : Fin 1024) (hwf : s.wf = true) (h : PltTaken s q who i)
    (hst : plotState s (q * 1024 + i) = psDisabled) (hmode : pwmMode s ≠ moBoot) :
    Runs (.plotLoad q who i) s fun t =>
      (tableReached s q = false →
        plotState t (q * 1024 + i) = psDisabled ∧ getF t (F.PLT_CMD_STATUS_RESULT q) = 2 ∧ bitF t (F.PLT_CMD_STATUS_BUSY q) = false) ∧
      (tableReached s q = true → bitF s (F.PLT_TABLE_BASE_TARGET q) = false → t.out = .tableRead q (entryAddr s (q * 1024 + i)) 256 :: s.out) ∧
      (tableReached s q = true → bitF s (F.PLT_TABLE_BASE_TARGET q) = true → tableAsked t q (.load (q * 1024 + i)) = true) ∧
      (tableReached s q = true →
        plotState t (q * 1024 + i) = psLoading ∧ (plotOf t (q * 1024 + i)).load = some .command ∧
          bitF t (F.PLT_CMD_STATUS_BUSY q) = true ∧ (quadOf t q).plt = some ⟨1, i⟩) ∧
      t = { s with cells := t.cells, plots := t.plots, quads := t.quads, ports := t.ports, pga := t.pga, out := t.out } := by
  have hquadrant := quadrantOf_index q.val i
  have hindex := indexOf_index q.val i
  have hq : quadrantOf (q * 1024 + i) < 4 := by rw [hquadrant]; exact q.isLt
  have hcells : mwf (cmdStarted s q 1 i).cells = true := mwf_mput _ _ (mwf_mput _ _ (mwf_mput _ _ (mwf_cells_of_wf hwf)))
  have hplots := mwf_plots_of_wf hwf
  have hplots : mwf (cmdStarted s q 1 i).plots = true := hplots
  have hquads : mwf (cmdStarted s q 1 i).quads = true := mwf_quads_cmdStarted (mwf_quads_of_wf hwf)
  have hplt : (quadOf (cmdStarted s q 1 i) q).plt = some ⟨1, i⟩ := congrArg Quad.plt (quadOf_cmdStarted (mwf_quads_of_wf hwf))
  have hbusy : bitF (cmdStarted s q 1 i) (F.PLT_CMD_STATUS_BUSY q) = true := busy_cmdStarted
  have htable : SameTable s (cmdStarted s q 1 i) q := sameTable_cmdStarted q.isLt
  have haddr : entryAddr (cmdStarted s q 1 i) (q * 1024 + i) = entryAddr s (q * 1024 + i) := by
    rw [entryAddr, entryAddr, hquadrant, htable.base]
  have hframe : ReadFrame s (cmdStarted s q 1 i) := rfl
  have hout : (cmdStarted s q 1 i).out = s.out := rfl
  have hreached := htable.reached
  have htarget := htable.target
  refine ⟨_, exec_plotLoad h hst hmode, ?_⟩
  generalize hv : cmdStarted s q 1 i = v at *
  rw [← hreached, ← htarget, ← haddr, ← hout]
  refine ⟨fun hr => ?_, fun hr ht => ?_, fun hr ht => ?_, fun hr => ?_, hframe.trans (readFrame_loadStart hq hcells hplots)⟩
  · obtain ⟨hdisabled, hends, -⟩ := loadStart_fails (o := .command) hq hcells hplots hquads (by rwa [hquadrant])
    rw [hquadrant, hindex] at hends
    obtain ⟨hresult, hdone, -⟩ := hends hplt
    exact ⟨hdisabled, hresult, hdone⟩
  · have := out_loadStart (o := .command) hq hcells hplots (by rwa [hquadrant]) (by rwa [hquadrant])
    rwa [hquadrant] at this
  · have := tableAsked_loadStart (o := .command) hq hcells hplots hquads (by rwa [hquadrant]) (by rwa [hquadrant])
    rwa [hquadrant] at this
  · obtain ⟨hload, horigin, hkept⟩ := loadStart_facts (o := .command) hq hcells hplots (by rwa [hquadrant])
    obtain ⟨-, hplt', hfields⟩ := hkept hquads
    rw [hquadrant] at hplt' hfields
    exact ⟨hload, horigin, (bitF_congr (hfields _ (by simp [cmdFields]))).trans hbusy, hplt'.trans hplt⟩

/-! ### The entry read ends -/

theorem exec_plotLoadEntryRead {p : Fin 4096} {r : MemResult} (h : loading s p = true)
    (htaken : r.isFailed = true ∨ tableAsked s (quadrantOf p) (.load p) = false) : exec (.plotLoadEntryRead p r) s = .next (loadRead s p r) := by
  change execPlotLoadEntryRead p r s = _
  rcases htaken with hr | hr <;> simp [execPlotLoadEntryRead, h, tableTakes, hr]

/-- R54: a usable entry is taken. -/
theorem entryTaken_runs (s : State) (p : Fin 4096) (bs : List Byte) (hwf : s.wf = true) (h : loading s p = true)
    (hasked : tableAsked s (quadrantOf p) (.load p) = false) (hgood : loadBad s p (.ok bs) = none) :
    Runs (.plotLoadEntryRead p (.ok bs)) s fun t =>
      plotState t p = (if bmeOf s p then psServing else psHeld) ∧ (∀ x ∈ plotMemFields p, getF t x.1 = fieldIn bs x) ∧
      (plotOf t p).tx = rateDepth t p 0 ∧ (plotOf t p).rx = rateDepth t p 1 ∧ (plotOf t p).load = none ∧ CmdEnds s t p 1 0 := by
  refine ⟨_, (exec_plotLoadEntryRead h (.inr hasked)).trans (congrArg _ (loadRead_of_good hgood)), ?_⟩
  have hplots := mwf_plots_of_wf hwf
  exact loadDone_facts (plotPort_lt p) hplots (mwf_quads_of_wf hwf) (cmdKept_tableDrop _ _ _)

/-- An entry that cannot be used leaves the plot Disabled. -/
theorem loadRead_fails {p : Fin 4096} {r : MemResult} {res : Nat} (hwf : s.wf = true) (hbad : loadBad s p r = some res) :
    plotState (loadRead s p r) p = psDisabled ∧ (plotOf (loadRead s p r) p).load = none ∧ CmdEnds s (loadRead s p r) p 1 res := by
  obtain ⟨hres, u, heq, hplots, hkept⟩ := loadRead_of_bad hbad
  rw [heq]
  exact loadFail_facts (plotPort_lt p) hres (hplots ▸ mwf_plots_of_wf hwf) (mwf_quads_of_wf hwf) hkept

/-- R54: a failed read, VALID 0, a malformed entry and a vector range that does not fit. -/
theorem entryRefused_runs (s : State) (p : Fin 4096) (r : MemResult) (res : Nat) (hwf : s.wf = true) (h : loading s p = true)
    (htaken : r.isFailed = true ∨ tableAsked s (quadrantOf p) (.load p) = false) (hbad : loadBad s p r = some res) :
    Runs (.plotLoadEntryRead p r) s fun t => plotState t p = psDisabled ∧ (plotOf t p).load = none ∧ CmdEnds s t p 1 res :=
  ⟨_, exec_plotLoadEntryRead h htaken, loadRead_fails hwf hbad⟩

theorem entryRead_leaves (s : State) (p : Fin 4096) (r : MemResult) (h : loading s p = false) : Leaves (.plotLoadEntryRead p r) s := by
  change execPlotLoadEntryRead p r s = _
  simp [execPlotLoadEntryRead, h]

/-! ### No answer within 1 ms (R54) -/

theorem loadTimeout_runs (s : State) (p : Fin 4096) (hwf : s.wf = true) (h : loading s p = true) :
    Runs (.plotLoadTimeout p) s fun t => plotState t p = psDisabled ∧ (plotOf t p).load = none ∧ CmdEnds s t p 1 2 := by
  have hexec : exec (.plotLoadTimeout p) s = .next (loadRead s p (.failed .timeout)) := by
    change execPlotLoadTimeout p s = _
    simp [execPlotLoadTimeout, h]
  exact ⟨_, hexec, loadRead_fails hwf rfl⟩

theorem tableAsked_tableQuit {p : Nat} (h : mwf s.quads = true) : tableAsked (tableQuit s p) (quadrantOf p) (.commit p) = false := by
  obtain ⟨hload, -⟩ := quadOf_tableDrop (.load p) (quadrantOf p) h
  obtain ⟨hcommit, -⟩ := quadOf_tableDrop (.commit p) (quadrantOf p) hload
  unfold tableQuit
  rw [tableAsked_tableDrop _ _ hcommit, tableAsked_tableDrop _ _ hload]
  simp

/-- A COMMIT whose read is not answered ends NO_ACCESS. -/
theorem commitTimeout_runs (s : State) (p : Fin 4096) (hwf : s.wf = true) (h : loading s p = false) :
    (tableAsked s (quadrantOf p) (.commit p) = false → Leaves (.plotLoadTimeout p) s) ∧
    (tableAsked s (quadrantOf p) (.commit p) = true → Runs (.plotLoadTimeout p) s fun t =>
      CmdEnds s t p 2 2 ∧ tableAsked t (quadrantOf p) (.commit p) = false ∧ t = { s with cells := t.cells, quads := t.quads }) := by
  refine ⟨fun hasked => ?_, fun hasked => ?_⟩
  · change execPlotLoadTimeout p s = _
    simp [execPlotLoadTimeout, h, hasked]
  · have hexec : exec (.plotLoadTimeout p) s = .next (pltEnd (tableQuit s p) p [2] 2) := by
      change execPlotLoadTimeout p s = _
      simp [execPlotLoadTimeout, h, hasked]
    obtain ⟨hquads, hplt, hfields⟩ := cmdKept_tableQuit s p (mwf_quads_of_wf hwf)
    refine ⟨_, hexec, cmdEnds_pltEnd (by decide) hquads hplt hfields, ?_, ?_⟩
    · have hquit : tableAsked (tableQuit s p) (quadrantOf p) (.commit p) = false := tableAsked_tableQuit (mwf_quads_of_wf hwf)
      rw [tableAsked, (quads_pltEnd hquads).2]
      exact hquit
    · rw [pltEnd_only]
      rfl

/-! ### Commands that are not taken (R65, R66) -/

/-- A PLT_CMD from behind a closed page does nothing, one while BUSY sets OVERRUN alone, and one for a function or in a state that does not take it
ends INDEX or STATE. -/
theorem notTaken_runs {x : Instr} {states : List Nat} {s : State} {q : Fin 4} {who : Party} {op : Nat} {i : Fin 1024} {act : State → Nat → State}
    (hexec : exec x s = .next (pltCmd s q who op i act)) (hstates : ∀ boot st, st ∉ states → pltAccepts boot op st = false) :
    (regOpen s who (A.PLT_CMD q) = false → Leaves x s) ∧
    (regOpen s who (A.PLT_CMD q) = true → bitF s (F.PLT_CMD_STATUS_BUSY q) = true →
      Runs x s fun t => bitF t (F.PLT_CMD_STATUS_OVERRUN q) = true ∧ OnlyCells s t ∧ FieldsBut s t [F.PLT_CMD_STATUS_OVERRUN q]) ∧
    (regOpen s who (A.PLT_CMD q) = true → bitF s (F.PLT_CMD_STATUS_BUSY q) = false →
      funcEnabled s (q * 1024 + i) = false ∨ plotState s (q * 1024 + i) ∉ states →
      Runs x s fun t =>
        getF t (F.PLT_CMD_STATUS_RESULT q) = (if funcEnabled s (q * 1024 + i) then 3 else 6) ∧ getF t (F.PLT_CMD_STATUS_INDEX q) = i.val ∧
        t = { s with cells := t.cells, quads := t.quads } ∧ FieldsBut s t (cmdFields q)) := by
  refine ⟨fun hopen => ?_, fun hopen hbusy => ?_, fun hopen hbusy href => ?_⟩
  · exact hexec.trans (congrArg _ (pltCmd_closed hopen))
  · refine ⟨_, hexec.trans (congrArg _ (pltCmd_busy hopen hbusy)), bitF_setF_one s rfl, rfl, fieldsBut_setF _ (by simp) (fieldsBut_refl s _)⟩
  · have hrefused := pltCmd_refused (act := act) q.isLt hopen hbusy (href.imp id (hstates _ _))
    refine ⟨_, hexec.trans (congrArg _ hrefused), result_pltResult (by split_ifs <;> decide), ?_, rfl, ?_⟩
    · have hresult : (F.PLT_CMD_STATUS_INDEX q).key ≠ (F.PLT_CMD_STATUS_RESULT q).key := key_ne_of_lo rfl (show 0 ≠ 32 by decide)
      have hbusy : (F.PLT_CMD_STATUS_INDEX q).key ≠ (F.PLT_CMD_STATUS_BUSY q).key := key_ne_of_lo rfl (show 0 ≠ 63 by decide)
      rw [fieldsBut_pltResult _ (by simp [hresult, hbusy]), cmdNamed, getF_setF_same]
      exact Nat.mod_eq_of_lt i.isLt
    · exact fieldsBut_trans fieldsBut_cmdNamed (fieldsBut_mono (by simp [cmdFields]) fieldsBut_pltResult)

/-- Settles O27: the clauses are the rules of a LOAD, of its entry read, of its time limit and of PLT_CMD above. -/
theorem plotLoads : Obligations.PlotLoads := by
  refine ⟨load_runs, entryTaken_runs, entryRefused_runs, entryRead_leaves, loadTimeout_runs, commitTimeout_runs, fun s q who i r x hx => ?_⟩
  simp only [List.mem_cons, List.not_mem_nil, or_false] at hx
  rcases hx with rfl | rfl | rfl | rfl | rfl
  all_goals exact notTaken_runs rfl fun boot st hst => by simp_all [pltAccepts]

end Sys2Proof.Proofs.PlotLoading
end

section
/-!
CLAIM. PP_COMMIT puts every staged field of a plot's page in effect, or none (R51, R52).
-/
namespace Sys2Proof.Proofs.PageCommits
open Sys2Proof.Machine Sys2Proof.Proofs.Fields Sys2Proof.Proofs.EntryFields Sys2Proof.Proofs.ConfigTable Sys2Proof.Proofs.Writebacks
open Sys2Proof.Proofs.PlotCommands Sys2Proof.Proofs.PlotQueue Sys2Proof.Proofs.Refusals

variable {s t u : State} {p : Nat}

/-! ### The Plot fields and STATUS -/

/-- A Plot field, or a field of STATUS. -/
def OfPlotSet (p : Nat) (g : Fld) : Prop := g ∈ (plotSetFields p).map Prod.fst ∨ g.addr = A.PE_STATUS p ∧ g.lo < 64

/-- The Plot fields and STATUS stand. -/
def SetKept (s t : State) (p : Nat) : Prop := ∀ g, OfPlotSet p g → getF t g = getF s g

theorem SetKept.trans (h : SetKept s t p) (h' : SetKept t u p) : SetKept s u p := fun g hg => (h' g hg).trans (h g hg)

theorem setKept_of_cells (h : t.cells = s.cells) : SetKept s t p := fun g _ => getF_congr h g

/-- A field that lies below the PlotEntries, or is one of FAULT_PTR. -/
def OffPlotSet (p : Nat) (f : Fld) : Prop := f.addr < 0x200000000 ∧ f.lo < 64 ∨ f ∈ (plotPtrFields p).map Prod.fst

theorem plotSet_addr {g : Fld} (hg : OfPlotSet p g) : 0x200000000 ≤ g.addr ∧ g.lo < 64 := by
  rcases hg with hg | ⟨haddr, hlo⟩
  · obtain ⟨x, hx, rfl⟩ := List.mem_map.1 hg
    obtain ⟨haddr, -, hlo⟩ := addr_of_entryFields (set_entryFields_of_mem hx)
    unfold A.PE_STATUS at haddr
    exact ⟨by omega, hlo⟩
  · unfold A.PE_STATUS at haddr
    exact ⟨by omega, hlo⟩

/-- The fields of FAULT_PTR are no Plot fields. -/
theorem ptr_key_ne {f g : Fld} (hg : g ∈ (plotSetFields p).map Prod.fst) (hf : f ∈ (plotPtrFields p).map Prod.fst) : g.key ≠ f.key := by
  obtain ⟨x, hx, rfl⟩ := List.mem_map.1 hg
  obtain ⟨y, hy, rfl⟩ := List.mem_map.1 hf
  have hnodup := (entryFields_keys_nodup p).sublist ((((List.sublist_append_right (plotMemFields p) (plotSetFields p)).append
    (List.Sublist.refl (plotPtrFields p))).map Prod.fst).map Fld.key)
  rw [List.map_append, List.map_append] at hnodup
  exact (List.nodup_append.1 hnodup).2.2 _ (List.mem_map_of_mem (List.mem_map_of_mem hx)) _ (List.mem_map_of_mem (List.mem_map_of_mem hy))

theorem offPlotSet_key_ne {f g : Fld} (hg : OfPlotSet p g) (hf : OffPlotSet p f) : g.key ≠ f.key := by
  rcases hf with ⟨haddr, hlo⟩ | hptr
  · exact key_ne_of_addr_lt hlo (haddr.trans_le (plotSet_addr hg).1)
  · rcases hg with hg | ⟨haddr, hlo⟩
    · exact ptr_key_ne hg hptr
    · obtain ⟨y, hy, rfl⟩ := List.mem_map.1 hptr
      exact (key_ne_status (ptr_entryFields_of_mem hy) haddr hlo).symm

theorem setKept_of_fields {fs : List Fld} (h : FieldsBut s t fs) (hfs : ∀ f ∈ fs, OffPlotSet p f) : SetKept s t p :=
  fun g hg => h g fun f hf => offPlotSet_key_ne hg (hfs f hf)

theorem setKept_setF {f : Fld} (v : Nat) (hf : OffPlotSet p f) : SetKept s (setF s f v) p :=
  fun _ hg => getF_setF_ne s v (offPlotSet_key_ne hg hf)

/-! ### What a commit does beside (R47, R52, R63) -/

theorem setKept_cqCommit (p : Fin 4096) {k : Nat} (hk : k < 16) : SetKept s (cqCommit s p k) p := by
  have hp := p.isLt
  have hpage {a : Nat} {lo w rst : Nat} (ha : a < 0x200000000) (hlo : lo < 64) (u : State) (v : Nat) : SetKept u (setF u ⟨a, lo, w, rst⟩ v) p :=
    setKept_setF v (.inl ⟨ha, hlo⟩)
  have hprod : A.PP_CQ_PROD p k < 0x200000000 := by
    unfold A.PP_CQ_PROD
    omega
  have hhead : A.PP_CQ_HEAD p k < 0x200000000 := by
    unfold A.PP_CQ_HEAD
    omega
  unfold cqCommit
  exact ((((hpage hprod (by decide) _ _).trans (hpage hprod (by decide) _ _)).trans (hpage hhead (by decide) _ _)).trans
    (hpage hhead (by decide) _ _)).trans (setKept_of_cells rfl)

theorem setKept_cqCommits (p : Fin 4096) {qs : List Nat} (hqs : ∀ k ∈ qs, k < 16) : SetKept s (qs.foldl (fun s k => cqCommit s p k) s) p := by
  induction qs generalizing s with
  | nil => exact setKept_of_cells rfl
  | cons k ks ih =>
    exact (setKept_cqCommit p (hqs k List.mem_cons_self)).trans (ih fun j hj => hqs j (List.mem_cons_of_mem _ hj))

theorem setKept_faultRingReset (p : Fin 4096) : SetKept s (faultRingReset s p) p := by
  have hp := p.isLt
  have hfields := fieldsBut_resetFields s
    [F.PE_FAULT_PTR_PROD p, F.PE_FAULT_PTR_PHASE p, F.PE_FAULT_PTR_OVERFLOW p, F.PP_FAULT_CONS_CONS p, F.PP_FAULT_CONS_PHASE p]
  have hcons : A.PP_FAULT_CONS p < 0x200000000 := by
    unfold A.PP_FAULT_CONS
    omega
  unfold faultRingReset
  refine (setKept_of_fields hfields fun f hf => ?_).trans (setKept_of_cells rfl)
  simp only [List.mem_cons, List.not_mem_nil, or_false] at hf
  rcases hf with rfl | rfl | rfl | rfl | rfl
  · exact .inr (by simp [plotPtrFields])
  · exact .inr (by simp [plotPtrFields])
  · exact .inr (by simp [plotPtrFields])
  · exact .inl ⟨hcons, show 0 < 64 by decide⟩
  · exact .inl ⟨hcons, show 12 < 64 by decide⟩

theorem setKept_setHeld (p : Nat) (rs : List FaultRec) : SetKept s (setHeld s p rs) p :=
  (setKept_of_cells (t := modPlot s p fun x => { x with held := rs }) rfl).trans (setKept_setF _ (.inr (by simp [plotPtrFields])))

theorem setKept_faultWrite (p : Nat) (r : FaultRec) : SetKept s (faultWrite s p r) p := by
  refine setKept_of_fields (fieldsBut_faultWrite s p r) fun f hf => .inr ?_
  simp only [ringFields, List.mem_cons, List.not_mem_nil, or_false] at hf
  rcases hf with rfl | rfl <;> simp [plotPtrFields]

theorem setKept_faultFlush (p : Nat) (rs : List FaultRec) : SetKept s (faultFlush s p rs) p := by
  induction rs generalizing s with
  | nil => exact setKept_setHeld p []
  | cons r rs ih =>
    unfold faultFlush
    split_ifs
    · exact setKept_setHeld p _
    · exact (setKept_faultWrite p r).trans ih

theorem setKept_writebackStart (p : Fin 4096) : SetKept s (writebackStart s p) p :=
  setKept_of_fields (traffic_writebackStart s p).fields fun f hf => by
    obtain ⟨haddr, hlo⟩ := trafficFields_ofDevice _ (plotPort_lt p) f hf
    exact .inl ⟨by omega, hlo⟩

/-! ### The staged fields -/

/-- Every field of a list takes what is staged for it. -/
def stagedTaken (s : State) (xs : List (Fld × Fld)) : State := xs.foldl (fun s x => setF s x.2 (getF s x.1)) s

theorem fieldsBut_stagedTaken (s : State) (xs : List (Fld × Fld)) : FieldsBut s (stagedTaken s xs) (xs.map Prod.snd) := by
  suffices h : ∀ ys ⊆ xs, ∀ t, FieldsBut s t (xs.map Prod.snd) → FieldsBut s (stagedTaken t ys) (xs.map Prod.snd) from
    h xs (List.Subset.refl _) s (fieldsBut_refl s _)
  intro ys hsub
  induction ys with
  | nil => exact fun t ht => ht
  | cons y ys ih =>
    obtain ⟨hy, hsub⟩ := List.cons_subset.1 hsub
    exact fun t ht => ih hsub _ (fieldsBut_setF _ (List.mem_map_of_mem hy) ht)

theorem getF_stagedTaken {xs : List (Fld × Fld)} (hkeys : (xs.map fun x => x.2.key).Nodup) (hstage : ∀ x ∈ xs, ∀ y ∈ xs, x.1.key ≠ y.2.key)
    {x : Fld × Fld} (hx : x ∈ xs) : getF (stagedTaken s xs) x.2 = getF s x.1 % 2 ^ x.2.w := by
  induction xs generalizing s with
  | nil => cases hx
  | cons y ys ih =>
    obtain ⟨hy, hkeys⟩ := List.nodup_cons.1 hkeys
    rcases List.mem_cons.1 hx with rfl | hmem
    · have hkept : getF (stagedTaken (setF s x.2 (getF s x.1)) ys) x.2 = getF (setF s x.2 (getF s x.1)) x.2 := by
        refine fieldsBut_stagedTaken _ ys x.2 fun f hf heq => hy ?_
        obtain ⟨z, hz, rfl⟩ := List.mem_map.1 hf
        exact List.mem_map.2 ⟨z, hz, heq.symm⟩
      exact hkept.trans (getF_setF_same s _ _)
    · have hrest := ih (s := setF s y.2 (getF s y.1)) hkeys (fun a ha b hb => hstage a (List.mem_cons_of_mem _ ha) b (List.mem_cons_of_mem _ hb)) hmem
      rw [getF_setF_ne s _ (hstage x hx y List.mem_cons_self)] at hrest
      exact hrest

theorem plotStagePairs_keys_nodup (p : Nat) : ((plotStagePairs p).map fun x => x.2.key).Nodup := by
  have hnodup := (entryFields_keys_nodup p).sublist ((((List.sublist_append_right (plotMemFields p) (plotSetFields p)).trans
    (List.sublist_append_left _ (plotPtrFields p))).map Prod.fst).map Fld.key)
  rw [← plotStagePairs_snd, List.map_map] at hnodup
  exact hnodup

theorem stage_key_ne (p : Fin 4096) {x y : Fld × Fld} (hx : x ∈ plotStagePairs p) (hy : y ∈ plotStagePairs p) : x.1.key ≠ y.2.key := by
  have hp := p.isLt
  obtain ⟨-, haddr, hlo⟩ := addr_of_plotStagePairs hx
  have hset : OfPlotSet p y.2 := .inl (plotStagePairs_snd p ▸ List.mem_map_of_mem hy)
  exact (key_ne_of_addr_lt hlo (by have := (plotSet_addr hset).1; omega)).symm

/-! ### A commit that is taken -/

/-- The page is marked as committed. -/
def committed (s : State) (p : Nat) : State := markDirty (setF s (F.PE_STATUS_PSET_VALID p) 1) p true

/-- The staged fields are in effect. -/
def pageTaken (s : State) (p : Nat) : State := stagedTaken s (plotStagePairs p)

theorem setKept_pageApply (p : Fin 4096) : SetKept (committed (pageTaken s p) p) (pageApply s p) p := by
  have hqueues (q : Nat → Bool) (u : State) : SetKept u (((List.range 16).filter q).foldl (fun s k => cqCommit s p k) u) p :=
    setKept_cqCommits p fun k hk => List.mem_range.1 (List.mem_of_mem_filter hk)
  have hrelease (u : State) : SetKept u (faultRelease (writebackStart u p) p) p :=
    (setKept_writebackStart p).trans (setKept_faultFlush p _)
  have htaken : (plotStagePairs p).foldl (fun s x => setF s x.2 (getF s x.1)) s = pageTaken s p := rfl
  unfold pageApply
  rw [htaken]
  generalize pageTaken s p = v
  dsimp only
  split_ifs
  · exact ((hqueues _ (committed v p)).trans (setKept_faultRingReset p)).trans (hrelease _)
  · exact (hqueues _ (committed v p)).trans (hrelease _)

theorem psetValid_key_ne (p : Nat) {x : Fld × Fld} (hx : x ∈ plotStagePairs p) : x.2.key ≠ (F.PE_STATUS_PSET_VALID p).key := by
  have hset : x.2 ∈ (plotSetFields p).map Prod.fst := plotStagePairs_snd p ▸ List.mem_map_of_mem hx
  obtain ⟨y, hy, heq⟩ := List.mem_map.1 hset
  rw [← heq]
  exact key_ne_status (set_entryFields_of_mem hy) rfl (show 12 < 64 by decide)

theorem pageTaken_facts (s : State) (p : Fin 4096) :
    (∀ x ∈ plotStagePairs p, getF (pageTaken s p) x.2 = getF s x.1 % 2 ^ x.2.w) ∧
      getF (pageTaken s p) (F.PE_STATUS_STATE p) = getF s (F.PE_STATUS_STATE p) := by
  refine ⟨fun x hx => getF_stagedTaken (plotStagePairs_keys_nodup p) (fun _ ha _ hb => stage_key_ne p ha hb) hx, ?_⟩
  refine fieldsBut_stagedTaken s (plotStagePairs p) _ fun f hf => ?_
  rw [plotStagePairs_snd] at hf
  obtain ⟨y, hy, rfl⟩ := List.mem_map.1 hf
  exact (key_ne_status (set_entryFields_of_mem hy) rfl (show 0 < 64 by decide)).symm

/-- R52: every staged field takes effect. -/
theorem pageTaken_runs (s : State) (p : Fin 4096) (_ : s.wf = true)
    (hst : plotState s p = psServing ∨ plotState s p = psHeld ∨ plotState s p = psFaulted) (hform : pageMalformed s p = false)
    (huse : pageInUse s p = false) (hdead : pageDead s p = false) :
    Runs (.plotPageCommit p) s fun t =>
      (∀ x ∈ plotStagePairs p, getF t x.2 = getF s x.1 % 2 ^ x.2.w) ∧ bitF t (F.PE_STATUS_PSET_VALID p) = true ∧ getF t (F.PP_COMMIT_STATUS_RESULT p) = 0 ∧
      plotState t p = plotState s p := by
  have hp := p.isLt
  have hexec : exec (.plotPageCommit p) s = .next (setF (pageApply s p) (F.PP_COMMIT_STATUS_RESULT p) 0) := by
    change Host.Outcome.next (pageCommit s p) = _
    rcases hst with h | h | h <;> simp [pageCommit, hdead, hform, huse, h, psServing, psHeld, psFaulted]
  have hresult : (F.PP_COMMIT_STATUS_RESULT p).addr < 0x200000000 := by
    simp only [F.PP_COMMIT_STATUS_RESULT]
    omega
  have hkept : SetKept (committed (pageTaken s p) p) (setF (pageApply s p) (F.PP_COMMIT_STATUS_RESULT p) 0) p :=
    (setKept_pageApply p).trans (setKept_setF 0 (.inl ⟨hresult, show 0 < 64 by decide⟩))
  have hvalid : (F.PE_STATUS_STATE p).key ≠ (F.PE_STATUS_PSET_VALID p).key := key_ne_of_lo rfl (show 0 ≠ 12 by decide)
  obtain ⟨hfields, hstate⟩ := pageTaken_facts s p
  generalize pageTaken s p = v at hkept hfields hstate
  refine ⟨_, hexec, fun x hx => ?_, ?_, getF_setF_same _ _ 0, ?_⟩
  · rw [hkept _ (.inl (plotStagePairs_snd p.val ▸ List.mem_map_of_mem hx))]
    exact (getF_setF_ne _ 1 (psetValid_key_ne p hx)).trans (hfields x hx)
  · rw [bitF_congr (hkept _ (.inr ⟨rfl, show 12 < 64 by decide⟩))]
    exact bitF_setF_one v rfl
  · exact ((hkept _ (.inr ⟨rfl, show 0 < 64 by decide⟩)).trans (getF_setF_ne _ 1 hvalid)).trans hstate

/-! ### Commits that are refused (R51, R52) -/

theorem pageResult_facts (r : Nat) (hr : r < 16) : let t := setF s (F.PP_COMMIT_STATUS_RESULT p) r
    getF t (F.PP_COMMIT_STATUS_RESULT p) = r ∧ OnlyCells s t ∧ FieldsBut s t [F.PP_COMMIT_STATUS_RESULT p] :=
  ⟨(getF_setF_same s _ r).trans (Nat.mod_eq_of_lt hr), rfl, fieldsBut_setF _ (by simp) (fieldsBut_refl s _)⟩

/-- R51, R52: with the plot Disabled or Resetting a commit does nothing; else the first row that refuses it gives its RESULT. -/
theorem pageRefused_runs (s : State) (p : Fin 4096) :
    (pageDead s p = true → Leaves (.plotPageCommit p) s) ∧
    (pageDead s p = false → Runs (.plotPageCommit p) s fun t =>
      (plotState s p = psLoading → getF t (F.PP_COMMIT_STATUS_RESULT p) = 3 ∧ OnlyCells s t ∧ FieldsBut s t [F.PP_COMMIT_STATUS_RESULT p]) ∧
      (plotState s p ∈ [psServing, psHeld, psFaulted] → pageMalformed s p = true →
        getF t (F.PP_COMMIT_STATUS_RESULT p) = 1 ∧ OnlyCells s t ∧ FieldsBut s t [F.PP_COMMIT_STATUS_RESULT p]) ∧
      (plotState s p ∈ [psServing, psHeld, psFaulted] → pageMalformed s p = false → pageInUse s p = true →
        getF t (F.PP_COMMIT_STATUS_RESULT p) = 2 ∧ OnlyCells s t ∧ FieldsBut s t [F.PP_COMMIT_STATUS_RESULT p])) := by
  refine ⟨fun hdead => ?_, fun hdead => ⟨pageCommit s p, rfl, fun h => ?_, fun h hform => ?_, fun h hform huse => ?_⟩⟩
  · change Host.Outcome.next (pageCommit s p) = _
    simp [pageCommit, hdead]
  · have hend : pageCommit s p = setF s (F.PP_COMMIT_STATUS_RESULT p) 3 := by
      simp [pageCommit, hdead, h, psLoading, psServing, psHeld, psFaulted]
    rw [hend]
    exact pageResult_facts 3 (by decide)
  · have hend : pageCommit s p = setF s (F.PP_COMMIT_STATUS_RESULT p) 1 := by
      simp only [List.mem_cons, List.not_mem_nil, or_false] at h
      rcases h with h | h | h <;> simp [pageCommit, hdead, h, hform, psServing, psHeld, psFaulted]
    rw [hend]
    exact pageResult_facts 1 (by decide)
  · have hend : pageCommit s p = setF s (F.PP_COMMIT_STATUS_RESULT p) 2 := by
      simp only [List.mem_cons, List.not_mem_nil, or_false] at h
      rcases h with h | h | h <;> simp [pageCommit, hdead, h, hform, huse, psServing, psHeld, psFaulted]
    rw [hend]
    exact pageResult_facts 2 (by decide)

end Sys2Proof.Proofs.PageCommits
end

section
/-!
CLAIM. COMMIT of a plot takes every Staged field of a well-formed entry, and no Locked one (R46, R60, R66).
-/
namespace Sys2Proof.Proofs.EntryCommits
open Sys2Proof.Machine Sys2Proof.Proofs.Fields Sys2Proof.Proofs.CanonicalForm Sys2Proof.Proofs.EntryFields Sys2Proof.Proofs.ConfigTable
open Sys2Proof.Proofs.Writebacks Sys2Proof.Proofs.PlotCommands Sys2Proof.Proofs.PlotQueue Sys2Proof.Proofs.Loads

variable {s t u w : State} {p q : Nat} {bs : List Byte}

/-! ### Staged and Locked fields -/

theorem staged_mem {x : Fld × Nat} (hx : x ∈ plotStagedFields p) : x ∈ plotMemFields p := (plotStagedFields_sublist p).subset hx

theorem locked_mem {x : Fld × Nat} (hx : x ∈ plotLockedFields p) : x ∈ plotMemFields p := List.mem_of_mem_filter hx

theorem locked_not_staged {x : Fld × Nat} (hx : x ∈ plotLockedFields p) : x ∉ plotStagedFields p := by
  have := List.of_mem_filter hx
  simpa using this

/-- A field that is not staged is at another place than those that are. -/
theorem unstaged_key_ne {x y : Fld × Nat} (hx : x ∈ plotMemFields p) (hn : x ∉ plotStagedFields p) (hy : y ∈ plotStagedFields p) : x.1.key ≠ y.1.key := by
  intro hkey
  have heq : x = y := List.inj_on_of_nodup_map (plotMemFields_keys_nodup p) hx (staged_mem hy) hkey
  exact hn (heq ▸ hy)

/-- The Staged fields take their values, and the others stand. -/
theorem getF_loadStaged (s : State) (bs : List Byte) {x : Fld × Nat} (hx : x ∈ plotMemFields p) :
    getF (loadFields s bs (plotStagedFields p)) x.1 = if x ∈ plotStagedFields p then fieldIn bs x else getF s x.1 := by
  split_ifs with hstaged
  · exact getF_loadFields bs (plotStagedFields_keys_nodup p) hstaged
  · refine fieldsBut_loadFields s bs _ _ fun f hf => ?_
    obtain ⟨y, hy, rfl⟩ := List.mem_map.1 hf
    exact unstaged_key_ne hx hstaged hy

theorem residentBytes_congr (h : ∀ x ∈ plotMemFields p, getF t x.1 = getF s x.1) : residentBytes t p = residentBytes s p := by
  unfold residentBytes wordOf
  refine List.flatMap_congr fun i _ => ?_
  have hword : ((plotMemFields p).filter fun x => x.2 == 8 * i).map (fun x => getF t x.1 * 2 ^ x.1.lo) =
      ((plotMemFields p).filter fun x => x.2 == 8 * i).map (fun x => getF s x.1 * 2 ^ x.1.lo) :=
    List.map_congr_left fun x hx => by rw [h x (List.mem_of_mem_filter hx)]
  rw [hword]

theorem memField_addr {x : Fld × Nat} (hx : x ∈ plotMemFields p) : 0x100000000 ≤ x.1.addr := (memFields_addr (List.mem_map_of_mem hx)).2

/-! ### LOCKED_IGNORED -/

/-- LOCKED_IGNORED where a Locked field differs. -/
def reported (w : State) (p : Nat) (bs : List Byte) (s : State) : State :=
  if (plotLockedFields p).any fun x => fieldIn bs x != getF w x.1 then lockedIgnored s (quadrantOf p) else s

theorem commitApply_eq (w : State) (p : Nat) (bs : List Byte) : commitApply w p bs =
    if plotMalformed (residentBytes (loadFields w bs (plotStagedFields p)) p) p then pltResult (reported w p bs w) (quadrantOf p) 1
    else pltResult (reported w p bs (bucketsAfter w (loadFields w bs (plotStagedFields p)) p)) (quadrantOf p) 0 := rfl

/-- The registers that show how a commit ended. -/
def endFields (q : Nat) : List Fld :=
  [F.PLT_CMD_STATUS_LOCKED_IGNORED q, F.EVG_PEND_PEND 19, F.PLT_CMD_STATUS_RESULT q, F.PLT_CMD_STATUS_BUSY q]

theorem endFields_ofDevice (hq : q < 4) : ∀ f ∈ endFields q, OfDevice f := by
  intro f hf
  refine cmdFields_ofDevice q hq f ?_
  simp only [endFields, cmdFields, List.mem_cons, List.not_mem_nil, or_false] at hf ⊢
  tauto

theorem lockedSource {q : Nat} (hq : q < 4) : (1216 + q) / 64 = 19 := by omega

theorem fieldsBut_lockedIgnored (hq : q < 4) : FieldsBut s (lockedIgnored s q) [F.PLT_CMD_STATUS_LOCKED_IGNORED q, F.EVG_PEND_PEND 19] :=
  fieldsBut_raise _ (by rw [lockedSource hq]; simp) (fieldsBut_setF _ (by simp) (fieldsBut_refl s _))

theorem lockedIgnored_only (s : State) (q : Nat) : OnlyCells s (lockedIgnored s q) := (raise_only _ _).trans rfl

theorem lockedIgnored_shows (hq : q < 4) :
    bitF (lockedIgnored s q) (F.PLT_CMD_STATUS_LOCKED_IGNORED q) = true ∧ Pending (lockedIgnored s q) (1216 + q) := by
  have hkeys : ∀ q < 4, (F.PLT_CMD_STATUS_LOCKED_IGNORED q).key ≠ (F.EVG_PEND_PEND 19).key := by decide +kernel
  refine ⟨?_, pending_raise _ ?_⟩
  · rw [lockedIgnored, bitF_congr (getF_raise_ne _ _ (by rw [lockedSource hq]; exact hkeys q hq))]
    exact bitF_setF_one s rfl
  · unfold evgLevel
    rw [if_neg (by omega)]
    simp
    omega

theorem fieldsBut_reported (hp : quadrantOf p < 4) : FieldsBut u (reported w p bs u) [F.PLT_CMD_STATUS_LOCKED_IGNORED (quadrantOf p), F.EVG_PEND_PEND 19] := by
  unfold reported
  split_ifs
  · exact fieldsBut_lockedIgnored hp
  · exact fieldsBut_refl u _

theorem reported_only (w : State) (p : Nat) (bs : List Byte) (u : State) : OnlyCells u (reported w p bs u) := by
  unfold reported
  split_ifs
  · exact lockedIgnored_only u _
  · rfl

/-- What the end of a commit leaves, whatever its RESULT. -/
theorem commitEnd_facts (hp : quadrantOf p < 4) {r : Nat} (hr : r < 16) :
    FieldsBut u (pltResult (reported w p bs u) (quadrantOf p) r) (endFields (quadrantOf p)) ∧
      getF (pltResult (reported w p bs u) (quadrantOf p) r) (F.PLT_CMD_STATUS_RESULT (quadrantOf p)) = r ∧
      bitF (pltResult (reported w p bs u) (quadrantOf p) r) (F.PLT_CMD_STATUS_BUSY (quadrantOf p)) = false ∧
      ((∃ x ∈ plotLockedFields p, fieldIn bs x ≠ getF w x.1) →
        bitF (pltResult (reported w p bs u) (quadrantOf p) r) (F.PLT_CMD_STATUS_LOCKED_IGNORED (quadrantOf p)) = true ∧
          Pending (pltResult (reported w p bs u) (quadrantOf p) r) (1216 + quadrantOf p)) ∧
      pltResult (reported w p bs u) (quadrantOf p) r =
        { u with cells := (pltResult (reported w p bs u) (quadrantOf p) r).cells, quads := (pltResult (reported w p bs u) (quadrantOf p) r).quads } := by
  have hkeys : ∀ q < 4, ∀ f ∈ [F.PLT_CMD_STATUS_RESULT q, F.PLT_CMD_STATUS_BUSY q], (F.EVG_PEND_PEND 19).key ≠ f.key ∧
      (F.PLT_CMD_STATUS_LOCKED_IGNORED q).key ≠ f.key := by decide +kernel
  have honly := reported_only w p bs u
  refine ⟨fieldsBut_trans (fieldsBut_mono (by simp [endFields]) (fieldsBut_reported hp)) (fieldsBut_mono (by simp [endFields]) fieldsBut_pltResult),
    result_pltResult hr, busy_pltResult, fun ⟨x, hx, hne⟩ => ?_, ?_⟩
  · have hreport : reported w p bs u = lockedIgnored u (quadrantOf p) := by
      unfold reported
      rw [if_pos (List.any_eq_true.2 ⟨x, hx, by simpa using hne⟩)]
    obtain ⟨hbit, hpend⟩ := lockedIgnored_shows (s := u) hp
    rw [hreport]
    refine ⟨(bitF_congr (fieldsBut_pltResult _ fun f hf => (hkeys _ hp f hf).2)).trans hbit, ?_⟩
    unfold Pending at hpend ⊢
    rw [lockedSource hp] at hpend ⊢
    rw [fieldsBut_pltResult _ fun f hf => (hkeys _ hp f hf).1]
    exact hpend
  · unfold OnlyCells at honly
    unfold pltResult
    rw [honly]
    rfl

/-! ### The entry has been read (R46, R60) -/

/-- The buckets follow a changed rate; of the registers RATE_HELD alone shows it. -/
theorem fieldsBut_bucketsAfter (old : State) : FieldsBut u (bucketsAfter old u p) [F.PE_STATUS_RATE_HELD p] :=
  fieldsBut_trans (fieldsBut_congr rfl (fieldsBut_refl u _)) (fieldsBut_rateShow _ p)

theorem bucketsAfter_only (old u : State) (p : Nat) :
    bucketsAfter old u p = { u with cells := (bucketsAfter old u p).cells, plots := (bucketsAfter old u p).plots } := by
  unfold bucketsAfter
  dsimp only
  rw [rateShow_only]
  rfl

theorem getF_bucketsAfter (old : State) {x : Fld × Nat} (hx : x ∈ plotMemFields p) : getF (bucketsAfter old u p) x.1 = getF u x.1 :=
  fieldsBut_bucketsAfter old _ (by simpa using key_ne_status (mem_entryFields_of_mem hx) (g := F.PE_STATUS_RATE_HELD p) rfl (show 9 < 64 by decide))

/-- A well-formed entry's Staged fields take effect; of a malformed one no field does. -/
theorem commitApply_facts (hp : quadrantOf p < 4) (w : State) (bs : List Byte) :
    (plotMalformed (residentBytes (loadFields w bs (plotStagedFields p)) p) p = false →
      (∀ x ∈ plotStagedFields p, getF (commitApply w p bs) x.1 = fieldIn bs x) ∧
        getF (commitApply w p bs) (F.PLT_CMD_STATUS_RESULT (quadrantOf p)) = 0) ∧
    (plotMalformed (residentBytes (loadFields w bs (plotStagedFields p)) p) p = true →
      (∀ x ∈ plotStagedFields p, getF (commitApply w p bs) x.1 = getF w x.1) ∧
        getF (commitApply w p bs) (F.PLT_CMD_STATUS_RESULT (quadrantOf p)) = 1) ∧
    (∀ x ∈ plotLockedFields p, getF (commitApply w p bs) x.1 = getF w x.1) ∧
    ((∃ x ∈ plotLockedFields p, fieldIn bs x ≠ getF w x.1) →
      bitF (commitApply w p bs) (F.PLT_CMD_STATUS_LOCKED_IGNORED (quadrantOf p)) = true ∧ Pending (commitApply w p bs) (1216 + quadrantOf p)) ∧
    bitF (commitApply w p bs) (F.PLT_CMD_STATUS_BUSY (quadrantOf p)) = false ∧
    commitApply w p bs = { w with cells := (commitApply w p bs).cells, plots := (commitApply w p bs).plots, quads := (commitApply w p bs).quads } := by
  have hend (u : State) {r : Nat} (hr : r < 16) := commitEnd_facts (u := u) (w := w) (bs := bs) hp hr
  have hmem (u : State) {r : Nat} (hr : r < 16) {x : Fld × Nat} (hx : x ∈ plotMemFields p) :
      getF (pltResult (reported w p bs u) (quadrantOf p) r) x.1 = getF u x.1 :=
    getF_of_device (hend u hr).1 (endFields_ofDevice hp) (memField_addr hx)
  have hload := fun {x : Fld × Nat} (hx : x ∈ plotMemFields p) => getF_loadStaged w bs hx
  have hnew := loadFields_only w bs (plotStagedFields p)
  have heq := commitApply_eq w p bs
  generalize loadFields w bs (plotStagedFields p) = new at hload hnew heq ⊢
  cases hform : plotMalformed (residentBytes new p) p with
  | true =>
    rw [hform, if_pos rfl] at heq
    obtain ⟨-, hresult, hbusy, hlocked, honly⟩ := hend w (r := 1) (by decide)
    rw [heq]
    refine ⟨fun h => (Bool.noConfusion h), fun _ => ⟨fun x hx => hmem w (by decide) (staged_mem hx), hresult⟩,
      fun x hx => hmem w (by decide) (locked_mem hx), hlocked, hbusy, ?_⟩
    rw [honly]
  | false =>
    rw [hform, if_neg (by decide)] at heq
    obtain ⟨-, hresult, hbusy, hlocked, honly⟩ := hend (bucketsAfter w new p) (r := 0) (by decide)
    have hfield {x : Fld × Nat} (hx : x ∈ plotMemFields p) : getF (commitApply w p bs) x.1 = if x ∈ plotStagedFields p then fieldIn bs x else getF w x.1 := by
      rw [heq, hmem _ (by decide) hx, getF_bucketsAfter w hx, hload hx]
    refine ⟨fun _ => ⟨fun x hx => ?_, heq ▸ hresult⟩, fun h => (Bool.noConfusion h), fun x hx => ?_, heq ▸ hlocked, heq ▸ hbusy, ?_⟩
    · rw [hfield (staged_mem hx), if_pos hx]
    · rw [hfield (locked_mem hx), if_neg (locked_not_staged hx)]
    · unfold OnlyCells at hnew
      rw [heq, honly, bucketsAfter_only, hnew]

/-! ### The command (R66) -/

/-- A COMMIT that is taken: the entry's read, and what follows where it has ended. -/
def commitStep (s : State) (q p : Nat) (r : MemResult) : State :=
  match tableRead s q (.commit p) (entryAddr s p) 256 with
  | (s, false) => pltResult s q 2
  | (s, true) => if tableAsked s q (.commit p) then s else commitRead s p r

theorem exec_plotCommit {q : Fin 4} {who : Party} {i : Fin 1024} (r : MemResult) (h : PltTaken s q who i)
    (hst : plotState s (q * 1024 + i) = psServing ∨ plotState s (q * 1024 + i) = psHeld) :
    exec (.plotCommit q who i r) s = .next (commitStep (cmdStarted s q 2 i) q (q * 1024 + i) r) := by
  have hacc : pltAccepts (pwmMode s == moBoot) 2 (plotState s (q * 1024 + i)) = true := by rcases hst with h | h <;> rw [h] <;> rfl
  exact congrArg Host.Outcome.next (pltCmd_taken q.isLt h hacc)

theorem commitStep_unreached (r : MemResult) (h : tableReached s q = false) :
    commitStep s q p r = pltResult (tableRead s q (.commit p) (entryAddr s p) 256).1 q 2 := by
  have hsent := tableRead_snd (s := s) (q := q) (.commit p) (entryAddr s p) 256
  rw [h] at hsent
  unfold commitStep
  generalize tableRead s q (.commit p) (entryAddr s p) 256 = x at hsent ⊢
  obtain ⟨u, ok⟩ := x
  subst hsent
  rfl

theorem commitStep_host (r : MemResult) (h : tableReached s q = true) (ht : bitF s (F.PLT_TABLE_BASE_TARGET q) = false)
    (hasked : tableAsked s q (.commit p) = false) :
    commitStep s q p r = commitRead (emit s (.tableRead q (entryAddr s p) 256)) p r := by
  unfold commitStep
  rw [tableRead_of_host _ _ _ (tableOpen_of_reached h) ht]
  exact if_neg (by rw [show tableAsked (emit s _) q (.commit p) = false from hasked]; decide)

theorem commitStep_fabric (r : MemResult) (hquads : mwf s.quads = true) (h : tableReached s q = true)
    (ht : bitF s (F.PLT_TABLE_BASE_TARGET q) = true) : commitStep s q p r = (tableRead s q (.commit p) (entryAddr s p) 256).1 := by
  have hsent := (tableRead_snd (s := s) (q := q) (.commit p) (entryAddr s p) 256).trans h
  have hasked := tableAsked_tableRead (use := .commit p) (addr := entryAddr s p) (len := 256) hquads ht h
  unfold commitStep
  generalize tableRead s q (.commit p) (entryAddr s p) 256 = x at hsent hasked ⊢
  obtain ⟨u, ok⟩ := x
  subst hsent
  exact if_pos hasked

theorem commitRead_ok (s : State) (p : Nat) (bs : List Byte) :
    commitRead s p (.ok bs) = commitApply (tableDrop s (quadrantOf p) (.commit p)) p bs := by unfold commitRead; rfl

theorem commitRead_failed (s : State) (p : Nat) (why : HostFail) :
    commitRead s p (.failed why) = pltEnd (tableAer (tableDrop s (quadrantOf p) (.commit p)) (quadrantOf p) why) p [2] 2 := rfl

theorem tableAsked_cmdStarted {op i : Nat} {use : TabUse} (h : mwf s.quads = true) : tableAsked (cmdStarted s q op i) q use = tableAsked s q use := by
  rw [tableAsked, quadOf_cmdStarted h]
  rfl

/-- The fields of the plot's entry stand while the command is taken. -/
theorem getF_cmdStarted {op i : Nat} (hq : q < 4) {f : Fld} (hf : 0x100000000 ≤ f.addr) : getF (cmdStarted s q op i) f = getF s f :=
  getF_of_device fieldsBut_cmdStarted (cmdFields_device hq) hf

/-- R46, R66: with the entry read from host memory COMMIT takes every Staged field or none. -/
theorem commit_runs (s : State) (q : Fin 4) (who : Party) (i : Fin 1024) (p : Nat) (bs : List Byte) (hwf : s.wf = true) (h : PltTaken s q who i)
    (hp : p = q * 1024 + i) (hst : plotState s p = psServing ∨ plotState s p = psHeld) (hopen : tableOpen s q = true)
    (htarget : bitF s (F.PLT_TABLE_BASE_TARGET q) = false) (hasked : tableAsked s q (.commit p) = false) :
    Runs (.plotCommit q who i (.ok bs)) s fun t =>
      (plotMalformed (residentBytes (loadFields s bs (plotStagedFields p)) p) p = false →
        (∀ x ∈ plotStagedFields p, getF t x.1 = fieldIn bs x) ∧ getF t (F.PLT_CMD_STATUS_RESULT q) = 0) ∧
      (plotMalformed (residentBytes (loadFields s bs (plotStagedFields p)) p) p = true →
        (∀ x ∈ plotStagedFields p, getF t x.1 = getF s x.1) ∧ getF t (F.PLT_CMD_STATUS_RESULT q) = 1) ∧
      (∀ x ∈ plotLockedFields p, getF t x.1 = getF s x.1) ∧
      ((∃ x ∈ plotLockedFields p, fieldIn bs x ≠ getF s x.1) → bitF t (F.PLT_CMD_STATUS_LOCKED_IGNORED q) = true ∧ Pending t (1216 + q)) ∧
      bitF t (F.PLT_CMD_STATUS_BUSY q) = false ∧ t = { s with cells := t.cells, plots := t.plots, quads := t.quads, out := t.out } := by
  subst hp
  have hquadrant := quadrantOf_index q.val i
  have hport : quadrantOf (q * 1024 + i) < 4 := by rw [hquadrant]; exact q.isLt
  have hquads := mwf_quads_of_wf hwf
  have htable : SameTable s (cmdStarted s q 2 i) q := sameTable_cmdStarted q.isLt
  have hreached : tableReached (cmdStarted s q 2 i) q = true := by rw [htable.reached, tableReached, hopen, htarget]; rfl
  generalize hw : tableDrop (emit (cmdStarted s q 2 i) (.tableRead q (entryAddr (cmdStarted s q 2 i) (q * 1024 + i)) 256)) q (.commit (q * 1024 + i)) = w
  have hstep : commitStep (cmdStarted s q 2 i) q (q * 1024 + i) (.ok bs) = commitApply w (q * 1024 + i) bs := by
    rw [commitStep_host _ hreached (htable.target.trans htarget) ((tableAsked_cmdStarted hquads).trans hasked), commitRead_ok, hquadrant, hw]
  have hfields {x : Fld × Nat} (hx : x ∈ plotMemFields (q * 1024 + i)) : getF w x.1 = getF s x.1 := by
    rw [← hw]
    exact getF_cmdStarted q.isLt (memField_addr hx)
  have hbytes : residentBytes (loadFields w bs (plotStagedFields (q * 1024 + i))) (q * 1024 + i) =
      residentBytes (loadFields s bs (plotStagedFields (q * 1024 + i))) (q * 1024 + i) :=
    residentBytes_congr fun x hx => by rw [getF_loadStaged w bs hx, getF_loadStaged s bs hx, hfields hx]
  have hframe (t : State) (ht : t = { w with cells := t.cells, plots := t.plots, quads := t.quads }) :
      t = { s with cells := t.cells, plots := t.plots, quads := t.quads, out := t.out } := by
    rw [← hw] at ht
    rw [ht]
    rfl
  obtain ⟨htaken, hrefused, hlocked, hreport, hbusy, honly⟩ := commitApply_facts hport w bs
  rw [hquadrant] at htaken hrefused hreport hbusy
  rw [hbytes] at htaken hrefused
  refine ⟨_, (exec_plotCommit _ h hst).trans (congrArg _ hstep), htaken, fun hform => ⟨fun x hx => ?_, (hrefused hform).2⟩, fun x hx => ?_, ?_, hbusy, ?_⟩
  · exact ((hrefused hform).1 x hx).trans (hfields (staged_mem hx))
  · exact (hlocked x hx).trans (hfields (locked_mem hx))
  · rintro ⟨x, hx, hne⟩
    exact hreport ⟨x, hx, by rwa [hfields (locked_mem hx)]⟩
  · exact hframe _ honly

/-- The entry's fields and the state of the plot stand where a COMMIT ends with no entry read. -/
structure Unread (s t : State) (p : Nat) : Prop where
  fields : ∀ g : Fld, 0x100000000 ≤ g.addr → getF t g = getF s g
  pga : t.pga = s.pga
  links : t.links = s.links
  mem : t.mem = s.mem

theorem unread_pltResult {r : Nat} (hq : q < 4) (h : Unread s t p) : Unread s (pltResult t q r) p := by
  have hfields : ∀ f ∈ [F.PLT_CMD_STATUS_RESULT q, F.PLT_CMD_STATUS_BUSY q], OfDevice f := fun f hf =>
    cmdFields_device hq f (by simp only [cmdFields, List.mem_cons, List.not_mem_nil, or_false] at hf ⊢; tauto)
  exact ⟨fun g hg => (getF_of_device fieldsBut_pltResult hfields hg).trans (h.fields g hg), h.pga, h.links, h.mem⟩

theorem tableSend_of_fail {use : TabUse} {op : FabOp} {addr len : Nat} {data : List Byte} (h : (tableSend s q use op addr len data).2 = false) :
    OnlyCells s (tableSend s q use op addr len data).1 := by
  obtain ⟨u, honly, -, heq | ⟨e, x, -, heq⟩⟩ := tableSend_cases s q use op addr len data <;> rw [heq] at h ⊢
  · exact honly
  · cases h

/-- A read that does not go out changes registers of the device alone. -/
theorem unread_tableRead {use : TabUse} {addr len : Nat} (hq : q < 4) (h : tableReached s q = false) : Unread s (tableRead s q use addr len).1 p := by
  have hsent := (tableRead_snd (s := s) use addr len).trans h
  unfold tableRead at hsent ⊢
  split_ifs at hsent ⊢
  · exact ⟨fun _ _ => rfl, rfl, rfl, rfl⟩
  · have honly := tableSend_of_fail hsent
    have hfields (g : Fld) (hg : 0x100000000 ≤ g.addr) := getF_of_device (fieldsBut_tableSend (s := s) (q := q) use .read addr len [])
      (trafficFields_ofDevice q hq) hg
    unfold OnlyCells at honly
    refine ⟨hfields, ?_, ?_, ?_⟩ <;> rw [honly]

/-- A failed read ends the COMMIT in progress. -/
theorem commitRead_fails (why : HostFail) (hquads : mwf s.quads = true) (hplt : (quadOf s (quadrantOf p)).plt = some ⟨2, indexOf p⟩) :
    ∃ u, Unread s u p ∧ commitRead s p (.failed why) = pltResult u (quadrantOf p) 2 := by
  have honly := tableAer_only (tableDrop s (quadrantOf p) (.commit p)) (quadrantOf p) why
  obtain ⟨-, hdropped⟩ := quadOf_tableDrop (.commit p) (quadrantOf p) hquads
  rw [commitRead_failed]
  generalize tableAer (tableDrop s (quadrantOf p) (.commit p)) (quadrantOf p) why = u at honly ⊢
  have hquad : quadOf u (quadrantOf p) = quadOf (tableDrop s (quadrantOf p) (.commit p)) (quadrantOf p) := by rw [honly]; rfl
  refine ⟨u, ⟨fun g _ => ?_, ?_, ?_, ?_⟩, pltEnd_hit ?_⟩
  · rw [honly]
    rfl
  · rw [honly]
    rfl
  · rw [honly]
    rfl
  · rw [honly]
    rfl
  · rw [hquad, hdropped]
    exact hplt

/-- R66: COMMIT ends NO_ACCESS where configuration memory is not reached, or its read fails. -/
theorem noAccess_runs (s : State) (q : Fin 4) (who : Party) (i : Fin 1024) (r : MemResult) (hwf : s.wf = true) (h : PltTaken s q who i)
    (hst : plotState s (q * 1024 + i) = psServing ∨ plotState s (q * 1024 + i) = psHeld)
    (hfail : tableReached s q = false ∨
      (bitF s (F.PLT_TABLE_BASE_TARGET q) = false ∧ tableAsked s q (.commit (q * 1024 + i)) = false ∧ r.isFailed = true)) :
    Runs (.plotCommit q who i r) s fun t =>
      getF t (F.PLT_CMD_STATUS_RESULT q) = 2 ∧ bitF t (F.PLT_CMD_STATUS_BUSY q) = false ∧ (∀ x ∈ plotMemFields (q * 1024 + i), getF t x.1 = getF s x.1) ∧
      plotState t (q * 1024 + i) = plotState s (q * 1024 + i) ∧ t.pga = s.pga ∧ t.links = s.links ∧ t.mem = s.mem := by
  have hquads := mwf_quads_of_wf hwf
  have htable : SameTable s (cmdStarted s q 2 i) q := sameTable_cmdStarted q.isLt
  have hstarted : Unread s (cmdStarted s q 2 i) (q * 1024 + i) := ⟨fun _ hg => getF_cmdStarted q.isLt hg, rfl, rfl, rfl⟩
  obtain ⟨u, hu, hend⟩ : ∃ u, Unread s u (q * 1024 + i) ∧ commitStep (cmdStarted s q 2 i) q (q * 1024 + i) r = pltResult u q 2 := by
    cases hreached : tableReached s q with
    | false =>
      have hread := unread_tableRead (p := q * 1024 + i) (use := .commit (q * 1024 + i)) (addr := entryAddr (cmdStarted s q 2 i) (q * 1024 + i)) (len := 256)
        q.isLt (htable.reached.trans hreached)
      refine ⟨_, ⟨fun g hg => (hread.fields g hg).trans (hstarted.fields g hg), hread.pga, hread.links, hread.mem⟩, ?_⟩
      exact commitStep_unreached r (htable.reached.trans hreached)
    | true =>
      obtain ⟨htarget, hasked, hr⟩ := hfail.resolve_left (by simp [hreached])
      rw [commitStep_host r (htable.reached.trans hreached) (htable.target.trans htarget) ((tableAsked_cmdStarted hquads).trans hasked)]
      cases r with
      | ok bs => cases hr
      | failed why =>
        have hplt : (quadOf (cmdStarted s q 2 i) q).plt = some ⟨2, i⟩ := congrArg Quad.plt (quadOf_cmdStarted hquads)
        have hplt' : (quadOf (cmdStarted s q 2 i) (quadrantOf (q * 1024 + i))).plt = some ⟨2, indexOf (q * 1024 + i)⟩ := by
          rw [quadrantOf_index q i, indexOf_index q i]
          exact hplt
        obtain ⟨u, hu, hend⟩ := commitRead_fails why (s := emit (cmdStarted s q 2 i) _) (mwf_quads_cmdStarted hquads) hplt'
        rw [quadrantOf_index q i] at hend
        exact ⟨u, ⟨fun g hg => (hu.fields g hg).trans (hstarted.fields g hg), hu.pga, hu.links, hu.mem⟩, hend⟩
  obtain ⟨hfields, hpga, hlinks, hmem⟩ := unread_pltResult (r := 2) q.isLt hu
  exact ⟨_, (exec_plotCommit r h hst).trans (congrArg _ hend), result_pltResult (by decide), busy_pltResult, fun x hx => hfields _ (memField_addr hx),
    hfields _ (by simp only [F.PE_STATUS_STATE, A.PE_STATUS]; omega), hpga, hlinks, hmem⟩

/-- R24, R66: at a fabric node the command waits for the answer. -/
theorem commitAsked_runs (s : State) (q : Fin 4) (who : Party) (i : Fin 1024) (r : MemResult) (hwf : s.wf = true) (h : PltTaken s q who i)
    (hst : plotState s (q * 1024 + i) = psServing ∨ plotState s (q * 1024 + i) = psHeld) (hreached : tableReached s q = true)
    (htarget : bitF s (F.PLT_TABLE_BASE_TARGET q) = true) :
    Runs (.plotCommit q who i r) s fun t =>
      tableAsked t q (.commit (q * 1024 + i)) = true ∧ bitF t (F.PLT_CMD_STATUS_BUSY q) = true ∧
      (∀ x ∈ plotMemFields (q * 1024 + i), getF t x.1 = getF s x.1) ∧ t = { s with cells := t.cells, quads := t.quads, pga := t.pga } := by
  have hquads := mwf_quads_cmdStarted (q := q.val) (op := 2) (i := i.val) (mwf_quads_of_wf hwf)
  have htable : SameTable s (cmdStarted s q 2 i) q := sameTable_cmdStarted q.isLt
  have hread := tableRead_of_fabric (.commit (q * 1024 + i)) (entryAddr (cmdStarted s q 2 i) (q * 1024 + i)) 256
    (htable.opened.trans (tableOpen_of_reached hreached)) (htable.target.trans htarget)
  have hasked := tableAsked_tableRead (use := .commit (q * 1024 + i)) (addr := entryAddr (cmdStarted s q 2 i) (q * 1024 + i)) (len := 256) hquads
    (htable.target.trans htarget) (htable.reached.trans hreached)
  have hstep := commitStep_fabric (p := q * 1024 + i) r hquads (htable.reached.trans hreached) (htable.target.trans htarget)
  rw [hread] at hasked hstep
  have hfields := fieldsBut_tableSend (s := cmdStarted s q 2 i) (q := q) (.commit (q * 1024 + i)) .read
    (entryAddr (cmdStarted s q 2 i) (q * 1024 + i)) 256 []
  refine ⟨_, (exec_plotCommit r h hst).trans (congrArg _ hstep), hasked, ?_, fun x hx => ?_, ?_⟩
  · rw [bitF_congr (hfields _ (cmdFields_traffic q q.isLt _ (by simp [cmdFields])))]
    exact busy_cmdStarted
  · exact (getF_of_device hfields (trafficFields_ofDevice q q.isLt) (memField_addr hx)).trans (getF_cmdStarted q.isLt (memField_addr hx))
  · rw [tableSend_only]
    rfl

end Sys2Proof.Proofs.EntryCommits
end

section
/-!
CLAIM. PLT_TABLE_BASE is written while every plot of the port is Disabled, and may start the load of PF0 (R54, R65); with it the whole of O28.
-/
namespace Sys2Proof.Proofs.PlotCommitting
open Sys2Proof.Machine Sys2Proof.Proofs.Fields Sys2Proof.Proofs.CanonicalForm Sys2Proof.Proofs.Registers Sys2Proof.Proofs.EntryFields
open Sys2Proof.Proofs.ConfigTable Sys2Proof.Proofs.PlotCommands Sys2Proof.Proofs.Loads Sys2Proof.Proofs.LoadStarts Sys2Proof.Proofs.EntryCommits

variable {s t : State} {q : Nat} {who : Party} {v : Nat}

/-! ### The write -/

/-- VALID and AUTO take their values. -/
def baseEnabled (s : State) (q v : Nat) : State := setF (setF s (F.PLT_TABLE_BASE_AUTO q) (bits v 2 1)) (F.PLT_TABLE_BASE_VALID q) (bits v 0 1)

/-- BASE and TARGET do so too, unless the write carries the reserved encoding. -/
def baseWritten (s : State) (q : Nat) (who : Party) (v : Nat) : State :=
  if bitOf v 1 && bits v 56 8 != 0 then formatRecord (baseEnabled s q v) who (A.PLT_TABLE_BASE q)
  else setF (setF (baseEnabled s q v) (F.PLT_TABLE_BASE_BASE q) (bits v 18 46)) (F.PLT_TABLE_BASE_TARGET q) (bits v 1 1)

theorem baseWritten_reserved (h : bitOf v 1 = true) (h' : bits v 56 8 ≠ 0) :
    baseWritten s q who v = formatRecord (baseEnabled s q v) who (A.PLT_TABLE_BASE q) := by simp [baseWritten, h, h']

theorem baseWritten_plain (h : bitOf v 1 = false ∨ bits v 56 8 = 0) :
    baseWritten s q who v = setF (setF (baseEnabled s q v) (F.PLT_TABLE_BASE_BASE q) (bits v 18 46)) (F.PLT_TABLE_BASE_TARGET q) (bits v 1 1) := by
  rcases h with h | h <;> simp [baseWritten, h]

theorem tableBaseWrite_taken (hopen : regOpen s who (A.PLT_TABLE_BASE q) = true) (hidle : portIdle s q = true) :
    tableBaseWrite s q who v = if bitOf v 0 && bitOf v 2 then loadAuto (baseWritten s q who v) (q * 1024) else baseWritten s q who v := by
  unfold tableBaseWrite
  rw [hopen, hidle]
  rfl

/-- The fields that the write may change. -/
def baseFields (q : Nat) : List Fld :=
  [F.PLT_TABLE_BASE_BASE q, F.PLT_TABLE_BASE_TARGET q, F.PLT_TABLE_BASE_VALID q, F.PLT_TABLE_BASE_AUTO q, F.GLB_FORMAT_VALID, F.GLB_FORMAT_COUNT,
    F.GLB_FORMAT_WRITER, F.GLB_FORMAT_OFFSET, F.EVG_PEND_PEND 0]

theorem fieldsBut_baseEnabled : FieldsBut s (baseEnabled s q v) (baseFields q) :=
  fieldsBut_setF _ (by simp [baseFields]) (fieldsBut_setF _ (by simp [baseFields]) (fieldsBut_refl s _))

theorem fieldsBut_baseWritten : FieldsBut s (baseWritten s q who v) (baseFields q) := by
  unfold baseWritten
  split_ifs
  · exact fieldsBut_trans fieldsBut_baseEnabled (fieldsBut_mono (by simp [recordFields, baseFields]) (formatRecord_frame _ _ _))
  · exact fieldsBut_setF _ (by simp [baseFields]) (fieldsBut_setF _ (by simp [baseFields]) fieldsBut_baseEnabled)

theorem baseWritten_only : OnlyCells s (baseWritten s q who v) := by
  unfold baseWritten
  split_ifs
  · exact (formatRecord_only _ _ _).trans rfl
  · rfl

theorem mwf_cells_setF (f : Fld) (n : Nat) (h : mwf s.cells = true) : mwf (setF s f n).cells = true := mwf_mput _ _ h

theorem mwf_cells_raise (n : Nat) (h : mwf s.cells = true) : mwf (raise s n).cells = true := by
  unfold raise
  dsimp only
  split_ifs
  · exact h
  · exact mwf_cells_setF _ _ h

theorem mwf_cells_formatRecord (off : Nat) (h : mwf s.cells = true) : mwf (formatRecord s who off).cells = true := by
  have hbump : mwf (bump s F.GLB_FORMAT_COUNT).cells = true := mwf_cells_setF _ _ h
  unfold formatRecord
  dsimp only
  split_ifs
  · exact hbump
  · exact mwf_cells_raise _ (mwf_cells_setF _ _ (mwf_cells_setF _ _ (mwf_cells_setF _ _ hbump)))

theorem mwf_cells_baseWritten (h : mwf s.cells = true) : mwf (baseWritten s q who v).cells = true := by
  have henabled : mwf (baseEnabled s q v).cells = true := mwf_cells_setF _ _ (mwf_cells_setF _ _ h)
  unfold baseWritten
  split_ifs
  · exact mwf_cells_formatRecord _ henabled
  · exact mwf_cells_setF _ _ (mwf_cells_setF _ _ henabled)

theorem bits_mod (v lo n : Nat) : bits v lo n % 2 ^ n = bits v lo n := Nat.mod_mod _ _

theorem base_record_key_ne : ∀ q < 4, ∀ g ∈ [F.PLT_TABLE_BASE_BASE q, F.PLT_TABLE_BASE_TARGET q, F.PLT_TABLE_BASE_VALID q, F.PLT_TABLE_BASE_AUTO q],
    ∀ f ∈ recordFields, g.key ≠ f.key := by decide +kernel

theorem count_key_ne : ∀ q < 4, ∀ f ∈ [F.PLT_TABLE_BASE_VALID q, F.PLT_TABLE_BASE_AUTO q], F.GLB_FORMAT_COUNT.key ≠ f.key := by decide +kernel

theorem baseEnabled_fields : getF (baseEnabled s q v) (F.PLT_TABLE_BASE_VALID q) = bits v 0 1 ∧
    getF (baseEnabled s q v) (F.PLT_TABLE_BASE_AUTO q) = bits v 2 1 ∧
    ∀ g : Fld, (∀ f ∈ [F.PLT_TABLE_BASE_VALID q, F.PLT_TABLE_BASE_AUTO q], g.key ≠ f.key) → getF (baseEnabled s q v) g = getF s g := by
  have hauto : (F.PLT_TABLE_BASE_AUTO q).key ≠ (F.PLT_TABLE_BASE_VALID q).key := key_ne_of_lo rfl (show 2 ≠ 0 by decide)
  refine ⟨(getF_setF_same _ _ _).trans (bits_mod v 0 1), ?_, fun g hg => ?_⟩
  · exact (getF_setF_ne _ _ hauto).trans ((getF_setF_same s _ _).trans (bits_mod v 2 1))
  · exact fieldsBut_setF _ (by simp) (fieldsBut_setF _ (by simp) (fieldsBut_refl s _)) g hg

/-- What the register holds after a write without the reserved encoding. -/
theorem baseWritten_fields_plain (h : bitOf v 1 = false ∨ bits v 56 8 = 0) : getF (baseWritten s q who v) (F.PLT_TABLE_BASE_VALID q) = bits v 0 1 ∧
    getF (baseWritten s q who v) (F.PLT_TABLE_BASE_AUTO q) = bits v 2 1 ∧ getF (baseWritten s q who v) (F.PLT_TABLE_BASE_BASE q) = bits v 18 46 ∧
      getF (baseWritten s q who v) (F.PLT_TABLE_BASE_TARGET q) = bits v 1 1 := by
  have hkey {f g : Fld} (ha : f.addr = A.PLT_TABLE_BASE q) (hb : g.addr = A.PLT_TABLE_BASE q) (h : f.lo ≠ g.lo) : f.key ≠ g.key :=
    key_ne_of_lo (ha.trans hb.symm) h
  obtain ⟨hvalid, hauto, -⟩ := baseEnabled_fields (s := s) (q := q) (v := v)
  rw [baseWritten_plain h]
  refine ⟨?_, ?_, ?_, (getF_setF_same _ _ _).trans (bits_mod v 1 1)⟩
  · rw [getF_setF_ne _ _ (hkey rfl rfl (show 0 ≠ 1 by decide)), getF_setF_ne _ _ (hkey rfl rfl (show 0 ≠ 18 by decide)), hvalid]
  · rw [getF_setF_ne _ _ (hkey rfl rfl (show 2 ≠ 1 by decide)), getF_setF_ne _ _ (hkey rfl rfl (show 2 ≠ 18 by decide)), hauto]
  · rw [getF_setF_ne _ _ (hkey rfl rfl (show 18 ≠ 1 by decide)), getF_setF_same]
    exact bits_mod v 18 46

/-- And after one that carries it (R12, R549). -/
theorem baseWritten_fields_reserved (hq : q < 4) (h : bitOf v 1 = true) (h' : bits v 56 8 ≠ 0) :
    getF (baseWritten s q who v) (F.PLT_TABLE_BASE_VALID q) = bits v 0 1 ∧ getF (baseWritten s q who v) (F.PLT_TABLE_BASE_AUTO q) = bits v 2 1 ∧
      getF (baseWritten s q who v) (F.PLT_TABLE_BASE_BASE q) = getF s (F.PLT_TABLE_BASE_BASE q) ∧
      getF (baseWritten s q who v) (F.PLT_TABLE_BASE_TARGET q) = getF s (F.PLT_TABLE_BASE_TARGET q) ∧
      bitF (baseWritten s q who v) F.GLB_FORMAT_VALID = true ∧
      getF (baseWritten s q who v) F.GLB_FORMAT_COUNT = min (getF s F.GLB_FORMAT_COUNT + 1) F.GLB_FORMAT_COUNT.max := by
  obtain ⟨hvalid, hauto, hother⟩ := baseEnabled_fields (s := s) (q := q) (v := v)
  have hframe := formatRecord_frame (baseEnabled s q v) who (A.PLT_TABLE_BASE q)
  have hkeys := base_record_key_ne q hq
  have hsame (lo : Nat) (hlo : 0 ≠ lo ∧ 2 ≠ lo) (w rst : Nat) : ∀ f ∈ [F.PLT_TABLE_BASE_VALID q, F.PLT_TABLE_BASE_AUTO q],
      (⟨A.PLT_TABLE_BASE q, lo, w, rst⟩ : Fld).key ≠ f.key := by
    intro f hf
    simp only [List.mem_cons, List.not_mem_nil, or_false] at hf
    rcases hf with rfl | rfl
    · exact key_ne_of_lo rfl hlo.1.symm
    · exact key_ne_of_lo rfl hlo.2.symm
  rw [baseWritten_reserved h h']
  refine ⟨(hframe _ (hkeys _ (by simp))).trans hvalid, (hframe _ (hkeys _ (by simp))).trans hauto, ?_, ?_, formatRecord_valid _ _ _, ?_⟩
  · exact (hframe _ (hkeys _ (by simp))).trans (hother _ (hsame 18 (by decide) 46 0))
  · exact (hframe _ (hkeys _ (by simp))).trans (hother _ (hsame 1 (by decide) 1 0))
  · rw [formatRecord_count, hother _ (count_key_ne q hq)]

/-! ### The load of PF0 (R54) -/

theorem quadrantOf_pf0 (q : Nat) : quadrantOf (q * 1024) = q := by
  unfold quadrantOf
  omega

/-- Registers that neither the traffic of the quadrant nor the end of its command changes. -/
theorem base_device : ∀ q < 4, ∀ g ∈ [F.PLT_TABLE_BASE_VALID q, F.PLT_TABLE_BASE_AUTO q, F.PLT_TABLE_BASE_BASE q, F.PLT_TABLE_BASE_TARGET q,
    F.GLB_FORMAT_VALID, F.GLB_FORMAT_COUNT],
    OfDevice g ∧ ∀ f ∈ F.PLT_CMD_STATUS_RESULT q :: F.PLT_CMD_STATUS_BUSY q :: trafficFields q, g.key ≠ f.key := by
  unfold OfDevice
  decide +kernel

/-- The load that AUTO starts leaves the register, and the record of a reserved encoding. -/
theorem getF_loadAuto (hq : q < 4) (hcells : mwf s.cells = true) (hplots : mwf s.plots = true) {g : Fld}
    (hg : g ∈ [F.PLT_TABLE_BASE_VALID q, F.PLT_TABLE_BASE_AUTO q, F.PLT_TABLE_BASE_BASE q, F.PLT_TABLE_BASE_TARGET q, F.GLB_FORMAT_VALID,
      F.GLB_FORMAT_COUNT]) : getF (loadAuto s (q * 1024)) g = getF s g := by
  obtain ⟨hdevice, hkeys⟩ := base_device q hq g hg
  have hkept := deviceKept_loadStart (s := s) (p := q * 1024) (o := .auto) (by rw [quadrantOf_pf0]; exact hq) hcells hplots
  rw [quadrantOf_pf0] at hkept
  unfold loadAuto
  split_ifs
  · rfl
  · exact hkept g hdevice hkeys

theorem mode_base_key_ne : ∀ q < 4, ∀ f ∈ baseFields q, F.PWM_STATUS_MODE.key ≠ f.key := by decide +kernel

/-- R54, R65: with VALID and AUTO the load of PF0 starts. -/
theorem loadAuto_baseWritten (hq : q < 4) (hwf : s.wf = true) (hvalid : bitOf v 0 = true) (htarget : bitOf v 1 = false)
    (hbme : bmeOf s (q * 1024) = true) (hmode : pwmMode s ≠ moBoot) :
    plotState (loadAuto (baseWritten s q who v) (q * 1024)) (q * 1024) = psLoading ∧
      (plotOf (loadAuto (baseWritten s q who v) (q * 1024)) (q * 1024)).load = some .auto := by
  have honly := baseWritten_only (s := s) (q := q) (who := who) (v := v)
  obtain ⟨hv, -, -, ht⟩ := baseWritten_fields_plain (s := s) (q := q) (who := who) (.inl htarget)
  have hcells : mwf (baseWritten s q who v).cells = true := mwf_cells_baseWritten (mwf_cells_of_wf hwf)
  have hmode' : pwmMode (baseWritten s q who v) = pwmMode s := fieldsBut_baseWritten _ (mode_base_key_ne q hq)
  unfold OnlyCells at honly
  have hplots := mwf_plots_of_wf hwf
  have hplots : mwf (baseWritten s q who v).plots = true := by
    rw [honly]
    exact hplots
  have hb : bmeOf (baseWritten s q who v) (q * 1024) = true := by
    rw [honly]
    exact hbme
  have hreached : tableReached (baseWritten s q who v) q = true := by
    have hone : bitF (baseWritten s q who v) (F.PLT_TABLE_BASE_VALID q) = true := by
      rw [bitF, hv]
      exact hvalid
    have hzero : bitF (baseWritten s q who v) (F.PLT_TABLE_BASE_TARGET q) = false := by
      rw [bitF, ht]
      exact htarget
    simp [tableReached, tableOpen, hone, hzero, hb]
  obtain ⟨hst, hload, -⟩ := loadStart_facts (o := .auto) (p := q * 1024) (by rw [quadrantOf_pf0]; exact hq) hcells hplots
    (by rw [quadrantOf_pf0]; exact hreached)
  have hauto : loadAuto (baseWritten s q who v) (q * 1024) = loadStart (baseWritten s q who v) (q * 1024) .auto := by
    unfold loadAuto
    rw [hmode', if_neg (by simpa using hmode)]
  rw [hauto]
  exact ⟨hst, hload⟩

/-! ### The command (R65) -/

/-- The fields that a write leaves, once the load that it may start has begun. -/
theorem getF_tableBaseWrite (hq : q < 4) (hwf : s.wf = true) (hopen : regOpen s who (A.PLT_TABLE_BASE q) = true) (hidle : portIdle s q = true) {g : Fld}
    (hg : g ∈ [F.PLT_TABLE_BASE_VALID q, F.PLT_TABLE_BASE_AUTO q, F.PLT_TABLE_BASE_BASE q, F.PLT_TABLE_BASE_TARGET q, F.GLB_FORMAT_VALID,
      F.GLB_FORMAT_COUNT]) : getF (tableBaseWrite s q who v) g = getF (baseWritten s q who v) g := by
  have honly := baseWritten_only (s := s) (q := q) (who := who) (v := v)
  have hplots := mwf_plots_of_wf hwf
  have hplots : mwf (baseWritten s q who v).plots = true := by
    rw [honly]
    exact hplots
  rw [tableBaseWrite_taken hopen hidle]
  split_ifs
  · exact getF_loadAuto hq (mwf_cells_baseWritten (mwf_cells_of_wf hwf)) hplots hg
  · rfl

/-- R54, R65: with every plot of the port Disabled the register is written. -/
theorem tableBase_runs (s : State) (q : Fin 4) (who : Party) (v : Word) (hwf : s.wf = true) (hopen : regOpen s who (A.PLT_TABLE_BASE q) = true)
    (hidle : portIdle s q = true) :
    Runs (.plotTableBaseWrite q who v) s fun t =>
      getF t (F.PLT_TABLE_BASE_VALID q) = bits v.toNat 0 1 ∧ getF t (F.PLT_TABLE_BASE_AUTO q) = bits v.toNat 2 1 ∧
      (bitOf v.toNat 1 = false ∨ bits v.toNat 56 8 = 0 →
        getF t (F.PLT_TABLE_BASE_BASE q) = bits v.toNat 18 46 ∧ getF t (F.PLT_TABLE_BASE_TARGET q) = bits v.toNat 1 1) ∧
      (bitOf v.toNat 1 = true → bits v.toNat 56 8 ≠ 0 →
        getF t (F.PLT_TABLE_BASE_BASE q) = getF s (F.PLT_TABLE_BASE_BASE q) ∧ getF t (F.PLT_TABLE_BASE_TARGET q) = getF s (F.PLT_TABLE_BASE_TARGET q) ∧
        bitF t F.GLB_FORMAT_VALID = true ∧ getF t F.GLB_FORMAT_COUNT = min (getF s F.GLB_FORMAT_COUNT + 1) F.GLB_FORMAT_COUNT.max) ∧
      (bitOf v.toNat 0 = false ∨ bitOf v.toNat 2 = false → OnlyCells s t ∧ FieldsBut s t (baseFields q)) ∧
      (bitOf v.toNat 0 = true → bitOf v.toNat 2 = true → bitOf v.toNat 1 = false → bmeOf s (q * 1024) = true → pwmMode s ≠ moBoot →
        plotState t (q * 1024) = psLoading ∧ (plotOf t (q * 1024)).load = some .auto) := by
  have hsame {g : Fld} (hg : g ∈ [F.PLT_TABLE_BASE_VALID q, F.PLT_TABLE_BASE_AUTO q, F.PLT_TABLE_BASE_BASE q, F.PLT_TABLE_BASE_TARGET q,
      F.GLB_FORMAT_VALID, F.GLB_FORMAT_COUNT]) := getF_tableBaseWrite (v := v.toNat) q.isLt hwf hopen hidle hg
  have hboth : getF (baseWritten s q who v.toNat) (F.PLT_TABLE_BASE_VALID q) = bits v.toNat 0 1 ∧
      getF (baseWritten s q who v.toNat) (F.PLT_TABLE_BASE_AUTO q) = bits v.toNat 2 1 := by
    by_cases h : bitOf v.toNat 1 = false ∨ bits v.toNat 56 8 = 0
    · obtain ⟨hvalid, hauto, -, -⟩ := baseWritten_fields_plain (s := s) (q := q) (who := who) h
      exact ⟨hvalid, hauto⟩
    · obtain ⟨h1, h56⟩ := not_or.1 h
      obtain ⟨hvalid, hauto, -⟩ := baseWritten_fields_reserved (s := s) (who := who) q.isLt (by simpa using h1) h56
      exact ⟨hvalid, hauto⟩
  refine ⟨tableBaseWrite s q who v.toNat, rfl, (hsame (by simp)).trans hboth.1, (hsame (by simp)).trans hboth.2, fun h => ?_, fun h h' => ?_, fun h => ?_,
    fun hv ha ht hbme hmode => ?_⟩
  · obtain ⟨-, -, hbase, htarget⟩ := baseWritten_fields_plain (s := s) (q := q) (who := who) h
    exact ⟨(hsame (by simp)).trans hbase, (hsame (by simp)).trans htarget⟩
  · obtain ⟨-, -, hbase, htarget, hform, hcount⟩ := baseWritten_fields_reserved (s := s) (who := who) q.isLt h h'
    exact ⟨(hsame (by simp)).trans hbase, (hsame (by simp)).trans htarget, (bitF_congr (hsame (by simp))).trans hform, (hsame (by simp)).trans hcount⟩
  · have hplain : tableBaseWrite s q who v.toNat = baseWritten s q who v.toNat := by
      rw [tableBaseWrite_taken hopen hidle, if_neg (by rcases h with h | h <;> simp [h])]
    rw [hplain]
    exact ⟨baseWritten_only, fieldsBut_baseWritten⟩
  · rw [tableBaseWrite_taken hopen hidle, if_pos (by simp [hv, ha])]
    exact loadAuto_baseWritten q.isLt hwf hv ht hbme hmode

/-- R65: a write that comes from behind a closed page does nothing, and one while a plot of the port is not Disabled sets LOCKED_IGNORED alone. -/
theorem tableBaseIgnored_runs (s : State) (q : Fin 4) (who : Party) (v : Word) :
    (regOpen s who (A.PLT_TABLE_BASE q) = false → Leaves (.plotTableBaseWrite q who v) s) ∧
    (regOpen s who (A.PLT_TABLE_BASE q) = true → portIdle s q = false →
      Runs (.plotTableBaseWrite q who v) s fun t =>
        bitF t (F.PLT_CMD_STATUS_LOCKED_IGNORED q) = true ∧ Pending t (1216 + q) ∧ OnlyCells s t ∧
        FieldsBut s t [F.PLT_CMD_STATUS_LOCKED_IGNORED q, F.EVG_PEND_PEND 19]) := by
  refine ⟨fun hopen => ?_, fun hopen hidle => ?_⟩
  · change Host.Outcome.next (tableBaseWrite s q who v.toNat) = _
    simp [tableBaseWrite, hopen]
  · have hignored : tableBaseWrite s q who v.toNat = lockedIgnored s q := by simp [tableBaseWrite, hopen, hidle]
    obtain ⟨hbit, hpend⟩ := lockedIgnored_shows (s := s) q.isLt
    exact ⟨_, congrArg Host.Outcome.next hignored, hbit, hpend, lockedIgnored_only s q, fieldsBut_lockedIgnored q.isLt⟩

/-- Settles O28: the clauses are the rules of COMMIT, of PP_COMMIT and of PLT_TABLE_BASE. -/
theorem plotCommits : Obligations.PlotCommits :=
  ⟨commit_runs, noAccess_runs, commitAsked_runs, PageCommits.pageTaken_runs, PageCommits.pageRefused_runs, tableBase_runs, tableBaseIgnored_runs⟩

end Sys2Proof.Proofs.PlotCommitting
end

section
/-!
CLAIM. A plot's records (R61, R550): the end of a rate window that carried events, and the obligation, which asks for its record of a plot that has no
log.
-/
namespace Sys2Proof.Proofs.PlotRecords
open Sys2Proof.Machine

/-- Plot 0 is Disabled, as at reset, and a window of code 0x05 is open that has carried an event. -/
def disabledWithWindow : State :=
  { plots := [(0, { rates := [(rateKey 5 0, { isOpen := true, first := some { code := 5, block := 1 }, count := 1 })] })] }

/-- Refutes O30: its clause on a rate window that carried events names no state of the plot, but a plot with no entry loaded has no fault log (R61): where
the plot is Disabled, as at reset, the end of the window makes no record and LAST_FAULT stays 0. -/
theorem not_plotRecordsWritten : ¬ Obligations.PlotRecordsWritten := by
  intro h
  obtain ⟨-, -, -, -, -, -, -, -, -, -, hwindow, -⟩ := h
  obtain ⟨t, hexec, hlast, -⟩ := hwindow disabledWithWindow 0 5 0 _ { code := 5, block := 1 } (by decide +kernel) rfl (by decide +kernel)
    (by decide +kernel) (by decide)
  obtain rfl : rateWindowEnd disabledWithWindow 0 5 0 = t := Host.Outcome.next.inj hexec
  exact absurd hlast (by decide +kernel)

end Sys2Proof.Proofs.PlotRecords
end

section
/-!
CLAIM. The reset of a plot (R68): the obligation, whose step 5 takes every write out of a Ledger that no premise keeps in order.
-/
namespace Sys2Proof.Proofs.PlotResets
open Sys2Proof.Machine

/-- A host request of eight bytes of plot 0 in the Ledger. -/
def ledgerEntry (ledgerKind : LKind) (kind : OutKind) : LEntry :=
  { kind := ledgerKind, hostPath := true, plot := 0, node := 66, addr := 0, len := 8, req := { kind := kind, bar4 := false, off := 0, len := 8 } }

/-- Cloche has run for A on plot 0, of which a write is outstanding; the Ledger lists the write's tag 0 behind the tag 1 of a read. -/
def resetWithWrite : State :=
  { setF {} (F.PE_STATUS_STATE 0) psResetting with
    plots := [(0, { cloche := some {} })]
    quads := [(0, { ledger := [(1, ledgerEntry .read .read), (0, ledgerEntry .write .write)] })]
    now := 8000 }

/-- Refutes O29: its clause on step 5 says that no write of the plot is left, for every state with `State.wf`; but `wf` says nothing of the tables within
a quadrant, and the retirement of a write takes its tag out of a Ledger whose tags rise. Where they do not, the write stays. -/
theorem not_plotResets : ¬ Obligations.PlotResets := by
  intro h
  obtain ⟨-, -, hstep, -⟩ := h
  obtain ⟨t, hexec, -, -, -, -, -, hnone, -⟩ := hstep resetWithWrite 0 {} (by decide +kernel) (by decide +kernel) (by decide +kernel)
    (.inr (by decide +kernel)) rfl
  obtain rfl : clocheStep5 resetWithWrite 0 = t := Host.Outcome.next.inj hexec
  exact absurd hnone (by decide +kernel)

end Sys2Proof.Proofs.PlotResets
end

section
/-!
CLAIM. Requests and Messages for the host (R84, R120): the obligation, whose clauses on Messages read an input buffer that no premise keeps in order.
-/
namespace Sys2Proof.Proofs.InboundRequests
open Sys2Proof.Machine Sys2Proof.Proofs.Trellis

/-- A Message of node 66 for unit 1. -/
def aMessage : FabReq := { op := .message, dest := 1, src := 66, tenant := 0, tag := 0, addr := 0, len := 0 }

/-- Quadrant 0 runs, Trellis is off, and the table of input buffers lists class 4 of its host path twice, each time with a Message. -/
def twoBuffers : State :=
  { setF (setF {} F.PWM_GATE_RUN 15) F.PWM_STATUS_MODE moServe with
    pga := { inbox := [(4, [{ ingress := 4, txn := .req aMessage }]), (4, [{ ingress := 4, txn := .req aMessage }])] } }

/-- The next Message is taken out of its buffer and handled (R120). -/
theorem exec_fabricMessageIn {s : State} {q : Fin 4} {c : Nat} {b : QTxn} {bs : List QTxn} {r : FabReq} (hruns : quadRuns s q = true)
    (hroom : txqRoom s q = true) (hc : [4, 5, 0, 1].find? (headIsMessage s q) = some c) (hbox : inboxOf s q c = b :: bs) (hr : b.txn = .req r) :
    exec (.fabricMessageIn q) s = .next (messageIn (setInbox s q c bs) q r) := by
  obtain ⟨ingress, txn⟩ := b
  obtain rfl : txn = .req r := hr
  change execFabricMessageIn q s = _
  simp [execFabricMessageIn, hruns, hroom, hc, inboxPop, hbox]

/-- Refutes O19: its clause on a Message that hits nothing says that the buffer has lost its head, for every state; but neither it nor `State.wf` says that
the table of Pergola's input buffers lists a key once, and where a key stands twice, the second listing shows once the first is gone. -/
theorem not_inboundRequests : ¬ Obligations.InboundRequests := by
  intro h
  obtain ⟨-, -, -, -, -, -, -, -, -, -, -, -, -, hmissed⟩ := h
  have hlookup (k : Nat) : trellisLookup twoBuffers 5 k = none := trellisLookup_of_disabled (by decide +kernel) 5 k
  obtain ⟨t, hexec, -, -, hinbox, -⟩ := hmissed twoBuffers 0 4 aMessage (by decide +kernel) (by decide +kernel) (by decide +kernel) rfl
    fun i hi => by rw [hlookup] at hi; cases hi
  obtain rfl : messageIn (setInbox twoBuffers 0 4 []) 0 aMessage = t :=
    Host.Outcome.next.inj ((exec_fabricMessageIn (by decide +kernel) (by decide +kernel) (by decide +kernel) rfl rfl).symm.trans hexec)
  exact absurd hinbox (by decide +kernel)

end Sys2Proof.Proofs.InboundRequests
end

section
/-!
SUPPORT. Window commits (R91, R93): what the quadrant of a commit keeps, its table write, and its end.
-/
namespace Sys2Proof.Proofs.WindowWrites
open Sys2Proof.Machine Sys2Proof.Proofs.Fields Sys2Proof.Proofs.PlainWrites Sys2Proof.Proofs.ConfigTable Sys2Proof.Proofs.WindowCommands

variable {s t u : State} {q : Nat} {c : WinCommit} {e : WinEntry}

/-! ### Parts of a quadrant that a change leaves -/

/-- What a change of one quadrant leaves of each, every quadrant keeps. -/
theorem quadOf_modQuad_proj {α : Type} (part : Quad → α) {g : Quad → Quad} (hg : ∀ x, part (g x) = part x) (hwf : mwf s.quads = true) (q r : Nat) :
    part (quadOf (modQuad s q g) r) = part (quadOf s r) := by
  by_cases h : r = q
  · rw [h, quadOf_modQuad_same s hwf, hg]
  · rw [quadOf_modQuad_ne s hwf h]

theorem lineOf_tableDrop (use : TabUse) (hwf : mwf s.quads = true) (p w : Nat) : lineOf (tableDrop s q use) p w = lineOf s p w := by
  have hsame : (quadOf (tableDrop s q use) (quadrantOf p)).lines = (quadOf s (quadrantOf p)).lines := by
    refine quadOf_modQuad_proj Quad.lines ?_ hwf q _
    exact fun _ => rfl
  rw [lineOf, lineOf, hsame]

theorem fillBusy_tableDrop (use : TabUse) (hwf : mwf s.quads = true) (p : Nat) (d : Bool) : fillBusy (tableDrop s q use) p d = fillBusy s p d := by
  have hsame : (quadOf (tableDrop s q use) (quadrantOf p)).fills = (quadOf s (quadrantOf p)).fills := by
    refine quadOf_modQuad_proj Quad.fills ?_ hwf q _
    exact fun _ => rfl
  rw [fillBusy, fillBusy, hsame]

theorem fillBusy_commitStarted (hwf : mwf s.quads = true) (p : Nat) (d : Bool) : fillBusy (commitStarted s q c) p d = fillBusy s p d := by
  have hsame : (quadOf (commitStarted s q c) (quadrantOf p)).fills = (quadOf s (quadrantOf p)).fills := by
    refine quadOf_modQuad_proj Quad.fills ?_ hwf q _
    exact fun _ => rfl
  rw [fillBusy, fillBusy, hsame]

/-- The window-cache lines of a quadrant stand. -/
def LinesKept (s t : State) (q : Nat) : Prop := mwf s.quads = true → mwf t.quads = true ∧ (quadOf t q).lines = (quadOf s q).lines

theorem LinesKept.trans (h : LinesKept s t q) (h' : LinesKept t u q) : LinesKept s u q := by
  intro hwf
  obtain ⟨hwf, hlines⟩ := h hwf
  obtain ⟨hwf, hlines'⟩ := h' hwf
  exact ⟨hwf, hlines'.trans hlines⟩

theorem linesKept_of_quads (h : t.quads = s.quads) : LinesKept s t q := fun hwf => ⟨h ▸ hwf, by rw [quadOf, quadOf, h]⟩

theorem linesKept_modQuad {g : Quad → Quad} (hg : ∀ x, (g x).lines = x.lines) : LinesKept s (modQuad s q g) q :=
  fun hwf => ⟨mwf_mset _ _ _ hwf, quadOf_modQuad_proj Quad.lines hg hwf q q⟩

theorem linesKept_tableDrop (s : State) (q : Nat) (use : TabUse) : LinesKept s (tableDrop s q use) q := linesKept_modQuad fun _ => rfl

theorem linesKept_commitStarted (s : State) (q : Nat) (c : WinCommit) : LinesKept s (commitStarted s q c) q := linesKept_modQuad fun _ => rfl

theorem linesKept_tableSend (use : TabUse) (op : FabOp) (addr len : Nat) (data : List Byte) :
    LinesKept s (tableSend s q use op addr len data).1 q := by
  have hwaits : LinesKept s (tableWaits s q (freeTag s q) (sentRequest use op len)) q := linesKept_modQuad fun _ => rfl
  have hquads := quads_tableSend (s := s) (q := q) use op addr len data
  split_ifs at hquads
  · exact hwaits.trans (linesKept_of_quads hquads)
  · exact linesKept_of_quads hquads

theorem linesKept_tableRead (use : TabUse) (addr len : Nat) : LinesKept s (tableRead s q use addr len).1 q := by
  unfold tableRead
  split_ifs
  · exact linesKept_of_quads rfl
  · exact linesKept_tableSend _ _ _ _ _
  · exact linesKept_of_quads rfl

theorem linesKept_tableWrite (use : TabUse) (addr : Nat) (data : List Byte) : LinesKept s (tableWrite s q use addr data).1 q := by
  unfold tableWrite
  split_ifs
  · exact linesKept_of_quads rfl
  · exact linesKept_tableSend _ _ _ _ _
  · exact linesKept_of_quads rfl

/-! ### Commits that end, and the next that begin (R90, R91) -/

theorem linesKept_commitEnd (r : Nat) : LinesKept s (commitEnd s q c r) q := by
  have hshown : LinesKept s (setF (setF s (bankF c.hostBank (F.GRF_WIN_STATUS_RESULT q)) r) (bankF c.hostBank (F.GRF_WIN_STATUS_BUSY q)) 0) q :=
    linesKept_of_quads rfl
  exact ((hshown.trans (linesKept_tableDrop _ q .commitRead)).trans (linesKept_tableDrop _ q .commitWrite)).trans
    (linesKept_modQuad (g := fun x => { x with commit := none }) fun _ => rfl)

theorem linesKept_commitBegin : LinesKept s (commitBegin s q c) q := by
  have hread := linesKept_tableRead (s := s) (q := q) .commitRead (windowAddr s (q * 1024 + c.index) (dirBase c.dirIn))
    (64 * windowCount s (q * 1024 + c.index) c.dirIn)
  unfold commitBegin
  dsimp only
  split_ifs
  · exact linesKept_commitEnd 2
  · exact linesKept_commitEnd 3
  · split
    · next h =>
      rw [h] at hread
      exact hread.trans (linesKept_commitStarted _ q { c with stage := .reading })
    · next h =>
      rw [h] at hread
      exact hread.trans (linesKept_commitEnd 0xA)

theorem linesKept_commitNext (n : Nat) (s : State) : LinesKept s (commitNext s q n) q := by
  induction n generalizing s with
  | zero => exact linesKept_of_quads rfl
  | succ n ih =>
    unfold commitNext
    split
    · next cs _ _ =>
      exact ((linesKept_modQuad (g := fun x => { x with commitQ := cs }) fun _ => rfl).trans linesKept_commitBegin).trans (ih _)
    · exact linesKept_of_quads rfl

theorem linesKept_commitDone (r : Nat) : LinesKept s (commitDone s q c r) q := (linesKept_commitEnd r).trans (linesKept_commitNext 3 _)

/-- With no other command in the queue none begins. -/
theorem commitDone_of_alone {r : Nat} (hwf : mwf s.quads = true) (hr : r < 16) (hqueue : (quadOf s q).commitQ = []) :
    commitDone s q c r = commitEnd s q c r := by
  obtain ⟨-, -, ⟨-, hended, -⟩, -⟩ := commitEnd_facts (q := q) (c := c) hwf hr
  exact commitNext_of_empty (hended.trans hqueue) 3

/-! ### The table write (R43, R91) -/

section Writes
variable (use : TabUse) (addr : Nat) (data : List Byte)

theorem tableWrite_of_host (h : tableOpen s q = true) (ht : bitF s (F.PLT_TABLE_BASE_TARGET q) = false) :
    tableWrite s q use addr data = (pushTlp s q { kind := .memWrite, plot := q * 1024, reqId := ridOf s (q * 1024), addr := addr,
                                                  len := data.length, data := data }, true) := by simp [tableWrite, h, ht]

theorem tableWrite_of_fabric (h : tableOpen s q = true) (ht : bitF s (F.PLT_TABLE_BASE_TARGET q) = true) :
    tableWrite s q use addr data = tableSend s q use .write addr data.length data := by simp [tableWrite, h, ht]

/-- A write goes out where configuration memory is reached. -/
theorem tableWrite_snd : (tableWrite s q use addr data).2 = tableReached s q := by
  unfold tableReached
  cases hopen : tableOpen s q with
  | false => simp [tableWrite, hopen]
  | true =>
    cases htarget : bitF s (F.PLT_TABLE_BASE_TARGET q) with
    | false => rw [tableWrite_of_host use addr data hopen htarget]; rfl
    | true => rw [tableWrite_of_fabric use addr data hopen htarget, tableSend_snd]; rfl

/-- A fabric Write that has gone out is asked for. -/
theorem tableAsked_tableWrite (hwf : mwf s.quads = true) (ht : bitF s (F.PLT_TABLE_BASE_TARGET q) = true) (h : tableReached s q = true) :
    mwf (tableWrite s q use addr data).1.quads = true ∧ tableAsked (tableWrite s q use addr data).1 q use = true := by
  have hsent := (tableWrite_snd use addr data).trans h
  rw [tableWrite_of_fabric use addr data (tableOpen_of_reached h) ht] at hsent ⊢
  obtain ⟨hquads, hquad⟩ := quadOf_tableSend hwf hsent
  rw [tableAsked, hquad]
  exact ⟨hquads, List.any_eq_true.2 ⟨_, mem_of_mfind (mfind_mput_same _ _ _), by simp [sentRequest]⟩⟩

end Writes

theorem tableAsked_commitStarted (use : TabUse) (hwf : mwf s.quads = true) : tableAsked (commitStarted s q c) q use = tableAsked s q use := by
  rw [tableAsked, quadOf_commitStarted hwf]
  rfl

theorem length_windowBytes (e : WinEntry) : (windowBytes e).length = 64 := by simp only [windowBytes, List.length_append, length_leBytes]

/-- The table write of a commit's entry. -/
def entryWrite (s : State) (q : Nat) (c : WinCommit) (e : WinEntry) : State × Bool :=
  tableWrite s q .commitWrite (windowAddr s (q * 1024 + c.index) c.win) (windowBytes { e with commitTime := max s.now 1 })

/-- The commit is in its table write once that has gone out; else it ends NO_ACCESS. -/
theorem commitWrite_eq (s : State) (q : Nat) (c : WinCommit) (e : WinEntry) : commitWrite s q c e =
    if (entryWrite s q c e).2 then commitStarted (entryWrite s q c e).1 q { c with stage := .writing { e with commitTime := max s.now 1 } }
    else commitDone (entryWrite s q c e).1 q c 0xA := by
  unfold commitWrite
  dsimp only
  split
  · next h => rw [entryWrite, h]; rfl
  · next h => rw [entryWrite, h]; rfl

theorem linesKept_commitWrite : LinesKept s (commitWrite s q c e) q := by
  have hwrite : LinesKept s (entryWrite s q c e).1 q := linesKept_tableWrite _ _ _
  rw [commitWrite_eq]
  split_ifs
  · exact hwrite.trans (linesKept_commitStarted _ q _)
  · exact hwrite.trans (linesKept_commitDone 0xA)

end Sys2Proof.Proofs.WindowWrites
end

section
/-!
CLAIM. A window commit is checked against the table half it has read, and its entry goes to the table (R91, R92, R276).
-/
namespace Sys2Proof.Proofs.WindowChecks
open Sys2Proof.Machine Sys2Proof.Proofs.Fields Sys2Proof.Proofs.CanonicalForm Sys2Proof.Proofs.ConfigTable Sys2Proof.Proofs.Refusals
open Sys2Proof.Proofs.Loads Sys2Proof.Proofs.WindowCommands Sys2Proof.Proofs.WindowWrites

variable {s : State} {q : Nat} {c : WinCommit} {e : WinEntry} {bs : List Byte} {half : List WinEntry}

theorem exec_windowCommitReadDone {q : Fin 4} {r : MemResult} (hcommit : (quadOf s q).commit = some c) (hstage : c.stage = .reading)
    (htakes : tableTakes s q .commitRead r.isFailed = true) : exec (.windowCommitReadDone q r) s = .next (commitHalf s q c r) := by
  change execWindowCommitReadDone q r s = _
  simp [execWindowCommitReadDone, hcommit, hstage, htakes]

/-! ### The checks (R91, R92) -/

/-- The table half that a commit has read. -/
def halfOf (s : State) (q : Nat) (c : WinCommit) (bs : List Byte) : List WinEntry :=
  parseWindows (windowCount s (q * 1024 + c.index) c.dirIn) bs

theorem commitCheck_tableDrop (use : TabUse) (hwf : mwf s.quads = true) : commitCheck (tableDrop s q use) q c e half = commitCheck s q c e half := by
  simp only [commitCheck, lineOf_tableDrop use hwf]
  rfl

/-- A failed check is one of RESULT's codes. -/
theorem commitCheck_lt {r : Nat} (h : commitCheck s q c e half = some r) : r < 16 := by
  unfold commitCheck at h
  dsimp only at h
  split_ifs at h <;> cases h <;> decide

/-- The entry of a commit that passes, with the next generation of its window. -/
def nextEntry (c : WinCommit) (half : List WinEntry) : WinEntry := { c.staged with gen := ((half[c.win % 32]?.getD {}).gen + 1) % 65536 }

/-- The commit has passed its checks. -/
def commitReady (s : State) (q : Nat) (c : WinCommit) (e : WinEntry) : State := commitStarted (tableDrop s q .commitRead) q { c with stage := .ready e }

theorem commitHalf_of_pass (hwf : mwf s.quads = true) (h : commitCheck s q c c.staged (halfOf s q c bs) = none) :
    commitHalf s q c (.ok bs) = commitResume (commitReady s q c (nextEntry c (halfOf s q c bs))) q := by
  have hhalf : halfOf (tableDrop s q .commitRead) q c bs = halfOf s q c bs := rfl
  have hpass : commitCheck (tableDrop s q .commitRead) q c c.staged (halfOf (tableDrop s q .commitRead) q c bs) = none :=
    (commitCheck_tableDrop .commitRead hwf).trans h
  unfold halfOf at hhalf hpass
  simp only [commitHalf, hpass]
  rfl

theorem commitHalf_of_fail {r : Nat} (hwf : mwf s.quads = true) (h : commitCheck s q c c.staged (halfOf s q c bs) = some r) :
    commitHalf s q c (.ok bs) =
      commitDone (if r = 6 then fenceRefused (tableDrop s q .commitRead) else tableDrop s q .commitRead) q c r := by
  have hfail : commitCheck (tableDrop s q .commitRead) q c c.staged (halfOf (tableDrop s q .commitRead) q c bs) = some r :=
    (commitCheck_tableDrop .commitRead hwf).trans h
  unfold halfOf at hfail
  simp only [commitHalf, hfail, beq_iff_eq]

/-! ### The commit that passes (R91) -/

/-- The quadrant of a commit that has passed. -/
theorem commitReady_facts (hwf : mwf s.quads = true) : mwf (commitReady s q c e).quads = true ∧
    (quadOf (commitReady s q c e) q).commit = some { c with stage := .ready e } ∧ LinesKept s (commitReady s q c e) q ∧
    ∀ p d, fillBusy (commitReady s q c e) p d = fillBusy s p d := by
  have hdropped : mwf (tableDrop s q .commitRead).quads = true := mwf_mset _ _ _ hwf
  refine ⟨mwf_mset _ _ _ hdropped, congrArg Quad.commit (quadOf_commitStarted hdropped), ?_, fun p d => ?_⟩
  · exact (linesKept_tableDrop s q .commitRead).trans (linesKept_commitStarted _ q _)
  · exact (fillBusy_commitStarted hdropped p d).trans (fillBusy_tableDrop .commitRead hwf p d)

/-- While a fill of its direction is in progress the commit waits; else its entry is written. -/
theorem commitResume_commitReady (hwf : mwf s.quads = true) : commitResume (commitReady s q c e) q =
    if fillBusy s (q * 1024 + c.index) c.dirIn then commitReady s q c e
    else commitWrite (commitReady s q c e) q { c with stage := .ready e } e := by
  obtain ⟨-, hcommit, -, hbusy⟩ := commitReady_facts (q := q) (c := c) (e := e) hwf
  simp only [commitResume, hcommit, hbusy]
  rfl

/-- Only the quadrant has changed, and with it nothing that decides where configuration memory is. -/
theorem sameTable_commitReady : SameTable s (commitReady s q c e) q := ⟨fun _ _ => rfl, rfl, rfl⟩

/-- The commit in its table write, with the present time. -/
def commitWriting (s : State) (c : WinCommit) (e : WinEntry) : WinCommit := { c with stage := .writing { e with commitTime := max s.now 1 } }

/-- R91: in host memory the entry is written by a TLP of PF0. -/
theorem hostWrite_facts (hwf : s.wf = true) (hopen : tableOpen s q = true) (htarget : bitF s (F.PLT_TABLE_BASE_TARGET q) = false) :
    let t := commitWrite (commitReady s q c e) q { c with stage := .ready e } e
    (quadOf t q).commit = some (commitWriting s c e) ∧
      (portOf t q).txq = (portOf s q).txq ++ [{ kind := .memWrite, plot := q * 1024, reqId := ridOf s (q * 1024),
                                                addr := windowAddr s (q * 1024 + c.index) c.win, len := 64,
                                                data := windowBytes { e with commitTime := max s.now 1 } }] ∧
      t = { s with quads := t.quads, ports := t.ports } := by
  obtain ⟨hquads, -, -, -⟩ := commitReady_facts (q := q) (c := c) (e := e) (mwf_quads_of_wf hwf)
  have hwrite : entryWrite (commitReady s q c e) q { c with stage := .ready e } e = _ :=
    tableWrite_of_host .commitWrite _ _ (sameTable_commitReady.opened.trans hopen) (sameTable_commitReady.target.trans htarget)
  rw [length_windowBytes] at hwrite
  dsimp only
  rw [commitWrite_eq, hwrite, if_pos rfl]
  refine ⟨congrArg Quad.commit (quadOf_commitStarted hquads), ?_, rfl⟩
  exact txq_pushTlp (s := commitReady s q c e) q _ (mwf_ports_of_wf (s := s) hwf)

/-- R43, R91: at a fabric node by a fabric Write. -/
theorem fabricWrite_facts (hwf : s.wf = true) (hopen : tableOpen s q = true) (htarget : bitF s (F.PLT_TABLE_BASE_TARGET q) = true)
    (hroute : (routeOf s (getF s (F.PLT_TABLE_NODE_NODE q)) (myNode s (1 + q)) (some (q * 1024))).2.pga ≠ 20) :
    let t := commitWrite (commitReady s q c e) q { c with stage := .ready e } e
    (quadOf t q).commit = some (commitWriting s c e) ∧ tableAsked t q .commitWrite = true ∧
      t = { s with cells := t.cells, quads := t.quads, pga := t.pga } := by
  obtain ⟨hquads, -, -, -⟩ := commitReady_facts (q := q) (c := c) (e := e) (mwf_quads_of_wf hwf)
  have hreached : tableReached (commitReady s q c e) q = true :=
    sameTable_commitReady.reached.trans (tableReached_of_route hopen htarget hroute)
  have hsent : (entryWrite (commitReady s q c e) q { c with stage := .ready e } e).2 = true := (tableWrite_snd _ _ _).trans hreached
  obtain ⟨hwritten, hasked⟩ := tableAsked_tableWrite .commitWrite (windowAddr (commitReady s q c e) (q * 1024 + c.index) c.win)
    (windowBytes { e with commitTime := max s.now 1 }) hquads (sameTable_commitReady.target.trans htarget) hreached
  have hfabric : entryWrite (commitReady s q c e) q { c with stage := .ready e } e = _ :=
    tableWrite_of_fabric .commitWrite _ _ (sameTable_commitReady.opened.trans hopen) (sameTable_commitReady.target.trans htarget)
  dsimp only
  rw [commitWrite_eq, if_pos hsent]
  refine ⟨congrArg Quad.commit (quadOf_commitStarted hwritten), (tableAsked_commitStarted .commitWrite hwritten).trans hasked, ?_⟩
  rw [hfabric, tableSend_only]
  rfl

/-- R91: the entry that passes waits for a fill of its direction, or goes to the table; the lines stand. -/
theorem passed_runs (s : State) (q : Fin 4) (c : WinCommit) (bs : List Byte) (half : List WinEntry) (e : WinEntry) (hwf : s.wf = true)
    (hcommit : (quadOf s q).commit = some c) (hstage : c.stage = .reading) (hasked : tableAsked s q .commitRead = false)
    (hhalf : half = halfOf s q c bs) (hcheck : commitCheck s q c c.staged half = none) (hopen : tableOpen s q = true) (he : e = nextEntry c half) :
    Runs (.windowCommitReadDone q (.ok bs)) s fun t =>
      (fillBusy s (q * 1024 + c.index) (decide (32 ≤ c.win)) = true → (quadOf t q).commit = some { c with stage := .ready e } ∧ t = { s with quads := t.quads }) ∧
      (fillBusy s (q * 1024 + c.index) (decide (32 ≤ c.win)) = false → bitF s (F.PLT_TABLE_BASE_TARGET q) = false →
        (quadOf t q).commit = some { c with stage := .writing { e with commitTime := max s.now 1 } } ∧
        (portOf t q).txq = (portOf s q).txq ++ [{ kind := .memWrite, plot := q * 1024, reqId := ridOf s (q * 1024), addr := windowAddr s (q * 1024 + c.index) c.win, len := 64, data := windowBytes { e with commitTime := max s.now 1 } }] ∧
        t = { s with quads := t.quads, ports := t.ports }) ∧
      (fillBusy s (q * 1024 + c.index) (decide (32 ≤ c.win)) = false → bitF s (F.PLT_TABLE_BASE_TARGET q) = true →
        (routeOf s (getF s (F.PLT_TABLE_NODE_NODE q)) (myNode s (1 + q)) (some (q * 1024))).2.pga ≠ 20 →
        (quadOf t q).commit = some { c with stage := .writing { e with commitTime := max s.now 1 } } ∧ tableAsked t q .commitWrite = true ∧
        t = { s with cells := t.cells, quads := t.quads, pga := t.pga }) ∧
      (quadOf t q).lines = (quadOf s q).lines := by
  subst hhalf he
  have hquads := mwf_quads_of_wf hwf
  have htakes : tableTakes s q .commitRead (MemResult.ok bs).isFailed = true := by simp [tableTakes, hasked]
  have hexec := (exec_windowCommitReadDone hcommit hstage htakes).trans (congrArg _ ((commitHalf_of_pass hquads hcheck).trans (commitResume_commitReady hquads)))
  obtain ⟨-, hready, hkept, -⟩ := commitReady_facts (q := q) (c := c) (e := nextEntry c (halfOf s q c bs)) hquads
  have hdir : c.dirIn = decide (32 ≤ c.win) := rfl
  refine ⟨_, hexec, fun hbusy => ?_, fun hidle htarget => ?_, fun hidle htarget hroute => ?_, ?_⟩
  · rw [if_pos (hdir ▸ hbusy)]
    exact ⟨hready, rfl⟩
  · rw [if_neg (by simp [hdir, hidle])]
    exact hostWrite_facts hwf hopen htarget
  · rw [if_neg (by simp [hdir, hidle])]
    exact fabricWrite_facts hwf hopen htarget hroute
  · have hlines : LinesKept s (if fillBusy s (q * 1024 + c.index) c.dirIn then commitReady s q c (nextEntry c (halfOf s q c bs))
        else commitWrite (commitReady s q c (nextEntry c (halfOf s q c bs))) q { c with stage := .ready (nextEntry c (halfOf s q c bs)) }
          (nextEntry c (halfOf s q c bs))) q := by
      split_ifs
      · exact hkept
      · exact hkept.trans linesKept_commitWrite
    exact (hlines hquads).2

/-! ### The commit that ends (R91, R92) -/

/-- R91: a commit that ends alone leaves its RESULT, and the quadrant without a commit. -/
theorem commitDone_facts {r : Nat} (hwf : mwf s.quads = true) (hr : r < 16) (hqueue : (quadOf s q).commitQ = []) :
    getF (commitDone s q c r) (bankF c.hostBank (F.GRF_WIN_STATUS_RESULT q)) = r ∧
      bitF (commitDone s q c r) (bankF c.hostBank (F.GRF_WIN_STATUS_BUSY q)) = false ∧ (quadOf (commitDone s q c r) q).commit = none ∧
      (quadOf (commitDone s q c r) q).lines = (quadOf s q).lines ∧
      FieldsBut s (commitDone s q c r) [bankF c.hostBank (F.GRF_WIN_STATUS_RESULT q), bankF c.hostBank (F.GRF_WIN_STATUS_BUSY q)] ∧
      commitDone s q c r = { s with cells := (commitDone s q c r).cells, quads := (commitDone s q c r).quads } := by
  rw [commitDone_of_alone hwf hr hqueue]
  obtain ⟨hresult, hbusy, ⟨hcommit, -, hlines⟩, honly⟩ := commitEnd_facts (q := q) (c := c) hwf hr
  refine ⟨hresult, hbusy, hcommit, hlines, ?_, honly⟩
  exact fieldsBut_congr (t := setF (setF s (bankF c.hostBank (F.GRF_WIN_STATUS_RESULT q)) r) (bankF c.hostBank (F.GRF_WIN_STATUS_BUSY q)) 0) rfl
    (fieldsBut_setF _ (by simp) (fieldsBut_setF _ (by simp) (fieldsBut_refl s _)))

theorem fenceRefused_key_ne : ∀ (q : Fin 4) (b : Bool), ∀ f ∈ [bankF b (F.GRF_WIN_STATUS_RESULT q), bankF b (F.GRF_WIN_STATUS_BUSY q)],
    F.HDG_COUNT_FENCE_REFUSED.key ≠ f.key := by decide +kernel

/-- R91: the first check that fails ends the commit with its RESULT; Hedge counts a fence check that does. -/
theorem failed_runs (s : State) (q : Fin 4) (c : WinCommit) (bs : List Byte) (r : Nat) (hwf : s.wf = true) (hcommit : (quadOf s q).commit = some c)
    (hqueue : (quadOf s q).commitQ = []) (hstage : c.stage = .reading) (hasked : tableAsked s q .commitRead = false)
    (hcheck : commitCheck s q c c.staged (halfOf s q c bs) = some r) :
    Runs (.windowCommitReadDone q (.ok bs)) s fun t =>
      getF t (bankF c.hostBank (F.GRF_WIN_STATUS_RESULT q)) = r ∧ bitF t (bankF c.hostBank (F.GRF_WIN_STATUS_BUSY q)) = false ∧ (quadOf t q).commit = none ∧
      (r = 6 → getF t F.HDG_COUNT_FENCE_REFUSED = min (getF s F.HDG_COUNT_FENCE_REFUSED + 1) F.HDG_COUNT_FENCE_REFUSED.max) ∧
      t = { s with cells := t.cells, quads := t.quads } ∧ (quadOf t q).lines = (quadOf s q).lines := by
  have hquads := mwf_quads_of_wf hwf
  have htakes : tableTakes s q .commitRead (MemResult.ok bs).isFailed = true := by simp [tableTakes, hasked]
  obtain ⟨u, hu, hcells, hrefused⟩ : ∃ u, commitHalf s q c (.ok bs) = commitDone u q c r ∧ OnlyCells (tableDrop s q .commitRead) u ∧
      (r = 6 → u = fenceRefused (tableDrop s q .commitRead)) := by
    refine ⟨_, commitHalf_of_fail hquads hcheck, ?_, fun h => if_pos h⟩
    split_ifs <;> rfl
  obtain ⟨hdropped, hquad⟩ := quadOf_tableDrop .commitRead q hquads
  have hsame : u.quads = (tableDrop s q .commitRead).quads := by rw [hcells]
  have hquad' : quadOf u q = quadOf (tableDrop s q .commitRead) q := by rw [quadOf, quadOf, hsame]
  have hlines : (quadOf u q).lines = (quadOf s q).lines := by rw [hquad', hquad]
  obtain ⟨hresult, hbusy, hnone, hlines', hfields, honly⟩ := commitDone_facts (c := c) (hsame ▸ hdropped) (commitCheck_lt hcheck)
    (show (quadOf u q).commitQ = [] by rw [hquad', hquad]; exact hqueue)
  refine ⟨_, (exec_windowCommitReadDone hcommit hstage htakes).trans (congrArg _ hu), hresult, hbusy, hnone, fun h => ?_, ?_, hlines'.trans hlines⟩
  · rw [hfields _ (fenceRefused_key_ne q c.hostBank), hrefused h]
    exact getF_bump_min _ _
  · rw [honly, hcells]
    rfl

/-- A read of host memory that times out is logged in PF0 (R276). -/
theorem aer_tableAer (hwf : mwf s.funcs = true) (htarget : bitF s (F.PLT_TABLE_BASE_TARGET q) = false) :
    AerErr.completionTimeout ∈ (funcOf (tableAer s q .timeout) (q * 1024)).aer := by
  have hlogged : tableAer s q .timeout = aerLogAs s (q * 1024) .completionTimeout false := by simp [tableAer, htarget, aerLog]
  rw [hlogged]
  obtain ⟨f, hlog, haer⟩ := aerLogAs_cases s (q * 1024) .completionTimeout false
  have hfunc : AerErr.completionTimeout ∈ (funcOf (setFunc s (q * 1024) f) (q * 1024)).aer := by rwa [funcOf_setFunc_same f hwf]
  rcases hlog with ⟨-, hlog⟩ | ⟨x, -, hlog⟩ <;> rw [hlog] <;> exact hfunc

/-- R91, R276: a read that fails ends the commit NO_ACCESS. -/
theorem unread_runs (s : State) (q : Fin 4) (c : WinCommit) (why : HostFail) (hwf : s.wf = true) (hcommit : (quadOf s q).commit = some c)
    (hqueue : (quadOf s q).commitQ = []) (hstage : c.stage = .reading) :
    Runs (.windowCommitReadDone q (.failed why)) s fun t =>
      getF t (bankF c.hostBank (F.GRF_WIN_STATUS_RESULT q)) = 10 ∧ bitF t (bankF c.hostBank (F.GRF_WIN_STATUS_BUSY q)) = false ∧ (quadOf t q).commit = none ∧
      (why = .timeout → bitF s (F.PLT_TABLE_BASE_TARGET q) = false → AerErr.completionTimeout ∈ (funcOf t (q * 1024)).aer) ∧
      t = { s with cells := t.cells, funcs := t.funcs, quads := t.quads, ports := t.ports, out := t.out } ∧ (quadOf t q).lines = (quadOf s q).lines := by
  obtain ⟨hdropped, hquad⟩ := quadOf_tableDrop .commitRead q (mwf_quads_of_wf hwf)
  obtain ⟨u, hu, honly, haer⟩ : ∃ u, commitHalf s q c (.failed why) = commitDone u q c 0xA ∧
      u = { tableDrop s q .commitRead with funcs := u.funcs, ports := u.ports, out := u.out } ∧
      (why = .timeout → bitF s (F.PLT_TABLE_BASE_TARGET q) = false → AerErr.completionTimeout ∈ (funcOf u (q * 1024)).aer) :=
    ⟨_, rfl, tableAer_only _ q why, fun hwhy htarget => hwhy ▸ aer_tableAer (s := tableDrop s q .commitRead) (mwf_funcs_of_wf (s := s) hwf) htarget⟩
  have hsame : u.quads = (tableDrop s q .commitRead).quads := by rw [honly]
  have hquad' : quadOf u q = quadOf (tableDrop s q .commitRead) q := by rw [quadOf, quadOf, hsame]
  obtain ⟨hresult, hbusy, hnone, hlines, -, hended⟩ := commitDone_facts (c := c) (r := 0xA) (hsame ▸ hdropped) (by decide)
    (show (quadOf u q).commitQ = [] by rw [hquad', hquad]; exact hqueue)
  refine ⟨_, (exec_windowCommitReadDone hcommit hstage rfl).trans (congrArg _ hu), hresult, hbusy, hnone, fun hwhy htarget => ?_, ?_, ?_⟩
  · rw [hended]
    exact haer hwhy htarget
  · rw [hended, honly]
    rfl
  · rw [hlines, hquad', hquad]

/-- Settles O21: a commit that passes its checks, one that fails one, and one whose read fails. -/
theorem windowCommitChecked : Obligations.WindowCommitChecked := ⟨passed_runs, failed_runs, unread_runs⟩

end Sys2Proof.Proofs.WindowChecks
end

section
/-!
CLAIM. The match boundary of a window commit (R91): the obligation, whose clause on a failed table write takes a commit for any function index.
-/
namespace Sys2Proof.Proofs.WindowBoundaries
open Sys2Proof.Machine

/-- A commit in its table write whose function index is 1,024. -/
def commitPastLast : WinCommit := { hostBank := false, index := 1024, win := 0, drain := false, stage := .writing {} }

/-- Quadrant 0 writes the table for a commit whose function index is 1,024, one past its last; in quadrant 1 a commit is ready to write its table, which
lies in host memory and may be accessed. -/
def indexPastLast : State :=
  { setF {} (F.PLT_TABLE_BASE_VALID 1) 1 with
    quads := [(0, { commit := some commitPastLast }),
      (1, { commit := some { hostBank := false, index := 0, win := 0, drain := false, stage := .ready {} } })]
    funcs := [(1024, { bme := true })] }

/-- Refutes O22: its clause on a table write that fails says that registers and quadrants alone change, but unlike the clauses before it does not bound the
function index of the commit by 1,024. With an index past the last the plot is one of the next quadrant, whose waiting commit then goes on: its table
write enters that quadrant's host port. -/
theorem not_windowCommitTakesEffect : ¬ Obligations.WindowCommitTakesEffect := by
  intro h
  obtain ⟨-, -, hfailed, -⟩ := h
  obtain ⟨t, hexec, -, -, -, honly⟩ := hfailed indexPastLast 0 commitPastLast {} (by decide +kernel) (by decide +kernel)
    (by decide +kernel) rfl (by decide +kernel) (by decide +kernel)
  have hports : t.ports = indexPastLast.ports := by rw [honly]
  have hrun : exec (.windowCommitBoundary 0 false) indexPastLast = .next (commitWritten indexPastLast 0 commitPastLast {} false) := rfl
  obtain rfl := Host.Outcome.next.inj (hrun.symm.trans hexec)
  exact absurd hports (by decide +kernel)

end Sys2Proof.Proofs.WindowBoundaries
end

section
/-!
SUPPORT. Discarded prefetch entries (R99, R100): the FaultRecord of one, the fields that it changes, and what a discard leaves in the buffer.
-/
namespace Sys2Proof.Proofs.PrefetchBuffer
open Sys2Proof.Machine Sys2Proof.Proofs.Fields Sys2Proof.Proofs.EntryFields Sys2Proof.Proofs.Refusals

variable {s t u : State} {p q cause : Nat} {e : Prefetch}

/-! ### Rate-limited FaultRecords (R61, R550) -/

/-- The fields of plot p that its fault log changes. -/
def logFields (p : Nat) : List Fld :=
  [F.PE_STATUS_LAST_FAULT p, F.PE_FAULT_PTR_HELD p, F.PE_FAULT_PTR_OVERFLOW p, F.PE_COUNTERS_FAULTS_LOST p] ++ ringFields p

theorem logFields_addr (p : Nat) : ∀ f ∈ logFields p, 0x100000000 ≤ f.addr := by
  have hentry (k : Nat) : 0x100000000 ≤ 0x200000000 + p * 0x100 + k := by omega
  intro f hf
  simp only [logFields, ringFields, List.cons_append, List.nil_append, List.mem_cons, List.not_mem_nil, or_false] at hf
  rcases hf with rfl | rfl | rfl | rfl | rfl | rfl <;> exact hentry _

theorem fieldsBut_faultCreate (s : State) (p : Nat) (r : FaultRec) : FieldsBut s (faultCreate s p r) (logFields p) := by
  have hnoted : FieldsBut s (setF s (F.PE_STATUS_LAST_FAULT p) r.code) (logFields p) := fieldsBut_setF _ (by simp [logFields]) (fieldsBut_refl s _)
  unfold faultCreate
  dsimp only
  split_ifs
  · exact fieldsBut_refl s _
  · exact fieldsBut_congr (t := setF (setF s (F.PE_STATUS_LAST_FAULT p) r.code) (F.PE_FAULT_PTR_HELD p) _) rfl
      (fieldsBut_setF _ (by simp [logFields]) hnoted)
  · exact fieldsBut_congr (t := bump (setF (setF s (F.PE_STATUS_LAST_FAULT p) r.code) (F.PE_FAULT_PTR_OVERFLOW p) 1)
      (F.PE_COUNTERS_FAULTS_LOST p)) rfl (fieldsBut_setF _ (by simp [logFields]) (fieldsBut_setF _ (by simp [logFields]) hnoted))
  · exact fun g hg => (fieldsBut_mono (List.subset_append_right _ _) (fieldsBut_faultWrite _ p _) g hg).trans (hnoted g hg)

theorem code_ratedRecord (s : State) (r : FaultRec) (count bytes late age : Nat) : (ratedRecord s r count bytes late age).code = r.code := by
  unfold ratedRecord
  split <;> rfl

/-- While no window is open an event makes its record, and opens one. -/
theorem faultRated_of_closed {scope : Nat} {r : FaultRec} (h : (mget (plotOf s p).rates (rateKey r.code scope) {}).isOpen = false) :
    faultRated s p scope r = modPlot (faultCreate s p (ratedRecord s r 1 r.len 0 0)) p fun x =>
      { x with rates := mput x.rates (rateKey r.code scope) { isOpen := true } } := by
  simp [faultRated, h]

/-- While one is open the event is carried in the plot alone. -/
theorem faultRated_of_open {scope : Nat} {r : FaultRec} (h : (mget (plotOf s p).rates (rateKey r.code scope) {}).isOpen = true) :
    ∃ g, faultRated s p scope r = modPlot s p g := by
  unfold faultRated
  exact ⟨_, if_pos h⟩

theorem fieldsBut_faultRated (s : State) (p scope : Nat) (r : FaultRec) : FieldsBut s (faultRated s p scope r) (logFields p) := by
  cases h : (mget (plotOf s p).rates (rateKey r.code scope) {}).isOpen with
  | false =>
    rw [faultRated_of_closed h]
    exact fieldsBut_congr rfl (fieldsBut_faultCreate s p _)
  | true =>
    obtain ⟨g, heq⟩ := faultRated_of_open h
    rw [heq]
    exact fieldsBut_congr rfl (fieldsBut_refl s _)

theorem faultRated_only (s : State) (p scope : Nat) (r : FaultRec) : faultRated s p scope r =
    { s with cells := (faultRated s p scope r).cells, plots := (faultRated s p scope r).plots, funcs := (faultRated s p scope r).funcs,
             msix := (faultRated s p scope r).msix, ports := (faultRated s p scope r).ports } := by
  cases h : (mget (plotOf s p).rates (rateKey r.code scope) {}).isOpen with
  | false =>
    rw [faultRated_of_closed h, faultCreate_only]
    rfl
  | true =>
    obtain ⟨g, heq⟩ := faultRated_of_open h
    rw [heq]
    rfl

/-! ### The report of an entry (R99, R100) -/

/-- An entry all of which was delivered leaves no report. -/
theorem pfReport_of_delivered (h : pfMissing e = []) : pfReport s q cause e = s := by simp [pfReport, h]

/-- Any other counts as discarded, and is logged as 0x05. -/
theorem pfReport_of_missing (h : pfMissing e ≠ []) :
    ∃ r : FaultRec, r.code = 5 ∧ pfReport s q cause e = faultRated (bump s (F.GRF_PF_COUNT_DISCARDS q)) e.plot e.win r := by
  obtain ⟨i, is, hmissing⟩ := List.exists_cons_of_ne_nil h
  simp only [pfReport, hmissing]
  exact ⟨_, rfl, rfl⟩

theorem quads_pfReport (s : State) (q cause : Nat) (e : Prefetch) : (pfReport s q cause e).quads = s.quads := by
  by_cases h : pfMissing e = []
  · rw [pfReport_of_delivered h]
  · obtain ⟨r, -, heq⟩ := pfReport_of_missing (s := s) (q := q) (cause := cause) h
    rw [heq, faultRated_only]
    rfl

/-- Of the registers of the device a report changes the count alone. -/
theorem getF_pfReport {g : Fld} (hg : OfDevice g) (hkey : g.key ≠ (F.GRF_PF_COUNT_DISCARDS q).key) : getF (pfReport s q cause e) g = getF s g := by
  by_cases h : pfMissing e = []
  · rw [pfReport_of_delivered h]
  · obtain ⟨r, -, heq⟩ := pfReport_of_missing (s := s) (q := q) (cause := cause) h
    rw [heq, fieldsBut_faultRated _ _ _ _ g fun f hf => ofDevice_key_ne hg (logFields_addr _ f hf), getF_bump_ne _ hkey]

theorem quads_pfReportAll (s : State) (q cause : Nat) (es : List Prefetch) : (pfReportAll s q cause es).quads = s.quads := by
  induction es generalizing s with
  | nil => rfl
  | cons e es ih => exact (ih _).trans (quads_pfReport s q cause e)

theorem getF_pfReportAll {g : Fld} (hg : OfDevice g) (hkey : g.key ≠ (F.GRF_PF_COUNT_DISCARDS q).key) (es : List Prefetch) :
    getF (pfReportAll s q cause es) g = getF s g := by
  induction es generalizing s with
  | nil => rfl
  | cons e es ih => exact ih.trans (getF_pfReport hg hkey)

/-! ### Discards (R99) -/

/-- The buffer keeps what the discard does not hit. -/
theorem pf_pfDiscard (hwf : mwf s.quads = true) (hit : Prefetch → Bool) :
    (quadOf (pfDiscard s q cause hit) q).pf = (quadOf s q).pf.filter fun e => !hit e := by
  have hquad := quadOf_modQuad_same s hwf q fun x => { x with pf := x.pf.filter fun e => !hit e }
  rw [quadOf, pfDiscard, quads_pfReportAll]
  exact congrArg Quad.pf hquad

/-- Entries have left the buffer of quadrant q: none has come, and of the registers of the device the count of discards alone has changed. -/
def PfShrinks (s t : State) (q : Nat) : Prop :=
  mwf s.quads = true → mwf t.quads = true ∧ (quadOf t q).pf.Sublist (quadOf s q).pf ∧
    ∀ g, OfDevice g → g.key ≠ (F.GRF_PF_COUNT_DISCARDS q).key → getF t g = getF s g

theorem pfShrinks_refl (s : State) (q : Nat) : PfShrinks s s q := fun h => ⟨h, List.Sublist.refl _, fun _ _ _ => rfl⟩

theorem PfShrinks.trans (h : PfShrinks s t q) (h' : PfShrinks t u q) : PfShrinks s u q := by
  intro hwf
  obtain ⟨hwf, hsub, hfields⟩ := h hwf
  obtain ⟨hwf, hsub', hfields'⟩ := h' hwf
  exact ⟨hwf, hsub'.trans hsub, fun g hg hkey => (hfields' g hg hkey).trans (hfields g hg hkey)⟩

theorem pfShrinks_pfDiscard (s : State) (q cause : Nat) (hit : Prefetch → Bool) : PfShrinks s (pfDiscard s q cause hit) q := by
  intro hwf
  refine ⟨?_, ?_, fun g hg hkey => (getF_pfReportAll hg hkey _).trans rfl⟩
  · rw [pfDiscard, quads_pfReportAll]
    exact mwf_mset _ _ _ hwf
  · rw [pf_pfDiscard hwf]
    exact List.filter_sublist

end Sys2Proof.Proofs.PrefetchBuffer
end

section
/-!
CLAIM. Prefetch entries end at LIFE, and where a plot has more than PLOT_MAX (R98, R99, R101).
-/
namespace Sys2Proof.Proofs.PrefetchEnds
open Sys2Proof.Machine Sys2Proof.Proofs.Fields Sys2Proof.Proofs.CanonicalForm Sys2Proof.Proofs.EntryFields Sys2Proof.Proofs.Registers
open Sys2Proof.Proofs.Refusals Sys2Proof.Proofs.PrefetchBuffer

variable {s : State} {p q m : Nat}

/-! ### Evictions (R98) -/

theorem pfOldest_mem {es : List Prefetch} {v : Prefetch} (h : pfOldest es = some v) : v ∈ es := by
  induction es with
  | nil => cases h
  | cons e es ih =>
    unfold pfOldest at h
    split at h
    · rw [Option.some.inj h]
      exact List.mem_cons_self
    · next f hf =>
      split_ifs at h
      · rw [Option.some.inj h]
        exact List.mem_cons_self
      · exact List.mem_cons_of_mem _ (ih (hf.trans h))

theorem eq_nil_of_pfOldest {es : List Prefetch} (h : pfOldest es = none) : es = [] := by
  cases es with
  | nil => rfl
  | cons e es =>
    unfold pfOldest at h
    split at h
    · cases h
    · split_ifs at h

theorem pfShrinks_pfEvict (cand : Prefetch → Bool) (full : List Prefetch → Bool) (n : Nat) (s : State) : PfShrinks s (pfEvict s q cand full n) q := by
  induction n generalizing s with
  | zero => exact pfShrinks_refl s q
  | succ n ih =>
    unfold pfEvict
    dsimp only
    split_ifs
    · cases pfOldest ((quadOf s q).pf.filter cand) with
      | none => exact pfShrinks_refl s q
      | some v => exact (pfShrinks_pfDiscard s q 1 _).trans (ih _)
    · exact pfShrinks_refl s q

/-- The entries of a plot in the buffer of a quadrant. -/
def pfCount (s : State) (q p : Nat) : Nat := ((quadOf s q).pf.filter fun x => x.plot == p).length

/-- A discard of an entry of the plot leaves it fewer. -/
theorem pfCount_pfDiscard_lt {v : Prefetch} (hwf : mwf s.quads = true) (hv : v ∈ (quadOf s q).pf.filter fun x => x.plot == p) :
    pfCount (pfDiscard s q 1 fun e => e == v) q p < pfCount s q p := by
  rw [pfCount, pf_pfDiscard hwf, List.filter_comm, pfCount]
  exact List.length_filter_lt_length_iff_exists.2 ⟨v, hv, by simp⟩

/-- `n` evictions from a plot that has more than `m` entries leave it `m`, or take one each. -/
theorem pfCount_pfEvict (hwf : mwf s.quads = true) (n : Nat) :
    pfCount (pfEvict s q (fun x => x.plot == p) (fun es => decide (m < (es.filter fun x => x.plot == p).length)) n) q p ≤ max m (pfCount s q p - n) := by
  induction n generalizing s with
  | zero => exact le_max_right _ _
  | succ n ih =>
    unfold pfEvict
    dsimp only
    split_ifs with hfull
    · have hmore : m < pfCount s q p := of_decide_eq_true hfull
      cases hold : pfOldest ((quadOf s q).pf.filter fun x => x.plot == p) with
      | none =>
        have hnone : pfCount s q p = 0 := congrArg List.length (eq_nil_of_pfOldest hold)
        omega
      | some v =>
        obtain ⟨hwf', -⟩ := pfShrinks_pfDiscard s q 1 (fun e => e == v) hwf
        have hless := pfCount_pfDiscard_lt hwf (pfOldest_mem hold)
        exact (ih hwf').trans (by omega)
    · have hfew : pfCount s q p ≤ m := Nat.le_of_not_lt fun h => hfull (decide_eq_true h)
      omega

/-! ### A lower PLOT_MAX (R101) -/

theorem ctrl_ofDevice : ∀ q : Fin 4, ∀ f ∈ [F.GRF_PF_CTRL_LIFE q, F.GRF_PF_CTRL_PLOT_MAX q],
    OfDevice f ∧ f.key ≠ (F.GRF_PF_COUNT_DISCARDS q).key ∧ ∀ g ∈ recordFields, f.key ≠ g.key := by
  unfold OfDevice
  decide +kernel

theorem pfCount_le_of_pfShrinks {t : State} (hwf : mwf s.quads = true) (h : PfShrinks s t q) (p : Nat) : pfCount t q p ≤ pfCount s q p := by
  obtain ⟨-, hsub, -⟩ := h hwf
  exact (hsub.filter _).length_le

theorem pfShrinks_pfTrim (ps : List Nat) (s : State) : PfShrinks s (pfTrim s q ps) q := by
  induction ps generalizing s with
  | nil => exact pfShrinks_refl s q
  | cons p ps ih => exact (pfShrinks_pfEvict _ _ 64 s).trans (ih _)

/-- Each plot named is left no more entries than PLOT_MAX allows. -/
theorem pfCount_pfTrim (q : Fin 4) (ps : List Nat) (hwf : mwf s.quads = true) (hlen : (quadOf s q).pf.length ≤ 64) :
    ∀ p ∈ ps, pfCount (pfTrim s q ps) q p ≤ getF s (F.GRF_PF_CTRL_PLOT_MAX q) := by
  induction ps generalizing s with
  | nil => exact fun p hp => absurd hp List.not_mem_nil
  | cons r ps ih =>
    obtain ⟨hdev, hkey, -⟩ := ctrl_ofDevice q (F.GRF_PF_CTRL_PLOT_MAX q) (by simp)
    have hcount := pfCount_pfEvict (p := r) (q := q) (m := getF s (F.GRF_PF_CTRL_PLOT_MAX q)) hwf 64
    obtain ⟨hwf', hsub, hfields⟩ := pfShrinks_pfEvict (fun x => x.plot == r)
      (fun es => decide (getF s (F.GRF_PF_CTRL_PLOT_MAX q) < (es.filter fun x => x.plot == r).length)) 64 s hwf
    have hmax := hfields _ hdev hkey
    intro p hp
    rcases List.mem_cons.1 hp with rfl | hp
    · have hfew : pfCount s q p ≤ 64 := (List.length_filter_le _ _).trans hlen
      refine (pfCount_le_of_pfShrinks hwf' (pfShrinks_pfTrim ps _) p).trans (hcount.trans ?_)
      omega
    · have htrim := ih hwf' (hsub.length_le.trans hlen) p hp
      rwa [hmax] at htrim

theorem bits_lt (v lo w : Nat) : bits v lo w < 2 ^ w := Nat.mod_lt _ (Nat.two_pow_pos w)

/-- The state with the fields of GRF_PF_CTRL written. -/
def ctrlSet (s : State) (q life max : Nat) : State := setF (setF s (F.GRF_PF_CTRL_LIFE q) life) (F.GRF_PF_CTRL_PLOT_MAX q) max

theorem ctrlSet_shows {life max : Nat} (hlife : life < 2 ^ 8) (hmax : max < 2 ^ 8) :
    getF (ctrlSet s q life max) (F.GRF_PF_CTRL_LIFE q) = life ∧ getF (ctrlSet s q life max) (F.GRF_PF_CTRL_PLOT_MAX q) = max := by
  have hkey : (F.GRF_PF_CTRL_LIFE q).key ≠ (F.GRF_PF_CTRL_PLOT_MAX q).key := Nat.ne_of_lt (Nat.add_lt_add_left (show 0 < 8 by decide) _)
  refine ⟨?_, (getF_setF_same _ _ _).trans (Nat.mod_eq_of_lt hmax)⟩
  rw [ctrlSet, getF_setF_ne _ _ hkey, getF_setF_same]
  exact Nat.mod_eq_of_lt hlife

/-- R98, R101: a PLOT_MAX that is not reserved leaves no plot with more entries than it allows. -/
theorem ctrlWrite_runs (s : State) (q : Fin 4) (who : Party) (v : Word) (hwf : s.wf = true) (hopen : regOpen s who (A.GRF_PF_CTRL q) = true)
    (hlow : 1 ≤ bits v.toNat 8 8) (hhigh : bits v.toNat 8 8 ≤ 64) (hlen : (quadOf s q).pf.length ≤ 64) :
    Runs (.prefetchCtrlWrite q who v) s fun t =>
      getF t (F.GRF_PF_CTRL_LIFE q) = bits v.toNat 0 8 ∧ getF t (F.GRF_PF_CTRL_PLOT_MAX q) = bits v.toNat 8 8 ∧
      (∀ p, ((quadOf t q).pf.filter fun x => x.plot == p).length ≤ bits v.toNat 8 8) ∧
      (∀ e ∈ (quadOf t q).pf, e ∈ (quadOf s q).pf) := by
  have hexec : exec (.prefetchCtrlWrite q who v) s =
      .next (pfTrim (ctrlSet s q (bits v.toNat 0 8) (bits v.toNat 8 8)) q ((quadOf s q).pf.map fun x => x.plot).eraseDups) := by
    have hreserved : ¬(bits v.toNat 8 8 = 0 ∨ 64 < bits v.toNat 8 8) := by omega
    change execPrefetchCtrlWrite q who v s = _
    simp [execPrefetchCtrlWrite, hopen, hreserved, ctrlSet]
  obtain ⟨hlife, hmax⟩ := ctrlSet_shows (s := s) (q := q) (bits_lt v.toNat 0 8) (bits_lt v.toNat 8 8)
  have hquads : mwf (ctrlSet s q (bits v.toNat 0 8) (bits v.toNat 8 8)).quads = true := mwf_quads_of_wf (s := s) hwf
  have hshrinks := pfShrinks_pfTrim (q := q) ((quadOf s q).pf.map fun x => x.plot).eraseDups (ctrlSet s q (bits v.toNat 0 8) (bits v.toNat 8 8))
  obtain ⟨-, hsub, hfields⟩ := hshrinks hquads
  have hctrl (f : Fld) (hf : f ∈ [F.GRF_PF_CTRL_LIFE q, F.GRF_PF_CTRL_PLOT_MAX q]) := hfields f (ctrl_ofDevice q f hf).1 (ctrl_ofDevice q f hf).2.1
  refine ⟨_, hexec, (hctrl _ (by simp)).trans hlife, (hctrl _ (by simp)).trans hmax, fun p => ?_, fun e he => hsub.subset he⟩
  by_cases hp : p ∈ ((quadOf s q).pf.map fun x => x.plot).eraseDups
  · have htrim := pfCount_pfTrim q _ hquads hlen p hp
    rwa [hmax] at htrim
  · have hnone : pfCount s q p = 0 := by
      rw [List.mem_eraseDups] at hp
      refine List.length_eq_zero_iff.2 (List.filter_eq_nil_iff.2 fun e he hplot => hp (List.mem_map.2 ⟨e, he, ?_⟩))
      exact eq_of_beq hplot
    exact (pfCount_le_of_pfShrinks hquads hshrinks p).trans (hnone.le.trans (Nat.zero_le _))

/-- R12, R101: a reserved PLOT_MAX keeps its field, and is recorded. -/
theorem ctrlWrite_reserved_runs (s : State) (q : Fin 4) (who : Party) (v : Word) (hopen : regOpen s who (A.GRF_PF_CTRL q) = true)
    (hreserved : bits v.toNat 8 8 = 0 ∨ 64 < bits v.toNat 8 8) :
    Runs (.prefetchCtrlWrite q who v) s fun t =>
      getF t (F.GRF_PF_CTRL_LIFE q) = bits v.toNat 0 8 ∧ getF t (F.GRF_PF_CTRL_PLOT_MAX q) = getF s (F.GRF_PF_CTRL_PLOT_MAX q) ∧
      bitF t F.GLB_FORMAT_VALID = true ∧ OnlyCells s t := by
  have hexec : exec (.prefetchCtrlWrite q who v) s =
      .next (formatRecord (setF s (F.GRF_PF_CTRL_LIFE q) (bits v.toNat 0 8)) who (A.GRF_PF_CTRL q)) := by
    change execPrefetchCtrlWrite q who v s = _
    simp [execPrefetchCtrlWrite, hopen, hreserved]
  have hkey : (F.GRF_PF_CTRL_PLOT_MAX q).key ≠ (F.GRF_PF_CTRL_LIFE q).key := (Nat.ne_of_lt (Nat.add_lt_add_left (show 0 < 8 by decide) _)).symm
  have hframe := formatRecord_frame (setF s (F.GRF_PF_CTRL_LIFE q) (bits v.toNat 0 8)) who (A.GRF_PF_CTRL q)
  have hctrl (f : Fld) (hf : f ∈ [F.GRF_PF_CTRL_LIFE q, F.GRF_PF_CTRL_PLOT_MAX q]) := hframe f (ctrl_ofDevice q f hf).2.2
  refine ⟨_, hexec, (hctrl _ (by simp)).trans ?_, (hctrl _ (by simp)).trans (getF_setF_ne s _ hkey), formatRecord_valid _ _ _,
    (formatRecord_only _ _ _).trans rfl⟩
  exact (getF_setF_same s _ _).trans (Nat.mod_eq_of_lt (bits_lt _ _ _))

/-! ### LIFE (R99) -/

/-- The state without the entry at a place of the buffer. -/
def pfErased (s : State) (q k : Nat) : State := modQuad s q fun x => { x with pf := x.pf.eraseIdx k }

theorem pf_pfErased (h : mwf s.quads = true) (q k : Nat) : (quadOf (pfErased s q k) q).pf = (quadOf s q).pf.eraseIdx k :=
  congrArg Quad.pf (quadOf_modQuad_same s h q _)

theorem exec_prefetchLifeExpire {q : Fin 4} {k : Fin 64} {e : Prefetch} (hruns : quadRuns s q = true) (he : (quadOf s q).pf[k.val]? = some e) :
    exec (.prefetchLifeExpire q k) s = .next (pfReport (pfErased s q k) q 0 e) := by
  change execPrefetchLifeExpire q k s = _
  simp [execPrefetchLifeExpire, hruns, he, pfErased]

/-- R99: an entry that was delivered leaves the buffer, and nothing else changes. -/
theorem delivered_runs (s : State) (q : Fin 4) (k : Fin 64) (e : Prefetch) (hwf : s.wf = true) (hruns : quadRuns s q = true)
    (he : (quadOf s q).pf[k.val]? = some e) (hall : pfMissing e = []) :
    Runs (.prefetchLifeExpire q k) s fun t => (quadOf t q).pf = (quadOf s q).pf.eraseIdx k ∧ t = { s with quads := t.quads } := by
  refine ⟨_, (exec_prefetchLifeExpire hruns he).trans (by rw [pfReport_of_delivered hall]), pf_pfErased (mwf_quads_of_wf hwf) q k, rfl⟩

/-- R99, R100: one of which a byte was not counts as discarded, and is logged as 0x05. -/
theorem discarded_runs (s : State) (q : Fin 4) (k : Fin 64) (e : Prefetch) (hwf : s.wf = true) (hruns : quadRuns s q = true)
    (he : (quadOf s q).pf[k.val]? = some e) (hmissing : pfMissing e ≠ []) (hserving : plotState s e.plot = psServing)
    (hclosed : (mget (plotOf s e.plot).rates (rateKey 5 e.win) {}).isOpen = false) :
    Runs (.prefetchLifeExpire q k) s fun t =>
      (quadOf t q).pf = (quadOf s q).pf.eraseIdx k ∧ getF t (F.GRF_PF_COUNT_DISCARDS q) = min (getF s (F.GRF_PF_COUNT_DISCARDS q) + 1) 0xFFFFFFFF ∧
      getF t (F.PE_STATUS_LAST_FAULT e.plot) = 5 := by
  have hdev : ∀ q : Fin 4, OfDevice (F.GRF_PF_COUNT_DISCARDS q) := by
    unfold OfDevice
    decide +kernel
  obtain ⟨r, hcode, hreport⟩ := pfReport_of_missing (s := pfErased s q k) (q := q) (cause := 0) hmissing
  refine ⟨_, exec_prefetchLifeExpire hruns he, ?_, ?_, ?_⟩
  · rw [quadOf, quads_pfReport]
    exact pf_pfErased (mwf_quads_of_wf hwf) q k
  · rw [hreport, fieldsBut_faultRated _ _ _ _ _ fun f hf => ofDevice_key_ne (hdev q) (logFields_addr _ f hf), getF_bump_min]
    rfl
  · have hst : plotState (bump (pfErased s q k) (F.GRF_PF_COUNT_DISCARDS q)) e.plot = psServing := by
      refine (getF_bump_ne _ (ofDevice_key_ne (hdev q) ?_).symm).trans hserving
      simp only [F.PE_STATUS_STATE, A.PE_STATUS]
      omega
    have hlogged := faultRated_of_closed (s := bump (pfErased s q k) (F.GRF_PF_COUNT_DISCARDS q)) (p := e.plot) (scope := e.win) (r := r)
      (by rw [hcode]; exact hclosed)
    have hrated : (ratedRecord (bump (pfErased s q k) (F.GRF_PF_COUNT_DISCARDS q)) r 1 r.len 0 0).code = 5 :=
      (code_ratedRecord _ r _ _ _ _).trans hcode
    rw [hreport, hlogged]
    obtain ⟨hlast, -⟩ := faultCreate_noted (s := bump (pfErased s q k) (F.GRF_PF_COUNT_DISCARDS q)) (p := e.plot) (mwf_funcs_of_wf (s := s) hwf)
      (by rw [hst]; decide) (by rw [hst]; decide) (by rw [hrated]; decide)
    exact hlast.trans hrated

/-- Settles O23: an entry's end at LIFE, delivered or not, and the two writes of GRF_PF_CTRL. -/
theorem prefetchEntriesEnd : Obligations.PrefetchEntriesEnd := ⟨delivered_runs, discarded_runs, ctrlWrite_runs, ctrlWrite_reserved_runs⟩

end Sys2Proof.Proofs.PrefetchEnds
end

section
/-!
CLAIM. The end of a window fill (R87): the obligation, whose clauses on the fill's end read a table of fills that no premise keeps in order.
-/
namespace Sys2Proof.Proofs.WindowFills
open Sys2Proof.Machine

/-- An inbound fill of plot 0 has waited for a line to unpin, and the table of its quadrant's fills lists it twice. -/
def fillTwice : State :=
  { quads := [(0, { fills := [(fillKey 0 true, .stalled 32 {}), (fillKey 0 true, .stalled 32 {})] })] }

/-- Refutes O24: its clause on a line that has unpinned says that the fill is over, for every state with `State.wf`; but `wf` says nothing of the tables
within a quadrant, and the end of a fill takes one listing out of a table that lists each fill once. Where it stands twice, one stays. -/
theorem not_windowFillsEnd : ¬ Obligations.WindowFillsEnd := by
  intro h
  obtain ⟨-, hresumed, -⟩ := h
  obtain ⟨t, hexec, -, hover, -⟩ := hresumed fillTwice 0 32 {} true (by decide +kernel) (by decide +kernel) (by decide +kernel)
    (by decide +kernel) (by decide +kernel) (by decide +kernel) (by decide +kernel) (.inl rfl)
  obtain rfl : fillAfter (fillInstall fillTwice 0 true 32 {} true) 0 = t := Host.Outcome.next.inj hexec
  exact absurd hover (by decide +kernel)

end Sys2Proof.Proofs.WindowFills
end

section
/-!
CLAIM. Trellis FIND and the table region (R121, R123, R510): what FIND shows of the entry it finds, and what a write of one word of the table leaves
in it.
-/
namespace Sys2Proof.Proofs.TrellisFinds
open Sys2Proof.Machine Sys2Proof.Proofs.Fields Sys2Proof.Proofs.Trellis
open Sys2Proof.Proofs.PrefetchEnds (bits_lt)

variable {s : State}

/-! ### What FIND looks for (R108, R123) -/

/-- The table has 8192 buckets. -/
theorem trellisBucket_lt (cls level key : Nat) : trellisBucket cls level key < 2 ^ 13 := by
  have hhigh : bits (cls * 2 ^ 38 + level * 2 ^ 36 + key) 39 3 < 2 ^ 13 := (bits_lt _ 39 3).trans (by decide)
  exact Nat.xor_lt_two_pow (Nat.xor_lt_two_pow (bits_lt _ _ _) (bits_lt _ _ _)) (Nat.xor_lt_two_pow (bits_lt _ _ _) hhigh)

/-- FIND finds an entry of the table's 65,536. -/
theorem trlFound_lt {j : Nat} (h : trlFound s = some j) : j < 65536 := by
  unfold trlFound at h
  dsimp only at h
  split_ifs at h
  obtain ⟨d, hd, rfl⟩ := List.mem_map.1 (List.mem_of_find?_eq_some h)
  have hd := List.mem_range.1 hd
  have hb := trellisBucket_lt (keyClass (getF s F.TRL_STAGE0_V)) (keyLevel (getF s F.TRL_STAGE0_V)) (keyKey (getF s F.TRL_STAGE0_V))
  omega

/-- FIND reads the staged key and the table alone, so the command's start changes nothing of what it finds. -/
theorem trlFound_cmdStart (s : State) (i : Nat) : trlFound (cmdStart s i) = trlFound s := by
  unfold trlFound
  rw [getF_cmdStart_ne (f := F.TRL_STAGE0_V) i (by decide) (by decide)]
  rfl

/-! ### FIND, once taken -/

/-- FIND's state before RESULT where it has found entry j. -/
def showFound (s : State) (j : Nat) : State :=
  setF (setF (setF s F.TRL_STATUS_FOUND 1) F.TRL_STATUS_INDEX j) F.TRL_STAGE1_V (entryResult s j)

theorem bitF_ready_cmdStart (s : State) (i : Nat) : bitF (cmdStart s i) F.TRL_CTRL_READY = bitF s F.TRL_CTRL_READY :=
  bitF_congr (getF_cmdStart_ne i (by decide) (by decide))

theorem trlFind_found {i j : Nat} (hr : bitF s F.TRL_CTRL_READY = true) (hf : trlFound s = some j) :
    trlFind (cmdStart s i) = trlResult (showFound (cmdStart s i) j) 0 := by
  simp only [trlFind, bitF_ready_cmdStart, trlFound_cmdStart, hr, hf]
  rfl

theorem trlFind_none {i : Nat} (hr : bitF s F.TRL_CTRL_READY = true) (hf : trlFound s = none) :
    trlFind (cmdStart s i) = trlResult (setF (cmdStart s i) F.TRL_STATUS_FOUND 0) 4 := by
  simp [trlFind, bitF_ready_cmdStart, trlFound_cmdStart, hr, hf]

theorem trlFind_scanning {i : Nat} (hr : bitF s F.TRL_CTRL_READY = false) : trlFind (cmdStart s i) = trlResult (cmdStart s i) 5 := by
  simp [trlFind, bitF_ready_cmdStart, hr]

theorem exec_trellisFind {who : Party} (i : Fin 65536) (ho : regOpen s who A.TRL_CMD = true) (hb : bitF s F.TRL_STATUS_BUSY = false) :
    exec (.trellisFind who i) s = .next (trlFind (cmdStart s i)) :=
  congrArg Host.Outcome.next (trlCmd_idle i.val trlFind ho hb)

theorem getF_trlResult_same {r : Nat} (t : State) (hr : r < 16) : getF (trlResult t r) F.TRL_STATUS_RESULT = r :=
  (getF_setF_same t _ r).trans (Nat.mod_eq_of_lt hr)

theorem fieldsBut_cmdStart {fs : List Fld} (i : Nat) (hi : F.TRL_STATUS_INDEX ∈ fs) (hb : F.TRL_STATUS_BUSY ∈ fs) :
    FieldsBut s (cmdStart s i) fs :=
  fieldsBut_setF _ hi (fieldsBut_setF _ hb (fieldsBut_refl s fs))

/-- R123: FIND of a key that an entry holds. -/
theorem trellisFind_found_runs (s : State) (who : Party) (i : Fin 65536) (j : Nat) (ho : regOpen s who A.TRL_CMD = true)
    (hb : bitF s F.TRL_STATUS_BUSY = false) (hr : bitF s F.TRL_CTRL_READY = true) (hf : trlFound s = some j) (hj : entryResult s j < 2 ^ 64) :
    Runs (.trellisFind who i) s fun t =>
      bitF t F.TRL_STATUS_FOUND = true ∧ getF t F.TRL_STATUS_INDEX = j ∧ getF t F.TRL_STAGE1_V = entryResult s j ∧ getF t F.TRL_STATUS_RESULT = 0 ∧
      OnlyCells s t ∧ FieldsBut s t [F.TRL_STATUS_FOUND, F.TRL_STATUS_INDEX, F.TRL_STAGE1_V, F.TRL_STATUS_RESULT, F.TRL_STATUS_BUSY] := by
  refine ⟨trlResult (showFound (cmdStart s i) j) 0, (exec_trellisFind i ho hb).trans (congrArg _ (trlFind_found hr hf)), ?_, ?_, ?_,
    getF_trlResult_same _ (by decide), rfl, ?_⟩
  · calc bitF (trlResult (showFound (cmdStart s i) j) 0) F.TRL_STATUS_FOUND
        = bitF (showFound (cmdStart s i) j) F.TRL_STATUS_FOUND := bitF_setF_ne _ _ (by decide)
      _ = bitF (setF (setF (cmdStart s i) F.TRL_STATUS_FOUND 1) F.TRL_STATUS_INDEX j) F.TRL_STATUS_FOUND := bitF_setF_ne _ _ (by decide)
      _ = bitF (setF (cmdStart s i) F.TRL_STATUS_FOUND 1) F.TRL_STATUS_FOUND := bitF_setF_ne _ _ (by decide)
      _ = true := bitF_setF_one _ rfl
  · calc getF (trlResult (showFound (cmdStart s i) j) 0) F.TRL_STATUS_INDEX
        = getF (showFound (cmdStart s i) j) F.TRL_STATUS_INDEX := getF_setF_ne _ _ (by decide)
      _ = getF (setF (setF (cmdStart s i) F.TRL_STATUS_FOUND 1) F.TRL_STATUS_INDEX j) F.TRL_STATUS_INDEX := getF_setF_ne _ _ (by decide)
      _ = j := (getF_setF_same _ _ _).trans (Nat.mod_eq_of_lt (trlFound_lt hf))
  · calc getF (trlResult (showFound (cmdStart s i) j) 0) F.TRL_STAGE1_V
        = getF (showFound (cmdStart s i) j) F.TRL_STAGE1_V := getF_setF_ne _ _ (by decide)
      _ = entryResult s j := (getF_setF_same _ _ _).trans (Nat.mod_eq_of_lt hj)
  · exact fieldsBut_setF _ (by simp) (fieldsBut_setF _ (by simp) (fieldsBut_setF _ (by simp) (fieldsBut_setF _ (by simp)
      (fieldsBut_cmdStart i (by simp) (by simp)))))

/-- R123: FIND of a key that no entry holds. -/
theorem trellisFind_none_runs (s : State) (who : Party) (i : Fin 65536) (ho : regOpen s who A.TRL_CMD = true)
    (hb : bitF s F.TRL_STATUS_BUSY = false) (hr : bitF s F.TRL_CTRL_READY = true) (hf : trlFound s = none) :
    Runs (.trellisFind who i) s fun t =>
      bitF t F.TRL_STATUS_FOUND = false ∧ getF t F.TRL_STATUS_INDEX = i.val ∧ getF t F.TRL_STATUS_RESULT = 4 ∧ OnlyCells s t ∧
      FieldsBut s t [F.TRL_STATUS_FOUND, F.TRL_STATUS_INDEX, F.TRL_STATUS_RESULT, F.TRL_STATUS_BUSY] := by
  refine ⟨trlResult (setF (cmdStart s i) F.TRL_STATUS_FOUND 0) 4, (exec_trellisFind i ho hb).trans (congrArg _ (trlFind_none hr hf)), ?_, ?_,
    getF_trlResult_same _ (by decide), rfl, ?_⟩
  · exact (bitF_setF_ne _ _ (by decide)).trans (bitF_setF_zero _)
  · calc getF (trlResult (setF (cmdStart s i) F.TRL_STATUS_FOUND 0) 4) F.TRL_STATUS_INDEX
        = getF (setF (cmdStart s i) F.TRL_STATUS_FOUND 0) F.TRL_STATUS_INDEX := getF_setF_ne _ _ (by decide)
      _ = getF (cmdStart s i) F.TRL_STATUS_INDEX := getF_setF_ne _ _ (by decide)
      _ = i.val := (getF_setF_same _ _ _).trans (Nat.mod_eq_of_lt i.isLt)
  · exact fieldsBut_setF _ (by simp) (fieldsBut_setF _ (by simp) (fieldsBut_cmdStart i (by simp) (by simp)))

/-- R123, R126: FIND before READY. -/
theorem trellisFind_scanning_runs (s : State) (who : Party) (i : Fin 65536) (ho : regOpen s who A.TRL_CMD = true)
    (hb : bitF s F.TRL_STATUS_BUSY = false) (hr : bitF s F.TRL_CTRL_READY = false) :
    Runs (.trellisFind who i) s fun t =>
      getF t F.TRL_STATUS_RESULT = 5 ∧ getF t F.TRL_STATUS_INDEX = i.val ∧ OnlyCells s t ∧
      FieldsBut s t [F.TRL_STATUS_INDEX, F.TRL_STATUS_RESULT, F.TRL_STATUS_BUSY] := by
  obtain ⟨hres, hidx, -, -⟩ := trlResult_status (s := s) rfl (by decide : 5 < 16) i.isLt
  exact ⟨_, (exec_trellisFind i ho hb).trans (congrArg _ (trlFind_scanning hr)), hres, hidx, rfl,
    fieldsBut_setF _ (by simp) (fieldsBut_cmdStart i (by simp) (by simp))⟩

/-! ### The table region (R121, R510) -/

/-- One word of entry i is written, and the entry is struck no more. -/
def putWord (s : State) (i : Nat) (high : Bool) (v : Nat) : State :=
  { s with trl := { s.trl with table := mset s.trl.table (2 * i + if high then 1 else 0) v 0, struck := mdel s.trl.struck i } }

theorem tableWordWrite_stopped {who : Party} (i : Nat) (high : Bool) (v : Nat) (ho : partyOpen s who = true)
    (he : bitF s F.TRL_CTRL_EN = false) (hr : bitF s F.TRL_CTRL_READY = false) : tableWordWrite s who i high v = putWord s i high v := by
  simp [tableWordWrite, putWord, ho, he, hr]

theorem tableWordWrite_locked {who : Party} (i : Nat) (high : Bool) (v : Nat) (ho : partyOpen s who = true)
    (h : bitF s F.TRL_CTRL_EN = true ∨ bitF s F.TRL_CTRL_READY = true) :
    tableWordWrite s who i high v = raise (setF s F.TRL_STATUS_LOCKED_IGNORED 1) 1240 := by
  rcases h with h | h <;> simp [tableWordWrite, ho, h]

theorem entryKey_putWord_same (i : Nat) (high : Bool) (v : Nat) (h : mwf s.trl.table = true) :
    entryKey (putWord s i high v) i = if high then entryKey s i else v := by
  cases high with
  | false => exact mget_mset_same _ v 0 h
  | true =>
    have hne : 2 * i ≠ 2 * i + 1 := by omega
    exact mget_mset_ne v 0 hne h

theorem entryResult_putWord_same (i : Nat) (high : Bool) (v : Nat) (h : mwf s.trl.table = true) :
    entryResult (putWord s i high v) i = if high then v else entryResult s i := by
  cases high with
  | false =>
    have hne : 2 * i + 1 ≠ 2 * i + 0 := by omega
    exact mget_mset_ne v 0 hne h
  | true => exact mget_mset_same _ v 0 h

theorem entry_putWord_ne {i j : Nat} (high : Bool) (v : Nat) (hj : j ≠ i) (h : mwf s.trl.table = true) :
    entryKey (putWord s i high v) j = entryKey s j ∧ entryResult (putWord s i high v) j = entryResult s j := by
  have hk : 2 * j ≠ 2 * i + if high then 1 else 0 := by split <;> omega
  have hr : 2 * j + 1 ≠ 2 * i + if high then 1 else 0 := by split <;> omega
  exact ⟨mget_mset_ne v 0 hk h, mget_mset_ne v 0 hr h⟩

/-- The mark goes as it does when the whole entry is written. -/
theorem entryStruck_putWord_same (i : Nat) (high : Bool) (v : Nat) (h : mwf s.trl.struck = true) :
    entryStruck (putWord s i high v) i = false := entryStruck_writeEntry_same i 0 0 h

/-- R121, R510: a write of the table region while Trellis is stopped. -/
theorem trellisTableWrite_stopped_runs (s : State) (who : Party) (i : Fin 65536) (high : Bool) (v : Word) (hwf : s.wf = true)
    (hst : mwf s.trl.struck = true) (ho : partyOpen s who = true) (he : bitF s F.TRL_CTRL_EN = false) (hr : bitF s F.TRL_CTRL_READY = false) :
    Runs (.trellisTableWrite who i high v) s fun t =>
      entryKey t i = (if high then entryKey s i else v.toNat) ∧ entryResult t i = (if high then v.toNat else entryResult s i) ∧
      (∀ j, j ≠ i.val → entryKey t j = entryKey s j ∧ entryResult t j = entryResult s j) ∧ entryStruck t i = false ∧ t = { s with trl := t.trl } := by
  have ht : mwf s.trl.table = true := mwf_table_of_wf hwf
  exact ⟨putWord s i high v.toNat, congrArg Host.Outcome.next (tableWordWrite_stopped i.val high v.toNat ho he hr),
    entryKey_putWord_same i high _ ht, entryResult_putWord_same i high _ ht, fun _ hj => entry_putWord_ne high _ hj ht,
    entryStruck_putWord_same i high _ hst, rfl⟩

/-- R121, R510: a write of the table region while Trellis is not stopped. -/
theorem trellisTableWrite_locked_runs (s : State) (who : Party) (i : Fin 65536) (high : Bool) (v : Word) (ho : partyOpen s who = true)
    (h : bitF s F.TRL_CTRL_EN = true ∨ bitF s F.TRL_CTRL_READY = true) :
    Runs (.trellisTableWrite who i high v) s fun t =>
      bitF t F.TRL_STATUS_LOCKED_IGNORED = true ∧ Pending t 1240 ∧ OnlyCells s t ∧
      FieldsBut s t [F.TRL_STATUS_LOCKED_IGNORED, F.EVG_PEND_PEND 19] := by
  refine ⟨raise (setF s F.TRL_STATUS_LOCKED_IGNORED 1) 1240, congrArg Host.Outcome.next (tableWordWrite_locked i.val high v.toNat ho h), ?_,
    pending_raise _ rfl, ?_, fieldsBut_raise 1240 (by simp) (fieldsBut_setF 1 (by simp) (fieldsBut_refl s _))⟩
  · exact (bitF_congr (getF_raise_ne _ 1240 (by decide))).trans (bitF_setF_one s rfl)
  · have honly := raise_only (setF s F.TRL_STATUS_LOCKED_IGNORED 1) 1240
    unfold OnlyCells at honly ⊢
    rw [honly]
    rfl

/-- Settles O26: the three ends of FIND and the two of a write of the table region. -/
theorem trellisFindAndTable : Obligations.TrellisFindAndTable :=
  ⟨trellisFind_found_runs, trellisFind_none_runs, trellisFind_scanning_runs, trellisTableWrite_stopped_runs, trellisTableWrite_locked_runs⟩

end Sys2Proof.Proofs.TrellisFinds
end

section
/-!
SUPPORT. Sending from the Ledger (R127, R134, R135, R145): what the steps that give a request its entry and hand it to Pergola leave of the registers, of
its plot and of its quadrant.
-/
namespace Sys2Proof.Proofs.LedgerSends
open Sys2Proof.Machine Sys2Proof.Proofs.Fields Sys2Proof.Proofs.CanonicalForm Sys2Proof.Proofs.PlotQueue Sys2Proof.Proofs.EntryFields
open Sys2Proof.Proofs.ConfigTable

variable {s t u : State} {q p : Nat} {x : Quad}

/-! ### The fields that change, and some that do not -/

/-- The registers of the device that allocation and sending of a request of quadrant q change. -/
def sendRegisters (q : Nat) : List Fld :=
  trafficFields q ++ trafficFields (12 + q) ++
    [F.LDG_STREAM_OUT_USED q, F.LDG_OCC_WR_USED q, F.LDG_OCC_WR_HIGH q, F.LDG_OCC_RD_USED q, F.LDG_OCC_RD_HIGH q,
      F.GRF_PF_COUNT_REFUSED q]

/-- Those and the fields of plot p. -/
def sendFields (q p : Nat) : List Fld :=
  sendRegisters q ++ [F.PP_LEDGER_WRITES p, F.PP_LEDGER_READS p, F.PE_STATUS_RATE_HELD p]

theorem sendRegisters_ofDevice (hq : q < 4) : ∀ g ∈ sendRegisters q, OfDevice g := by
  have h : ∀ q : Fin 4, ∀ g ∈ sendRegisters q, OfDevice g := by
    unfold OfDevice
    decide +kernel
  exact h ⟨q, hq⟩

/-- A register of the device is not changed if it is none of those. -/
theorem ofDevice_key_ne_send {f g : Fld} (hf : OfDevice f) (hkeys : ∀ g ∈ sendRegisters q, f.key ≠ g.key) (hg : g ∈ sendFields q p) :
    f.key ≠ g.key := by
  rcases List.mem_append.1 hg with hg | hg
  · exact hkeys g hg
  · refine ofDevice_key_ne hf ?_
    simp only [List.mem_cons, List.not_mem_nil, or_false] at hg
    rcases hg with rfl | rfl | rfl <;> simp only [F.PP_LEDGER_WRITES, F.PP_LEDGER_READS, F.PE_STATUS_RATE_HELD, A.PP_LEDGER, A.PE_STATUS] <;> omega

/-- What Trellis routes by and the count of Holds are not changed. -/
theorem routeReads_key_ne {f g : Fld} (hq : q < 4) (hf : f ∈ F.LDG_HOLD_OUT q :: routeReads) (hg : g ∈ sendFields q p) : f.key ≠ g.key := by
  have hdev : ∀ q : Fin 4, ∀ f ∈ F.LDG_HOLD_OUT q :: routeReads, OfDevice f ∧ ∀ g ∈ sendRegisters q, f.key ≠ g.key := by
    unfold OfDevice
    decide +kernel
  obtain ⟨hof, hkeys⟩ := hdev ⟨q, hq⟩ f hf
  exact ofDevice_key_ne_send hof hkeys hg

/-- Nor are the plot's write-failure latches. -/
theorem latch_key_ne {g : Fld} (hq : q < 4) (hg : g ∈ sendFields q p) : (F.PP_WFL_LATCH p).key ≠ g.key := by
  rcases List.mem_append.1 hg with hg | hg
  · refine (ofDevice_key_ne (sendRegisters_ofDevice hq g hg) ?_).symm
    simp only [F.PP_WFL_LATCH, A.PP_WFL]
    omega
  · simp only [List.mem_cons, List.not_mem_nil, or_false] at hg
    rcases hg with rfl | rfl | rfl <;>
      simp only [Fld.key, F.PP_WFL_LATCH, F.PP_LEDGER_WRITES, F.PP_LEDGER_READS, F.PE_STATUS_RATE_HELD, A.PP_WFL, A.PP_LEDGER, A.PE_STATUS] <;> omega

/-! ### What is left of a plot and its quadrant -/

/-- The parts of a quadrant that a grant goes by: the Ledger, the tags of its other requests, its stream records and the plot served last. -/
def grantParts (x : Quad) : SMap LEntry × SMap TabReq × SMap Stream × Nat := (x.ledger, x.table, x.streams, x.lastPlot)

/-- A step towards the sending of a request of plot p, after which its quadrant has the parts of `x`. -/
structure Sends (s t : State) (q p : Nat) (x : Quad) : Prop where
  trl : t.trl = s.trl
  fields : FieldsBut s t (sendFields q p)
  matched : (plotOf t p).matched = (plotOf s p).matched
  quad : grantParts (quadOf t q) = grantParts x
  plots_wf : mwf t.plots = true
  quads_wf : mwf t.quads = true

theorem sends_refl (q p : Nat) (hplots : mwf s.plots = true) (hquads : mwf s.quads = true) : Sends s s q p (quadOf s q) :=
  ⟨rfl, fieldsBut_refl s _, rfl, rfl, hplots, hquads⟩

theorem Sends.ledger (h : Sends s t q p x) : (quadOf t q).ledger = x.ledger := congrArg (fun y => y.1) h.quad

theorem Sends.table (h : Sends s t q p x) : (quadOf t q).table = x.table := congrArg (fun y => y.2.1) h.quad

theorem Sends.streams (h : Sends s t q p x) : (quadOf t q).streams = x.streams := congrArg (fun y => y.2.2.1) h.quad

theorem Sends.lastPlot (h : Sends s t q p x) : (quadOf t q).lastPlot = x.lastPlot := congrArg (fun y => y.2.2.2) h.quad

theorem Sends.entryOf (h : Sends s t q p x) (tag : Nat) : entryOf t q tag = mfind x.ledger tag := by rw [Machine.entryOf, h.ledger]

/-- A route is chosen as before. -/
theorem Sends.routeOf (h : Sends s t q p x) (hq : q < 4) (node : Nat) (plot : Option Nat) :
    (routeOf t node (myNode t (1 + q)) plot).2 = (routeOf s node (myNode s (1 + q)) plot).2 := by
  have hreads (f : Fld) (hf : f ∈ routeReads) : getF t f = getF s f :=
    h.fields f fun g hg => routeReads_key_ne hq (List.mem_cons_of_mem _ hf) hg
  rw [routeOf_congr h.trl hreads, myNode, myNode, myPlace_congr hreads]

theorem Sends.latchSet (h : Sends s t q p x) (hq : q < 4) (w : Nat) : latchSet t p w = latchSet s p w := by
  rw [Machine.latchSet, Machine.latchSet, h.fields _ fun g hg => latch_key_ne hq hg]

/-! ### The rule of each step -/

/-- A step that changes no plot and no quadrant. -/
theorem Sends.registers (h : Sends s t q p x) (htrl : u.trl = t.trl) (hplots : u.plots = t.plots) (hquads : u.quads = t.quads)
    (hfields : FieldsBut t u (sendFields q p)) : Sends s u q p x := by
  refine ⟨htrl.trans h.trl, fieldsBut_trans h.fields hfields, ?_, ?_, hplots ▸ h.plots_wf, hquads ▸ h.quads_wf⟩
  · simpa only [plotOf, hplots] using h.matched
  · simpa only [quadOf, hquads] using h.quad

theorem Sends.modQuad {y : Quad} {g : Quad → Quad} (h : Sends s t q p x) (hg : grantParts (g (quadOf t q)) = grantParts y) :
    Sends s (modQuad t q g) q p y :=
  ⟨h.trl, h.fields, h.matched, by rw [quadOf_modQuad_same t h.quads_wf, hg], h.plots_wf, mwf_mset _ _ _ h.quads_wf⟩

theorem Sends.putEntry (h : Sends s t q p x) (tag : Nat) (e : LEntry) :
    Sends s (putEntry t q tag e) q p { x with ledger := mput x.ledger tag e } :=
  h.modQuad (by rw [grantParts, grantParts, h.ledger, h.table, h.streams, h.lastPlot])

theorem Sends.orderNext (h : Sends s t q p x) : Sends s (orderNext t q).1 q p x :=
  h.modQuad (g := fun v => { v with stamp := v.stamp + 1 }) h.quad

theorem Sends.fenceNote (h : Sends s t q p x) (node : Nat) : Sends s (fenceNote t q p node).1 q p x := by
  unfold Machine.fenceNote
  dsimp only
  split_ifs
  · exact h.modQuad h.quad
  · exact h

theorem fieldsBut_highWater {fs : List Fld} {f : Fld} (v : Nat) (hf : f ∈ fs) (h : FieldsBut s t fs) : FieldsBut s (highWater t f v) fs := by
  unfold highWater
  split_ifs
  · exact fieldsBut_setF v hf h
  · exact h

/-- The records in use are shown (R165). -/
theorem Sends.putStream (h : Sends s t q p x) (hp : quadrantOf p = q) (strm : Nat) (r : Stream) :
    Sends s (putStream t p strm r) q p { x with streams := mput x.streams (streamKey p strm) r } := by
  have hput : Sends s (Machine.modQuad t q fun u => { u with streams := mput u.streams (streamKey p strm) r }) q p
      { x with streams := mput x.streams (streamKey p strm) r } :=
    h.modQuad (by rw [grantParts, grantParts, h.ledger, h.table, h.streams, h.lastPlot])
  unfold Machine.putStream streamUsed
  rw [hp]
  exact hput.registers rfl rfl rfl (fieldsBut_setF _ (by simp [sendFields, sendRegisters]) (fieldsBut_refl _ _))

/-- The entries in use are shown (R145, R164). -/
theorem Sends.ledgerOcc (h : Sends s t q p x) : Sends s (ledgerOcc t q p) q p x := by
  unfold Machine.ledgerOcc
  dsimp only
  refine h.registers (by simp) (by simp) (by simp) ?_
  refine fieldsBut_setF _ (by simp [sendFields]) (fieldsBut_setF _ (by simp [sendFields]) ?_)
  refine fieldsBut_highWater _ (by simp [sendFields, sendRegisters]) (fieldsBut_setF _ (by simp [sendFields, sendRegisters]) ?_)
  exact fieldsBut_highWater _ (by simp [sendFields, sendRegisters]) (fieldsBut_setF _ (by simp [sendFields, sendRegisters]) (fieldsBut_refl _ _))

/-- Hedge's tag is put in place (R117). -/
theorem Sends.tagFix (h : Sends s t q p x) (r : Nat) : Sends s (tagFix t r) q p x := by
  have honly := tagFix_only t r
  have hfields : FieldsBut t (Machine.tagFix t r) (sendFields q p) :=
    fieldsBut_mono (fun f hf => by simp [sendFields, sendRegisters, hf]) (fieldsBut_tagFix (q := q) r)
  exact h.registers (by rw [honly]) (by rw [honly]) (by rw [honly]) hfields

theorem Sends.rateShow (h : Sends s t q p x) : Sends s (rateShow t p) q p x := by
  have honly := rateShow_only t p
  have hquads : (Machine.rateShow t p).quads = t.quads := by rw [honly]
  obtain ⟨b, hplot⟩ := plotOf_rateShow (p := p) h.plots_wf
  refine ⟨by rw [honly]; exact h.trl, fieldsBut_trans h.fields (fieldsBut_mono (by simp [sendFields]) (fieldsBut_rateShow t p)), ?_, ?_,
    mwf_plots_rateShow h.plots_wf, hquads ▸ h.quads_wf⟩
  · rw [hplot]
    exact h.matched
  · simpa only [quadOf, hquads] using h.quad

theorem Sends.modPlot {g : Plot → Plot} (h : Sends s t q p x) (hg : ∀ y, (g y).matched = y.matched) : Sends s (modPlot t p g) q p x :=
  ⟨h.trl, h.fields, by rw [plotOf_modPlot_same t h.plots_wf, hg, h.matched], h.quad, mwf_mset _ _ _ h.plots_wf, h.quads_wf⟩

/-- Both transmit buckets count a send (R57, R408). -/
theorem Sends.txCount (h : Sends s t q p x) (n : Nat) : Sends s (txCount t p n) q p x := by
  have hcap {t : State} (h : Sends s t q p x) (hdg : Hedge) : Sends s { t with hdg := hdg } q p x :=
    h.registers rfl rfl rfl (fieldsBut_congr rfl (fieldsBut_refl _ _))
  unfold Machine.txCount
  dsimp only
  split_ifs
  · exact hcap h _
  · exact hcap (h.modPlot (g := fun y => { y with tx := y.tx - n }) fun _ => rfl).rateShow _

/-- They take back a count (R57, R408). -/
theorem Sends.txRefund (h : Sends s t q p x) (n : Nat) : Sends s (txRefund t p n) q p x := by
  have hcap {t : State} (h : Sends s t q p x) (hdg : Hedge) : Sends s { t with hdg := hdg } q p x :=
    h.registers rfl rfl rfl (fieldsBut_congr rfl (fieldsBut_refl _ _))
  unfold Machine.txRefund
  dsimp only
  split_ifs
  · exact h
  · exact hcap h _
  · exact hcap (h.modPlot (g := fun y => { y with tx := max y.tx (min (y.tx + n) (rateDepth t p 0)) }) fun _ => rfl).rateShow _

theorem Sends.txSettle (h : Sends s t q p x) (charged n : Nat) : Sends s (txSettle t p charged n) q p x := by
  unfold Machine.txSettle
  split_ifs
  · exact h.txCount _
  · exact h.txRefund _

/-- A request enters Pergola (R21, R213). -/
theorem Sends.sendTxn (h : Sends s t q p x) (tag : Nat) (e : LEntry) (egress : Nat) (r : FabReq) : Sends s (sendTxn t q tag e egress r) q p x := by
  have honly := pgaPush_only t egress 0 (flowOf e) { ingress := ingressOf q e, txn := .req r, entry := some (q, tag) }
  have hfields : FieldsBut t (Machine.sendTxn t q tag e egress r) (sendFields q p) := by
    refine fieldsBut_mono ?_ (fieldsBut_pgaPush (q := ingressOf q e) egress 0 (flowOf e) rfl)
    intro f hf
    unfold ingressOf at hf
    split_ifs at hf <;> simp [sendFields, sendRegisters, hf]
  unfold Machine.sendTxn at hfields ⊢
  exact h.registers (by rw [honly]) (by rw [honly]) (by rw [honly]) hfields

/-- A request of the receive buffer takes the place that has come free (R58). -/
theorem Sends.pullHeld (h : Sends s t q p x) (hp : quadrantOf p = q) : Sends s (pullHeld t p) q p x := by
  rcases pullHeld_cases t p with heq | ⟨y, heq⟩ <;> rw [heq]
  · exact h.rateShow
  · rw [hp]
    exact ((h.modQuad (g := fun v => { v with held := v.held.erase y }) h.quad).modPlot (g := fun v => { v with queue := v.queue ++ [y.2] })
      fun _ => rfl).rateShow

end Sys2Proof.Proofs.LedgerSends
end

section
/-!
SUPPORT. Turns at the Ledger (R131, R132, R196): a wait on an empty pool that has been noted changes neither whose turn it is nor who can have an entry.
-/
namespace Sys2Proof.Proofs.LedgerTurns
open Sys2Proof.Machine Sys2Proof.Proofs.Fields Sys2Proof.Proofs.EntryFields Sys2Proof.Proofs.ConfigTable Sys2Proof.Proofs.Admission

variable {s t : State} {q : Nat}

/-! ### What a note leaves -/

/-- The registers that the turns and the entries of quadrant q go by. -/
def turnRegisters (q : Nat) : List Fld :=
  [F.RST_SOFT_QUAD, F.PWM_STATUS_MODE, F.PWM_GATE_RUN, F.PGA_POOL_CAP, F.LDG_LIMIT_WR_PLOT q, F.LDG_LIMIT_RD_PLOT q, F.LDG_LIMIT_WR_DMA q,
    F.LDG_LIMIT_RD_DMA q, F.DMA_CTRL_CHAN_OUT q, F.DMA_BUF_USED q] ++ routeReads

/-- A wait on an empty pool has been noted, or nothing has. -/
structure Noted (s t : State) (q : Nat) : Prop where
  only : t = { s with cells := t.cells, quads := t.quads }
  fields : FieldsBut s t (fullFields q)
  quad : ∃ b, quadOf t q = { quadOf s q with short := b }
  quads_wf : mwf t.quads = true

theorem noted_refl (h : mwf s.quads = true) : Noted s s q := ⟨rfl, fieldsBut_refl s _, ⟨_, rfl⟩, h⟩

theorem noted_poolShort (h : mwf s.quads = true) : Noted s (poolShort s q) q := by
  have hquads : (poolShort s q).quads = (modQuad s q fun x => { x with short := true }).quads := setEv_quads _ _ _
  refine ⟨poolShort_only s q, fieldsBut_poolShort s q, ⟨true, ?_⟩, ?_⟩
  · rw [quadOf, hquads]
    exact quadOf_modQuad_same s h q _
  · rw [hquads]
    exact mwf_mset _ _ _ h

theorem full_ofDevice (hq : q < 4) : ∀ f ∈ fullFields q, OfDevice f := by
  have h : ∀ q : Fin 4, ∀ f ∈ fullFields q, OfDevice f := by
    unfold OfDevice
    decide +kernel
  exact h ⟨q, hq⟩

theorem Noted.register (h : Noted s t q) (hq : q < 4) {f : Fld} (hf : f ∈ turnRegisters q) : getF t f = getF s f := by
  have hkeys : ∀ q : Fin 4, ∀ f ∈ turnRegisters q, ∀ g ∈ fullFields q, f.key ≠ g.key := by decide +kernel
  exact h.fields f (hkeys ⟨q, hq⟩ f hf)

/-- The fields of plots stand. -/
theorem Noted.plotField (h : Noted s t q) (hq : q < 4) {f : Fld} (hf : 0x100000000 ≤ f.addr) : getF t f = getF s f :=
  getF_of_device h.fields (full_ofDevice hq) hf

/-! ### Entries and queues -/

theorem tagFrom_congr {x y : Quad} (hledger : y.ledger = x.ledger) (htable : y.table = x.table) (n k : Nat) : tagFrom y n k = tagFrom x n k := by
  induction n generalizing k with
  | zero => rw [tagFrom, tagFrom, hledger]
  | succ n ih => simp only [tagFrom, hledger, htable, ih]

theorem freeTag_congr (hledger : (quadOf t q).ledger = (quadOf s q).ledger) (htable : (quadOf t q).table = (quadOf s q).table) :
    freeTag t q = freeTag s q := by
  rw [freeTag, freeTag, htable, tagFrom_congr hledger htable]

theorem Noted.ledger (h : Noted s t q) : (quadOf t q).ledger = (quadOf s q).ledger := by
  obtain ⟨b, hquad⟩ := h.quad
  rw [hquad]

theorem Noted.freeTag (h : Noted s t q) : freeTag t q = freeTag s q := by
  obtain ⟨b, hquad⟩ := h.quad
  exact freeTag_congr (by rw [hquad]) (by rw [hquad])

theorem Noted.usedEntries (h : Noted s t q) (wr : Bool) (f : LEntry → Bool) : usedEntries t q wr f = usedEntries s q wr f := by
  rw [Machine.usedEntries, Machine.usedEntries, h.ledger]

theorem Noted.ledgerRoom (h : Noted s t q) (hq : q < 4) (p : Nat) (wr host : Bool) : ledgerRoom t q p wr host = ledgerRoom s q p wr host := by
  simp only [Machine.ledgerRoom, h.usedEntries, h.freeTag, h.register hq (show F.LDG_LIMIT_WR_PLOT q ∈ turnRegisters q by simp [turnRegisters]),
    h.register hq (show F.LDG_LIMIT_RD_PLOT q ∈ turnRegisters q by simp [turnRegisters]),
    h.register hq (show F.LDG_LIMIT_WR_DMA q ∈ turnRegisters q by simp [turnRegisters]),
    h.register hq (show F.LDG_LIMIT_RD_DMA q ∈ turnRegisters q by simp [turnRegisters])]

theorem Noted.voqOpen (h : Noted s t q) (hq : q < 4) (i e c : Nat) : voqOpen t i e c = voqOpen s i e c := by
  have hpga : t.pga = s.pga := by rw [h.only]
  have hallow : voqAllow t i e c = voqAllow s i e c := by
    simp only [voqAllow, voqBeats, sharedBeats, queuedAt, hpga, h.register hq (show F.PGA_POOL_CAP ∈ turnRegisters q by simp [turnRegisters])]
  rw [Machine.voqOpen, Machine.voqOpen, hallow, hpga, queuedAt, queuedAt, hpga]

theorem Noted.routeOf (h : Noted s t q) (hq : q < 4) (node : Nat) (plot : Option Nat) :
    (routeOf t node (myNode t (1 + q)) plot).2 = (routeOf s node (myNode s (1 + q)) plot).2 := by
  have hreads (f : Fld) (hf : f ∈ routeReads) : getF t f = getF s f := h.register hq (List.mem_append_right _ hf)
  have htrl : t.trl = s.trl := by rw [h.only]
  rw [routeOf_congr htrl hreads, myNode, myNode, myPlace_congr hreads]

theorem Noted.routeOpen (h : Noted s t q) (hq : q < 4) (i node : Nat) (plot : Option Nat) :
    routeOpen t i 0 (Machine.routeOf t node (myNode t (1 + q)) plot).2 = routeOpen s i 0 (Machine.routeOf s node (myNode s (1 + q)) plot).2 := by
  rw [h.routeOf hq]
  cases (Machine.routeOf s node (myNode s (1 + q)) plot).2 with
  | fail n => rfl
  | egress f r => exact h.voqOpen hq _ _ _
  | reflect => exact h.voqOpen hq _ _ _

/-! ### The turn of a plot -/

theorem Noted.plots (h : Noted s t q) : t.plots = s.plots := by rw [h.only]

theorem Noted.mayGrant (h : Noted s t q) (hq : q < 4) (p : Nat) (m : Matched) : mayGrant t q p m = mayGrant s q p m := by
  rw [Machine.mayGrant, Machine.mayGrant, grantOpen, grantOpen, h.ledgerRoom hq, h.routeOpen hq]

theorem Noted.grantPick (h : Noted s t q) (hq : q < 4) (p : Nat) : grantPick t q p = grantPick s q p := by
  have hplot : plotOf t p = plotOf s p := by simp only [plotOf, h.plots]
  have hmay : Machine.mayGrant t q p = Machine.mayGrant s q p := funext (h.mayGrant hq p)
  rw [Machine.grantPick, Machine.grantPick, hplot, hmay]

/-! ### The turn of the DMA cluster -/

/-- On a turn of its own the cluster is not held back by those that wait (R132). -/
theorem Noted.reqMay (h : Noted s t q) (hq : q < 4) {p : Nat} (hp : quadrantOf p = q) (wr : Bool) (r : DReq) : reqMay t p wr true r = reqMay s p wr true r := by
  unfold Machine.reqMay dmaRoom
  rw [hp]
  cases r.node with
  | none => exact h.voqOpen hq _ _ _
  | some n => simp only [h.ledgerRoom hq, h.routeOpen hq, Bool.true_or]

theorem Noted.chanReady (h : Noted s t q) (hq : q < 4) {p : Nat} (hp : quadrantOf p = q) (x : Chan) :
    chanReady t p x (Machine.reqMay t p false true) = chanReady s p x (Machine.reqMay s p false true) := by
  have hroom : Machine.reqMay t p false true = Machine.reqMay s p false true := funext (h.reqMay hq hp false)
  have hmem : memOpen t p = memOpen s p := by
    rw [memOpen, memOpen, plotState, plotState, h.plotField hq (by simp only [F.PE_STATUS_STATE, A.PE_STATUS]; omega), h.only]
    rfl
  have htx : txAdmits t p = txAdmits s p := by
    rw [txAdmits, txAdmits, h.plotField hq (by simp only [F.PE_RATE_RATE, A.PE_RATE]; omega), h.only]
    rfl
  unfold Machine.chanReady
  dsimp only
  rw [hroom, hp, hmem, htx, h.register hq (show F.DMA_CTRL_CHAN_OUT q ∈ turnRegisters q by simp [turnRegisters]),
    h.register hq (show F.DMA_BUF_USED q ∈ turnRegisters q by simp [turnRegisters])]

theorem quadrantOf_mem_quadChans {x : Nat × Chan} (hx : x ∈ quadChans s q) : quadrantOf (x.1 / 256) = q := by
  have hkey : x.1 / 262144 = q := eq_of_beq (List.mem_filter.1 hx).2
  rw [quadrantOf, Nat.div_div_eq_div_mul, ← hkey]

theorem Noted.quadChans (h : Noted s t q) : quadChans t q = quadChans s q := by
  have hchans : t.chans = s.chans := by rw [h.only]
  rw [Machine.quadChans, Machine.quadChans, hchans]

theorem Noted.schedule (h : Noted s t q) (hq : q < 4) :
    schedule t q (fun p r => Machine.reqMay t p false true r) = schedule s q fun p r => Machine.reqMay s p false true r := by
  have hready (lvl : Nat) : readyAt t q lvl (fun p r => Machine.reqMay t p false true r) = readyAt s q lvl fun p r => Machine.reqMay s p false true r := by
    unfold readyAt
    rw [h.quadChans]
    refine congrArg _ (List.filter_congr fun x hx => ?_)
    have hlevel : chanLevel t (x.1 / 256) x.2 = chanLevel s (x.1 / 256) x.2 := by
      rw [chanLevel, chanLevel, h.plotField hq (by simp only [F.PE_SHARE_DMA_PRIO_CEIL, A.PE_SHARE]; omega)]
    rw [hlevel, h.chanReady hq (quadrantOf_mem_quadChans hx)]
  have hlast : (quadOf t q).dmaLast = (quadOf s q).dmaLast := by
    obtain ⟨b, hquad⟩ := h.quad
    rw [hquad]
  simp only [Machine.schedule, hready, hlast]

theorem isSome_burstNext (s : State) (q : Nat) : (burstNext s q true).isSome =
    ((schedule s q fun p r => reqMay s p false true r).bind fun x => issuing (chanOf s (x.2 / 256) (x.2 % 256))).isSome := by
  unfold burstNext
  cases schedule s q fun p r => reqMay s p false true r with
  | none => rfl
  | some x => simp

/-- A request that waits at its channel can be sent in the cluster's turn. -/
def waitsSendable (s : State) (wr : Bool) (x : Nat × Chan) : Bool :=
  ((if wr then x.2.nextWrite else x.2.nextRead).map fun y => reqMay s (x.1 / 256) wr true y.2.2).getD false

theorem isSome_dmaTurn (s : State) (q : Nat) : (dmaTurn s q).isSome =
    (((quadChans s q).find? (waitsSendable s true)).isSome || (((quadChans s q).find? (waitsSendable s false)).isSome || (burstNext s q true).isSome)) := by
  have hfind (wr : Bool) : (((quadChans s q).find? (waitsSendable s wr)).map fun x => chanSend s (x.1 / 256) (x.1 % 256) wr true 1).isSome =
      ((quadChans s q).find? (waitsSendable s wr)).isSome := Option.isSome_map
  rw [← hfind, ← hfind, ← Option.isSome_or, ← Option.isSome_or]
  rfl

theorem Noted.dmaTurn (h : Noted s t q) (hq : q < 4) : (dmaTurn t q).isSome = (dmaTurn s q).isSome := by
  have hwaits (wr : Bool) : (Machine.quadChans s q).find? (waitsSendable t wr) = (Machine.quadChans s q).find? (waitsSendable s wr) := by
    refine List.find?_congr fun x hx => ?_
    have hmay : Machine.reqMay t (x.1 / 256) wr true = Machine.reqMay s (x.1 / 256) wr true := funext (h.reqMay hq (quadrantOf_mem_quadChans hx) wr)
    rw [waitsSendable, waitsSendable, hmay]
  have hchan (p c : Nat) : chanOf t p c = chanOf s p c := by
    rw [chanOf, chanOf, h.only]
  rw [isSome_dmaTurn, isSome_dmaTurn, h.quadChans, hwaits, hwaits, isSome_burstNext, isSome_burstNext, h.schedule hq]
  simp only [hchan]

/-! ### Turns (R132) -/

theorem Noted.turnsOf (h : Noted s t q) (hq : q < 4) : turnsOf t q = turnsOf s q := by
  have hwait : waitingPlots t q = waitingPlots s q := by rw [waitingPlots, waitingPlots, h.plots]
  have hlast : (quadOf t q).lastPlot = (quadOf s q).lastPlot := by
    obtain ⟨b, hquad⟩ := h.quad
    rw [hquad]
  have hheld : heldQ t q 3 = heldQ s q 3 := by
    rw [heldQ, heldQ, h.register hq (show F.RST_SOFT_QUAD ∈ turnRegisters q by simp [turnRegisters])]
  have hruns : quadRuns t q = quadRuns s q := by
    rw [quadRuns, quadRuns, coreRuns, coreRuns, pwmMode, pwmMode, h.register hq (show F.PWM_STATUS_MODE ∈ turnRegisters q by simp [turnRegisters]),
      h.register hq (show F.PWM_GATE_RUN ∈ turnRegisters q by simp [turnRegisters])]
  rw [Machine.turnsOf, Machine.turnsOf, hwait, hlast, hheld, hruns]

/-- A requester that could have no entry can have none after the note. -/
theorem Noted.turnServe_none (h : Noted s t q) (hq : q < 4) {x : Turn} (hx : turnServe s q [x] = none) : turnServe t q [x] = none := by
  cases x with
  | plot p =>
    simp only [turnServe, h.grantPick hq] at hx ⊢
    cases hpick : Machine.grantPick s q p with
    | none => rfl
    | some m => simp [hpick] at hx
  | dma =>
    have hturn : (Machine.dmaTurn s q).isSome = false := by
      cases hdma : Machine.dmaTurn s q with
      | none => rfl
      | some u => simp [turnServe, hdma] at hx
    rw [← h.dmaTurn hq, Option.isSome_eq_false_iff, Option.isNone_iff_eq_none] at hturn
    simp [turnServe, hturn]

/-- Requesters that can have no entry are passed over. -/
theorem turnServe_append {xs ys : List Turn} (h : ∀ x ∈ xs, turnServe s q [x] = none) : turnServe s q (xs ++ ys) = turnServe s q ys := by
  induction xs with
  | nil => rfl
  | cons x xs ih =>
    have hx := h x List.mem_cons_self
    have hrest := ih fun y hy => h y (List.mem_cons_of_mem _ hy)
    cases x with
    | plot p =>
      cases hpick : grantPick s q p with
      | none => simpa [turnServe, hpick] using hrest
      | some m => simp [turnServe, hpick] at hx
    | dma =>
      cases hdma : dmaTurn s q with
      | none => simpa [turnServe, hdma] using hrest
      | some u => simp [turnServe, hdma] at hx

end Sys2Proof.Proofs.LedgerTurns
end

section
/-!
SUPPORT. Requests that the Ledger sends (R127, R135, R136, R146, R175): a read that waits no longer, a posted write, and the Hold of an emulated AtomicOp.
-/
namespace Sys2Proof.Proofs.LedgerRequests
open Sys2Proof.Machine Sys2Proof.Proofs.Fields Sys2Proof.Proofs.LedgerSends Sys2Proof.Proofs.LedgerTurns

variable {s t u : State} {q p f r tag : Nat} {x : Quad} {e : LEntry} {m : Matched}

/-- A route to a port leaves the state as it is. -/
theorem routeOf_of_egress {d n : Nat} {plot : Option Nat} (h : (routeOf s d n plot).2 = .egress f r) : routeOf s d n plot = (s, .egress f r) := by
  refine Prod.ext ?_ h
  unfold routeOf at h ⊢
  split_ifs at h ⊢
  generalize trellisLookup s 1 (d * 2 ^ 16) = hit at h ⊢
  cases hit with
  | none => cases h
  | some i =>
    dsimp only at h ⊢
    split_ifs at h ⊢
    generalize choosePort (usablePorts s (plotPorts s (resPorts (entryResult s i)) plot)) (resSelect (entryResult s i)) n d = port at h ⊢
    cases port with
    | none => cases h
    | some g => rfl

/-! ### Reads (R136, R146) -/

/-- With no stream record there is nothing to wait on, and none to free. -/
theorem streamOf_of_nil (h : (quadOf s (quadrantOf p)).streams = []) (strm : Nat) : streamOf s p strm = none := by rw [streamOf, h, mfind_nil]

theorem entryReady_of_nil (h : (quadOf s (quadrantOf e.plot)).streams = []) : entryReady s e = true := by
  simp [entryReady, reached, streamOf_of_nil h]

theorem streamLeave_of_nil (h : (quadOf s (quadrantOf e.plot)).streams = []) : streamLeave s e = s := by
  have hfree (strm : Nat) : streamFree s e.plot strm = s := by simp [streamFree, streamOf_of_nil h]
  simp [streamLeave, hfree]

/-- A fenced entry that waits for nothing is released. -/
theorem releaseReads_ready (he : entryOf s q tag = some e) (hst : e.st = .fenced) (hready : entryReady s e = true) :
    releaseReads s q [tag] = releaseFenced s q tag e := by simp [releaseReads, he, hst, hready]

/-- A native read whose window has no latch set is sent. -/
theorem releaseFenced_native (hlatch : latchSet s e.plot e.win = false) (hzero : e.req.zero = false) (hemu : e.emu = none) :
    releaseFenced s q tag e = sendRead s q tag e false := by simp [releaseFenced, hlatch, hzero, hemu]

/-- A native read or AtomicOp as it is sent. -/
def sentEntry (e : LEntry) (ordered : Bool) (egress ext : Nat) : LEntry :=
  { e with st := .issued, ordered := ordered, egress := egress, ext := ext, extCause := none, resent := e.retry, charged := 0 }

/-- One that Trellis leads to a port is entered as sent and handed to Pergola. -/
theorem sendRead_of_egress (ordered : Bool) (hlocal : e.localSt = none)
    (hroute : (routeOf s e.node (myNode s (1 + q)) (some e.plot)).2 = .egress f r) :
    ∃ (b : Bool) (ext n : Nat) (req : FabReq), sendRead s q tag e ordered = streamLeave (sendTxn (putEntry (tagFix (txSettle
      (if b then bump s (F.GRF_PF_COUNT_REFUSED q) else s) e.plot e.charged n) e.plot) q tag (sentEntry e ordered (4 + f) ext)) q tag (sentEntry e ordered (4 + f) ext) (4 + f) req)
      (sentEntry e ordered (4 + f) ext) := by
  unfold sendRead
  simp only [sentEntry, hlocal, routeOf_of_egress hroute]
  exact ⟨_, _, _, _, rfl⟩

theorem sends_sendRead (h : Sends s t q e.plot x) (hq : q < 4) (hp : quadrantOf e.plot = q) (hlocal : e.localSt = none) (hstreams : x.streams = [])
    (hroute : (routeOf s e.node (myNode s (1 + q)) (some e.plot)).2 = .egress f r) (ordered : Bool) :
    ∃ ext, Sends s (sendRead t q tag e ordered) q e.plot { x with ledger := mput x.ledger tag (sentEntry e ordered (4 + f) ext) } := by
  obtain ⟨b, ext, n, req, heq⟩ := sendRead_of_egress (tag := tag) ordered hlocal ((h.routeOf hq e.node (some e.plot)).trans hroute)
  have hcount : Sends s (if b then bump t (F.GRF_PF_COUNT_REFUSED q) else t) q e.plot x := by
    split_ifs
    · exact h.registers rfl rfl rfl (fieldsBut_setF _ (by simp [sendFields, sendRegisters]) (fieldsBut_refl _ _))
    · exact h
  have hsent := (((hcount.txSettle e.charged n).tagFix e.plot).putEntry tag (sentEntry e ordered (4 + f) ext)).sendTxn tag
    (sentEntry e ordered (4 + f) ext) (4 + f) req
  refine ⟨ext, ?_⟩
  rw [heq, streamLeave_of_nil]
  · exact hsent
  · change (quadOf _ (quadrantOf e.plot)).streams = []
    rw [hp, hsent.streams, hstreams]

/-- A fenced read that no stream record holds back is sent. -/
theorem sends_releaseReads (h : Sends s t q e.plot x) (hq : q < 4) (hp : quadrantOf e.plot = q) (he : entryOf t q tag = some e) (hst : e.st = .fenced)
    (hlatch : latchSet s e.plot e.win = false) (hzero : e.req.zero = false) (hemu : e.emu = none) (hlocal : e.localSt = none)
    (hstreams : x.streams = []) (hroute : (routeOf s e.node (myNode s (1 + q)) (some e.plot)).2 = .egress f r) :
    ∃ ext, Sends s (releaseReads t q [tag]) q e.plot { x with ledger := mput x.ledger tag (sentEntry e false (4 + f) ext) } := by
  have hready : entryReady t e = true := entryReady_of_nil (by rw [hp, h.streams, hstreams])
  rw [releaseReads_ready he hst hready, releaseFenced_native ((h.latchSet hq e.win).trans hlatch) hzero hemu]
  exact sends_sendRead h hq hp hlocal hstreams hroute false

/-- A host read as it is allocated: it waits in fence mode (R136). -/
structure FencedRead (e : LEntry) (p : Nat) (m : Matched) : Prop where
  kind : e.kind = .read
  plot : e.plot = p
  win : e.win = m.win
  gen : e.gen = m.gen
  node : e.node = m.node
  addr : e.addr = m.addr
  len : e.len = m.req.len
  req : e.req = m.req
  st : e.st = .fenced
  emu : e.emu = none
  localSt : e.localSt = none

/-- Where no write of the plot is outstanding, a read of a window that is not ordered is allocated and waits for nothing. -/
theorem allocRead_fenced (hp : quadrantOf p = q) (hquads : mwf s.quads = true) (hread : m.req.kind = .read) (hordered : m.entry.ordered = false)
    (hstreams : (quadOf s q).streams = []) (hroute : (routeOf s m.node (myNode s (1 + q)) (some p)).2 = .egress f r) :
    ∃ e n, FencedRead e p m ∧ allocRead s q p m =
      releaseReads (fenceNote (ledgerOcc (putEntry (txCount (orderNext s q).1 p n) q (freeTag (orderNext s q).1 q) e) q p) q p m.node).1 q
        [freeTag (orderNext s q).1 q] := by
  have hneed (strm : Nat) : streamNeed (orderNext s q).1 p strm = 0 := by
    rw [streamNeed, streamOf_of_nil]
    rw [hp, orderNext, quadOf_modQuad_same s hquads, hstreams]
  unfold allocRead
  simp only [hread, routeOf_of_egress hroute, Option.isNone_none, Bool.and_true, beq_iff_eq, reduceCtorEq, ↓reduceIte, hordered, Option.isSome_none,
    Bool.false_eq_true, hneed, bne_self_eq_false, Bool.or_false, Bool.false_and, BEq.rfl]
  refine ⟨_, _, ?_, rfl⟩
  constructor <;> rfl

/-! ### Posted writes (R27, R135) -/

/-- A posted write as it is allocated (R134). -/
def newWrite (s : State) (q p : Nat) (m : Matched) : LEntry :=
  { kind := .write, hostPath := true, plot := p, win := m.win, gen := m.gen, node := m.node, addr := m.addr, len := m.req.len,
    removal := m.entry.removal, strm := writeStrm (orderNext s q).1 p m.node,
    seq := (streamAlloc (orderNext s q).1 p (writeStrm (orderNext s q).1 p m.node)).2,
    allocated := (streamAlloc (orderNext s q).1 p (writeStrm (orderNext s q).1 p m.node)).1.now, req := m.req, order := (orderNext s q).2 }

/-- The state in which its route is chosen. -/
def writeEntered (s : State) (q p : Nat) (m : Matched) : State :=
  ledgerOcc (putEntry (streamAlloc (orderNext s q).1 p (writeStrm (orderNext s q).1 p m.node)).1 q (freeTag (orderNext s q).1 q)
    (newWrite s q p m)) q p

/-- As it stands Queued for an egress. -/
def queuedWrite (s : State) (q p : Nat) (m : Matched) (egress : Nat) : LEntry := { newWrite s q p m with egress := egress }

theorem allocWrite_of_egress
    (hroute : (routeOf (writeEntered s q p m) m.node (myNode (writeEntered s q p m) (1 + q)) (some p)).2 = .egress f r) :
    ∃ req, allocWrite s q p m =
      sendTxn (txCount (tagFix (putEntry (writeEntered s q p m) q (freeTag (orderNext s q).1 q) (queuedWrite s q p m (4 + f))) p) p m.req.len)
        q (freeTag (orderNext s q).1 q) (queuedWrite s q p m (4 + f)) (4 + f) req := by
  have h := routeOf_of_egress hroute
  simp only [writeEntered, queuedWrite, newWrite] at h ⊢
  simp only [allocWrite, h]
  exact ⟨_, rfl⟩

/-- A number in the order of allocation takes no tag. -/
theorem freeTag_orderNext (h : mwf s.quads = true) : freeTag (orderNext s q).1 q = freeTag s q := by
  have hquad := quadOf_modQuad_same s h q fun v => { v with stamp := v.stamp + 1 }
  exact freeTag_congr ((congrArg Quad.ledger hquad).trans rfl) ((congrArg Quad.table hquad).trans rfl)

theorem sends_allocWrite (hplots : mwf s.plots = true) (hquads : mwf s.quads = true) (hq : q < 4) (hp : quadrantOf p = q)
    (hroute : (routeOf s m.node (myNode s (1 + q)) (some p)).2 = .egress f r) :
    ∃ x, Sends s (allocWrite s q p m) q p x ∧ mfind x.ledger (freeTag s q) = some (queuedWrite s q p m (4 + f)) ∧
      x.lastPlot = (quadOf s q).lastPlot := by
  have hentered : ∃ x, Sends s (writeEntered s q p m) q p x ∧ x.lastPlot = (quadOf s q).lastPlot :=
    ⟨_, (((sends_refl q p hplots hquads).orderNext.putStream hp _ _).putEntry _ _).ledgerOcc, rfl⟩
  obtain ⟨x, hx, hlast⟩ := hentered
  obtain ⟨req, heq⟩ := allocWrite_of_egress ((hx.routeOf hq m.node (some p)).trans hroute)
  rw [heq, freeTag_orderNext hquads]
  exact ⟨_, (((hx.putEntry _ _).tagFix p).txCount _).sendTxn _ _ _ _, mfind_mput_same _ _ _, hlast⟩

theorem sends_allocRead (hplots : mwf s.plots = true) (hquads : mwf s.quads = true) (hq : q < 4) (hp : quadrantOf p = q)
    (hread : m.req.kind = .read) (hzero : m.req.zero = false) (hordered : m.entry.ordered = false) (hstreams : (quadOf s q).streams = [])
    (hlatch : latchSet s p m.win = false) (hroute : (routeOf s m.node (myNode s (1 + q)) (some p)).2 = .egress f r) :
    ∃ x e ext, Sends s (allocRead s q p m) q p x ∧ FencedRead e p m ∧ mfind x.ledger (freeTag s q) = some (sentEntry e false (4 + f) ext) ∧
      x.lastPlot = (quadOf s q).lastPlot := by
  obtain ⟨e, n, he, heq⟩ := allocRead_fenced hp hquads hread hordered hstreams hroute
  have hwaits := (((((sends_refl q p hplots hquads).orderNext.txCount n).putEntry (freeTag s q) e).ledgerOcc).fenceNote m.node)
  rw [heq, freeTag_orderNext hquads]
  obtain rfl := he.plot
  obtain ⟨ext, hsent⟩ := sends_releaseReads hwaits hq hp ((hwaits.entryOf _).trans (mfind_mput_same _ _ _)) he.st (by rw [he.win]; exact hlatch)
    (by rw [he.req]; exact hzero) he.emu he.localSt hstreams (by rw [he.node]; exact hroute)
  exact ⟨_, e, ext, hsent, he, mfind_mput_same _ _ _, rfl⟩

/-! ### Holds (R173, R175, R176) -/

/-- An emulated AtomicOp whose Hold is sent: its lease runs from now. -/
def heldEntry (s : State) (e : LEntry) : LEntry :=
  { e with st := .issued, emu := some .hold, lease := s.now, handed := s.now, resent := e.retry }

theorem emuHold_of_egress
    (hroute : (routeOf (putEntry s q tag (heldEntry s e)) e.node (myNode (putEntry s q tag (heldEntry s e)) (1 + q)) (some e.plot)).2 = .egress f r) :
    ∃ u req, u = sendTxn (tagFix (putEntry s q tag (heldEntry s e)) e.plot) q tag (heldEntry s e) (4 + f) req ∧
      emuHold s q tag e = setF u (F.LDG_HOLD_OUT q) (getF u (F.LDG_HOLD_OUT q) + 1) := by
  have h := routeOf_of_egress hroute
  simp only [heldEntry] at h ⊢
  simp only [emuHold, emuSend, h]
  exact ⟨_, _, rfl, rfl⟩

end Sys2Proof.Proofs.LedgerRequests
end

section
/-!
CLAIM. Grants (R132, R135, R175): the next waiting plot whose request can have a Ledger entry gets one, and an emulated AtomicOp takes its plot's turn.
-/
namespace Sys2Proof.Proofs.LedgerGrants
open Sys2Proof.Machine Sys2Proof.Proofs.Fields Sys2Proof.Proofs.CanonicalForm Sys2Proof.Proofs.LedgerSends Sys2Proof.Proofs.LedgerTurns
open Sys2Proof.Proofs.LedgerRequests Sys2Proof.Proofs.ConfigTable

variable {s t v : State} {p f r : Nat} {x : Quad} {m : Matched} {ts ps : List Turn}

/-! ### The plot's place -/

/-- The request has left the plot's place for its turn (R132). -/
def turnTaken (s : State) (q p : Nat) (m : Matched) : State :=
  modQuad (modPlot s p fun x => if x.matched == some m then { x with matched := none } else { x with passing := none }) q
    fun x => { x with lastPlot := p }

theorem ledgerGrant_write {q : Nat} (hp : quadrantOf p = q) (hkind : m.req.kind = .write) :
    ledgerGrant s p m = allocWrite (turnTaken s q p m) q p m := by simp [ledgerGrant, hp, hkind, turnTaken]

theorem ledgerGrant_read {q : Nat} (hp : quadrantOf p = q) (hkind : m.req.kind = .read) :
    ledgerGrant s p m = allocRead (turnTaken s q p m) q p m := by simp [ledgerGrant, hp, hkind, turnTaken]

theorem matched_turnTaken (q : Nat) (hplots : mwf s.plots = true) (hm : (plotOf s p).matched = some m) :
    (plotOf (turnTaken s q p m) p).matched = none := by
  rw [turnTaken, plotOf_modQuad, plotOf_modPlot_same s hplots]
  simp [hm]

theorem quadOf_turnTaken (q : Nat) (hquads : mwf s.quads = true) : quadOf (turnTaken s q p m) q = { quadOf s q with lastPlot := p } :=
  quadOf_modQuad_same (modPlot s p fun x => if x.matched == some m then { x with matched := none } else { x with passing := none }) hquads q
    fun x => { x with lastPlot := p }

/-! ### The turn (R132) -/

/-- The end of a wait on an empty pool is noted in the quadrant alone. -/
theorem sends_shortEnd {q : Nat} (h : Sends s t q p x) : Sends s (shortEnd t q) q p x := by
  unfold shortEnd
  dsimp only
  split_ifs
  · exact h
  · exact h.modQuad h.quad

/-- The turn comes to a plot whose matched request can have an entry. -/
structure TurnOf (s : State) (q : Fin 4) (p : Nat) (m : Matched) : Prop where
  wf : s.wf = true
  held : heldQ s q 2 = false
  runs : quadRuns s q = true
  turns : ∃ ts ps, turnsOf s q = ts ++ .plot p :: ps ∧ ∀ x ∈ ts, turnServe s q [x] = none
  quadrant : quadrantOf p = q
  matched : (plotOf s p).matched = some m
  may : mayGrant s q p m = true

theorem TurnOf.exec_eq {q : Fin 4} (h : TurnOf s q p m) :
    ∃ v, Noted s v q ∧ exec (.ledgerEntryGrant q) s = .next (shortEnd (pullHeld (ledgerGrant v p m) p) q) := by
  have hquads := mwf_quads_of_wf h.wf
  obtain ⟨v, hv, hexec⟩ : ∃ v, Noted s v q ∧ exec (.ledgerEntryGrant q) s = .next (shortEnd ((turnServe v q (turnsOf v q)).getD v) q) := by
    have hrun : exec (.ledgerEntryGrant q) s = .next (shortEnd ((turnServe (if (waitingPlots s q).any (poolWait s q) then poolShort s q else s) q
        (turnsOf (if (waitingPlots s q).any (poolWait s q) then poolShort s q else s) q)).getD
          (if (waitingPlots s q).any (poolWait s q) then poolShort s q else s)) q) := by
      change execLedgerEntryGrant q s = _
      simp [execLedgerEntryGrant, h.held, h.runs]
    refine ⟨_, ?_, hrun⟩
    split_ifs
    · exact noted_poolShort hquads
    · exact noted_refl hquads
  obtain ⟨ts, ps, hturns, hpassed⟩ := h.turns
  have hpick : grantPick v q p = some m := by
    rw [hv.grantPick q.isLt]
    simp [grantPick, h.matched, h.may]
  have hserve : turnServe v q (turnsOf v q) = some (pullHeld (ledgerGrant v p m) p) := by
    rw [hv.turnsOf q.isLt, hturns, turnServe_append fun x hx => hv.turnServe_none q.isLt (hpassed x hx)]
    simp [turnServe, hpick]
  exact ⟨v, hv, by rw [hexec, hserve]; rfl⟩

/-- The state in which the entry is allocated: the plot's place is free, and routes, tags, stream records and latches are as before. -/
structure Allocates (s v : State) (q p : Nat) : Prop where
  matched : (plotOf v p).matched = none
  lastPlot : (quadOf v q).lastPlot = p
  plots_wf : mwf v.plots = true
  quads_wf : mwf v.quads = true
  tag : freeTag v q = freeTag s q
  streams : (quadOf v q).streams = (quadOf s q).streams
  route : ∀ node, (routeOf v node (myNode v (1 + q)) (some p)).2 = (routeOf s node (myNode s (1 + q)) (some p)).2
  latch : ∀ w, latchSet v p w = latchSet s p w

theorem TurnOf.allocates {q : Fin 4} (h : TurnOf s q p m) (hv : Noted s v q) : Allocates s (turnTaken v q p m) q p := by
  have hplots : mwf v.plots = true := hv.plots ▸ mwf_plots_of_wf h.wf
  have hmatched : (plotOf v p).matched = some m := by rw [plotOf, hv.plots]; exact h.matched
  have hquad := quadOf_turnTaken (p := p) (m := m) q hv.quads_wf
  obtain ⟨b, hnoted⟩ := hv.quad
  have hroute (node : Nat) := routeOf_congr (s := v) (t := turnTaken v q p m) rfl (fun _ _ => rfl) node (myNode v (1 + q)) (some p)
  refine ⟨matched_turnTaken q hplots hmatched, by rw [hquad], mwf_mset _ _ _ hplots, mwf_mset _ _ _ hv.quads_wf, ?_, by rw [hquad, hnoted],
    fun node => (hroute node).trans (hv.routeOf q.isLt node (some p)), fun w => ?_⟩
  · exact (freeTag_congr (s := v) (by rw [hquad]) (by rw [hquad])).trans hv.freeTag
  · change bitOf (getF v (F.PP_WFL_LATCH p)) w = _
    rw [hv.plotField q.isLt (by simp only [F.PP_WFL_LATCH, A.PP_WFL]; omega)]
    rfl

/-- What the grant ends with. -/
theorem Allocates.granted {q : Nat} (h : Allocates s v q p) (hp : quadrantOf p = q) (hx : Sends v t q p x) (hlast : x.lastPlot = (quadOf v q).lastPlot)
    {e : LEntry} (he : mfind x.ledger (freeTag v q) = some e) :
    (plotOf (shortEnd (pullHeld t p) q) p).matched = none ∧ (quadOf (shortEnd (pullHeld t p) q) q).lastPlot = p ∧
      entryOf (shortEnd (pullHeld t p) q) q (freeTag s q) = some e := by
  have hend := sends_shortEnd (hx.pullHeld hp)
  exact ⟨hend.matched.trans h.matched, (hend.lastPlot.trans hlast).trans h.lastPlot, by rw [hend.entryOf, ← h.tag, he]⟩

/-! ### The obligation -/

/-- R27, R132, R135: a posted write gets its entry. -/
theorem ledgerEntryGrant_write_runs {q : Fin 4} (h : TurnOf s q p m) (hwrite : m.req.kind = .write)
    (hroute : (routeOf s m.node (myNode s (1 + q)) (some p)).2 = .egress f r) :
    Runs (.ledgerEntryGrant q) s fun t =>
      (plotOf t p).matched = none ∧ (quadOf t q).lastPlot = p ∧
      ∃ e, entryOf t q (freeTag s q) = some e ∧ e.kind = .write ∧ e.plot = p ∧ e.win = m.win ∧ e.gen = m.gen ∧ e.node = m.node ∧ e.addr = m.addr ∧
        e.len = m.req.len ∧ e.st = .queued ∧ e.egress = 4 + f := by
  obtain ⟨v, hv, hexec⟩ := h.exec_eq
  have hstart := h.allocates hv
  obtain ⟨x, hx, he, hlast⟩ := sends_allocWrite hstart.plots_wf hstart.quads_wf q.isLt h.quadrant
    ((hstart.route m.node).trans hroute)
  rw [ledgerGrant_write h.quadrant hwrite] at hexec
  obtain ⟨hmatched, hturn, hentry⟩ := hstart.granted h.quadrant hx hlast he
  exact ⟨_, hexec, hmatched, hturn, _, hentry, rfl, rfl, rfl, rfl, rfl, rfl, rfl, rfl, rfl⟩

/-- R132, R136: a read with no write before it gets its entry and is sent. -/
theorem ledgerEntryGrant_read_runs {q : Fin 4} (h : TurnOf s q p m) (hread : m.req.kind = .read) (hzero : m.req.zero = false)
    (hordered : m.entry.ordered = false) (hstreams : (quadOf s q).streams = []) (hlatch : latchSet s p m.win = false)
    (hroute : (routeOf s m.node (myNode s (1 + q)) (some p)).2 = .egress f r) :
    Runs (.ledgerEntryGrant q) s fun t =>
      (plotOf t p).matched = none ∧ (quadOf t q).lastPlot = p ∧
      ∃ e, entryOf t q (freeTag s q) = some e ∧ e.kind = .read ∧ e.plot = p ∧ e.win = m.win ∧ e.gen = m.gen ∧ e.node = m.node ∧ e.addr = m.addr ∧
        e.len = m.req.len ∧ e.st = .issued ∧ e.ordered = false ∧ e.egress = 4 + f := by
  obtain ⟨v, hv, hexec⟩ := h.exec_eq
  have hstart := h.allocates hv
  obtain ⟨x, e, ext, hx, he, hfind, hlast⟩ := sends_allocRead hstart.plots_wf hstart.quads_wf q.isLt h.quadrant hread hzero hordered
    (hstart.streams.trans hstreams) ((hstart.latch m.win).trans hlatch) ((hstart.route m.node).trans hroute)
  rw [ledgerGrant_read h.quadrant hread] at hexec
  obtain ⟨hmatched, hturn, hentry⟩ := hstart.granted h.quadrant hx hlast hfind
  exact ⟨_, hexec, hmatched, hturn, _, hentry, he.kind, he.plot, he.win, he.gen, he.node, he.addr, he.len, rfl, rfl, rfl⟩

theorem exec_atomicTurnGrant {p : Fin 4096} {tag : Nat} {tags : List Nat} {e : LEntry} (hturn : (plotOf s p).emu = tag :: tags)
    (he : entryOf s (quadrantOf p) tag = some e) (hemu : e.emu = some .turn) :
    exec (.atomicTurnGrant p) s = .next (emuHold s (quadrantOf p) tag e) := by
  change execAtomicTurnGrant p s = _
  simp [execAtomicTurnGrant, hturn, he, hemu]

/-- R173, R175: an AtomicOp that takes its plot's turn sends its Hold, and its lease runs. -/
theorem atomicTurnGrant_runs {p : Fin 4096} {tag : Nat} {tags : List Nat} {e : LEntry} (hwf : s.wf = true) (hturn : (plotOf s p).emu = tag :: tags)
    (he : entryOf s (quadrantOf p) tag = some e) (hplot : e.plot = p) (hemu : e.emu = some .turn)
    (hroute : (routeOf s e.node (myNode s (1 + quadrantOf p)) (some p)).2 = .egress f r) :
    Runs (.atomicTurnGrant p) s fun t =>
      (∃ x, entryOf t (quadrantOf p) tag = some x ∧ x.st = .issued ∧ x.emu = some .hold ∧ x.lease = s.now ∧ x.addr = e.addr) ∧
      getF t (F.LDG_HOLD_OUT (quadrantOf p)) = (getF s (F.LDG_HOLD_OUT (quadrantOf p)) + 1) % 2 ^ 11 := by
  have hq : quadrantOf p < 4 := Nat.div_lt_of_lt_mul p.isLt
  have hput := (sends_refl (quadrantOf p) p (mwf_plots_of_wf hwf) (mwf_quads_of_wf hwf)).putEntry tag (heldEntry s e)
  obtain ⟨u, req, hu, heq⟩ := emuHold_of_egress (tag := tag) (q := quadrantOf p) (e := e) (by
    rw [hplot]
    exact (hput.routeOf hq e.node (some p)).trans hroute)
  have hsent := (hput.tagFix e.plot).sendTxn tag (heldEntry s e) (4 + f) req
  rw [← hu] at hsent
  refine ⟨_, (exec_atomicTurnGrant hturn he hemu).trans (congrArg _ heq), ⟨heldEntry s e, ?_, rfl, rfl, rfl, rfl⟩, ?_⟩
  · exact (hsent.entryOf tag).trans (mfind_mput_same _ _ _)
  · rw [getF_setF_same, hsent.fields _ fun g hg => routeReads_key_ne hq List.mem_cons_self hg]
    rfl

/-- Settles O17: the grant of a write's entry and of a read's, and the turn of an emulated AtomicOp. -/
theorem ledgerGrants : Obligations.LedgerGrants :=
  ⟨fun _ _ _ _ _ ts ps _ hwf hheld hruns hturns hpassed hp hm hmay hwrite _ hroute =>
      ledgerEntryGrant_write_runs ⟨hwf, hheld, hruns, ⟨ts, ps, hturns, hpassed⟩, hp, hm, hmay⟩ hwrite hroute,
    fun _ _ _ _ _ ts ps _ hwf hheld hruns hturns hpassed hp hm hmay hread hzero hordered _ hstreams hlatch hroute =>
      ledgerEntryGrant_read_runs ⟨hwf, hheld, hruns, ⟨ts, ps, hturns, hpassed⟩, hp, hm, hmay⟩ hread hzero hordered hstreams hlatch hroute,
    fun _ _ _ _ _ _ _ hwf hturn he hplot hemu hroute => atomicTurnGrant_runs hwf hturn he hplot hemu hroute⟩

end Sys2Proof.Proofs.LedgerGrants
end

section
/-!
CLAIM. Answers and timeouts (R135, R140, R148, R174): what they do to a Ledger entry, and the end of a backoff, which sends again a read that has no
local status.
-/
namespace Sys2Proof.Proofs.LedgerAnswers
open Sys2Proof.Machine Sys2Proof.Proofs.CanonicalForm Sys2Proof.Proofs.LedgerSends Sys2Proof.Proofs.LedgerRequests

variable {s : State}

/-! ### What is not taken -/

/-- While its clocks stand a client takes no answer. -/
theorem fabricResponseArrival_stopped_leaves {c : Fin 19} (h : clientRuns s c = false) : Leaves (.fabricResponseArrival c) s := by
  change execFabricResponseArrival c s = _
  simp [execFabricResponseArrival, h]

/-- The Calfos ports are no clients that wait for answers. -/
theorem fabricResponseArrival_port_leaves {c : Fin 19} (hlow : 4 ≤ c.val) (hhigh : c.val < 12) : Leaves (.fabricResponseArrival c) s := by
  change execFabricResponseArrival c s = _
  simp [execFabricResponseArrival, hlow, hhigh]

theorem fabricResponseArrival_empty_leaves {c : Fin 19} (h2 : inboxOf s c 2 = []) (h3 : inboxOf s c 3 = []) : Leaves (.fabricResponseArrival c) s := by
  have hpop {k : Nat} (h : inboxOf s c k = []) : inboxPop s c k = none := by rw [inboxPop, h]
  change execFabricResponseArrival c s = _
  simp [execFabricResponseArrival, hpop h2, hpop h3]

/-! ### Answers (R135, R140, R148) -/

/-- The next response of quadrant q answers a request of its Ledger, not one for configuration memory. -/
structure Answers (s : State) (q : Fin 4) (i : Nat) (a : FabResp) (ts : List QTxn) : Prop where
  runs : quadRuns s q = true
  head : inboxOf s q 2 = { ingress := i, txn := .resp a } :: ts
  free : mfind (quadOf s q).table a.tag = none
  formed : respMalformed s a = false

theorem Answers.exec_eq {q : Fin 4} {i : Nat} {a : FabResp} {ts : List QTxn} (h : Answers s q i a ts) :
    exec (.fabricResponseArrival ⟨q, by omega⟩) s = .next (ledgerAnswer (setInbox s q 2 ts) q a.tag a.status a.data) := by
  have hruns := h.runs
  rw [quadRuns, Bool.and_eq_true] at hruns
  have hclient : clientRuns s q = true := by simp [clientRuns, hruns.1, h.runs, Nat.mod_eq_of_lt q.isLt]
  have hport : ¬ 4 ≤ q.val := by omega
  have hformed : respMalformed (setInbox s q 2 ts) a = false := h.formed
  have hfree : mfind (quadOf (setInbox s q 2 ts) q).table a.tag = none := h.free
  change execFabricResponseArrival ⟨q, by omega⟩ s = _
  simp [execFabricResponseArrival, hport, hclient, inboxPop, h.head, respTake, hformed, respDeliver, quadAnswer, hfree]

/-- Nak-Busy puts a native read of the host path into backoff. -/
theorem fabricResponseArrival_busy_runs {q : Fin 4} {i : Nat} {a : FabResp} {ts : List QTxn} {e : LEntry} (hwf : s.wf = true) (h : Answers s q i a ts)
    (he : entryOf s q a.tag = some e) (hread : e.kind = .read) (hhost : e.hostPath = true) (hemu : e.emu = none) (hbusy : a.status = 4) :
    Runs (.fabricResponseArrival ⟨q, by omega⟩) s fun t =>
      entryOf t q a.tag = some { e with st := .backoff, retry := e.retry + 1, lastStatus := 4 } ∧ (portOf t q).txq = (portOf s q).txq := by
  have hfound : entryOf (setInbox s q 2 ts) q a.tag = some e := he
  have hanswer : ledgerAnswer (setInbox s q 2 ts) q a.tag a.status a.data = goBackoff (setInbox s q 2 ts) q a.tag e := by
    simp [ledgerAnswer, hfound, hread, hemu, hhost, nativeAnswer, hbusy]
  refine ⟨_, h.exec_eq.trans (congrArg _ hanswer), ?_, rfl⟩
  rw [goBackoff, entryOf, putEntry, quadOf_modQuad_same (setInbox s q 2 ts) (mwf_quads_of_wf hwf)]
  exact mfind_mput_same _ _ _

/-- An answer that no entry waits for is late (R140). -/
theorem fabricResponseArrival_late_runs {q : Fin 4} {i : Nat} {a : FabResp} {ts : List QTxn} (h : Answers s q i a ts) (he : entryOf s q a.tag = none) :
    Runs (.fabricResponseArrival ⟨q, by omega⟩) s fun t =>
      getF t (F.LDG_COUNT_LATE q) = min (getF s (F.LDG_COUNT_LATE q) + 1) (F.LDG_COUNT_LATE q).max ∧ (quadOf t q).ledger = (quadOf s q).ledger ∧
      t.ports = s.ports := by
  have hfound : entryOf (setInbox s q 2 ts) q a.tag = none := he
  have hanswer : ledgerAnswer (setInbox s q 2 ts) q a.tag a.status a.data = bump (setInbox s q 2 ts) (F.LDG_COUNT_LATE q) := by
    simp [ledgerAnswer, hfound]
  exact ⟨_, h.exec_eq.trans (congrArg _ hanswer), getF_bump_min (setInbox s q 2 ts) _, rfl, rfl⟩

/-! ### Backoff (R148) -/

theorem exec_ledgerBackoffEnd {q : Fin 4} {tag : Nat} {e : LEntry} (he : entryOf s q tag = some e) (hst : e.st = .backoff) (hemu : e.emu = none)
    (hhost : e.hostPath = true) : exec (.ledgerBackoffEnd q tag) s = .next (releaseReads (putEntry s q tag { e with st := .fenced }) q [tag]) := by
  change execLedgerBackoffEnd q tag s = _
  simp [execLedgerBackoffEnd, he, hst, hemu, hhost]

/-- The end of the backoff sends a native read again where it has a route. -/
theorem ledgerBackoffEnd_runs {q : Fin 4} {tag f r : Nat} {e : LEntry} (hwf : s.wf = true) (he : entryOf s q tag = some e) (hst : e.st = .backoff)
    (hemu : e.emu = none) (hhost : e.hostPath = true) (hzero : e.req.zero = false) (hplot : quadrantOf e.plot = q)
    (hlatch : latchSet s e.plot e.win = false) (hstreams : (quadOf s q).streams = [])
    (hroute : (routeOf s e.node (myNode s (1 + q)) (some e.plot)).2 = .egress f r) (hlocal : e.localSt = none) :
    Runs (.ledgerBackoffEnd q tag) s fun t => ∃ ext, entryOf t q tag = some (sentEntry e false (4 + f) ext) := by
  have hput := (sends_refl q e.plot (mwf_plots_of_wf hwf) (mwf_quads_of_wf hwf)).putEntry tag { e with st := .fenced }
  obtain ⟨ext, hsent⟩ := sends_releaseReads (e := { e with st := .fenced }) hput q.isLt hplot ((hput.entryOf tag).trans (mfind_mput_same _ _ _)) rfl
    hlatch hzero hemu hlocal hstreams hroute
  exact ⟨_, exec_ledgerBackoffEnd he hst hemu hhost, ext, (hsent.entryOf tag).trans (mfind_mput_same _ _ _)⟩

theorem ledgerBackoffEnd_leaves {q : Fin 4} {tag : Nat} (h : (entryOf s q tag).all (fun e => e.st != .backoff) = true) :
    Leaves (.ledgerBackoffEnd q tag) s := by
  change execLedgerBackoffEnd q tag s = _
  cases he : entryOf s q tag with
  | none => simp [execLedgerBackoffEnd, he]
  | some e =>
    rw [he, Option.all_some] at h
    simp [execLedgerBackoffEnd, he, h]

/-! ### Timeouts (R135, R174, R180) -/

/-- A timeout is for a write that waits for its answer, a Release, or a step of an emulated AtomicOp (R135, R180). -/
theorem ledgerAckTimeout_leaves {q : Fin 4} {tag : Nat}
    (h : (entryOf s q tag).all (fun e => e.kind != .release && (if e.kind == .write then e.st != .issued else e.emu.isNone || e.st != .issued)) = true) :
    Leaves (.ledgerAckTimeout q tag) s := by
  change execLedgerAckTimeout q tag s = _
  cases he : entryOf s q tag with
  | none => simp [execLedgerAckTimeout, he]
  | some e =>
    rw [he, Option.all_some, Bool.and_eq_true] at h
    obtain ⟨hkind, hwaits⟩ := h
    have hrelease : (e.kind == .release) = false := by simpa using hkind
    cases hwrite : e.kind == .write with
    | true =>
      have hidle : (e.st == .issued) = false := by simpa [hwrite] using hwaits
      simp [execLedgerAckTimeout, he, hrelease, hwrite, hidle]
    | false =>
      have hidle : (e.emu.isSome && e.st == .issued) = false := by
        cases hemu : e.emu <;> simp_all
      simp [execLedgerAckTimeout, he, hrelease, hwrite, hidle]

/-- A Release that goes unanswered is counted, and its tag is free (R174). -/
theorem ledgerAckTimeout_release_runs {q : Fin 4} {tag : Nat} {e : LEntry} (hwf : s.wf = true) (he : entryOf s q tag = some e)
    (hkind : e.kind = .release) (hemu : e.emu ≠ some .budgetGone) :
    Runs (.ledgerAckTimeout q tag) s fun t =>
      getF t (F.LDG_HOLD_REL_FAIL q) = min (getF s (F.LDG_HOLD_REL_FAIL q) + 1) (F.LDG_HOLD_REL_FAIL q).max ∧
      (quadOf t q).ledger = mdel (quadOf s q).ledger tag ∧ t.ports = s.ports := by
  have hdrop : waitDrop s q tag e = modQuad s q fun x => { x with ledger := mdel x.ledger tag } := by simp [waitDrop, hemu]
  have hexec : exec (.ledgerAckTimeout q tag) s = .next (bump (waitDrop s q tag e) (F.LDG_HOLD_REL_FAIL q)) := by
    change execLedgerAckTimeout q tag s = _
    simp [execLedgerAckTimeout, he, hkind, hemu]
  rw [hdrop] at hexec
  refine ⟨_, hexec, getF_bump_min (modQuad s q fun x => { x with ledger := mdel x.ledger tag }) _, ?_, rfl⟩
  exact congrArg Quad.ledger (quadOf_modQuad_same s (mwf_quads_of_wf hwf) q fun x => { x with ledger := mdel x.ledger tag })

/-! ### The obligation -/

/-- The entry of Trellis's table that leads node 66 to Calfos port 0 stands first in its bucket. -/
def entryPlace : Nat := 8 * trellisBucket 1 0 (66 * 2 ^ 16)

/-- A read of plot 0 that Trellis ended with status 2 as it was allocated (R113), and that stands in backoff all the same. -/
def unroutedRead : LEntry :=
  { kind := .read, hostPath := true, plot := 0, win := 0, gen := 1, node := 66, addr := 0x20000, len := 8,
    req := { kind := .read, bar4 := false, off := 0, len := 8, tag := 3 }, st := .backoff, localSt := some 2 }

/-- It stands in quadrant 0 under tag 7, with Trellis ready and port 0 up. -/
def unroutedBackoff : State :=
  [(F.GLB_NODE_VALID, 1), (F.TRL_CTRL_EN, 1), (F.TRL_CTRL_READY, 1), (F.CFP_STATUS_STATE 0, 2), (F.CFK_STATUS_LINK 0, 2),
    (F.PE_STATUS_STATE 0, 2)].foldl (fun s x => setF s x.1 x.2)
    { trl := { table := [(2 * entryPlace, 2 ^ 60 + 66 * 2 ^ 16), (2 * entryPlace + 1, 2 ^ 20)] }, quads := [(0, { ledger := [(7, unroutedRead)] })] }

/-- Refutes O18: its clause on the end of a backoff does not exclude an entry that kept a local status from its allocation (R113). Such a read is not sent:
it ends with that status, and its entry is free. With `e.localSt = none` the clause is `ledgerBackoffEnd_runs`. Its clauses on Nak-Busy, on late answers,
on a Release's timeout and on what takes nothing hold as stated, each a theorem above. -/
theorem not_ledgerAnswers : ¬ Obligations.LedgerAnswers := by
  intro h
  have hfound : entryOf unroutedBackoff (0 : Fin 4) 7 = some unroutedRead := by decide +kernel
  obtain ⟨-, -, -, -, -, -, -, -, hbackoff, -⟩ := h
  obtain ⟨t, hexec, hany⟩ := hbackoff unroutedBackoff 0 7 0 (2 ^ 20) unroutedRead (by decide +kernel) hfound rfl rfl rfl rfl rfl rfl
    (by decide +kernel) (by decide +kernel) (by decide +kernel)
  obtain rfl := Host.Outcome.next.inj ((exec_ledgerBackoffEnd hfound rfl rfl rfl).symm.trans hexec)
  exact absurd hany (by decide +kernel)

end Sys2Proof.Proofs.LedgerAnswers
end

section
/-!
SUPPORT. Single bits of numbers, and the lowest free key of a sparse map.
-/
namespace Sys2Proof.Proofs.BitsAndKeys
open Sys2Proof.Machine Sys2Proof.Proofs.Registers

/-! ### Single bits -/

theorem clrBit_eq_clrBits (n i : Nat) : clrBit n i = clrBits n (2 ^ i) := by
  change _ = n - (n &&& 2 ^ i)
  rw [Nat.and_two_pow, clrBit, bitOf_testBit]
  cases n.testBit i <;> simp

theorem setBit_eq_or (n i : Nat) : setBit n i = n ||| 2 ^ i := by
  have hclear : (n ||| 2 ^ i) - 2 ^ i = clrBits n (2 ^ i) := by
    have hset : clrBits (n ||| 2 ^ i) (2 ^ i) = (n ||| 2 ^ i) - 2 ^ i := by
      change _ - ((n ||| 2 ^ i) &&& 2 ^ i) = _
      simp [Nat.and_two_pow]
    refine hset.symm.trans (Nat.eq_of_testBit_eq fun j => ?_)
    simp only [testBit_clrBits, Nat.testBit_or]
    cases n.testBit j <;> cases (2 ^ i).testBit j <;> rfl
  have hle : 2 ^ i ≤ n ||| 2 ^ i := Nat.right_le_or
  rw [← clrBit_eq_clrBits] at hclear
  unfold clrBit at hclear
  unfold setBit
  split_ifs at hclear ⊢ with hbit
  · have hn : 2 ^ i ≤ n := Nat.ge_two_pow_of_testBit (by rwa [← bitOf_testBit])
    omega
  · omega

theorem testBit_setBit (n i j : Nat) : (setBit n i).testBit j = (n.testBit j || decide (i = j)) := by
  rw [setBit_eq_or, Nat.testBit_or, Nat.testBit_two_pow]

theorem testBit_clrBit (n i j : Nat) : (clrBit n i).testBit j = (n.testBit j && decide (i ≠ j)) := by
  rw [clrBit_eq_clrBits, testBit_clrBits, Nat.testBit_two_pow, decide_not]

/-- A sum of different powers of two has the bits of their exponents. -/
theorem testBit_sum_two_pow {is : List Nat} (h : is.Nodup) (j : Nat) : (is.map fun i => 2 ^ i).sum.testBit j = decide (j ∈ is) := by
  induction is generalizing j with
  | nil => simp
  | cons i is ih =>
    obtain ⟨hi, h⟩ := List.nodup_cons.1 h
    have hadd : 2 ^ i + (is.map fun i => 2 ^ i).sum = setBit (is.map fun i => 2 ^ i).sum i := by
      simp [setBit, bitOf_testBit, ih h, hi, Nat.add_comm]
    rw [List.map_cons, List.sum_cons, hadd, testBit_setBit, ih h]
    simp [Bool.or_comm, eq_comm]

/-! ### Free keys -/

variable {α : Type}

theorem le_mfree (m : SMap α) (n : Nat) : n ≤ mfree m n := by
  induction m generalizing n with
  | nil => exact le_refl n
  | cons e m ih =>
    obtain ⟨k, v⟩ := e
    unfold mfree
    split_ifs
    · exact (Nat.le_succ n).trans (ih (n + 1))
    · exact ih n
    · exact le_refl n

/-- The lowest free key holds nothing. -/
theorem mfind_mfree (m : SMap α) (n : Nat) : mfind m (mfree m n) = none := by
  induction m generalizing n with
  | nil => rfl
  | cons e m ih =>
    obtain ⟨k, v⟩ := e
    have hle := le_mfree m n
    have hle' := le_mfree m (n + 1)
    unfold mfree
    split_ifs with heq hlt
    · rw [mfind, if_neg (by omega), if_neg (by omega), ih]
    · rw [mfind, if_neg (by omega), if_neg (by omega), ih]
    · rw [mfind, if_pos (by omega)]

/-- To put an entry at a free key and take it out again changes nothing. -/
theorem mdel_mput_of_none {m : SMap α} {i : Nat} (x : α) (h : mfind m i = none) : mdel (mput m i x) i = m := by
  induction m with
  | nil => simp [mput, mdel]
  | cons e m ih =>
    obtain ⟨k, v⟩ := e
    unfold mfind at h
    split_ifs at h with hlt heq
    · simp [mput, mdel, hlt]
    · simp [mput, mdel, hlt, heq, ih h]

end Sys2Proof.Proofs.BitsAndKeys
end

section
/-!
SUPPORT. The end of a SignalRead (R188, R189): a failed sweep's registers and slots, its batch, and what Pergola's queues depend on.
-/
namespace Sys2Proof.Proofs.RakeFailures
open Sys2Proof.Machine Sys2Proof.Proofs.Fields Sys2Proof.Proofs.Registers Sys2Proof.Proofs.EntryFields Sys2Proof.Proofs.ConfigTable
open Sys2Proof.Proofs.Refusals Sys2Proof.Proofs.BitsAndKeys

variable {s t : State} {p st tag node block : Nat} {data : List Byte}

/-! ### Slots of a failed sweep (R189) -/

/-- A slot whose ERR bit stands stays as it is; else the bit is set and its vector requested. -/
theorem slotError_cases (s : State) (p i : Nat) (x : RakeSlot) :
    (bitOf (getF s (F.PP_RAKE_ERR_V p)) i = true ∧ slotError s p i x = s) ∨
      slotError s p i x = reqVector (setF s (F.PP_RAKE_ERR_V p) (setBit (getF s (F.PP_RAKE_ERR_V p)) i)) p x.vec := by
  unfold slotError
  dsimp only
  split_ifs with h
  · exact .inl ⟨h, rfl⟩
  · exact .inr rfl

theorem slotError_only (s : State) (p i : Nat) (x : RakeSlot) : slotError s p i x =
    { s with cells := (slotError s p i x).cells, msix := (slotError s p i x).msix, funcs := (slotError s p i x).funcs, ports := (slotError s p i x).ports } := by
  rcases slotError_cases s p i x with ⟨-, h⟩ | h <;> rw [h]
  rw [reqVector_only]
  rfl

theorem fieldsBut_slotError (s : State) (p i : Nat) (x : RakeSlot) : FieldsBut s (slotError s p i x) [F.PP_RAKE_ERR_V p] := by
  rcases slotError_cases s p i x with ⟨-, h⟩ | h <;> rw [h]
  · exact fieldsBut_refl s _
  · exact fieldsBut_trans (fieldsBut_setF _ (by simp) (fieldsBut_refl s _)) (fieldsBut_reqVector p _ _)

theorem bitOf_slotError (s : State) (p i : Nat) (x : RakeSlot) {j : Nat} (hj : j < 64) :
    bitOf (getF (slotError s p i x) (F.PP_RAKE_ERR_V p)) j = (bitOf (getF s (F.PP_RAKE_ERR_V p)) j || decide (i = j)) := by
  rcases slotError_cases s p i x with ⟨hbit, h⟩ | h <;> rw [h]
  · by_cases heq : i = j
    · simp [← heq, hbit]
    · simp [heq]
  · rw [fieldsBut_reqVector p x.vec [] _ (by simp), bitOf_setF _ hj, testBit_setBit, bitOf_testBit]

theorem slotsAnswer_only (hst : st ≠ 0) (xs : List (Nat × RakeSlot)) (s : State) : slotsAnswer s p st data xs =
    { s with cells := (slotsAnswer s p st data xs).cells, msix := (slotsAnswer s p st data xs).msix, funcs := (slotsAnswer s p st data xs).funcs,
             ports := (slotsAnswer s p st data xs).ports } := by
  induction xs generalizing s with
  | nil => rfl
  | cons e xs ih =>
    obtain ⟨k, x⟩ := e
    simp only [slotsAnswer, beq_iff_eq, hst, if_false]
    split_ifs
    · exact ih s
    · rw [ih, slotError_only]

theorem fieldsBut_slotsAnswer (hst : st ≠ 0) (xs : List (Nat × RakeSlot)) (s : State) :
    FieldsBut s (slotsAnswer s p st data xs) [F.PP_RAKE_ERR_V p] := by
  induction xs generalizing s with
  | nil => exact fieldsBut_refl s _
  | cons e xs ih =>
    obtain ⟨k, x⟩ := e
    simp only [slotsAnswer, beq_iff_eq, hst, if_false]
    split_ifs
    · exact ih s
    · exact fieldsBut_trans (fieldsBut_slotError s p _ x) (ih _)

/-- Every slot that takes part in a failed sweep has its ERR bit; none loses it. -/
theorem bitOf_slotsAnswer (hst : st ≠ 0) (xs : List (Nat × RakeSlot)) (s : State) {j : Nat} (hj : j < 64)
    (h : bitOf (getF s (F.PP_RAKE_ERR_V p)) j = true ∨ ∃ x ∈ xs, x.2.stale = false ∧ x.1 % 64 = j) :
    bitOf (getF (slotsAnswer s p st data xs) (F.PP_RAKE_ERR_V p)) j = true := by
  induction xs generalizing s with
  | nil => simpa [slotsAnswer] using h
  | cons e xs ih =>
    obtain ⟨k, x⟩ := e
    simp only [slotsAnswer, beq_iff_eq, hst, if_false]
    refine ih _ ?_
    rcases h with h | ⟨y, hy, hstale, hkey⟩
    · refine .inl ?_
      split_ifs
      · exact h
      · simp [bitOf_slotError s p (k % 64) x hj, h]
    · rcases List.mem_cons.1 hy with rfl | hy
      · refine .inl ?_
        have hpart : x.stale = false := hstale
        simp only [hpart, Bool.false_eq_true, if_false, bitOf_slotError s p _ x hj]
        simp [hkey]
      · exact .inr ⟨y, hy, hstale, hkey⟩

/-! ### The batch and the tag (R189) -/

/-- The batch of an answer is no longer outstanding, and goes if it has no slot left. -/
def answeredBatches (s : State) (p node block : Nat) : List Batch :=
  (s.rake.batches.map fun b => if b.isAt p node block then { b with outstanding := false } else b).filter fun b =>
    b.outstanding || !(batchSlots s b.plot b.node b.block).isEmpty

theorem outstanding_answeredBatches {b : Batch} (hb : b ∈ answeredBatches s p node block) (hp : b.plot = p) (hn : b.node = node)
    (hk : b.block = block) : b.outstanding = false := by
  obtain ⟨c, -, rfl⟩ := List.mem_map.1 (List.mem_filter.1 hb).1
  split_ifs at hp hn hk ⊢ with hat
  · rfl
  · simp [Batch.isAt, hp, hn, hk] at hat

/-- A failed sweep: its tag is free, its batch answered, and it counts in ERRORS. -/
def sweepFailed (s : State) (tag p node block : Nat) : State :=
  setEv (bump { s with unit0 := mdel s.unit0 tag, rake := { s.rake with batches := answeredBatches s p node block } } F.RAK_COUNT_ERRORS)
    F.RAK_EVENT_ERROR 1244

theorem sweepFailed_only (s : State) (tag p node block : Nat) : sweepFailed s tag p node block =
    { s with cells := (sweepFailed s tag p node block).cells, unit0 := mdel s.unit0 tag,
             rake := { s.rake with batches := answeredBatches s p node block } } := by
  unfold sweepFailed
  exact (setEv_only _ _ _).trans rfl

/-- The registers of the Rake that a failed sweep changes. -/
def errorFields : List Fld := [F.RAK_COUNT_ERRORS, F.RAK_EVENT_ERROR, F.EVG_PEND_PEND 19]

theorem fieldsBut_sweepFailed (s : State) (tag p node block : Nat) : FieldsBut s (sweepFailed s tag p node block) errorFields :=
  fieldsBut_setEv _ (by simp [errorFields]) (by simp [errorFields]) (fieldsBut_setF _ (by simp [errorFields]) (fieldsBut_congr rfl (fieldsBut_refl s _)))

/-- An answer that fails: where the plot is Serving or Held the slots that take part are told (R189). -/
theorem rakeAnswer_failed (h : mfind s.unit0 tag = some (.rake p node block)) (hst : st ≠ 0) :
    rakeAnswer s tag st data =
      if plotState s p = psServing ∨ plotState s p = psHeld then
        slotsAnswer (sweepFailed s tag p node block) p st data (batchSlots s p node block)
      else sweepFailed s tag p node block := by
  have hstate : plotState (sweepFailed s tag p node block) p = plotState s p := by
    refine fieldsBut_sweepFailed s tag p node block _ fun f hf => ?_
    have hdev : OfDevice f := by
      have hall : ∀ f ∈ errorFields, OfDevice f := by
        unfold OfDevice
        decide
      exact hall f hf
    refine (ofDevice_key_ne hdev ?_).symm
    simp only [F.PE_STATUS_STATE, A.PE_STATUS]
    omega
  unfold rakeAnswer
  rw [h]
  simp only [beq_iff_eq, hst, if_false, Bool.or_eq_true]
  rw [← hstate]
  rfl

/-- What every failed sweep leaves (R189). -/
structure SweepEnds (s t : State) (tag p node block : Nat) : Prop where
  unit0 : t.unit0 = mdel s.unit0 tag
  rake : t.rake = { s.rake with batches := answeredBatches s p node block }
  pga : t.pga = s.pga
  errors : getF t F.RAK_COUNT_ERRORS = min (getF s F.RAK_COUNT_ERRORS + 1) F.RAK_COUNT_ERRORS.max
  event : bitF t F.RAK_EVENT_ERROR = true
  sweeps : getF t F.RAK_COUNT_SWEEPS = getF s F.RAK_COUNT_SWEEPS
  slots : plotState s p = psServing ∨ plotState s p = psHeld → ∀ x ∈ batchSlots s p node block, x.2.stale = false →
    bitOf (getF t (F.PP_RAKE_ERR_V p)) (x.1 % 64) = true

theorem err_key_ne {f : Fld} (hf : OfDevice f) (p : Nat) : ∀ g ∈ [F.PP_RAKE_ERR_V p], f.key ≠ g.key := by
  intro g hg
  obtain rfl := List.mem_singleton.1 hg
  exact ofDevice_key_ne hf (by simp only [F.PP_RAKE_ERR_V]; omega)

theorem getF_errors_sweepFailed : getF (sweepFailed s tag p node block) F.RAK_COUNT_ERRORS = min (getF s F.RAK_COUNT_ERRORS + 1) F.RAK_COUNT_ERRORS.max := by
  unfold sweepFailed
  rw [getF_setEv_ne _ _ (by decide) (by decide), getF_bump_min]
  rfl

theorem sweepEnds_rakeAnswer (h : mfind s.unit0 tag = some (.rake p node block)) (hst : st ≠ 0) :
    SweepEnds s (rakeAnswer s tag st data) tag p node block := by
  have hfailed := sweepFailed_only s tag p node block
  have herrors : OfDevice F.RAK_COUNT_ERRORS ∧ OfDevice F.RAK_EVENT_ERROR ∧ OfDevice F.RAK_COUNT_SWEEPS := by
    unfold OfDevice
    decide
  obtain ⟨hdev, hdev', hdev''⟩ := herrors
  have hevent : bitF (sweepFailed s tag p node block) F.RAK_EVENT_ERROR = true := bitF_setEv _ _ rfl (by decide)
  have hsweeps := fieldsBut_sweepFailed s tag p node block F.RAK_COUNT_SWEEPS (by decide)
  rw [rakeAnswer_failed h hst]
  split_ifs with hserves
  · have honly := slotsAnswer_only (p := p) (data := data) hst (batchSlots s p node block) (sweepFailed s tag p node block)
    have hfields := fieldsBut_slotsAnswer (p := p) (data := data) hst (batchSlots s p node block) (sweepFailed s tag p node block)
    refine ⟨?_, ?_, ?_, ?_, ?_, ?_, fun _ x hx hstale => ?_⟩
    · rw [honly, hfailed]
    · rw [honly, hfailed]
    · rw [honly, hfailed]
    · rw [hfields _ (err_key_ne hdev p), getF_errors_sweepFailed]
    · rw [bitF_congr (hfields _ (err_key_ne hdev' p)), hevent]
    · rw [hfields _ (err_key_ne hdev'' p), hsweeps]
    · exact bitOf_slotsAnswer hst _ _ (Nat.mod_lt _ (by decide)) (.inr ⟨x, hx, hstale, rfl⟩)
  · exact ⟨by rw [hfailed], by rw [hfailed], by rw [hfailed], getF_errors_sweepFailed, hevent, hsweeps, fun h => absurd h hserves⟩

/-! ### What Pergola's queues depend on (R196) -/

theorem pga_occUpdate (s : State) (i : Nat) : (occUpdate s i).pga = s.pga := by rw [occUpdate_only]

section Pergola
variable (hpga : t.pga = s.pga) (hcap : getF t F.PGA_POOL_CAP = getF s F.PGA_POOL_CAP)
include hpga

theorem queuedAt_congr (e c : Nat) : queuedAt t e c = queuedAt s e c := by rw [queuedAt, queuedAt, hpga]

include hcap

theorem voqAllow_congr (i e c : Nat) : voqAllow t i e c = voqAllow s i e c := by
  simp only [voqAllow, voqBeats, sharedBeats, queuedAt_congr hpga, hpga, hcap]

theorem voqOpen_congr (i e c : Nat) : voqOpen t i e c = voqOpen s i e c := by
  rw [voqOpen, voqOpen, voqAllow_congr hpga hcap, hpga, queuedAt_congr hpga]

theorem voqPut_pga_congr (e c : Nat) (f : FlowId) (x : QTxn) : (voqPut t e c f x).pga = (voqPut s e c f x).pga := by
  have htake : takeBeats t e c x = takeBeats s e c x := by rw [takeBeats, takeBeats, voqAllow_congr hpga hcap]
  unfold voqPut
  dsimp only
  rw [pga_occUpdate, pga_occUpdate, htake, hpga]

/-- What Pergola holds after a transaction was handed to it depends on what it held and on the cap of its pools. -/
theorem pgaPush_pga_congr (e c : Nat) (f : FlowId) (x : QTxn) : (pgaPush t e c f x).pga = (pgaPush s e c f x).pga := by
  unfold pgaPush
  rw [voqOpen_congr hpga hcap, hpga]
  dsimp only
  split_ifs
  · exact voqPut_pga_congr hpga hcap e c f x
  · rw [pga_occUpdate, pga_occUpdate]
  · rfl

end Pergola

end Sys2Proof.Proofs.RakeFailures
end

section
/-!
CLAIM. Sweeps of the Rake (R183, R188, R189, R191): which batch is swept, what its sweep changes before its route is chosen, and the obligation.
-/
namespace Sys2Proof.Proofs.RakeSweeps
open Sys2Proof.Machine Sys2Proof.Proofs.Fields Sys2Proof.Proofs.EntryFields Sys2Proof.Proofs.ConfigTable Sys2Proof.Proofs.PrefetchBuffer
open Sys2Proof.Proofs.BitsAndKeys Sys2Proof.Proofs.RakeFailures

variable {s t : State} {b : Batch} {rt : Route} {st tag p node block : Nat}

theorem mwf_unit0_of_wf (h : s.wf = true) : mwf s.unit0 = true := by
  simp only [State.wf, Bool.and_eq_true] at h
  obtain ⟨⟨⟨⟨⟨⟨-, hunit0⟩, -⟩, -⟩, -⟩, -⟩, -⟩ := h
  exact hunit0

/-! ### Which batch is swept (R188) -/

/-- Batch b is due before every other of a list: earlier, or at the same time for a lower plot. -/
def DueFirst (s : State) (b : Batch) (l : List Batch) : Prop :=
  ∀ c ∈ l, c = b ∨ batchDue s b < batchDue s c ∨ (batchDue s b = batchDue s c ∧ b.plot < c.plot)

theorem batchFirst_mem {l : List Batch} {c : Batch} (h : batchFirst s l = some c) : c ∈ l := by
  induction l generalizing c with
  | nil => cases h
  | cons d l ih =>
    unfold batchFirst at h
    cases hrest : batchFirst s l with
    | none =>
      rw [hrest] at h
      exact Option.some.inj h ▸ List.mem_cons_self
    | some e =>
      rw [hrest] at h
      dsimp only at h
      split_ifs at h
      · exact Option.some.inj h ▸ List.mem_cons_self
      · exact Option.some.inj h ▸ List.mem_cons_of_mem d (ih hrest)

/-- A batch that is due first comes before every other, and no other before it. -/
theorem batchBefore_of_dueFirst {l : List Batch} (h : DueFirst s b l) {c : Batch} (hc : c ∈ l) :
    batchBefore s b c = true ∧ (c ≠ b → batchBefore s c b = false) := by
  rcases h c hc with rfl | hlt | ⟨heq, hplot⟩
  · simp [batchBefore]
  · simp [batchBefore, hlt, hlt.le, hlt.ne']
  · simp [batchBefore, heq, hplot, hplot.le]

theorem batchFirst_of_dueFirst {l : List Batch} (hb : b ∈ l) (h : DueFirst s b l) : batchFirst s l = some b := by
  induction l with
  | nil => cases hb
  | cons c l ih =>
    obtain ⟨-, hafter⟩ := batchBefore_of_dueFirst h (List.mem_cons_self (a := c))
    unfold batchFirst
    by_cases hcb : c = b
    · subst hcb
      cases hrest : batchFirst s l with
      | none => rfl
      | some d =>
        obtain ⟨hbefore, -⟩ := batchBefore_of_dueFirst h (List.mem_cons_of_mem c (batchFirst_mem hrest))
        simp [hbefore]
    · have hrest := ih ((List.mem_cons.1 hb).resolve_left fun heq => hcb heq.symm) fun d hd => h d (List.mem_cons_of_mem c hd)
      simp [hrest, hafter hcb]

/-! ### A miss (R188, R190) -/

/-- An event of a rate-limited code is carried in the plot, or makes a record (R550). -/
theorem faultRated_cases (s : State) (p scope : Nat) (r : FaultRec) (late : Nat) :
    (∃ g, faultRated s p scope r late = modPlot s p g) ∨ ∃ r' g, faultRated s p scope r late = modPlot (faultCreate s p r') p g := by
  unfold faultRated
  dsimp only
  by_cases h : (mget (plotOf s p).rates (rateKey r.code scope) {}).isOpen = true
  · exact .inl ⟨_, if_pos h⟩
  · exact .inr ⟨_, _, if_neg h⟩

/-- A sweep that is not late leaves the state; another counts as a miss, and is logged. -/
theorem rakeMiss_cases (s : State) (b : Batch) :
    (¬ batchDue s b + batchPeriod s b < s.now ∧ rakeMiss s b = s) ∨
      batchDue s b + batchPeriod s b < s.now ∧ ∃ r late, rakeMiss s b =
        faultRated (setEv (bump (bump s F.RAK_COUNT_MISSES) (F.PP_RAKE_MISS_V b.plot)) F.RAK_EVENT_MISS 1244) b.plot 0 r late := by
  unfold rakeMiss
  dsimp only
  split_ifs with h
  · exact .inr ⟨h, _, _, rfl⟩
  · exact .inl ⟨h, rfl⟩

theorem rakeMiss_only (s : State) (b : Batch) : rakeMiss s b =
    { s with cells := (rakeMiss s b).cells, plots := (rakeMiss s b).plots, funcs := (rakeMiss s b).funcs, msix := (rakeMiss s b).msix,
             ports := (rakeMiss s b).ports } := by
  rcases rakeMiss_cases s b with ⟨-, h⟩ | ⟨-, r, late, h⟩ <;> rw [h]
  have hevent := setEv_only (bump (bump s F.RAK_COUNT_MISSES) (F.PP_RAKE_MISS_V b.plot)) F.RAK_EVENT_MISS 1244
  unfold OnlyCells at hevent
  rcases faultRated_cases (setEv (bump (bump s F.RAK_COUNT_MISSES) (F.PP_RAKE_MISS_V b.plot)) F.RAK_EVENT_MISS 1244) b.plot 0 r late with
    ⟨g, hrated⟩ | ⟨r', g, hrated⟩ <;> rw [hrated]
  · rw [hevent]
    rfl
  · rw [faultCreate_only, hevent]
    rfl

/-- The registers of the device that a sweep changes before its route is chosen. -/
def sweepFields : List Fld := [F.RAK_COUNT_SWEEPS, F.RAK_COUNT_MISSES, F.RAK_EVENT_MISS, F.EVG_PEND_PEND 19]

/-- Those of its plot: the plot's misses, and the fault log. -/
def missFields (p : Nat) : List Fld := F.PP_RAKE_MISS_V p :: logFields p

theorem missFields_addr (p : Nat) : ∀ f ∈ missFields p, 0x100000000 ≤ f.addr := by
  intro f hf
  rcases List.mem_cons.1 hf with rfl | hf
  · simp only [F.PP_RAKE_MISS_V]
    omega
  · exact logFields_addr p f hf

theorem sweepFields_ofDevice : ∀ f ∈ sweepFields, OfDevice f := by
  unfold OfDevice
  decide

theorem fieldsBut_faultRated_late (s : State) (p scope : Nat) (r : FaultRec) (late : Nat) : FieldsBut s (faultRated s p scope r late) (logFields p) := by
  rcases faultRated_cases s p scope r late with ⟨g, h⟩ | ⟨r', g, h⟩ <;> rw [h]
  · exact fieldsBut_congr rfl (fieldsBut_refl s _)
  · exact fieldsBut_congr rfl (fieldsBut_faultCreate s p r')

theorem fieldsBut_rakeMiss (s : State) (b : Batch) : FieldsBut s (rakeMiss s b) (sweepFields ++ missFields b.plot) := by
  rcases rakeMiss_cases s b with ⟨-, h⟩ | ⟨-, r, late, h⟩ <;> rw [h]
  · exact fieldsBut_refl s _
  · have hlog : logFields b.plot ⊆ sweepFields ++ missFields b.plot :=
      fun f hf => List.mem_append_right _ (List.mem_cons_of_mem _ hf)
    refine fieldsBut_trans ?_ (fieldsBut_mono hlog (fieldsBut_faultRated_late _ _ _ _ _))
    refine fieldsBut_setEv _ (by simp [sweepFields]) (by simp [sweepFields]) ?_
    exact fieldsBut_setF _ (by simp [missFields]) (fieldsBut_setF _ (by simp [sweepFields]) (fieldsBut_refl s _))

theorem getF_misses_rakeMiss (s : State) (b : Batch) : getF (rakeMiss s b) F.RAK_COUNT_MISSES =
    if batchDue s b + batchPeriod s b < s.now then min (getF s F.RAK_COUNT_MISSES + 1) F.RAK_COUNT_MISSES.max else getF s F.RAK_COUNT_MISSES := by
  have hdev : OfDevice F.RAK_COUNT_MISSES := sweepFields_ofDevice _ (by simp [sweepFields])
  rcases rakeMiss_cases s b with ⟨hlate, h⟩ | ⟨hlate, r, late, h⟩ <;> rw [h]
  · rw [if_neg hlate]
  · rw [if_pos hlate, fieldsBut_faultRated_late _ _ _ _ _ _ fun f hf => ofDevice_key_ne hdev (logFields_addr _ f hf),
      getF_setEv_ne _ _ (by decide) (by decide), getF_bump_ne _ (ofDevice_key_ne hdev (missFields_addr b.plot _ (by simp [missFields]))), getF_bump_min]

/-! ### The sweep before its route is chosen -/

/-- The Rake once batch b is swept: the batch is outstanding, and the slots that it then has take part in its answer (R187). -/
def sweptRake (s : State) (b : Batch) : Rake :=
  { s.rake with
    lastSent := some s.now
    batches := s.rake.batches.map fun c => if c == b then { c with outstanding := true, sent := some s.now } else c
    slots := s.rake.slots.map fun (x : Nat × RakeSlot) => if x.1 / 64 == b.plot && x.2.node == b.node && rakeBlock x.2.addr == b.block
      then (x.1, { x.2 with stale := false }) else x }

/-- The state in which the SignalRead's route is chosen. -/
def swept (s : State) (b : Batch) : State :=
  let u := bump (rakeMiss s b) F.RAK_COUNT_SWEEPS
  { u with rake := sweptRake u b, unit0 := mput u.unit0 (mfree u.unit0 0) (.rake b.plot b.node b.block) }

/-- The SignalRead of batch b under a tag (R183, R187). -/
def sweepTxn (s : State) (b : Batch) (tag : Nat) : QTxn :=
  { ingress := 17, txn := .req { op := .signalRead, dest := b.node, src := myNode s 0, tenant := tenantOf s b.plot, tag := tag,
                                 addr := b.block, len := 256 } }

theorem swept_only (s : State) (b : Batch) : swept s b =
    { s with cells := (swept s b).cells, plots := (swept s b).plots, funcs := (swept s b).funcs, msix := (swept s b).msix, ports := (swept s b).ports,
             rake := sweptRake s b, unit0 := mput s.unit0 (mfree s.unit0 0) (.rake b.plot b.node b.block) } := by
  have h := rakeMiss_only s b
  unfold swept
  rw [h]
  rfl

theorem fieldsBut_swept (s : State) (b : Batch) : FieldsBut s (swept s b) (sweepFields ++ missFields b.plot) :=
  fieldsBut_congr (t := bump (rakeMiss s b) F.RAK_COUNT_SWEEPS) rfl (fieldsBut_setF _ (by simp [sweepFields]) (fieldsBut_rakeMiss s b))

/-- The registers of the device but those stand. -/
theorem getF_swept {g : Fld} (hg : OfDevice g) (hkeys : ∀ f ∈ sweepFields, g.key ≠ f.key) : getF (swept s b) g = getF s g := by
  refine fieldsBut_swept s b g fun f hf => ?_
  rcases List.mem_append.1 hf with hf | hf
  · exact hkeys f hf
  · exact ofDevice_key_ne hg (missFields_addr _ f hf)

theorem getF_sweeps_swept : getF (swept s b) F.RAK_COUNT_SWEEPS = min (getF s F.RAK_COUNT_SWEEPS + 1) F.RAK_COUNT_SWEEPS.max := by
  have hdev : OfDevice F.RAK_COUNT_SWEEPS := sweepFields_ofDevice _ (by simp [sweepFields])
  have hmiss : getF (rakeMiss s b) F.RAK_COUNT_SWEEPS = getF s F.RAK_COUNT_SWEEPS := by
    rcases rakeMiss_cases s b with ⟨-, h⟩ | ⟨-, r, late, h⟩ <;> rw [h]
    rw [fieldsBut_faultRated_late _ _ _ _ _ _ fun f hf => ofDevice_key_ne hdev (logFields_addr _ f hf), getF_setEv_ne _ _ (by decide) (by decide),
      getF_bump_ne _ (ofDevice_key_ne hdev (missFields_addr b.plot _ (by simp [missFields]))), getF_bump_ne _ (by decide)]
  rw [← hmiss]
  exact getF_bump_min (rakeMiss s b) F.RAK_COUNT_SWEEPS

theorem getF_misses_swept : getF (swept s b) F.RAK_COUNT_MISSES =
    if batchDue s b + batchPeriod s b < s.now then min (getF s F.RAK_COUNT_MISSES + 1) F.RAK_COUNT_MISSES.max else getF s F.RAK_COUNT_MISSES :=
  (getF_bump_ne (rakeMiss s b) (by decide)).trans (getF_misses_rakeMiss s b)

/-- The plot's state stands: no field that changes lies at its place. -/
theorem plotState_swept : plotState (swept s b) b.plot = plotState s b.plot := by
  refine fieldsBut_swept s b _ fun f hf => ?_
  rcases List.mem_append.1 hf with hf | hf
  · exact (ofDevice_key_ne (sweepFields_ofDevice f hf) (by simp only [F.PE_STATUS_STATE, A.PE_STATUS]; omega)).symm
  · simp only [missFields, logFields, Refusals.ringFields, List.cons_append, List.nil_append, List.mem_cons, List.not_mem_nil, or_false] at hf
    rcases hf with rfl | rfl | rfl | rfl | rfl | rfl | rfl <;>
      simp only [Fld.key, F.PE_STATUS_STATE, F.PP_RAKE_MISS_V, F.PE_STATUS_LAST_FAULT, F.PE_FAULT_PTR_HELD, F.PE_FAULT_PTR_OVERFLOW,
        F.PE_COUNTERS_FAULTS_LOST, F.PE_FAULT_PTR_PROD, F.PE_FAULT_PTR_PHASE, A.PE_STATUS, A.PE_FAULT_PTR, A.PE_COUNTERS] <;> omega

theorem routeReads_swept {f : Fld} (hf : f ∈ routeReads) : getF (swept s b) f = getF s f := by
  have hall : ∀ f ∈ routeReads, OfDevice f ∧ ∀ g ∈ sweepFields, f.key ≠ g.key := by
    unfold OfDevice
    decide +kernel
  obtain ⟨hdev, hkeys⟩ := hall f hf
  exact getF_swept hdev hkeys

theorem myNode_swept (unit : Nat) : myNode (swept s b) unit = myNode s unit := by rw [myNode, myNode, myPlace_congr fun _ => routeReads_swept]

/-- The route is the one that stood before. -/
theorem routeOf_swept : (routeOf (swept s b) b.node (myNode (swept s b) 0) (some b.plot)).2 = (routeOf s b.node (myNode s 0) (some b.plot)).2 := by
  rw [myNode_swept, routeOf_congr (by rw [swept_only]) fun _ => routeReads_swept]

theorem sweepTxn_swept (tag : Nat) : sweepTxn (swept s b) b tag = sweepTxn s b tag := by
  have htenant : tenantOf (swept s b) b.plot = tenantOf s b.plot := by rw [tenantOf, tenantOf, swept_only]
  rw [sweepTxn, sweepTxn, htenant, myNode_swept]

/-! ### The sweep (R183, R187, R188) -/

/-- A route that is found leaves the state as it is. -/
theorem routeOf_of_found {d n : Nat} {plot : Option Nat} (h : ∀ st, (routeOf s d n plot).2 ≠ .fail st) : (routeOf s d n plot).1 = s := by
  unfold routeOf at h ⊢
  split_ifs at h ⊢
  · rfl
  · rfl
  · generalize trellisLookup s 1 (d * 2 ^ 16) = hit at h ⊢
    cases hit with
    | none => exact absurd rfl (h 2)
    | some i =>
      dsimp only at h ⊢
      split_ifs at h ⊢
      · rfl
      · generalize choosePort (usablePorts s (plotPorts s (resPorts (entryResult s i)) plot)) (resSelect (entryResult s i)) n d = port at h ⊢
        cases port with
        | none => exact absurd rfl (h 2)
        | some f => rfl

/-- A request that has no way never ends with status 0 (R113, R114). -/
theorem routeOf_fail_ne_zero {d n : Nat} {plot : Option Nat} (h : (routeOf s d n plot).2 = .fail st) : st ≠ 0 := by
  rintro rfl
  unfold routeOf at h
  split_ifs at h
  · cases h
  · generalize trellisLookup s 1 (d * 2 ^ 16) = hit at h
    cases hit with
    | none => cases h
    | some i =>
      dsimp only at h
      split_ifs at h
      · cases h
      · generalize choosePort (usablePorts s (plotPorts s (resPorts (entryResult s i)) plot)) (resSelect (entryResult s i)) n d = port at h
        cases port <;> cases h

/-- A miss takes no tag. -/
theorem unit0_rakeMiss (s : State) (b : Batch) : (rakeMiss s b).unit0 = s.unit0 := by rw [rakeMiss_only]

/-- The sweep of a batch that has a way is handed to Pergola. -/
theorem rakeSend_of_found (hroute : (routeOf s b.node (myNode s 0) (some b.plot)).2 = rt) (hfound : ∀ st, rt ≠ .fail st) :
    rakeSend s b = pgaPush (tagFix (swept s b) b.plot) rt.pga 0 .rake (sweepTxn s b (mfree s.unit0 0)) := by
  have hrt := routeOf_swept.trans hroute
  have hstays : (routeOf (swept s b) b.node (myNode (swept s b) 0) (some b.plot)).1 = swept s b :=
    routeOf_of_found fun st h => hfound st (hrt.symm.trans h)
  have hsend : rakeSend s b = pgaPush (tagFix (routeOf (swept s b) b.node (myNode (swept s b) 0) (some b.plot)).1 b.plot)
      (routeOf (swept s b) b.node (myNode (swept s b) 0) (some b.plot)).2.pga 0 .rake
      (sweepTxn (routeOf (swept s b) b.node (myNode (swept s b) 0) (some b.plot)).1 b (mfree (rakeMiss s b).unit0 0)) := by
    unfold rakeSend
    dsimp only
    split
    · next st h => exact absurd (hrt.symm.trans h) (hfound st)
    · rfl
  rw [hsend, hstays, hrt, sweepTxn_swept, unit0_rakeMiss]

/-- That of a batch that has none is answered locally. -/
theorem rakeSend_of_fail (hroute : (routeOf s b.node (myNode s 0) (some b.plot)).2 = .fail st) :
    rakeSend s b = rakeAnswer (routeOf (swept s b) b.node (myNode (swept s b) 0) (some b.plot)).1 (mfree s.unit0 0) st [] := by
  have hrt := routeOf_swept.trans hroute
  rw [← unit0_rakeMiss s b]
  unfold rakeSend
  dsimp only
  split
  · next st' h =>
    obtain rfl : st = st' := Route.fail.inj (hrt.symm.trans h)
    rfl
  · next h => exact absurd hrt (h st)

/-! ### RAKE_SWEEP_SEND -/

/-- The batch that is due first is sent where the issue rate allows it (R188). -/
theorem exec_rakeSweepSend (hheld : rakHeld s = false) (hrate : rakeRate s = true) (hb : b ∈ batchesDue s) (hfirst : DueFirst s b (batchesDue s)) :
    exec .rakeSweepSend s = .next (rakeSend s b) := by
  change execRakeSweepSend s = _
  simp [execRakeSweepSend, hheld, hrate, batchFirst_of_dueFirst hb hfirst]

theorem batches_sweptRake (s : State) (b : Batch) :
    (sweptRake s b).batches = s.rake.batches.map fun c => if c = b then { b with outstanding := true, sent := some s.now } else c := by
  refine List.map_congr_left fun c _ => ?_
  simp only [beq_iff_eq]
  split_ifs with h
  · rw [h]
  · rfl

/-- A slot of the batch takes part in its answer (R187). -/
theorem mem_batchSlots_swept {x : Nat × RakeSlot} (hx : x ∈ batchSlots s b.plot b.node b.block) :
    (x.1, { x.2 with stale := false }) ∈ batchSlots (swept s b) b.plot b.node b.block := by
  obtain ⟨hmem, hat⟩ := List.mem_filter.1 hx
  have hslots : (swept s b).rake.slots = (sweptRake s b).slots := by rw [swept_only]
  unfold batchSlots
  rw [hslots]
  exact List.mem_filter.2 ⟨List.mem_map.2 ⟨x, hmem, if_pos hat⟩, hat⟩

/-- The registers that a route, Hedge's tag and Pergola change are none of the Rake's counters. -/
theorem getF_traffic {g : Fld} (h : FieldsBut s t (trafficFields 17)) (hg : g ∈ [F.RAK_COUNT_SWEEPS, F.RAK_COUNT_MISSES, F.RAK_COUNT_ERRORS]) :
    getF t g = getF s g := by
  have hall : ∀ g ∈ [F.RAK_COUNT_SWEEPS, F.RAK_COUNT_MISSES, F.RAK_COUNT_ERRORS], ∀ f ∈ trafficFields 17, g.key ≠ f.key := by decide +kernel
  exact h g (hall g hg)

theorem rakeSweepSend_found_runs (hheld : rakHeld s = false) (hrate : rakeRate s = true) (hb : b ∈ batchesDue s) (hfirst : DueFirst s b (batchesDue s))
    (hroute : (routeOf s b.node (myNode s 0) (some b.plot)).2 = rt) (hfound : ∀ st, rt ≠ .fail st) :
    Runs .rakeSweepSend s fun t =>
      t.rake.batches = s.rake.batches.map (fun c => if c = b then { b with outstanding := true, sent := some s.now } else c) ∧ t.rake.lastSent = some s.now ∧
      getF t F.RAK_COUNT_SWEEPS = min (getF s F.RAK_COUNT_SWEEPS + 1) F.RAK_COUNT_SWEEPS.max ∧
      getF t F.RAK_COUNT_MISSES = (if batchDue s b + batchPeriod s b < s.now then min (getF s F.RAK_COUNT_MISSES + 1) F.RAK_COUNT_MISSES.max else getF s F.RAK_COUNT_MISSES) ∧
      mfind t.unit0 (mfree s.unit0 0) = some (.rake b.plot b.node b.block) ∧
      t.pga = (pgaPush s rt.pga 0 .rake (sweepTxn s b (mfree s.unit0 0))).pga := by
  have htag := tagFix_only (swept s b) b.plot
  have hpush := pgaPush_only (tagFix (swept s b) b.plot) rt.pga 0 .rake (sweepTxn s b (mfree s.unit0 0))
  have hrake : (pgaPush (tagFix (swept s b) b.plot) rt.pga 0 .rake (sweepTxn s b (mfree s.unit0 0))).rake = sweptRake s b := by
    rw [hpush, htag, swept_only]
  have hunit0 : (pgaPush (tagFix (swept s b) b.plot) rt.pga 0 .rake (sweepTxn s b (mfree s.unit0 0))).unit0 =
      mput s.unit0 (mfree s.unit0 0) (.rake b.plot b.node b.block) := by
    rw [hpush, htag, swept_only]
  have hfields : FieldsBut (swept s b) (pgaPush (tagFix (swept s b) b.plot) rt.pga 0 .rake (sweepTxn s b (mfree s.unit0 0))) (trafficFields 17) :=
    fieldsBut_trans (fieldsBut_tagFix _) (fieldsBut_pgaPush _ _ _ rfl)
  refine ⟨_, (exec_rakeSweepSend hheld hrate hb hfirst).trans (congrArg _ (rakeSend_of_found hroute hfound)), ?_, ?_, ?_, ?_, ?_, ?_⟩
  · rw [hrake, batches_sweptRake]
  · rw [hrake, sweptRake]
  · rw [getF_traffic hfields (by simp), getF_sweeps_swept]
  · rw [getF_traffic hfields (by simp), getF_misses_swept]
  · rw [hunit0, mfind_mput_same]
  · have hcap : getF (tagFix (swept s b) b.plot) F.PGA_POOL_CAP = getF s F.PGA_POOL_CAP := by
      have hkeys : ∀ f ∈ trafficFields 17, F.PGA_POOL_CAP.key ≠ f.key := by decide +kernel
      have hdev : OfDevice F.PGA_POOL_CAP ∧ ∀ f ∈ sweepFields, F.PGA_POOL_CAP.key ≠ f.key := by
        unfold OfDevice
        decide +kernel
      exact (fieldsBut_tagFix b.plot _ hkeys).trans (getF_swept hdev.1 hdev.2)
    exact pgaPush_pga_congr (by rw [htag, swept_only]) hcap _ _ _ _

theorem rakeSweepSend_fail_runs (hheld : rakHeld s = false) (hrate : rakeRate s = true) (hb : b ∈ batchesDue s) (hfirst : DueFirst s b (batchesDue s))
    (hroute : (routeOf s b.node (myNode s 0) (some b.plot)).2 = .fail st) :
    Runs .rakeSweepSend s fun t =>
      getF t F.RAK_COUNT_SWEEPS = min (getF s F.RAK_COUNT_SWEEPS + 1) F.RAK_COUNT_SWEEPS.max ∧
      getF t F.RAK_COUNT_ERRORS = min (getF s F.RAK_COUNT_ERRORS + 1) F.RAK_COUNT_ERRORS.max ∧ bitF t F.RAK_EVENT_ERROR = true ∧ t.rake.lastSent = some s.now ∧
      (∀ x ∈ batchSlots s b.plot b.node b.block, bitOf (getF t (F.PP_RAKE_ERR_V b.plot)) (x.1 % 64) = true) ∧ t.pga = s.pga ∧ t.unit0 = s.unit0 := by
  have honly := routeOf_only (swept s b) b.node (myNode (swept s b) 0) (some b.plot)
  have hfields := fieldsBut_routeOf (s := swept s b) (q := 17) b.node (myNode (swept s b) 0) (some b.plot)
  generalize hrouted : (routeOf (swept s b) b.node (myNode (swept s b) 0) (some b.plot)).1 = u at honly hfields
  have hunit0 : u.unit0 = mput s.unit0 (mfree s.unit0 0) (.rake b.plot b.node b.block) := by rw [honly, swept_only]
  have hrake : u.rake = sweptRake s b := by rw [honly, swept_only]
  have hpga : u.pga = s.pga := by rw [honly, swept_only]
  have hstate : plotState u b.plot = plotState s b.plot := by
    have hdev : ∀ f ∈ trafficFields 17, OfDevice f := by
      unfold OfDevice
      decide +kernel
    refine (getF_of_device hfields hdev ?_).trans plotState_swept
    simp only [F.PE_STATUS_STATE, A.PE_STATUS]
    omega
  have hserves : plotState s b.plot = psServing ∨ plotState s b.plot = psHeld := by
    simp only [batchesDue, List.mem_filter, Bool.and_eq_true, Bool.or_eq_true, beq_iff_eq] at hb
    obtain ⟨-, -, hserves⟩ := hb
    exact hserves
  have hends := sweepEnds_rakeAnswer (data := []) (by rw [hunit0, mfind_mput_same]) (routeOf_fail_ne_zero hroute)
  refine ⟨_, (exec_rakeSweepSend hheld hrate hb hfirst).trans (congrArg _ ((rakeSend_of_fail hroute).trans (by rw [hrouted]))), ?_, ?_, hends.event, ?_,
    fun x hx => ?_, ?_, ?_⟩
  · rw [hends.sweeps, getF_traffic hfields (by simp), getF_sweeps_swept]
  · have hkeys : OfDevice F.RAK_COUNT_ERRORS ∧ ∀ f ∈ sweepFields, F.RAK_COUNT_ERRORS.key ≠ f.key := by
      unfold OfDevice
      decide +kernel
    rw [hends.errors, getF_traffic hfields (by simp), getF_swept hkeys.1 hkeys.2]
  · rw [hends.rake, hrake, sweptRake]
  · refine hends.slots (by rwa [hstate]) (x.1, { x.2 with stale := false }) ?_ rfl
    have hslots : batchSlots u b.plot b.node b.block = batchSlots (swept s b) b.plot b.node b.block := by
      rw [batchSlots, batchSlots, hrake, swept_only]
    rw [hslots]
    exact mem_batchSlots_swept hx
  · rw [hends.pga, hpga]
  · rw [hends.unit0, hunit0, mdel_mput_of_none _ (mfind_mfree _ _)]

/-! ### The obligation -/

/-- Settles O32: the batch that is due first is found by an induction over those that are due; a sweep that has no way and one that times out are the same
failed answer. -/
theorem rakeSweeps : Obligations.RakeSweeps := by
  unfold Obligations.RakeSweeps
  refine ⟨fun s b rt _ hheld hrate hb hfirst hroute hfound => rakeSweepSend_found_runs hheld hrate hb hfirst hroute hfound,
    fun s b st _ hheld hrate hb hfirst hroute => rakeSweepSend_fail_runs hheld hrate hb hfirst hroute, fun s h => ?_,
    fun s tag p node block hwf htag => ?_, fun s tag htag => ?_⟩
  · change execRakeSweepSend s = .next s
    rcases h with hheld | hrate | hdue
    · simp [execRakeSweepSend, hheld]
    · simp [execRakeSweepSend, hrate]
    · simp [execRakeSweepSend, hdue, batchFirst]
  · have hends := sweepEnds_rakeAnswer (data := []) htag (show 0x10 ≠ 0 by decide)
    refine ⟨_, rfl, ?_, hends.errors, hends.event, hends.slots, fun b hb hp hn hk => ?_, ?_⟩
    · rw [hends.unit0, mfind_mdel_same tag (mwf_unit0_of_wf hwf)]
    · rw [hends.rake] at hb
      exact outstanding_answeredBatches hb hp hn hk
    · rw [hends.rake]
  · change execRakeSweepTimeout tag s = .next s
    simp [execRakeSweepTimeout, rakeAnswer, htag]

end Sys2Proof.Proofs.RakeSweeps
end

section
/-!
SUPPORT. Rake slots (R185, R186, R187, R192): the registers that commands and the display of slots write, a slot armed and a slot taken out.
-/
namespace Sys2Proof.Proofs.RakeCommands
open Sys2Proof.Machine Sys2Proof.Proofs.Fields Sys2Proof.Proofs.Registers Sys2Proof.Proofs.PlotQueue Sys2Proof.Proofs.EntryFields
open Sys2Proof.Proofs.ConfigTable Sys2Proof.Proofs.PlotCommands Sys2Proof.Proofs.BitsAndKeys

variable {s t : State} {p i r : Nat} {f g : Fld} {x : RakeSlot}

/-! ### PP_RAKE_STATUS (R185) -/

/-- The fields that the end of a command writes. -/
def endFields (p : Nat) : List Fld := [F.PP_RAKE_STATUS_RESULT p, F.PP_RAKE_STATUS_SLOT p, F.PP_RAKE_STATUS_BUSY p]

/-- The fields of the Rake's page that commands write in front of the staged slots. -/
def workFields (p : Nat) : List Fld := endFields p ++ [F.PP_RAKE_STATUS_COUNT p, F.PP_RAKE_ARMED_V p, F.PP_RAKE_PEND_V p]

theorem addr_of_workFields (hf : f ∈ workFields p) : 0x100000000 ≤ f.addr ∧ f.addr < 0x100003d00 + p * 0x10000 ∧ f.lo < 64 := by
  simp only [workFields, endFields, List.cons_append, List.nil_append, List.mem_cons, List.not_mem_nil, or_false] at hf
  rcases hf with rfl | rfl | rfl | rfl | rfl | rfl <;>
    simp only [F.PP_RAKE_STATUS_RESULT, F.PP_RAKE_STATUS_SLOT, F.PP_RAKE_STATUS_BUSY, F.PP_RAKE_STATUS_COUNT, F.PP_RAKE_ARMED_V, F.PP_RAKE_PEND_V,
      A.PP_RAKE_STATUS] <;> omega

/-- A register of the device, a staged slot of plot p or what lies behind it. -/
def Apart (p : Nat) (g : Fld) : Prop := OfDevice g ∨ 0x100003d00 + p * 0x10000 ≤ g.addr

/-- Commands leave these. -/
theorem key_ne_work (hg : Apart p g) (hf : f ∈ workFields p) : g.key ≠ f.key := by
  obtain ⟨hlow, hhigh, hlo⟩ := addr_of_workFields hf
  rcases hg with hdev | hg
  · exact ofDevice_key_ne hdev hlow
  · exact key_ne_of_addr_lt hlo (hhigh.trans_le hg)

theorem rakeEnd_only (s : State) (p i r : Nat) : OnlyCells s (rakeEnd s p i r) := rfl

theorem fieldsBut_rakeEnd (s : State) (p i r : Nat) : FieldsBut s (rakeEnd s p i r) (endFields p) :=
  fieldsBut_setF _ (by simp [endFields]) (fieldsBut_setF _ (by simp [endFields]) (fieldsBut_setF _ (by simp [endFields]) (fieldsBut_refl s _)))

theorem getF_result_rakeEnd (hr : r < 16) : getF (rakeEnd s p i r) (F.PP_RAKE_STATUS_RESULT p) = r := by
  have hslot : (F.PP_RAKE_STATUS_RESULT p).key ≠ (F.PP_RAKE_STATUS_SLOT p).key := key_ne_of_lo rfl (show 32 ≠ 0 by decide)
  have hbusy : (F.PP_RAKE_STATUS_RESULT p).key ≠ (F.PP_RAKE_STATUS_BUSY p).key := key_ne_of_lo rfl (show 32 ≠ 63 by decide)
  rw [rakeEnd, getF_setF_ne _ _ hbusy, getF_setF_ne _ _ hslot, getF_setF_same]
  exact Nat.mod_eq_of_lt hr

theorem getF_slot_rakeEnd (hi : i < 64) : getF (rakeEnd s p i r) (F.PP_RAKE_STATUS_SLOT p) = i := by
  have hbusy : (F.PP_RAKE_STATUS_SLOT p).key ≠ (F.PP_RAKE_STATUS_BUSY p).key := key_ne_of_lo rfl (show 0 ≠ 63 by decide)
  rw [rakeEnd, getF_setF_ne _ _ hbusy, getF_setF_same]
  exact Nat.mod_eq_of_lt hi

theorem bitF_busy_rakeEnd : bitF (rakeEnd s p i r) (F.PP_RAKE_STATUS_BUSY p) = false := bitF_setF_zero _

/-! ### The slots of a plot -/

/-- The slots that are armed in plot p. -/
def armedIn (s : State) (p : Nat) : List Nat := (s.rake.slots.filter fun x => x.1 / 64 == p).map fun x => x.1 % 64

theorem pairwise_of_mwf {α : Type} {m : SMap α} (h : mwf m = true) : m.Pairwise fun a b => a.1 < b.1 := by
  induction m with
  | nil => exact .nil
  | cons e m ih =>
    obtain ⟨k, v⟩ := e
    obtain ⟨hk, hm⟩ := mwf_cons.1 h
    exact .cons hk (ih hm)

theorem mfind_of_mem {α : Type} {m : SMap α} {k : Nat} {x : α} (h : mwf m = true) (hx : (k, x) ∈ m) : mfind m k = some x := by
  induction m with
  | nil => cases hx
  | cons e m ih =>
    obtain ⟨j, v⟩ := e
    obtain ⟨hj, hm⟩ := mwf_cons.1 h
    rcases List.mem_cons.1 hx with heq | hx
    · obtain ⟨rfl, rfl⟩ := Prod.mk.inj heq
      simp [mfind]
    · have hlt : j < k := hj _ hx
      rw [mfind, if_neg (by omega), if_neg (by omega), ih hm hx]

theorem nodup_armedIn (h : mwf s.rake.slots = true) : (armedIn s p).Nodup := by
  refine List.pairwise_map.2 (((pairwise_of_mwf h).filter _).imp_of_mem fun {a b} ha hb hlt => ?_)
  have hap := eq_of_beq (List.mem_filter.1 ha).2
  have hbp := eq_of_beq (List.mem_filter.1 hb).2
  omega

theorem mem_armedIn (h : mwf s.rake.slots = true) (hi : i < 64) : i ∈ armedIn s p ↔ (mfind s.rake.slots (p * 64 + i)).isSome = true := by
  constructor
  · intro hmem
    obtain ⟨⟨k, x⟩, hx, hki⟩ := List.mem_map.1 hmem
    obtain ⟨hx, hkp⟩ := List.mem_filter.1 hx
    simp only [beq_iff_eq] at hkp hki
    obtain rfl : k = p * 64 + i := by omega
    rw [mfind_of_mem h hx, Option.isSome_some]
  · intro hsome
    obtain ⟨x, hx⟩ := Option.isSome_iff_exists.1 hsome
    exact List.mem_map.2 ⟨_, List.mem_filter.2 ⟨mem_of_mfind hx, by simp only [beq_iff_eq]; omega⟩, by simp only; omega⟩

/-! ### What shows the slots (R185, R192) -/

/-- The registers that show the slots of plot p and the Rake's demand. -/
def showFields (p : Nat) : List Fld :=
  [F.RAK_STATUS_DEMAND, F.RAK_STATUS_WORDS, F.RAK_EVENT_OVERRUN, F.EVG_PEND_PEND 19, F.PP_RAKE_STATUS_COUNT p, F.PP_RAKE_ARMED_V p]

theorem rakeShow_cases (s : State) (p : Nat) : ∃ demand words count,
    let u := setF (setF (setF (setF s F.RAK_STATUS_DEMAND demand) F.RAK_STATUS_WORDS words) (F.PP_RAKE_STATUS_COUNT p) count) (F.PP_RAKE_ARMED_V p)
      ((armedIn s p).map fun i => 2 ^ i).sum
    rakeShow s p = u ∨ rakeShow s p = setEv u F.RAK_EVENT_OVERRUN 1244 := by
  unfold rakeShow armedIn
  rw [List.map_map]
  dsimp only
  split_ifs
  · exact ⟨_, _, _, .inr rfl⟩
  · exact ⟨_, _, _, .inl rfl⟩

theorem rakeShow_only (s : State) (p : Nat) : OnlyCells s (rakeShow s p) := by
  obtain ⟨demand, words, count, h | h⟩ := rakeShow_cases s p <;> rw [h]
  · rfl
  · exact (setEv_only _ _ _).trans rfl

theorem fieldsBut_rakeShow (s : State) (p : Nat) : FieldsBut s (rakeShow s p) (showFields p) := by
  have hsets (demand words count armed : Nat) : FieldsBut s (setF (setF (setF (setF s F.RAK_STATUS_DEMAND demand) F.RAK_STATUS_WORDS words)
      (F.PP_RAKE_STATUS_COUNT p) count) (F.PP_RAKE_ARMED_V p) armed) (showFields p) :=
    fieldsBut_setF _ (by simp [showFields]) (fieldsBut_setF _ (by simp [showFields]) (fieldsBut_setF _ (by simp [showFields])
      (fieldsBut_setF _ (by simp [showFields]) (fieldsBut_refl s _))))
  obtain ⟨demand, words, count, h | h⟩ := rakeShow_cases s p <;> rw [h]
  · exact hsets _ _ _ _
  · exact fieldsBut_setEv _ (by simp [showFields]) (by simp [showFields]) (hsets _ _ _ _)

/-- ARMED has the bits of the slots that are armed (R185). -/
theorem bitOf_armed_rakeShow (h : mwf s.rake.slots = true) (hi : i < 64) :
    bitOf (getF (rakeShow s p) (F.PP_RAKE_ARMED_V p)) i = (mfind s.rake.slots (p * 64 + i)).isSome := by
  have hset (u : State) : bitOf (getF (setF u (F.PP_RAKE_ARMED_V p) ((armedIn s p).map fun i => 2 ^ i).sum) (F.PP_RAKE_ARMED_V p)) i =
      (mfind s.rake.slots (p * 64 + i)).isSome := by
    rw [bitOf_setF _ hi, testBit_sum_two_pow (nodup_armedIn h), Bool.eq_iff_iff, decide_eq_true_iff, mem_armedIn h hi]
  obtain ⟨demand, words, count, hshow | hshow⟩ := rakeShow_cases s p <;> rw [hshow]
  · exact hset _
  · have hpage : 0x100000000 ≤ (F.PP_RAKE_ARMED_V p).addr := by
      simp only [F.PP_RAKE_ARMED_V]
      omega
    have hdev : OfDevice F.RAK_EVENT_OVERRUN ∧ OfDevice (F.EVG_PEND_PEND (1244 / 64)) := by
      unfold OfDevice
      decide
    obtain ⟨hevent, hpend⟩ := hdev
    rw [getF_setEv_ne _ _ (ofDevice_key_ne hevent hpage).symm (ofDevice_key_ne hpend hpage).symm]
    exact hset _

/-! ### A slot is taken out (R186) -/

/-- Registers and the Rake alone have changed. -/
def RakeFrame (s t : State) : Prop := t = { s with cells := t.cells, rake := t.rake }

theorem RakeFrame.trans {u : State} (h : RakeFrame s t) (h' : RakeFrame t u) : RakeFrame s u := by
  unfold RakeFrame at h h' ⊢
  rw [h] at h'
  exact h'

theorem rakeFrame_of_cells (h : OnlyCells s t) : RakeFrame s t := by
  unfold RakeFrame
  unfold OnlyCells at h
  rw [h]

theorem RakeFrame.setF (h : RakeFrame s t) (f : Fld) (v : Nat) : RakeFrame s (Machine.setF t f v) := h.trans (rakeFrame_of_cells (setF_only t f v))

theorem RakeFrame.rakeEnd (h : RakeFrame s t) (p i r : Nat) : RakeFrame s (Machine.rakeEnd t p i r) :=
  h.trans (rakeFrame_of_cells (rakeEnd_only t p i r))

theorem rake_rakeShow (s : State) (p : Nat) : (rakeShow s p).rake = s.rake := by rw [rakeShow_only]

theorem rakeFrame_slotDisarm (s : State) (p i : Nat) : RakeFrame s (slotDisarm s p i) :=
  RakeFrame.trans (t := { s with rake := (batchPrune { s with rake := { s.rake with slots := mdel s.rake.slots (p * 64 + i) } }).rake }) rfl
    (rakeFrame_of_cells ((rakeShow_only _ p).trans rfl))

theorem slots_slotDisarm (s : State) (p i : Nat) : (slotDisarm s p i).rake.slots = mdel s.rake.slots (p * 64 + i) := by
  rw [slotDisarm, rake_rakeShow]
  rfl

theorem pend_key_ne_show : ∀ f ∈ showFields p, (F.PP_RAKE_PEND_V p).key ≠ f.key := by
  intro f hf
  simp only [showFields, List.mem_cons, List.not_mem_nil, or_false] at hf
  rcases hf with rfl | rfl | rfl | rfl | rfl | rfl <;>
    simp only [Fld.key, F.PP_RAKE_PEND_V, F.RAK_STATUS_DEMAND, F.RAK_STATUS_WORDS, F.RAK_EVENT_OVERRUN, F.EVG_PEND_PEND, F.PP_RAKE_STATUS_COUNT,
      F.PP_RAKE_ARMED_V, A.RAK_STATUS, A.RAK_EVENT, A.EVG_PEND, A.PP_RAKE_STATUS] <;> omega

theorem bitOf_pend_slotDisarm (hi : i < 64) : bitOf (getF (slotDisarm s p i) (F.PP_RAKE_PEND_V p)) i = false := by
  rw [slotDisarm, fieldsBut_rakeShow _ p _ pend_key_ne_show, bitOf_setF _ hi, testBit_clrBit]
  simp

theorem bitOf_armed_slotDisarm (h : mwf s.rake.slots = true) (hi : i < 64) : bitOf (getF (slotDisarm s p i) (F.PP_RAKE_ARMED_V p)) i = false := by
  have hslots := mfind_mdel_same (p * 64 + i) h
  rw [slotDisarm, bitOf_armed_rakeShow (mwf_mdel _ h) hi]
  exact Option.isSome_eq_false_iff.2 (Option.isNone_iff_eq_none.2 hslots)

/-- The slots of a plot that are taken out one after another are gone, and no other is (R186). -/
theorem slots_foldl_slotDisarm (is : List Nat) (his : ∀ i ∈ is, i < 64) (hwf : mwf s.rake.slots = true) :
    let t := is.foldl (fun s i => slotDisarm s p i) s
    RakeFrame s t ∧ (∀ k, k / 64 ≠ p → mfind t.rake.slots k = mfind s.rake.slots k) ∧
      ∀ k, k / 64 = p → mfind t.rake.slots k = if k % 64 ∈ is then none else mfind s.rake.slots k := by
  induction is generalizing s with
  | nil => exact ⟨rfl, fun _ _ => rfl, fun _ _ => rfl⟩
  | cons i is ih =>
    have hi := his i List.mem_cons_self
    have hslots := slots_slotDisarm s p i
    obtain ⟨honly, hother, hmine⟩ := ih (s := slotDisarm s p i) (fun j hj => his j (List.mem_cons_of_mem i hj)) (by rw [hslots]; exact mwf_mdel _ hwf)
    refine ⟨?_, fun k hk => ?_, fun k hk => ?_⟩
    · exact (rakeFrame_slotDisarm s p i).trans honly
    · rw [List.foldl_cons, hother k hk, hslots, mfind_mdel_ne (by omega) hwf]
    · rw [List.foldl_cons, hmine k hk, hslots]
      by_cases hki : k = p * 64 + i
      · rw [hki, mfind_mdel_same _ hwf]
        simp [Nat.mod_eq_of_lt hi]
      · have hne : k % 64 ≠ i := by omega
        simp [mfind_mdel_ne hki hwf, hne]

/-! ### A slot is armed (R187) -/

/-- The batch of a slot is formed, or stands already (R188). -/
theorem batchJoin_cases (s : State) (p : Nat) (x : RakeSlot) : ∃ bs out,
    batchJoin s p x = ({ s with rake := { s.rake with batches := bs } }, out) ∧ ∃ b ∈ bs, b.isAt p x.node (rakeBlock x.addr) = true := by
  unfold batchJoin
  dsimp only
  split
  · next b hfind =>
    have hat := List.find?_some hfind
    have hmem := List.mem_of_find?_eq_some hfind
    split_ifs
    · exact ⟨s.rake.batches, _, rfl, b, hmem, hat⟩
    · exact ⟨_, _, rfl, _, List.mem_map_of_mem hmem, by rw [if_pos hat]; exact hat⟩
  · exact ⟨_, _, rfl, _, List.mem_append_right _ (List.mem_singleton_self _), by simp [Batch.isAt]⟩

/-- The Rake with a slot armed in place of what was armed there. -/
def rakeArmed (s : State) (k : Nat) (x : RakeSlot) (bs : List Batch) : Rake := { s.rake with slots := mput (mdel s.rake.slots k) k x, batches := bs }

/-- A slot is armed afresh, in its batch. -/
theorem slotArm_cases (s : State) (p i : Nat) (x : RakeSlot) : ∃ bs out,
    slotArm s p i x = rakeShow { s with rake := rakeArmed s (p * 64 + i) { x with fresh := true, stale := out } bs } p ∧
    ∃ b ∈ bs, b.isAt p x.node (rakeBlock x.addr) = true := by
  obtain ⟨bs, out, hjoin, hat⟩ := batchJoin_cases (batchPrune { s with rake := { s.rake with slots := mdel s.rake.slots (p * 64 + i) } }) p x
  refine ⟨bs, out, ?_, hat⟩
  unfold slotArm
  dsimp only
  rw [hjoin]
  rfl

end Sys2Proof.Proofs.RakeCommands
end

section
/-!
SUPPORT. The window of a slot's word (R87, R96, R186): the line that matches, the check of a marked line, and the fill that ARM waits for.
-/
namespace Sys2Proof.Proofs.RakeWindows
open Sys2Proof.Machine Sys2Proof.Proofs.Fields Sys2Proof.Proofs.EntryFields Sys2Proof.Proofs.EccErrors Sys2Proof.Proofs.ConfigTable
open Sys2Proof.Proofs.PlotCommands Sys2Proof.Proofs.PrefetchBuffer

variable {s t : State} {p q w : Nat} {l : Line} {e : WinEntry}

/-! ### The line that matches (R85, R96) -/

theorem findLine_congr (hquads : t.quads = s.quads) (hout : getF t (F.PE_WINDOWS_OUT_COUNT p) = getF s (F.PE_WINDOWS_OUT_COUNT p))
    (hin : getF t (F.PE_WINDOWS_IN_COUNT p) = getF s (F.PE_WINDOWS_IN_COUNT p)) (dirIn bar4 : Bool) (off len : Nat) :
    findLine t p dirIn bar4 off len = findLine s p dirIn bar4 off len := by
  have huse (k : Nat) : windowInUse t p k = windowInUse s p k := by rw [windowInUse, windowInUse, hout, hin]
  simp only [findLine, huse, lineOf_congr hquads]

/-- What the check of a line finds depends on Hedge's fence alone (R405). -/
theorem recheck_snd_congr (hhdg : t.hdg = s.hdg) : (recheck t p w l e).2 = (recheck s p w l e).2 := by
  have hfence : windowFenceOk t p e = windowFenceOk s p e := by rw [windowFenceOk, windowFenceOk, fenceOk, fenceOk, hhdg]
  unfold recheck
  rw [hfence]
  dsimp only
  split_ifs <;> rfl

/-- A line that passes changes in its quadrant alone. -/
theorem recheck_of_unfenced (h : (recheck s p w l e).2.fenced = false) :
    (recheck s p w l e).1 = { s with quads := (recheck s p w l e).1.quads } := by
  unfold recheck at h ⊢
  dsimp only at h ⊢
  split_ifs at h ⊢ <;> rfl

theorem rake_pfReportAll (s : State) (q cause : Nat) (es : List Prefetch) : (pfReportAll s q cause es).rake = s.rake := by
  induction es generalizing s with
  | nil => rfl
  | cons f es ih =>
    refine (ih _).trans ?_
    by_cases h : pfMissing f = []
    · rw [pfReport_of_delivered h]
    · obtain ⟨r, -, heq⟩ := pfReport_of_missing (s := s) (q := q) (cause := cause) h
      rw [heq, faultRated_only]
      rfl

/-- No check of a line touches the Rake. -/
theorem rake_recheck (s : State) (p w : Nat) (l : Line) (e : WinEntry) : (recheck s p w l e).1.rake = s.rake := by
  unfold recheck
  dsimp only
  split_ifs
  · rfl
  · rfl
  · exact rake_pfReportAll _ _ _ _
  · exact (rake_pfReportAll _ _ _ _).trans (setEv_rake _ _ _)

/-! ### Fills (R43, R87) -/

theorem tableRead_only (s : State) (q : Nat) (use : TabUse) (addr len : Nat) : (tableRead s q use addr len).1 =
    { s with cells := (tableRead s q use addr len).1.cells, quads := (tableRead s q use addr len).1.quads, pga := (tableRead s q use addr len).1.pga,
             out := (tableRead s q use addr len).1.out } := by
  unfold tableRead
  split_ifs
  · rfl
  · rw [tableSend_only]
  · rfl

theorem fieldsBut_tableRead (s : State) (q : Nat) (use : TabUse) (addr len : Nat) :
    FieldsBut s (tableRead s q use addr len).1 (trafficFields q) := by
  unfold tableRead
  split_ifs
  · exact fieldsBut_refl s _
  · exact fieldsBut_tableSend _ _ _ _ _
  · exact fieldsBut_congr rfl (fieldsBut_refl s _)

/-- The registers that the start of a fill changes. -/
def fillFields (q : Nat) : List Fld := trafficFields q ++ [F.GRF_CACHE_MISSES q, F.GRF_CACHE_FILL_FAIL q, F.GRF_EVENT_FILL_FAIL q]

theorem fillFields_ofDevice : ∀ q < 4, ∀ f ∈ fillFields q, OfDevice f := by
  unfold OfDevice
  decide +kernel

theorem misses_key_ne_tableReads : ∀ q < 4, ∀ f ∈ tableReads q, f.key ≠ (F.GRF_CACHE_MISSES q).key := by decide +kernel

/-- The read of a plot's outbound windows. -/
def fillRead (s : State) (p : Nat) : State × Bool :=
  tableRead (bump s (F.GRF_CACHE_MISSES (quadrantOf p))) (quadrantOf p) (.fill p false) (windowAddr s p 0) (64 * windowCount s p false)

/-- A fill is under way already, or its plot has no window in use, or its read goes out or fails. -/
theorem fillStart_cases (s : State) (p : Nat) :
    let busy := fillBusy s p false || commitWriting s p false || decide (64 ≤ (quadOf s (quadrantOf p)).fills.length)
    (busy = true ∧ fillStart s p false = (s, .waits)) ∨
      (busy = false ∧ windowCount s p false = 0 ∧ fillStart s p false = (s, .noWindow)) ∨
      (busy = false ∧ windowCount s p false ≠ 0 ∧ (fillRead s p).2 = true ∧ ∃ g, fillStart s p false = (modQuad (fillRead s p).1 (quadrantOf p) g, .waits)) ∨
      (busy = false ∧ windowCount s p false ≠ 0 ∧ (fillRead s p).2 = false ∧ fillStart s p false = (fillFailed (fillRead s p).1 (quadrantOf p), .failed)) := by
  intro busy
  unfold fillStart
  dsimp only
  cases hbusy : busy with
  | true => exact .inl ⟨rfl, if_pos hbusy⟩
  | false =>
    rw [if_neg (by rw [Bool.not_eq_true]; exact hbusy)]
    by_cases hnone : windowCount s p false = 0
    · exact .inr (.inl ⟨rfl, hnone, if_pos (beq_iff_eq.2 hnone)⟩)
    · rw [if_neg (by simpa using hnone)]
      have hread : tableRead (bump s (F.GRF_CACHE_MISSES (quadrantOf p))) (quadrantOf p) (.fill p false) (windowAddr s p (dirBase false))
        (64 * windowCount s p false) = fillRead s p := rfl
      rw [hread]
      generalize fillRead s p = read
      obtain ⟨u, ok⟩ := read
      cases ok with
      | true => exact .inr (.inr (.inl ⟨rfl, hnone, rfl, _, rfl⟩))
      | false => exact .inr (.inr (.inr ⟨rfl, hnone, rfl, rfl⟩))

/-- The read goes out where configuration memory is reached. -/
theorem snd_fillRead (hq : quadrantOf p < 4) : (fillRead s p).2 = tableReached s (quadrantOf p) := by
  have hsame : SameTable s (bump s (F.GRF_CACHE_MISSES (quadrantOf p))) (quadrantOf p) :=
    ⟨fun f hf => getF_bump_ne s (misses_key_ne_tableReads _ hq f hf), rfl, rfl⟩
  rw [fillRead, tableRead_snd, hsame.reached]

/-- A fill is waited for as the words have it. -/
theorem fillStart_waits (hq : quadrantOf p < 4) : (fillStart s p false).2 = .waits ↔ fillWaits s p = true := by
  have hread := snd_fillRead (s := s) hq
  unfold fillWaits
  rcases fillStart_cases s p with ⟨hbusy, h⟩ | ⟨hbusy, hnone, h⟩ | ⟨hbusy, hsome, hok, g, h⟩ | ⟨hbusy, hsome, hok, h⟩ <;> rw [h, hbusy]
  · simp
  · simp [hnone]
  · simp [hsome, ← hread, hok]
  · simp [← hread, hok]

theorem fillStart_only (s : State) (p : Nat) : (fillStart s p false).1 =
    { s with cells := (fillStart s p false).1.cells, quads := (fillStart s p false).1.quads, pga := (fillStart s p false).1.pga,
             out := (fillStart s p false).1.out } := by
  have hread : (fillRead s p).1 = { s with cells := (fillRead s p).1.cells, quads := (fillRead s p).1.quads, pga := (fillRead s p).1.pga,
                                           out := (fillRead s p).1.out } := tableRead_only _ _ _ _ _
  rcases fillStart_cases s p with ⟨-, h⟩ | ⟨-, -, h⟩ | ⟨-, -, -, g, h⟩ | ⟨-, -, -, h⟩ <;> rw [h]
  · change modQuad (fillRead s p).1 _ g = { s with cells := _, quads := _, pga := _, out := _ }
    rw [hread]
    rfl
  · have hevent := setEv_only (bump (fillRead s p).1 (F.GRF_CACHE_FILL_FAIL (quadrantOf p))) (F.GRF_EVENT_FILL_FAIL (quadrantOf p)) (1220 + quadrantOf p)
    unfold OnlyCells at hevent
    change fillFailed (fillRead s p).1 _ = { s with cells := _, quads := _, pga := _, out := _ }
    rw [fillFailed, hevent, hread]
    rfl

theorem fieldsBut_fillStart (hq : quadrantOf p < 4) : FieldsBut s (fillStart s p false).1 (fillFields (quadrantOf p)) := by
  have hread : FieldsBut s (fillRead s p).1 (fillFields (quadrantOf p)) :=
    fieldsBut_trans (fieldsBut_setF _ (by simp [fillFields]) (fieldsBut_refl s _))
      (fieldsBut_mono (List.subset_append_left _ _) (fieldsBut_tableRead _ _ _ _ _))
  rcases fillStart_cases s p with ⟨-, h⟩ | ⟨-, -, h⟩ | ⟨-, -, -, g, h⟩ | ⟨-, -, -, h⟩ <;> rw [h]
  · exact fieldsBut_refl s _
  · exact fieldsBut_refl s _
  · exact fieldsBut_congr (t := (fillRead s p).1) rfl hread
  · have hpend : (1220 + quadrantOf p) / 64 = 19 := by omega
    exact fieldsBut_setEv _ (by simp [fillFields]) (by rw [hpend]; simp [fillFields, trafficFields]) (fieldsBut_setF _ (by simp [fillFields]) hread)

end Sys2Proof.Proofs.RakeWindows
end

section
/-!
CLAIM. Rake commands (R51, R185, R186, R187): the rules of each, and the obligation, whose clause on ARM does not say that the table of slots lists a key once.
-/
namespace Sys2Proof.Proofs.RakeSlots
open Sys2Proof.Machine Sys2Proof.Proofs.Fields Sys2Proof.Proofs.Registers Sys2Proof.Proofs.EntryFields
open Sys2Proof.Proofs.ConfigTable Sys2Proof.Proofs.PlotCommands Sys2Proof.Proofs.BitsAndKeys Sys2Proof.Proofs.RakeCommands Sys2Proof.Proofs.RakeWindows

variable {s t u : State} {w : Nat} {l : Line} {e : WinEntry} {x : RakeSlot}

/-! ### Commands that are taken, and those that are not (R51, R185) -/

/-- The Rake's commands of plot p. -/
def rakeCommands (p : Fin 4096) (i : Fin 64) : List Instr := [.rakeArm p i, .rakeDisarm p i, .rakeDisarmAll p i]

theorem exec_rakeCommand {p : Fin 4096} {i : Fin 64} {c : Instr} (hc : c ∈ rakeCommands p i) : ∃ act, exec c s = .next (rakeCmd s p i act) := by
  simp only [rakeCommands, List.mem_cons, List.not_mem_nil, or_false] at hc
  rcases hc with rfl | rfl | rfl
  · exact ⟨_, rfl⟩
  · exact ⟨_, rfl⟩
  · exact ⟨_, rfl⟩

theorem rakeCommand_dead_leaves {p : Fin 4096} {i : Fin 64} {c : Instr} (hc : c ∈ rakeCommands p i)
    (hdead : plotState s p = psDisabled ∨ plotState s p = psResetting) : Leaves c s := by
  obtain ⟨act, hexec⟩ := exec_rakeCommand (s := s) hc
  rw [Leaves, hexec, rakeCmd, if_pos (by simpa using hdead)]

theorem rakeCommand_busy_runs {p : Fin 4096} {i : Fin 64} {c : Instr} (hc : c ∈ rakeCommands p i) (hd : plotState s p ≠ psDisabled)
    (hr : plotState s p ≠ psResetting) (hb : bitF s (F.PP_RAKE_STATUS_BUSY p) = true) :
    Runs c s fun t => bitF t (F.PP_RAKE_STATUS_OVERRUN p) = true ∧ OnlyCells s t ∧ FieldsBut s t [F.PP_RAKE_STATUS_OVERRUN p] := by
  obtain ⟨act, hexec⟩ := exec_rakeCommand (s := s) hc
  have hover : rakeCmd s p i act = setF s (F.PP_RAKE_STATUS_OVERRUN p) 1 := by simp [rakeCmd, hd, hr, hb]
  exact ⟨_, hexec.trans (congrArg _ hover), bitF_setF_one s rfl, rfl, fieldsBut_setF _ (by simp) (fieldsBut_refl s _)⟩

/-- A plot whose page takes commands, with none in progress. -/
structure Idle (s : State) (p : Nat) : Prop where
  enabled : plotState s p ≠ psDisabled
  released : plotState s p ≠ psResetting
  idle : bitF s (F.PP_RAKE_STATUS_BUSY p) = false

/-- A command that is taken names its slot, and acts. -/
def taken (s : State) (p i : Nat) : State := setF s (F.PP_RAKE_STATUS_SLOT p) i

theorem rakeCmd_taken {p : Nat} (h : Idle s p) (i : Nat) (act : State → State) : rakeCmd s p i act = act (taken s p i) := by
  simp [rakeCmd, taken, h.enabled, h.released, h.idle]

theorem end_key_ne {p : Nat} {g : Fld} (hg : g = F.PP_RAKE_PEND_V p ∨ g = F.PP_RAKE_ARMED_V p) : ∀ f ∈ endFields p, g.key ≠ f.key := by
  intro f hf
  simp only [endFields, List.mem_cons, List.not_mem_nil, or_false] at hf
  rcases hg with rfl | rfl <;> rcases hf with rfl | rfl | rfl <;>
    simp only [Fld.key, F.PP_RAKE_PEND_V, F.PP_RAKE_ARMED_V, F.PP_RAKE_STATUS_RESULT, F.PP_RAKE_STATUS_SLOT, F.PP_RAKE_STATUS_BUSY, A.PP_RAKE_STATUS] <;>
    omega

/-! ### DISARM and DISARM_ALL (R186) -/

theorem rakeDisarm_runs {p : Fin 4096} {i : Fin 64} (h : Idle s p) (hwf : mwf s.rake.slots = true) :
    Runs (.rakeDisarm p i) s fun t =>
      mfind t.rake.slots (p * 64 + i) = none ∧ (∀ k, k ≠ p * 64 + i.val → mfind t.rake.slots k = mfind s.rake.slots k) ∧
      bitOf (getF t (F.PP_RAKE_PEND_V p)) i = false ∧ bitOf (getF t (F.PP_RAKE_ARMED_V p)) i = false ∧ getF t (F.PP_RAKE_STATUS_RESULT p) = 0 ∧
      t = { s with cells := t.cells, rake := t.rake } := by
  have hslots : (rakeEnd (slotDisarm (taken s p i) p i) p i 0).rake.slots = mdel s.rake.slots (p * 64 + i) := slots_slotDisarm (taken s p i) p i
  refine ⟨rakeEnd (slotDisarm (taken s p i) p i) p i 0, congrArg _ (rakeCmd_taken h i _), ?_, fun k hk => ?_, ?_, ?_, getF_result_rakeEnd (by decide), ?_⟩
  · rw [hslots, mfind_mdel_same _ hwf]
  · rw [hslots, mfind_mdel_ne hk hwf]
  · rw [fieldsBut_rakeEnd _ _ _ _ _ (end_key_ne (.inl rfl)), bitOf_pend_slotDisarm i.isLt]
  · rw [fieldsBut_rakeEnd _ _ _ _ _ (end_key_ne (.inr rfl)), bitOf_armed_slotDisarm (s := taken s p i) hwf i.isLt]
  · exact ((rakeFrame_of_cells (setF_only s _ _)).trans (rakeFrame_slotDisarm (taken s p i) p i)).rakeEnd _ _ _

/-- DISARM_ALL for every key of the table: the obligation's clause has its keys range over plot numbers, so over those of plots 0 to 63 alone. -/
theorem rakeDisarmAll_runs {p : Fin 4096} {i : Fin 64} (h : Idle s p) (hwf : mwf s.rake.slots = true) :
    Runs (.rakeDisarmAll p i) s fun t =>
      (∀ k, k / 64 = p.val → mfind t.rake.slots k = none) ∧ (∀ k, k / 64 ≠ p.val → mfind t.rake.slots k = mfind s.rake.slots k) ∧
      getF t (F.PP_RAKE_STATUS_RESULT p) = 0 ∧ t = { s with cells := t.cells, rake := t.rake } := by
  have hall : ∀ j ∈ armedIn s p, j < 64 := by
    intro j hj
    obtain ⟨y, -, rfl⟩ := List.mem_map.1 hj
    exact Nat.mod_lt _ (by decide)
  obtain ⟨hframe, hother, hmine⟩ := slots_foldl_slotDisarm (s := taken s p i) (p := p) (armedIn s p) hall hwf
  refine ⟨rakeEnd (slotsDisarm (taken s p i) p) p i 0, congrArg _ (rakeCmd_taken h i _), fun k hk => ?_, hother, getF_result_rakeEnd (by decide), ?_⟩
  · refine (hmine k hk).trans ?_
    split_ifs with hin
    · rfl
    · rw [mem_armedIn hwf (Nat.mod_lt _ (by decide)), show p.val * 64 + k % 64 = k by omega, Bool.not_eq_true, Option.isSome_eq_false_iff,
        Option.isNone_iff_eq_none] at hin
      exact hin
  · exact ((rakeFrame_of_cells (setF_only s _ _)).trans hframe).rakeEnd _ _ _

/-! ### The checks of ARM (R186) -/

theorem getF_taken {p i : Nat} {g : Fld} (hg : Apart p g) : getF (taken s p i) g = getF s g :=
  getF_setF_ne s _ (key_ne_work hg (by simp [workFields, endFields]))

/-- The fields of a PlotEntry lie behind the pages. -/
theorem apart_of_entry {g : Fld} (p : Fin 4096) (hg : 0x200000000 ≤ g.addr) : Apart p g := .inr (by omega)

theorem plotState_taken (p : Fin 4096) (i : Nat) : plotState (taken s p i) p = plotState s p :=
  getF_taken (apart_of_entry p (by simp only [F.PE_STATUS_STATE, A.PE_STATUS]; omega))

theorem limit_taken (p : Fin 4096) (i : Nat) : getF (taken s p i) (F.PE_CAPS_RAKE_LIMIT p) = getF s (F.PE_CAPS_RAKE_LIMIT p) :=
  getF_taken (apart_of_entry p (by simp only [F.PE_CAPS_RAKE_LIMIT, A.PE_CAPS]; omega))

theorem vectors_taken (p : Fin 4096) (i : Nat) : getF (taken s p i) (F.PE_MSIX_VEC_COUNT p) = getF s (F.PE_MSIX_VEC_COUNT p) :=
  getF_taken (apart_of_entry p (by simp only [F.PE_MSIX_VEC_COUNT, A.PE_MSIX]; omega))

theorem mode_taken (p i : Nat) : getF (taken s p i) (F.PP_RAKE_CTRL_MODE p i) = getF s (F.PP_RAKE_CTRL_MODE p i) :=
  getF_taken (.inr (by simp only [F.PP_RAKE_CTRL_MODE, A.PP_RAKE_CTRL]; omega))

theorem vec_taken (p i : Nat) : getF (taken s p i) (F.PP_RAKE_CTRL_VEC p i) = getF s (F.PP_RAKE_CTRL_VEC p i) :=
  getF_taken (.inr (by simp only [F.PP_RAKE_CTRL_VEC, A.PP_RAKE_CTRL]; omega))

theorem armStaged_taken (p i : Nat) : armStaged (taken s p i) p i = armStaged s p i := by
  have hoff : getF (taken s p i) (F.PP_RAKE_WATCH_OFFSET p i) = getF s (F.PP_RAKE_WATCH_OFFSET p i) :=
    getF_taken (.inr (by simp only [F.PP_RAKE_WATCH_OFFSET, A.PP_RAKE_WATCH]; omega))
  have hbar : getF (taken s p i) (F.PP_RAKE_WATCH_BAR p i) = getF s (F.PP_RAKE_WATCH_BAR p i) :=
    getF_taken (.inr (by simp only [F.PP_RAKE_WATCH_BAR, A.PP_RAKE_WATCH]; omega))
  have hmask : getF (taken s p i) (F.PP_RAKE_MASK_V p i) = getF s (F.PP_RAKE_MASK_V p i) :=
    getF_taken (.inr (by simp only [F.PP_RAKE_MASK_V, A.PP_RAKE_MASK]; omega))
  rw [armStaged, armStaged, watchOff, watchOff, hoff, bitF_congr hbar, hmask, mode_taken, vec_taken]

/-- ARM acts on the state in which its slot is named. -/
theorem exec_rakeArm {p : Fin 4096} {i : Fin 64} (h : Idle s p) : exec (.rakeArm p i) s = .next (rakeArm (taken s p i) p i) :=
  congrArg _ (rakeCmd_taken h i _)

/-- In a plot that is Serving or Held the slot's number and its format are checked next. -/
theorem rakeArm_serves {p : Fin 4096} {i : Nat} (h : plotState s p = psServing ∨ plotState s p = psHeld) :
    rakeArm (taken s p i) p i =
      if getF s (F.PE_CAPS_RAKE_LIMIT p) ≤ i then rakeEnd (taken s p i) p i 2
      else if getF s (F.PP_RAKE_CTRL_MODE p i) = 3 ∨ getF s (F.PE_MSIX_VEC_COUNT p) ≤ getF s (F.PP_RAKE_CTRL_VEC p i) then rakeEnd (taken s p i) p i 3
      else armTry (setF (taken s p i) (F.PP_RAKE_STATUS_BUSY p) 1) p i (armStaged s p i) := by
  have hserves : (!(plotState s p == psServing || plotState s p == psHeld)) = false := by
    rw [Bool.not_eq_false']
    simpa using h
  unfold rakeArm
  simp only [plotState_taken, limit_taken, mode_taken, vec_taken, vectors_taken, armStaged_taken, hserves, Bool.false_eq_true, if_false, Bool.or_eq_true,
    beq_iff_eq, decide_eq_true_eq]

/-- Of a command that ends at once registers alone have changed, and RESULT tells why. -/
theorem rakeEnd_taken {p i r : Nat} (hr : r < 16) : getF (rakeEnd (taken s p i) p i r) (F.PP_RAKE_STATUS_RESULT p) = r ∧
    (rakeEnd (taken s p i) p i r).rake = s.rake ∧ OnlyCells s (rakeEnd (taken s p i) p i r) := ⟨getF_result_rakeEnd hr, rfl, rfl⟩

theorem rakeArm_refused_runs {p : Fin 4096} {i : Fin 64} (h : Idle s p) :
    Runs (.rakeArm p i) s fun t =>
      (plotState s p ≠ psServing → plotState s p ≠ psHeld → getF t (F.PP_RAKE_STATUS_RESULT p) = 1 ∧ t.rake = s.rake ∧ OnlyCells s t) ∧
      (plotState s p = psServing ∨ plotState s p = psHeld → getF s (F.PE_CAPS_RAKE_LIMIT p) ≤ i.val → getF t (F.PP_RAKE_STATUS_RESULT p) = 2 ∧ t.rake = s.rake ∧ OnlyCells s t) ∧
      (plotState s p = psServing ∨ plotState s p = psHeld → i.val < getF s (F.PE_CAPS_RAKE_LIMIT p) →
        getF s (F.PP_RAKE_CTRL_MODE p i) = 3 ∨ getF s (F.PE_MSIX_VEC_COUNT p) ≤ getF s (F.PP_RAKE_CTRL_VEC p i) →
        getF t (F.PP_RAKE_STATUS_RESULT p) = 3 ∧ t.rake = s.rake ∧ OnlyCells s t) := by
  refine ⟨_, exec_rakeArm h, fun hserving hheld => ?_, fun hserves hlimit => ?_, fun hserves hlimit hformat => ?_⟩
  · have hend : rakeArm (taken s p i) p i = rakeEnd (taken s p i) p i 1 := by simp [rakeArm, plotState_taken, hserving, hheld]
    exact hend ▸ rakeEnd_taken (by decide)
  · have hend : rakeArm (taken s p i) p i = rakeEnd (taken s p i) p i 2 := by rw [rakeArm_serves hserves, if_pos hlimit]
    exact hend ▸ rakeEnd_taken (by decide)
  · have hend : rakeArm (taken s p i) p i = rakeEnd (taken s p i) p i 3 := by
      rw [rakeArm_serves hserves, if_neg (not_le.2 hlimit), if_pos hformat]
    exact hend ▸ rakeEnd_taken (by decide)

/-! ### ARM looks for its window (R186, R187) -/

/-- ARM of a slot whose state, number and format pass the checks. -/
structure ArmPasses (s : State) (p i : Nat) : Prop where
  serves : plotState s p = psServing ∨ plotState s p = psHeld
  idle : bitF s (F.PP_RAKE_STATUS_BUSY p) = false
  limit : i < getF s (F.PE_CAPS_RAKE_LIMIT p)
  mode : getF s (F.PP_RAKE_CTRL_MODE p i) < 3
  vec : getF s (F.PP_RAKE_CTRL_VEC p i) < getF s (F.PE_MSIX_VEC_COUNT p)

theorem ArmPasses.idlePlot {p i : Nat} (h : ArmPasses s p i) : Idle s p := by
  refine ⟨?_, ?_, h.idle⟩ <;> rcases h.serves with hst | hst <;> rw [hst] <;> decide

/-- The state in which the window of the slot's word is looked for. -/
def armStarts (s : State) (p i : Nat) : State :=
  modPlot (setF (taken s p i) (F.PP_RAKE_STATUS_BUSY p) 1) p fun x => { x with arm := none }

theorem fieldsBut_armStarts (s : State) (p i : Nat) : FieldsBut s (armStarts s p i) (workFields p) :=
  fieldsBut_congr (t := setF (taken s p i) (F.PP_RAKE_STATUS_BUSY p) 1) rfl
    (fieldsBut_setF _ (by simp [workFields, endFields]) (fieldsBut_setF _ (by simp [workFields, endFields]) (fieldsBut_refl s _)))

theorem getF_armStarts {p i : Nat} {g : Fld} (hg : Apart p g) : getF (armStarts s p i) g = getF s g :=
  fieldsBut_armStarts s p i g fun _ hf => key_ne_work hg hf

theorem findLine_armStarts (p : Fin 4096) (i : Nat) (d b : Bool) (off len : Nat) :
    findLine (armStarts s p i) p d b off len = findLine s p d b off len :=
  findLine_congr (s := s) (t := armStarts s p i) rfl (getF_armStarts (apart_of_entry p (by simp only [F.PE_WINDOWS_OUT_COUNT, A.PE_WINDOWS]; omega)))
    (getF_armStarts (apart_of_entry p (by simp only [F.PE_WINDOWS_IN_COUNT, A.PE_WINDOWS]; omega))) d b off len

theorem heldQ_armStarts (p i q k : Nat) : heldQ (armStarts s p i) q k = heldQ s q k := by
  have hdev : OfDevice F.RST_SOFT_QUAD := by
    unfold OfDevice
    decide
  rw [heldQ, heldQ, getF_armStarts (.inl hdev)]

theorem recheck_armStarts (p i : Nat) : (recheck (armStarts s p i) p w l e).2 = (recheck s p w l e).2 := recheck_snd_congr rfl

theorem exec_rakeArm_passes {p : Fin 4096} {i : Fin 64} (h : ArmPasses s p i) :
    exec (.rakeArm p i) s = .next (armTry (setF (taken s p i) (F.PP_RAKE_STATUS_BUSY p) 1) p i (armStaged s p i)) := by
  have hformat : ¬(getF s (F.PP_RAKE_CTRL_MODE p i) = 3 ∨ getF s (F.PE_MSIX_VEC_COUNT p) ≤ getF s (F.PP_RAKE_CTRL_VEC p i)) :=
    not_or.2 ⟨h.mode.ne, not_le.2 h.vec⟩
  rw [exec_rakeArm h.idlePlot, rakeArm_serves h.serves, if_neg (not_le.2 h.limit), if_neg hformat]

/-- A held Graft has no window (R479). -/
theorem exec_rakeArm_held {p : Fin 4096} {i : Fin 64} (h : ArmPasses s p i) (hheld : heldQ s (quadrantOf p) 1 = true) :
    exec (.rakeArm p i) s = .next (rakeEnd (armStarts s p i) p i 4) := by
  rw [exec_rakeArm_passes h]
  unfold armTry
  dsimp only
  rw [← armStarts, heldQ_armStarts, if_pos hheld]

/-- A line that matches is checked, and decides. -/
theorem exec_rakeArm_matched {p : Fin 4096} {i : Fin 64} (h : ArmPasses s p i) (hheld : heldQ s (quadrantOf p) 1 = false)
    (hfind : findLine s p false (bitF s (F.PP_RAKE_WATCH_BAR p i)) (watchOff s p i) 8 = some (w, l, e)) :
    exec (.rakeArm p i) s = .next (armMatched (recheck (armStarts s p i) p w l e).1 p i w (armStaged s p i) (recheck s p w l e).2 e) := by
  have hline : findLine (armStarts s p i) p false (armStaged s p i).bar4 (armStaged s p i).off 8 = some (w, l, e) :=
    (findLine_armStarts p i _ _ _ _).trans hfind
  rw [exec_rakeArm_passes h]
  unfold armTry
  dsimp only
  rw [← armStarts, heldQ_armStarts, if_neg (by simp [hheld]), hline, ← recheck_armStarts p i]

/-- With no line at hand a fill is started, or is waited for (R87). -/
theorem exec_rakeArm_unmatched {p : Fin 4096} {i : Fin 64} (h : ArmPasses s p i) (hheld : heldQ s (quadrantOf p) 1 = false)
    (hfind : findLine s p false (bitF s (F.PP_RAKE_WATCH_BAR p i)) (watchOff s p i) 8 = none) :
    exec (.rakeArm p i) s = .next (if (fillStart (armStarts s p i) p false).2 = .waits
      then modPlot (fillStart (armStarts s p i) p false).1 p fun y => { y with arm := some (i.val, armStaged s p i) }
      else rakeEnd (fillStart (armStarts s p i) p false).1 p i 4) := by
  have hline : findLine (armStarts s p i) p false (armStaged s p i).bar4 (armStaged s p i).off 8 = none :=
    (findLine_armStarts p i _ _ _ _).trans hfind
  rw [exec_rakeArm_passes h]
  unfold armTry
  dsimp only
  rw [← armStarts, heldQ_armStarts, if_neg (by simp [hheld]), hline]
  dsimp only
  generalize fillStart (armStarts s p i) p false = start
  obtain ⟨u, how⟩ := start
  cases how <;> rfl

/-! ### ARM with a window at hand (R186, R187) -/

theorem rakeArm_window_refused_runs {p : Fin 4096} {i : Fin 64} (h : ArmPasses s p i) (hheld : heldQ s (quadrantOf p) 1 = false)
    (hfind : findLine s p false (bitF s (F.PP_RAKE_WATCH_BAR p i)) (watchOff s p i) 8 = some (w, l, e)) :
    Runs (.rakeArm p i) s fun t =>
      ((recheck s p w l e).2.fenced = true ∨ e.rdEn = false → getF t (F.PP_RAKE_STATUS_RESULT p) = 4 ∧ t.rake = s.rake) ∧
      ((recheck s p w l e).2.fenced = false → e.rdEn = true →
        e.sideEffect = true ∨ meetsSide s e.node (e.tbase + (watchOff s p i - e.first)) (e.tbase + (watchOff s p i - e.first) + 7) = true →
        getF t (F.PP_RAKE_STATUS_RESULT p) = 5 ∧ t.rake = s.rake) := by
  have hends (r : Nat) (hr : r < 16) : getF (rakeEnd (recheck (armStarts s p i) p w l e).1 p i r) (F.PP_RAKE_STATUS_RESULT p) = r ∧
      (rakeEnd (recheck (armStarts s p i) p w l e).1 p i r).rake = s.rake := ⟨getF_result_rakeEnd hr, rake_recheck _ _ _ _ _⟩
  refine ⟨_, exec_rakeArm_matched h hheld hfind, fun hbad => ?_, fun hfence hrd hside => ?_⟩
  · rw [armMatched]
    dsimp only
    rw [if_pos (by simpa using hbad)]
    exact hends 4 (by decide)
  · have hhdg : (recheck (armStarts s p i) p w l e).1.hdg = s.hdg := by
      rw [recheck_of_unfenced (by rw [recheck_armStarts, hfence])]
      rfl
    have hmeets : meetsSide (recheck (armStarts s p i) p w l e).1 = meetsSide s := by
      unfold meetsSide
      rw [hhdg]
    rw [armMatched]
    dsimp only
    rw [if_neg (by simp [hfence, hrd]), hmeets, if_pos (by simpa [RakeSlot.under, armStaged] using hside)]
    exact hends 5 (by decide)

/-- A slot that passes every check is armed, its PEND bit and LAST are cleared, and the command ends (R187). -/
theorem armMatched_of_passes (hfence : l.fenced = false) (hrd : e.rdEn = true) (hside : e.sideEffect = false)
    {p i : Nat} (hmeets : meetsSide s e.node (x.under w l e).addr ((x.under w l e).addr + 7) = false) :
    armMatched s p i w x l e = rakeEnd (setF (setF (slotArm s p i (x.under w l e)) (F.PP_RAKE_PEND_V p) (clrBit (getF s (F.PP_RAKE_PEND_V p)) i))
      (F.PP_RAKE_LAST_V p i) 0) p i 0 := by
  simp [armMatched, hfence, hrd, hside, hmeets]

/-- What the end of a successful ARM leaves of the slot's registers and of the Rake. -/
structure Armed (s t : State) (p i : Nat) (x : RakeSlot) : Prop where
  slot : ∃ out, mfind t.rake.slots (p * 64 + i) = some { x with fresh := true, stale := out }
  others : ∀ k, k ≠ p * 64 + i → mfind t.rake.slots k = mfind s.rake.slots k
  batch : ∃ b ∈ t.rake.batches, b.plot = p ∧ b.node = x.node ∧ b.block = rakeBlock x.addr
  result : getF t (F.PP_RAKE_STATUS_RESULT p) = 0
  named : getF t (F.PP_RAKE_STATUS_SLOT p) = i
  idle : bitF t (F.PP_RAKE_STATUS_BUSY p) = false
  last : getF t (F.PP_RAKE_LAST_V p i) = 0
  pend : bitOf (getF t (F.PP_RAKE_PEND_V p)) i = false
  armed : bitOf (getF t (F.PP_RAKE_ARMED_V p)) i = true
  frame : RakeFrame s t

theorem last_key_ne {p : Nat} (i : Nat) {f : Fld} (hf : f ∈ workFields p) : (F.PP_RAKE_LAST_V p i).key ≠ f.key :=
  key_ne_work (.inr (by simp only [F.PP_RAKE_LAST_V, A.PP_RAKE_LAST]; omega)) hf

theorem armed_rakeEnd {p i : Nat} (hwf : mwf s.rake.slots = true) (hi : i < 64) (x : RakeSlot) :
    Armed s (rakeEnd (setF (setF (slotArm s p i x) (F.PP_RAKE_PEND_V p) (clrBit (getF s (F.PP_RAKE_PEND_V p)) i)) (F.PP_RAKE_LAST_V p i) 0) p i 0) p i x := by
  obtain ⟨bs, out, harm, b, hb, hat⟩ := slotArm_cases s p i x
  have hwf' : mwf (rakeArmed s (p * 64 + i) { x with fresh := true, stale := out } bs).slots = true := mwf_mput _ _ (mwf_mdel _ hwf)
  have hrake : (slotArm s p i x).rake = rakeArmed s (p * 64 + i) { x with fresh := true, stale := out } bs := by rw [harm, rake_rakeShow]
  have hlast : (F.PP_RAKE_PEND_V p).key ≠ (F.PP_RAKE_LAST_V p i).key := (last_key_ne i (by simp [workFields])).symm
  have hlast' : (F.PP_RAKE_ARMED_V p).key ≠ (F.PP_RAKE_LAST_V p i).key := (last_key_ne i (by simp [workFields])).symm
  have hpend : (F.PP_RAKE_ARMED_V p).key ≠ (F.PP_RAKE_PEND_V p).key := by
    simp only [Fld.key, F.PP_RAKE_ARMED_V, F.PP_RAKE_PEND_V]
    omega
  constructor
  case slot =>
    refine ⟨out, ?_⟩
    change mfind (slotArm s p i x).rake.slots _ = _
    rw [hrake, rakeArmed, mfind_mput_same]
  case others =>
    intro k hk
    change mfind (slotArm s p i x).rake.slots _ = _
    rw [hrake, rakeArmed, mfind_mput_ne _ _ hk, mfind_mdel_ne hk hwf]
  case batch =>
    refine ⟨b, ?_, by simpa [Batch.isAt, and_assoc] using hat⟩
    change b ∈ (slotArm s p i x).rake.batches
    rwa [hrake]
  case result => exact getF_result_rakeEnd (by decide)
  case named => exact getF_slot_rakeEnd hi
  case idle => exact bitF_busy_rakeEnd
  case last =>
    rw [fieldsBut_rakeEnd _ _ _ _ _ fun f hf => last_key_ne i (List.mem_append_left _ hf), getF_setF_same]
    rfl
  case pend =>
    rw [fieldsBut_rakeEnd _ _ _ _ _ (end_key_ne (.inl rfl)), getF_setF_ne _ _ hlast, bitOf_setF _ hi, testBit_clrBit]
    simp
  case armed =>
    rw [fieldsBut_rakeEnd _ _ _ _ _ (end_key_ne (.inr rfl)), getF_setF_ne _ _ hlast', getF_setF_ne _ _ hpend, harm, bitOf_armed_rakeShow hwf' hi]
    simp only [rakeArmed, mfind_mput_same, Option.isSome_some]
  case frame =>
    have hslot : RakeFrame s (slotArm s p i x) :=
      harm ▸ RakeFrame.trans (t := { s with rake := rakeArmed s (p * 64 + i) { x with fresh := true, stale := out } bs }) rfl
        (rakeFrame_of_cells (rakeShow_only _ p))
    exact ((hslot.setF _ _).setF _ _).rakeEnd _ _ _

/-- ARM of a slot that passes every check, where the table of slots lists a key once (R187). -/
theorem rakeArm_armed_runs {p : Fin 4096} {i : Fin 64} (hwf : mwf s.rake.slots = true) (h : ArmPasses s p i) (hheld : heldQ s (quadrantOf p) 1 = false)
    (hfind : findLine s p false (bitF s (F.PP_RAKE_WATCH_BAR p i)) (watchOff s p i) 8 = some (w, l, e))
    (hfence : (recheck s p w l e).2.fenced = false) (hrd : e.rdEn = true) (hside : e.sideEffect = false)
    (hmeets : meetsSide s e.node (e.tbase + (watchOff s p i - e.first)) (e.tbase + (watchOff s p i - e.first) + 7) = false) :
    Runs (.rakeArm p i) s fun t =>
      (∃ x, mfind t.rake.slots (p * 64 + i) = some x ∧ x.win = w ∧ x.gen = (recheck s p w l e).2.curGen ∧ x.node = e.node ∧ x.addr = e.tbase + (watchOff s p i - e.first) ∧ x.cls = e.pollClass ∧
        x.mask = getF s (F.PP_RAKE_MASK_V p i) ∧ x.mode = getF s (F.PP_RAKE_CTRL_MODE p i) ∧ x.vec = getF s (F.PP_RAKE_CTRL_VEC p i) ∧ x.fresh = true) ∧
      (∃ b ∈ t.rake.batches, b.plot = p.val ∧ b.node = e.node ∧ b.block = rakeBlock (e.tbase + (watchOff s p i - e.first))) ∧
      getF t (F.PP_RAKE_STATUS_RESULT p) = 0 ∧ getF t (F.PP_RAKE_STATUS_SLOT p) = i.val ∧ bitF t (F.PP_RAKE_STATUS_BUSY p) = false ∧
      getF t (F.PP_RAKE_LAST_V p i) = 0 ∧ bitOf (getF t (F.PP_RAKE_PEND_V p)) i = false ∧ bitOf (getF t (F.PP_RAKE_ARMED_V p)) i = true ∧
      (∀ k, k ≠ p * 64 + i.val → mfind t.rake.slots k = mfind s.rake.slots k) ∧
      t = { s with cells := t.cells, plots := t.plots, quads := t.quads, rake := t.rake } := by
  have hchecked : (recheck (armStarts s p i) p w l e).1 = { armStarts s p i with quads := (recheck (armStarts s p i) p w l e).1.quads } :=
    recheck_of_unfenced (by rw [recheck_armStarts, hfence])
  have hexec := exec_rakeArm_matched h hheld hfind
  generalize (recheck (armStarts s p i) p w l e).1 = u at hchecked hexec
  have hrake : u.rake = s.rake := by
    rw [hchecked]
    rfl
  have hhdg : u.hdg = s.hdg := by
    rw [hchecked]
    rfl
  have hmeets' : meetsSide u e.node ((armStaged s p i).under w (recheck s p w l e).2 e).addr
      (((armStaged s p i).under w (recheck s p w l e).2 e).addr + 7) = false := by
    rw [meetsSide, hhdg]
    exact hmeets
  rw [armMatched_of_passes hfence hrd hside hmeets'] at hexec
  have harmed := armed_rakeEnd (s := u) (p := p) (hrake.symm ▸ hwf) i.isLt ((armStaged s p i).under w (recheck s p w l e).2 e)
  obtain ⟨out, hslot⟩ := harmed.slot
  refine ⟨_, hexec, ⟨_, hslot, rfl, rfl, rfl, rfl, rfl, rfl, rfl, rfl, rfl⟩, harmed.batch, harmed.result, harmed.named, harmed.idle, harmed.last,
    harmed.pend, harmed.armed, fun k hk => (harmed.others k hk).trans (by rw [hrake]), ?_⟩
  have hframe := harmed.frame
  unfold RakeFrame at hframe
  rw [hframe, hchecked]
  rfl

/-! ### ARM with no line at hand (R87, R186) -/

theorem fillWaits_armStarts (p : Fin 4096) (i : Nat) : fillWaits (armStarts s p i) p = fillWaits s p := by
  have hsame : SameTable s (armStarts s p i) (quadrantOf p) :=
    ⟨fun f hf => getF_armStarts (.inl (tableReads_ofDevice _ (plotPort_lt p) f hf)), rfl, rfl⟩
  have hcount : windowCount (armStarts s p i) p false = windowCount s p false :=
    getF_armStarts (apart_of_entry p (by simp only [F.PE_WINDOWS_OUT_COUNT, A.PE_WINDOWS]; omega))
  rw [fillWaits, fillWaits, hsame.reached, hcount]
  rfl

theorem rakeArm_unmatched_runs {p : Fin 4096} {i : Fin 64} (hwf : mwf s.plots = true) (h : ArmPasses s p i)
    (hfind : findLine s p false (bitF s (F.PP_RAKE_WATCH_BAR p i)) (watchOff s p i) 8 = none) :
    Runs (.rakeArm p i) s fun t =>
      (heldQ s (quadrantOf p) 1 = false → fillWaits s p = true → (plotOf t p).arm = some (i.val, armStaged s p i) ∧ bitF t (F.PP_RAKE_STATUS_BUSY p) = true ∧ t.rake = s.rake) ∧
      (heldQ s (quadrantOf p) 1 = true ∨ fillWaits s p = false →
        getF t (F.PP_RAKE_STATUS_RESULT p) = 4 ∧ bitF t (F.PP_RAKE_STATUS_BUSY p) = false ∧ t.rake = s.rake) := by
  cases hheld : heldQ s (quadrantOf p) 1 with
  | true =>
    exact ⟨_, exec_rakeArm_held h hheld, fun hfree => (by cases hfree), fun _ => ⟨getF_result_rakeEnd (by decide), bitF_busy_rakeEnd, rfl⟩⟩
  | false =>
    have hexec := exec_rakeArm_unmatched h hheld hfind
    have honly := fillStart_only (armStarts s p i) p
    have hfields := fieldsBut_fillStart (s := armStarts s p i) (plotPort_lt p)
    have hwaits := fillStart_waits (s := armStarts s p i) (plotPort_lt p)
    rw [fillWaits_armStarts] at hwaits
    generalize fillStart (armStarts s p i) p false = start at hexec honly hfields hwaits
    obtain ⟨u, how⟩ := start
    dsimp only at hexec honly hfields hwaits
    have hrake : u.rake = s.rake := by
      rw [honly]
      rfl
    cases hfill : fillWaits s p with
    | true =>
      rw [if_pos (hwaits.2 hfill)] at hexec
      refine ⟨_, hexec, fun _ _ => ⟨?_, ?_, hrake⟩, fun hnone => by rcases hnone with hnone | hnone <;> cases hnone⟩
      · have hplots : mwf u.plots = true := by
          rw [honly]
          exact mwf_mset _ _ _ hwf
        rw [plotOf_modPlot_same u hplots]
      · have hbusy : bitF (armStarts s p i) (F.PP_RAKE_STATUS_BUSY p) = true := bitF_setF_one (taken s p i) rfl
        have hpage : 0x100000000 ≤ (F.PP_RAKE_STATUS_BUSY p).addr := by
          simp only [F.PP_RAKE_STATUS_BUSY, A.PP_RAKE_STATUS]
          omega
        exact (bitF_congr (getF_of_device hfields (fillFields_ofDevice _ (plotPort_lt p)) hpage)).trans hbusy
    | false =>
      rw [if_neg (by rw [hwaits, hfill]; decide)] at hexec
      exact ⟨_, hexec, fun _ hfills => (by cases hfills), fun _ => ⟨getF_result_rakeEnd (by decide), bitF_busy_rakeEnd, hrake⟩⟩

/-! ### The obligation -/

/-- A window at node 66 that may be read. -/
def readWindow : WinEntry := { valid := true, last := 15, target := 32, node := 66, gen := 1, rdEn := true }

/-- A slot that is armed. -/
def someSlot : RakeSlot :=
  { bar4 := false, off := 0, mask := 0, mode := 0, vec := 0, win := 0, gen := 1, node := 66, addr := 0x20000, cls := 0, fresh := true }

/-- Plot 0 is Serving with one window, and the table of slots lists slot 1 in front of slot 0. -/
def slotsOutOfOrder : State :=
  [(F.PE_STATUS_STATE 0, 2), (F.PE_WINDOWS_OUT_COUNT 0, 1), (F.PE_CAPS_RAKE_LIMIT 0, 2), (F.PE_MSIX_VEC_COUNT 0, 1)].foldl (fun s x => setF s x.1 x.2)
    { quads := [(0, { lines := [(0, { entry := some readWindow, curGen := 1 })] })], rake := { slots := [(1, someSlot), (0, someSlot)] } }

/-- Refutes O31: its clause on an ARM that passes says that every other slot reads as before, for every state that meets `State.wf`; but that does not say that
the table of slots is in its form, and where it lists slot 1 in front of slot 0, to arm slot 1 anew puts them in order and shows slot 0. With
`mwf s.rake.slots` the clause is `rakeArm_armed_runs`; the other clauses hold as stated, each a theorem above. -/
theorem not_rakeSlots : ¬ Obligations.RakeSlots := by
  intro h
  obtain ⟨harms, -⟩ := h
  have hpasses : ArmPasses slotsOutOfOrder (0 : Fin 4096) (1 : Fin 64) :=
    ⟨by decide +kernel, by decide +kernel, by decide +kernel, by decide +kernel, by decide +kernel⟩
  have hheld : heldQ slotsOutOfOrder (quadrantOf (0 : Fin 4096)) 1 = false := by decide +kernel
  have hfind : findLine slotsOutOfOrder (0 : Fin 4096) false (bitF slotsOutOfOrder (F.PP_RAKE_WATCH_BAR (0 : Fin 4096) (1 : Fin 64)))
      (watchOff slotsOutOfOrder (0 : Fin 4096) (1 : Fin 64)) 8 = some (0, { entry := some readWindow, curGen := 1 }, readWindow) := by decide +kernel
  obtain ⟨t, hexec, -, -, -, -, -, -, -, -, hothers, -⟩ := harms slotsOutOfOrder 0 1 0 _ readWindow (by decide +kernel) hpasses.serves hpasses.idle
    hpasses.limit hpasses.mode hpasses.vec hheld hfind rfl rfl rfl (by decide +kernel)
  obtain rfl := Host.Outcome.next.inj ((exec_rakeArm_matched hpasses hheld hfind).symm.trans hexec)
  exact absurd (hothers 0 (by decide)) (by decide +kernel)

end Sys2Proof.Proofs.RakeSlots
end

section
/-!
CLAIM. Pergola's grants, the reflection port and unbroken stall (R26, R207 to R209): what a grant leaves in the client's input buffer, the flow in which the
reflection port answers, and the obligation.
-/
namespace Sys2Proof.Proofs.PergolaMoves
open Sys2Proof.Machine Sys2Proof.Proofs.Fields Sys2Proof.Proofs.ConfigTable Sys2Proof.Proofs.RakeFailures

variable {s t : State} {b x : QTxn} {bs : List QTxn} {r : FabReq} {f : FlowId} {e c d : Nat}

/-! ### What leaves the input buffers of the clients alone -/

theorem inboxOf_congr (h : t.pga.inbox = s.pga.inbox) (e c : Nat) : inboxOf t e c = inboxOf s e c := by rw [inboxOf, inboxOf, h]

/-- An input buffer that takes one more holds it last. -/
theorem inboxOf_setInbox_append (l : List QTxn) : inboxOf (setInbox s e c (l ++ [x])) e c = l ++ [x] := by
  simp [inboxOf, setInbox, mset]

theorem voqPut_inbox : (voqPut s e c f x).pga.inbox = s.pga.inbox := by
  rw [voqPut, pga_occUpdate]

theorem foldl_occUpdate_pga (xs : List QTxn) : (xs.foldl (fun s x => occUpdate s x.ingress) s).pga = s.pga := by
  induction xs generalizing s with
  | nil => rfl
  | cons x xs ih => rw [List.foldl_cons, ih, pga_occUpdate]

theorem topUpAt_inbox (k : Nat) : (topUpAt s k).pga.inbox = s.pga.inbox := by
  unfold topUpAt
  dsimp only
  split_ifs
  · rfl
  · rw [foldl_occUpdate_pga]

theorem foldl_topUpAt_inbox (ks : List Nat) : (ks.foldl topUpAt s).pga.inbox = s.pga.inbox := by
  induction ks generalizing s with
  | nil => rfl
  | cons k ks ih => rw [List.foldl_cons, ih, topUpAt_inbox]

theorem pgaEnter_inbox (ws kept : List Waiting) : (pgaEnter s ws kept).pga.inbox = s.pga.inbox := by
  induction ws generalizing s kept with
  | nil => rfl
  | cons w ws ih =>
    unfold pgaEnter
    dsimp only
    split_ifs
    · rw [ih, voqPut_inbox]
    · exact ih _

/-- What enters Pergola when room comes free goes into its queues (R196). -/
theorem pgaAdmit_inbox : (pgaAdmit s).pga.inbox = s.pga.inbox := by
  unfold pgaAdmit
  dsimp only
  rw [pgaEnter_inbox, foldl_topUpAt_inbox]

theorem noteGrant_inbox : (noteGrant s e c x).pga.inbox = s.pga.inbox := rfl

theorem portCapCount_pga : (portCapCount s e x).pga = s.pga := by
  unfold portCapCount
  split_ifs <;> rfl

theorem chanHanded_pga (a : DmaRef) : (chanHanded s a).pga = s.pga := by
  simp [chanHanded, modChan, putChan, dmaOcc, chanShow, setB, highWater, apply_ite State.pga]

theorem entryHanded_pga : (entryHanded s x).pga = s.pga := by
  unfold entryHanded
  cases x.entry with
  | none => rfl
  | some place =>
    obtain ⟨q, tag⟩ := place
    dsimp only
    cases entryOf s q tag with
    | none => rfl
    | some y =>
      dsimp only
      by_cases hwrite : (!y.hostPath && y.kind == .write) = true
      · rw [if_pos hwrite, chanHanded_pga]
        rfl
      · rw [if_neg hwrite]
        rfl

/-! ### A grant (R207, R208) -/

theorem serveClasses_inbox (cs : List Nat) : (serveClasses s e cs).1.pga.inbox = s.pga.inbox := by
  induction cs generalizing s with
  | nil => rfl
  | cons c cs ih =>
    unfold serveClasses
    dsimp only
    split
    · rfl
    · rw [ih]
      rfl
    · exact ih

/-- A transaction that neither the management queue nor a host port takes goes to the end of the client's input buffer. -/
theorem inboxOf_handOver (hhost : x.host = none) (hclient : e ≠ 16 ∨ ∃ a, x.txn = .resp a) : inboxOf (handOver s e c x) e c = inboxOf s e c ++ [x] := by
  unfold handOver
  rw [hhost]
  split
  · contradiction
  · rename_i htxn
    obtain he | ⟨a, ha⟩ := hclient
    · exact absurd rfl he
    · rw [ha] at htxn
      cases htxn
  · dsimp only
    split_ifs
    · rw [inboxOf_congr (congrArg _ (pga_occUpdate _ _)), inboxOf_setInbox_append]
    · exact inboxOf_setInbox_append _

theorem pergolaTransfer_served_runs {u : State} {e : Fin 20} (hruns : coreRuns s = true) (hhost : x.host = none)
    (hserved : serveClasses s e (classesNow s e) = (u, some (c, x))) (hclient : e ≠ 16 ∨ ∃ a, x.txn = .resp a) :
    Runs (.pergolaTransfer e) s fun v => inboxOf v e c = inboxOf s e c ++ [x] := by
  have hinbox : u.pga.inbox = s.pga.inbox := by
    have h := serveClasses_inbox (s := s) (e := e) (classesNow s e)
    rwa [hserved] at h
  have hexec : exec (.pergolaTransfer e) s =
      .next (pgaAdmit (handOver (entryHanded (occUpdate (portCapCount (noteGrant u e c x) e x) x.ingress) x) e c x)) := by
    change Host.Outcome.next (pergolaTransfer s e) = _
    simp [pergolaTransfer, hruns, hserved]
  have hclient' : e.val ≠ 16 ∨ ∃ a, x.txn = .resp a := hclient.imp_left fun h hval => h (Fin.ext hval)
  refine ⟨_, hexec, ?_⟩
  change inboxOf (pgaAdmit _) e c = _
  rw [inboxOf_congr pgaAdmit_inbox, inboxOf_handOver hhost hclient', inboxOf_congr]
  rw [entryHanded_pga, pga_occUpdate, portCapCount_pga, noteGrant_inbox, hinbox]

/-- A class with no flow is passed over. -/
theorem serveClasses_of_empty {cs : List Nat} (h : mget s.pga.active (e * 8 + c) [] = []) : serveClasses s e (c :: cs) = serveClasses s e cs := by
  simp [serveClasses, serveClass, h]

/-- A lone transaction that one quantum pays for is sent, and its flow leaves the list. -/
theorem serveClass_lone (n : Nat) (hcharge : txnCharge x.txn ≤ d + 64 * flowWeight s f) (hcredit : egressCredit s e c x = true) :
    serveClass s e c (n + 1) [{ flow := f, deficit := d, queue := [x] }] = .sent x [] := by
  simp [serveClass, hcharge, hcredit]

/-- Where Pergola holds one transaction for an egress, in the first Request class, it is the one served. -/
theorem serveClasses_lone (hactive : s.pga.active = [(e * 8, [{ flow := f, deficit := d, queue := [x] }])])
    (hcharge : txnCharge x.txn ≤ d + 64 * flowWeight s f) (hcredit : egressCredit s e 0 x = true) :
    serveClasses s e (classesNow s e) = (setActive s e 0 [], some (0, x)) := by
  have hempty : ∀ c, c ≠ 0 → mget s.pga.active (e * 8 + c) [] = [] := fun c hc => by simp [hactive, mget, hc]
  have hrequest : serveClasses s e [2, 3, 0, 1] = (setActive s e 0 [], some (0, x)) := by
    rw [serveClasses_of_empty (hempty 2 (by decide)), serveClasses_of_empty (hempty 3 (by decide))]
    simp [serveClasses, hactive, mget, serveClass_lone _ hcharge hcredit]
  unfold classesNow classOrder
  split_ifs
  · rw [serveClasses_of_empty (hempty 4 (by decide)), serveClasses_of_empty (hempty 5 (by decide)), hrequest]
  · exact hrequest

theorem pergolaTransfer_lone_runs {e : Fin 20} (hactive : s.pga.active = [(e.val * 8, [{ flow := f, deficit := d, queue := [x] }])])
    (hcharge : txnCharge x.txn ≤ d + 64 * flowWeight s f) (hcredit : egressCredit s e 0 x = true) (hruns : coreRuns s = true)
    (hhost : x.host = none) (he : e ≠ 16) : Runs (.pergolaTransfer e) s fun v => inboxOf v e 0 = inboxOf s e 0 ++ [x] :=
  pergolaTransfer_served_runs hruns hhost (serveClasses_lone hactive hcharge hcredit) (.inl he)

/-! ### The reflection port (R25, R26) -/

/-- A request at the head of the reflection port is dispatched as one that came by a Calfos port, but keeps the flow of its originator (R207). -/
theorem exec_reflectionIngress_request (hruns : coreRuns s = true) (hempty : ∀ c ∈ [4, 5, 2, 3], inboxOf s 19 c = []) (hhead : inboxOf s 19 0 = b :: bs)
    (hreq : b.txn = .req r) :
    exec .reflectionIngress s =
      .next (occUpdate (dispatchReq (setInbox s 19 0 bs) { b with ingress := 19 } 0 (originFlow (setInbox s 19 0 bs) b) r) 19) := by
  have hpop : (classOrder.findSome? fun c => (inboxPop s 19 c).map fun y => (c, y)) = some (0, setInbox s 19 0 bs, b) := by
    simp only [List.mem_cons, List.not_mem_nil, or_false, forall_eq_or_imp, forall_eq] at hempty
    obtain ⟨h4, h5, h2, h3⟩ := hempty
    simp [classOrder, inboxPop, h4, h5, h2, h3, hhead]
  change execReflectionIngress s = _
  simp [execReflectionIngress, hruns, hpop, dispatchLocal, hreq]

/-- R25: unit 0 is the Gardener. -/
theorem dispatchReq_gardener (hform : fabMalformed r = false) (hunit : nodeUnit r.dest = 0) (c : Nat) (f : FlowId) :
    dispatchReq s b c f r = pgaPush s 16 c .gardener { b with txn := .req r, own := false } := by
  simp [dispatchReq, hform, hunit]

/-- R25: no unit from 16 on serves a request, whatever form it has. -/
theorem dispatchReq_absent (hop : r.op ≠ .message) (hunit : 16 ≤ nodeUnit r.dest) (c : Nat) (f : FlowId) :
    dispatchReq s b c f r = sendResponse s b.ingress f r 2 [] := by
  have hzero : nodeUnit r.dest ≠ 0 := by omega
  have hhost : ¬ nodeUnit r.dest ≤ 4 := by omega
  have hport : ¬ nodeUnit r.dest ≤ 15 := by omega
  simp [dispatchReq, hop, hzero, hhost, hport]

theorem reflectionIngress_gardener_runs (hruns : coreRuns s = true) (hempty : ∀ c ∈ [4, 5, 2, 3], inboxOf s 19 c = []) (hhead : inboxOf s 19 0 = b :: bs)
    (hreq : b.txn = .req r) (hform : fabMalformed r = false) (hunit : nodeUnit r.dest = 0) :
    Runs .reflectionIngress s fun t => t = occUpdate (pgaPush (setInbox s 19 0 bs) 16 0 .gardener { b with ingress := 19, own := false }) 19 := by
  refine ⟨_, exec_reflectionIngress_request hruns hempty hhead hreq, ?_⟩
  rw [dispatchReq_gardener hform hunit, ← hreq]

/-- A request for a unit that serves none is answered Nak-Address, in the flow of its originator. -/
theorem exec_reflectionIngress_absent (hruns : coreRuns s = true) (hempty : ∀ c ∈ [4, 5, 2, 3], inboxOf s 19 c = []) (hhead : inboxOf s 19 0 = b :: bs)
    (hreq : b.txn = .req r) (hop : r.op ≠ .message) (hunit : 16 ≤ nodeUnit r.dest) :
    exec .reflectionIngress s = .next (occUpdate (sendResponse (setInbox s 19 0 bs) 19 (originFlow (setInbox s 19 0 bs) b) r 2 []) 19) := by
  rw [exec_reflectionIngress_request hruns hempty hhead hreq, dispatchReq_absent hop hunit]

/-- The reflection port's own number names no originator: what came from a plot's blocks has the same flow under it. -/
theorem originFlow_reflected (hplot : b.ingress ≠ 16 ∧ b.ingress ≠ 17 ∧ b.ingress ≠ 18) : originFlow s { b with ingress := 19 } = originFlow s b := by
  obtain ⟨hgardener, hrake, hdiag⟩ := hplot
  simp [originFlow, hgardener, hrake, hdiag]

theorem reflectionIngress_absent_runs (hruns : coreRuns s = true) (hempty : ∀ c ∈ [4, 5, 2, 3], inboxOf s 19 c = []) (hhead : inboxOf s 19 0 = b :: bs)
    (hreq : b.txn = .req r) (hop : r.op ≠ .message) (hunit : 16 ≤ nodeUnit r.dest) (hplot : b.ingress ≠ 16 ∧ b.ingress ≠ 17 ∧ b.ingress ≠ 18) :
    Runs .reflectionIngress s fun t =>
      t = occUpdate (sendResponse (setInbox s 19 0 bs) 19 (originFlow (setInbox s 19 0 bs) { b with ingress := 19 }) r 2 []) 19 :=
  ⟨_, exec_reflectionIngress_absent hruns hempty hhead hreq hop hunit, by rw [originFlow_reflected hplot]⟩

/-! ### Unbroken stall (R209) -/

theorem pgaSatTimeout_stalled_runs {e : Fin 20} (h : egressStalled s e = true) :
    Runs (.pgaSatTimeout e) s fun t =>
      bitF t F.PGA_EVENT_SAT = true ∧ (bitF s F.PGA_EVENT_SAT = false → evgLevel s 1248 = false → Pending t 1248) ∧ OnlyCells s t ∧
        FieldsBut s t [F.PGA_EVENT_SAT, F.EVG_PEND_PEND 19] := by
  have hexec : exec (.pgaSatTimeout e) s = .next (setEv s F.PGA_EVENT_SAT 1248) := by
    change execPgaSatTimeout e s = _
    simp [execPgaSatTimeout, h]
  refine ⟨_, hexec, bitF_setEv s _ rfl (by decide), fun hclear _ => ?_, setEv_only s _ _,
    fieldsBut_setEv _ (by simp) (by simp) (fieldsBut_refl s _)⟩
  rw [setEv, hclear]
  exact pending_raise (n := 1248) (setF s F.PGA_EVENT_SAT 1) (by simp [evgLevel])

/-! ### The obligation -/

/-- A read by the Gardener of a unit of its own device that does not exist, from the aperture's port of Pergola. -/
def strayRead : FabReq := { op := .read, dest := 16, src := 0, tenant := 0, tag := 7, addr := 0x1000, len := 64 }

/-- It stands at the head of the reflection port, with Trellis ready. -/
def strayReflected : State :=
  [(F.GLB_NODE_VALID, 1), (F.TRL_CTRL_EN, 1), (F.TRL_CTRL_READY, 1)].foldl (fun s x => setF s x.1 x.2)
    { pga := { inbox := [(19 * 8, [{ ingress := 16, txn := .req strayRead }])] } }

/-- The flows in which port 19 holds responses of the first Response class. -/
def reflectedFlows (s : State) : List FlowId := (mget s.pga.active (19 * 8 + 2) []).map FlowSt.flow

/-- Refutes O12: its clause on a unit that serves no request takes the flow of the answer from the request as renumbered to port 19, which has lost its
originator. A request of the Gardener, the Rake or the traffic generator keeps its originator's flow through the reflection port (R207): here the Nak-Address
to the Gardener is queued in the Gardener's flow, and the clause asks for that of plot 0. For what came from a plot's blocks the clause is
`reflectionIngress_absent_runs`, and for every request `exec_reflectionIngress_absent`; the other clauses hold as stated, each a theorem above. -/
theorem not_pergolaMoves : ¬ Obligations.PergolaMoves := by
  intro h
  obtain ⟨-, -, -, habsent, -⟩ := h
  have hempty : ∀ c ∈ [4, 5, 2, 3], inboxOf strayReflected 19 c = [] := by decide +kernel
  have hhead : inboxOf strayReflected 19 0 = [{ ingress := 16, txn := .req strayRead }] := by decide +kernel
  have hruns : coreRuns strayReflected = true := by decide +kernel
  obtain ⟨t, hexec, ht⟩ := habsent strayReflected strayRead _ [] hruns hempty hhead rfl (by decide) (by decide)
  obtain rfl := Host.Outcome.next.inj ((exec_reflectionIngress_absent hruns hempty hhead rfl (by decide) (by decide)).symm.trans hexec)
  exact absurd (congrArg reflectedFlows ht) (by decide +kernel)

end Sys2Proof.Proofs.PergolaMoves
end

section
/-!
SUPPORT. DMA channels (R217, R218, R220): what the change of a channel leaves, how the channel reads afterwards, and how a channel comes to a context.
-/
namespace Sys2Proof.Proofs.Channels
open Sys2Proof.Machine Sys2Proof.Proofs.Fields Sys2Proof.Proofs.PlotQueue Sys2Proof.Proofs.LedgerSends Sys2Proof.Proofs.Refusals
open Sys2Proof.Proofs.PlainWrites Sys2Proof.Proofs.PlotCommands

variable {s t u : State} {p c q : Nat} {x : Chan} {f : Chan → Chan} {g : Fld}

theorem mwf_chans_of_wf (h : s.wf = true) : mwf s.chans = true := by
  simp only [State.wf, Bool.and_eq_true] at h
  tauto

/-! ### The registers that show a channel (R220, R244) -/

/-- PP_CHAN_STATUS of a channel. -/
def statusFields (p c : Nat) : List Fld :=
  [F.PP_CHAN_STATUS_RESIDENT p c, F.PP_CHAN_STATUS_PENDING p c, F.PP_CHAN_STATUS_REARM p c, F.PP_CHAN_STATUS_ABORT_PEND p c,
    F.PP_CHAN_STATUS_WITHHELD p c, F.PP_CHAN_STATUS_CAUSE p c, F.PP_CHAN_STATUS_STATE p c]

/-- DMA_CTX and DMA_BUF of a quadrant. -/
def occFields (q : Nat) : List Fld := [F.DMA_CTX_USED q, F.DMA_CTX_HIGH q, F.DMA_CTX_PENDING q, F.DMA_BUF_USED q, F.DMA_BUF_HIGH q]

theorem addr_of_statusFields (hg : g ∈ statusFields p c) : g.addr = A.PP_CHAN_STATUS p c ∧ g.lo < 64 := by
  simp only [statusFields, List.mem_cons, List.not_mem_nil, or_false] at hg
  rcases hg with rfl | rfl | rfl | rfl | rfl | rfl | rfl <;> exact ⟨rfl, by simp only [F.PP_CHAN_STATUS_RESIDENT, F.PP_CHAN_STATUS_PENDING,
    F.PP_CHAN_STATUS_REARM, F.PP_CHAN_STATUS_ABORT_PEND, F.PP_CHAN_STATUS_WITHHELD, F.PP_CHAN_STATUS_CAUSE, F.PP_CHAN_STATUS_STATE]; omega⟩

theorem addr_of_occFields (hg : g ∈ occFields q) : g.addr < 0x120028 + q * 0x40000 ∧ g.lo < 64 := by
  simp only [occFields, List.mem_cons, List.not_mem_nil, or_false] at hg
  rcases hg with rfl | rfl | rfl | rfl | rfl <;>
    simp only [F.DMA_CTX_USED, F.DMA_CTX_HIGH, F.DMA_CTX_PENDING, F.DMA_BUF_USED, F.DMA_BUF_HIGH, A.DMA_CTX, A.DMA_BUF] <;> omega

theorem fieldsBut_chanShow (s : State) (p c : Nat) (x : Chan) : FieldsBut s (chanShow s p c x) (statusFields p c) := by
  unfold chanShow setB
  dsimp only
  iterate 7 refine fieldsBut_setF _ (by simp [statusFields]) ?_
  exact fieldsBut_refl s _

theorem fieldsBut_dmaOcc (s : State) (q : Nat) : FieldsBut s (dmaOcc s q) (occFields q) := by
  unfold dmaOcc
  dsimp only
  refine fieldsBut_highWater _ (by simp [occFields]) (fieldsBut_setF _ (by simp [occFields]) (fieldsBut_setF _ (by simp [occFields]) ?_))
  exact fieldsBut_highWater _ (by simp [occFields]) (fieldsBut_setF _ (by simp [occFields]) (fieldsBut_refl s _))

theorem dmaOcc_only (s : State) (q : Nat) : OnlyCells s (dmaOcc s q) := by
  unfold OnlyCells dmaOcc highWater
  dsimp only
  split_ifs <;> rfl

/-! ### Putting a channel -/

theorem putChan_only (s : State) (p c : Nat) (x : Chan) :
    putChan s p c x = { s with cells := (putChan s p c x).cells, chans := mset s.chans (chanKey p c) x {} } := by
  have h := dmaOcc_only (chanShow { s with chans := mset s.chans (chanKey p c) x {} } p c x) (quadrantOf p)
  unfold putChan
  rw [h]
  rfl

theorem chans_putChan (s : State) (p c : Nat) (x : Chan) : (putChan s p c x).chans = mset s.chans (chanKey p c) x {} := by rw [putChan_only]

theorem mwf_chans_putChan (x : Chan) (h : mwf s.chans = true) : mwf (putChan s p c x).chans = true := by
  rw [chans_putChan]
  exact mwf_mset _ _ _ h

theorem chanOf_putChan (x : Chan) (h : mwf s.chans = true) : chanOf (putChan s p c x) p c = x := by
  rw [chanOf, chans_putChan]
  exact mget_mset_same _ _ _ h

theorem fieldsBut_putChan (s : State) (p c : Nat) (x : Chan) : FieldsBut s (putChan s p c x) (statusFields p c ++ occFields (quadrantOf p)) := by
  have hshow := fieldsBut_chanShow { s with chans := mset s.chans (chanKey p c) x {} } p c x
  have hocc := fieldsBut_dmaOcc (chanShow { s with chans := mset s.chans (chanKey p c) x {} } p c x) (quadrantOf p)
  exact fieldsBut_trans (fieldsBut_mono (List.subset_append_left _ _) hshow) (fieldsBut_mono (List.subset_append_right _ _) hocc)

/-- The registers of the DMA cluster lie below the plot pages. -/
theorem status_key_ne_occ {f : Fld} (hg : g ∈ statusFields p c) (hf : f ∈ occFields (quadrantOf p)) : g.key ≠ f.key := by
  obtain ⟨haddr, -⟩ := addr_of_statusFields hg
  obtain ⟨haddr', hlo⟩ := addr_of_occFields hf
  refine key_ne_of_addr_lt hlo ?_
  unfold A.PP_CHAN_STATUS at haddr
  unfold quadrantOf at haddr'
  omega

theorem getF_status_putChan (hg : g ∈ statusFields p c) :
    getF (putChan s p c x) g = getF (chanShow { s with chans := mset s.chans (chanKey p c) x {} } p c x) g :=
  fieldsBut_dmaOcc _ _ g fun _ hf => status_key_ne_occ hg hf

/-- PP_CHAN_STATUS shows the state of the channel. -/
theorem getF_state_putChan : getF (putChan s p c x) (F.PP_CHAN_STATUS_STATE p c) = x.st % 8 := by
  rw [getF_status_putChan (by simp [statusFields])]
  exact getF_setF_same _ _ _

theorem bitF_rearm_putChan : bitF (putChan s p c x) (F.PP_CHAN_STATUS_REARM p c) = x.rearm := by
  have hlo {f : Fld} (ha : f.addr = A.PP_CHAN_STATUS p c) (h : f.lo < 13) : (F.PP_CHAN_STATUS_REARM p c).key ≠ f.key :=
    key_ne_of_lo ha.symm (by simp only [F.PP_CHAN_STATUS_REARM]; omega)
  rw [bitF, getF_status_putChan (by simp [statusFields])]
  unfold chanShow setB
  dsimp only
  rw [getF_setF_ne _ _ (hlo rfl (show 0 < 13 by decide)), getF_setF_ne _ _ (hlo rfl (show 8 < 13 by decide)),
    getF_setF_ne _ _ (hlo rfl (show 11 < 13 by decide)), getF_setF_ne _ _ (hlo rfl (show 12 < 13 by decide)), getF_setF_same]
  cases x.rearm <;> rfl

/-- The PlotEntries stand. -/
theorem getF_entry_putChan (hp : p < 4096) (hc : c < 256) (hg : 0x200000000 ≤ g.addr) : getF (putChan s p c x) g = getF s g := by
  refine fieldsBut_putChan s p c x g fun f hf => ?_
  rcases List.mem_append.1 hf with hf | hf
  · obtain ⟨haddr, hlo⟩ := addr_of_statusFields hf
    refine key_ne_of_addr_lt hlo ?_
    unfold A.PP_CHAN_STATUS at haddr
    omega
  · obtain ⟨haddr, hlo⟩ := addr_of_occFields hf
    refine key_ne_of_addr_lt hlo ?_
    unfold quadrantOf at haddr
    omega

/-! ### Changing a channel -/

theorem modChan_only (s : State) (p c : Nat) (f : Chan → Chan) :
    modChan s p c f = { s with cells := (modChan s p c f).cells, chans := (modChan s p c f).chans } := by
  unfold modChan
  rw [putChan_only]

theorem mwf_chans_modChan (f : Chan → Chan) (h : mwf s.chans = true) : mwf (modChan s p c f).chans = true := mwf_chans_putChan _ h

theorem chanOf_modChan (f : Chan → Chan) (h : mwf s.chans = true) : chanOf (modChan s p c f) p c = f (chanOf s p c) := chanOf_putChan _ h

theorem chanEntryAddr_modChan (hp : p < 4096) (hc : c < 256) : chanEntryAddr (modChan s p c f) p c = chanEntryAddr s p c := by
  have hbase : 0x200000000 ≤ (F.PE_CHAN_TABLE_BASE p).addr := by
    simp only [F.PE_CHAN_TABLE_BASE, A.PE_CHAN_TABLE]
    omega
  rw [chanEntryAddr, chanEntryAddr, modChan, getF_entry_putChan hp hc hbase]

/-! ### Free contexts (R218) -/

/-- As many entries of a map pass a test after a put as before, if what is put passes as what the key held. -/
theorem length_filter_mput {α : Type} {m : SMap α} {i : Nat} {y d : α} {ok : Nat × α → Bool} (hy : ok (i, y) = ok (i, mget m i d))
    (hd : ok (i, d) = false) : ((mput m i y).filter ok).length = (m.filter ok).length := by
  induction m with
  | nil => simp [mput, hy, hd]
  | cons e m ih =>
    obtain ⟨k, v⟩ := e
    simp only [mget] at hy
    simp only [mput]
    split_ifs at hy ⊢ with hlt heq
    · rw [List.filter_cons_of_neg (by rw [hy, hd]; decide)]
    · subst heq
      simp [List.filter_cons, hy, apply_ite List.length]
    · simp [List.filter_cons, apply_ite List.length, ih hy]

theorem length_filter_mdel {α : Type} {m : SMap α} {i : Nat} {d : α} {ok : Nat × α → Bool} (hd : ok (i, mget m i d) = false) :
    ((mdel m i).filter ok).length = (m.filter ok).length := by
  induction m with
  | nil => rfl
  | cons e m ih =>
    obtain ⟨k, v⟩ := e
    simp only [mget] at hd
    simp only [mdel]
    split_ifs at hd ⊢ with hlt heq
    · rfl
    · subst heq
      rw [List.filter_cons_of_neg (by rw [hd]; decide)]
    · simp [List.filter_cons, apply_ite List.length, ih hd]

theorem length_filter_mset {α : Type} [DecidableEq α] {m : SMap α} {i : Nat} {y d : α} {ok : Nat × α → Bool} (hy : ok (i, y) = ok (i, mget m i d))
    (hd : ok (i, d) = false) : ((mset m i y d).filter ok).length = (m.filter ok).length := by
  unfold mset
  split_ifs with h
  · exact length_filter_mdel (hy.symm.trans (h ▸ hd))
  · exact length_filter_mput hy hd

/-- A channel that keeps its context, or goes on without one, leaves as many free. -/
theorem ctxFree_putChan (h : x.resident = (chanOf s p c).resident) (q : Nat) : ctxFree (putChan s p c x) q = ctxFree s q := by
  have hcount : ((quadChans (putChan s p c x) q).filter fun y => y.2.resident).length = ((quadChans s q).filter fun y => y.2.resident).length := by
    rw [quadChans, quadChans, List.filter_filter, List.filter_filter, chans_putChan]
    refine length_filter_mset (d := ({} : Chan)) ?_ rfl
    change (x.resident && _) = ((chanOf s p c).resident && _)
    rw [h]
  rw [ctxFree, ctxFree, hcount]

theorem ctxFree_modChan (h : (f (chanOf s p c)).resident = (chanOf s p c).resident) (q : Nat) : ctxFree (modChan s p c f) q = ctxFree s q := by
  rw [modChan, ctxFree_putChan h]

/-! ### A channel that is to run (R217, R218) -/

/-- The channel whose ChannelEntry is read. -/
def loadingChan (x : Chan) (kind : ChanLoad) (now : Nat) : Chan :=
  { x with st := csRunning, kind := kind, resident := true, pending := false, loading := true, since := now }

/-- The channel that waits for a context. -/
def waitingChan (x : Chan) (kind : ChanLoad) : Chan := { x with st := csRunning, kind := kind, pending := true }

/-- A channel that is to run, before it has a context. -/
def toRun (s : State) (p c : Nat) (kind : ChanLoad) : State := modChan s p c fun x => { x with st := csRunning, kind := kind }

theorem chanAcquire_of_free (kind : ChanLoad) (h : ctxFree s (quadrantOf p) = true) : chanAcquire s p c kind = chanLoad (toRun s p c kind) p c := by
  have hfree : ctxFree (toRun s p c kind) (quadrantOf p) = true := by rw [toRun, ctxFree_modChan rfl, h]
  unfold chanAcquire
  dsimp only
  rw [← toRun, hfree, if_pos rfl]

/-- A channel that is to run and has to wait for a context. -/
def toWait (s : State) (p c : Nat) (kind : ChanLoad) : State :=
  dmaEvent (modChan (toRun s p c kind) p c fun x => { x with pending := true }) p F.DMA_EVENT_CTX_WAIT

/-- CUR and the state are written to the ChannelEntry where it is a START that waits (R218). -/
def startNoted (s : State) (p c : Nat) (kind : ChanLoad) : State :=
  if kind == .start then plotWrite s p (chanEntryAddr s p c + 0x10) (leBytes 8 ((chanOf s p c).cur / 64 * 64 + csRunning)) else s

theorem chanAcquire_of_full (kind : ChanLoad) (h : ctxFree s (quadrantOf p) = false) : chanAcquire s p c kind = startNoted (toWait s p c kind) p c kind := by
  have hfull : ctxFree (toRun s p c kind) (quadrantOf p) = false := by rw [toRun, ctxFree_modChan rfl, h]
  unfold chanAcquire
  dsimp only
  rw [← toRun, hfull, if_neg (by decide)]
  rfl

/-- Only channels and registers have changed. -/
def ChanFrame (s t : State) : Prop := t = { s with cells := t.cells, chans := t.chans }

theorem chanFrame_refl (s : State) : ChanFrame s s := rfl

theorem ChanFrame.modChan (h : ChanFrame s t) (p c : Nat) (f : Chan → Chan) : ChanFrame s (modChan t p c f) := by
  unfold ChanFrame at h ⊢
  rw [modChan_only, h]

theorem ChanFrame.emit (h : ChanFrame s t) (e : Emit) :
    emit t e = { s with cells := (emit t e).cells, chans := (emit t e).chans, out := (emit t e).out } := by
  unfold ChanFrame at h
  rw [h]
  rfl

theorem chanFrame_toRun (s : State) (p c : Nat) (kind : ChanLoad) : ChanFrame s (toRun s p c kind) := (chanFrame_refl s).modChan p c _

theorem chanOf_congr (h : t.chans = s.chans) (p c : Nat) : chanOf t p c = chanOf s p c := by rw [chanOf, chanOf, h]

theorem chanOf_emit (s : State) (e : Emit) (p c : Nat) : chanOf (emit s e) p c = chanOf s p c := chanOf_congr (emit_chans s e) p c

theorem chanOf_toRun (kind : ChanLoad) (h : mwf s.chans = true) :
    chanOf (toRun s p c kind) p c = { chanOf s p c with st := csRunning, kind := kind } := by rw [toRun, chanOf_modChan _ h]

theorem mwf_chans_toRun (kind : ChanLoad) (h : mwf s.chans = true) : mwf (toRun s p c kind).chans = true := mwf_chans_modChan _ h

theorem chanOf_acquire_free (kind : ChanLoad) (hwf : mwf s.chans = true) (h : ctxFree s (quadrantOf p) = true) :
    chanOf (chanAcquire s p c kind) p c = loadingChan (chanOf s p c) kind s.now := by
  have hnow : (toRun s p c kind).now = s.now := by rw [chanFrame_toRun s p c kind]
  rw [chanAcquire_of_free kind h, chanLoad, chanOf_emit, chanOf_modChan _ (mwf_chans_toRun kind hwf), hnow, chanOf_toRun kind hwf]
  rfl

theorem chans_startNoted (kind : ChanLoad) : (startNoted s p c kind).chans = s.chans := by
  unfold startNoted
  split_ifs <;> rfl

theorem chans_dmaEvent (e : Nat → Fld) : (dmaEvent s p e).chans = s.chans := setEv_chans s _ _

theorem chanOf_toWait (kind : ChanLoad) (hwf : mwf s.chans = true) : chanOf (toWait s p c kind) p c = waitingChan (chanOf s p c) kind := by
  rw [toWait, chanOf_congr (chans_dmaEvent _), chanOf_modChan _ (mwf_chans_toRun kind hwf), chanOf_toRun kind hwf]
  rfl

theorem chanOf_acquire_full (kind : ChanLoad) (hwf : mwf s.chans = true) (h : ctxFree s (quadrantOf p) = false) :
    chanOf (chanAcquire s p c kind) p c = waitingChan (chanOf s p c) kind := by
  rw [chanAcquire_of_full kind h, chanOf_congr (chans_startNoted kind), chanOf_toWait kind hwf]

theorem chanFrame_toWait (s : State) (p c : Nat) (kind : ChanLoad) : ChanFrame s (toWait s p c kind) := by
  have hpend : ChanFrame s (modChan (toRun s p c kind) p c fun x => { x with pending := true }) := (chanFrame_toRun s p c kind).modChan p c _
  have hevent := setEv_only (modChan (toRun s p c kind) p c fun x => { x with pending := true }) (F.DMA_EVENT_CTX_WAIT (quadrantOf p)) (1232 + quadrantOf p)
  unfold ChanFrame at hpend ⊢
  unfold OnlyCells at hevent
  rw [toWait, dmaEvent, hevent, hpend]

/-! ### What the doorbell that started it may rely on -/

theorem cells_startNoted (kind : ChanLoad) : (startNoted s p c kind).cells = s.cells := by
  unfold startNoted
  split_ifs <;> rfl

theorem startNoted_only (kind : ChanLoad) : startNoted s p c kind = { s with ports := (startNoted s p c kind).ports } := by
  unfold startNoted
  split_ifs <;> rfl

/-- The registers of the DMA cluster and of the Event Gate lie below the plot pages. -/
theorem status_key_ne_event (e : Nat → Fld) (he : (e (quadrantOf p)).addr = A.DMA_EVENT (quadrantOf p)) (hlo : (e (quadrantOf p)).lo < 64) :
    ∀ g ∈ statusFields p c, g.key ≠ (e (quadrantOf p)).key ∧ g.key ≠ (F.EVG_PEND_PEND ((1232 + quadrantOf p) / 64)).key := by
  intro g hg
  obtain ⟨haddr, -⟩ := addr_of_statusFields hg
  unfold A.PP_CHAN_STATUS at haddr
  constructor
  · refine key_ne_of_addr_lt hlo ?_
    have hq : quadrantOf p * 1024 ≤ p := Nat.div_mul_le_self p 1024
    unfold A.DMA_EVENT at he
    omega
  · refine key_ne_of_addr_lt (by simp only [F.EVG_PEND_PEND]; omega) ?_
    simp only [F.EVG_PEND_PEND, A.EVG_PEND, quadrantOf]
    omega

theorem getF_state_acquire (kind : ChanLoad) (hwf : mwf s.chans = true) : getF (chanAcquire s p c kind) (F.PP_CHAN_STATUS_STATE p c) = csRunning := by
  have hstate : F.PP_CHAN_STATUS_STATE p c ∈ statusFields p c := by simp [statusFields]
  have hruns : (chanOf (toRun s p c kind) p c).st % 8 = csRunning := by rw [chanOf_toRun kind hwf]; rfl
  cases h : ctxFree s (quadrantOf p) with
  | true =>
    rw [chanAcquire_of_free kind h, chanLoad, getF_emit, modChan, getF_state_putChan]
    exact hruns
  | false =>
    obtain ⟨hevent, hpend⟩ := status_key_ne_event (c := c) F.DMA_EVENT_CTX_WAIT rfl (by simp only [F.DMA_EVENT_CTX_WAIT]; omega) _ hstate
    rw [chanAcquire_of_full kind h, getF_congr (cells_startNoted kind), toWait, dmaEvent, getF_setEv_ne _ _ hevent hpend, modChan, getF_state_putChan]
    exact hruns

theorem bitF_ctxWait_dmaEvent : bitF (dmaEvent s p F.DMA_EVENT_CTX_WAIT) (F.DMA_EVENT_CTX_WAIT (quadrantOf p)) = true := by
  refine bitF_setEv s _ rfl (key_ne_of_addr_lt (by simp only [F.EVG_PEND_PEND]; omega) ?_)
  simp only [F.EVG_PEND_PEND, F.DMA_EVENT_CTX_WAIT, A.EVG_PEND, A.DMA_EVENT]
  omega

theorem takesContext_chanAcquire (kind : ChanLoad) (hwf : mwf s.chans = true) (hp : p < 4096) (hc : c < 256) :
    TakesContext s (chanAcquire s p c kind) p c := by
  have hframe := chanFrame_toRun s p c kind
  unfold TakesContext
  dsimp only
  cases h : ctxFree s (quadrantOf p) with
  | true =>
    have hchan := chanOf_acquire_free (p := p) (c := c) kind hwf h
    have hload := chanAcquire_of_free (p := p) (c := c) kind h
    refine ⟨by rw [hchan]; rfl, getF_state_acquire kind hwf, fun _ => ⟨by rw [hchan]; rfl, by rw [hchan]; rfl, ?_, ?_⟩, nofun⟩
    · have hout : (toRun s p c kind).out = s.out := by rw [hframe]
      rw [hload, chanLoad, emit_out, modChan_only, hout, toRun, chanEntryAddr_modChan hp hc]
    · rw [hload]
      exact (hframe.modChan p c _).emit _
  | false =>
    have hchan := chanOf_acquire_full (p := p) (c := c) kind hwf h
    have hwait := chanAcquire_of_full (p := p) (c := c) kind h
    refine ⟨by rw [hchan]; rfl, getF_state_acquire kind hwf, nofun, fun _ => ⟨by rw [hchan]; rfl, ?_, ?_⟩⟩
    · rw [hwait]
      exact (bitF_congr (getF_congr (cells_startNoted kind) _)).trans bitF_ctxWait_dmaEvent
    · have hpend := chanFrame_toWait s p c kind
      unfold ChanFrame at hpend
      rw [hwait, startNoted_only, hpend]

/-- What was changed of the channel before it came to run, but for its context, does not matter. -/
theorem takesContext_modChan (hp : p < 4096) (hc : c < 256) (hf : (f (chanOf s p c)).resident = (chanOf s p c).resident)
    (h : TakesContext (modChan s p c f) t p c) : TakesContext s t p c := by
  obtain ⟨hst, hshown, hfree, hfull⟩ := h
  rw [ctxFree_modChan hf] at hfree hfull
  refine ⟨hst, hshown, fun h => ?_, fun h => ?_⟩
  · obtain ⟨hload, hres, hout, honly⟩ := hfree h
    have hkept : (modChan s p c f).out = s.out := by rw [modChan_only]
    rw [chanEntryAddr_modChan hp hc, hkept] at hout
    rw [modChan_only] at honly
    exact ⟨hload, hres, hout, honly⟩
  · obtain ⟨hpend, hevent, honly⟩ := hfull h
    rw [modChan_only] at honly
    exact ⟨hpend, hevent, honly⟩

theorem chanEntryAddr_dmaEvent (s : State) (p c : Nat) : chanEntryAddr (dmaEvent s p F.DMA_EVENT_CTX_WAIT) p c = chanEntryAddr s p c := by
  have hbase : getF (dmaEvent s p F.DMA_EVENT_CTX_WAIT) (F.PE_CHAN_TABLE_BASE p) = getF s (F.PE_CHAN_TABLE_BASE p) := by
    refine getF_setEv_ne s _ (key_ne_of_addr_lt (by simp only [F.DMA_EVENT_CTX_WAIT]; omega) ?_)
      (key_ne_of_addr_lt (by simp only [F.EVG_PEND_PEND]; omega) ?_) <;>
      simp only [F.DMA_EVENT_CTX_WAIT, F.EVG_PEND_PEND, F.PE_CHAN_TABLE_BASE, A.DMA_EVENT, A.EVG_PEND, A.PE_CHAN_TABLE, quadrantOf] <;> omega
  rw [chanEntryAddr, chanEntryAddr, hbase]

theorem chanEntryAddr_toWait (kind : ChanLoad) (hp : p < 4096) (hc : c < 256) : chanEntryAddr (toWait s p c kind) p c = chanEntryAddr s p c := by
  rw [toWait, chanEntryAddr_dmaEvent, chanEntryAddr_modChan hp hc, toRun, chanEntryAddr_modChan hp hc]

/-- Where a START waits, CUR and the state are written to its ChannelEntry (R218). -/
theorem txq_acquire_start (hwf : mwf s.chans = true) (hports : mwf s.ports = true) (hp : p < 4096) (hc : c < 256) (h : ctxFree s (quadrantOf p) = false) :
    (portOf (chanAcquire s p c .start) (quadrantOf p)).txq = (portOf s (quadrantOf p)).txq ++ [{ kind := .memWrite, plot := p, reqId := ridOf s p, addr := chanEntryAddr s p c + 16, len := 8, data := leBytes 8 ((chanOf s p c).cur / 64 * 64 + csRunning) }] := by
  have hkept : (toWait s p c .start).ports = s.ports := by rw [chanFrame_toWait s p c .start]
  have hwait : mwf (toWait s p c .start).ports = true := by rw [hkept, hports]
  have hrid : ridOf (toWait s p c .start) p = ridOf s p := by rw [ridOf, ridOf, portOf_congr hkept]
  have hcur : (chanOf (toWait s p c .start) p c).cur = (chanOf s p c).cur := by rw [chanOf_toWait _ hwf, waitingChan]
  rw [chanAcquire_of_full .start h, startNoted, if_pos (by decide), plotWrite, txq_pushTlp _ _ hwait, hrid, hcur,
    chanEntryAddr_toWait _ hp hc, length_leBytes, portOf_congr hkept]

end Sys2Proof.Proofs.Channels
end

section
/-!
SUPPORT. An abort in progress (R222, R235): nothing that a channel does with the Descriptors at the head of its chain ends it.
-/
namespace Sys2Proof.Proofs.ChannelAborts
open Sys2Proof.Machine Sys2Proof.Proofs.PlotQueue Sys2Proof.Proofs.Channels

variable {s t : State} {p c q tag : Nat} {x : Chan} {d : Desc} {e : LEntry}

/-! ### What leaves every channel alone -/

theorem chans_plotWrite (addr : Nat) (data : List Byte) : (plotWrite s p addr data).chans = s.chans := rfl

theorem chans_modCq (k : Nat) (f : Cq → Cq) : (modCq s p k f).chans = s.chans := rfl

theorem chans_cqShow (k : Nat) : (cqShow s p k).chans = s.chans := by
  unfold cqShow
  dsimp only
  split_ifs <;> rfl

theorem chans_reqVector (v : Nat) : (reqVector s p v).chans = s.chans := by rw [reqVector_only]

theorem chans_cqAppend (k : Nat) (r : CRec) : (cqAppend s p c k r).chans = s.chans := by
  unfold cqAppend
  dsimp only
  split_ifs <;> simp only [chans_reqVector, chans_modCq, setF_chans, chans_plotWrite]

theorem chans_routeOf (dst src : Nat) (plot : Option Nat) : (routeOf s dst src plot).1.chans = s.chans := by
  have h := routeOf_only s dst src plot
  unfold OnlyCells at h
  rw [h]

theorem chans_ledgerOcc : (ledgerOcc s q p).chans = s.chans := by simp [ledgerOcc]

theorem chans_rateShow : (rateShow s p).chans = s.chans := by rw [rateShow_only]

theorem chans_txCount (n : Nat) : (txCount s p n).chans = s.chans := by
  unfold txCount
  dsimp only
  split_ifs
  · rfl
  · rw [chans_rateShow]; rfl

theorem chans_txRefund (n : Nat) : (txRefund s p n).chans = s.chans := by
  unfold txRefund
  dsimp only
  split_ifs
  · rfl
  · rfl
  · rw [chans_rateShow]; rfl

theorem chans_tagFix : (tagFix s p).chans = s.chans := by
  have h := tagFix_only s p
  unfold OnlyCells at h
  rw [h]

theorem chans_pgaPush (n k : Nat) (f : FlowId) (y : QTxn) : (pgaPush s n k f y).chans = s.chans := by rw [pgaPush_only]

theorem chans_writeCounts (st : Nat) : (writeCounts s q e st).chans = s.chans := by
  unfold writeCounts
  dsimp only
  split_ifs <;> simp only [setEv_chans, bump, bumpBy_chans]

/-- An entry of the DMA cluster has no host request behind it. -/
theorem chans_freeEntry (h : e.hostPath = false) : (freeEntry s q tag e).chans = s.chans := by
  have hleave (u : State) : streamLeave u e = u := by simp [streamLeave, h]
  simp [freeEntry, h, hleave, chans_ledgerOcc, chans_txRefund]

/-! ### The channel itself -/

theorem aborting_iff : x.aborting = true ↔ x.st = csAborting ∨ (x.st = csStalled ∧ x.back = csAborting) := by simp [Chan.aborting]

theorem not_running_of_aborting (h : x.aborting = true) : x.st ≠ csRunning ∧ x.going = false := by
  rcases aborting_iff.1 h with hst | ⟨hst, hback⟩
  · simp [Chan.going, hst, csAborting, csRunning, csStalled]
  · simp [Chan.going, hst, hback, csAborting, csRunning, csStalled]

theorem aborting_of_eq {y : Chan} (hst : y.st = x.st) (hback : y.back = x.back) (h : x.aborting = true) : y.aborting = true := by
  rw [aborting_iff, hst, hback]
  exact aborting_iff.1 h

/-- Where a channel aborts, the failure of a burst begins no halt (R222). -/
theorem aborting_failBurst (b : Burst) (f : DFail) (h : x.aborting = true) : (x.failBurst b f).aborting = true := by
  have hst := (not_running_of_aborting h).1
  have hne : (x.st == csRunning) = false := by simp [hst]
  unfold Chan.failBurst
  simp only [hne, Bool.and_false, Bool.false_and]
  exact aborting_of_eq rfl rfl h

/-- The channel table is in its form, and channel c of plot p aborts, or will once its record is appended. -/
structure Aborts (s : State) (p c : Nat) : Prop where
  wf : mwf s.chans = true
  aborting : (chanOf s p c).aborting = true

theorem Aborts.of_chans (h : Aborts s p c) (ht : t.chans = s.chans) : Aborts t p c :=
  ⟨ht ▸ h.wf, (chanOf_congr ht p c).symm ▸ h.aborting⟩

theorem Aborts.putChan (h : Aborts s p c) (hx : x.aborting = true) : Aborts (putChan s p c x) p c :=
  ⟨mwf_chans_putChan x h.wf, (chanOf_putChan x h.wf).symm ▸ hx⟩

theorem Aborts.modChan {f : Chan → Chan} (h : Aborts s p c) (hf : ∀ x, x.aborting = true → (f x).aborting = true) : Aborts (modChan s p c f) p c :=
  h.putChan (hf _ h.aborting)

/-- A change that leaves the channel's state alone. -/
theorem Aborts.modOther {f : Chan → Chan} (h : Aborts s p c) (hst : ∀ x, (f x).st = x.st) (hback : ∀ x, (f x).back = x.back) :
    Aborts (Machine.modChan s p c f) p c := h.putChan (aborting_of_eq (hst _) (hback _) h.aborting)

theorem Aborts.chanFollow (h : Aborts s p c) : chanFollow s p c = s := by
  have hst := (not_running_of_aborting h.aborting).1
  unfold Machine.chanFollow
  dsimp only
  split
  · rw [if_pos (by simp [hst])]
  · rfl

theorem Aborts.fetchAhead (h : Aborts s p c) : fetchAhead s p c = s := by
  have hgoing := (not_running_of_aborting h.aborting).2
  unfold Machine.fetchAhead
  dsimp only
  split
  · rfl
  · simp [hgoing]

/-! ### Records (R238) -/

/-- A record that waits stalls the channel, which goes on with its abort from there (R222). -/
theorem Aborts.stall {st : Nat} (h : Aborts s p c) (hst : st = csAborting) (e : Nat → Fld) :
    Aborts (dmaEvent (Machine.modChan s p c fun y => { y with st := csStalled, back := st }) p e) p c :=
  (h.modChan fun _ _ => aborting_iff.2 (.inr ⟨rfl, hst⟩)).of_chans (chans_dmaEvent e)

/-- A channel whose record is appended goes back to its abort. -/
theorem aborting_unstall (rs : List CRec) (h : x.aborting = true) : ({ x with recs := rs, st := if x.st == csStalled then x.back else x.st } : Chan).aborting = true := by
  rcases aborting_iff.1 h with hst | ⟨hst, hback⟩
  · exact aborting_iff.2 (.inl (by simp [hst, csAborting, csStalled]))
  · exact aborting_iff.2 (.inl (by simp [hst, hback]))

/-- Where a record stalls a channel that aborts, it has not been Stalled. -/
theorem st_of_stalls (h : x.aborting = true) (hst : (x.st == csRunning || x.st == csAborting || x.st == csHalting) = true) : x.st = csAborting := by
  rcases aborting_iff.1 h with hab | ⟨hstalled, -⟩
  · exact hab
  · simp [hstalled, csStalled, csRunning, csAborting, csHalting] at hst

theorem Aborts.cqTry (h : Aborts s p c) (n : Nat) : Aborts (cqTry s p c n) p c := by
  induction n generalizing s with
  | zero => exact h
  | succ n ih =>
    unfold Machine.cqTry
    dsimp only
    split
    · exact h
    next r rs hrecs =>
      split_ifs with hheld hfull hstalls hin hin
      · exact h.modOther (fun _ => rfl) fun _ => rfl
      · exact (h.stall (st_of_stalls h.aborting hstalls) _).of_chans (chans_cqShow _)
      · exact ((h.of_chans (chans_modCq _ _)).stall (st_of_stalls h.aborting hstalls) _).of_chans (chans_cqShow _)
      · exact h.of_chans (chans_cqShow _)
      · exact h.of_chans ((chans_cqShow _).trans (chans_modCq _ _))
      · refine ih (Aborts.of_chans (Aborts.modChan ?_ fun _ hx => aborting_unstall rs hx) (chans_cqShow _))
        exact h.of_chans ((chans_modCq _ _).trans (chans_cqAppend _ r))

theorem Aborts.cqPut (h : Aborts s p c) (r : CRec) : Aborts (cqPut s p c r) p c := by
  unfold Machine.cqPut
  refine Aborts.cqTry (h.modOther ?_ ?_) 8 <;> exact fun _ => rfl

theorem Aborts.statusPut (h : Aborts s p c) (addr w : Nat) : Aborts (statusPut s p c addr w) p c := by
  unfold Machine.statusPut
  split_ifs
  · exact h.of_chans (chans_plotWrite _ _)
  · exact h.modOther (fun _ => rfl) fun _ => rfl

/-- The STATUS of a Descriptor that finished OK is written where it asks for it (R229). -/
def finishedStatus (s : State) (p c : Nat) (d : Desc) (fst : Nat) : State :=
  if d.statusWb then statusPut s p c (d.addr + 0x38) (statusWord 0 0 fst 0) else s

theorem closeDesc_ok (fst : Nat) : closeDesc s p c d 0 0 fst 0 0 =
    if d.cr then cqPut (finishedStatus s p c d fst) p c { desc := d.addr, user := d.user, status := 0, reason := 0, fst := fst, residue := 0, irq := d.irq }
    else finishedStatus s p c d fst := rfl

/-- A Descriptor that finished OK is closed (R229). -/
theorem Aborts.closeOk (h : Aborts s p c) (d : Desc) (fst : Nat) : Aborts (closeDesc s p c d 0 0 fst 0 0) p c := by
  rw [closeDesc_ok]
  have hstatus : Aborts (finishedStatus s p c d fst) p c := by
    unfold finishedStatus
    split_ifs
    · exact h.statusPut _ _
    · exact h
  split_ifs with hcr
  · exact hstatus.cqPut _
  · exact hstatus

theorem Aborts.countDesc (h : Aborts s p c) : Aborts (countDesc s p c) p c := by
  unfold Machine.countDesc bump
  refine Aborts.of_chans (h.modOther ?_ ?_) (bumpBy_chans _ _ _) <;> exact fun _ => rfl

/-! ### Requests (R228) -/

theorem Aborts.chanAnswer (h : Aborts s p c) {r : DmaRef} (hp : r.plot = p) (hc : r.chan = c) (wr : Bool) (bad : Option Nat) (off : Nat) (data : List Byte) :
    Aborts (chanAnswer s r wr bad off data) p c := by
  subst hp hc
  unfold Machine.chanAnswer
  dsimp only
  split
  · exact h
  next b hb =>
    cases bad with
    | none => exact h.putChan (aborting_of_eq rfl rfl h.aborting)
    | some st => exact h.putChan (aborting_failBurst _ _ (aborting_of_eq rfl rfl h.aborting))

theorem Aborts.dmaSend (h : Aborts s e.plot e.chan) (hhost : e.hostPath = false) : Aborts (dmaSend s q tag e) e.plot e.chan := by
  have hroute := h.of_chans (chans_routeOf e.node (myNode s (1 + q)) (some e.plot))
  unfold Machine.dmaSend
  dsimp only
  split
  next st hst =>
    unfold dmaDone dmaAnswer
    dsimp only
    refine Aborts.chanAnswer (Aborts.of_chans hroute ?_) rfl rfl _ _ _ _
    rw [chans_freeEntry hhost]
    split_ifs
    · exact chans_writeCounts _
    · exact setEv_chans _ _ _
    · rfl
  next rt hrt =>
    refine hroute.of_chans ?_
    rw [sendTxn, chans_pgaPush, chans_txCount, chans_tagFix]
    rfl

theorem Aborts.dmaHostWrite (h : Aborts s p c) (r : DmaRef) (attrs : Nat) (poison : Bool) (cuts : List (Nat × Nat)) (data : List Byte) :
    Aborts (dmaHostWrite s r attrs poison cuts data) p c := by
  induction cuts generalizing s data with
  | nil => exact h
  | cons cut cuts ih => exact ih (h.of_chans (chans_pgaPush _ _ _ _)) _

theorem Aborts.dmaHostRead (h : Aborts s p c) (r : DmaRef) (attrs : Nat) (cuts : List (Nat × Nat)) : Aborts (dmaHostRead s r attrs cuts) p c := by
  induction cuts generalizing s with
  | nil => exact h
  | cons cut cuts ih => exact ih (h.of_chans (chans_pgaPush _ _ _ _))

theorem Aborts.dmaFabric (h : Aborts s p c) {r : DmaRef} (hp : r.plot = p) (hc : r.chan = c) (node addr len : Nat) (wr : Bool) (data : List Byte)
    (poison : Bool) : Aborts (dmaFabric s r node addr len wr data poison) p c := by
  subst hp hc
  unfold Machine.dmaFabric
  dsimp only
  exact Aborts.dmaSend (h.of_chans (chans_ledgerOcc.trans (modQuad_chans _ _ _))) rfl

theorem Aborts.reqSend (h : Aborts s p c) (b : Burst) (i : Nat) (r : DReq) (wr : Bool) : Aborts (reqSend s p c b i r wr) p c := by
  unfold Machine.reqSend
  dsimp only
  split
  · refine Aborts.dmaFabric (h.modOther ?_ ?_) rfl rfl _ _ _ _ _ _ <;> exact fun _ => rfl
  · split_ifs
    · refine Aborts.dmaHostWrite (h.modOther ?_ ?_) _ _ _ _ _ <;> exact fun _ => rfl
    · refine Aborts.dmaHostRead (h.modOther ?_ ?_) _ _ _ <;> exact fun _ => rfl

theorem chans_dmaShort (wr : Bool) (r : DReq) : (dmaShort s p wr r).chans = s.chans := by
  unfold dmaShort poolShort
  split_ifs
  · rw [setEv_chans]; rfl
  · rfl

theorem Aborts.chanSend (h : Aborts s p c) (wr turn : Bool) (n : Nat) : Aborts (chanSend s p c wr turn n) p c := by
  induction n generalizing s with
  | zero => exact h
  | succ n ih =>
    unfold Machine.chanSend
    split
    · exact h
    · split_ifs
      · exact ih (h.reqSend _ _ _ _)
      · exact h.of_chans (chans_dmaShort _ _)

/-! ### The head of the chain (R229, R254) -/

theorem Aborts.sealStore (h : Aborts s p c) (d : Desc) : Aborts (sealStore s p c d) p c := by
  unfold Machine.sealStore
  dsimp only
  generalize (if (d.length == 0) = true then sealOfEmpty (chanOf s p c) d else d.sealVal) = v
  split_ifs
  · exact (h.of_chans (bumpBy_chans s _ _)).putChan (aborting_failBurst _ _ (aborting_of_eq rfl rfl h.aborting))
  · refine Aborts.chanSend (h.putChan (aborting_of_eq ?_ ?_ h.aborting)) _ _ _ <;> rfl

theorem aborting_keepSeal (d : Desc) (h : x.aborting = true) : (keepSeal x d).aborting = true := by
  unfold keepSeal
  split_ifs <;> exact h

/-- The Descriptor d is closed, and its NEXT is to be followed. -/
def followFrom (d : Desc) (x : Chan) : Chan := { x with after := .follow d.next d.addr d.user, cur := match x.ds with | [] => d.addr | e :: _ => e.addr }

theorem Aborts.chanGo (h : Aborts s p c) (n : Nat) : Aborts (chanGo s p c n) p c := by
  induction n generalizing s with
  | zero =>
    unfold Machine.chanGo
    rw [h.fetchAhead]
    exact h
  | succ n ih =>
    unfold Machine.chanGo
    dsimp only
    split
    · rw [h.chanFollow]
      exact h
    next d ds hds =>
      split_ifs with hwaits hbroken hstore hopen
      · rw [h.chanFollow, h.fetchAhead]
        exact h
      · have hbad := Aborts.modChan (f := fun x => markBad { x with ds := x.ds.map fun y => if y.no == d.no then { y with failOff := some d.length } else y } d.no 0x0D 0xFF { reason := 0, fst := 0 }) h fun _ hx => hx
        rw [hbad.fetchAhead]
        exact hbad
      · rw [(h.sealStore d).fetchAhead]
        exact h.sealStore d
      · rw [h.fetchAhead]
        exact h
      · have hpopped := h.modChan (f := fun x => keepSeal (popDesc x) d) fun x hx => aborting_keepSeal d (aborting_of_eq (y := popDesc x) rfl rfl hx)
        have hclosed := hpopped.countDesc.closeOk d 0xFF
        have hnext := hclosed.modOther (f := followFrom d) (fun _ => rfl) fun _ => rfl
        refine ih ?_
        exact hnext.chanFollow.symm ▸ hnext

/-! ### The doorbell (R235) -/

theorem st_chanCut (x : Chan) (host : Bool) : (chanCut x host).st = x.st := by
  unfold chanCut
  dsimp only
  split <;> rfl

theorem st_breakSpan (x : Chan) : x.breakSpan.st = x.st := by
  unfold Chan.breakSpan
  split <;> rfl

/-- ABORT takes the channel to Aborting, and what it then does with the head of its chain leaves it there (R235). -/
theorem aborts_chanAbort (h : mwf s.chans = true) : Aborts (chanAbort s p c) p c := by
  refine ⟨mwf_chans_modChan _ h, ?_⟩
  rw [chanAbort, chanOf_modChan _ h, aborting_iff]
  dsimp only
  split
  · exact .inl (st_chanCut _ _)
  · left
    change (Chan.breakSpan _).st = csAborting
    rw [st_breakSpan, st_chanCut]

end Sys2Proof.Proofs.ChannelAborts
end

section
/-!
CLAIM. DMA doorbells (R219, R222, R225, R235): what each does by the state of its plot and its channel, and the obligation.
-/
namespace Sys2Proof.Proofs.DmaDoorbells
open Sys2Proof.Machine Sys2Proof.Proofs.Fields Sys2Proof.Proofs.PlotQueue Sys2Proof.Proofs.CanonicalForm Sys2Proof.Proofs.LedgerSends
open Sys2Proof.Proofs.Refusals Sys2Proof.Proofs.PlainWrites Sys2Proof.Proofs.PlotCommands Sys2Proof.Proofs.Channels Sys2Proof.Proofs.ChannelAborts

variable {s t : State} {p : Fin 4096} {c : Fin 256} {h : BitVec 58}

/-! ### The doorbells by case -/

/-- The page of a Serving plot takes writes. -/
theorem pageDead_of_taken (hr : dbRefused s p c = false) : pageDead s p = false := by
  simp only [dbRefused, Bool.or_eq_false_iff, bne_eq_false_iff_eq] at hr
  obtain ⟨⟨⟨⟨hserving, -⟩, -⟩, -⟩, -⟩ := hr
  simp [pageDead, hserving, psServing, psDisabled, psResetting]

theorem exec_start_taken (hr : dbRefused s p c = false) (hh : h ≠ 0) (hst : (chanOf s p c).st = csIdle ∨ (chanOf s p c).st = csHalted)
    (hheld : (chanOf s p c).held = false) (hpend : (chanOf s p c).pending = false) :
    exec (.dmaStart p c h) s = .next (chanStart s p c h.toNat) := by
  have hidle : ((chanOf s p c).st == csIdle || (chanOf s p c).st == csHalted) = true := by simpa using hst
  change execDmaStart p c h s = _
  simp only [execDmaStart, pageDead_of_taken hr, hr, beq_false_of_ne hh, hidle, hheld, hpend, Bool.false_eq_true, if_false, Bool.or_self, Bool.not_true]

theorem exec_kick_going (hr : dbRefused s p c = false) (hgoing : (chanOf s p c).going = true) :
    exec (.dmaKick p c) s = .next (modChan s p c fun x => { x with rearm := true }) := by
  change execDmaKick p c s = _
  simp [execDmaKick, pageDead_of_taken hr, hr, hgoing]

/-- The channel as a KICK lets it run on in the context it holds. -/
def runOn (s : State) (p c : Nat) : State := modChan s p c fun x => { x with st := csRunning }

/-- An Idle channel goes on: in the context it still holds, or from its ChannelEntry. -/
theorem exec_kick_idle (hr : dbRefused s p c = false) (hst : (chanOf s p c).st = csIdle) :
    exec (.dmaKick p c) s = .next (if (chanOf s p c).resident then nextReread (runOn s p c) p c (chanOf s p c).cur 0 else chanAcquire s p c .kick) := by
  have hgoing : (chanOf s p c).going = false := by simp [Chan.going, hst, csIdle, csRunning, csStalled]
  change execDmaKick p c s = _
  simp [execDmaKick, pageDead_of_taken hr, hr, hgoing, hst, runOn]

theorem exec_abort_running (hr : dbRefused s p c = false) (hst : (chanOf s p c).st = csRunning) :
    exec (.dmaAbort p c) s = .next (chanGo (chanAbort s p c) p c 3) := by
  change execDmaAbort p c s = _
  simp [execDmaAbort, pageDead_of_taken hr, hr, hst]

theorem exec_abort_stalled (hr : dbRefused s p c = false) (hst : (chanOf s p c).st = csStalled) :
    exec (.dmaAbort p c) s = .next (modChan s p c fun x => { x with abortPend := true }) := by
  have hne : (csStalled == csRunning) = false := by decide
  change execDmaAbort p c s = _
  simp [execDmaAbort, pageDead_of_taken hr, hr, hst, hne]

theorem exec_resume_taken (hr : dbRefused s p c = false) (hst : (chanOf s p c).st = csHalted) (hcause : (chanOf s p c).cause = ccHost)
    (hheld : (chanOf s p c).held = false) :
    exec (.dmaResume p c) s = .next (chanAcquire (modChan s p c fun x => { x with cause := 0 }) p c .resume) := by
  change execDmaResume p c s = _
  simp [execDmaResume, pageDead_of_taken hr, hr, hst, hcause, hheld]

/-- Each doorbell, and whether its operand and the state of its channel let it be taken. -/
def doorbells (s : State) (p : Fin 4096) (c : Fin 256) (h : BitVec 58) : List (Instr × Bool) :=
  [(.dmaStart p c h, decide (h ≠ 0) && ((chanOf s p c).st == csIdle || (chanOf s p c).st == csHalted) && !(chanOf s p c).held && !(chanOf s p c).pending),
   (.dmaKick p c, (chanOf s p c).going || (chanOf s p c).st == csIdle), (.dmaAbort p c, (chanOf s p c).st == csRunning || (chanOf s p c).st == csStalled),
   (.dmaResume p c, (chanOf s p c).st == csHalted && (chanOf s p c).cause == ccHost && !(chanOf s p c).held)]

/-- At the page of a Disabled or Resetting plot a doorbell does nothing. -/
theorem doorbell_dead (hdead : pageDead s p = true) : ∀ i ∈ [Instr.dmaStart p c h, .dmaKick p c, .dmaAbort p c, .dmaResume p c], Leaves i s := by
  intro i hi
  simp only [List.mem_cons, List.not_mem_nil, or_false] at hi
  obtain rfl | rfl | rfl | rfl := hi
  · change execDmaStart p c h s = _
    simp [execDmaStart, hdead]
  · change execDmaKick p c s = _
    simp [execDmaKick, hdead]
  · change execDmaAbort p c s = _
    simp [execDmaAbort, hdead]
  · change execDmaResume p c s = _
    simp [execDmaResume, hdead]

theorem exec_doorbell_refused (hlive : pageDead s p = false) {i : Instr × Bool} (hi : i ∈ doorbells s p c h) (hno : dbRefused s p c = true ∨ i.2 = false) :
    exec i.1 s = .next (dbIgnored s p) := by
  simp only [doorbells, List.mem_cons, List.not_mem_nil, or_false] at hi
  obtain rfl | rfl | rfl | rfl := hi
  · change execDmaStart p c h s = _
    have hcond : (dbRefused s p c || h == 0 || !((chanOf s p c).st == csIdle || (chanOf s p c).st == csHalted) || (chanOf s p c).held ||
        (chanOf s p c).pending) = true := by
      rcases hno with hr | hno
      · simp [hr]
      · simp only [Bool.and_eq_false_iff, Bool.not_eq_false', decide_eq_false_iff_not, not_not] at hno
        rcases hno with ((hzero | hbusy) | hheld) | hpend
        · simp [hzero]
        · simp [hbusy]
        · simp [hheld]
        · simp [hpend]
    simp only [execDmaStart, hlive, hcond, Bool.false_eq_true, if_false, if_true]
  · change execDmaKick p c s = _
    rcases hno with hr | hno
    · simp [execDmaKick, hlive, hr]
    · obtain ⟨hgoing, hidle⟩ := Bool.or_eq_false_iff.1 hno
      simp [execDmaKick, hlive, hgoing, hidle]
  · change execDmaAbort p c s = _
    rcases hno with hr | hno
    · simp [execDmaAbort, hlive, hr]
    · obtain ⟨hrunning, hstalled⟩ := Bool.or_eq_false_iff.1 hno
      simp [execDmaAbort, hlive, hrunning, hstalled]
  · change execDmaResume p c s = _
    have hcond : (dbRefused s p c || (chanOf s p c).st != csHalted || (chanOf s p c).cause != ccHost || (chanOf s p c).held) = true := by
      rcases hno with hr | hno
      · simp [hr]
      · simp only [Bool.and_eq_false_iff, Bool.not_eq_false'] at hno
        rcases hno with (hrunning | hcause) | hheld
        · simp [bne, hrunning]
        · simp [bne, hcause]
        · simp [hheld]
    simp only [execDmaResume, hlive, hcond, Bool.false_eq_true, if_false, if_true]

/-! ### What each does (R222) -/

/-- A doorbell that is refused only counts in DB_IGNORED (R219). -/
theorem doorbell_refused (hlive : pageDead s p = false) {i : Instr × Bool} (hi : i ∈ doorbells s p c h) (hno : dbRefused s p c = true ∨ i.2 = false) :
    Runs i.1 s fun t => getF t (F.PP_DMA_DB_IGNORED p) = min (getF s (F.PP_DMA_DB_IGNORED p) + 1) (F.PP_DMA_DB_IGNORED p).max ∧ OnlyCells s t ∧
      FieldsBut s t [F.PP_DMA_DB_IGNORED p] :=
  ⟨_, exec_doorbell_refused hlive hi hno, getF_bump_min s _, bump_only s _, fieldsBut_setF _ (by simp) (fieldsBut_refl s _)⟩

/-- A channel as START leaves it before it has a context. -/
def startedChan (x : Chan) (head : Nat) : Chan :=
  { x with cur := head * 64, cause := 0, rearm := false, resumeAt := none, undecided := false, last := none, after := .none, from_ := none, span := none,
           broken := [], reg := 0, lastSeal := 0 }

/-- Either way the channel comes to run, it keeps all but its state and where it stands with its context. -/
theorem chanOf_acquire (kind : ChanLoad) (hwf : mwf s.chans = true) :
    chanOf (chanAcquire s p c kind) p c = if ctxFree s (quadrantOf p) then loadingChan (chanOf s p c) kind s.now else waitingChan (chanOf s p c) kind := by
  cases hfree : ctxFree s (quadrantOf p) with
  | true => exact chanOf_acquire_free kind hwf hfree
  | false => exact chanOf_acquire_full kind hwf hfree

theorem chanOf_acquired (kind : ChanLoad) (hwf : mwf s.chans = true) :
    (chanOf (chanAcquire s p c kind) p c).st = csRunning ∧ (chanOf (chanAcquire s p c kind) p c).kind = kind ∧
      (chanOf (chanAcquire s p c kind) p c).cause = (chanOf s p c).cause ∧ (chanOf (chanAcquire s p c kind) p c).cur = (chanOf s p c).cur ∧
      (chanOf (chanAcquire s p c kind) p c).span = (chanOf s p c).span ∧ (chanOf (chanAcquire s p c kind) p c).resumeAt = (chanOf s p c).resumeAt := by
  rw [chanOf_acquire kind hwf]
  split_ifs
  · rw [loadingChan]
    trivial
  · rw [waitingChan]
    trivial

/-- A change of the channel before it comes to run. -/
theorem takesContext_acquire (kind : ChanLoad) (f : Chan → Chan) (hwf : mwf s.chans = true)
    (hf : (f (chanOf s p c)).resident = (chanOf s p c).resident) : TakesContext s (chanAcquire (modChan s p c f) p c kind) p c :=
  takesContext_modChan p.isLt c.isLt hf (takesContext_chanAcquire kind (mwf_chans_modChan _ hwf) p.isLt c.isLt)

/-- A START that waits writes CUR and the state to its ChannelEntry (R218). -/
theorem txq_chanStart (hs : s.wf = true) (head : Nat) (hfull : ctxFree s (quadrantOf p) = false) :
    (portOf (chanStart s p c head) (quadrantOf p)).txq = (portOf s (quadrantOf p)).txq ++
      [{ kind := .memWrite, plot := p, reqId := ridOf s p, addr := chanEntryAddr s p c + 16, len := 8, data := leBytes 8 (head * 64 + csRunning) }] := by
  have hwf := mwf_chans_of_wf hs
  have hports : (modChan s p c fun x => startedChan x head).ports = s.ports := by rw [modChan_only]
  have hmwf : mwf (modChan s p c fun x => startedChan x head).ports = true := hports ▸ mwf_ports_of_wf hs
  have hcur : (chanOf (modChan s p c fun x => startedChan x head) p c).cur / 64 * 64 = head * 64 := by
    rw [chanOf_modChan _ hwf, startedChan, Nat.mul_div_cancel _ (by decide)]
  have hctx : ctxFree (modChan s p c fun x => startedChan x head) (quadrantOf p) = false := (ctxFree_modChan rfl _).trans hfull
  change (portOf (chanAcquire (modChan s p c fun x => startedChan x head) p c .start) (quadrantOf p)).txq = _
  rw [txq_acquire_start (mwf_chans_modChan _ hwf) hmwf p.isLt c.isLt hctx, hcur, chanEntryAddr_modChan p.isLt c.isLt, portOf_congr hports, ridOf, ridOf,
    portOf_congr hports]

theorem start_runs (hs : s.wf = true) (hr : dbRefused s p c = false) (hh : h ≠ 0) (hst : (chanOf s p c).st = csIdle ∨ (chanOf s p c).st = csHalted)
    (hheld : (chanOf s p c).held = false) (hpend : (chanOf s p c).pending = false) :
    Runs (.dmaStart p c h) s fun t =>
      TakesContext s t p c ∧ (chanOf t p c).cause = 0 ∧ (chanOf t p c).cur = h.toNat * 64 ∧ (chanOf t p c).span = none ∧ (chanOf t p c).kind = .start ∧
      (ctxFree s (quadrantOf p) = false → (portOf t (quadrantOf p)).txq = (portOf s (quadrantOf p)).txq ++
        [{ kind := .memWrite, plot := p, reqId := ridOf s p, addr := chanEntryAddr s p c + 16, len := 8, data := leBytes 8 (h.toNat * 64 + csRunning) }]) := by
  have hwf := mwf_chans_of_wf hs
  have hstarted : chanOf (modChan s p c fun x => startedChan x h.toNat) p c = startedChan (chanOf s p c) h.toNat := chanOf_modChan _ hwf
  obtain ⟨-, hkind, hcause, hcur, hspan, -⟩ :=
    chanOf_acquired (p := p) (c := c) .start (mwf_chans_modChan (p := p) (c := c) (fun x => startedChan x h.toNat) hwf)
  rw [hstarted] at hcause hcur hspan
  exact ⟨_, exec_start_taken hr hh hst hheld hpend, takesContext_acquire .start (fun x => startedChan x h.toNat) hwf rfl, hcause, hcur, hspan, hkind,
    txq_chanStart hs _⟩

theorem kick_going_runs (hs : s.wf = true) (hr : dbRefused s p c = false) (hgoing : (chanOf s p c).going = true) :
    Runs (.dmaKick p c) s fun t => chanOf t p c = { chanOf s p c with rearm := true } ∧ bitF t (F.PP_CHAN_STATUS_REARM p c) = true ∧
      t = { s with cells := t.cells, chans := t.chans } :=
  ⟨_, exec_kick_going hr hgoing, chanOf_modChan _ (mwf_chans_of_wf hs), bitF_rearm_putChan, modChan_only s p c _⟩

theorem chanOf_nextReread (hwf : mwf s.chans = true) (addr user : Nat) :
    chanOf (nextReread s p c addr user) p c = { chanOf s p c with reread := some (addr, user), rearm := false } := by
  rw [nextReread, chanOf_emit, chanOf_modChan _ hwf]

theorem out_nextReread (addr user : Nat) : (nextReread s p c addr user).out = .plotRead p (addr + 0x20) 8 :: s.out := by
  rw [nextReread, emit_out, modChan_only]

theorem nextReread_only (hf : ChanFrame s t) (addr user : Nat) :
    nextReread t p c addr user = { s with cells := (nextReread t p c addr user).cells, chans := (nextReread t p c addr user).chans,
                                          out := (nextReread t p c addr user).out } := (hf.modChan p c _).emit _

/-- An Idle channel that is kicked reads the NEXT of its CUR again, or takes a context first. -/
theorem kick_idle_runs (hs : s.wf = true) (hr : dbRefused s p c = false) (hst : (chanOf s p c).st = csIdle) :
    Runs (.dmaKick p c) s fun t =>
      (chanOf t p c).st = csRunning ∧ (chanOf t p c).cur = (chanOf s p c).cur ∧
      ((chanOf s p c).resident = false → TakesContext s t p c ∧ (chanOf t p c).kind = .kick) ∧
      ((chanOf s p c).resident = true → (chanOf t p c).reread = some ((chanOf s p c).cur, 0) ∧ t.out = .plotRead p ((chanOf s p c).cur + 0x20) 8 :: s.out ∧
        t = { s with cells := t.cells, chans := t.chans, out := t.out }) := by
  have hwf := mwf_chans_of_wf hs
  refine ⟨_, exec_kick_idle hr hst, ?_⟩
  cases hres : (chanOf s p c).resident with
  | false =>
    obtain ⟨hruns, hkind, -, hcur, -, -⟩ := chanOf_acquired (p := p) (c := c) .kick hwf
    rw [if_neg Bool.false_ne_true]
    exact ⟨hruns, hcur, fun _ => ⟨takesContext_chanAcquire .kick hwf p.isLt c.isLt, hkind⟩, nofun⟩
  | true =>
    have hframe : ChanFrame s (runOn s p c) := (chanFrame_refl s).modChan p c _
    have hout : (runOn s p c).out = s.out := by rw [hframe]
    have hchan : chanOf (runOn s p c) p c = { chanOf s p c with st := csRunning } := chanOf_modChan _ hwf
    have hmwf : mwf (runOn s p c).chans = true := mwf_chans_modChan _ hwf
    rw [if_pos rfl, chanOf_nextReread hmwf, hchan]
    exact ⟨rfl, rfl, nofun, fun _ => ⟨rfl, by rw [out_nextReread, hout], nextReread_only hframe _ _⟩⟩

theorem abort_running_runs (hs : s.wf = true) (hr : dbRefused s p c = false) (hst : (chanOf s p c).st = csRunning) :
    Runs (.dmaAbort p c) s fun t => (chanOf t p c).st = csAborting ∨ ((chanOf t p c).st = csStalled ∧ (chanOf t p c).back = csAborting) := by
  have haborts := (aborts_chanAbort (p := p) (c := c) (mwf_chans_of_wf hs)).chanGo 3
  exact ⟨_, exec_abort_running hr hst, aborting_iff.1 haborts.aborting⟩

theorem abort_stalled_runs (hs : s.wf = true) (hr : dbRefused s p c = false) (hst : (chanOf s p c).st = csStalled) :
    Runs (.dmaAbort p c) s fun t => chanOf t p c = { chanOf s p c with abortPend := true } ∧ t = { s with cells := t.cells, chans := t.chans } :=
  ⟨_, exec_abort_stalled hr hst, chanOf_modChan _ (mwf_chans_of_wf hs), modChan_only s p c _⟩

theorem resume_runs (hs : s.wf = true) (hr : dbRefused s p c = false) (hst : (chanOf s p c).st = csHalted) (hcause : (chanOf s p c).cause = ccHost)
    (hheld : (chanOf s p c).held = false) :
    Runs (.dmaResume p c) s fun t =>
      TakesContext s t p c ∧ (chanOf t p c).cause = 0 ∧ (chanOf t p c).kind = .resume ∧ (chanOf t p c).resumeAt = (chanOf s p c).resumeAt ∧
      (chanOf t p c).cur = (chanOf s p c).cur := by
  have hwf := mwf_chans_of_wf hs
  have hresumed : chanOf (modChan s p c fun x => { x with cause := 0 }) p c = { chanOf s p c with cause := 0 } := chanOf_modChan _ hwf
  obtain ⟨-, hkind, hclear, hcur, -, hat⟩ :=
    chanOf_acquired (p := p) (c := c) .resume (mwf_chans_modChan (p := p) (c := c) (fun x => { x with cause := 0 }) hwf)
  rw [hresumed] at hclear hcur hat
  exact ⟨_, exec_resume_taken hr hst hcause hheld, takesContext_acquire .resume (fun x => { x with cause := 0 }) hwf rfl, hclear, hkind, hat, hcur⟩

/-! ### The obligation -/

/-- Settles O33: the doorbells by case, each as above. -/
theorem dmaDoorbells : Obligations.DmaDoorbells := by
  unfold Obligations.DmaDoorbells
  exact ⟨fun _ _ _ _ => doorbell_dead, fun _ _ _ _ hlive _ hi => doorbell_refused hlive hi, fun _ _ _ _ => start_runs, fun _ _ _ => kick_going_runs,
    fun _ _ _ => kick_idle_runs, fun _ _ _ => abort_running_runs, fun _ _ _ => abort_stalled_runs, fun _ _ _ => resume_runs⟩

end Sys2Proof.Proofs.DmaDoorbells
end

section
/-!
CLAIM. ChannelEntries, Descriptors and extensions (R217 to R225): the obligation, whose clause on a Descriptor of no length takes any bursts in flight.
-/
namespace Sys2Proof.Proofs.DmaFetches
open Sys2Proof.Machine

/-- A Descriptor of FORMAT 1 with no length, no flags and NEXT 0. -/
def emptyDescriptor : List Byte := leBytes 8 1 ++ List.replicate 56 0

/-- Channel 0 of plot 0, which is Serving, runs and fetches the Descriptor that is to have the number 0; a burst in flight already names that number. -/
def burstAhead : State :=
  { setF {} (F.PE_STATUS_STATE 0) psServing with
    chans := [(0, { st := csRunning, resident := true, fetch := some 0x1000,
                    bursts := [{ id := 0, desc := 0, off := 0, len := 64, reads := [], writes := [] }] })] }

/-- The Descriptors in the chain of channel 0 of plot 0 after a command. -/
def chainAfter : Host.Outcome State Fault Refusal → List Desc
  | .next t => (chanOf t 0 0).ds
  | _ => []

/-- Refutes O34: its clause on a Descriptor of no length says that the chain is empty again, for every state with `State.wf`, but does not say that the
channel has no burst in flight for the number that the Descriptor takes. Where one has it, the Descriptor waits for it at the head of the chain (R229). -/
theorem not_dmaFetches : ¬ Obligations.DmaFetches := by
  intro h
  obtain ⟨-, -, -, -, -, -, -, -, -, hempty, -⟩ := h
  obtain ⟨t, hexec, hds, -⟩ := hempty burstAhead 0 0 0x1000 (parseDesc 0 0x1000 emptyDescriptor) emptyDescriptor (by decide +kernel) rfl rfl rfl rfl rfl
    rfl rfl rfl (by decide +kernel) (by decide +kernel) (by decide +kernel) (by decide +kernel) (by decide +kernel) (by decide +kernel)
  have hwaits : chainAfter (exec (.dmaDescriptorFetched 0 0 (.ok emptyDescriptor)) burstAhead) ≠ [] := by decide +kernel
  exact hwaits ((congrArg chainAfter hexec).trans hds)

end Sys2Proof.Proofs.DmaFetches
end

section
/-!
CLAIM. DMA bursts (R227 to R230): the obligation, whose clause on a plain host write takes a channel in which two bursts have one number.
-/
namespace Sys2Proof.Proofs.DmaBursts
open Sys2Proof.Machine

/-- A Descriptor of 64 bytes from host memory to host memory, all of it issued. -/
def issuedCopy : Desc := { no := 0, addr := 0x1000, ctrl := 64 * 2 ^ 32 + 1, src := 0x2000, dst := 0x3000, nodes := 0, next := 0, xform := 0, user := 5, pos := 64 }

/-- Its burst, whose data is whole. -/
def wholeBurst : Burst :=
  { id := 1, desc := 0, off := 0, len := 64, reads := [{ node := none, addr := 0x2000, len := 64, left := 0, data := [(0, List.replicate 64 7)] }],
    writes := [{ node := none, addr := 0x3000, len := 64 }] }

/-- Channel 0 of plot 0 runs with that burst, and before it stands one of the same number, already written, whose requests ask for no snoop. -/
def sameNumber : State :=
  { [(F.PE_STATUS_STATE 0, psServing), (F.PWM_GATE_RUN, 15), (F.PWM_STATUS_MODE, moServe)].foldl (fun s x => setF s x.1 x.2) {} with
    chans := [(0, { st := csRunning, resident := true, ds := [issuedCopy], nextNo := 2,
                    bursts := [{ wholeBurst with reads := [], writes := [], written := true, attrs := 1 }, wholeBurst] })]
    funcs := [(0, { bme := true })] }

/-- The Attr bits of the host writes that Pergola holds for the host path of quadrant 0 from its DMA cluster. -/
def writeAttrs (s : State) : List Nat :=
  ((mget s.pga.active 0 []).flatMap FlowSt.queue).filterMap fun x => match x.host with
    | some (.write t) => some t.attrs
    | _ => none

/-- What a command leaves of them. -/
def attrsAfter : Host.Outcome State Fault Refusal → List Nat
  | .next t => writeAttrs t
  | _ => []

/-- Refutes O35: its clause on a plain host write says that the TLP carries the Attr bits of the burst whose data is whole, for every state with `State.wf`;
but a burst is known by its number, and neither `wf` nor the clause says that no other burst of the channel has it. Where one that has been written stands
before it, both take the write, and the TLP goes out with the Attr bits of the first. -/
theorem not_dmaBursts : ¬ Obligations.DmaBursts := by
  intro h
  obtain ⟨-, -, -, hwrite, -⟩ := h
  obtain ⟨t, hexec, -, hpga, -⟩ := hwrite sameNumber 0 0 wholeBurst issuedCopy 0x3000 64 (List.replicate 64 7) (by decide +kernel) (by decide +kernel)
    (by decide +kernel) (by decide +kernel) (by decide +kernel) (by decide +kernel) (by decide +kernel) (by decide +kernel) rfl (by decide +kernel)
    (by decide +kernel) (by decide +kernel) (by decide +kernel) (by decide +kernel)
  have hsent : attrsAfter (exec (.dmaBurstReadDone 0 0) sameNumber) = [1] := by decide +kernel
  have hattrs : writeAttrs t = [0] := by
    unfold writeAttrs
    rw [hpga]
    decide +kernel
  have h := (congrArg attrsAfter hexec).symm.trans hsent
  exact absurd (hattrs.symm.trans h) (by decide)

end Sys2Proof.Proofs.DmaBursts
end

section
/-!
CLAIM. How channels end (R222, R233 to R244): the obligation, whose clause on DMA_HALT_COMPLETE takes a channel for which an abort is pending.
-/
namespace Sys2Proof.Proofs.DmaEnds
open Sys2Proof.Machine

/-- Channel 0 of plot 0, which is Serving, is Halting with FETCH and nothing out, and has an abort pending: an ABORT came while it was Stalled, and then the
fetch that it had out failed. -/
def haltingAborted : State :=
  { setF {} (F.PE_STATUS_STATE 0) psServing with
    chans := [(0, { st := csHalting, cause := ccFetch, resident := true, abortPend := true })]
    funcs := [(0, { bme := true })] }

/-- The state in which a command leaves channel 0 of plot 0. -/
def stateAfter : Host.Outcome State Fault Refusal → Nat
  | .next t => (chanOf t 0 0).st
  | _ => 0

/-- Refutes O36: its clause on DMA_HALT_COMPLETE says that a Halting channel with nothing out becomes Halted, for every state with `State.wf`, and excludes a
channel whose plot is held, but not one with ABORT_PEND. The abort of such a channel is taken when it leaves Halting, and it becomes Idle (R222). -/
theorem not_dmaEnds : ¬ Obligations.DmaEnds := by
  intro h
  obtain ⟨-, -, -, -, -, hhalt, -⟩ := h
  obtain ⟨t, hexec, hst, -⟩ := hhalt haltingAborted 0 0 (by decide +kernel) rfl (by decide +kernel) rfl rfl rfl
  have hidle : stateAfter (exec (.dmaHaltComplete 0 0) haltingAborted) = csIdle := by decide +kernel
  exact absurd (hst.symm.trans ((congrArg stateAfter hexec).symm.trans hidle)) (by decide)

end Sys2Proof.Proofs.DmaEnds
end

section
/-!
CLAIM. What a port does with a TLP (R268, R269): the obligation, whose clause on a message of no row takes a quadrant whose clocks stand.
-/
namespace Sys2Proof.Proofs.HostRequests
open Sys2Proof.Machine

/-- A prefetch entry of plot 0 that has reached LIFE (R99). -/
def endedPrefetch : Prefetch := { plot := 0, win := 0, gen := 1, node := 66, addr := 0, len := 64, data := [], deliv := 0, born := 0, used := 0, life := 0 }

/-- Port 0's link is in L0, the clocks of quadrant 0 stand (R461), and its prefetch buffer holds an entry that has reached LIFE meanwhile. -/
def gatedPrefetch : State :=
  { [(F.HPT_LINK_DL_UP 0, 1), (F.HPT_LINK_LTSSM 0, 3), (F.PWM_GATE_RUN, 14)].foldl (fun s x => setF s x.1 x.2) {} with
    quads := [(0, { pf := [endedPrefetch] })] }

/-- A message that has no row in R269. -/
def strayMessage : Tlp := { kind := .otherMsg, index := 0 }

/-- What the device keeps for the plots after a command. -/
def plotsAfter : Host.Outcome State Fault Refusal → SMap Plot
  | .next t => t.plots
  | _ => []

/-- Refutes O13: its clause on a message of no row says that no plot changes, in every state; but a TLP restarts the clocks of a quadrant where they stand
(R461), and the prefetch entries that have reached LIFE meanwhile are discarded then: the discard is reported to their plot, whose rate window opens
(R99, R550). The clauses that say `plots = s.plots` of other TLPs fail in the same way. -/
theorem not_hostRequestsDecided : ¬ Obligations.HostRequestsDecided := by
  intro h
  obtain ⟨-, -, -, -, -, -, -, -, -, -, -, -, -, -, -, hother⟩ := h
  obtain ⟨t, hexec, hplots, -⟩ := hother gatedPrefetch 0 strayMessage {} rfl
  have hreported : plotsAfter (exec (.hostTlpReceive 0 strayMessage {}) gatedPrefetch) ≠ gatedPrefetch.plots := by decide +kernel
  exact hreported ((congrArg plotsAfter hexec).trans hplots)

end Sys2Proof.Proofs.HostRequests
end

section
/-!
CLAIM. Configuration writes, Bus Master Enable, VF Enable and FLR (R262 to R281): the obligation, whose clause on VF Enable takes a plot table that cannot
be read.
-/
namespace Sys2Proof.Proofs.HostConfiguration
open Sys2Proof.Machine

/-- Port 0 may make one VF, and with AUTO its plot is to be loaded; the plot table lies at a fabric node (R43), but the device has no node ID yet (R37). -/
def unroutedTable : State :=
  { [(F.HPT_LINK_DL_UP 0, 1), (F.HPT_LINK_READY 0, 1), (F.PLT_TABLE_BASE_VALID 0, 1), (F.PLT_TABLE_BASE_AUTO 0, 1), (F.PLT_TABLE_BASE_TARGET 0, 1),
      (F.PWM_STATUS_MODE, moServe)].foldl (fun s x => setF s x.1 x.2) {} with
    ports := [(0, { numVfs := 1, totalVfs := 1 })] }

/-- The state in which a command leaves plot 1. -/
def stateAfter : Host.Outcome State Fault Refusal → Nat
  | .next t => plotState t 1
  | _ => psDisabled

/-- Refutes O37: its clause on VF Enable says that the plot of each new VF is Loading where AUTO is 1 and `tableOpen` holds; but `tableOpen` says of a table at
a fabric node no more than that one is configured. Where no route leads to the node the read of the entry fails at once (R113), and so does the load: the
plot is Disabled (R54). -/
theorem not_hostConfiguration : ¬ Obligations.HostConfiguration := by
  intro h
  obtain ⟨-, -, -, -, hset, -⟩ := h
  obtain ⟨t, hexec, -, -, -, hloads⟩ := hset unroutedTable 0 (by decide +kernel) (by decide +kernel) (by decide +kernel) (by decide +kernel)
    (by decide +kernel)
  have hloading : plotState t 1 = psLoading := hloads 1 (by decide) (by decide +kernel) (by decide +kernel) (by decide +kernel) (by decide +kernel)
    (by decide +kernel) (by decide +kernel)
  have hfailed : stateAfter (exec (.vfEnableSet 0) unroutedTable) = psDisabled := by decide +kernel
  exact absurd (hloading.symm.trans ((congrArg stateAfter hexec).symm.trans hfailed)) (by decide)

end Sys2Proof.Proofs.HostConfiguration
end

section
/-!
CLAIM. MSI-X, INTx and the PBA (R270 to R275): the obligation, whose clause on PP_INTX takes a port whose INTA message is overdue.
-/
namespace Sys2Proof.Proofs.HostInterrupts
open Sys2Proof.Machine

/-- PF0 of port 0 is Serving and decodes memory; the port has INTA asserted at its host, but no vector of PF0 is pending. -/
def staleInta : State :=
  { [(F.HPT_LINK_DL_UP 0, 1), (F.HPT_LINK_READY 0, 1), (F.PE_STATUS_STATE 0, psServing)].foldl (fun s x => setF s x.1 x.2) {} with
    funcs := [(0, { mse := true })]
    ports := [(0, { intaOn := true })] }

/-- Refutes O38: its clause on PP_INTX says of a write of neither bit both that it changes nothing and that, where INTA is not as the host was last told, it
queues the message that tells it. `State.wf` does not say that the host has been told; where it has not, the two contradict each other. -/
theorem not_hostInterrupts : ¬ Obligations.HostInterrupts := by
  intro h
  obtain ⟨-, -, -, -, -, -, hintx, -⟩ := h
  obtain ⟨t, -, -, -, hneither, -, -, hmessage⟩ := hintx staleInta 0 0 (by decide +kernel) (by decide +kernel) (by decide +kernel)
  obtain rfl : t = staleInta := hneither (by decide) (by decide)
  have hqueued := hmessage (by decide +kernel)
  exact absurd (congrArg List.length hqueued) (by simp)

end Sys2Proof.Proofs.HostInterrupts
end

section
/-!
CLAIM. Host links and port resets (R258, R262, R282): the obligation, whose clause on a port reset takes a Ledger entry of a channel that no plot has.
-/
namespace Sys2Proof.Proofs.HostLinks
open Sys2Proof.Machine Sys2Proof.Proofs.EntryFields

/-- A channel number beyond the 256 of a plot, whose PP_CHAN_STATUS would lie where the resident PlotEntry of plot 0 has its STATUS. -/
def farChannel : Nat := 0x1FFFFB00

/-- A DMA read of that channel for plot 0 in the Ledger. -/
def farRead : LEntry :=
  { kind := .read, hostPath := false, plot := 0, chan := farChannel, node := 66, addr := 0, len := 64,
    req := { kind := .read, bar4 := false, off := 0, len := 64 } }

/-- Plot 0 is Serving with port 0's link up, and that read of its only burst is out. -/
def farReadOut : State :=
  { [(F.HPT_LINK_DL_UP 0, 1), (F.PE_STATUS_STATE 0, psServing)].foldl (fun s x => setF s x.1 x.2) {} with
    quads := [(0, { ledger := [(0, farRead)] })]
    chans := [(farChannel, { bursts := [{ id := 0, desc := 0, off := 0, len := 64, reads := [{ node := some 66, addr := 0, len := 64 }], writes := [] }] })] }

/-- Port 0 notes that its link is down (R282, R286). -/
def downNoted (s : State) : State := hptEvent (bump s (F.HPT_COUNT_LINK_DOWNS 0)) 0 F.HPT_EVENT_LINK_DOWN

/-- Port 0 has noted its reset, and the Cloche of plot 0 has begun. -/
def plotZeroStarted : State := clocheStart (downNoted farReadOut) 0 false true

/-- Cloche retires the plot's read (R68) and shows its channel in PP_CHAN_STATUS, which is the plot's own STATUS.STATE. -/
theorem plotZeroStarted_disabled : plotState plotZeroStarted 0 = psDisabled := by decide +kernel

/-! ### The rest of the port reset (R282) -/

theorem mget_of_keys_lt {α : Type} {m : SMap α} {i : Nat} (d : α) (h : ∀ e ∈ m, e.1 < i) : mget m i d = d := by
  induction m with
  | nil => rfl
  | cons e m ih =>
    obtain ⟨k, v⟩ := e
    have hk : k < i := h _ List.mem_cons_self
    simp [mget, Nat.lt_asymm hk, hk.ne', ih fun e he => h e (List.mem_cons_of_mem _ he)]

/-- The registers that have changed lie below the PlotEntry of plot 1: every other plot is Disabled, as at reset. -/
theorem others_disabled {p : Nat} (hp : 1 ≤ p) : plotState plotZeroStarted p = psDisabled := by
  have hlow : (plotZeroStarted.cells.all fun e => decide (e.1 < (F.PE_STATUS_STATE 1).key)) = true := by decide +kernel
  refine mget_of_keys_lt 0 fun e he => lt_of_lt_of_le (of_decide_eq_true (List.all_eq_true.1 hlow e he)) ?_
  change (0x200000000 + 1 * 0x100 + 0) * 64 + 0 ≤ (0x200000000 + p * 0x100 + 0) * 64 + 0
  omega

/-- Unloading plots that are Disabled changes no register. -/
theorem cells_unload_disabled {s : State} {ps : List Nat} (h : ∀ p ∈ ps, plotState s p = psDisabled) :
    (ps.foldl (fun s p => clocheStart s p false true) s).cells = s.cells := by
  induction ps generalizing s with
  | nil => rfl
  | cons p ps ih =>
    have hp : (clocheStart s p false true).cells = s.cells := by
      simp [clocheStart, h p List.mem_cons_self, psDisabled, psResetting]
    exact (ih fun r hr => (getF_congr hp _).trans (h r (List.mem_cons_of_mem _ hr))).trans hp

/-- Giving up loads that waited for Serve changes no register. -/
theorem cells_autoWait_cleared (s : State) (ps : List Nat) :
    (ps.foldl (fun s p => if (plotOf s p).autoWait then modPlot s p fun x => { x with autoWait := false } else s) s).cells = s.cells := by
  induction ps generalizing s with
  | nil => rfl
  | cons p ps ih =>
    refine (ih _).trans ?_
    dsimp only
    split_ifs <;> rfl

/-- The registers that the reset of port 0's logic changes lie apart from plot 0's STATE. -/
theorem state_key_ne_port : ∀ f ∈ [F.RST_STATUS_PORT, F.TST_PORT_MODE 0] ++ hptLinkFields 0, (F.PE_STATUS_STATE 0).key ≠ f.key := by decide +kernel

theorem plotState_portClear (s : State) : plotState (portClear s 0) 0 = plotState s 0 := by
  let u : State := { s with
    funcs := s.funcs.filter fun x => quadrantOf x.1 != 0
    msix := s.msix.filter fun x => quadrantOf (x.1 / 2048) != 0 }
  calc plotState (portClear s 0) 0 = plotState (resetFields u (hptLinkFields 0)) 0 :=
        fieldsBut_resetFields _ [F.TST_PORT_MODE 0] _ fun f hf => state_key_ne_port f (List.mem_append_left _ (List.mem_cons_of_mem _ hf))
    _ = plotState s 0 := fieldsBut_resetFields u _ _ fun f hf => state_key_ne_port f (List.mem_append_right _ hf)

theorem portPlots_zero : portPlots 0 = 0 :: ((List.range 1023).map Nat.succ).map (0 * 1024 + ·) := by
  rw [portPlots, List.range_succ_eq_map, List.map_cons]

/-- After plot 0's Cloche has begun and no other plot is loaded, a reset of port 0 leaves plot 0 where it is. -/
theorem plotState_portReset (s : State) (ltssm : Nat)
    (h : ∀ p, 1 ≤ p → plotState (clocheStart (downNoted s) 0 false true) p = psDisabled) :
    plotState (portReset s 0 ltssm) 0 = plotState (clocheStart (downNoted s) 0 false true) 0 := by
  have hcloche : ((portPlots 0).foldl (fun s p => clocheStart s p false true) (downNoted s)).cells =
      (clocheStart (downNoted s) 0 false true).cells := by
    rw [portPlots_zero, List.foldl_cons]
    refine cells_unload_disabled fun p hp => h p ?_
    simp only [List.mem_map] at hp
    omega
  unfold portReset
  dsimp only
  generalize portPlots 0 = ps at hcloche ⊢
  have hport : (F.PE_STATUS_STATE 0).key ≠ F.RST_STATUS_PORT.key := state_key_ne_port _ (by simp)
  have hltssm : (F.PE_STATUS_STATE 0).key ≠ (F.HPT_LINK_LTSSM 0).key := state_key_ne_port _ (by simp [hptLinkFields])
  exact (getF_setF_ne _ _ hport).trans ((getF_setF_ne _ _ hltssm).trans
    ((plotState_portClear _).trans (getF_congr ((cells_autoWait_cleared _ ps).trans hcloche) _)))

theorem exec_hotReset {s : State} (n : Fin 4) (hup : hostUp s n = true) (hidle : s.root.queue = []) :
    exec (.portReset n .hotReset) s = .next (portReset s n 10) := by
  change execPortReset n .hotReset s = _
  simp [execPortReset, portResetAsk, heldOr, downState, hup, hidle]

/-- Refutes O39: its clause on the five port resets says that a Serving plot is Resetting afterwards, for every state with `State.wf`; but neither `wf`
nor the clause bounds the number of the channel that a Ledger entry names. Where PP_CHAN_STATUS of that channel is the plot's own STATUS, the plot stands
Disabled once its reads have been retired; every channel that a plot has, 0 to 255, has a PP_CHAN_STATUS of its own. -/
theorem not_hostLinks : ¬ Obligations.HostLinks := by
  intro h
  obtain ⟨-, -, -, -, -, -, -, -, hreset, -⟩ := h
  have hup : hostUp farReadOut 0 = true := by decide +kernel
  obtain ⟨t, hexec, -, -, -, -, -, -, -, -, hplots⟩ := hreset farReadOut 0 .gardener (by decide +kernel) rfl (.portReset 0 .hotReset) (by simp) (by simp)
    (by simp) fun _ => hup
  obtain ⟨-, hresetting⟩ := hplots 0 (by decide)
  obtain rfl : portReset farReadOut 0 10 = t := Host.Outcome.next.inj ((exec_hotReset 0 hup rfl).symm.trans hexec)
  have hdisabled : plotState (portReset farReadOut 0 10) 0 = psDisabled :=
    (plotState_portReset _ _ fun _ => others_disabled).trans plotZeroStarted_disabled
  exact absurd ((hresetting (by decide +kernel)).symm.trans hdisabled) (by decide)

end Sys2Proof.Proofs.HostLinks
end

section
/-!
CLAIM. DOE objects (R285, R376, R398): what an object, an abort and a response leave of the buffer, of DOE_STATUS and of the port's DOE flags.
-/
namespace Sys2Proof.Proofs.DoeObjects
open Sys2Proof.Machine Sys2Proof.Proofs.Fields Sys2Proof.Proofs.Registers Sys2Proof.Proofs.CanonicalForm Sys2Proof.Proofs.Refusals
  Sys2Proof.Proofs.FaultLog

variable {s t : State} {n : Fin 4} {bs : List Byte}

/-! ### The source of a port's DOE (R416) -/

/-- A source that no core has active is pending once it is raised, a Level source too (R416). -/
theorem pending_raise_of_idle {src : Nat} (h : evgActive s src = false) : Pending (raise s src) src := by
  have hr : raise s src = setF s (F.EVG_PEND_PEND (src / 64)) (setBit (getF s (F.EVG_PEND_PEND (src / 64))) (src % 64)) := by simp [raise, h]
  unfold Pending
  rw [hr]
  exact (bitOf_setF _ (show src % 64 < 64 from Nat.mod_lt src (by decide))).trans (testBit_setBit_same _ _)

/-- DOE_STATUS of a port. -/
def doeFields (n : Fin 4) : List Fld := [F.DOE_STATUS_OBJECT_READY n, F.DOE_STATUS_ABORT n, F.DOE_STATUS_LENGTH n]

/-- DOE_STATUS is no register of a core. -/
theorem core_key_ne_doe : ∀ n : Fin 4, ∀ c < 4, ∀ f ∈ doeFields n, (F.EVG_CORE_ACTIVE c).key ≠ f.key ∧ (F.EVG_CORE_ACTIVE_SRC c).key ≠ f.key := by
  decide +kernel

/-- DOE_STATUS is no pending bit of a DOE source. -/
theorem doe_key_ne_pend : ∀ n : Fin 4, ∀ f ∈ doeFields n, f.key ≠ (F.EVG_PEND_PEND ((1156 + n) / 64)).key := by decide +kernel

theorem length_key_ne_ready : ∀ n : Fin 4, (F.DOE_STATUS_LENGTH n).key ≠ (F.DOE_STATUS_OBJECT_READY n).key := by decide +kernel

theorem key_ne_abort : ∀ n : Fin 4, ∀ f ∈ [F.DOE_STATUS_OBJECT_READY n, F.DOE_STATUS_LENGTH n], f.key ≠ (F.DOE_STATUS_ABORT n).key := by decide +kernel

/-- A change of DOE_STATUS leaves the sources active that were. -/
theorem evgActive_of_doeFields (h : FieldsBut s t (doeFields n)) (src : Nat) : evgActive t src = evgActive s src := by
  have hcore (c : Nat) (hc : c < 4) : bitF t (F.EVG_CORE_ACTIVE c) = bitF s (F.EVG_CORE_ACTIVE c) ∧
      getF t (F.EVG_CORE_ACTIVE_SRC c) = getF s (F.EVG_CORE_ACTIVE_SRC c) :=
    ⟨bitF_congr (h _ fun f hf => (core_key_ne_doe n c hc f hf).1), h _ fun f hf => (core_key_ne_doe n c hc f hf).2⟩
  rw [Bool.eq_iff_iff]
  simp only [evgActive, List.any_eq_true, List.mem_range]
  refine exists_congr fun c => and_congr_right fun hc => ?_
  obtain ⟨hactive, hsrc⟩ := hcore c hc
  rw [hactive, hsrc]

/-- The port's source is raised: it is pending, where no core has it active, and DOE_STATUS stays. -/
theorem doeRaised (h : FieldsBut s t (doeFields n)) :
    (evgActive s (1156 + n) = false → Pending (raise t (1156 + n)) (1156 + n)) ∧
      ∀ f ∈ doeFields n, getF (raise t (1156 + n)) f = getF t f :=
  ⟨fun ha => pending_raise_of_idle ((evgActive_of_doeFields h _).trans ha), fun f hf => getF_raise_ne t _ (doe_key_ne_pend n f hf)⟩

/-! ### The buffer -/

theorem mwf_mem_of_wf (h : s.wf = true) : mwf s.mem = true := by
  simp only [State.wf, Bool.and_eq_true] at h
  obtain ⟨-, hmem⟩ := h
  exact (memWf_iff.1 hmem).1

theorem memByte_congr (h : t.mem = s.mem) (a : Nat) : memByte t a = memByte s a := by simp [memByte, h]

/-- A buffer of k bytes that is cleared and then written from its start. -/
theorem memByte_refilled {lo k : Nat} (h : mwf s.mem = true) (hlen : bs.length ≤ k) :
    (∀ i, i < bs.length → memByte (memWrite (memClear s lo k) lo bs) (lo + i) = bs[i]?.getD 0) ∧
      (∀ i, bs.length ≤ i → i < k → memByte (memWrite (memClear s lo k) lo bs) (lo + i) = 0) ∧
      ∀ a, a < lo ∨ lo + k ≤ a → memByte (memWrite (memClear s lo k) lo bs) a = memByte s a := by
  have hclear : mwf (memClear s lo k).mem = true := mwf_filter _ h
  refine ⟨fun i hi => ?_, fun i hi hk => ?_, fun a ha => ?_⟩
  · rw [memByte_write_in lo hi hclear, List.getElem?_eq_getElem hi, Option.getD_some]
  · rw [memByte_write_out bs (by omega) hclear, memByte_clear_in (by omega) h]
  · rw [memByte_write_out bs (by omega) hclear, memByte_clear_out ha h]

/-! ### An object (R285, R376) -/

theorem exec_object (hup : hostUp s n = true) (hready : bitF s (F.HPT_LINK_READY n) = true) :
    exec (.doeObjectReceived n bs) s = .next (doeObject s n bs) := by
  change execDoeObjectReceived n bs s = _
  simp [execDoeObjectReceived, hup, hready]

/-- The port with the object in its buffer, before DOE_STATUS shows it. -/
def objectStored (s : State) (n : Fin 4) (bs : List Byte) : State :=
  modPort (memWrite (memClear s (doeBuf n) 4096) (doeBuf n) bs) n fun h => { h with doeReady := false }

/-- DOE_STATUS shows the object. -/
def objectShown (s : State) (n : Fin 4) (bs : List Byte) : State :=
  setF (setF (objectStored s n bs) (F.DOE_STATUS_LENGTH n) ((bs.length + 3) / 4)) (F.DOE_STATUS_OBJECT_READY n) 1

theorem doeObject_taken (hlen : bs.length ≤ 4096) (hfree : bitF s (F.DOE_STATUS_OBJECT_READY n) = false) (hfw : firmwareRuns s = true) :
    doeObject s n bs = raise (objectShown s n bs) (1156 + n) := by
  simp [doeObject, objectShown, objectStored, Nat.not_lt.2 hlen, hfree, hfw]

theorem objectStored_only (s : State) (n : Fin 4) (bs : List Byte) :
    objectStored s n bs = { s with ports := (objectStored s n bs).ports, mem := (objectStored s n bs).mem } := by
  obtain ⟨m, hm⟩ : ∃ m, memWrite (memClear s (doeBuf n) 4096) (doeBuf n) bs = { s with mem := m } := ⟨_, memWrite_only _ _ _⟩
  unfold objectStored
  rw [hm]
  rfl

theorem fieldsBut_objectShown (s : State) (n : Fin 4) (bs : List Byte) : FieldsBut s (objectShown s n bs) (doeFields n) := by
  have hstored : (objectStored s n bs).cells = s.cells := by rw [objectStored_only]
  exact fieldsBut_setF _ (by simp [doeFields]) (fieldsBut_setF _ (by simp [doeFields]) (fieldsBut_congr hstored (fieldsBut_refl s _)))

/-- R285, R376: firmware gets the object. -/
theorem object_taken_runs (s : State) (n : Fin 4) (bs : List Byte) (hwf : s.wf = true) (hup : hostUp s n = true)
    (hready : bitF s (F.HPT_LINK_READY n) = true) (hlen : bs.length ≤ 4096) (hfree : bitF s (F.DOE_STATUS_OBJECT_READY n) = false)
    (hfw : firmwareRuns s = true) :
    Runs (.doeObjectReceived n bs) s fun t =>
      (∀ i, i < bs.length → memByte t (doeBuf n + i) = bs[i]?.getD 0) ∧ (∀ i, bs.length ≤ i → i < 4096 → memByte t (doeBuf n + i) = 0) ∧
      (∀ a, a < doeBuf n ∨ doeBuf n + 4096 ≤ a → memByte t a = memByte s a) ∧ getF t (F.DOE_STATUS_LENGTH n) = (bs.length + 3) / 4 ∧
      bitF t (F.DOE_STATUS_OBJECT_READY n) = true ∧ (evgActive s (1156 + n) = false → Pending t (1156 + n)) ∧
      t = { s with cells := t.cells, ports := t.ports, mem := t.mem } := by
  obtain ⟨hpend, hkept⟩ := doeRaised (fieldsBut_objectShown s n bs)
  obtain ⟨hin, hrest, hout⟩ := memByte_refilled (lo := doeBuf n) (mwf_mem_of_wf hwf) hlen
  have hmem : (raise (objectShown s n bs) (1156 + n)).mem = (memWrite (memClear s (doeBuf n) 4096) (doeBuf n) bs).mem := by
    rw [raise_mem]
    rfl
  refine ⟨_, (exec_object hup hready).trans (congrArg _ (doeObject_taken hlen hfree hfw)), fun i hi => ?_, fun i hi hk => ?_, fun a ha => ?_, ?_, ?_,
    hpend, ?_⟩
  · rw [memByte_congr hmem, hin i hi]
  · rw [memByte_congr hmem, hrest i hi hk]
  · rw [memByte_congr hmem, hout a ha]
  · rw [hkept _ (by simp [doeFields]), objectShown, getF_setF_ne _ _ (length_key_ne_ready n), getF_setF_same]
    exact Nat.mod_eq_of_lt (show (bs.length + 3) / 4 < 2048 by omega)
  · exact (bitF_congr (hkept _ (by simp [doeFields]))).trans (bitF_setF_one _ rfl)
  · rw [raise_only]
    obtain ⟨ps, m, hstored⟩ : ∃ ps m, objectStored s n bs = { s with ports := ps, mem := m } := ⟨_, _, objectStored_only s n bs⟩
    unfold objectShown
    rw [hstored]
    rfl

/-! ### DOE Error and DOE Discovery (R285) -/

/-- DOE Error is set, which the host is shown. -/
theorem doeFail_failed (h : mwf s.ports = true) : (portOf (doeFail s n) n).doeError = true ∧
    doeFail s n = { s with ports := (doeFail s n).ports, out := .doeError n :: s.out } :=
  ⟨congrArg HostPort.doeError (portOf_modPort_same (s := s) n (fun h => { h with doeError := true }) h), rfl⟩

/-- The port answers an object. -/
def doeAnswered (s : State) (n : Fin 4) (answer : List Byte) : State := emit (modPort s n fun h => { h with doeReady := true }) (.doe n answer)

theorem doeAnswered_ready {answer : List Byte} (h : mwf s.ports = true) : (portOf (doeAnswered s n answer) n).doeReady = true :=
  congrArg HostPort.doeReady (portOf_modPort_same (s := s) n (fun h => { h with doeReady := true }) h)

/-- R285: an object that is too long, in the way of another, or no Discovery while no firmware runs. -/
theorem object_refused_runs (s : State) (n : Fin 4) (bs : List Byte) (hwf : s.wf = true) (hup : hostUp s n = true)
    (hready : bitF s (F.HPT_LINK_READY n) = true)
    (hbad : 4096 < bs.length ∨ bitF s (F.DOE_STATUS_OBJECT_READY n) = true ∨ (firmwareRuns s = false ∧ doeDiscovery bs = false)) :
    Runs (.doeObjectReceived n bs) s fun t =>
      (portOf t n).doeError = true ∧ t = { s with ports := t.ports, out := .doeError n :: s.out } := by
  have hfail : doeObject s n bs = doeFail s n := by
    rcases hbad with hlong | hbusy | ⟨hfw, hdiscovery⟩
    · simp [doeObject, hlong]
    · simp [doeObject, hbusy]
    · simp [doeObject, hfw, hdiscovery]
  exact ⟨_, (exec_object hup hready).trans (congrArg _ hfail), doeFail_failed (mwf_ports_of_wf hwf)⟩

/-- R285: while no firmware runs the port answers a Discovery itself. -/
theorem discovery_runs (s : State) (n : Fin 4) (bs : List Byte) (hwf : s.wf = true) (hup : hostUp s n = true)
    (hready : bitF s (F.HPT_LINK_READY n) = true) (hlen : bs.length ≤ 4096) (hfree : bitF s (F.DOE_STATUS_OBJECT_READY n) = false)
    (hfw : firmwareRuns s = false) (hdiscovery : doeDiscovery bs = true) :
    Runs (.doeObjectReceived n bs) s fun t =>
      (portOf t n).doeReady = true ∧ t.out = .doe n (doeTypes (leNat ((bs.drop 8).take 1))) :: s.out ∧ t = { s with ports := t.ports, out := t.out } := by
  have hanswer : doeObject s n bs = doeAnswered s n (doeTypes (leNat ((bs.drop 8).take 1))) := by
    simp [doeObject, doeAnswered, Nat.not_lt.2 hlen, hfree, hfw, hdiscovery]
  exact ⟨_, (exec_object hup hready).trans (congrArg _ hanswer), doeAnswered_ready (mwf_ports_of_wf hwf), rfl, rfl⟩

/-! ### An abort (R398) -/

/-- The port with nothing in its buffer and no DOE flag, before DOE_STATUS shows it. -/
def objectDropped (s : State) (n : Fin 4) : State :=
  modPort (memClear s (doeBuf n) 4096) n fun h => { h with doeError := false, doeReady := false }

/-- DOE_STATUS shows the abort. -/
def abortShown (s : State) (n : Fin 4) : State :=
  setF (setF (setF (objectDropped s n) (F.DOE_STATUS_LENGTH n) 0) (F.DOE_STATUS_OBJECT_READY n) 0) (F.DOE_STATUS_ABORT n) 1

theorem exec_abort (hup : hostUp s n = true) (hready : bitF s (F.HPT_LINK_READY n) = true) :
    exec (.doeAbort n) s = .next (raise (abortShown s n) (1156 + n)) := by
  change execDoeAbort n s = _
  simp [execDoeAbort, abortShown, objectDropped, hup, hready]

theorem fieldsBut_abortShown (s : State) (n : Fin 4) : FieldsBut s (abortShown s n) (doeFields n) :=
  fieldsBut_setF _ (by simp [doeFields]) (fieldsBut_setF _ (by simp [doeFields]) (fieldsBut_setF _ (by simp [doeFields])
    (fieldsBut_congr (t := s) rfl (fieldsBut_refl s _))))

/-- R398: the object ends, and the buffer is clear. -/
theorem abort_runs (s : State) (n : Fin 4) (hwf : s.wf = true) (hup : hostUp s n = true) (hready : bitF s (F.HPT_LINK_READY n) = true) :
    Runs (.doeAbort n) s fun t =>
      (evgActive s (1156 + n) = false → Pending t (1156 + n)) ∧ bitF t (F.DOE_STATUS_OBJECT_READY n) = false ∧ bitF t (F.DOE_STATUS_ABORT n) = true ∧
      getF t (F.DOE_STATUS_LENGTH n) = 0 ∧ (∀ i < 4096, memByte t (doeBuf n + i) = 0) ∧
      (∀ a, a < doeBuf n ∨ doeBuf n + 4096 ≤ a → memByte t a = memByte s a) ∧ (portOf t n).doeError = false ∧ (portOf t n).doeReady = false ∧
      t = { s with cells := t.cells, ports := t.ports, mem := t.mem } := by
  obtain ⟨hpend, hkept⟩ := doeRaised (fieldsBut_abortShown s n)
  have hbytes := mwf_mem_of_wf hwf
  have hports : mwf s.ports = true := mwf_ports_of_wf hwf
  have hmem : (raise (abortShown s n) (1156 + n)).mem = (memClear s (doeBuf n) 4096).mem := raise_mem _ _
  have hport : portOf (raise (abortShown s n) (1156 + n)) n = { portOf s n with doeError := false, doeReady := false } :=
    (portOf_congr (raise_ports _ _) n).trans
      (portOf_modPort_same (s := memClear s (doeBuf n) 4096) n (fun h => { h with doeError := false, doeReady := false }) hports)
  refine ⟨_, exec_abort hup hready, hpend, ?_, ?_, ?_, fun i hi => ?_, fun a ha => ?_, ?_, ?_, ?_⟩
  · exact (bitF_congr (hkept _ (by simp [doeFields]))).trans ((bitF_setF_ne _ _ (key_ne_abort n _ (by simp))).trans (bitF_setF_zero _))
  · exact (bitF_congr (hkept _ (by simp [doeFields]))).trans (bitF_setF_one _ rfl)
  · rw [hkept _ (by simp [doeFields]), abortShown, getF_setF_ne _ _ (key_ne_abort n _ (by simp)), getF_setF_ne _ _ (length_key_ne_ready n),
      getF_setF_same, Nat.zero_mod]
  · rw [memByte_congr hmem, memByte_clear_in (by omega) hbytes]
  · rw [memByte_congr hmem, memByte_clear_out ha hbytes]
  · rw [hport]
  · rw [hport]
  · rw [raise_only]
    rfl

/-! ### A response (R398) -/

/-- R398: the response goes out from the buffer at its length, or as a DOE Error. -/
theorem response_runs (s : State) (n : Fin 4) (v : Word) (hwf : s.wf = true) (hbusy : bitF s (F.DOE_STATUS_OBJECT_READY n) = true) :
    Runs (.doeResponseReady n v) s fun t =>
      bitF t (F.DOE_STATUS_OBJECT_READY n) = false ∧
      (bitOf v.toNat 63 = false → (portOf t n).doeReady = true ∧ t.out = .doe n (memRead s (doeBuf n) (4 * min (bits v.toNat 0 11) 1024)) :: s.out) ∧
      (bitOf v.toNat 63 = true → (portOf t n).doeError = true ∧ t.out = .doeError n :: s.out) ∧
      t = { s with cells := t.cells, ports := t.ports, out := t.out } ∧ FieldsBut s t [F.DOE_STATUS_OBJECT_READY n] := by
  let u := setF s (F.DOE_STATUS_OBJECT_READY n) 0
  have hports : mwf u.ports = true := mwf_ports_of_wf (s := s) hwf
  have hfields : FieldsBut s u [F.DOE_STATUS_OBJECT_READY n] := fieldsBut_setF _ (by simp) (fieldsBut_refl s _)
  cases hbit : bitOf v.toNat 63 with
  | true =>
    have hexec : exec (.doeResponseReady n v) s = .next (doeFail u n) := by
      change Host.Outcome.next (doeResponse s n v.toNat) = _
      simp [doeResponse, hbusy, hbit, u]
    exact ⟨_, hexec, bitF_setF_zero s, by simp, fun _ => ⟨(doeFail_failed hports).1, rfl⟩, rfl, hfields⟩
  | false =>
    have hexec : exec (.doeResponseReady n v) s = .next (doeAnswered u n (memRead s (doeBuf n) (4 * min (bits v.toNat 0 11) 1024))) := by
      change Host.Outcome.next (doeResponse s n v.toNat) = _
      simp only [doeResponse, hbusy, hbit, Bool.not_true, Bool.false_eq_true, if_false]
      rfl
    exact ⟨_, hexec, bitF_setF_zero s, fun _ => ⟨doeAnswered_ready hports, rfl⟩, by simp, rfl, hfields⟩

/-- R398: with no object in progress a response is ignored. -/
theorem response_leaves (s : State) (n : Fin 4) (v : Word) (hfree : bitF s (F.DOE_STATUS_OBJECT_READY n) = false) : Leaves (.doeResponseReady n v) s := by
  change Host.Outcome.next (doeResponse s n v.toNat) = _
  simp [doeResponse, hfree]

/-- R285: a port that is down, or not ready, takes neither. -/
theorem closed_leaves (s : State) (n : Fin 4) (bs : List Byte) (h : hostUp s n = false ∨ bitF s (F.HPT_LINK_READY n) = false) :
    Leaves (.doeObjectReceived n bs) s ∧ Leaves (.doeAbort n) s := by
  have hclosed : (hostUp s n && bitF s (F.HPT_LINK_READY n)) = false := Bool.and_eq_false_iff.2 h
  refine ⟨?_, ?_⟩
  · change execDoeObjectReceived n bs s = _
    simp [execDoeObjectReceived, hclosed]
  · change execDoeAbort n s = _
    simp [execDoeAbort, hclosed]

/-- Settles O40: each clause is the rule of an object, an abort or a response above. -/
theorem doeObjects : Obligations.DoeObjects :=
  ⟨object_taken_runs, object_refused_runs, discovery_runs, abort_runs, response_runs, response_leaves, closed_leaves⟩

end Sys2Proof.Proofs.DoeObjects
end

section
/-!
SUPPORT. A Calfos port beside its registers: what a change of it leaves, and which operations leave it and the registers of its physical layer (chapter 11)
alone.
-/
namespace Sys2Proof.Proofs.CalfosLinks
open Sys2Proof.Machine Sys2Proof.Proofs.Fields

variable {s t u : State} {f : Fin 8}

/-! ### The port's own state -/

theorem mwf_links_of_wf (h : s.wf = true) : mwf s.links = true := by
  simp only [State.wf, Bool.and_eq_true] at h
  obtain ⟨⟨⟨⟨⟨⟨⟨⟨-, hlinks⟩, -⟩, -⟩, -⟩, -⟩, -⟩, -⟩, -⟩ := h
  exact hlinks

theorem linkOf_congr (h : t.links = s.links) (n : Nat) : linkOf t n = linkOf s n := by simp [linkOf, h]

theorem linkOf_setLink_same (h : mwf s.links = true) (n : Nat) (l : Link) : linkOf (setLink s n l) n = l := mget_mset_same n l {} h

theorem linkOf_setLink_ne (h : mwf s.links = true) {n m : Nat} (l : Link) (hm : m ≠ n) : linkOf (setLink s n l) m = linkOf s m :=
  mget_mset_ne l {} hm h

theorem mwf_setLink (h : mwf s.links = true) (n : Nat) (l : Link) : mwf (setLink s n l).links = true := mwf_mset n l {} h

theorem linkOf_modLink_same (h : mwf s.links = true) (n : Nat) (c : Link → Link) : linkOf (modLink s n c) n = c (linkOf s n) :=
  linkOf_setLink_same h n _

theorem linkOf_modLink_ne (h : mwf s.links = true) {n m : Nat} (c : Link → Link) (hm : m ≠ n) : linkOf (modLink s n c) m = linkOf s m :=
  linkOf_setLink_ne h _ hm

theorem mwf_modLink (h : mwf s.links = true) (n : Nat) (c : Link → Link) : mwf (modLink s n c).links = true := mwf_setLink h n _

@[simp] theorem linkOf_setF (x : Fld) (v n : Nat) : linkOf (setF s x v) n = linkOf s n := rfl
@[simp] theorem linkOf_emit (e : Emit) (n : Nat) : linkOf (emit s e) n = linkOf s n := rfl
@[simp] theorem modLink_out (n : Nat) (c : Link → Link) : (modLink s n c).out = s.out := rfl
@[simp] theorem getF_modLink (n : Nat) (c : Link → Link) (x : Fld) : getF (modLink s n c) x = getF s x := rfl
@[simp] theorem bitF_modLink (n : Nat) (c : Link → Link) (x : Fld) : bitF (modLink s n c) x = bitF s x := rfl

/-- Nothing but registers and the ports has changed. -/
def OnlyPort (s t : State) : Prop := t = { s with cells := t.cells, links := t.links }

theorem OnlyPort.trans (h : OnlyPort s t) (h' : OnlyPort t u) : OnlyPort s u := by
  unfold OnlyPort at *
  rw [h', h]

theorem OnlyPort.out (h : OnlyPort s t) : t.out = s.out := by rw [h]

/-- An output is added. -/
theorem OnlyPort.emit (h : OnlyPort s t) (e : Emit) :
    emit t e = { s with cells := (emit t e).cells, links := (emit t e).links, out := (emit t e).out } := by
  have hout : (Machine.emit t e).out = e :: s.out := congrArg (e :: ·) h.out
  unfold OnlyPort at h
  rw [hout]
  conv_lhs => rw [h]
  rfl

theorem onlyPort_of_cells (h : OnlyCells s t) : OnlyPort s t := by
  unfold OnlyCells at h
  unfold OnlyPort
  rw [h]

theorem onlyPort_setLink (s : State) (n : Nat) (l : Link) : OnlyPort s (setLink s n l) := rfl

theorem onlyPort_modLink (s : State) (n : Nat) (c : Link → Link) : OnlyPort s (modLink s n c) := rfl

/-! ### The registers of a port's physical layer (R511) -/

/-- A field of port f's physical layer: its block is the first half of the port's 64 KiB. -/
def Phy (f : Fin 8) (g : Fld) : Prop := 0x200000 + f * 0x10000 ≤ g.addr ∧ g.addr < 0x208000 + f * 0x10000 ∧ g.lo < 64

theorem phy_status {lo w r : Nat} (h : lo < 64) : Phy f ⟨A.CFP_STATUS f, lo, w, r⟩ := by
  dsimp only [Phy, A.CFP_STATUS]
  exact ⟨by omega, by omega, h⟩

theorem phy_event {lo w r : Nat} (h : lo < 64) : Phy f ⟨A.CFP_EVENT f, lo, w, r⟩ := by
  dsimp only [Phy, A.CFP_EVENT]
  exact ⟨by omega, by omega, h⟩

/-- A field of another block: one below the ports, or one of a link layer. -/
def Elsewhere (f : Fin 8) (x : Fld) : Prop := x.lo < 64 ∧ (x.addr < 0x200000 ∨ 0x208000 + f * 0x10000 ≤ x.addr)

theorem elsewhere_below {x : Fld} (hlo : x.lo < 64) (h : x.addr < 0x200000) : Elsewhere f x := ⟨hlo, .inl h⟩

theorem elsewhere_linkStatus {lo w r : Nat} (h : lo < 64) : Elsewhere f ⟨A.CFK_STATUS f, lo, w, r⟩ :=
  ⟨h, .inr (by dsimp only [A.CFK_STATUS]; omega)⟩

theorem elsewhere_linkEvent {lo w r : Nat} (h : lo < 64) : Elsewhere f ⟨A.CFK_EVENT f, lo, w, r⟩ :=
  ⟨h, .inr (by dsimp only [A.CFK_EVENT]; omega)⟩

theorem elsewhere_linkCount {lo w r : Nat} (h : lo < 64) : Elsewhere f ⟨A.CFK_COUNT f, lo, w, r⟩ :=
  ⟨h, .inr (by dsimp only [A.CFK_COUNT]; omega)⟩

theorem elsewhere_credit {lo w r : Nat} (c : Nat) (h : lo < 64) : Elsewhere f ⟨A.CFK_CREDIT f c, lo, w, r⟩ :=
  ⟨h, .inr (by dsimp only [A.CFK_CREDIT]; omega)⟩

theorem phy_key_ne {g x : Fld} (hg : Phy f g) (hx : Elsewhere f x) : g.key ≠ x.key := by
  obtain ⟨hge, hlt, hg⟩ := hg
  obtain ⟨hx, haddr⟩ := hx
  unfold Fld.key
  omega

theorem phy_key_ne_pend {g : Fld} (hg : Phy f g) {n : Nat} (hn : n < 2048) : g.key ≠ (F.EVG_PEND_PEND (n / 64)).key :=
  phy_key_ne hg (elsewhere_below (by decide : 0 < 64) (by dsimp only [F.EVG_PEND_PEND, A.EVG_PEND]; omega))

/-! ### What leaves the port and its physical layer alone -/

/-- Neither the ports beside their registers, nor the physical layer of port f, nor what has gone out has changed. -/
structure Aside (s t : State) (f : Fin 8) : Prop where
  links : t.links = s.links
  out : t.out = s.out
  phy : ∀ g, Phy f g → getF t g = getF s g

theorem Aside.refl (s : State) (f : Fin 8) : Aside s s f := ⟨rfl, rfl, fun _ _ => rfl⟩

theorem Aside.trans (h : Aside s t f) (h' : Aside t u f) : Aside s u f :=
  ⟨h'.links.trans h.links, h'.out.trans h.out, fun g hg => (h'.phy g hg).trans (h.phy g hg)⟩

theorem aside_foldl {α : Type} {act : State → α → State} (h : ∀ v a, Aside v (act v a) f) (l : List α) (s : State) : Aside s (l.foldl act s) f := by
  induction l generalizing s with
  | nil => exact Aside.refl s f
  | cons a l ih => exact (h s a).trans (ih _)

theorem aside_setF {x : Fld} (s : State) (v : Nat) (hx : Elsewhere f x) : Aside s (setF s x v) f :=
  ⟨rfl, rfl, fun _ hg => getF_setF_ne s v (phy_key_ne hg hx)⟩

theorem aside_setEv {x : Fld} {n : Nat} (s : State) (hn : n < 2048) (hx : Elsewhere f x) : Aside s (setEv s x n) f :=
  ⟨setEv_links s x n, setEv_out s x n, fun _ hg => getF_setEv_ne s n (phy_key_ne hg hx) (phy_key_ne_pend hg hn)⟩

theorem aside_cfkEvent {e : Nat → Fld} (s : State) (he : Elsewhere f (e f)) : Aside s (cfkEvent s f e) f := aside_setEv s (by omega) he

theorem aside_showReplay (s : State) : Aside s (showReplay s f) f :=
  (aside_setF s _ (elsewhere_linkStatus (by decide))).trans (aside_setF _ _ (elsewhere_linkStatus (by decide)))

theorem aside_showCredit (s : State) (c : Nat) : Aside s (showCredit s f c) f := aside_setF s _ (elsewhere_credit c (by decide))

/-- A change of the usable ports tells the Ledgers, and is an event of Trellis (R112). -/
theorem aside_usableChanged (s : State) : Aside s (usableChanged s f) f := by
  unfold usableChanged
  dsimp only
  split_ifs
  · exact Aside.refl s f
  · have hevent : Aside s (setEv s F.TRL_EVENT_FAILOVER 1240) f := aside_setEv s (by decide) (elsewhere_below (by decide) (by decide))
    refine hevent.trans (aside_foldl (fun _ _ => ?_) _ _)
    exact ⟨rfl, rfl, fun _ _ => rfl⟩

theorem aside_withUsable (s : State) (act : State → State) : Aside (act s) (withUsable s f act) f := by
  unfold withUsable
  dsimp only
  split_ifs
  · exact Aside.refl _ f
  · exact aside_usableChanged _

/-- A margin run that ends is reported in the registers of the test block (R497). -/
theorem aside_marginAbort (s : State) : Aside s (marginAbort s f) f := by
  have htest {x : Fld} (u : State) (v : Nat) (hlo : x.lo < 64) (hx : x.addr < 0x200000) : Aside u (setF u x v) f := aside_setF u v (elsewhere_below hlo hx)
  have hended (u : State) (x : Test) : Aside u { u with test := x } f := ⟨rfl, rfl, fun _ _ => rfl⟩
  unfold marginAbort
  dsimp only
  split_ifs
  · exact ((((htest s 0 (by decide) (by decide)).trans (htest _ 0 (by decide) (by decide))).trans (htest _ 1 (by decide) (by decide))).trans
      (hended _ _)).trans (aside_setEv _ (by decide) (elsewhere_below (by decide) (by decide)))
  · exact Aside.refl s f

/-! ### A state of the port (R311) -/

/-- A port that takes a state changes STATE of its physical layer alone. -/
theorem links_cfpEnter (s : State) (st : Nat) : (cfpEnter s f st).links = s.links := by
  unfold cfpEnter
  dsimp only [setF_links]
  split_ifs
  · rfl
  · exact (aside_marginAbort s).links

theorem out_cfpEnter (s : State) (st : Nat) : (cfpEnter s f st).out = s.out := by
  unfold cfpEnter
  dsimp only [setF_out]
  split_ifs
  · rfl
  · exact (aside_marginAbort s).out

theorem cfpState_cfpEnter (s : State) (st : Nat) : cfpState (cfpEnter s f st) f = st % 8 := getF_setF_same _ _ _

/-- An event of the physical layer changes its bit there alone (R325). -/
theorem getF_cfpEvent {g : Fld} (s : State) (e : Nat → Fld) (hg : Phy f g) (hkey : g.key ≠ (e f).key) : getF (cfpEvent s f e) g = getF s g :=
  getF_setEv_ne s _ hkey (phy_key_ne_pend hg (by omega))

theorem bitF_cfpEvent (s : State) (e : Nat → Fld) (hw : (e f).w = 1) (he : Phy f (e f)) : bitF (cfpEvent s f e) (e f) = true :=
  bitF_setEv s _ hw (phy_key_ne_pend he (by omega))

theorem links_cfpEvent (s : State) (e : Nat → Fld) : (cfpEvent s f e).links = s.links := setEv_links _ _ _

theorem out_cfpEvent (s : State) (e : Nat → Fld) : (cfpEvent s f e).out = s.out := setEv_out _ _ _

end Sys2Proof.Proofs.CalfosLinks
end

section
/-!
SUPPORT. What a Calfos port sends (R296, R330): the flits of its link layer, and the frames and markers that carry them.
-/
namespace Sys2Proof.Proofs.CalfosSends
open Sys2Proof.Machine Sys2Proof.Proofs.Fields Sys2Proof.Proofs.CalfosLinks

variable {s t u : State} {f : Fin 8} {xs ys : List (Nat × List Byte × List Byte)}

/-- Port f has sent frames, each given by its code and its flits, the newest first; which code its next frames carry, and the registers of its physical layer,
are as before. -/
structure Sends (s t : State) (f : Fin 8) (xs : List (Nat × List Byte × List Byte)) : Prop where
  links : mwf t.links = true
  code : (linkOf t f).pctl = (linkOf s f).pctl
  left : (linkOf t f).pctlLeft = (linkOf s f).pctlLeft
  phy : ∀ g, Phy f g → getF t g = getF s g
  out : ∃ l, t.out = l ++ s.out ∧ l.filterMap (frameIn f) = xs

theorem Sends.refl (h : mwf s.links = true) : Sends s s f [] := ⟨h, rfl, rfl, fun _ _ => rfl, [], rfl, rfl⟩

theorem Sends.trans (h : Sends s t f xs) (h' : Sends t u f ys) : Sends s u f (ys ++ xs) := by
  obtain ⟨l, hl, hxs⟩ := h.out
  obtain ⟨l', hl', hys⟩ := h'.out
  exact ⟨h'.links, h'.code.trans h.code, h'.left.trans h.left, fun g hg => (h'.phy g hg).trans (h.phy g hg), l' ++ l, by simp [hl, hl'], by
    rw [List.filterMap_append, hxs, hys]⟩

/-- Nothing more has been sent. -/
theorem Sends.andThen (h : Sends s t f xs) (h' : Sends t u f []) : Sends s u f xs := h.trans h'

theorem Aside.sends (h : Aside s t f) (hlinks : mwf s.links = true) : Sends s t f [] :=
  ⟨h.links ▸ hlinks, congrArg Link.pctl (linkOf_congr h.links f), congrArg Link.pctlLeft (linkOf_congr h.links f), h.phy, [], h.out, rfl⟩

theorem Sends.aside (h : Sends s t f xs) (h' : Aside t u f) : Sends s u f xs := h.andThen (Aside.sends h' h.links)

/-- A change of the port that leaves the code and its count. -/
theorem Sends.modLink (h : Sends s t f xs) (c : Link → Link) (hcode : ∀ l, (c l).pctl = l.pctl) (hleft : ∀ l, (c l).pctlLeft = l.pctlLeft) :
    Sends s (modLink t f c) f xs :=
  h.andThen ⟨mwf_modLink h.links f c, (congrArg Link.pctl (linkOf_modLink_same h.links f c)).trans (hcode _),
    (congrArg Link.pctlLeft (linkOf_modLink_same h.links f c)).trans (hleft _), fun _ _ => rfl, [], rfl, rfl⟩

theorem Sends.modClass (h : Sends s t f xs) (c : Nat) (g : LinkClass → LinkClass) : Sends s (modClass t f c g) f xs :=
  h.modLink _ (fun _ => rfl) fun _ => rfl

/-! ### Flits (R330, R335) -/

theorem Sends.flitSend (h : Sends s t f xs) (ftype cls seq : Nat) (body : List Nat) : Sends s (flitSend t f ftype cls seq body).1 f xs := by
  unfold Machine.flitSend
  dsimp only
  exact (h.modClass _ _).modLink _ (fun _ => rfl) fun _ => rfl

theorem Sends.idleSend (h : Sends s t f xs) : Sends s (idleSend t f).1 f xs := h.flitSend 0 0 _ _

theorem Sends.linkBecomesUp (h : Sends s t f xs) : Sends s (linkBecomesUp t f) f xs :=
  have hup : Aside t (cfkEvent (setF t (F.CFK_STATUS_LINK f) 2) f F.CFK_EVENT_UP) f :=
    (aside_setF t 2 (elsewhere_linkStatus (by decide))).trans (aside_cfkEvent _ (elsewhere_linkEvent (by decide)))
  h.aside (hup.trans (aside_withUsable t fun s => cfkEvent (setF s (F.CFK_STATUS_LINK f) 2) f F.CFK_EVENT_UP))

theorem Sends.initSend (h : Sends s t f xs) : Sends s (initSend t f).1 f xs := by
  have hflit := h.flitSend 2 0 0 (initValue t f % 2 ^ 128 :: initValue t f / 2 ^ 128 :: List.replicate 13 0)
  unfold Machine.initSend
  dsimp only
  split_ifs
  · exact hflit.linkBecomesUp
  · exact hflit

theorem sends_setInbox (h : mwf t.links = true) (e c : Nat) (l : List QTxn) : Sends t (setInbox t e c l) f [] :=
  ⟨h, rfl, rfl, fun _ _ => rfl, [], rfl, rfl⟩

theorem Sends.slotTake (h : Sends s t f xs) {c : Nat} {x : Nat × Bool} (hu : slotTake t f c = some (u, x)) : Sends s u f xs := by
  unfold Machine.slotTake at hu
  dsimp only at hu
  split at hu
  · obtain ⟨rfl, -⟩ := Prod.mk.inj (Option.some.inj hu)
    exact h.modClass _ _
  · unfold inboxPop at hu
    split at hu
    · cases hu
    · rename_i hpop
      split at hpop
      · cases hpop
      · obtain ⟨rfl, -⟩ := Prod.mk.inj (Option.some.inj hpop)
        split at hu
        · cases hu
        · obtain ⟨rfl, -⟩ := Prod.mk.inj (Option.some.inj hu)
          exact (h.andThen (sends_setInbox h.links _ _ _)).modClass _ _

theorem Sends.bodyFill (h : Sends s t f xs) (c n : Nat) : Sends s (bodyFill t f c n).1 f xs := by
  induction n generalizing t with
  | zero => exact h
  | succ n ih =>
    unfold Machine.bodyFill
    split
    · exact h
    · rename_i hslot
      exact ih (h.slotTake hslot)

theorem Sends.dataSend (h : Sends s t f xs) (c : Nat) : Sends s (dataSend t f c).1 f xs := by
  unfold Machine.dataSend
  have hfill := h.bodyFill c 15
  rcases hbody : Machine.bodyFill t f c 15 with ⟨v, slots⟩
  rw [hbody] at hfill
  dsimp only
  refine Sends.aside (Sends.aside ?_ (aside_showCredit _ c)) (aside_showReplay _)
  refine Sends.modLink ?_ _ (fun _ => rfl) fun _ => rfl
  exact (hfill.flitSend _ _ _ _).modClass _ _

theorem Sends.replaySend (h : Sends s t f xs) (seq : Nat) (rest : List Nat) : Sends s (replaySend t f seq rest).1 f xs := by
  unfold Machine.replaySend
  dsimp only
  split
  · refine Sends.idleSend (Sends.aside ?_ (aside_showReplay _))
    exact h.modLink (fun l => { l with resend := rest }) (fun _ => rfl) fun _ => rfl
  · refine Sends.aside ?_ (aside_showReplay _)
    refine Sends.modLink ?_ _ (fun _ => rfl) fun _ => rfl
    exact h.flitSend _ _ _ _

theorem Sends.flitNext (h : Sends s t f xs) (first : Bool) : Sends s (flitNext t f first).1 f xs := by
  unfold Machine.flitNext
  dsimp only
  split_ifs
  · exact h.initSend
  · exact h.idleSend
  · cases (linkOf t f).resend with
    | cons q qs => exact h.replaySend q qs
    | nil =>
      cases classPick t f with
      | none => exact h.idleSend
      | some c => exact h.dataSend c
  · cases (linkOf t f).resend with
    | cons q qs => exact h.replaySend q qs
    | nil => cases classPick t f <;> exact h.idleSend

/-! ### Frames (R296, R301) -/

theorem Sends.lanesSend (h : Sends s t f xs) (ls : List (List Nat)) : Sends s (lanesSend t f ls).1 f xs := by
  unfold Machine.lanesSend
  dsimp only
  exact h.modLink (fun l => { l with txPre := _ }) (fun _ => rfl) fun _ => rfl

/-- An output that is no frame of the port. -/
theorem Sends.emit (h : Sends s t f xs) {e : Emit} (he : frameIn f e = none) : Sends s (emit t e) f xs :=
  h.andThen ⟨h.links, rfl, rfl, fun _ _ => rfl, [e], rfl, by simp [he]⟩

theorem Sends.markerSend (h : Sends s t f xs) : Sends s (markerSend t f) f xs := by
  unfold Machine.markerSend
  dsimp only
  split_ifs
  · exact h
  · have hlanes := h.lanesSend ((List.range 8).map fun i => markerLevels (markerValue i (getF t (F.CFP_STATUS_RATE f)) (linkOf t f).txMarks
      (bitF t (F.CFP_STATUS_PRECODE_TX f)) ((linkOf t f).txPos == 0)))
    exact (hlanes.modLink (fun l => { l with txMarks := (l.txMarks + 1) % 2 ^ 32 }) (fun _ => rfl) fun _ => rfl).emit rfl

theorem Sends.emitFrame (h : Sends s t f xs) (code : Nat) (a b : List Byte) (ls : List (List Nat)) :
    Sends s (Machine.emit t (.calfosFrame f code a b ls)) f ((code, a, b) :: xs) :=
  h.trans (ys := [(code, a, b)]) ⟨h.links, rfl, rfl, fun _ _ => rfl, [_], rfl, by simp [frameIn]⟩

/-- A frame on the line, after the markers that are due. -/
theorem Sends.wireFrame (h : Sends s t f xs) (code : Nat) (a b : List Byte) : Sends s (wireFrame t f code a b) f ((code, a, b) :: xs) := by
  unfold Machine.wireFrame
  dsimp only
  refine Sends.emitFrame ?_ code a b _
  refine Sends.modLink ?_ _ (fun _ => rfl) fun _ => rfl
  exact h.markerSend.lanesSend _

/-- A frame of two IDLE flits. -/
def idleFrame (s : State) (f code : Nat) : State :=
  wireFrame (idleSend (idleSend s f).1 f).1 f code (idleSend s f).2 (idleSend (idleSend s f).1 f).2

theorem ctlFrames_succ (s : State) (f code n : Nat) : ctlFrames s f code (n + 1) = ctlFrames (idleFrame s f code) f code n := by
  conv_lhs => unfold ctlFrames
  unfold idleFrame
  rcases idleSend s f with ⟨u, a⟩
  rfl

theorem Sends.idleFrame (h : Sends s t f xs) (code : Nat) : ∃ a b, Sends s (idleFrame t f code) f ((code, a, b) :: xs) :=
  ⟨_, _, h.idleSend.idleSend.wireFrame code _ _⟩

/-- Frames of IDLE flits carry the code that is asked for. -/
theorem Sends.ctlFrames (h : Sends s t f xs) (code n : Nat) :
    ∃ ys, Sends s (ctlFrames t f code n) f (ys ++ xs) ∧ ys.map Prod.fst = List.replicate n code := by
  induction n generalizing t xs with
  | zero => exact ⟨[], h, rfl⟩
  | succ n ih =>
    obtain ⟨a, b, hframe⟩ := h.idleFrame code
    obtain ⟨ys, hys, hcodes⟩ := ih hframe
    refine ⟨ys ++ [(code, a, b)], ?_, ?_⟩
    · simpa only [ctlFrames_succ, List.append_assoc, List.singleton_append] using hys
    · simp only [List.map_append, hcodes, List.map_cons, List.map_nil, List.replicate_succ']

end Sys2Proof.Proofs.CalfosSends
end

section
/-!
SUPPORT. How a Calfos port changes its state (R311): the loss of its link layer's state, the start of a training, and Retraining.
-/
namespace Sys2Proof.Proofs.CalfosStates
open Sys2Proof.Machine Sys2Proof.Proofs.Fields Sys2Proof.Proofs.CalfosLinks Sys2Proof.Proofs.CalfosSends

variable {s t : State} {f : Fin 8}

/-! ### Fields of the physical layer -/

/-- What CFP_STATUS reports of lanes and clock. -/
def laneFields (f : Fin 8) : List Fld :=
  [F.CFP_STATUS_ALIGNED f, F.CFP_STATUS_PRECODE_RX f, F.CFP_STATUS_PRECODE_TX f, F.CFP_STATUS_CLK_RX f, F.CFP_STATUS_RX_DRIFT f, F.CFP_STATUS_TX_DRIFT f]

theorem phy_state : Phy f (F.CFP_STATUS_STATE f) := phy_status (by decide)

theorem phy_rate : Phy f (F.CFP_STATUS_RATE f) := phy_status (by decide)

theorem phy_retrained : Phy f (F.CFP_EVENT_RETRAIN f) := phy_event (by decide)

theorem state_key_ne_rate : ∀ f : Fin 8, (F.CFP_STATUS_STATE f).key ≠ (F.CFP_STATUS_RATE f).key := by decide +kernel

theorem state_key_ne_lanes : ∀ f : Fin 8, ∀ x ∈ laneFields f, (F.CFP_STATUS_STATE f).key ≠ x.key := by decide +kernel

theorem retrained_key_ne_lanes : ∀ f : Fin 8, ∀ x ∈ laneFields f, (F.CFP_EVENT_RETRAIN f).key ≠ x.key := by decide +kernel

theorem state_key_ne_retrained : ∀ f : Fin 8, (F.CFP_STATUS_STATE f).key ≠ (F.CFP_EVENT_RETRAIN f).key := by decide +kernel

/-! ### The link layer's state is lost (R336) -/

theorem aside_modLink (h : Aside s t f) (c : Link → Link) : Aside (modLink s f c) (modLink t f c) f := by
  refine ⟨?_, h.out, h.phy⟩
  simp only [modLink, setLink, linkOf, h.links]

/-- The port keeps what `Link.cleared` says; beside it, registers of the link layer alone change. -/
theorem aside_linkLose (s : State) : Aside (modLink s f Link.cleared) (linkLose s f) f := by
  have hcounted : Aside s (if (linkOf s f).replay.length == 0 then s
      else cfkEvent (bumpBy s (F.CFK_COUNT_LOST f) (linkOf s f).replay.length) f F.CFK_EVENT_LOST) f := by
    split_ifs
    · exact Aside.refl s f
    · exact (aside_setF s _ (elsewhere_linkCount (by decide))).trans (aside_cfkEvent _ (elsewhere_linkEvent (by decide)))
  have hzero (u : State) {lo w r : Nat} (h : lo < 64) : Aside u (setF u ⟨A.CFK_STATUS f, lo, w, r⟩ 0) f := aside_setF u 0 (elsewhere_linkStatus h)
  have hcredit (u : State) (c : Nat) {lo w r : Nat} (h : lo < 64) : Aside u (setF u ⟨A.CFK_CREDIT f c, lo, w, r⟩ 0) f :=
    aside_setF u 0 (elsewhere_credit c h)
  unfold linkLose
  dsimp only
  refine Aside.trans ?_ (aside_foldl (fun v c => ?_) _ _)
  swap
  · exact ((hcredit v c (by decide)).trans (hcredit _ c (by decide))).trans (hcredit _ c (by decide))
  exact (((((aside_modLink hcounted Link.cleared).trans (hzero _ (by decide))).trans (aside_showReplay _)).trans (hzero _ (by decide))).trans
    (hzero _ (by decide))).trans (hzero _ (by decide))

/-! ### A training starts (R308, R309) -/

theorem fieldsBut_lanesClear (s : State) : FieldsBut s (lanesClear s f) (laneFields f) :=
  List.foldlRecOn (motive := fun v => FieldsBut s v (laneFields f)) _ _ (fieldsBut_refl s _) fun _ hv _ hx => fieldsBut_setF 0 hx hv

theorem links_lanesClear (s : State) : (lanesClear s f).links = s.links := rfl

theorem out_lanesClear (s : State) : (lanesClear s f).out = s.out := rfl

/-- The registers of a port that begins to train. -/
def trainBegun (s : State) (f rate : Nat) : State := setF (linkLose (lanesClear (cfpEnter s f cfpTraining) f) f) (F.CFP_STATUS_RATE f) rate

/-- The port beside its registers in step 1. -/
def stepOne (rate : Nat) (l : Link) : Link :=
  { l with step := 1, fallback := rate, retry := false, eqDone := false, preAsk := false, count := 255, lineUp := false, rxLanes := [], txLanes := [],
           capSup := false, preReq := false, hist := [] }

theorem aside_trainFrom (s : State) (rate : Nat) : Aside (modLink (trainBegun s f rate) f (stepOne rate)) (trainFrom s f rate) f := by
  have htrain : trainFrom s f rate = withUsable s f fun v => modLink (trainBegun v f rate) f (stepOne rate) := by
    unfold trainFrom trainBegun stepOne
    rfl
  rw [htrain]
  exact aside_withUsable s fun v => modLink (trainBegun v f rate) f (stepOne rate)

theorem aside_trainBegun (s : State) :
    Aside (modLink (lanesClear (cfpEnter s f cfpTraining) f) f Link.cleared) (linkLose (lanesClear (cfpEnter s f cfpTraining) f) f) f :=
  aside_linkLose _

theorem mwf_trainBegun (hlinks : mwf s.links = true) (rate : Nat) : mwf (trainBegun s f rate).links = true := by
  have hcleared : mwf (lanesClear (cfpEnter s f cfpTraining) f).links = true := by rwa [links_lanesClear, links_cfpEnter]
  rw [trainBegun, setF_links, (aside_trainBegun s).links]
  exact mwf_modLink hcleared f _

theorem cfpState_trainBegun (s : State) (rate : Nat) : cfpState (trainBegun s f rate) f = cfpTraining := by
  rw [cfpState, trainBegun, getF_setF_ne _ _ (state_key_ne_rate f), (aside_trainBegun s).phy _ phy_state, getF_modLink,
    fieldsBut_lanesClear _ _ (state_key_ne_lanes f)]
  exact cfpState_cfpEnter s cfpTraining

/-- Step 1 begins at the rate, and nothing goes out. -/
theorem trainFrom_facts (hlinks : mwf s.links = true) (rate : Nat) :
    cfpState (trainFrom s f rate) f = cfpTraining ∧ (linkOf (trainFrom s f rate) f).step = 1 ∧
      getF (trainFrom s f rate) (F.CFP_STATUS_RATE f) = rate % 4 ∧ (trainFrom s f rate).out = s.out := by
  have hbegun := aside_trainFrom (f := f) s rate
  refine ⟨?_, ?_, ?_, ?_⟩
  · rw [cfpState, hbegun.phy _ phy_state, getF_modLink]
    exact cfpState_trainBegun s rate
  · rw [linkOf_congr hbegun.links, linkOf_modLink_same (mwf_trainBegun hlinks rate)]
    rfl
  · rw [hbegun.phy _ phy_rate, getF_modLink, trainBegun, getF_setF_same]
    rfl
  · rw [hbegun.out, modLink_out, trainBegun, setF_out, (aside_trainBegun s).out, modLink_out, out_lanesClear, out_cfpEnter]

/-! ### Retraining (R315) -/

/-- An Active port has sent RETRAIN in 16 frames, or none in Drift. -/
def retrainSaid (s : State) (f : Nat) : State := if bitF s (F.CFP_STATUS_TX_DRIFT f) then s else ctlFrames s f 5 16

/-- Its registers as it begins to retrain. -/
def retrainBegun (s : State) (f : Nat) : State :=
  setF (setF (setF (cfpEvent (cfpEnter s f cfpRetraining) f F.CFP_EVENT_RETRAIN) (F.CFP_STATUS_RX_DRIFT f) 0) (F.CFP_STATUS_TX_DRIFT f) 0)
    (F.CFP_STATUS_ALIGNED f) 0

/-- The port beside its registers in step 4 of Retraining. -/
def retrainLink (l : Link) : Link :=
  { l with step := 4, eqDone := false, preAsk := false, count := 255, lineUp := false, rxLanes := [], preReq := false,
           txLanes := l.txLanes.map fun x => (x.1, { x.2 with ready := false, askPreset := none, askPre := 0, askPost := 0 }),
           hush := 0, doze := false, driftSeen := false, pctlLeft := 0, hist := [], badAt := [] }

theorem retrainEnter_of_active (h : cfpState s f = cfpActive) :
    retrainEnter s f = withUsable (retrainSaid s f) f fun v => modLink (retrainBegun v f) f retrainLink := by
  have hactive : (cfpState s f != cfpActive) = false := by simp [h]
  simp only [retrainEnter, hactive, Bool.false_eq_true, if_false]
  rfl

theorem aside_retrainEnter (h : cfpState s f = cfpActive) : Aside (modLink (retrainBegun (retrainSaid s f) f) f retrainLink) (retrainEnter s f) f := by
  rw [retrainEnter_of_active h]
  exact aside_withUsable _ fun v => modLink (retrainBegun v f) f retrainLink

theorem fieldsBut_retrainBegun (s : State) :
    FieldsBut (cfpEvent (cfpEnter s f cfpRetraining) f F.CFP_EVENT_RETRAIN) (retrainBegun s f) (laneFields f) :=
  fieldsBut_setF _ (by simp [laneFields]) (fieldsBut_setF _ (by simp [laneFields]) (fieldsBut_setF _ (by simp [laneFields]) (fieldsBut_refl _ _)))

theorem mwf_retrainBegun (hlinks : mwf s.links = true) : mwf (retrainBegun (retrainSaid s f) f).links = true := by
  have hsaid : mwf (retrainSaid s f).links = true := by
    unfold retrainSaid
    split_ifs
    · exact hlinks
    · obtain ⟨_, hsends, -⟩ := (Sends.refl (f := f) hlinks).ctlFrames 5 16
      exact hsends.links
  rwa [retrainBegun, setF_links, setF_links, setF_links, links_cfpEvent, links_cfpEnter]

/-- An Active port that retrains goes on from step 4, and its lanes are aligned anew. -/
theorem retrainEnter_facts (hlinks : mwf s.links = true) (h : cfpState s f = cfpActive) :
    cfpState (retrainEnter s f) f = cfpRetraining ∧ (linkOf (retrainEnter s f) f).step = 4 ∧
      bitF (retrainEnter s f) (F.CFP_EVENT_RETRAIN f) = true ∧ (linkOf (retrainEnter s f) f).rxLanes = [] := by
  have hbegun := aside_retrainEnter h
  have hlink : linkOf (retrainEnter s f) f = retrainLink (linkOf (retrainBegun (retrainSaid s f) f) f) :=
    (linkOf_congr hbegun.links f).trans (linkOf_modLink_same (mwf_retrainBegun hlinks) f retrainLink)
  refine ⟨?_, by rw [hlink]; rfl, ?_, by rw [hlink]; rfl⟩
  · rw [cfpState, hbegun.phy _ phy_state, getF_modLink, fieldsBut_retrainBegun _ _ (state_key_ne_lanes f),
      getF_cfpEvent _ _ phy_state (state_key_ne_retrained f)]
    exact cfpState_cfpEnter _ cfpRetraining
  · rw [bitF_congr (hbegun.phy _ phy_retrained), bitF_modLink,
      bitF_congr (fieldsBut_retrainBegun _ _ (retrained_key_ne_lanes f))]
    exact bitF_cfpEvent _ _ rfl phy_retrained

end Sys2Proof.Proofs.CalfosStates
end

section
/-!
CLAIM. The training of a Calfos port (R308): the obligation, whose clause on the run of good frames admits a port in training whose transmit direction is
in Drift.
-/
namespace Sys2Proof.Proofs.CalfosTraining
open Sys2Proof.Machine

/-- Port 0 is in step 6 of training with its lanes aligned and its link Down, its last frame carried HUSH_REQ, and TX_DRIFT is 1. -/
def driftingInStepSix : State :=
  { setF (setF (setF {} (F.CFP_STATUS_STATE 0) cfpTraining) (F.CFP_STATUS_ALIGNED 0) 1) (F.CFP_STATUS_TX_DRIFT 0) 1 with
    links := [(0, { step := 6, hist := [2] })] }

/-- A decoded frame in step 6 of training (R308). -/
theorem exec_decodedInStepSix {s : State} {f : Fin 8} (k : Fin 16) (a b : List Byte) (ls : List (Fin 8)) (hidle : cfpState s f ≠ cfpActive)
    (htrain : inTraining s f = true) (hstep : (linkOf s f).step = 6) (haligned : bitF s (F.CFP_STATUS_ALIGNED f) = true) :
    exec (.calfosFrameReceive f (.decoded k a b ls)) s = .next (stepSixGood s f k a b ls) := by
  change execCalfosFrameReceive f (.decoded k a b ls) s = _
  simp [execCalfosFrameReceive, frameOf, hidle, htrain, hstep, haligned]

/-- Refutes O41: its clause on a good frame in step 6 says that nothing goes out, for every state with `State.wf`; but neither it nor `wf` says that a port
in training has TX_DRIFT 0, as every entry into training leaves it. Where it is 1, the second HUSH_REQ in a row is answered (R313), for which the transmit
direction leaves Drift, and its SETTLE frames go out. -/
theorem not_calfosTraining : ¬ Obligations.CalfosTraining := by
  intro h
  obtain ⟨-, -, -, -, -, -, -, -, hframe, -⟩ := h
  have htrain : inTraining driftingInStepSix 0 = true := by decide +kernel
  have haligned : bitF driftingInStepSix (F.CFP_STATUS_ALIGNED 0) = true := by decide +kernel
  obtain ⟨t, hexec, -, -, -, honly⟩ := hframe driftingInStepSix 0 2 [] [] [] (by decide +kernel) htrain rfl haligned (by decide +kernel)
  have hidle : cfpState driftingInStepSix 0 ≠ cfpActive := by decide +kernel
  have hgood := exec_decodedInStepSix (f := 0) 2 [] [] [] hidle htrain rfl haligned
  obtain rfl : stepSixGood driftingInStepSix 0 2 [] [] [] = t := Host.Outcome.next.inj (hgood.symm.trans hexec)
  have hquiet : (stepSixGood driftingInStepSix 0 2 [] [] []).out = [] := congrArg State.out honly
  exact absurd hquiet (by decide +kernel)

end Sys2Proof.Proofs.CalfosTraining
end

section
/-!
CLAIM. The lanes of a Calfos port: what a TRAIN block does to the taps and to what is reported of them (R306, R307), and what an alignment marker does
(R303, R311).
-/
namespace Sys2Proof.Proofs.CalfosLanes
open Sys2Proof.Machine Sys2Proof.Proofs.Fields Sys2Proof.Proofs.CalfosLinks Sys2Proof.Proofs.CalfosStates

variable {s t : State} {f l : Fin 8} {v : Nat}

/-! ### Requests for a tap (R307) -/

theorem tapReq_hold (s : State) (tap : Fld) (limit old st : Nat) : tapReq s tap limit old 0 st = (s, 0) := rfl

/-- An increment that follows hold moves the tap by one, up to its limit. -/
theorem tapReq_increment (s : State) (tap : Fld) (limit st : Nat) :
    tapReq s tap limit 0 1 st = (setF s tap (if getF s tap < limit then getF s tap + 1 else getF s tap), if getF s tap < limit then 1 else 2) := by
  by_cases h : getF s tap < limit <;> simp [tapReq, tapStep, h]

theorem tapReq_only (s : State) (tap : Fld) (limit old req st : Nat) : OnlyCells s (tapReq s tap limit old req st).1 := by
  unfold OnlyCells tapReq
  split_ifs <;> rfl

theorem getF_tapReq_ne {g tap : Fld} (s : State) (limit old req st : Nat) (h : g.key ≠ tap.key) :
    getF (tapReq s tap limit old req st).1 g = getF s g := by
  unfold tapReq
  split_ifs
  · rfl
  · rfl
  · exact getF_setF_ne s _ h

/-! ### A TRAIN block (R305) -/

/-- PRESET_VALID becomes 1. -/
def presetAsked (s : State) (f l : Fin 8) (v : Nat) : Bool := tb v 39 && !(mget (linkOf s f).txLanes l {}).presetValid

/-- The taps at the preset, if the block asks for it. -/
def presetTaken (s : State) (f l : Fin 8) (v : Nat) : State :=
  if presetAsked s f l v then setTaps s f l (presetTaps (bits v 36 3)) else s

/-- The pre-tap as the block asks, with the status of the request. -/
def preTaken (s : State) (f l : Fin 8) (v : Nat) : State × Nat :=
  tapReq (presetTaken s f l v) (F.CFP_LANE_TX_PRE f l) 8 (mget (linkOf s f).txLanes l {}).preReq (bits v 44 2) (mget (linkOf s f).txLanes l {}).preSt

/-- Then the post-tap. -/
def postTaken (s : State) (f l : Fin 8) (v : Nat) : State × Nat :=
  tapReq (preTaken s f l v).1 (F.CFP_LANE_TX_POST f l) 12 (mget (linkOf s f).txLanes l {}).postReq (bits v 46 2)
    (mget (linkOf s f).txLanes l {}).postSt

/-- What is kept of the lane's block. -/
def laneNoted (s : State) (f l : Fin 8) (v : Nat) (x : TxLane) : TxLane :=
  { x with presetValid := tb v 39, preReq := bits v 44 2, postReq := bits v 46 2, preSt := if presetAsked s f l v then 1 else (preTaken s f l v).2,
           postSt := if presetAsked s f l v then 1 else (postTaken s f l v).2, ready := tb v 16 }

/-- The port once it has taken the block. -/
def blockNoted (s : State) (f l : Fin 8) (v : Nat) : State :=
  modLink (modTx (modTx (postTaken s f l v).1 f l (laneNoted s f l v)) f l fun x => x.told (bits v 40 2) (bits v 42 2)) f fun k =>
    { k with preReq := k.preReq || (bits v 4 4 == 4 && tb v 15), capSup := k.capSup || tb v 14 }

/-- The block is taken, step 4 ends if that was the last of its conditions, and the lane's own block answers it. -/
theorem blockTrain_eq (s : State) (f l : Fin 8) (v : Nat) : blockTrain s f l v =
    emit (stepFourEnd (blockNoted s f l v) f) (.trainBlock f l (trainBlock (stepFourEnd (blockNoted s f l v) f) f l)) := rfl

/-- An output changes no block. -/
theorem trainBlock_emit (s : State) (e : Emit) (f l : Nat) : trainBlock (emit s e) f l = trainBlock s f l := rfl

theorem postTaken_only (s : State) (f l : Fin 8) (v : Nat) : OnlyCells s (postTaken s f l v).1 := by
  have hpreset : OnlyCells s (presetTaken s f l v) := by
    unfold OnlyCells presetTaken
    split_ifs <;> rfl
  have hpre : OnlyCells (presetTaken s f l v) (preTaken s f l v).1 := tapReq_only _ _ _ _ _ _
  have hpost : OnlyCells (preTaken s f l v).1 (postTaken s f l v).1 := tapReq_only _ _ _ _ _ _
  unfold OnlyCells at *
  rw [hpost, hpre, hpreset]

theorem links_postTaken (s : State) (f l : Fin 8) (v : Nat) : (postTaken s f l v).1.links = s.links := by rw [postTaken_only]

/-! ### The fields and the lane after it -/

theorem pre_key_ne_post : ∀ f l : Fin 8, (F.CFP_LANE_TX_PRE f l).key ≠ (F.CFP_LANE_TX_POST f l).key := by decide +kernel

theorem tap_key_ne_precode : ∀ f l : Fin 8, ∀ g ∈ [F.CFP_LANE_TX_PRE f l, F.CFP_LANE_TX_POST f l], g.key ≠ (F.CFP_STATUS_PRECODE_TX f).key := by
  decide +kernel

/-- The end of step 4 leaves the taps alone, and what is kept of the lanes. -/
theorem onlyPort_stepFourEnd (s : State) : OnlyPort s (stepFourEnd s f) := by
  unfold OnlyPort stepFourEnd
  dsimp only
  split_ifs <;> rfl

theorem getF_stepFourEnd {g : Fld} (s : State) (h : g.key ≠ (F.CFP_STATUS_PRECODE_TX f).key) : getF (stepFourEnd s f) g = getF s g := by
  unfold stepFourEnd
  dsimp only
  split_ifs
  · exact getF_setB_ne s _ h
  · rfl

theorem txLanes_stepFourEnd (h : mwf s.links = true) : (linkOf (stepFourEnd s f) f).txLanes = (linkOf s f).txLanes := by
  unfold stepFourEnd
  dsimp only
  split_ifs
  · rw [linkOf_setLink_same (s := setB s (F.CFP_STATUS_PRECODE_TX f) (linkOf s f).preReq) h]
  · rfl

theorem getF_modTx (s : State) (c : TxLane → TxLane) (g : Fld) : getF (modTx s f l c) g = getF s g := rfl

theorem mwf_modTx (h : mwf s.links = true) (c : TxLane → TxLane) : mwf (modTx s f l c).links = true := mwf_modLink h f _

theorem txLanes_modTx (h : mwf s.links = true) (c : TxLane → TxLane) :
    (linkOf (modTx s f l c) f).txLanes = mset (linkOf s f).txLanes l (c (mget (linkOf s f).txLanes l {})) {} :=
  congrArg Link.txLanes (linkOf_modLink_same h f _)

theorem lane_modTx (h : mwf s.links = true) (hlanes : mwf (linkOf s f).txLanes = true) (c : TxLane → TxLane) :
    mget (linkOf (modTx s f l c) f).txLanes l {} = c (mget (linkOf s f).txLanes l {}) := by
  rw [txLanes_modTx h, mget_mset_same _ _ _ hlanes]

theorem getF_blockTrain {g : Fld} (s : State) (f l : Fin 8) (v : Nat) (hg : g ∈ [F.CFP_LANE_TX_PRE f l, F.CFP_LANE_TX_POST f l]) :
    getF (blockTrain s f l v) g = getF (postTaken s f l v).1 g := by
  rw [blockTrain_eq, getF_emit, getF_stepFourEnd _ (tap_key_ne_precode f l g hg), blockNoted, getF_modLink, getF_modTx, getF_modTx]

/-- What is kept of the lane: what the block asks, and the statuses of the requests sent that it reports. -/
theorem lane_blockTrain (hlinks : mwf s.links = true) (hlanes : mwf (linkOf s f).txLanes = true) :
    mget (linkOf (blockTrain s f l v) f).txLanes l {} = (laneNoted s f l v (mget (linkOf s f).txLanes l {})).told (bits v 40 2) (bits v 42 2) := by
  have hsame := links_postTaken s f l v
  have hlink : linkOf (postTaken s f l v).1 f = linkOf s f := linkOf_congr hsame f
  have hpost : mwf (postTaken s f l v).1.links = true := by rw [hsame, hlinks]
  have hpostLanes : mwf (linkOf (postTaken s f l v).1 f).txLanes = true := by rw [hlink, hlanes]
  have hnoted : mwf (modTx (postTaken s f l v).1 f l (laneNoted s f l v)).links = true := mwf_modTx hpost _
  have hnotedLanes : mwf (linkOf (modTx (postTaken s f l v).1 f l (laneNoted s f l v)) f).txLanes = true := by
    rw [txLanes_modTx hpost]
    exact mwf_mset _ _ _ hpostLanes
  have htold := mwf_modTx (f := f) (l := l) hnoted fun x => x.told (bits v 40 2) (bits v 42 2)
  have hblock : mwf (blockNoted s f l v).links = true := mwf_modLink htold f _
  rw [blockTrain_eq, linkOf_emit, txLanes_stepFourEnd hblock, blockNoted, linkOf_modLink_same htold, lane_modTx hnoted hnotedLanes,
    lane_modTx hpost hpostLanes, hlink]

theorem onlyPort_blockTaken (s : State) (f l : Fin 8) (v : Nat) : OnlyPort s (stepFourEnd (blockNoted s f l v) f) :=
  ((((onlyPort_of_cells (postTaken_only s f l v)).trans (onlyPort_modLink _ _ _)).trans (onlyPort_modLink _ _ _)).trans (onlyPort_modLink _ _ _)).trans
    (onlyPort_stepFourEnd _)

theorem blockTrain_only (s : State) (f l : Fin 8) (v : Nat) :
    blockTrain s f l v = { s with cells := (blockTrain s f l v).cells, links := (blockTrain s f l v).links, out := (blockTrain s f l v).out } := by
  rw [blockTrain_eq]
  exact OnlyPort.emit (onlyPort_blockTaken s f l v) _

/-! ### The clauses on TRAIN blocks -/

theorem presetTaps_lt (p : Nat) : (presetTaps p).1 < 16 ∧ (presetTaps p).2 < 16 := by
  unfold presetTaps
  split <;> decide

/-- R306: a block whose PRESET_VALID becomes 1 and that asks for no step sets the taps to the preset. -/
theorem taps_of_preset (hvalid : tb v 39 = true) (hold : (mget (linkOf s f).txLanes l {}).presetValid = false) (hpre : bits v 44 2 = 0)
    (hpost : bits v 46 2 = 0) :
    getF (postTaken s f l v).1 (F.CFP_LANE_TX_PRE f l) = (presetTaps (bits v 36 3)).1 ∧
      getF (postTaken s f l v).1 (F.CFP_LANE_TX_POST f l) = (presetTaps (bits v 36 3)).2 := by
  have htaken : (postTaken s f l v).1 = setTaps s f l (presetTaps (bits v 36 3)) := by
    simp [postTaken, preTaken, presetTaken, presetAsked, hvalid, hold, hpre, hpost, tapReq_hold]
  obtain ⟨hlt, hlt'⟩ := presetTaps_lt (bits v 36 3)
  rw [htaken, setTaps]
  exact ⟨by rw [getF_setF_ne _ _ (pre_key_ne_post f l), getF_setF_same]; exact Nat.mod_eq_of_lt hlt,
    by rw [getF_setF_same]; exact Nat.mod_eq_of_lt hlt'⟩

/-- R307: an increment of the pre-tap that follows hold. -/
theorem preTaken_of_increment (hvalid : tb v 39 = false) (hreq : bits v 44 2 = 1) (hold : (mget (linkOf s f).txLanes l {}).preReq = 0) :
    preTaken s f l v = (setF s (F.CFP_LANE_TX_PRE f l) (if getF s (F.CFP_LANE_TX_PRE f l) < 8 then getF s (F.CFP_LANE_TX_PRE f l) + 1
      else getF s (F.CFP_LANE_TX_PRE f l)), if getF s (F.CFP_LANE_TX_PRE f l) < 8 then 1 else 2) := by
  have hpreset : presetTaken s f l v = s := by simp [presetTaken, presetAsked, hvalid]
  rw [preTaken, hpreset, hold, hreq, tapReq_increment]

theorem pre_of_increment (hvalid : tb v 39 = false) (hreq : bits v 44 2 = 1) (hold : (mget (linkOf s f).txLanes l {}).preReq = 0) :
    getF (postTaken s f l v).1 (F.CFP_LANE_TX_PRE f l) =
      if getF s (F.CFP_LANE_TX_PRE f l) < 8 then getF s (F.CFP_LANE_TX_PRE f l) + 1 else getF s (F.CFP_LANE_TX_PRE f l) % 16 := by
  rw [postTaken, getF_tapReq_ne _ _ _ _ _ (pre_key_ne_post f l), preTaken_of_increment hvalid hreq hold, getF_setF_same]
  change _ % 16 = _
  split_ifs with hlt
  · exact Nat.mod_eq_of_lt (by omega)
  · rfl

/-- R305: a TRAIN block of a port that trains is taken as such. -/
theorem exec_trainBlock {b : List Byte} (htrain : inTraining s f = true) (hb : blockOf b = some v) (htype : bits v 0 4 = 2) :
    exec (.trainingBlockReceive f l b) s = .next (blockTrain s f l v) := by
  change execTrainingBlockReceive f l b s = _
  simp [execTrainingBlockReceive, hb, htrain, htype]

/-- R306, R307: a TRAIN block moves the taps and is answered. -/
theorem trainBlock_runs (s : State) (f l : Fin 8) (b : List Byte) (v : Nat) (hwf : s.wf = true) (hlanes : mwf (linkOf s f).txLanes = true)
    (htrain : inTraining s f = true) (hb : blockOf b = some v) (htype : bits v 0 4 = 2) :
    Runs (.trainingBlockReceive f l b) s fun t =>
      (tb v 39 = true → (mget (linkOf s f).txLanes l {}).presetValid = false → bits v 44 2 = 0 → bits v 46 2 = 0 →
        getF t (F.CFP_LANE_TX_PRE f l) = (presetTaps (bits v 36 3)).1 ∧ getF t (F.CFP_LANE_TX_POST f l) = (presetTaps (bits v 36 3)).2) ∧
      (tb v 39 = false → bits v 44 2 = 1 → (mget (linkOf s f).txLanes l {}).preReq = 0 →
        getF t (F.CFP_LANE_TX_PRE f l) = (if getF s (F.CFP_LANE_TX_PRE f l) < 8 then getF s (F.CFP_LANE_TX_PRE f l) + 1 else getF s (F.CFP_LANE_TX_PRE f l) % 16) ∧
        (mget (linkOf t f).txLanes l {}).preSt = (if getF s (F.CFP_LANE_TX_PRE f l) < 8 then 1 else 2)) ∧
      (mget (linkOf t f).txLanes l {}).presetValid = tb v 39 ∧ (mget (linkOf t f).txLanes l {}).ready = tb v 16 ∧
      t.out = .trainBlock f l (trainBlock t f l) :: s.out ∧
      t = { s with cells := t.cells, links := t.links, out := t.out } := by
  have hpre := getF_blockTrain s f l v (g := F.CFP_LANE_TX_PRE f l) (by simp)
  have hpost := getF_blockTrain s f l v (g := F.CFP_LANE_TX_POST f l) (by simp)
  have hlane := lane_blockTrain (l := l) (v := v) (mwf_links_of_wf hwf) hlanes
  refine ⟨_, exec_trainBlock htrain hb htype, fun hvalid hold hr hr' => ?_, fun hvalid hr hold => ⟨?_, ?_⟩, ?_, ?_, ?_, blockTrain_only s f l v⟩
  · rw [hpre, hpost]
    exact taps_of_preset hvalid hold hr hr'
  · rw [hpre]
    exact pre_of_increment hvalid hr hold
  · rw [hlane]
    have hnone : presetAsked s f l v = false := by simp [presetAsked, hvalid]
    simp [TxLane.told, laneNoted, hnone, preTaken_of_increment hvalid hr hold]
  · rw [hlane]
    rfl
  · rw [hlane]
    rfl
  · rw [blockTrain_eq, emit_out, OnlyPort.out (onlyPort_blockTaken s f l v), trainBlock_emit]

/-! ### Alignment markers (R303) -/

/-- The lane has taken its first marker. -/
def markerNamed (s : State) (f l : Fin 8) (m u : Nat) : State :=
  modLink (setF s (F.CFP_LANE_PHYS f (bits m 64 8)) l) f fun k => { k with rxLanes := mput k.rxLanes l { lane := bits m 64 8, seq := 1, arrived := u } }

/-- R303: a lane's first marker, where it is exact and names a lane, makes that lane the one it names. -/
theorem firstMarker_runs (s : State) (f l : Fin 8) (m : BitVec 256) (u : Nat) (hwf : s.wf = true) (hexpected : markersExpected s f = true)
    (hnone : (linkOf s f).rxLanes = []) (hexact : markerExact m.toNat = true) (hlane : bits m.toNat 64 8 ≤ 7) :
    Runs (.alignmentMarkerReceive f l m u) s fun t =>
      getF t (F.CFP_LANE_PHYS f (bits m.toNat 64 8)) = l.val ∧ (linkOf t f).rxLanes = [(l.val, { lane := bits m.toNat 64 8, seq := 1, arrived := u })] ∧
      t = { s with cells := t.cells, links := t.links } ∧ FieldsBut s t [F.CFP_LANE_PHYS f (bits m.toNat 64 8)] := by
  have hlanes : (linkOf (markerNamed s f l m.toNat u) f).rxLanes = [(l.val, { lane := bits m.toNat 64 8, seq := 1, arrived := u })] := by
    have hlinks : mwf (setF s (F.CFP_LANE_PHYS f (bits m.toNat 64 8)) l).links = true := mwf_links_of_wf (s := s) hwf
    rw [markerNamed, linkOf_modLink_same hlinks, linkOf_setF, hnone]
    rfl
  have halign : lanesAlign (markerNamed s f l m.toNat u) f = markerNamed s f l m.toNat u := by simp [lanesAlign, hlanes]
  have htake : markerTake s f l m.toNat u = lanesAlign (markerNamed s f l m.toNat u) f := by
    simp [markerTake, hexpected, hnone, hexact, Nat.not_lt.2 hlane, markerNamed]
  refine ⟨_, congrArg Host.Outcome.next (htake.trans halign), ?_, hlanes, rfl, ?_⟩
  · rw [markerNamed, getF_modLink, getF_setF_same]
    exact Nat.mod_eq_of_lt l.isLt
  · exact fieldsBut_congr (t := setF s (F.CFP_LANE_PHYS f (bits m.toNat 64 8)) l) rfl (fieldsBut_setF _ (by simp) (fieldsBut_refl s _))

theorem onesIn_zero (n : Nat) : onesIn n 0 = 0 := by
  induction n with
  | zero => rfl
  | succ n ih => simp [onesIn, ih]

/-- The marker that a lane expects next. -/
def markerWanted (s : State) (f : Fin 8) (x : RxLane) : Nat :=
  markerValue x.lane (getF s (F.CFP_STATUS_RATE f)) x.seq (bitF s (F.CFP_STATUS_PRECODE_RX f)) false

/-- The lane has taken a marker, with so many in a row that did not match. -/
def markerNoted (s : State) (f l : Fin 8) (x : RxLane) (misses : Nat) : State :=
  modLink s f fun k => { k with rxLanes := mput k.rxLanes l { x with seq := (x.seq + 1) % 2 ^ 32, misses := misses } }

/-- R303: a marker on a lane that has had its first is accepted with up to 16 bits in error, and the third in a row that is not begins Retraining. -/
theorem markerTake_known {x : RxLane} (m u : Nat) (hexpected : markersExpected s f = true) (hx : mfind (linkOf s f).rxLanes l = some x) :
    markerTake s f l m u =
      if onesIn 256 (Nat.xor m (markerWanted s f x)) ≤ 16 then markerNoted s f l x 0
      else if 3 ≤ x.misses + 1 then retrainEnter (markerNoted s f l x (x.misses + 1)) f else markerNoted s f l x (x.misses + 1) := by
  unfold markerTake
  rw [hexpected, hx]
  by_cases hok : onesIn 256 (Nat.xor m (markerWanted s f x)) ≤ 16
  · simp [markerNoted, markerWanted] at hok ⊢
    simp [hok]
  · simp [markerNoted, markerWanted] at hok ⊢
    simp [Nat.not_le.2 hok]

/-- R303: the marker that the lane expects. -/
theorem expectedMarker_runs (s : State) (f l : Fin 8) (m : BitVec 256) (u : Nat) (x : RxLane) (hwf : s.wf = true) (hexpected : markersExpected s f = true)
    (hx : mfind (linkOf s f).rxLanes l = some x)
    (hm : m.toNat = markerValue x.lane (getF s (F.CFP_STATUS_RATE f)) x.seq (bitF s (F.CFP_STATUS_PRECODE_RX f)) false) :
    Runs (.alignmentMarkerReceive f l m u) s fun t =>
      mfind (linkOf t f).rxLanes l = some { x with seq := (x.seq + 1) % 2 ^ 32, misses := 0 } ∧ t = { s with links := t.links } := by
  have hsame : Nat.xor m.toNat (markerWanted s f x) = 0 := by
    rw [hm]
    exact Nat.xor_self _
  have htake : markerTake s f l m.toNat u = markerNoted s f l x 0 := by
    rw [markerTake_known _ _ hexpected hx, hsame, onesIn_zero, if_pos (by decide)]
  refine ⟨_, congrArg Host.Outcome.next htake, ?_, rfl⟩
  rw [markerNoted, linkOf_modLink_same (mwf_links_of_wf hwf)]
  exact mfind_mput_same _ _ _

/-- R303, R311: the third marker in a row that does not match. -/
theorem thirdMiss_runs (s : State) (f l : Fin 8) (m : BitVec 256) (u : Nat) (x : RxLane) (hwf : s.wf = true) (hactive : cfpState s f = cfpActive)
    (hdrift : bitF s (F.CFP_STATUS_RX_DRIFT f) = false) (hx : mfind (linkOf s f).rxLanes l = some x) (hmisses : x.misses = 2)
    (hfar : 16 < onesIn 256 (Nat.xor m.toNat (markerValue x.lane (getF s (F.CFP_STATUS_RATE f)) x.seq (bitF s (F.CFP_STATUS_PRECODE_RX f)) false))) :
    Runs (.alignmentMarkerReceive f l m u) s fun t =>
      cfpState t f = cfpRetraining ∧ (linkOf t f).step = 4 ∧ bitF t (F.CFP_EVENT_RETRAIN f) = true ∧ (linkOf t f).rxLanes = [] := by
  have hexpected : markersExpected s f = true := by simp [markersExpected, hactive, hdrift]
  have htake : markerTake s f l m.toNat u = retrainEnter (markerNoted s f l x 3) f := by
    rw [markerTake_known _ _ hexpected hx, if_neg (show ¬ onesIn 256 (Nat.xor m.toNat (markerWanted s f x)) ≤ 16 from Nat.not_le.2 hfar), hmisses,
      if_pos (by decide)]
  exact ⟨_, congrArg Host.Outcome.next htake, retrainEnter_facts (mwf_modLink (mwf_links_of_wf hwf) f _) hactive⟩

/-- R303, R305: a marker where none is expected or that is no first marker, and a block that does not pass its CHECK. -/
theorem unexpected_leaves (s : State) (f l : Fin 8) (m : BitVec 256) (u : Nat) (b : List Byte) :
    (markersExpected s f = false ∨ (mfind (linkOf s f).rxLanes l = none ∧ markerExact m.toNat = false) → Leaves (.alignmentMarkerReceive f l m u) s) ∧
    (blockOf b = none → Leaves (.trainingBlockReceive f l b) s) := by
  refine ⟨?_, fun hbad => ?_⟩
  · rintro (hunexpected | ⟨hnone, hinexact⟩)
    · change Host.Outcome.next (markerTake s f l m.toNat u) = _
      simp [markerTake, hunexpected]
    · change Host.Outcome.next (markerTake s f l m.toNat u) = _
      simp [markerTake, hnone, hinexact]
  · change execTrainingBlockReceive f l b s = _
    simp [execTrainingBlockReceive, hbad]

/-- Settles O42: the rule of a TRAIN block, and those of a lane's first marker, of one that matches, of the third that does not, and of what is not taken. -/
theorem calfosLanes : Obligations.CalfosLanes :=
  ⟨trainBlock_runs, firstMarker_runs, expectedMarker_runs, thirdMiss_runs, unexpected_leaves⟩

end Sys2Proof.Proofs.CalfosLanes
end

section
/-!
CLAIM. Drift and Hush of a Calfos port (R312, R313, R314, R320): how each is entered, kept and left.
-/
namespace Sys2Proof.Proofs.CalfosDriftAndHush
open Sys2Proof.Machine Sys2Proof.Proofs.Fields Sys2Proof.Proofs.CalfosLinks Sys2Proof.Proofs.CalfosSends Sys2Proof.Proofs.CalfosStates

variable {s t : State} {f : Fin 8}

/-! ### Drift (R312) -/

/-- R312: with nothing to send the next four frames carry DRIFT. -/
theorem driftEnter_runs (s : State) (f : Fin 8) (hwf : s.wf = true) (hactive : cfpState s f = cfpActive) (hen : bitF s (F.CFP_PM_DRIFT_EN f) = true)
    (hdrift : bitF s (F.CFP_STATUS_TX_DRIFT f) = false) (hup : linkUp s f = true) (hwork : linkHasWork s f = false) (hhush : (linkOf s f).hush = 0)
    (hleft : (linkOf s f).pctlLeft = 0) :
    Runs (.driftEnter f) s fun t => linkOf t f = { linkOf s f with pctl := 1, pctlLeft := 4 } ∧ t = { s with links := t.links } := by
  have hexec : exec (.driftEnter f) s = .next (modLink s f fun l => { l with pctl := 1, pctlLeft := 4 }) := by
    change execDriftEnter f s = _
    simp [execDriftEnter, hactive, hen, hdrift, hup, hwork, hhush, hleft]
  exact ⟨_, hexec, linkOf_modLink_same (mwf_links_of_wf hwf) f _, rfl⟩

/-- Traffic ends an entry into Drift (R311). -/
def frameBegun (s : State) (f : Fin 8) : State :=
  if (linkOf s f).pctl == 1 && linkHasWork s f then modLink s f fun l => { l with pctlLeft := 0 } else s

/-- The port once it has the two flits of a frame. -/
def flitsTaken (s : State) (f : Fin 8) : State := (flitNext (flitNext s f true).1 f false).1

/-- The frame of two flits goes out with the code in effect. -/
def frameOut (s : State) (f : Fin 8) (a b : List Byte) : State :=
  wireFrame (modLink s f fun l => { l with pctlLeft := l.pctlLeft - 1 }) f (if (linkOf s f).pctlLeft == 0 then 0 else (linkOf s f).pctl) a b

/-- After the last frame of DRIFT the direction is in Drift. -/
def frameClosed (s : State) (f : Fin 8) (a b : List Byte) : State :=
  if (linkOf s f).pctl == 1 && (linkOf s f).pctlLeft == 1 then setF (frameOut s f a b) (F.CFP_STATUS_TX_DRIFT f) 1 else frameOut s f a b

theorem frameSend_eq (s : State) (f : Fin 8) : ∃ a b, frameSend s f = frameClosed (flitsTaken (frameBegun s f) f) f a b := by
  refine ⟨(flitNext (frameBegun s f) f true).2, (flitNext (flitNext (frameBegun s f) f true).1 f false).2, ?_⟩
  unfold frameSend frameClosed frameOut flitsTaken frameBegun
  rfl

theorem linkOf_frameBegun (hlinks : mwf s.links = true) (hcode : (linkOf s f).pctl = 1) :
    linkOf (frameBegun s f) f = { linkOf s f with pctlLeft := if linkHasWork s f then 0 else (linkOf s f).pctlLeft } := by
  unfold frameBegun
  cases linkHasWork s f
  · simp
  · simp [hcode, linkOf_modLink_same hlinks]

theorem sends_frameBegun (hlinks : mwf s.links = true) : mwf (frameBegun s f).links = true ∧ (∀ g, Phy f g → getF (frameBegun s f) g = getF s g) ∧
    (frameBegun s f).out = s.out := by
  unfold frameBegun
  split_ifs
  · exact ⟨mwf_modLink hlinks f _, fun _ _ => rfl, rfl⟩
  · exact ⟨hlinks, fun _ _ => rfl, rfl⟩

/-- The frame that goes out, and what is left of the code. -/
theorem sends_frameOut (hlinks : mwf s.links = true) (a b : List Byte) :
    (linkOf (frameOut s f a b) f).pctlLeft = (linkOf s f).pctlLeft - 1 ∧ (∀ g, Phy f g → getF (frameOut s f a b) g = getF s g) ∧
      ∃ l, (frameOut s f a b).out = l ++ s.out ∧
        l.filterMap (frameIn f) = [(if (linkOf s f).pctlLeft == 0 then 0 else (linkOf s f).pctl, a, b)] := by
  have hsends := (Sends.refl (f := f) (mwf_modLink hlinks f fun l => { l with pctlLeft := l.pctlLeft - 1 })).wireFrame
    (if (linkOf s f).pctlLeft == 0 then 0 else (linkOf s f).pctl) a b
  refine ⟨?_, hsends.phy, hsends.out⟩
  exact hsends.left.trans (congrArg Link.pctlLeft (linkOf_modLink_same hlinks f _))

theorem phy_txDrift : Phy f (F.CFP_STATUS_TX_DRIFT f) := phy_status (by decide)

/-- With the code DRIFT in effect the two flits leave the code and its count, or the count that traffic has ended. -/
theorem sends_flitsTaken (hlinks : mwf s.links = true) (hcode : (linkOf s f).pctl = 1) :
    mwf (flitsTaken (frameBegun s f) f).links = true ∧ (linkOf (flitsTaken (frameBegun s f) f) f).pctl = 1 ∧
      (linkOf (flitsTaken (frameBegun s f) f) f).pctlLeft = (if linkHasWork s f then 0 else (linkOf s f).pctlLeft) ∧
      (∀ g, Phy f g → getF (flitsTaken (frameBegun s f) f) g = getF s g) ∧
      ∃ l, (flitsTaken (frameBegun s f) f).out = l ++ s.out ∧ l.filterMap (frameIn f) = [] := by
  have hbegun := linkOf_frameBegun hlinks hcode
  obtain ⟨hbegunLinks, hbegunPhy, hbegunOut⟩ := sends_frameBegun (f := f) hlinks
  have hflits : Sends (frameBegun s f) (flitsTaken (frameBegun s f) f) f [] := ((Sends.refl hbegunLinks).flitNext true).flitNext false
  refine ⟨hflits.links, ?_, ?_, fun g hg => (hflits.phy g hg).trans (hbegunPhy g hg), hbegunOut ▸ hflits.out⟩
  · rw [hflits.code, hbegun, hcode]
  · rw [hflits.left, hbegun]

/-- R312, R320: a frame of DRIFT, or the end of the entry where traffic has come. -/
theorem driftFrame_runs (s : State) (f : Fin 8) (hwf : s.wf = true) (hactive : cfpState s f = cfpActive)
    (hdrift : bitF s (F.CFP_STATUS_TX_DRIFT f) = false) (hcode : (linkOf s f).pctl = 1) (hleft : (linkOf s f).pctlLeft ≠ 0) :
    Runs (.calfosFrameTransmit f) s fun t =>
      bitF t (F.CFP_STATUS_TX_DRIFT f) = decide ((linkOf s f).pctlLeft = 1 ∧ linkHasWork s f = false) ∧
      (linkOf t f).pctlLeft = (if linkHasWork s f then 0 else (linkOf s f).pctlLeft - 1) ∧
      ∃ l a b, t.out = l ++ s.out ∧ l.filterMap (frameIn f) = [(if linkHasWork s f then 0 else 1, a, b)] := by
  obtain ⟨hlinks, hpctl, hcount, hphy, m, hm, hnone⟩ := sends_flitsTaken (mwf_links_of_wf hwf) hcode
  obtain ⟨a, b, hsend⟩ := frameSend_eq s f
  obtain ⟨hcountOut, hphyOut, l, hl, hframe⟩ := sends_frameOut hlinks a b
  have hexec : exec (.calfosFrameTransmit f) s = .next (frameClosed (flitsTaken (frameBegun s f) f) f a b) := by
    change execCalfosFrameTransmit f s = _
    simp [execCalfosFrameTransmit, hactive, hdrift, hsend]
  have hdriftOut : bitF (frameOut (flitsTaken (frameBegun s f) f) f a b) (F.CFP_STATUS_TX_DRIFT f) = false := by
    rw [bitF_congr (hphyOut _ phy_txDrift), bitF_congr (hphy _ phy_txDrift), hdrift]
  rw [frameClosed, hpctl, hcount] at hexec
  rw [hcount] at hcountOut
  rw [hcount, hpctl] at hframe
  have hout : ∃ k a' b', (frameOut (flitsTaken (frameBegun s f) f) f a b).out = k ++ s.out ∧
      k.filterMap (frameIn f) = [(if linkHasWork s f then 0 else 1, a', b')] := by
    refine ⟨l ++ m, a, b, by rw [hl, hm, List.append_assoc], ?_⟩
    rw [List.filterMap_append, hframe, hnone]
    cases linkHasWork s f <;> simp [hleft]
  have hcountSent : (linkOf (frameOut (flitsTaken (frameBegun s f) f) f a b) f).pctlLeft = if linkHasWork s f then 0 else (linkOf s f).pctlLeft - 1 := by
    rw [hcountOut]
    cases linkHasWork s f <;> rfl
  generalize frameOut (flitsTaken (frameBegun s f) f) f a b = w at hexec hdriftOut hout hcountSent
  by_cases hlast : (linkOf s f).pctlLeft = 1 ∧ linkHasWork s f = false
  · obtain ⟨hone, hwork⟩ := hlast
    rw [if_pos (by simp [hone, hwork])] at hexec
    exact ⟨_, hexec, by simp [hone, hwork, bitF_setF_one w (f := F.CFP_STATUS_TX_DRIFT f) rfl], hcountSent, hout⟩
  · rw [if_neg (by cases hwork : linkHasWork s f <;> simp_all)] at hexec
    exact ⟨_, hexec, by simp only [hlast, hdriftOut, decide_false], hcountSent, hout⟩

/-- SETTLE frames move the places of the epoch, by two free values. -/
theorem settleSend_eq (s : State) (f : Fin 8) (n : Nat) : ∃ c, settleSend s f n = emit (modLink { s with free := s.free + 2 } f c) (.calfosSettle f n) :=
  ⟨_, rfl⟩

/-- R312: traffic ends a stretch of Drift. -/
theorem driftExit_runs (s : State) (f : Fin 8) (hwf : s.wf = true) (hactive : cfpState s f = cfpActive)
    (hdrift : bitF s (F.CFP_STATUS_TX_DRIFT f) = true) (hwork : linkHasWork s f = true) :
    Runs (.driftExit f) s fun t =>
      bitF t (F.CFP_STATUS_TX_DRIFT f) = false ∧
      t.out = .calfosSettle f (if getF s (F.CFP_STATUS_RATE f) = 0 then 16 else if getF s (F.CFP_STATUS_RATE f) = 1 then 8 else 4) :: s.out ∧
      (∀ g, g ≠ f.val → linkOf t g = linkOf s g) ∧ t = { s with cells := t.cells, links := t.links, free := s.free + 2, out := t.out } ∧
      FieldsBut s t [F.CFP_STATUS_TX_DRIFT f] := by
  have hexec : exec (.driftExit f) s = .next (driftExit s f) := by
    change execDriftExit f s = _
    simp [execDriftExit, hactive, hdrift, hwork]
  obtain ⟨c, hc⟩ := settleSend_eq (setF s (F.CFP_STATUS_TX_DRIFT f) 0) f (settleFrames (getF s (F.CFP_STATUS_RATE f)))
  have hfields : FieldsBut s (setF s (F.CFP_STATUS_TX_DRIFT f) 0) [F.CFP_STATUS_TX_DRIFT f] := fieldsBut_setF _ (by simp) (fieldsBut_refl s _)
  rw [driftExit, hc] at hexec
  refine ⟨_, hexec, bitF_setF_zero s, ?_, fun g hg => ?_, rfl, hfields⟩
  · simp [settleFrames]
  · exact linkOf_modLink_ne (mwf_links_of_wf hwf) c hg

/-- R312: a refresh sends 64 SETTLE frames. -/
theorem driftRefresh_runs (s : State) (f : Fin 8) (hactive : cfpState s f = cfpActive) (hdrift : bitF s (F.CFP_STATUS_TX_DRIFT f) = true) :
    Runs (.driftRefresh f) s fun t => t.out = .calfosSettle f 64 :: s.out ∧ t = { s with links := t.links, free := s.free + 2, out := t.out } := by
  have hexec : exec (.driftRefresh f) s = .next (settleSend s f 64) := by
    change execDriftRefresh f s = _
    simp [execDriftRefresh, hactive, hdrift]
  exact ⟨_, hexec, rfl, rfl⟩

/-- R320: the receiver follows its partner into Drift. -/
theorem receiveDriftEnter_runs (s : State) (f : Fin 8) (hwf : s.wf = true) (hactive : cfpState s f = cfpActive) (hseen : (linkOf s f).driftSeen = true) :
    Runs (.receiveDriftEnter f) s fun t =>
      bitF t (F.CFP_STATUS_RX_DRIFT f) = true ∧ (linkOf t f).driftSeen = false ∧ t = { s with cells := t.cells, links := t.links } ∧
      FieldsBut s t [F.CFP_STATUS_RX_DRIFT f] := by
  have hexec : exec (.receiveDriftEnter f) s =
      .next (modLink (setF s (F.CFP_STATUS_RX_DRIFT f) 1) f fun l => { l with driftSeen := false, hist := [] }) := by
    change execReceiveDriftEnter f s = _
    simp [execReceiveDriftEnter, hactive, hseen]
  have hlinks : mwf (setF s (F.CFP_STATUS_RX_DRIFT f) 1).links = true := mwf_links_of_wf (s := s) hwf
  have hfields : FieldsBut s (setF s (F.CFP_STATUS_RX_DRIFT f) 1) [F.CFP_STATUS_RX_DRIFT f] := fieldsBut_setF _ (by simp) (fieldsBut_refl s _)
  exact ⟨_, hexec, bitF_setF_one s rfl, congrArg Link.driftSeen (linkOf_modLink_same hlinks f _), rfl, hfields⟩

/-- R312: the receiver leaves Drift, if it is there. -/
theorem receiveDriftExit_runs (s : State) (f : Fin 8) (hactive : cfpState s f = cfpActive) :
    Runs (.receiveDriftExit f) s fun t =>
      bitF t (F.CFP_STATUS_RX_DRIFT f) = false ∧ t = { s with cells := t.cells, links := t.links, free := t.free } ∧ FieldsBut s t [F.CFP_STATUS_RX_DRIFT f] := by
  cases hdrift : bitF s (F.CFP_STATUS_RX_DRIFT f) with
  | false =>
    have hexec : exec (.receiveDriftExit f) s = .next s := by
      change execReceiveDriftExit f s = _
      simp [execReceiveDriftExit, hdrift]
    exact ⟨s, hexec, hdrift, rfl, fieldsBut_refl s _⟩
  | true =>
    have hexec : ∃ c, exec (.receiveDriftExit f) s = .next (modLink (setF { s with free := s.free + 1 } (F.CFP_STATUS_RX_DRIFT f) 0) f c) := by
      change ∃ c, execReceiveDriftExit f s = _
      refine ⟨fun l => { l with rxPos := l.rxPos + (drawFree s).1, driftSeen := true }, ?_⟩
      simp [execReceiveDriftExit, hactive, hdrift, drawFree]
    obtain ⟨c, hexec⟩ := hexec
    have hfields : FieldsBut s (setF s (F.CFP_STATUS_RX_DRIFT f) 0) [F.CFP_STATUS_RX_DRIFT f] := fieldsBut_setF _ (by simp) (fieldsBut_refl s _)
    exact ⟨_, hexec, bitF_setF_zero s, rfl, hfields⟩

/-! ### Asking for Hush (R313) -/

/-- R313: an idle port asks in the next 64 frames. -/
theorem hushRequest_runs (s : State) (f : Fin 8) (hwf : s.wf = true) (hactive : cfpState s f = cfpActive) (hup : linkUp s f = true)
    (hquiet : linkQuiet s f = true) (hasked : dozing s = true ∨ bitF s (F.CFP_PM_HUSH_EN f) = true) (hhush : (linkOf s f).hush = 0)
    (hdrift : bitF s (F.CFP_STATUS_TX_DRIFT f) = false) :
    Runs (.hushRequest f) s fun t =>
      linkOf t f = { linkOf s f with hush := 1, doze := dozing s, pctl := 2, pctlLeft := 64 } ∧ t = { s with links := t.links } := by
  have hexec : exec (.hushRequest f) s = .next (modLink s f fun l => { l with hush := 1, doze := dozing s, pctl := 2, pctlLeft := 64 }) := by
    change execHushRequest f s = _
    simp [execHushRequest, hushAsk, hactive, hup, hquiet, hasked, hhush, hdrift]
  exact ⟨_, hexec, linkOf_modLink_same (mwf_links_of_wf hwf) f _, rfl⟩

/-- R313: with no answer the port gives up. -/
theorem hushRequestTimeout_runs (s : State) (f : Fin 8) (hwf : s.wf = true) (hactive : cfpState s f = cfpActive) (hhush : (linkOf s f).hush = 1)
    (hdoze : (linkOf s f).doze = false) :
    Runs (.hushRequestTimeout f) s fun t =>
      linkOf t f = { linkOf s f with hush := 0, doze := false, pctlLeft := 0, busyAt := s.ticks } ∧ t = { s with links := t.links } := by
  have hexec : exec (.hushRequestTimeout f) s = .next (hushDrop s f) := by
    change execHushRequestTimeout f s = _
    simp [execHushRequestTimeout, hactive, hhush, hdoze]
  exact ⟨_, hexec, linkOf_modLink_same (mwf_links_of_wf hwf) f _, rfl⟩

/-- A handshake that ends leaves the port without one, and the other ports alone. -/
theorem hushDrop_facts (hlinks : mwf s.links = true) (n : Nat) :
    mwf (hushDrop s n).links = true ∧ (linkOf (hushDrop s n) n).hush = 0 ∧ ∀ m, m ≠ n → linkOf (hushDrop s n) m = linkOf s m := by
  unfold hushDrop
  refine ⟨mwf_modLink hlinks n _, ?_, fun m hm => linkOf_modLink_ne hlinks _ hm⟩
  rw [linkOf_modLink_same hlinks]

theorem hushDrop_cells (s : State) (n : Nat) : (hushDrop s n).cells = s.cells := rfl

/-- A port gives up the request that it has made for the device's entry into Doze (R459). -/
def requestDropped (s : State) (n : Nat) : State := if (linkOf s n).doze then hushDrop s n else s

theorem requestDropped_facts (hlinks : mwf s.links = true) (hhush : (linkOf s f).hush = 0) (n : Nat) :
    mwf (requestDropped s n).links = true ∧ (requestDropped s n).cells = s.cells ∧ (linkOf (requestDropped s n) f).hush = 0 := by
  obtain ⟨hdropLinks, hdropped, hothers⟩ := hushDrop_facts hlinks n
  unfold requestDropped
  split_ifs
  · refine ⟨hdropLinks, hushDrop_cells s n, ?_⟩
    by_cases hn : f.val = n
    · rw [hn, hdropped]
    · rw [hothers f hn, hhush]
  · exact ⟨hlinks, rfl, hhush⟩

/-- That changes no register, and leaves a port without a handshake so. -/
theorem requestsDropped_facts (ns : List Nat) (hlinks : mwf s.links = true) (hhush : (linkOf s f).hush = 0) :
    (ns.foldl requestDropped s).cells = s.cells ∧ (linkOf (ns.foldl requestDropped s) f).hush = 0 := by
  induction ns generalizing s with
  | nil => exact ⟨rfl, hhush⟩
  | cons n ns ih =>
    obtain ⟨hdropLinks, hdropCells, hdropHush⟩ := requestDropped_facts hlinks hhush n
    obtain ⟨hcells, hkept⟩ := ih hdropLinks hdropHush
    exact ⟨hcells.trans hdropCells, hkept⟩

/-- The command DOZE ends (R459). -/
def dozeEnded (s : State) (r : Nat) : State := pwmEvent (pwmResult s r) F.PWM_EVENT_DOZE_ABANDONED

theorem dozeAbandon_eq (s : State) (r : Nat) : dozeAbandon s r = (List.range 8).foldl requestDropped (dozeEnded s r) := rfl

theorem links_dozeEnded (s : State) (r : Nat) : (dozeEnded s r).links = s.links := setEv_links _ _ _

theorem getF_dozeEnded {g : Fld} (s : State) (r : Nat) (hevent : g.key ≠ F.PWM_EVENT_DOZE_ABANDONED.key) (hpend : g.key ≠ (F.EVG_PEND_PEND 0).key) :
    getF (dozeEnded s r) g = getF (pwmResult s r) g := getF_setEv_ne _ 7 hevent hpend

theorem dozeEnded_facts {r : Nat} (s : State) (hr : r < 16) :
    getF (dozeEnded s r) F.PWM_CMD_STATUS_RESULT = r ∧ bitF (dozeEnded s r) F.PWM_CMD_STATUS_BUSY = false ∧
      bitF (dozeEnded s r) F.PWM_EVENT_DOZE_ABANDONED = true := by
  refine ⟨?_, ?_, bitF_setEv _ 7 rfl (by decide)⟩
  · rw [getF_dozeEnded _ _ (by decide) (by decide), pwmResult, getF_setF_ne _ _ (by decide), getF_setF_same]
    exact Nat.mod_eq_of_lt hr
  · rw [bitF_congr (getF_dozeEnded _ _ (by decide) (by decide)), pwmResult, bitF_setF_zero]

/-- R459: where the device entered Doze, that is abandoned. -/
theorem hushRequestTimeout_doze_runs (s : State) (f : Fin 8) (hwf : s.wf = true) (hactive : cfpState s f = cfpActive) (hhush : (linkOf s f).hush = 1)
    (hdoze : (linkOf s f).doze = true) (hdozing : dozing s = true) :
    Runs (.hushRequestTimeout f) s fun t =>
      (linkOf t f).hush = 0 ∧ getF t F.PWM_CMD_STATUS_RESULT = 4 ∧ bitF t F.PWM_CMD_STATUS_BUSY = false ∧ bitF t F.PWM_EVENT_DOZE_ABANDONED = true := by
  have hexec : exec (.hushRequestTimeout f) s = .next ((List.range 8).foldl requestDropped (dozeEnded (hushDrop s f) 4)) := by
    change execHushRequestTimeout f s = _
    have hdropped : dozing (hushDrop s f) = true := hdozing
    simp [execHushRequestTimeout, hactive, hhush, hdoze, hdropped, dozeAbandon_eq]
  have hlinks := mwf_links_of_wf hwf
  obtain ⟨hdropLinks, hdrop, -⟩ := hushDrop_facts hlinks f
  obtain ⟨hresult, hbusy, hevent⟩ := dozeEnded_facts (hushDrop s f) (show 4 < 16 by decide)
  obtain ⟨hcells, hkept⟩ := requestsDropped_facts (s := dozeEnded (hushDrop s f) 4) (f := f) (List.range 8) (by rw [links_dozeEnded, hdropLinks])
    (by rw [linkOf_congr (links_dozeEnded _ _), hdrop])
  exact ⟨_, hexec, hkept, (getF_congr hcells _).trans hresult, (bitF_congr (getF_congr hcells _)).trans hbusy,
    (bitF_congr (getF_congr hcells _)).trans hevent⟩

/-! ### A Hush exit begins (R314) -/

/-- The port beside its registers in step 3 of an exit. -/
def exitBegun (l : Link) : Link := { l with exiting := true, step := 3, count := 255, lineUp := false, rxLanes := [] }

/-- The initiator's clock pair carries no clock yet, so that its WAKE goes on the sideband (R360). -/
theorem hushExit_eq (hhush : cfpState s f = cfpHush) (hexiting : (linkOf s f).exiting = false) :
    hushExit s f true = modLink (setF (emit s (.sideband f (sbBytes 2 0 0 []))) (F.CFP_STATUS_ALIGNED f) 0) f exitBegun := by
  have hband : inBand s f = false := by simp [inBand, hhush, hexiting, cfpHush, cfpActive, cfpRetraining, cfpTraining]
  simp only [hushExit, hhush, hexiting, sbSend, hband]
  rfl

theorem state_key_ne_aligned : ∀ f : Fin 8, (F.CFP_STATUS_STATE f).key ≠ (F.CFP_STATUS_ALIGNED f).key := by decide +kernel

/-- R314: traffic, or the device's exit from Doze, begins an exit. -/
theorem hushExit_runs (s : State) (f : Fin 8) (hwf : s.wf = true) (hcause : linkHasWork s f = true ∨ s.ctl.waking = true)
    (hhush : cfpState s f = cfpHush) (hexiting : (linkOf s f).exiting = false) :
    Runs (.hushExit f) s fun t =>
      (linkOf t f).exiting = true ∧ (linkOf t f).rxLanes = [] ∧ bitF t (F.CFP_STATUS_ALIGNED f) = false ∧ cfpState t f = cfpHush ∧
      t.out = .sideband f (sbBytes 2 0 0 []) :: s.out := by
  have hexec : exec (.hushExit f) s = .next (hushExit s f true) := by
    change execHushExit f s = _
    simp [execHushExit, hcause]
  rw [hushExit_eq hhush hexiting] at hexec
  generalize Emit.sideband f (sbBytes 2 0 0 []) = wake at hexec ⊢
  have hlinks : mwf (setF (emit s wake) (F.CFP_STATUS_ALIGNED f) 0).links = true := mwf_links_of_wf (s := s) hwf
  have hlink := linkOf_modLink_same hlinks f exitBegun
  exact ⟨_, hexec, congrArg Link.exiting hlink, congrArg Link.rxLanes hlink, bitF_setF_zero _,
    (getF_setF_ne (emit s wake) 0 (state_key_ne_aligned f)).trans hhush, rfl⟩

/-- R311: an exit that passes its bound trains anew at the retained rate. -/
theorem hushExitStepTimeout_runs (s : State) (f : Fin 8) (hwf : s.wf = true) (hhush : cfpState s f = cfpHush) (hexiting : (linkOf s f).exiting = true) :
    Runs (.hushExitStepTimeout f) s fun t =>
      cfpState t f = cfpTraining ∧ (linkOf t f).step = 1 ∧ getF t (F.CFP_STATUS_RATE f) = getF s (F.CFP_STATUS_RATE f) % 4 ∧ t.out = s.out := by
  have hexec : exec (.hushExitStepTimeout f) s = .next (trainFrom s f (getF s (F.CFP_STATUS_RATE f))) := by
    change execHushExitStepTimeout f s = _
    simp [execHushExitStepTimeout, hhush, hexiting]
  exact ⟨_, hexec, trainFrom_facts (mwf_links_of_wf hwf) _⟩

/-! ### Hush is entered (R313) -/

/-- What a port has to send rests on its queues, its link layer and the allotments alone. -/
theorem linkHasWork_congr (hpga : t.pga = s.pga) (hclasses : (linkOf t f).classes = (linkOf s f).classes) (hwait : (linkOf t f).waitRx = (linkOf s f).waitRx)
    (hresend : (linkOf t f).resend = (linkOf s f).resend) (hack : (linkOf t f).ackDue = (linkOf s f).ackDue) (hnak : (linkOf t f).nak = (linkOf s f).nak)
    (hallot : ∀ c, getF t (F.CFK_CREDIT_ALLOT_RX f c) = getF s (F.CFK_CREDIT_ALLOT_RX f c)) : linkHasWork t f = linkHasWork s f := by
  have hclass (c : Nat) : (linkOf t f).cls c = (linkOf s f).cls c := by rw [Link.cls, Link.cls, hclasses]
  have hfrom : heldFrom t f = heldFrom s f := by rw [heldFrom, heldFrom, hpga, hwait]
  have hheld (c : Nat) : heldFlits t f c = heldFlits s f c := by rw [heldFlits, heldFlits, hfrom, hclass]
  simp only [linkHasWork, classHasSlots, creditClasses, rxFreed, inboxOf, hheld, hclass, hpga, hresend, hack, hnak, hallot]

/-- An exit that begins leaves what the port has to send. -/
theorem linkHasWork_exitBegun (hlinks : mwf s.links = true) (e : Emit) :
    linkHasWork (modLink (setF (emit s e) (F.CFP_STATUS_ALIGNED f) 0) f exitBegun) f = linkHasWork s f := by
  have hlink := linkOf_modLink_same (s := setF (emit s e) (F.CFP_STATUS_ALIGNED f) 0) hlinks f exitBegun
  refine linkHasWork_congr rfl ?_ ?_ ?_ ?_ ?_ fun c => ?_
  iterate 5 (rw [hlink]; rfl)
  exact getF_setF_ne (emit s e) 0 (phy_key_ne (phy_status (by decide)) (elsewhere_credit c (by decide))).symm

/-- The port in Hush, before traffic that has come meanwhile begins an exit. -/
def hushEntered (s : State) (f : Fin 8) : State :=
  modLink (setF (setF (setF (cfpEvent (cfpEnter s f cfpHush) f F.CFP_EVENT_HUSH) (F.CFP_STATUS_CLK_RX f) 0) (F.CFP_STATUS_RX_DRIFT f) 0)
    (F.CFP_STATUS_TX_DRIFT f) 0) f fun l => { l with hush := 0, doze := false, pctlLeft := 0, driftSeen := false }

theorem hushEnter_eq (s : State) (f : Fin 8) : hushEnter s f =
    if linkHasWork (hushEntered (ctlFrames s f 3 4) f) f then hushExit (hushEntered (ctlFrames s f 3 4) f) f true
    else hushEntered (ctlFrames s f 3 4) f := rfl

theorem hushed_key_ne_lanes : ∀ f : Fin 8, ∀ x ∈ laneFields f, (F.CFP_EVENT_HUSH f).key ≠ x.key := by decide +kernel

theorem state_key_ne_hushed : ∀ f : Fin 8, (F.CFP_STATUS_STATE f).key ≠ (F.CFP_EVENT_HUSH f).key := by decide +kernel

theorem clock_key_ne_drift : ∀ f : Fin 8, ∀ x ∈ [F.CFP_STATUS_RX_DRIFT f, F.CFP_STATUS_TX_DRIFT f], (F.CFP_STATUS_CLK_RX f).key ≠ x.key := by
  decide +kernel

theorem phy_hushed : Phy f (F.CFP_EVENT_HUSH f) := phy_event (by decide)

theorem fieldsBut_hushEntered (s : State) : FieldsBut (cfpEvent (cfpEnter s f cfpHush) f F.CFP_EVENT_HUSH) (hushEntered s f) (laneFields f) :=
  fieldsBut_setF _ (by simp [laneFields]) (fieldsBut_setF _ (by simp [laneFields]) (fieldsBut_setF _ (by simp [laneFields]) (fieldsBut_refl _ _)))

theorem hushEntered_facts (hlinks : mwf s.links = true) :
    cfpState (hushEntered s f) f = cfpHush ∧ bitF (hushEntered s f) (F.CFP_EVENT_HUSH f) = true ∧
      bitF (hushEntered s f) (F.CFP_STATUS_CLK_RX f) = false ∧ (linkOf (hushEntered s f) f).hush = 0 ∧ (hushEntered s f).out = s.out ∧
      mwf (hushEntered s f).links = true := by
  have hsame : (setF (setF (setF (cfpEvent (cfpEnter s f cfpHush) f F.CFP_EVENT_HUSH) (F.CFP_STATUS_CLK_RX f) 0) (F.CFP_STATUS_RX_DRIFT f) 0)
      (F.CFP_STATUS_TX_DRIFT f) 0).links = s.links := by
    rw [setF_links, setF_links, setF_links, links_cfpEvent, links_cfpEnter]
  rw [← hsame] at hlinks
  refine ⟨?_, ?_, ?_, ?_, ?_, mwf_modLink hlinks f _⟩
  · rw [cfpState, fieldsBut_hushEntered s _ (state_key_ne_lanes f), getF_cfpEvent _ _ phy_state (state_key_ne_hushed f)]
    exact cfpState_cfpEnter s cfpHush
  · rw [bitF_congr (fieldsBut_hushEntered s _ (hushed_key_ne_lanes f))]
    exact bitF_cfpEvent _ _ rfl phy_hushed
  · rw [hushEntered, bitF_modLink, bitF_setF_ne _ _ (clock_key_ne_drift f _ (by simp)), bitF_setF_ne _ _ (clock_key_ne_drift f _ (by simp)), bitF_setF_zero]
  · rw [hushEntered, linkOf_modLink_same hlinks]
  · rw [hushEntered, modLink_out, setF_out, setF_out, setF_out, out_cfpEvent, out_cfpEnter]

theorem aligned_key_ne : ∀ f : Fin 8, ∀ x ∈ [F.CFP_EVENT_HUSH f, F.CFP_STATUS_CLK_RX f], x.key ≠ (F.CFP_STATUS_ALIGNED f).key := by decide +kernel

/-- Four frames are four pairs of flits. -/
theorem four_frames {k : Nat} {xs : List (Nat × List Byte × List Byte)} (h : xs.map Prod.fst = List.replicate 4 k) :
    ∃ a b c d e g m n, xs = [(k, a, b), (k, c, d), (k, e, g), (k, m, n)] := by
  have hlen : xs.length = 4 := by simpa using congrArg List.length h
  obtain ⟨⟨k₁, a, b⟩, ⟨k₂, c, d⟩, ⟨k₃, e, g⟩, ⟨k₄, m, n⟩, rfl⟩ := List.length_eq_four.1 hlen
  obtain ⟨rfl, rfl, rfl, rfl⟩ : k₁ = k ∧ k₂ = k ∧ k₃ = k ∧ k₄ = k := by simpa [List.replicate] using h
  exact ⟨a, b, c, d, e, g, m, n, rfl⟩

/-- R313: once Hush is agreed the port sends four more frames of HUSH_ACK and stops its clock; traffic begins an exit at once. -/
theorem hushEnter_runs (s : State) (f : Fin 8) (hwf : s.wf = true) (hactive : cfpState s f = cfpActive) (hagreed : (linkOf s f).hush = 2) :
    Runs (.hushEnter f) s fun t =>
      cfpState t f = cfpHush ∧ bitF t (F.CFP_EVENT_HUSH f) = true ∧ bitF t (F.CFP_STATUS_CLK_RX f) = false ∧ (linkOf t f).hush = 0 ∧
      (linkHasWork t f = false →
        ∃ l a b c d e g h i, t.out = l ++ s.out ∧ l.filterMap (frameIn f) = [(3, a, b), (3, c, d), (3, e, g), (3, h, i)]) := by
  have hexec : exec (.hushEnter f) s = .next (hushEnter s f) := by
    change execHushEnter f s = _
    simp [execHushEnter, hactive, hagreed]
  obtain ⟨xs, hsends, hcodes⟩ := (Sends.refl (f := f) (mwf_links_of_wf hwf)).ctlFrames 3 4
  obtain ⟨hstate, hevent, hclock, hhush, hout, hlinks⟩ := hushEntered_facts (f := f) hsends.links
  obtain ⟨l, hl, hframes⟩ := hsends.out
  obtain ⟨a, b, c, d, e, g, m, n, rfl⟩ := four_frames hcodes
  rw [hushEnter_eq] at hexec
  generalize hushEntered (ctlFrames s f 3 4) f = u at hexec hstate hevent hclock hhush hout hlinks
  cases hwork : linkHasWork u f with
  | false =>
    rw [hwork, if_neg (by decide)] at hexec
    exact ⟨u, hexec, hstate, hevent, hclock, hhush, fun _ => ⟨l, a, b, c, d, e, g, m, n, hout.trans hl, by simpa using hframes⟩⟩
  | true =>
    rw [hwork, if_pos rfl] at hexec
    cases hexiting : (linkOf u f).exiting with
    | true =>
      have hsame : hushExit u f true = u := by simp [hushExit, hexiting]
      rw [hsame] at hexec
      exact ⟨u, hexec, hstate, hevent, hclock, hhush, fun hidle => absurd (hidle.symm.trans hwork) (by decide)⟩
    | false =>
      rw [hushExit_eq hstate hexiting] at hexec
      generalize Emit.sideband f (sbBytes 2 0 0 []) = wake at hexec
      have hlink := linkOf_modLink_same (s := setF (emit u wake) (F.CFP_STATUS_ALIGNED f) 0) hlinks f exitBegun
      refine ⟨_, hexec, (getF_setF_ne (emit u wake) 0 (state_key_ne_aligned f)).trans hstate,
        (bitF_setF_ne (emit u wake) 0 (aligned_key_ne f _ (by simp))).trans hevent,
        (bitF_setF_ne (emit u wake) 0 (aligned_key_ne f _ (by simp))).trans hclock, (congrArg Link.hush hlink).trans hhush, fun hidle => ?_⟩
      rw [linkHasWork_exitBegun hlinks, hwork] at hidle
      cases hidle

/-! ### The steps of an exit (R314) -/

theorem codesSet_only (s : State) (f : Fin 8) (x : TrainFound) : OnlyCells s (codesSet s f x) :=
  List.foldlRecOn (motive := fun v => OnlyCells s v) _ _ rfl fun v hv i _ => by
    unfold OnlyCells at *
    conv_lhs => rw [hv]
    rfl

theorem state_key_ne_codes : ∀ f i : Fin 8, (F.CFP_STATUS_STATE f).key ≠ (F.CFP_LANE_PI_CODE f i).key := by decide +kernel

theorem cfpState_codesSet (s : State) (f : Fin 8) (x : TrainFound) : cfpState (codesSet s f x) f = cfpState s f :=
  List.foldlRecOn (motive := fun v => cfpState v f = cfpState s f) _ _ rfl fun v hv i hi =>
    (getF_setF_ne v _ (state_key_ne_codes f ⟨i, List.mem_range.1 hi⟩)).trans hv

theorem state_key_ne_clock : ∀ f : Fin 8, (F.CFP_STATUS_STATE f).key ≠ (F.CFP_STATUS_CLK_RX f).key := by decide +kernel

/-- R314: step 3 of an exit leads to step 4, and step 4, with the clock there, to step 5. -/
theorem hushStep_runs (s : State) (f : Fin 8) (x : TrainFound) (hwf : s.wf = true) (hhush : cfpState s f = cfpHush)
    (hexiting : (linkOf s f).exiting = true) :
    Runs (.trainingStepComplete f x) s fun t =>
      ((linkOf s f).step = 3 → linkOf t f = { linkOf s f with step := 4 }) ∧
      ((linkOf s f).step = 4 → linkOf t f = { linkOf s f with step := 5, count := 31 } ∧ bitF t (F.CFP_STATUS_CLK_RX f) = true) ∧
      cfpState t f = cfpHush ∧ t = { s with cells := t.cells, links := t.links } := by
  have hexec : exec (.trainingStepComplete f x) s = .next (hushStep s f x) := by
    change Host.Outcome.next (stepDone s f x) = _
    simp [stepDone, hhush, hexiting]
  have hlinks := mwf_links_of_wf hwf
  unfold hushStep at hexec
  dsimp only at hexec
  split_ifs at hexec with hthree hfour
  · have hstep : (linkOf s f).step = 3 := by simpa using hthree
    exact ⟨_, hexec, fun _ => linkOf_setLink_same hlinks f _, fun h => by omega, hhush, rfl⟩
  · have hstep : (linkOf s f).step = 4 := by simpa using hfour
    have hcodes := codesSet_only s f x
    have hcodesState := cfpState_codesSet s f x
    generalize codesSet s f x = u at hexec hcodes hcodesState
    have hulinks : mwf (setF u (F.CFP_STATUS_CLK_RX f) 1).links = true := by rw [setF_links, hcodes]; exact hlinks
    refine ⟨_, hexec, fun h => by omega, fun _ => ⟨linkOf_setLink_same hulinks f _, bitF_setF_one u rfl⟩, ?_, ?_⟩
    · exact (getF_setF_ne u 1 (state_key_ne_clock f)).trans (hcodesState.trans hhush)
    · exact ((onlyPort_of_cells hcodes).trans (onlyPort_of_cells (setF_only u _ _))).trans (onlyPort_setLink _ _ _)
  · have hnone : (linkOf s f).step ≠ 3 ∧ (linkOf s f).step ≠ 4 := by simpa using And.intro hthree hfour
    exact ⟨s, hexec, fun h => absurd h hnone.1, fun h => absurd h hnone.2, hhush, rfl⟩

/-! ### What changes nothing (R311) -/

/-- Outside Active nothing of Drift, and no request for Hush, is taken. -/
theorem inactive_leaves (h : cfpState s f ≠ cfpActive) :
    Leaves (.driftEnter f) s ∧ Leaves (.driftExit f) s ∧ Leaves (.driftRefresh f) s ∧ Leaves (.receiveDriftEnter f) s ∧
      Leaves (.receiveDriftExit f) s ∧ Leaves (.hushRequest f) s ∧ Leaves (.hushRequestTimeout f) s ∧ Leaves (.hushEnter f) s := by
  have hstate : (cfpState s f == cfpActive) = false := by simpa using h
  refine ⟨?_, ?_, ?_, ?_, ?_, ?_, ?_, ?_⟩
  · change execDriftEnter f s = _
    simp [execDriftEnter, hstate]
  · change execDriftExit f s = _
    simp [execDriftExit, hstate]
  · change execDriftRefresh f s = _
    simp [execDriftRefresh, hstate]
  · change execReceiveDriftEnter f s = _
    simp [execReceiveDriftEnter, hstate]
  · change execReceiveDriftExit f s = _
    simp [execReceiveDriftExit, hstate]
  · change execHushRequest f s = _
    simp [execHushRequest, hstate]
  · change execHushRequestTimeout f s = _
    simp [execHushRequestTimeout, hstate]
  · change execHushEnter f s = _
    simp [execHushEnter, hstate]

theorem busy_leaves (h : linkHasWork s f = true) : Leaves (.driftEnter f) s ∧ Leaves (.hushRequest f) s := by
  constructor
  · change execDriftEnter f s = _
    simp [execDriftEnter, h]
  · change execHushRequest f s = _
    simp [execHushRequest, linkQuiet, h]

theorem noDrift_leaves (h : bitF s (F.CFP_STATUS_TX_DRIFT f) = false) : Leaves (.driftExit f) s ∧ Leaves (.driftRefresh f) s := by
  constructor
  · change execDriftExit f s = _
    simp [execDriftExit, h]
  · change execDriftRefresh f s = _
    simp [execDriftRefresh, h]

theorem notAgreed_leaves (h : (linkOf s f).hush ≠ 2) : Leaves (.hushEnter f) s := by
  change execHushEnter f s = _
  simp [execHushEnter, h]

theorem notAsked_leaves (h : (linkOf s f).hush ≠ 1) : Leaves (.hushRequestTimeout f) s := by
  change execHushRequestTimeout f s = _
  simp [execHushRequestTimeout, h]

theorem noHush_leaves (h : cfpState s f ≠ cfpHush) : Leaves (.hushExit f) s ∧ Leaves (.hushExitStepTimeout f) s := by
  constructor
  · change execHushExit f s = _
    simp [execHushExit, hushExit, h]
  · change execHushExitStepTimeout f s = _
    simp [execHushExitStepTimeout, h]

/-- Settles O43: each clause is the rule of its command above. -/
theorem calfosDriftAndHush : Obligations.CalfosDriftAndHush :=
  ⟨driftEnter_runs, driftFrame_runs, driftExit_runs, driftRefresh_runs, receiveDriftEnter_runs, receiveDriftExit_runs, hushRequest_runs,
    hushRequestTimeout_runs, hushRequestTimeout_doze_runs, hushEnter_runs, hushExit_runs, hushExitStepTimeout_runs, hushStep_runs,
    fun _ _ => ⟨inactive_leaves, busy_leaves, noDrift_leaves, notAgreed_leaves, notAsked_leaves, noHush_leaves⟩⟩

end Sys2Proof.Proofs.CalfosDriftAndHush
end

section
/-!
CLAIM. Frames and losses of a Calfos link (R329, R335): the obligation, whose clause on a frame admits a replay buffer with a flit that has not fifteen slots.
-/
namespace Sys2Proof.Proofs.CalfosFrames
open Sys2Proof.Machine

/-! ### The length of a flit (R327) -/

@[simp] theorem length_leBytes (n v : Nat) : (leBytes n v).length = n := by
  induction n generalizing v with
  | zero => rfl
  | succ n ih => simp [leBytes, ih]

/-- A flit is a header word, its slots and a CRC (R327). -/
theorem length_flitBytes (h : Nat) (body : List Nat) : (flitBytes h body).length = 16 + 16 * body.length := by
  have hslots : (body.flatMap (leBytes 16)).length = 16 * body.length := by
    induction body with
    | nil => rfl
    | cons x xs ih => simp [ih, Nat.mul_succ, Nat.add_comm]
  simp only [flitBytes, List.length_append, length_leBytes, hslots]
  omega

/-! ### The counterexample -/

/-- Port 0 is Active and Up, and has to resend flit 0, which the replay buffer holds without slots. -/
def emptyFlitToResend : State :=
  { setF (setF {} (F.CFP_STATUS_STATE 0) cfpActive) (F.CFK_STATUS_LINK 0) 2 with
    links := [(0, { next := 1, replay := [{ seq := 0, cls := 0, body := [] }], resend := [0] })] }

/-- What the port sends first is the flit of the replay, as it stands in the buffer (R335). -/
theorem flitNext_emptyFlit : ∃ h, (flitNext emptyFlitToResend 0 true).2 = flitBytes h [] := ⟨_, rfl⟩

/-- Its frame begins with that flit. -/
theorem frame_emptyFlit : ∃ c b ls l, (frameSend emptyFlitToResend 0).out =
    .calfosFrame 0 c (flitNext emptyFlitToResend 0 true).2 b ls :: l := ⟨_, _, _, _, rfl⟩

/-- Refutes O44: its clause on a frame says that both flits pass R329, for every state with `State.wf`; but neither it nor `wf` says that a flit of the
replay buffer has fifteen slots, as each that DATA flits have put there has. A flit without slots is resent with 16 bytes in place of 256. -/
theorem not_calfosFramesAndLosses : ¬ Obligations.CalfosFramesAndLosses := by
  intro h
  obtain ⟨hsend, -⟩ := h
  obtain ⟨t, hexec, ⟨c, a, b, ls, l, -, hout, hflit, -⟩, -⟩ := hsend emptyFlitToResend 0 (by decide +kernel) (by decide +kernel) (by decide +kernel)
  obtain rfl : frameSend emptyFlitToResend 0 = t := Host.Outcome.next.inj hexec
  obtain ⟨word, hword⟩ := flitNext_emptyFlit
  obtain ⟨_, _, _, _, hframe⟩ := frame_emptyFlit
  obtain ⟨hframes, -⟩ := List.cons.inj (hout.symm.trans hframe)
  obtain ⟨-, -, ha, -, -⟩ := Emit.calfosFrame.inj hframes
  have hlen : (flitBytes word []).length = 256 := by
    rw [ha, hword] at hflit
    simpa using (Bool.and_eq_true_iff.1 hflit).1
  rw [length_flitBytes] at hlen
  exact absurd hlen (by decide)

end Sys2Proof.Proofs.CalfosFrames
end
